-- ==== Sys2Proof/Types.lean ====
section
/-! DEFINITION. The data that commands, messages and outputs carry: requesters, host command descriptors, completions,
event records, Pelfer frames and the messages between devices. -/

namespace Sys2Proof

/-- Who makes a register access (R24, R109): local PCIe function 0, the management agent for a source FID,
SMBus, the Yalcel function, or a Hewer. -/
inductive Req where
  | host | mgmt (fid : Nat) | smbus | yalcel | hewer (n : Nat)
deriving DecidableEq, Repr

/-- A command as the device takes it from a command ring: bytes 0x01 to 0x3F of its descriptor (Table 4-3), little-endian; the row
gives byte 0x00, the OPCODE. -/
structure HostCmd where
  ring : Nat
  desc : BitVec 504
deriving DecidableEq, Repr

/-- FLAGS, byte 0x01. -/
def HostCmd.flags (c : HostCmd) : BitVec 8 := c.desc.extractLsb' 0 8

/-- TAG, bytes 0x02 and 0x03. -/
def HostCmd.tag (c : HostCmd) : BitVec 16 := c.desc.extractLsb' 8 16

/-- TARGET, byte 0x04. -/
def HostCmd.target (c : HostCmd) : BitVec 8 := c.desc.extractLsb' 24 8

/-- The reserved bytes 0x05 to 0x07. -/
def HostCmd.rsvd (c : HostCmd) : BitVec 24 := c.desc.extractLsb' 32 24

/-- OPERANDS, bytes 0x08 to 0x3F. -/
def HostCmd.ops (c : HostCmd) : BitVec 448 := c.desc.extractLsb' 56 448

/-- A completion (Table 4-4) without its place: PHASE and index come when it is written. `pair` is the completion ring GLB_RCFG.PAIR
named as the command was taken. -/
structure Cpl where
  pair : Nat
  opcode : Nat
  code : Nat
  tag : BitVec 16
  cmdRing : Nat
  cmdIdx : Nat
  result : BitVec 448
deriving DecidableEq, Repr

/-- An event record (Table 4-9) without its place. `data` is DATA, its 12 bytes. -/
structure EvRec where
  evnum : Nat
  masked : Bool
  remote : Bool
  src : Nat
  sec : Nat
  ns : Nat
  data : List (BitVec 8)
deriving DecidableEq, Repr

/-- A host's rank (R102): PRIO and UID of its host bridge. -/
structure Rank where
  prio : Nat
  uid : Nat
deriving DecidableEq, Repr

/-- A posted data-in descriptor: its 64 bytes (Table 4-8), little-endian. -/
structure PostedBuf where
  desc : BitVec 512
deriving DecidableEq, Repr

/-- The buffer address, bytes 0x08 to 0x0F. -/
def PostedBuf.addr (b : PostedBuf) : Nat := (b.desc.extractLsb' 64 64).toNat

/-- The buffer's capacity, bytes 0x10 to 0x13. -/
def PostedBuf.cap (b : PostedBuf) : Nat := (b.desc.extractLsb' 128 32).toNat

/-- A data-out descriptor: its 64 bytes (Table 4-8), little-endian, and the bytes host memory returns for its segments, in order. -/
structure DataOut where
  desc : BitVec 512
  bytes : List (BitVec 8)
deriving DecidableEq, Repr

/-- OPCODE, byte 0x00. -/
def DataOut.opcode (d : DataOut) : Nat := (d.desc.extractLsb' 0 8).toNat

/-- NSEG, byte 0x01. -/
def DataOut.nseg (d : DataOut) : Nat := (d.desc.extractLsb' 8 8).toNat

/-- LEN, bytes 0x04 and 0x05. -/
def DataOut.len (d : DataOut) : Nat := (d.desc.extractLsb' 32 16).toNat

/-- SEG[i]: an 8-byte address and a 4-byte length, from byte 0x08 on. -/
def DataOut.seg (d : DataOut) (i : Nat) : Nat × Nat :=
  ((d.desc.extractLsb' (64 + 96 * i) 64).toNat, (d.desc.extractLsb' (128 + 96 * i) 32).toNat)

/-- The segments NSEG counts. -/
def DataOut.segs (d : DataOut) : List (Nat × Nat) := (List.range d.nseg).map d.seg

/-- Whether the reserved bytes 0x06, 0x07 and 0x38 to 0x3F are 0. -/
def DataOut.clean (d : DataOut) : Bool := d.desc.extractLsb' 48 16 == 0 && d.desc.extractLsb' 448 64 == 0

/-- A Pelfer frame: the header fields of Table 6-1 but HCRC, and the payload. `flags` is the FLAGS byte (Table 6-2). -/
structure Frame where
  dst : Nat
  src : Nat
  tid : Nat
  cls : Nat
  kind : Nat
  len : Nat
  hseq : Nat
  eseq : Nat
  ttl : Nat
  flags : Nat
  rsvd : Nat
  payload : List (BitVec 8)
deriving DecidableEq, Repr

/-- A frame as it stands on a link: its fields, its header with HCRC, the bytes after the header (payload and trailer, or
their ciphertext), and the GCM tag on an encrypted link. -/
structure Wire where
  f : Frame
  hdr : BitVec 128
  body : List (BitVec 8)
  tag : Option (BitVec 128)
deriving DecidableEq, Repr

/-- A LINK control word (Table 6-5a): its type and its argument bytes 2 to 6. -/
structure LinkWord where
  kind : Nat
  arg : BitVec 40
deriving DecidableEq, Repr

/-- A 66-bit block without its sync header's coding (R118): control or data, and its 8 payload bytes, byte 0 in the lowest bits. -/
structure Block where
  ctl : Bool
  pay : BitVec 64
deriving DecidableEq, Repr

/-- What the headers of a training frame carry (R124): logical lane, ONE (R506), requests for the far taps and status of the own ones, READY. A
request is 0 hold, 1 increment, 2 decrement; a status 0 not updated, 1 updated, 2 at limit. -/
structure TrainHdr where
  lane : Nat
  one : Bool
  reqPre : Nat
  reqPost : Nat
  stPre : Nat
  stPost : Nat
  ready : Bool
deriving DecidableEq, Repr

/-- One port of a RECORD (Table 14-2): peer UID and port, UP, RATE and TX lanes, ENC. -/
structure RecPort where
  peer : Nat
  pport : Nat
  up : Bool
  rate : Nat
  lanes : Nat
  enc : Bool
deriving DecidableEq, Repr

/-- A RECORD (Table 14-2). `chg` is CHG in nanoseconds of fabric time. -/
structure Rec where
  uid : Nat
  fid : Nat
  src : Nat
  role : Nat
  quar : Bool
  qcause : Nat
  seq : Nat
  chg : Nat
  rstCnt : Nat
  ports : List RecPort
deriving DecidableEq, Repr

/-- A NEIGHBOUR message (Table 14-1). -/
structure Neigh where
  uid : Nat
  fid : Nat
  src : Nat
  role : Nat
  port : Nat
  rstCnt : Nat
deriving DecidableEq, Repr

/-- An ASSIGN message (Table 14-1). -/
structure Assign where
  uid : Nat
  fid : Nat
  owner : Nat
  gen : Nat
  try_ : Nat
  bound : Bool
deriving DecidableEq, Repr

/-- What INSTALL and a TID map entry carry of a tunnel: the operands of TUN_OPEN as applied (Tables 7-3, 7-5). -/
structure TunPar where
  tid : Nat
  typ : Nat
  cls : Nat
  enc : Bool
  men : Bool
  policy : Nat
  fport : Nat
  aFid : Nat
  bFid : Nat
  epA : Nat
  epB : Nat
  meter : Nat
  shaper : Nat
  bundle : Nat
  grant : Nat
  dOut : Nat
  dIn : Nat
  cookie : Nat
  own : Nat
deriving DecidableEq, Repr

/-- An end's sequences (R177). -/
structure Seqs where
  tx : Nat
  ack : Nat
  rx : Nat
deriving DecidableEq, Repr

/-- What a device of a path set answers to the messages of a tunnel command (R191 to R194), for one TID: INSTALL (0 OK, 1 no
context, 2 endpoint absent, 3 no answer), its context indices, whether ACTIVATE and REMOVE were answered, copies discarded,
at the staying end of a retarget TXESEQ and RXESEQ, and of a host bridge whether the data rings named there read TYPE 4 and 5 (R190). -/
structure DevAns where
  fid : Nat
  tid : Nat
  inst : Nat
  idxA : Nat
  idxB : Nat
  act : Bool
  rem : Bool
  copies : Nat
  tx : Nat
  rx : Nat
  rings : Bool
deriving DecidableEq, Repr

/-- A TID map entry of a TIDMAP message (R508): held with its operands, or free. -/
structure MapEntry where
  tid : Nat
  held : Option TunPar
deriving DecidableEq, Repr

/-- A binding of a BIND message (R508, R369). -/
structure Binding where
  uid : Nat
  fid : Nat
  unbind : Bool
deriving DecidableEq, Repr

/-- A map message (R508): SEQ, FULL, LAST and its entries. -/
structure MapMsg where
  seq : Nat
  full : Bool
  last : Bool
  tids : List MapEntry
  binds : List Binding
deriving DecidableEq, Repr

/-- An ANNOUNCE (Table 12-1): grandmaster, its priority and class, hops from it, the sender. -/
structure Announce where
  gm : Nat
  prio : Nat
  cls : Nat
  steps : Nat
  sender : Nat
deriving DecidableEq, Repr

/-- A field of a virtual downstream port's configuration space (R230, R242): Secondary Bus Reset, Link Disable, Retrain
Link, Target Link Speed, Power Controller Control Off, bus range, memory window, prefetchable window, reporting of
non-fatal errors; and Bus Master Enable of function 4. -/
inductive CfgField where
  | sbr | linkDisable | retrainLink | targetSpeed | powerOff | buses | memWindow | prefWindow | errEnable | busMaster | slotEnables | slotStatus
deriving DecidableEq, Repr

/-- The side-band pins a summary carries (Table 9-3): true means low for WAKE, CLKREQ and the interrupts. -/
structure SidePins where
  wake : Bool
  clkreq : Bool
  hpd : Nat
  eth0 : Bool
  eth1 : Bool
  gpio : Nat
  fan : Nat
deriving DecidableEq, Repr

/-- A receive descriptor posted on a NIC queue: its 32 bytes (Table 12-4), little-endian. -/
structure NicBuf where
  desc : BitVec 256
deriving DecidableEq, Repr

/-- ADDR, bytes 0x00 to 0x07. -/
def NicBuf.addr (b : NicBuf) : Nat := (b.desc.extractLsb' 0 64).toNat

/-- CAPACITY, bytes 0x08 and 0x09. -/
def NicBuf.cap (b : NicBuf) : Nat := (b.desc.extractLsb' 64 16).toNat

/-- A transmit descriptor of a NIC queue: its 32 bytes (Table 12-4), little-endian, and the bytes host memory returns at its address. -/
structure NicTx where
  desc : BitVec 256
  bytes : List (BitVec 8)
deriving DecidableEq, Repr

/-- ADDR, bytes 0x00 to 0x07. -/
def NicTx.addr (d : NicTx) : Nat := (d.desc.extractLsb' 0 64).toNat

/-- LEN, bytes 0x08 and 0x09. -/
def NicTx.len (d : NicTx) : Nat := (d.desc.extractLsb' 64 16).toNat

/-- FLAGS.TSREQ, bit 0 of byte 0x0A. -/
def NicTx.tsreq (d : NicTx) : Bool := d.desc.getLsbD 80

/-- TSID, byte 0x0B. -/
def NicTx.tsid (d : NicTx) : Nat := (d.desc.extractLsb' 88 8).toNat

/-- The LEN bytes of the frame, without FCS. -/
def NicTx.frame (d : NicTx) : List (BitVec 8) := (List.range d.len).map fun i => d.bytes.getD i 0

/-- One pixel's three components. -/
structure Pix where
  c0 : Nat
  c1 : Nat
  c2 : Nat
deriving DecidableEq, Repr

/-- A captured band (R260, R276): lines of pixels as they arrive at the stream's bpc, or compressed slices with their
column and row. -/
inductive Band where
  | pixels (lines : List (List Pix))
  | slices (l : List (Nat × Nat × List (BitVec 8)))
deriving DecidableEq, Repr

/-- The boot flash as the boot ROM finds it: the read modes its SFDP table advertises (bit 0 1-4-4, 1 8-8-8, 2 8D-8D-8D, 3 DQS), and what it
holds, as runs of bytes from an offset; its size in bytes. -/
structure Flash where
  modes : Nat
  size : Nat
  runs : List (Nat × List (BitVec 8))
deriving DecidableEq, Repr

/-- The flash's bytes from an offset to the end of their run. -/
def Flash.from_ (f : Flash) (off : Nat) : List (BitVec 8) :=
  match f.runs.find? fun r => decide (r.1 ≤ off) && decide (off < r.1 + r.2.length) with
  | some r => r.2.drop (off - r.1)
  | none => []

/-- What the Lantern finds at its start (R57, R417): the level of DBRD_EN, and VBUS of each port as PDn_VBUS counts it. -/
structure PowerUp where
  dbrd : Bool
  vbus : List Nat
deriving DecidableEq, Repr

/-- A SYNC_M to send (R308, R140): its port, and the UIs since the clock's last move at which it leaves. -/
structure SyncOut where
  p : Nat
  ui : Nat
deriving DecidableEq, Repr

/-- A Dim-exit burst that arrives (R133): the lanes in use that locked within it, as a mask, and by device's lane the bits of its 96 blocks. -/
structure BurstIn where
  locked : Nat
  bits : List Nat
deriving DecidableEq, Repr

/-- A SYNC_M that arrives (R308, R140): its SEQ, and the UIs since the clock's last move at which it arrives and at which the answer leaves. -/
structure SyncM where
  seq : Nat
  ui : Nat
  uiTx : Nat
deriving DecidableEq, Repr

/-- A SYNC_S that arrives (R308, R140): its SEQ, and the UIs since the clock's last move. -/
structure SyncS where
  seq : Nat
  ui : Nat
deriving DecidableEq, Repr

/-- A split transaction (R394): its kind, 0 not periodic, and the endpoint it is for. -/
structure Split where
  kind : Nat
  ep : Nat
deriving DecidableEq, Repr

/-- What a port senses on VBUS (R410): its voltage and its current. -/
structure VbusSense where
  vbus : Nat
  isns : Nat
deriving DecidableEq, Repr

/-- A wake source (R434): its number, and the level its pin goes to. -/
structure WakeIn where
  j : Nat
  level : Bool
deriving DecidableEq, Repr

/-- What an input's stream is (R255, R263, R276, R277): pixel clock in kHz, size, FMT and BPC codes, DSC flag, HDCP state (0 none,
1 authenticated, 2 encrypting, 3 failed), metadata and picture parameter set. -/
structure InMode where
  video : Bool
  khz : Nat
  w : Nat
  h : Nat
  fmt : Nat
  bpc : Nat
  dsc : Bool
  hdcp : Nat
  mdata : List (BitVec 8)
  pps : List (BitVec 8)
deriving DecidableEq, Repr

/-- A push descriptor: its 64 bytes (Table 10-2), little-endian, and the surface's 32-bit pixels as host memory returns them, line by line. -/
structure PushDesc where
  desc : BitVec 512
  px : List (List (BitVec 32))
deriving DecidableEq, Repr

/-- A field of a push descriptor: `size` bytes from byte `off`. -/
def PushDesc.field (d : PushDesc) (off size : Nat) : Nat := (d.desc.extractLsb' (8 * off) (8 * size)).toNat

/-- OPCODE. -/
def PushDesc.opcode (d : PushDesc) : Nat := d.field 0x00 1

/-- FLAGS.EOF: the picture is complete after this descriptor. -/
def PushDesc.eof (d : PushDesc) : Bool := d.field 0x01 1 % 2 == 1

/-- FLAGS.FULL: every tile is sent. -/
def PushDesc.full (d : PushDesc) : Bool := d.field 0x01 1 / 2 % 2 == 1

/-- TAG, the host's value. -/
def PushDesc.tag (d : PushDesc) : Nat := d.field 0x02 2

/-- FORMAT. -/
def PushDesc.format (d : PushDesc) : Nat := d.field 0x04 1

/-- NRECT. -/
def PushDesc.nrect (d : PushDesc) : Nat := d.field 0x05 1

/-- ADDR, the surface's base in host memory. -/
def PushDesc.addr (d : PushDesc) : Nat := d.field 0x08 8

/-- PITCH, bytes per line. -/
def PushDesc.pitch (d : PushDesc) : Nat := d.field 0x10 4

/-- WIDTH. -/
def PushDesc.w (d : PushDesc) : Nat := d.field 0x14 2

/-- HEIGHT. -/
def PushDesc.h (d : PushDesc) : Nat := d.field 0x16 2

/-- Whether FLAGS[7:2] and the reserved bytes 0x18 to 0x1F are 0. -/
def PushDesc.clean (d : PushDesc) : Bool := d.field 0x01 1 / 4 == 0 && d.field 0x18 8 == 0

/-- RECT[i]: X, Y, W, H. -/
def PushDesc.rect (d : PushDesc) (i : Nat) : Nat × Nat × Nat × Nat :=
  (d.field (0x20 + 8 * i) 2, d.field (0x22 + 8 * i) 2, d.field (0x24 + 8 * i) 2, d.field (0x26 + 8 * i) 2)

/-- The rectangles NRECT counts. -/
def PushDesc.rects (d : PushDesc) : List (Nat × Nat × Nat × Nat) := (List.range d.nrect).map d.rect

/-- A monitor at an output: DPCD capability bytes, EDID, the rate code and lanes its link trains to (0 lanes: it does not
train), Panel Replay with selective update, and with HDCP 2.3 its RxInfo and receiver IDs. -/
structure Monitor where
  caps : List (BitVec 8)
  edid : List (BitVec 8)
  rate : Nat
  lanes : Nat
  su : Bool
  hdcp : Option (Nat × List Nat)
deriving DecidableEq, Repr

/-- The timing firmware sets at an output whose AUTOTIM is 1 (R293): H, HS, V, VS, PCLK. -/
structure OutTiming where
  h : BitVec 32
  hs : BitVec 32
  v : BitVec 32
  vs : BitVec 32
  pclk : BitVec 32
deriving DecidableEq, Repr

/-- Where a message of the fabric goes: one device, one device by the alternate port (R351), every host bridge, every device, or the peer of one port. -/
inductive Dest where
  | fid (n : Nat) | fidAlt (n : Nat) | allHosts | broadcast | port (p : Nat) | ports (ps : List Nat)
deriving DecidableEq, Repr

/-- A cart action as its participant gets it (Table 13-2): tunnel actions with the operands as applied, before and after, and whether
this device is on the path set after it (`on`);
FLAGS [0] DRAIN; TRIG with WHEN and PERIOD in ns of fabric time. -/
inductive ActKind where
  | sched (ports : Nat)
  | open_ (p : TunPar)
  | close (tid : Nat) (drain : Bool)
  | retarget (old new : TunPar) (endB drain on : Bool)
  | grant (tid to_ : Nat)
  | flip (mask : Nat)
  | trig (mask when_ width period : Nat)
  | power (st : Nat)
  | yield (to_ : Nat)
deriving DecidableEq, Repr

/-- An action record as the host wrote it (R343): TYPE, FID, FLAGS and the 28 parameter bytes. -/
structure CartRaw where
  typ : Nat
  fid : Nat
  flags : Nat
  prm : Nat
deriving DecidableEq, Repr

/-- A cart action with its index in the cart and the record it comes from (a leader's record makes one action for each member of its bundle).
`bad` is the SUBREASON the coordinator finds on the whole cart (cause 1), `busy`
that a tunnel command runs on its TID (cause 4). -/
structure CartAct where
  idx : Nat
  kind : ActKind
  bad : Option Nat
  busy : Bool
  raw : CartRaw := { typ := 0, fid := 0, flags := 0, prm := 0 }
deriving DecidableEq, Repr

/-- The body of a cart message (Table 13-3). -/
inductive CartBody where
  | prepare (parts : List Nat) (acts : List CartAct)
  | vote (ready : Bool) (cause actidx sub : Nat)
  | go | abort | query
  | answer (a : Nat)
  | done (out late freed : Nat)
  | doneack
  | seqs (tid : Nat) (endB : Bool) (rx tx : Nat)
deriving DecidableEq, Repr

/-- Structured VDMs (Table 16-1) and the cable's answer on SOP': requests, their ACKs, and NAK. -/
inductive Vdm where
  | discIdent | discSvids | discModes | enter | exit
  | identAck | svidsAck (pelfer : Bool) | modesAck (vdo : Nat) | enterAck | exitAck
  | cable (active epr amp5 : Bool)
  | nak
deriving DecidableEq, Repr

/-- What PD_VDM_RECEIVE brings: a structured VDM, or another message of Table 16-1 that has no row of its own: a BIST Data Object
of a mode (5 Carrier Mode, 8 Test Data), and any message the table does not support. -/
inductive PdIn where
  | vdm (v : Vdm)
  | getSourceCap | getSinkCap | getSourceCapExt | getStatus
  | bist (mode : Nat)
  | unsupported
deriving DecidableEq, Repr

/-- Source_Capabilities, or EPR_Source_Capabilities, as they come in: with the partner's revision, in tenths. -/
structure CapsIn where
  epr : Bool
  rev : Nat
deriving DecidableEq, Repr

/-- A Request's operating current in 10 mA, and the partner's revision in tenths. -/
structure PdReqIn where
  cur : Nat
  rev : Nat
deriving DecidableEq, Repr

/-- PD messages the engine sends. Swap kinds are 1 PR, 2 DR, 3 VCONN; EPR_Mode actions 1 Enter, 3 Enter Succeeded, 4 Enter
Failed, 5 Exit; currents in 10 mA, voltages in 50 mV; a Status tells of the rows of Table 16-2 that tripped, one bit each; powers in W. -/
inductive PdMsg where
  | sourceCaps (epr : Bool) (pdos : List (BitVec 32))
  | request (pos volt cur : Nat) (mismatch epr : Bool)
  | accept | reject | wait | psRdy | hardReset | getSourceCap
  | swap (kind : Nat)
  | eprMode (action : Nat)
  | alert (row : Nat)
  | status (events : Nat)
  | sourceCapsExt (vid sprPdp eprPdp : Nat)
  | sinkCaps (pdos : List (BitVec 32))
  | notSupported | bistCarrier
  | vdm (cable : Bool) (v : Vdm)
deriving DecidableEq, Repr

/-- A hub-class request (Table 15-1): port features by their USB 2.0 selectors. -/
inductive HubReq where
  | setPort (feature port sel : Nat)
  | clearPort (feature port : Nat)
  | portStatus (port : Nat)
  | hubStatus
  | descriptor
  | clearTt (port ep : Nat)
  | resetTt (port : Nat)
  | ttState | stopTt
deriving DecidableEq, Repr

/-- What reaches EP1 OUT (R398): a PING, or a packet of image data; `pages` is how many 256-byte pages of the sector being written the
flash has programmed by then. -/
structure ImgPkt where
  ping : Bool
  pages : Nat
  bytes : List (BitVec 8)
deriving DecidableEq, Repr

/-- A standard USB request to the hub (0) or Yalcel (1). -/
inductive UsbReq where
  | getStatus | setAddress (a : Nat) | setConfig (c : Nat) | getConfig | remoteWake (on : Bool) | setInterface (alt : Nat)
  | getInterface | getDescriptor (typ : Nat)
  /-- A request the device does not have, or any control transfer of that bRequest whose status stage never comes (R399). -/
  | other (b : Nat)
deriving DecidableEq, Repr

/-- The messages that pass between devices, with the fields the chapters give them. -/
inductive Msg where
  /-- Heartbeat of the owner (R104): FID, rank, GEN. -/
  | heartbeat (fid : Nat) (rank : Rank) (gen : Nat)
  /-- CLAIM (R105). -/
  | claim (fid : Nat) (rank : Rank) (gen : Nat)
  /-- YIELD (R108). -/
  | yield (tofid gen : Nat)
  /-- RELEASE (R108). -/
  | release
  /-- EVENT frame (R99). -/
  | event (r : EvRec)
  /-- Management request (R94): request number, opcode of Table 4-5, the 56 operand bytes. -/
  | mgmtReq (id op : Nat) (ops : BitVec 448)
  /-- Management response (R94): request number, completion code, the 56 result bytes. -/
  | mgmtRsp (id code : Nat) (result : BitVec 448)
  /-- INSTALL of a tunnel (R191), with TXESEQ, ACKESEQ and RXESEQ of ends that a retarget or reinstall sets (R194 step 3). -/
  | install (p : TunPar) (seqA seqB : Option Seqs)
  /-- Answer to INSTALL: 0 OK, 1 no context, 2 endpoint absent; the indices at ends A and B; copies freed. -/
  | installRsp (tid code idxA idxB copies : Nat)
  /-- ACTIVATE (R191); not `fresh`: the ends take OPEN again (R194). -/
  | activate (tid : Nat) (fresh : Bool)
  | remove (tid : Nat)
  | quiesce (tid : Nat)
  | close (tid : Nat)
  | grantSet (tid fid : Nat)
  /-- A tunnel message answered, with the copies the end discarded. -/
  | tunRsp (tid status copies : Nat)
  /-- A port control of a virtual port or of hot-plug (R242, R251): at a dock port 0 Secondary Bus Reset, 1 Link Disable,
  2 Retrain Link, 3 Target Link Speed, 4 Power Controller Off, 8 disabled by hot-plug; at a slot 9 attention, 10 removal,
  11 report of Data Link Layer Link Active. -/
  | portCtl (id port field value : Nat)
  /-- Answer to a port control: 0 done, 2 port absent. -/
  | portRsp (id status : Nat)
  | map (m : MapMsg)
  /-- Answer to a map message (R508): its TYPE and SEQ, 0 applied or 1 gap. -/
  | mapRsp (typ seq status : Nat)
  | announce (a : Announce)
  /-- FOLLOW (Table 12-1): SEQ, interval in µs, corrected t1 and t4 in 2^-16 ns. -/
  | follow (seq us : Nat) (t1 t4 : Int)
  /-- KX_HELLO (R171 step 1): random value, ephemeral public key, whether of a rekey and whether it answers one;
  certificate chain, none in a rekey. -/
  | kxHello (rand : BitVec 256) (pub : BitVec 768) (rekey answer : Bool) (chain : List (BitVec 8))
  /-- KX_FINISH (R171 step 2). -/
  | kxFinish (sig : BitVec 768)
  | neighbour (n : Neigh)
  | record (r : Rec)
  | assign (a : Assign)
  /-- A CART message (R346): coordinator, CART_ID, T in ns of fabric time. -/
  | cart (coord id t : Nat) (b : CartBody)
deriving DecidableEq, Repr

/-- An effect of a duty outside its own memories (R447): a register write, a write to host memory (a ring or a completion), a frame
sent, an event raised. -/
inductive DutyEffect where
  | reg (addr : Nat) (v : BitVec 32)
  | host (addr : Nat) (bytes : List (BitVec 8))
  | send (d : Dest) (m : Msg)
  | event (ev : Nat) (data : List (BitVec 8))
deriving DecidableEq, Repr

/-- What the bridge does on its PCIe links: a dock port's link enabled or disabled, in or out of hot reset, retrained,
given a target speed; a slot's interrupt; ERR_NONFATAL from a slot; a configuration write completed on a slot. -/
inductive PcieAct where
  | enable (port : Nat) (on : Bool)
  | hotReset (port : Nat) (on : Bool)
  | retrain (port : Nat)
  | targetSpeed (port code : Nat)
  | slotIrq (slot addr data : Nat)
  | errNonfatal (slot : Nat)
  /-- An error message of a function (0 to 4, virtual port k as 5 + k): 0 correctable, 1 non-fatal, 2 fatal. -/
  | errMsg (fn kind : Nat)
  | cfgDone (slot : Nat)
deriving DecidableEq, Repr

/-- Pins the device drives. -/
inductive Pin where
  | rstoutN | pciePerstN | thermtripN | smbAlertN | pdGate (n : Nat) | pdDisch (n : Nat) | pdVconn (n cc : Nat)
  | dpHpd (n : Nat) | ppsOut | trig (n : Nat) | wakeN | gpio (n : Nat) | spiResetN | usbPpe (n : Nat) | usbSwitch
deriving DecidableEq, Repr

/-- What the device has sent out, oldest first. -/
inductive Out where
  /-- A completion written at an index of a completion ring (R89), with its PHASE; its bytes go out as a host write. -/
  | completion (ring idx phase : Nat) (c : Cpl)
  /-- A data descriptor written back (R95): ring, index, PHASE, STATUS, LEN. -/
  | writeback (ring idx phase status len : Nat)
  /-- Bytes written to host memory. -/
  | hostWrite (addr : Nat) (bytes : List (BitVec 8))
  /-- Bytes read from host memory. -/
  | hostRead (addr len : Nat)
  /-- An event record written at an index of an event ring (R98): SEQ, PHASE, DROPPED; its bytes go out as a host write. -/
  | record (ring idx seq phase : Nat) (dropped : Bool) (r : EvRec)
  /-- An MSI-X message of a function's vector: the data written and the address. -/
  | msix (fn vec addr : Nat) (data : Word)
  /-- A message to other devices. -/
  | msg (d : Dest) (m : Msg)
  /-- A frame leaves on a port's lanes (R154). -/
  | frame (port : Nat) (w : Wire)
  /-- A LINK word leaves a port (R153). -/
  | link (port : Nat) (w : LinkWord)
  /-- Control blocks of type `kind` (Table 5-3), `n` of them on each of the logical lanes of a mask, with byte 1 and byte 2. -/
  | blocks (port kind mask b1 b2 n : Nat)
  /-- A capability frame of 64 bytes and its CRC-32 leave a port (R130). -/
  | capability (port : Nat) (bytes : List (BitVec 8))
  /-- A port's lanes (a mask of the device's lanes) start training at a rate, or go to electrical idle (rate 3). -/
  | lanes (port rate mask : Nat)
  /-- The training frame of a lane, sent over and over from now on (R124): the device's lane, what its headers carry, the bits of its 1,024
  blocks of 66 bits. -/
  | training (port phys : Nat) (h : TrainHdr) (bits : Nat)
  /-- A port enters LOCK: codewords at a rate on the logical lanes `live`, blocks striped over those of `use`. -/
  | stream (port rate use live : Nat)
  /-- From the next codeword boundary a port stripes over the logical lanes of a mask. -/
  | stripe (port mask : Nat)
  /-- A codeword on one of the device's lanes (R120). -/
  | codeword (port phys : Nat) (cw : BitVec 5440)
  /-- A Dim-exit burst on one of the device's lanes (R133): 96 blocks of 66 bits. -/
  | burst (port phys bits : Nat)
  /-- An act on a PCIe link. -/
  | pcie (a : PcieAct)
  /-- A TLP onto the upstream link (port 4) or a dock port's link. -/
  | tlp (port : Nat) (bytes : List (BitVec 8))
  /-- A pin driven to a level. -/
  | pin (p : Pin) (high : Bool)
  /-- A pin driven to a level for a time in ns. -/
  | pulse (p : Pin) (high : Bool) (ns : Nat)
  /-- A SYNC block leaves a port on a logical lane (R307, R140): MSG and SEQ. -/
  | sync (port lane msg seq : Nat)
  /-- A frame leaves a MAC, from destination address through FCS. -/
  | eth (mac : Nat) (bytes : List (BitVec 8))
  /-- A MAC asks its link partner to pause, or to go on (R326). -/
  | pause (mac : Nat) (on : Bool)
  /-- An MDIO frame (R340): Clause 45, OP, PHYAD, REG, DATA. -/
  | mdio (c45 : Bool) (op phy reg data : Nat)
  /-- The EDID an input presents to its GPU (R257). -/
  | edid (k : Nat) (bytes : List (BitVec 8))
  /-- The DPCD receiver capabilities an input presents (R257, R276, R277): rate code, lanes, the DSC decoding capabilities where it
  advertises them, HDCP 2.3. -/
  | dpcd (k rate lanes : Nat) (dsc : Option (List (BitVec 8))) (hdcp : Bool)
  /-- RepeaterAuth_Send_ReceiverID_List of an input (R277): RxInfo and the receiver IDs. -/
  | rxIds (k info : Nat) (ids : List (BitVec 8))
  /-- The picture an output has scanned out in a frame (R284, R285): bits per component, the active lines from the top, each pixel its
  three components as sent; the colorimetry and HDR SDPs (R292) go with it. -/
  | picture (out bpc : Nat) (lines : List (List (Nat × Nat × Nat))) (sdp : List (BitVec 8))
  /-- The DSC slices an output has scanned out in a frame, in raster order (R287), with the picture parameter set. -/
  | slices (out : Nat) (pps : List (BitVec 8)) (l : List (List (BitVec 8))) (sdp : List (BitVec 8))
  /-- An output's selective update (R297): the tile rows sent, and their lines as scanned out, with the SDPs of R292. -/
  | su (out : Nat) (rows : List Nat) (bpc : Nat) (lines : List (List (Nat × Nat × Nat))) (sdp : List (BitVec 8))
  /-- The content stream type an output's link encrypts under from now (R300). -/
  | streamType (out type : Nat)
  /-- A push descriptor written back (Table 10-2): stream, index, PHASE, STATUS. -/
  | pushWriteback (k idx phase status : Nat)
  /-- A NIC descriptor written back (Table 12-4): function, transmit, queue, index, PHASE, STATUS, LEN, RSS hash, stamp in
  2^-16 ns, FLAGS. -/
  | nicWriteback (fn : Nat) (tx : Bool) (q idx phase status len hash : Nat) (stamp : Int) (flags : Nat)
  /-- A data-in descriptor written back (Table 4-8): ring, index, PHASE, STATUS, LEN, ESEQ, SRC_FID, nanoseconds. -/
  | dataIn (ring idx phase status len eseq src ns : Nat)
  /-- An engine operation of firmware has finished (R477): OP, CODE, HANDLE, result bytes. -/
  | keyResult (op code handle : Nat) (bytes : List (BitVec 8))
  /-- Bytes written to the device's DRAM at an offset. -/
  | dram (off : Nat) (bytes : List (BitVec 8))
  /-- A PD message leaves a port (R407 to R415). -/
  | pd (port : Nat) (m : PdMsg)
  /-- A port's CC terminations: 0 open, 1 Rd, 2 to 4 Rp at Default, 1.5 A and 3.0 A (R406, R411, R416, R418). -/
  | cc (port term : Nat)
  /-- The hub's pull-up on USB_Cn on or off (R391). -/
  | usbPull (port : Nat) (on : Bool)
  /-- Data the hub (0) or Yalcel (1) returns, a handshake (0 ACK, 1 NAK, 2 NYET, 3 ERR), a STALL. -/
  | usbData (dev : Nat) (bytes : List (BitVec 8))
  | usbHand (dev h : Nat)
  | usbStall (dev : Nat)
  /-- The hub drives K upstream for 2 ms (R397). -/
  | usbK
  /-- A downstream port enters the test mode of that selector: 1 Test_J, 2 Test_K, 3 Test_SE0_NAK, 4 Test_Packet, 5 Test_Force_Enable
  (R389). -/
  | usbTest (port sel : Nat)
  /-- The flash (R401): a 64 KiB sector at an offset is erased; bytes are programmed at an offset, an image's sector or a directory
  copy (erased for it). -/
  | flashErase (off : Nat)
  | flash (off : Nat) (bytes : List (BitVec 8))
  /-- A user program starts at an instruction offset, its data TCM loaded from the image (R450, R454). -/
  | hewerRun (n entry : Nat)
  /-- Bytes, or an event record, written into a Hewer's memory at an address of Table 18-2. -/
  | hewerMem (n addr : Nat) (bytes : List (BitVec 8))
  | hewerRec (n addr : Nat) (r : EvRec)
  /-- The answer of a register or SMBus read. -/
  | readData (r : Req) (bytes : List Nat)
  /-- An SMBus command NACKed or a USB request STALLed. -/
  | nack (r : Req)
deriving DecidableEq, Repr

end Sys2Proof
end

