-- ==== Sys2Proof/Syntax.lean ====
section
/-! DEFINITION. The commands the device takes: one constructor per row of the table of operations and events.
The operands are the model's (log entry 4): what the command carries, and what the environment answers inside it. -/

namespace Sys2Proof

/-- The commands, in the table's order. -/
inductive Instr where
  /-- POWER_ON_RESET (R58): VDD_AON falls below its reset level and later returns, resetting the whole device including the Lantern. -/
  | powerOnReset (x : PowerUp)
  /-- PORST_N_ASSERT (R58): PORST_N is held low for at least 10 µs and causes a core reset. -/
  | porstNAssert
  /-- PORST_N_RELEASE (R65): PORST_N rises and the straps' 100 µs sampling delay starts. -/
  | porstNRelease
  /-- STRAP_SAMPLE (R65): 100 µs after the PORST_N edge the straps are sampled and latched as R66 states. -/
  | strapSample (role boot smba fids lanes : Nat)
  /-- WARMRST_N_ASSERT (R58): WARMRST_N is held low for at least 10 µs and causes a warm reset. -/
  | warmrstNAssert
  /-- SOFTWARE_CORE_RESET (R80): A GLB_RST write with KEY 0xD5 and CORE set starts a core reset. -/
  | softwareCoreReset (r : Req)
  /-- SOFTWARE_WARM_RESET (R80): A GLB_RST write with KEY 0xD5 and WARM set starts a warm reset. -/
  | softwareWarmReset (r : Req)
  /-- THERMAL_TRIP (R32): The die reaches 118 °C: THERMTRIP_N goes low, the VBUS gates open and the core is held in reset. -/
  | thermalTrip
  /-- RAIL_BELOW_RESET_LEVEL (R43): A monitored rail falls below its reset level and the listed domains are reset. -/
  | railBelowResetLevel (rail : Nat)
  /-- RAIL_VALID (R43): A monitored rail rises above its valid level and the domains it reset leave reset. -/
  | railValid (rail : Nat)
  /-- PENUMBRA_ENTRY (R438): VDD_CORE falls below the warning level and the device enters Thrift. -/
  | penumbraEntry (mv : Nat)
  /-- THRIFT_LEAVE (R44): VDD_CORE stays above the warning level plus 10 mV for 100 µs and Thrift ends. -/
  | thriftLeave (low : Nat)
  /-- BOOT_ROM_START (R69): After a core reset the boot ROM runs on HEW0, finds and checks an image and starts the Hewers. -/
  | bootRomStart (otp : List (Nat × Nat)) (dram found : Bool) (modes : Nat) (dqs : Bool) (size : Nat) (runs : List (Nat × List (BitVec 8)))
  /-- FIRMWARE_READY (R69): Firmware signals ready: STAT becomes 3, READY is set, the watchdog stops and the try record is cleared. -/
  | firmwareReady (slot : Nat)
  /-- BOOT_WATCHDOG_EXPIRY (R74): Firmware is not ready 2 s after HEW0 started, so the slot is marked failed and a core reset follows. -/
  | bootWatchdogExpiry
  /-- DOWNLOAD_LENGTH_WRITE (R75): A GLB_DLEN write while STAT is 4 starts the check of the downloaded image. -/
  | downloadLengthWrite (r : Req) (len : BitVec 32)
  /-- BOOT_PERSONALITY_TIMEOUT (R76): 900 ms pass without ready or a halt, so the boot personality is presented and LATE is set. -/
  | bootPersonalityTimeout
  /-- PCIE_PERST_ASSERT (R61): In host role PCIE_PERST_N falls and only the PCX block and its functions are reset. -/
  | pciePerstAssert
  /-- PCIE_PERST_RELEASE (R76): PCIE_PERST_N rises and the PCX block starts link training. -/
  | pciePerstRelease
  /-- WRITE_REGISTER (R12): A write to a register that has no row of its own updates its writable fields. -/
  | writeRegister (r : Req) (a size : Nat) (v : BitVec 64)
  /-- CROSS_DOMAIN_WRITE_EFFECT (R23): A posted register write takes effect in the target clock domain, or in the Lantern, after it completes on the bus. -/
  | crossDomainWriteEffect (k : Nat)
  /-- WIDE_COUNTER_LOW_READ (R24): A read of a wide counter's low word latches its high word for the requester path. -/
  | wideCounterLowRead (r : Req) (a size : Nat)
  /-- SNAP_TAKE (R26): A write of GLB_SNAP.TAKE sends a capture pulse to every domain. -/
  | snapTake (r : Req) (view : Bool)
  /-- SNAP_CAPTURE_DONE (R28): A snapshot capture completes: BUSY clears, SEQ advances and TAKER is recorded. -/
  | snapCaptureDone
  /-- RING_ENABLE (R86): A GLB_RCFG write enables a disabled ring and sets both indices to 0. -/
  | ringEnable (n : Nat) (v : Word)
  /-- RING_DISABLE (R86): A GLB_RCFG write disables an enabled ring and discards the work not yet started. -/
  | ringDisable (n : Nat) (v : Word)
  /-- RING_VECTOR_CHANGE (R86): A GLB_RCFG write changes only VEC or IEN of a ring. -/
  | ringVectorChange (n : Nat) (v : Word)
  /-- DOORBELL (R87): A write to a ring's BAR2 page sets a new host index. -/
  | doorbell (n : Nat) (v : Word) (bufs : List PostedBuf)
  /-- NOP (R91): The NOP command completes OK and has no effect. -/
  | nop (c : HostCmd)
  /-- UNKNOWN_OPCODE (R90): A command with an unlisted opcode completes BAD_OPCODE and is counted. -/
  | unknownOpcode (op : Nat) (c : HostCmd)
  /-- REG_READ (R93): The REG_READ command reads 1 to 8 words of TARGET's registers. -/
  | regRead (c : HostCmd)
  /-- REG_WRITE (R93): The REG_WRITE command writes 1 to 8 words of TARGET's registers under the owner rules. -/
  | regWrite (c : HostCmd)
  /-- MGMT_REQ_RECEIVE (R94): A management request frame arrives and the management agent executes it and answers. -/
  | mgmtReqReceive (f : Nat) (m : Msg)
  /-- MGMT_RSP_RECEIVE (R94): A management response arrives and completes the pending request. -/
  | mgmtRspReceive (f : Nat) (m : Msg)
  /-- MANAGEMENT_TIMEOUT (R94): No response arrives within 1 ms and the request completes TIMEOUT. -/
  | managementTimeout (id : Nat)
  /-- DATA_OUT_DESCRIPTOR (R96): The device takes a data-out descriptor, admits its frame into the tunnel and writes the descriptor back. -/
  | dataOutDescriptor (n : Nat) (d : DataOut)
  /-- HOLDOFF_EXPIRY (R98): A vector's holdoff ends and one MSI-X message is sent for the pending records. -/
  | holdoffExpiry (v : Nat)
  /-- EVENT_FRAME_RECEIVE (R99): A remote EVENT frame arrives and the host bridge records it with REMOTE set. -/
  | eventFrameReceive (r : EvRec)
  /-- EVENT_RECORD_FLUSH (R100): Entries free on an event ring and the held records are written in order. -/
  | eventRecordFlush (n : Nat)
  /-- OWN_YIELD (R108): The OWN_YIELD command hands ownership to TOFID or releases it. -/
  | ownYield (c : HostCmd)
  /-- YIELD_COMMANDS_DRAINED (R108): The yielding owner's started control commands have completed, and it sends YIELD or RELEASE. -/
  | yieldCommandsDrained
  /-- YIELD_RECEIVE (R108): A YIELD message arrives at its target, which accepts it if its host is alive. -/
  | yieldReceive (tofid gen : Nat) (rank : Rank)
  /-- YIELD_TIMEOUT (R108): No heartbeat from the yield target arrives within 1 ms and the yield completes YIELD_REFUSED. -/
  | yieldTimeout
  /-- RELEASE_RECEIVE (R108): A RELEASE message arrives and the device enters ELECTING. -/
  | releaseReceive
  /-- HEARTBEAT_SEND (R104): Every 1 ms the owner's host bridge broadcasts a heartbeat. -/
  | heartbeatSend
  /-- HEARTBEAT_RECEIVE (R105): A heartbeat arrives and the device restarts its timer or changes ownership state. -/
  | heartbeatReceive (f : Nat) (rank : Rank) (gen : Nat)
  /-- OWNER_TIMER_EXPIRY (R105): The 5 ms heartbeat timer expires and the device enters ELECTING. -/
  | ownerTimerExpiry
  /-- CLAIM_SEND (R105): Every 250 µs an electing host bridge with an alive host broadcasts CLAIM. -/
  | claimSend
  /-- CLAIM_RECEIVE (R105): A CLAIM arrives and the device keeps the best claim or leaves NONE. -/
  | claimReceive (fid : Nat) (rank : Rank) (gen : Nat)
  /-- ELECTION_CLOSE (R105): The 1 ms election window closes and the device enters OWNER or NONE. -/
  | electionClose
  /-- HOST_ALIVE_LOST (R103): A host bridge's host ceases to be alive, and an owner becomes FOLLOWER. -/
  | hostAliveLost (cond : Nat)
  /-- HOST_ALIVE_GAINED (R105): A host bridge's host becomes alive again, which may start an election or restore OWNER. -/
  | hostAliveGained (cond : Nat)
  /-- ALIVE_KICK (R103): A write of GLB_ALIVE.KICK restarts the keepalive timer. -/
  | aliveKick
  /-- KEEPALIVE_EXPIRY (R103): No KICK arrives within TMO, so EXPIRED is set and the host ceases to be alive. -/
  | keepaliveExpiry
  /-- SMBUS_STATUS_READ (R111): The SMBus Block Read 0x00 returns the 8-byte STATUS. -/
  | smbusStatusRead (temp : BitVec 8)
  /-- SMBUS_ADDR_WRITE (R111): The SMBus Block Write 0x01 sets the register address. -/
  | smbusAddrWrite (a : Nat) (pec : Bool)
  /-- SMBUS_DATA_READ (R111): The SMBus Block Read 0x02 returns the register at ADDR and advances ADDR by 4. -/
  | smbusDataRead
  /-- SMBUS_PWRREQ (R112): The SMBus Write Byte 0x03 places a power request. -/
  | smbusPwrreq (v : Nat) (pec : Bool)
  /-- SMBUS_ALERTCLR (R112): The SMBus Write Byte 0x04 releases SMB_ALERT_N for the current causes. -/
  | smbusAlertclr (v : Nat) (pec : Bool)
  /-- SMBUS_ALERT_RESPONSE (R112): A read of the Alert Response Address releases SMB_ALERT_N. -/
  | smbusAlertResponse
  /-- ENTER_MODE (R115): An Enter Mode for the Pelfer Link is acknowledged and the port enters DETECT. -/
  | enterMode (p : Nat) (dfp : Bool) (vdo : Nat)
  /-- EXIT_MODE (R115): An Exit Mode ends the alternate mode and the port goes DARK. -/
  | exitMode (p : Nat)
  /-- RETRAIN (R129): A write of ADTn_CTRL.RETRAIN takes the port DARK and brings it up again at the highest shared rate. -/
  | retrain (r : Req) (p : Nat)
  /-- DARK_COMMAND (R129): A write of 1 to ADTn_CTRL.DARK idles the lanes within 1 µs and holds the port DARK. -/
  | darkCommand (r : Req) (p : Nat)
  /-- PORT_DETECT_START (R125): A DARK port that is enabled, in mode and past any retry delay enters DETECT. -/
  | portDetectStart (p : Nat)
  /-- RECEIVER_DETECT (R125): Every 12 ms a port in DETECT tests for a far termination and enters TRAIN when it finds one. -/
  | receiverDetect (p lanes : Nat)
  /-- TRAINING_FRAME_RECEIVE (R124): A training frame arrives and the lane adapts taps and READY, possibly ending TRAIN. -/
  | trainingFrameReceive (p rate phys : Nat) (h : TrainHdr) (inverted ready : Bool) (pre post : Nat)
  /-- TRAIN_TIMEOUT (R127): TRAIN times out and the link falls back, or continues on the single READY lane. -/
  | trainTimeout (p : Nat)
  /-- FALLBACK_IDLE_END (R127): The 50 µs electrical idle ends and training restarts at the next lower rate. -/
  | fallbackIdleEnd (p : Nat)
  /-- MARKER_RECEIVE (R123): A marker codeword arrives, lanes are deskewed, skew is recorded and LOCK may complete. -/
  | markerReceive (p lane : Nat) (skew : Int)
  /-- LOCK_TIMEOUT (R127): LOCK times out and the link falls back to the next lower rate. -/
  | lockTimeout (p : Nat)
  /-- CAPABILITY_SEND (R130): Every 100 µs during EXCHANGE the port sends its capability frame. -/
  | capabilitySend (p : Nat)
  /-- CAPABILITY_FRAME_RECEIVE (R131): A peer capability frame arrives, and the port goes to LIT or to HALT on a mismatch. -/
  | capabilityFrameReceive (p : Nat) (bytes : List (BitVec 8)) (crc : BitVec 32)
  /-- EXCHANGE_TIMEOUT (R127): EXCHANGE times out and the port goes DARK to retry after 1 s. -/
  | exchangeTimeout (p : Nat)
  /-- RETRY_DELAY_EXPIRY (R127): The 1 s retry delay after a failure ends. -/
  | retryDelayExpiry (p : Nat)
  /-- CODEWORD_RECEIVE (R121): An RS codeword is decoded: corrected and uncorrectable codewords are counted and blocks are flagged errored. -/
  | codewordReceive (p phys : Nat) (cw : BitVec 5440)
  /-- DIM_ENTRY (R132): A transmitter idle for IDLE µs sends 16 DIM blocks and goes to electrical idle. -/
  | dimEntry (p : Nat)
  /-- DIM_RECEIVE (R132): A DIM block followed by loss of signal puts the receive direction in Dim. -/
  | dimReceive (p : Nat)
  /-- DIM_EXIT (R133): A transmitter in Dim has a block to send and sends the TRAIN burst. -/
  | dimExit (p : Nat)
  /-- DIM_EXIT_BURST_RECEIVE (R133): A receiver in Dim relocks on the exit burst, or declares a lane that does not lock failed. -/
  | dimExitBurstReceive (p : Nat) (b : BurstIn)
  /-- LANE_FAILURE (R136): A receiver declares a lane failed and starts sparing, or the port goes DARK on its last lane. -/
  | laneFailure (p lane cause : Nat)
  /-- SPARE_REPEAT (R137): Every 1 µs LANECTL SPARE is sent again until STRIPE is seen. -/
  | spareRepeat (p : Nat)
  /-- LANECTL_SPARE_RECEIVE (R137): A SPARE request arrives, and the transmitter answers STRIPE and stripes on the surviving lane. -/
  | lanectlSpareReceive (p lane : Nat)
  /-- LANECTL_STRIPE_RECEIVE (R137): A STRIPE arrives and the receiver takes the new lane mask. -/
  | lanectlStripeReceive (p mask : Nat)
  /-- LANECTL_JOIN_RECEIVE (R138): A JOIN arrives and the transmitter stripes on both lanes again. -/
  | lanectlJoinReceive (p lane : Nat)
  /-- SPARED_LANE_JUDGE (R138): Once a second a spared lane is judged, and rejoined or held. -/
  | sparedLaneJudge (p lane : Nat) (sig : Bool)
  /-- FOREIGN_FRAME_INGRESS (R17): A foreign interface receives a whole frame, classifies it to a tunnel, meters it and admits it. -/
  | foreignFrameIngress (ep typ kind : Nat) (bytes : List (BitVec 8)) (last yellow : Bool)
  /-- METER_RETEST (R213): At each whole microsecond, or slot boundary for display, a held frame is tested again. -/
  | meterRetest
  /-- SCHEDULER_OFFER (R201): When the link layer can start a frame, the scheduler offers fabric, calendar or fair-queue frames in order. -/
  | schedulerOffer (p : Nat)
  /-- FRAME_RECEIVE (R149): A frame arrives on a port and passes the receive checks; it is then accepted, forwarded or delivered. -/
  | frameReceive (p : Nat) (hdr : BitVec 128) (body : List (BitVec 8)) (tag : Option (BitVec 128)) (errored : Nat)
  /-- NAK_RESEND_TIMER (R155): An outstanding NAK unanswered after 2 µs is sent again. -/
  | nakResendTimer (p : Nat)
  /-- ACK_RECEIVE (R156): An ACK arrives and frees replay copies up to its HSEQ. -/
  | ackReceive (p : Nat) (w : LinkWord) (chk : BitVec 8)
  /-- NAK_RECEIVE (R156): A NAK arrives, frees copies and replays the rest in HSEQ order. -/
  | nakReceive (p : Nat) (w : LinkWord) (chk : BitVec 8)
  /-- REPLAY_TIMEOUT (R156): 4 µs without progress on outstanding frames starts a replay. -/
  | replayTimeout (p : Nat)
  /-- CREDIT_RECEIVE (R158): A CREDIT word arrives and sets the transmit credit limit of its class. -/
  | creditReceive (p : Nat) (w : LinkWord) (chk : BitVec 8)
  /-- CREDIT_REFRESH (R160): Every 10 µs outside Dim the port sends CREDIT words for all classes. -/
  | creditRefresh (p : Nat)
  /-- E2E_ACK_SEND (R166): Owed end-to-end acknowledgements leave in an E2E_ACK frame within 2 µs. -/
  | e2eAckSend
  /-- E2E_ACK_RECEIVE (R166): An E2E_ACK arrives, frees copies and may start a resend on RESEND. -/
  | e2eAckReceive (bytes : List (BitVec 8))
  /-- E2E_TIMEOUT (R167): No acknowledgement advances for E2ETMO while frames are outstanding, so a resend starts. -/
  | e2eTimeout (tid : Nat)
  /-- KEYX_RECEIVE (R171): A KEYX message arrives and advances the key exchange or rekey. -/
  | keyxReceive (p : Nat) (m : Msg)
  /-- KEYRDY_RECEIVE (R172): A KEYRDY arrives and the transmitter may send under that key phase. -/
  | keyrdyReceive (p : Nat) (w : LinkWord) (chk : BitVec 8)
  /-- KEY_EXCHANGE_TIMEOUT (R171): The key exchange is not complete 15 ms after LIT: KX reads 4 and only class 0 is carried. -/
  | keyExchangeTimeout (p : Nat)
  /-- KEY_EXCHANGE_RETRY (R171): 1 s after a failed key exchange, the exchange starts again. -/
  | keyExchangeRetry (p : Nat)
  /-- REKEY_START (R172): The key's age or frame count reaches its limit and a rekey starts. -/
  | rekeyStart (p : Nat)
  /-- TUN_OPEN (R191): The TUN_OPEN command checks operands, takes a TID and installs and activates the path set. -/
  | tunOpen (c : HostCmd) (ans : List DevAns)
  /-- TUN_CLOSE (R192): The TUN_CLOSE command quiesces, optionally drains, closes and removes a tunnel. -/
  | tunClose (c : HostCmd) (ans : List DevAns)
  /-- TUN_RETARGET (R194): The TUN_RETARGET command moves one end of a tunnel and resets its sequences. -/
  | tunRetarget (c : HostCmd)
  /-- TUN_GRANT (R195): The TUN_GRANT command sets GRANTFID on the path set. -/
  | tunGrant (c : HostCmd)
  /-- TUN_REVOKE (R195): The TUN_REVOKE command clears GRANTFID and writes back the former grantee's descriptors. -/
  | tunRevoke (c : HostCmd)
  /-- TUN_STATS (R197): The TUN_STATS command reads, and optionally clears, a context's statistics. -/
  | tunStats (c : HostCmd)
  /-- TUNNEL_INSTALL (R191): An INSTALL arrives and the device takes a free context in OPENING, or refuses. -/
  | tunnelInstall (fid : Nat) (p : TunPar) (qa qb : Option Seqs)
  /-- TUNNEL_ACTIVATE (R191): An ACTIVATE arrives and the context becomes OPEN with its statistics zeroed. -/
  | tunnelActivate (fid tid : Nat) (fresh : Bool)
  /-- TUNNEL_REMOVE (R191): A REMOVE arrives and the context is freed. -/
  | tunnelRemove (fid tid : Nat)
  /-- TUNNEL_QUIESCE (R192): A QUIESCE arrives and the end admits nothing new. -/
  | tunnelQuiesce (fid tid : Nat)
  /-- TUNNEL_CLOSE_MESSAGE (R192): A CLOSE arrives and the end becomes CLOSING, discarding its copies. -/
  | tunnelCloseMessage (fid tid : Nat)
  /-- GRANT_SET (R195): A grant message arrives and sets GRANTFID in the context. -/
  | grantSet (fid tid to_ : Nat)
  /-- DRAIN_COMPLETE (R192): OUTST reaches 0 at both ends and the close or retarget continues. -/
  | drainComplete (tid : Nat) (ans : List DevAns)
  /-- DRAIN_TIMEOUT (R192): DRAINTMO passes before the drain ends. -/
  | drainTimeout (tid : Nat) (ans : List DevAns)
  /-- OPENING_TIMEOUT (R185): A context left in OPENING for 10 ms frees itself. -/
  | openingTimeout (idx : Nat)
  /-- MAP_UPDATE_RECEIVE (R508): A TIDMAP or BIND message arrives and is applied in SEQ order, or answered as a gap. -/
  | mapUpdateReceive (fid : Nat) (m : MapMsg)
  /-- MAP_UPDATE_RETRY (R508): A map message unanswered for 1 ms is sent again. -/
  | mapUpdateRetry (fid seq : Nat)
  /-- REINSTALL_CONTEXTS (R196): After a device reset, the owner's host bridge reinstalls its contexts from the map. -/
  | reinstallContexts (fid : Nat) (ans : List DevAns)
  /-- SCH_COMMIT (R218): The SCH_COMMIT command stages a commit of scheduler or meter shadows. -/
  | schCommit (c : HostCmd)
  /-- CALENDAR_SLOT (R205): A calendar slot begins and grants credit to a queue or falls through. -/
  | calendarSlot (p : Nat)
  /-- SHAPER_TICK (R210): At each whole microsecond, shaper tokens rise by RATE. -/
  | shaperTick
  /-- METER_TICK (R212): At each whole microsecond, meter buckets gain tokens. -/
  | meterTick
  /-- EPOCH_BOUNDARY (R217): An epoch boundary arrives: staged commits start and the observation mode is chosen. -/
  | epochBoundary (p : Nat)
  /-- COMMIT_SWAP (R219): The pipeline is empty after a boundary, so the shadow is copied active and the port starts empty. -/
  | commitSwap (p : Nat)
  /-- LATENCY_SAMPLE (R225): Every INTERVAL + 1 µs in sampling mode, each queue holding a frame is recorded. -/
  | latencySample (p : Nat)
  /-- HIGH_WATER_CLEAR (R226): A write of SCHn_OBSCFG.HWCLR clears every high-water mark. -/
  | highWaterClear (r : Req) (p : Nat) (v : Word)
  /-- PCIE_TLP_RECEIVE (R236): A TLP from a PCIe link is routed and wrapped into its bundle member, with fences and read-ahead. -/
  | pcieTlpReceive (link : Nat) (bytes : List (BitVec 8))
  /-- COMPLETION_TIMEOUT (R240): A request's completions have not ended within PCX_CTO, so a Completer Abort is synthesized. -/
  | completionTimeout (lead req tag : Nat)
  /-- READAHEAD_EXPIRY (R244): Read-ahead bytes unclaimed for 10 µs are discarded and logged. -/
  | readaheadExpiry (slot addr : Nat)
  /-- SIDEBAND_SUMMARY_SEND (R248): Every SBPOLL µs each end of a SIDEBAND tunnel sends a summary. -/
  | sidebandSummarySend (tid : Nat) (pins : SidePins)
  /-- SIDEBAND_SUMMARY_RECEIVE (R249): A summary arrives and updates slot state, WAKE_N and hot resets. -/
  | sidebandSummaryReceive (tid : Nat) (bytes : List (BitVec 8))
  /-- POSTED_ERROR_NOTICE_RECEIVE (R246): A posted-error notice arrives and is logged in AER, with ERR_NONFATAL where enabled. -/
  | postedErrorNoticeReceive (tid : Nat) (bytes : List (BitVec 8))
  /-- VIRTUAL_PORT_CONFIG_WRITE (R242): A host configuration write to a forwarded field of a bound slot is sent to the dock port. -/
  | virtualPortConfigWrite (k : Nat) (f : CfgField) (v w : Nat)
  /-- PCX_HOTPLUG (R251): The PCX_HOTPLUG command binds, moves or unbinds a dock port. -/
  | pcxHotplug (c : HostCmd) (ans : List DevAns)
  /-- HOTPLUG_TMO_EXPIRY (R251): The old host has not powered the slot off within TMO, and the command completes TIMEOUT. -/
  | hotplugTmoExpiry
  /-- HOTPLUG_LINK_WAIT_EXPIRY (R251): 100 ms pass without Link Active and the command completes OK with LINKUP 0. -/
  | hotplugLinkWaitExpiry
  /-- DOCK_PORT_LINK_CHANGE (R252): A dock PCIe port's link comes up or drops. -/
  | dockPortLinkChange (k : Nat) (up : Bool) (speed width : Nat)
  /-- DP_INPUT_TRAIN (R255): A DisplayPort sink input trains or loses its link. -/
  | dpInputTrain (k : Nat) (up : Bool) (rate lanes : Nat)
  /-- DP_INPUT_MODE_CHANGE (R263): The input's mode, format, DSC or HDCP state changes and the reflection buffer is cleared. -/
  | dpInputModeChange (k : Nat) (m : InMode)
  /-- IRQ_HPD_PULSE (R257): A write of DSC_INk_CTRL.IRQ pulses DP_HPD low for 750 µs. -/
  | irqHpdPulse (r : Req) (k : Nat)
  /-- REFLECTION_CLEAR (R263): A write of DSC_INk_INVAL clears the reflection buffer from the next frame start. -/
  | reflectionClear (r : Req) (k : Nat)
  /-- CAPTURE_FRAME_START (R264): A captured frame starts, and pending clears and the sweep selection apply. -/
  | captureFrameStart (k : Nat) (enc : Bool) (period : Nat)
  /-- CAPTURE_BAND_END (R260): A band is captured and hashed, and its damaged tiles go to the encoders. -/
  | captureBandEnd (k j aud : Nat) (d : Band)
  /-- TILE_ADMISSION (R261): A tile's fragments are all admitted and its reflection entry takes the new hash. -/
  | tileAdmission (k : Nat)
  /-- PUSH_RING_ENABLE (R265): A write of PUSHk_CFG.EN enables a push ring and zeroes its indices. -/
  | pushRingEnable (k : Nat) (v : Word)
  /-- PUSH_DOORBELL (R265): A write of a push page doorbell sets a new host index. -/
  | pushDoorbell (k : Nat) (v : Word)
  /-- PUSH_DESCRIPTOR (R267): A push descriptor is taken, and its tiles are read, coded and sent, then written back. -/
  | pushDescriptor (k : Nat) (d : PushDesc)
  /-- TILE_FRAGMENT_RECEIVE (R290): A tile fragment reaches an output and is decoded into a free buffer of the building map. -/
  | tileFragmentReceive (tid : Nat) (bytes : List (BitVec 8)) (last : Bool)
  /-- MODE_RECORD (R293): A MODE record arrives, and on a change Q and B are discarded and REFRESH is sent. -/
  | modeRecord (tid : Nat) (bytes : List (BitVec 8))
  /-- FRAME_END_RECORD (R291): A FRAME_END arrives and the building map completes into the pending map. -/
  | frameEndRecord (tid : Nat) (bytes : List (BitVec 8))
  /-- METADATA_RECORD (R292): A METADATA record arrives and sets the output's colorimetry and HDR data. -/
  | metadataRecord (tid : Nat) (bytes : List (BitVec 8))
  /-- PPS_RECORD (R292): A PPS record arrives and sets the DSC picture parameters. -/
  | ppsRecord (tid : Nat) (bytes : List (BitVec 8))
  /-- REFRESH_RECORD (R263): A REFRESH arrives at a source, which clears its reflection buffer or raises the push refresh. -/
  | refreshRecord (tid : Nat) (bytes : List (BitVec 8))
  /-- SINK_RECORD (R292): A SINK record arrives at a source with the monitor's capabilities and EDID. -/
  | sinkRecord (tid : Nat) (bytes : List (BitVec 8))
  /-- HDCP_RXID_RECORD (R277): An HDCP_RXID record arrives and feeds the repeater's receiver ID list. -/
  | hdcpRxidRecord (tid : Nat) (bytes : List (BitVec 8))
  /-- FRAME_BOUNDARY (R294): An output's frame boundary arrives: FRAMECNT advances, genlock is trimmed and a due flip is taken. -/
  | frameBoundary (k : Nat) (dry : List (Nat × Nat)) (timing : Option OutTiming)
  /-- DSO_FLIP (R299): The DSO_FLIP command arms or cancels flips on outputs. -/
  | dsoFlip (c : HostCmd)
  /-- OUTPUT_ENABLE (R296): A write of DSO_OUTk_CTRL.EN enables the output if it passes the buffer and rate checks. -/
  | outputEnable (r : Req) (k : Nat) (timing : Option OutTiming)
  /-- OUTPUT_REFRESH_REQUEST (R292): A write of DSO_OUTk_CTRL.REFRESH sends REFRESH with cause 4. -/
  | outputRefreshRequest (r : Req) (k : Nat)
  /-- MONITOR_HOTPLUG (R301): A monitor attaches or detaches at an output. -/
  | monitorHotplug (k : Nat) (m : Option Monitor)
  /-- LINK_SYNC_SEND (R308): Once per interval a MASTER port sends SYNC_M. -/
  | linkSyncSend (x : SyncOut)
  /-- SYNC_M_RECEIVE (R308): A SLAVE port receives SYNC_M and answers SYNC_S. -/
  | syncMReceive (p : Nat) (x : SyncM)
  /-- SYNC_S_RECEIVE (R308): The master receives SYNC_S and sends FOLLOW with corrected timestamps. -/
  | syncSReceive (p : Nat) (x : SyncS)
  /-- FOLLOW_RECEIVE (R310): A FOLLOW arrives, θ and D are computed and the sample is accepted or rejected. -/
  | followReceive (p seq us : Nat) (t1 t4 : Int)
  /-- ANNOUNCE_SEND (R312): Every 10 ms each device sends ANNOUNCE on every Lit port. -/
  | announceSend
  /-- ANNOUNCE_RECEIVE (R312): An ANNOUNCE arrives and the grandmaster and port time states are reselected. -/
  | announceReceive (p : Nat) (a : Announce)
  /-- ANNOUNCE_TIMEOUT (R312): A port's announce information lapses after 30 ms. -/
  | announceTimeout (p : Nat)
  /-- HOLDOVER_TIMEOUT (R318): No sample is accepted for three intervals and the device enters holdover. -/
  | holdoverTimeout
  /-- EXTERNAL_OFFSET_WRITE (R314): A write of TIM_EXTOFF is one external time sample. -/
  | externalOffsetWrite (r : Req) (v : Word)
  /-- PPS_IN_EDGE (R314): A rising edge on PPS_IN is stamped as an external sample. -/
  | ppsInEdge
  /-- SOURCE_LOST (R314): The external source gives no sample for 3 s and stops being live. -/
  | sourceLost (pps : Bool)
  /-- TIME_SET (R315): A write of TIM_SETNS.GO on the grandmaster sets the clock. -/
  | timeSet (r : Req) (v : Word)
  /-- CLOCK_READ (R305): A read of TIM_NOWNS latches FRAC and SEC for the requester path. -/
  | clockRead (r : Req)
  /-- PPS_OUT_PULSE (R321): At each whole second of fabric time, PPS_OUT rises for WIDTH ns. -/
  | ppsOutPulse
  /-- TIM_ARM (R322): The TIM_ARM command arms, replaces or cancels time triggers. -/
  | timArm (c : HostCmd)
  /-- TRIGGER_EDGE (R323): An armed trigger reaches its next edge and rises for WIDTH ns. -/
  | triggerEdge (k : Nat)
  /-- PROBE_START (R324): A write of TIM_PROBE.GO sends PROBE on a TIME tunnel. -/
  | probeStart (r : Req) (v : Word)
  /-- PROBE_RECEIVE (R324): A PROBE arrives and the far time unit answers PROBE_REPLY. -/
  | probeReceive (tid : Nat) (bytes : List (BitVec 8))
  /-- PROBE_REPLY_RECEIVE (R324): A PROBE_REPLY arrives, and θ and D are computed and reported. -/
  | probeReplyReceive (tid : Nat) (bytes : List (BitVec 8))
  /-- ETHERNET_FRAME_RECEIVE (R326): A MAC receives a frame, checks it, classifies PTP and enters it into a tunnel or the local path. -/
  | ethernetFrameReceive (n : Nat) (bytes : List (BitVec 8))
  /-- ETHERNET_FRAME_TRANSMIT (R328): A frame leaving a MAC has DEI marked, or is dropped when yellow, and is stamped. -/
  | ethernetFrameTransmit (n : Nat)
  /-- ETHERNET_LINK_CHANGE (R338): A MAC's link goes up or down. -/
  | ethernetLinkChange (n : Nat) (up : Bool) (speed : Nat)
  /-- GLINT_POP (R331): A read of GLINT word 0 removes the oldest Glint into the GLINT words. -/
  | glintPop (r : Req) (nic : Bool) (n : Nat)
  /-- MDIO_FRAME_START (R340): A write of ETH0_MDIO.GO starts an MDIO frame. -/
  | mdioFrameStart (r : Req) (v : Word)
  /-- MDIO_FRAME_DONE (R340): An MDIO frame completes and BUSY clears, with read data stored. -/
  | mdioFrameDone (data : Nat)
  /-- NIC_QUEUE_ENABLE (R341): A write of a NIC queue's CFG.EN enables the ring and zeroes its indices. -/
  | nicQueueEnable (f : Nat) (tx : Bool) (q : Nat) (v : Word)
  /-- NIC_DOORBELL (R333): A write of a NIC queue doorbell sets a new host index. -/
  | nicDoorbell (f : Nat) (tx : Bool) (q : Nat) (v : Word) (bufs : List NicBuf)
  /-- NIC_TX_DESCRIPTOR (R333): A NIC transmit descriptor is taken, its frame admitted and the descriptor written back. -/
  | nicTxDescriptor (f q : Nat) (d : NicTx)
  /-- CART_SUBMIT (R344): The CART_SUBMIT command checks a cart and puts it in flight. -/
  | cartSubmit (c : HostCmd) (list : Option (List (BitVec 256)))
  /-- CART_QUERY (R357): The CART_QUERY command reads a cart slot. -/
  | cartQuery (c : HostCmd)
  /-- CART_ABORT (R357): The CART_ABORT command sends ABORT before the decision. -/
  | cartAbort (c : HostCmd)
  /-- CART_PREPARE_SEND (R347): At T − LEAD, the coordinator sends PREPARE to every participant. -/
  | cartPrepareSend (id : Nat)
  /-- CART_PREPARE_RECEIVE (R345): A participant stages its actions and votes READY or REFUSE. -/
  | cartPrepareReceive (coord id t : Nat) (parts : List Nat) (acts : List CartAct)
  /-- CART_DRAIN_READY (R348): OUTST reaches 0 at both ends and a DRAIN participant votes READY. -/
  | cartDrainReady (coord id : Nat)
  /-- CART_DRAIN_DEADLINE (R348): OUTST is not 0 at T − 20 µs and the participant refuses with cause 6. -/
  | cartDrainDeadline (coord id : Nat)
  /-- CART_VOTE_RECEIVE (R347): A VOTE arrives: the first REFUSE aborts, and all READY sends GO. -/
  | cartVoteReceive (src id : Nat) (ready : Bool) (cause actidx sub : Nat)
  /-- CART_VOTE_DEADLINE (R347): Voting closes at T − 15 µs, and a missing vote aborts with TIMEOUT. -/
  | cartVoteDeadline (id : Nat)
  /-- CART_GO_RECEIVE (R351): A GO arrives, the participant arms and relays it once. -/
  | cartGoReceive (src coord id t : Nat)
  /-- CART_ABORT_RECEIVE (R354): An ABORT arrives, the participant undoes its staging and relays it. -/
  | cartAbortReceive (src coord id t : Nat)
  /-- CART_COMMIT_TIME (R350): At T an ARMED participant applies its actions, and a VOTED one enters HOLDING. -/
  | cartCommitTime (coord id : Nat)
  /-- CART_DECISION_RESEND (R347): Every 1 ms the decision is resent to participants without DONE. -/
  | cartDecisionResend (id : Nat)
  /-- CART_QUERY_SEND (R352): Every 100 µs a holding participant sends QUERY. -/
  | cartQuerySend (coord id : Nat)
  /-- CART_QUERY_RECEIVE (R352): A QUERY arrives and is answered from the decision record. -/
  | cartQueryReceive (src coord id t : Nat)
  /-- CART_ANSWER_RECEIVE (R352): An ANSWER arrives and may resolve a holding participant. -/
  | cartAnswerReceive (src coord id a : Nat)
  /-- CART_SEQS_RECEIVE (R509): SEQS arrives at the moved end, which sets its sequences and becomes OPEN. -/
  | cartSeqsReceive (coord id tid : Nat) (endB : Bool) (rx tx : Nat)
  /-- CART_SEQS_RESEND (R509): Every 100 µs until T + 1 ms, SEQS is sent again. -/
  | cartSeqsResend (coord id : Nat)
  /-- CART_SEQS_DEADLINE (R509): A moved end without SEQS by T + 10 ms reports DONE UNKNOWN. -/
  | cartSeqsDeadline (coord id : Nat)
  /-- CART_DONE_RECEIVE (R347): A DONE arrives, is acknowledged, and the last one completes the cart. -/
  | cartDoneReceive (src id t out late freed : Nat)
  /-- CART_DONEACK_RECEIVE (R349): A DONEACK arrives and the slot's 1 s release wait starts. -/
  | cartDoneackReceive (coord id : Nat)
  /-- CART_COMPLETION_TIMEOUT (R347): At T + 10 ms the coordinator writes the completion, counting missing DONEs. -/
  | cartCompletionTimeout (id : Nat)
  /-- CART_HOLD_ALARM (R353): A participant still holding at T + 10 ms raises the held event. -/
  | cartHoldAlarm (coord id : Nat)
  /-- CART_SLOT_RELEASE (R349): 1 s after DONEACK, the participant slot becomes FREE. -/
  | cartSlotRelease (coord id : Nat)
  /-- NEIGHBOUR_SEND (R361): Every 10 ms each Lit port sends NEIGHBOUR. -/
  | neighbourSend (p : Nat)
  /-- NEIGHBOUR_RECEIVE (R361): A NEIGHBOUR arrives and refreshes the port's peer, with a full RECORD dump after first LIT. -/
  | neighbourReceive (p : Nat) (n : Neigh)
  /-- HELLO_TIMEOUT (R364): A port has had no NEIGHBOUR for 30 ms and counts as down for the fabric. -/
  | helloTimeout (p : Nat)
  /-- RECORD_REFRESH (R362): Every 1 s a device originates its RECORD again with the next SEQ. -/
  | recordRefresh
  /-- RECORD_RECEIVE (R363): A RECORD arrives, and if newer it is stored, flooded and may change the graph. -/
  | recordReceive (p : Nat) (r : Rec) (ans : List DevAns)
  /-- RECORD_EXPIRY (R364): An unreached RECORD is deleted 3 s after it was last received. -/
  | recordExpiry (uid : Nat)
  /-- ASSIGN_SEND (R366): The owner sends or repeats ASSIGN to a device with FID 0. -/
  | assignSend (uid : Nat)
  /-- ASSIGN_RECEIVE (R366): An ASSIGN arrives and is relayed or accepted, setting the FID or Quarantine. -/
  | assignReceive (p : Nat) (a : Assign)
  /-- AUTO_FID_TIMEOUT (R366): A host bridge that has found no owner 10 ms after first LIT picks a FID itself. -/
  | autoFidTimeout
  /-- QUARANTINE_TIMEOUT (R368): A device still at FID 0 100 ms after first LIT enters Quarantine with cause 4. -/
  | quarantineTimeout
  /-- ROUTE_COMPUTE (R379): After a graph change the device recomputes its tables and sets the install time. -/
  | routeCompute
  /-- ROUTE_INSTALL (R379): At T_inst every device installs its new route tables, tree and orientation. -/
  | routeInstall
  /-- INSTALL_WAIT_DROP (R380): A frame still waiting for credit 1 ms after an install is discarded. -/
  | installWaitDrop
  /-- FAB_ASSIGN (R369): The FAB_ASSIGN command adds, replaces or removes a FID binding. -/
  | fabAssign (c : HostCmd)
  /-- FAB_ROUTE (R382): The FAB_ROUTE command sets CMASK and NOALT of route entries. -/
  | fabRoute (c : HostCmd)
  /-- FAB_TOPO (R383): The FAB_TOPO command returns TARGET's view of the fabric. -/
  | fabTopo (c : HostCmd)
  /-- UPSTREAM_SWITCH (R391): The hub detaches from its old upstream pair and powers down its ports. -/
  | upstreamSwitch (part : Option Nat)
  /-- UPSTREAM_SWITCH_COMPLETE (R391): After 50 ms the mux joins the new pair and the hub applies its pull-up. -/
  | upstreamSwitchComplete
  /-- USB_BUS_RESET (R395): An upstream reset or disconnect returns the hub and Yalcel to Default. -/
  | usbBusReset (disc chirp : Bool) (part : Option Nat)
  /-- USB_SUSPEND (R396): 3 ms without upstream activity suspends the hub. -/
  | usbSuspend
  /-- USB_RESUME (R397): A host resume restores the hub and delivers the pending wake reason. -/
  | usbResume (met : Bool)
  /-- USB_REMOTE_WAKE (R397): A pending wake reason after 5 ms of suspend drives K upstream for 2 ms. -/
  | usbRemoteWake
  /-- USB_OVER_CURRENT (R393): USB_OC_N low for 1 ms turns off the port's power and sets over-current. -/
  | usbOverCurrent (k : Nat) (low : Bool)
  /-- HUB_CLASS_REQUEST (R393): The hub executes a hub-class request such as setting or clearing a port feature. -/
  | hubClassRequest (r : HubReq)
  /-- TT_SPLIT_TRANSACTION (R394): A split transaction uses a TT buffer, or is refused when none is free. -/
  | ttSplitTransaction (k : Nat) (x : Split) (start : Bool)
  /-- YALCEL_GET_INFO (R400): The Yalcel GET_INFO request returns device information. -/
  | yalcelGetInfo
  /-- YALCEL_REG_READ (R400): The Yalcel REG_READ request reads local registers. -/
  | yalcelRegRead (a len : Nat) (done : Bool)
  /-- YALCEL_REG_WRITE (R400): The Yalcel REG_WRITE request writes local registers while the fabric is in NONE. -/
  | yalcelRegWrite (a : Nat) (bytes : List (BitVec 8)) (done : Bool)
  /-- YALCEL_PWR_REQ (R400): The Yalcel PWR_REQ request places a power request while the fabric is in NONE. -/
  | yalcelPwrReq (v : Nat) (done : Bool)
  /-- YALCEL_FW_BEGIN (R401): The Yalcel FW_BEGIN request opens a firmware session on the inactive slot. -/
  | yalcelFwBegin (len rsvd : Nat) (done : Bool)
  /-- YALCEL_IMAGE_DATA (R398): A bulk packet of image data enters staging, paced by NYET. -/
  | yalcelImageData (q : ImgPkt)
  /-- FLASH_SECTOR_DONE (R401): A flash sector has been erased and programmed from staging. -/
  | flashSectorDone (ok : Bool)
  /-- YALCEL_FW_COMMIT (R401): The Yalcel FW_COMMIT request starts the read-back check of the written image. -/
  | yalcelFwCommit (done : Bool)
  /-- FW_CHECK_DONE (R401): The written image's check ends, and the directory is updated or the session fails. -/
  | fwCheckDone (img : Option (List (BitVec 8)))
  /-- YALCEL_FW_STATUS (R400): The Yalcel FW_STATUS request returns the session state. -/
  | yalcelFwStatus
  /-- YALCEL_RESET (R400): The Yalcel RESET request takes a core reset while the fabric is in NONE. -/
  | yalcelReset (v : Nat) (done : Bool)
  /-- YALCEL_DL_BEGIN (R402): In ROM mode the DL_BEGIN request sets the download image length. -/
  | yalcelDlBegin (len : Nat) (done : Bool)
  /-- YALCEL_DL_GO (R402): In ROM mode the DL_GO request starts the downloaded image's check. -/
  | yalcelDlGo (done : Bool)
  /-- YALCEL_UNKNOWN_REQUEST (R400): An unknown or malformed vendor request STALLs and is counted in USB_YALREJ. -/
  | yalcelUnknownRequest (b : Nat)
  /-- PD_ATTACH (R411): A PD port debounces an attach and enters Attached.SRC or Attached.SNK. -/
  | pdAttach (n : Nat) (src orient ra : Bool) (z sys : Nat)
  /-- PD_DETACH (R414): A PD port detaches, VBUS is removed and the Adit port goes DARK. -/
  | pdDetach (n : Nat)
  /-- DRP_TOGGLE (R411): A DRP port toggles between Rp and Rd on its 75 ms period. -/
  | drpToggle (n : Nat)
  /-- PD_TABLE_WRITE (R407): A write to a PDO table is checked and re-advertised or re-requested within 5 ms. -/
  | pdTableWrite (r : Req) (n : Nat) (src : Bool) (k : Nat) (v : Word)
  /-- PD_SOURCE_CAPS_RECEIVE (R408): As Sink, received source capabilities lead to a Request. -/
  | pdSourceCapsReceive (n : Nat) (k : CapsIn) (caps : List Word)
  /-- PD_REQUEST_RECEIVE (R409): As Source, a Request is accepted and the voltage code is set. -/
  | pdRequestReceive (n pos : Nat) (q : PdReqIn)
  /-- PD_PS_RDY_RECEIVE (R408): As Sink, PS_RDY establishes the explicit contract. -/
  | pdPsRdyReceive (n : Nat)
  /-- PD_SWAP_REQUEST_RECEIVE (R413): A PR, DR or VCONN swap request is accepted, rejected or answered Wait. -/
  | pdSwapRequestReceive (n kind : Nat)
  /-- PD_EPR_MODE_RECEIVE (R408): An EPR_Mode Enter or Exit message changes the port's EPR mode. -/
  | pdEprModeReceive (n action : Nat)
  /-- PD_VDM_RECEIVE (R114): A structured VDM for discovery or mode entry is answered. -/
  | pdVdmReceive (n : Nat) (m : PdIn)
  /-- VBUS_SETTLED (R409): VBUS has been within 5 % of the new voltage for 1 ms, and PS_RDY is sent. -/
  | vbusSettled (n vbus sys : Nat)
  /-- VBUS_TRANSITION_TIMEOUT (R409): VBUS has not settled within 275 ms, and Hard Reset is sent. -/
  | vbusTransitionTimeout (n : Nat)
  /-- VBUS_PROTECTION_TRIP (R410): An over-voltage, over-current or under-voltage condition opens the gate. -/
  | vbusProtectionTrip (n : Nat) (x : VbusSense)
  /-- PPS_RENEW (R408): Every 8 s the sink renews its PPS request. -/
  | ppsRenew (n : Nat)
  /-- HARD_RESET_COMMAND (R415): A write of PDn_CTRL.HARDRST sends Hard Reset. -/
  | hardResetCommand (r : Req) (n : Nat)
  /-- PD_HARD_RESET (R415): A hard reset is sent or received: modes end, roles return to default and VBUS cycles. -/
  | pdHardReset (n : Nat) (received : Bool)
  /-- HARD_RESET_VBUS_OFF (R415): 30 ms after a hard reset the source drops the gate and discharges VBUS. -/
  | hardResetVbusOff (n : Nat)
  /-- HARD_RESET_VBUS_RESTORE (R415): 700 ms after discharge the source restores vSafe5V. -/
  | hardResetVbusRestore (n : Nat)
  /-- ERROR_RECOVERY_END (R416): 25 ms of ErrorRecovery end and the port restarts from Unattached. -/
  | errorRecoveryEnd (n : Nat)
  /-- PD_RELEASE (R419): A write of PD0_CTRL.RELEASE lets PD0 apply PORTROLE from the next detach. -/
  | pdRelease (r : Req) (n : Nat)
  /-- MOISTURE_CHECK (R417): A moisture check measures the CC and SBU lines and enters or leaves Unattached-Wet. -/
  | moistureCheck (n z : Nat)
  /-- PWR_REQ (R430): The PWR_REQ command pre-checks a target state and places it. -/
  | pwrReq (c : HostCmd)
  /-- HEWER_PHASE_DONE (R431): All Hewers have set HWMODE and executed WFI, and the handshake begins. -/
  | hewerPhaseDone
  /-- USER_HEWER_WFI_TIMEOUT (R431): A user Hewer that has not reached WFI within 1 ms is halted. -/
  | userHewerWfiTimeout (n : Nat)
  /-- HANDSHAKE_ANSWER (R431): A block answers ACK or DENY to its handshake step. -/
  | handshakeAnswer (busy : Bool)
  /-- HANDSHAKE_DEFER_EXPIRY (R431): A DEFER held for 10 ms abandons the entry. -/
  | handshakeDeferExpiry
  /-- PREPARE_PHASE_DONE (R431): The prepare phase ends and the gate phase switches the domains off. -/
  | preparePhaseDone
  /-- POWER_STATE_ENTERED (R431): The gate phase completes, the state is entered and a pending request becomes the target. -/
  | powerStateEntered
  /-- WAKE_SOURCE (R434): A selected wake source sets the target to Run, or is latched during an entry. -/
  | wakeSource (x : WakeIn)
  /-- POWER_EXIT_COMPLETE (R436): An exit to Run completes within the bounds of Table 17-6. -/
  | powerExitComplete
  /-- DOMAIN_WAKE (R433): A first access to a stopped domain stalls until the domain runs. -/
  | domainWake (dom : Nat)
  /-- DOMAIN_IDLE_STOP (R433): A woken domain stops again after DOMIDLE µs without work. -/
  | domainIdleStop (dom : Nat)
  /-- CORE_PRESTART (R433): 200 ns before a boundary, flip or cart time, the time unit starts CORE. -/
  | corePrestart
  /-- FTIME (R442): The FTIME instruction reads fabric time. -/
  | ftime (n rd sel : Nat)
  /-- CRC32 (R442): The CRC32 instruction folds a byte into a running CRC. -/
  | crc32 (n rd : Nat) (acc : Word) (b : BitVec 8)
  /-- CKPT (R446): The CKPT instruction starts a checkpoint of the duty's context. -/
  | ckpt (n rd : Nat) (bytes : List (BitVec 8))
  /-- JRNL (R447): The JRNL instruction numbers an effect, records it and performs it. -/
  | jrnl (n code addr : Nat) (e : DutyEffect)
  /-- EVR (R442): The EVR instruction raises an event with 12 DATA bytes. -/
  | evr (n ev : Nat) (data : List (BitVec 8))
  /-- WAITEV (R442): The WAITEV instruction stalls until a masked source is pending. -/
  | waitev (n rd : Nat) (mask pend : Word)
  /-- HWMODE_WRITE (R443): A write of CSR HWMODE records the state the Hewer is ready for. -/
  | hwmodeWrite (n v : Nat)
  /-- HWKICK (R443): A write of CSR HWKICK restarts the Hewer watchdog. -/
  | hwkick (n : Nat)
  /-- MB_RECV (R451): The MB_RECV monitor call returns the inbound mailbox message. -/
  | mbRecv (n buf cap : Nat)
  /-- MB_SEND (R452): The MB_SEND monitor call places a message in MBOUT and raises the mailbox event. -/
  | mbSend (n buf : Nat) (bytes : List (BitVec 8))
  /-- EV_SUB (R451): The EV_SUB monitor call subscribes to or unsubscribes from an event. -/
  | evSub (n ev on : Nat)
  /-- EV_NEXT (R451): The EV_NEXT monitor call returns the next subscribed event record. -/
  | evNext (n buf : Nat)
  /-- WAIT (R451): The WAIT monitor call waits for mailbox, event or PTP sources or a timeout. -/
  | wait (n mask tmo : Nat)
  /-- HEWER_REG_READ (R451): The REG_READ monitor call reads a register on the Hewer path. -/
  | hewerRegRead (n a : Nat)
  /-- PTP_RECV (R451): The PTP_RECV monitor call returns a frame from the PTP local path. -/
  | ptpRecv (n buf cap : Nat)
  /-- PTP_SEND (R453): The PTP_SEND monitor call sends a frame by a MAC's local transmit path. -/
  | ptpSend (n buf mac tsid : Nat) (tsreq : Bool) (bytes : List (BitVec 8))
  /-- EXIT (R451): The EXIT monitor call ends the user program. -/
  | exit (n : Nat)
  /-- USER_HEWER_RUN (R450): A write of HWRn_CTRL.RUN starts a user program at offset 0x1000. -/
  | userHewerRun (r : Req) (n : Nat) (v : Word)
  /-- MAILBOX_SEND (R452): A write of HWRn_MBCTL.SEND delivers the inbound mailbox message. -/
  | mailboxSend (r : Req) (n : Nat) (v : Word)
  /-- USER_HEWER_EXCEPTION (R454): A user Hewer takes an exception other than ECALL and is halted. -/
  | userHewerException (n cause : Nat)
  /-- HEWER_WATCHDOG_EXPIRY (R445): A duty Hewer's watchdog expires and the Hewer has failed. -/
  | hewerWatchdogExpiry (n : Nat)
  /-- HEWER_FAILURE (R445): A TCM ECC error, lock-step mismatch or M-mode fault fails a Hewer, which is isolated and a spare chosen. -/
  | hewerFailure (n cause : Nat)
  /-- TAKEOVER_IMAGE_LOADED (R448): The duty image and checkpoint are loaded and the spare starts. -/
  | takeoverImageLoaded (d : Nat) (reloaded : Bool)
  /-- TAKEOVER_CATCHUP_DONE (R448): Re-execution reaches the journal's last effect and the takeover event is raised. -/
  | takeoverCatchupDone (d : Nat)
  /-- GALLERY_ECC_ERROR (R457): A Gallery ECC error is corrected, or handled by region when uncorrectable. -/
  | galleryEccError (addr region p place : Nat)
  /-- DRAM_TEMPERATURE_CHANGE (R458): The die temperature crosses 85 °C and the refresh rate doubles or is restored. -/
  | dramTemperatureChange (temp : Nat)
  /-- LIFECYCLE_REQUEST (R468): A KEY_LCREQ write requests a transition, which is refused or starts a burn. -/
  | lifecycleRequest (r : Req) (target : Nat)
  /-- LIFECYCLE_BURN_DONE (R470): A transition field reads made, slots are erased and a core reset follows. -/
  | lifecycleBurnDone (cells : Nat)
  /-- NONCE_GENERATE (R484): A write of KEY_NONCECTL.GEN draws a fresh nonce. -/
  | nonceGenerate (r : Req)
  /-- KEY_DERIVE (R476): The DERIVE operation derives a child key by KMAC256. -/
  | keyDerive (r : Req) (args dram : List (BitVec 8))
  /-- KEY_KEYGEN (R477): The KEYGEN operation makes an AGREE or SIGN key pair. -/
  | keyKeygen (r : Req) (args dram : List (BitVec 8))
  /-- KEY_AGREE (R477): The AGREE operation computes an ECDH shared secret. -/
  | keyAgree (r : Req) (args dram : List (BitVec 8))
  /-- KEY_SIGN (R477): The SIGN operation signs a digest. -/
  | keySign (r : Req) (args dram : List (BitVec 8))
  /-- KEY_PUBKEY (R477): The PUBKEY operation returns a key's public key. -/
  | keyPubkey (r : Req) (args dram : List (BitVec 8))
  /-- KEY_VERIFY (R477): The VERIFY operation verifies a signature. -/
  | keyVerify (r : Req) (args dram : List (BitVec 8))
  /-- KEY_ERASE (R477): The ERASE operation erases a slot and advances its generation. -/
  | keyErase (r : Req) (args dram : List (BitVec 8))
  /-- KEY_ATTEST (R482): The ATTEST operation returns a signed attestation report. -/
  | keyAttest (r : Req) (args dram : List (BitVec 8))
  /-- KEY_UNWRAP (R477): The UNWRAP operation unwraps a key blob into a slot. -/
  | keyUnwrap (r : Req) (args dram : List (BitVec 8))
  /-- KEY_WRAP (R477): The WRAP operation wraps key material into a blob. -/
  | keyWrap (r : Req) (args dram : List (BitVec 8))
  /-- KEY_GENROOT (R477): The GENROOT operation fills a root partition from the random generator. -/
  | keyGenroot (r : Req) (args dram : List (BitVec 8))
  /-- KEY_PROGRAM (R477): The PROGRAM operation writes a public-key digest into OTP. -/
  | keyProgram (r : Req) (args dram : List (BitVec 8))
  /-- KEY_ADVANCE (R483): The ADVANCE operation raises the rollback counter to the running SVN. -/
  | keyAdvance (r : Req) (args dram : List (BitVec 8))
  /-- KEY_DBGUNLOCK (R484): The DBGUNLOCK operation checks a token and opens JTAG. -/
  | keyDbgunlock (r : Req) (args dram : List (BitVec 8))
  /-- KEY_OPERATION_DONE (R477): An engine operation finishes and writes its result code and handle. -/
  | keyOperationDone (otpOk : Bool)
  /-- FAULT_RECOVERY_COMPLETE (R496): A fault's recovery completes and its log entry gets RECOV and DONE. -/
  | faultRecoveryComplete (seq : Nat)
  /-- WARMRST_N_RELEASE (R64): WARMRST_N rises and a boot ROM that was waiting for it starts. -/
  | warmrstNRelease
  /-- PCIE_UPSTREAM_LINK_CHANGE (R77): In host role the upstream PCIe link comes up, goes down or receives a hot reset. -/
  | pcieUpstreamLinkChange (kind speed width : Nat)
  /-- LANTERN_MIRROR_UPDATE (R25): On every Lantern clock edge the LANT registers are copied into the Core-domain mirror that reads return. -/
  | lanternMirrorUpdate
  /-- DOWNSTREAM_PORT_CHANGE (R397): A device connects to, disconnects from, or signals resume on a hub downstream port. -/
  | downstreamPortChange (k kind speed : Nat)
  /-- USB_STANDARD_REQUEST (R395): The host sends a standard USB request such as SET_ADDRESS, SET_CONFIGURATION or SET_FEATURE to the hub or Yalcel. -/
  | usbStandardRequest (dev : Nat) (r : UsbReq) (done : Bool)
  /-- PD_SWAP_RESPONSE_RECEIVE (R413): The partner answers a swap that this port asked for with Accept, Reject or Wait. -/
  | pdSwapResponseReceive (n ans : Nat)
  /-- PD_SWAP_RETRY (R414): 100 ms after withdrawing its colliding swap request, a Sink asks again if it still wants the swap. -/
  | pdSwapRetry (n : Nat)
  /-- REKEY_OVERDUE (R172): The key reaches REKEYMIN before the phase switch, so the transmitter sends only KEYX frames and the rekey-overdue event is raised. -/
  | rekeyOverdue (p : Nat)
deriving DecidableEq, Repr

end Sys2Proof
end

