-- ==== Sys2Proof/Config.lean ====
section
/-! DEFINITION. What an implementation, a standard or chance fixes: uninterpreted functions. None has a body, so nothing
can evaluate them and a statement holds whatever they are. -/

namespace Sys2Proof.Config

/-- The n-th random draw of 256 bits (nonces, key material, challenges): a free value. -/
opaque freeRandom : Nat → BitVec 256

/-- The PCI revision ID of every function: the spec gives none. -/
opaque pcieRevision : BitVec 8

/-- The completer ID of a completion the bridge makes for a dock port, a slot or (32 and above) a function: the spec gives none. -/
opaque completerId : Nat → BitVec 16

/-- Bytes of a MAC's transmit buffer (R328) and of its local transmit buffer (Table 18-5): the spec gives no size. -/
opaque macTxBytes : Nat
opaque macLocalBytes : Nat

/-- Whether DRAM requester r asks in round k (R460): what the blocks do with their memory is theirs. -/
opaque dramRequest : Nat → Nat → Bool

/-- Whether Drift input i holds a flit for output o in cycle k (R462): arguments k, o, i. -/
opaque driftRequest : Nat → Nat → Nat → Bool

/-- Offset of the user Hewer pool in Gallery SRAM, in 4 KiB units: Table 18-6 gives its size. -/
opaque userPool : Nat

/-- Which of several equal choices the device takes, where the spec names none (a Rice parameter, a free buffer). -/
opaque pick : List Nat → Nat

/-- ENC, MEN and POLICY (0 or 1) of a bundle that PCX_HOTPLUG opens (R251): the spec names none. -/
opaque bundleFlags : BitVec 3

/-- The frame period a push stream's MODE record gives: the spec names no period for a surface. -/
opaque pushPeriod : Nat

/-- The keystream protected tiles are stored under (R300): content key, 16 KiB slot, word of the slot. -/
opaque storeStream : BitVec 256 → Nat → Nat → BitVec 32

/-- A word of the in-package DRAM that nothing has written since DRAM lost its contents: 16 KiB slot, word of the slot. -/
opaque dramNoise : Nat → Nat → BitVec 32

/-- Whether a protected tile is of content stream Type 1 (R300): no field of its fragment header or of a record carries the type. -/
opaque tileType1 : List (BitVec 8) → Bool

/-- The EDID firmware builds from a monitor's, without its audio blocks (R257). -/
opaque edidNoAudio : List (BitVec 8) → List (BitVec 8)

/-- The HDCP key material that the flash blob holds for a slot, unwrapped under a key (R480); none where the blob holds none. -/
opaque hdcpBlob : BitVec 256 → Nat → Option (List (BitVec 8))

/-- A compressed slice that decodes to black under a picture parameter set: the spec gives none. -/
opaque blackSlice : List (BitVec 8) → List (BitVec 8)

/-- The entry point of HEW1 to HEW17 (R69 step 7): the image header names HEW0's alone. -/
opaque hewerEntry : Nat → Nat

/-- SHA-384 of a byte string (FIPS 180-4, named by R69, R71, R72, R482). -/
opaque sha384 : List (BitVec 8) → BitVec 384

/-- Whether an ECDSA P-384 signature (third) of a digest (second) verifies under a public key (first) (FIPS 186-5). -/
opaque ecdsaVerify : BitVec 768 → BitVec 384 → BitVec 768 → Bool

/-- The ECDSA P-384 signature of a digest (second) under a private key (first); the third argument is the draw. -/
opaque ecdsaSign : BitVec 384 → BitVec 384 → BitVec 256 → BitVec 768

/-- The public key of a P-384 private key. -/
opaque ecPublic : BitVec 384 → BitVec 768

/-- ECDH on P-384 of a private key and a public key. -/
opaque ecdh : BitVec 384 → BitVec 768 → BitVec 384

/-- A P-384 private key made from a random draw. -/
opaque ecKeyGen : BitVec 256 → BitVec 384

/-- KMAC256 (NIST SP 800-185) under a key of a message and a customisation string: so many bytes. -/
opaque kmac256 : List (BitVec 8) → List (BitVec 8) → List (BitVec 8) → Nat → List (BitVec 8)

/-- AES key wrap with padding (RFC 5649) of key material (second) under a key (first). -/
opaque aesKeyWrap : List (BitVec 8) → List (BitVec 8) → List (BitVec 8)

/-- AES key unwrap: none where the integrity check fails. -/
opaque aesKeyUnwrap : List (BitVec 8) → List (BitVec 8) → Option (List (BitVec 8))

/-- AES-256-GCM: ciphertext and tag of a plaintext, from key, nonce, associated data and plaintext. -/
opaque aesGcmSeal : List (BitVec 8) → BitVec 96 → List (BitVec 8) → List (BitVec 8) → List (BitVec 8) × BitVec 128

/-- AES-256-GCM: the plaintext of a ciphertext and its tag, from key, nonce, associated data, where the tag verifies. -/
opaque aesGcmOpen : List (BitVec 8) → BitVec 96 → List (BitVec 8) → List (BitVec 8) → BitVec 128 → Option (List (BitVec 8))

/-- The public key of the leaf of a certificate chain that verifies against a device-CA digest (R171). -/
opaque chainLeaf : BitVec 384 → List (BitVec 8) → Option (BitVec 768)

/-- This device's certificate chain as flash holds it, or as firmware issues it in Blank (R481). -/
opaque deviceChain : List (BitVec 8)

/-- Digest of the test device CA (Table 19-1): fixed in the mask ROM. -/
opaque testCaDigest : BitVec 384

/-- Digest of the firmware key of the test root (R78): fixed in the mask ROM. -/
opaque testFwKeyDigest : BitVec 384

/-- The test root (Table 19-1): fixed in the mask ROM. -/
opaque testRootKey : BitVec 256

/-- A ciphertext of AES-256-GCM turned to plaintext before its tag has been checked: key, nonce, ciphertext. -/
opaque aesCtr : List (BitVec 8) → BitVec 96 → List (BitVec 8) → List (BitVec 8)

/-- The payload of a message whose layout the spec does not give (ownership, events, most management): 1 to 1,024 bytes. -/
opaque msgHead : Msg → BitVec 8
opaque msgTail : Msg → List (BitVec 8)

/-- Where in the PRBS31 sequence the n-th training frame of a port starts (R124): the spec gives no seed. -/
opaque prbsStart : Nat → BitVec 31

/-- Bytes 4 to 7 of the headers of a training frame (R124): requests, status and READY, for which Table 5-3 gives no places. -/
opaque trainTaps : TrainHdr → BitVec 32

end Sys2Proof.Config
end

