-- ==== Sys2Proof/Machine/Flags.lean ====
section
/-! DEFINITION. Check values: the header CRC, the CRC-32 trailer, the check byte of LINK words, and the device's flags of
a frame. -/

namespace Sys2Proof.Machine

/-- `n` steps of a bit-serial CRC register whose most significant bit leaves first. -/
def crcStepsMsb {w : Nat} (poly : BitVec w) : Nat → BitVec w → BitVec w
  | 0, c => c
  | n + 1, c => crcStepsMsb poly n (if c.msb then (c <<< 1) ^^^ poly else c <<< 1)

/-- `n` steps of a reflected CRC-32 register. -/
def crcStepsLsb (poly : BitVec 32) : Nat → BitVec 32 → BitVec 32
  | 0, c => c
  | n + 1, c => crcStepsLsb poly n (if c.getLsbD 0 then (c >>> 1) ^^^ poly else c >>> 1)

/-- HCRC (R147): CRC-16, polynomial 0x8BB7, initial value 0, most significant bit first. -/
def crc16 (bs : List (BitVec 8)) : BitVec 16 :=
  bs.foldl (fun c b => crcStepsMsb 0x8BB7#16 8 (c ^^^ ((BitVec.setWidth 16 b) <<< (8 : Nat)))) 0

/-- The Ethernet FCS (R148): reflected CRC-32. -/
def crc32 (bs : List (BitVec 8)) : BitVec 32 :=
  bs.foldl (fun c b => crcStepsLsb 0xEDB88320#32 8 (c ^^^ b.setWidth 32)) 0xFFFFFFFF#32 ^^^ 0xFFFFFFFF#32

/-- The check byte of a LINK word (R153): CRC-8, polynomial x^8 + x^2 + x + 1. -/
def crc8 (bs : List (BitVec 8)) : BitVec 8 := bs.foldl (fun c b => crcStepsMsb 0x07#8 8 (c ^^^ b)) 0

/-- A bit of FLAGS (Table 6-2). -/
def flagOf (flags n : Nat) : Bool := flags / 2 ^ n % 2 == 1

/-- FLAGS with a bit set or cleared. -/
def setFlag (flags n : Nat) (b : Bool) : Nat :=
  flags - (flags / 2 ^ n % 2) * 2 ^ n + (if b then 2 ^ n else 0)

end Sys2Proof.Machine
end

