-- ==== Sys2Proof/Machine/Operands.lean ====
section
/-! DEFINITION. Operand forms: byte strings and their numbers, the Pelfer header, LINK words, fields of a TLP. -/

namespace Sys2Proof.Machine

/-- The number a byte string spells, least significant byte first. -/
def leNat : List (BitVec 8) → Nat
  | [] => 0
  | b :: t => b.toNat + 256 * leNat t

/-- `n` bytes of a number, least significant first. -/
def leBytes : Nat → Nat → List (BitVec 8)
  | 0, _ => []
  | n + 1, v => BitVec.ofNat 8 v :: leBytes n (v / 256)

/-- The number a byte string spells, most significant byte first. -/
def beNat (bs : List (BitVec 8)) : Nat := leNat bs.reverse

/-- `n` bytes of a number, most significant first. -/
def beBytes (n v : Nat) : List (BitVec 8) := (leBytes n v).reverse

/-- `n` bytes from an offset; missing bytes are left out. -/
def slice {α : Type} (bs : List α) (off n : Nat) : List α := (bs.drop off).take n

/-- A byte at an offset, 0 past the end. -/
def byteAt (bs : List (BitVec 8)) (i : Nat) : Nat := (bs.getD i 0).toNat

/-- The header fields above HCRC as one number (Table 6-1): bits [127:16]. -/
def headerTop (f : Frame) : Nat :=
  f.dst % 64 * 2 ^ 106 + f.src % 64 * 2 ^ 100 + f.tid % 4096 * 2 ^ 88 + f.cls % 8 * 2 ^ 85 + f.kind % 32 * 2 ^ 80 +
    f.len % 16384 * 2 ^ 66 + f.hseq % 4096 * 2 ^ 54 + f.eseq % 65536 * 2 ^ 38 + f.ttl % 64 * 2 ^ 32 +
    f.flags % 256 * 2 ^ 24 + f.rsvd % 2 ^ 24

/-- The header as sent (R144, R147): fields and HCRC. -/
def packHeader (f : Frame) : BitVec 128 :=
  BitVec.ofNat 128 (headerTop f * 65536 + (crc16 (beBytes 14 (headerTop f))).toNat)

/-- Whether HCRC matches the header's first 14 bytes (R147). -/
def headerOk (h : BitVec 128) : Bool := (crc16 (beBytes 14 (h.toNat / 65536))).toNat == h.toNat % 65536

/-- The frame a header and a payload spell (Table 6-1). -/
def unpackHeader (h : BitVec 128) (payload : List (BitVec 8)) : Frame :=
  let n := h.toNat / 65536
  { dst := n / 2 ^ 106 % 64, src := n / 2 ^ 100 % 64, tid := n / 2 ^ 88 % 4096, cls := n / 2 ^ 85 % 8, kind := n / 2 ^ 80 % 32,
    len := n / 2 ^ 66 % 16384, hseq := n / 2 ^ 54 % 4096, eseq := n / 2 ^ 38 % 65536, ttl := n / 2 ^ 32 % 64,
    flags := n / 2 ^ 24 % 256, rsvd := n % 2 ^ 24, payload := payload }

/-- The CRC-32 trailer of a payload as sent (R148), or its stomped form (R152). -/
def trailerOf (payload : List (BitVec 8)) (stomp : Bool) : BitVec 32 :=
  if stomp then crc32 payload ^^^ 0xFFFFFFFF#32 else crc32 payload

/-- The check byte of a LINK word (R153). -/
def linkCheck (kind : Nat) (arg : BitVec 40) : BitVec 8 := crc8 (leBytes 1 kind ++ leBytes 5 arg.toNat)

/-- The argument of an ACK or NAK word: HSEQ in bytes 2 and 3. -/
def ackArg (hseq : Nat) : BitVec 40 := BitVec.ofNat 40 (hseq % 4096)

/-- The argument of a CREDIT word: class in byte 2, limit in bytes 3 and 4. -/
def creditArg (cls limit : Nat) : BitVec 40 := BitVec.ofNat 40 (cls % 8 + 256 * (limit % 65536))

/-- The class limits of Table 6-5. -/
def lenMax (cls : Nat) : Nat := [1024, 9344, 512, 9344, 9344, 9344, 256, 9344].getD cls 0

/-- The classes a KIND allows, whether its TID is 0 (none: either), and whether it is hop-only (Table 6-3). -/
def kindRow (kind : Nat) : Option (List Nat × Option Bool × Bool) :=
  match kind with
  | 0x01 => some ([0], some true, false)
  | 0x02 => some ([0], some true, true)
  | 0x03 => some ([0], some true, false)
  | 0x04 => some ([0], some true, false)
  | 0x05 => some ([0], some true, false)
  | 0x06 => some ([0], some true, false)
  | 0x07 => some ([0], some true, true)
  | 0x08 => some ([1], some false, false)
  | 0x09 => some ([2], some false, false)
  | 0x0A => some ([3], some false, false)
  | 0x0B => some ([7], some false, false)
  | 0x0C => some ([5, 6], some false, false)
  | 0x0D => some ([4], some false, false)
  | 0x0E => some ([4], some false, false)
  | 0x0F => some ([6], none, false)
  | 0x10 => some ([7], some true, false)
  | 0x11 => some ([0, 1, 5], some false, false)
  | _ => none

/-- Whether a frame is hop-only (Table 6-3): TIME is with TID 0. -/
def hopOnly (f : Frame) : Bool :=
  match kindRow f.kind with
  | some (_, _, h) => h || (f.kind == 0x0F && f.tid == 0)
  | none => false

/-- The KIND codes a tunnel type carries (Table 7-1). -/
def typeKinds (typ : Nat) : List Nat :=
  [[0x08], [0x09], [0x0A], [0x0B], [0x0D, 0x0E], [0x0C], [0x0C], [0x0F], [0x11]].getD typ []

/-- Bytes of End-End TLP prefixes before the header. -/
def tlpPrefix : Nat → List (BitVec 8) → Nat
  | 0, _ => 0
  | n + 1, bs => if byteAt bs 0 / 32 = 4 then 4 + tlpPrefix n (bs.drop 4) else 0

/-- A TLP from its header's first byte. -/
def tlpHeader (bs : List (BitVec 8)) : List (BitVec 8) := bs.drop (tlpPrefix 4 bs)

/-- Length in doublewords; 0 spells 1,024. -/
def tlpLen (h : List (BitVec 8)) : Nat :=
  let n := byteAt h 2 % 4 * 256 + byteAt h 3
  if n = 0 then 1024 else n

/-- The bits T9 and T8 of a 10-bit tag. -/
def tlpTagHigh (h : List (BitVec 8)) : Nat := byteAt h 1 / 128 * 512 + byteAt h 1 / 8 % 2 * 256

/-- Requester ID and tag of a request. -/
def tlpReqKey (h : List (BitVec 8)) : Nat × Nat := (byteAt h 4 * 256 + byteAt h 5, tlpTagHigh h + byteAt h 6)

/-- Requester ID and tag a completion answers. -/
def tlpCplKey (h : List (BitVec 8)) : Nat × Nat := (byteAt h 8 * 256 + byteAt h 9, tlpTagHigh h + byteAt h 10)

/-- The completion payload B of a non-posted request (R239). -/
def tlpB (h : List (BitVec 8)) : Nat :=
  let typ := byteAt h 0 % 32
  if typ = 0 ∨ typ = 1 then 4 * tlpLen h
  else if typ = 0x02 ∨ typ = 0x04 ∨ typ = 0x05 then 4
  else if typ = 0x0C ∨ typ = 0x0D then 4 * tlpLen h
  else if typ = 0x0E then 2 * tlpLen h
  else 0

/-- Whether a completion ends its request (R236): status not Successful, or Byte Count equal to its length. -/
def tlpCplLast (h : List (BitVec 8)) : Bool :=
  byteAt h 6 / 32 != 0 ||
    (let bc := byteAt h 6 % 16 * 256 + byteAt h 7
     let got := if byteAt h 0 / 64 = 1 then 4 * tlpLen h - byteAt h 11 % 4 else 4
     decide ((if bc = 0 then 4096 else bc) ≤ got))

/-- Whether a TLP has the Relaxed Ordering attribute. -/
def tlpRelaxed (h : List (BitVec 8)) : Bool := byteAt h 2 / 32 % 2 == 1

/-- Credit units of a size on the link (R158). -/
def unitsOf (size : Nat) : Nat := (size + 63) / 64

end Sys2Proof.Machine
end

