-- ==== Sys2Proof/Machine/Registers.lean ====
section
/-! DEFINITION. The register map of BAR0 (R9, R503, Table 22-2): every register of every block with its offset,
its instances and its fields (bits, access code of R10, reset value), from the field tables of the chapters;
and one named field reference per field, so that a meaning names a field as the manual does. -/

namespace Sys2Proof.Machine

/-- Access codes of R10. `w1cAll` is a counter or field that a 1 in any bit clears whole. -/
inductive Acc where
  | rw | ro | w1c | w1cAll | wo | rwS | roA | rwL
deriving DecidableEq, Repr

/-- One field of a register: least significant bit, width, access code and reset value. -/
structure FieldDesc where
  lo : Nat
  width : Nat
  acc : Acc
  reset : Nat
deriving DecidableEq, Repr

/-- A register, or an array of registers `off + s1 * i + s2 * j`, of a block. -/
structure RegDesc where
  off : Nat
  c1 : Nat
  s1 : Nat
  c2 : Nat
  s2 : Nat
  fields : List FieldDesc
deriving DecidableEq, Repr

/-- A reference to a field: BAR0 address of its register, least significant bit, width. -/
structure Fld where
  addr : Nat
  lo : Nat
  width : Nat
deriving DecidableEq, Repr

/-- The register blocks of Table 22-1. -/
inductive Blk where
  | glb | evt | pwr | lant | key | flt | hwr | mem | adt | drf | tun | sch | fab | crt | tim | pcx | dsc | dso | eth | usb | pd | nic | push | msix
deriving DecidableEq, Repr

/-! ### Register addresses and fields, by block -/
def A.GLB_ID : Nat := 0x0
def F.GLB_ID_STEP : Fld := ⟨A.GLB_ID, 0, 8⟩
def F.GLB_ID_ROLE : Fld := ⟨A.GLB_ID, 8, 2⟩
def F.GLB_ID_PART : Fld := ⟨A.GLB_ID, 16, 16⟩
def A.GLB_SNAP : Nat := 0x40
def F.GLB_SNAP_TAKE : Fld := ⟨A.GLB_SNAP, 0, 1⟩
def F.GLB_SNAP_VIEW : Fld := ⟨A.GLB_SNAP, 1, 1⟩
def F.GLB_SNAP_BUSY : Fld := ⟨A.GLB_SNAP, 2, 1⟩
def F.GLB_SNAP_SEQ : Fld := ⟨A.GLB_SNAP, 8, 8⟩
def F.GLB_SNAP_TAKER : Fld := ⟨A.GLB_SNAP, 16, 6⟩
def A.GLB_SNAP_SEC : Nat := 0x44
def F.GLB_SNAP_SEC_SEC : Fld := ⟨A.GLB_SNAP_SEC, 0, 32⟩
def A.GLB_SNAP_NS : Nat := 0x48
def F.GLB_SNAP_NS_NS : Fld := ⟨A.GLB_SNAP_NS, 0, 30⟩
def A.GLB_IGNWR : Nat := 0x4C
def F.GLB_IGNWR : Fld := ⟨A.GLB_IGNWR, 0, 32⟩
def A.GLB_STRAP : Nat := 0x10
def F.GLB_STRAP_ROLE : Fld := ⟨A.GLB_STRAP, 0, 2⟩
def F.GLB_STRAP_BOOT : Fld := ⟨A.GLB_STRAP, 2, 2⟩
def F.GLB_STRAP_SMBA : Fld := ⟨A.GLB_STRAP, 4, 3⟩
def F.GLB_STRAP_FIDS : Fld := ⟨A.GLB_STRAP, 8, 6⟩
def F.GLB_STRAP_PCIEBIF : Fld := ⟨A.GLB_STRAP, 14, 2⟩
def F.GLB_STRAP_DBRD : Fld := ⟨A.GLB_STRAP, 16, 1⟩
def A.GLB_RST : Nat := 0x18
def F.GLB_RST_KEY : Fld := ⟨A.GLB_RST, 0, 8⟩
def F.GLB_RST_WARM : Fld := ⟨A.GLB_RST, 8, 1⟩
def F.GLB_RST_CORE : Fld := ⟨A.GLB_RST, 9, 1⟩
def A.GLB_BOOT : Nat := 0x20
def F.GLB_BOOT_STAT : Fld := ⟨A.GLB_BOOT, 0, 4⟩
def F.GLB_BOOT_SLOT : Fld := ⟨A.GLB_BOOT, 4, 1⟩
def F.GLB_BOOT_DLOAD : Fld := ⟨A.GLB_BOOT, 5, 1⟩
def F.GLB_BOOT_PERS : Fld := ⟨A.GLB_BOOT, 6, 1⟩
def F.GLB_BOOT_LATE : Fld := ⟨A.GLB_BOOT, 7, 1⟩
def F.GLB_BOOT_READY : Fld := ⟨A.GLB_BOOT, 8, 1⟩
def F.GLB_BOOT_DLFAIL : Fld := ⟨A.GLB_BOOT, 9, 1⟩
def F.GLB_BOOT_BSTRAP : Fld := ⟨A.GLB_BOOT, 10, 1⟩
def F.GLB_BOOT_AFAIL : Fld := ⟨A.GLB_BOOT, 11, 1⟩
def F.GLB_BOOT_BFAIL : Fld := ⟨A.GLB_BOOT, 12, 1⟩
def F.GLB_BOOT_SVNCTR : Fld := ⟨A.GLB_BOOT, 16, 7⟩
def A.GLB_BOOTVER : Nat := 0x24
def F.GLB_BOOTVER_VERSION : Fld := ⟨A.GLB_BOOTVER, 0, 32⟩
def A.GLB_DLEN : Nat := 0x28
def F.GLB_DLEN_LEN : Fld := ⟨A.GLB_DLEN, 0, 24⟩
def A.GLB_UIDLO : Nat := 0x60
def F.GLB_UIDLO_UID : Fld := ⟨A.GLB_UIDLO, 0, 32⟩
def A.GLB_UIDHI : Nat := 0x64
def F.GLB_UIDHI_UID : Fld := ⟨A.GLB_UIDHI, 0, 32⟩
def A.GLB_OWNPRIO : Nat := 0x68
def F.GLB_OWNPRIO_PRIO : Fld := ⟨A.GLB_OWNPRIO, 0, 8⟩
def A.GLB_OWNER : Nat := 0x6C
def F.GLB_OWNER_OWNFID : Fld := ⟨A.GLB_OWNER, 0, 6⟩
def F.GLB_OWNER_STATE : Fld := ⟨A.GLB_OWNER, 8, 2⟩
def F.GLB_OWNER_GEN : Fld := ⟨A.GLB_OWNER, 16, 16⟩
def A.GLB_ALIVE : Nat := 0x70
def F.GLB_ALIVE_TMO : Fld := ⟨A.GLB_ALIVE, 0, 10⟩
def F.GLB_ALIVE_KICK : Fld := ⟨A.GLB_ALIVE, 16, 1⟩
def F.GLB_ALIVE_EXPIRED : Fld := ⟨A.GLB_ALIVE, 17, 1⟩
def A.GLB_RSTCAUSE : Nat := 0x14
def F.GLB_RSTCAUSE_POR : Fld := ⟨A.GLB_RSTCAUSE, 0, 1⟩
def F.GLB_RSTCAUSE_PORST : Fld := ⟨A.GLB_RSTCAUSE, 1, 1⟩
def F.GLB_RSTCAUSE_WARMPIN : Fld := ⟨A.GLB_RSTCAUSE, 2, 1⟩
def F.GLB_RSTCAUSE_SWCORE : Fld := ⟨A.GLB_RSTCAUSE, 3, 1⟩
def F.GLB_RSTCAUSE_SWWARM : Fld := ⟨A.GLB_RSTCAUSE, 4, 1⟩
def F.GLB_RSTCAUSE_RAIL : Fld := ⟨A.GLB_RSTCAUSE, 5, 1⟩
def F.GLB_RSTCAUSE_THERM : Fld := ⟨A.GLB_RSTCAUSE, 6, 1⟩
def F.GLB_RSTCAUSE_BOOTWDT : Fld := ⟨A.GLB_RSTCAUSE, 7, 1⟩
def A.GLB_DBIGN : Nat := 0x50
def F.GLB_DBIGN : Fld := ⟨A.GLB_DBIGN, 0, 32⟩
def A.GLB_CMDIGN : Nat := 0x54
def F.GLB_CMDIGN : Fld := ⟨A.GLB_CMDIGN, 0, 32⟩
def A.GLB_NOWNWR : Nat := 0x58
def F.GLB_NOWNWR : Fld := ⟨A.GLB_NOWNWR, 0, 32⟩
def A.GLB_NOWNCMD : Nat := 0x5C
def F.GLB_NOWNCMD : Fld := ⟨A.GLB_NOWNCMD, 0, 32⟩
def A.GLB_RBASELO (n : Nat) : Nat := 0x1000 + 16 * n
def F.GLB_RBASELO_BASE (n : Nat) : Fld := ⟨A.GLB_RBASELO n, 12, 20⟩
def A.GLB_RBASEHI (n : Nat) : Nat := 0x1004 + 16 * n
def F.GLB_RBASEHI_BASE (n : Nat) : Fld := ⟨A.GLB_RBASEHI n, 0, 32⟩
def A.GLB_RCFG (n : Nat) : Nat := 0x1008 + 16 * n
def F.GLB_RCFG_TYPE (n : Nat) : Fld := ⟨A.GLB_RCFG n, 0, 3⟩
def F.GLB_RCFG_LOG2SZ (n : Nat) : Fld := ⟨A.GLB_RCFG n, 8, 5⟩
def F.GLB_RCFG_VEC (n : Nat) : Fld := ⟨A.GLB_RCFG n, 16, 6⟩
def F.GLB_RCFG_IEN (n : Nat) : Fld := ⟨A.GLB_RCFG n, 22, 1⟩
def F.GLB_RCFG_PAIR (n : Nat) : Fld := ⟨A.GLB_RCFG n, 24, 8⟩
def A.GLB_RIDX (n : Nat) : Nat := 0x100C + 16 * n
def F.GLB_RIDX_DEVIDX (n : Nat) : Fld := ⟨A.GLB_RIDX n, 0, 16⟩
def F.GLB_RIDX_HOSTIDX (n : Nat) : Fld := ⟨A.GLB_RIDX n, 16, 16⟩
def A.EVT_STAT (k : Nat) : Nat := 0x4000 + 4 * k
def F.EVT_STAT_STAT (k : Nat) : Fld := ⟨A.EVT_STAT k, 0, 32⟩
def A.EVT_MASK (k : Nat) : Nat := 0x4040 + 4 * k
def F.EVT_MASK_MASK (k : Nat) : Fld := ⟨A.EVT_MASK k, 0, 32⟩
def A.EVT_GMAP (g : Nat) : Nat := 0x4100 + 4 * g
def F.EVT_GMAP_RING (g : Nat) : Fld := ⟨A.EVT_GMAP g, 0, 8⟩
def F.EVT_GMAP_VEC (g : Nat) : Fld := ⟨A.EVT_GMAP g, 8, 6⟩
def F.EVT_GMAP_EN (g : Nat) : Fld := ⟨A.EVT_GMAP g, 15, 1⟩
def A.EVT_HOLDOFF : Nat := 0x4200
def F.EVT_HOLDOFF_US : Fld := ⟨A.EVT_HOLDOFF, 0, 10⟩
def A.EVT_DROP : Nat := 0x4204
def F.EVT_DROP : Fld := ⟨A.EVT_DROP, 0, 32⟩
def A.ADT_CTRL (p : Nat) : Nat := 0x40000 + 0x10000 * p
def F.ADT_CTRL_EN (p : Nat) : Fld := ⟨A.ADT_CTRL p, 0, 1⟩
def F.ADT_CTRL_RATEMAX (p : Nat) : Fld := ⟨A.ADT_CTRL p, 1, 2⟩
def F.ADT_CTRL_ONELANE (p : Nat) : Fld := ⟨A.ADT_CTRL p, 3, 1⟩
def F.ADT_CTRL_DIMEN (p : Nat) : Fld := ⟨A.ADT_CTRL p, 4, 1⟩
def F.ADT_CTRL_RETRAIN (p : Nat) : Fld := ⟨A.ADT_CTRL p, 5, 1⟩
def F.ADT_CTRL_DARK (p : Nat) : Fld := ⟨A.ADT_CTRL p, 6, 1⟩
def A.ADT_STAT (p : Nat) : Nat := 0x40004 + 0x10000 * p
def F.ADT_STAT_STATE (p : Nat) : Fld := ⟨A.ADT_STAT p, 0, 4⟩
def F.ADT_STAT_RATE (p : Nat) : Fld := ⟨A.ADT_STAT p, 4, 2⟩
def F.ADT_STAT_TXLANES (p : Nat) : Fld := ⟨A.ADT_STAT p, 6, 2⟩
def F.ADT_STAT_RXLANES (p : Nat) : Fld := ⟨A.ADT_STAT p, 8, 2⟩
def F.ADT_STAT_ENC (p : Nat) : Fld := ⟨A.ADT_STAT p, 10, 1⟩
def F.ADT_STAT_TXDIM (p : Nat) : Fld := ⟨A.ADT_STAT p, 11, 1⟩
def F.ADT_STAT_RXDIM (p : Nat) : Fld := ⟨A.ADT_STAT p, 12, 1⟩
def F.ADT_STAT_LASTFAIL (p : Nat) : Fld := ⟨A.ADT_STAT p, 16, 4⟩
def A.ADT_DIMCFG (p : Nat) : Nat := 0x40008 + 0x10000 * p
def F.ADT_DIMCFG_IDLE (p : Nat) : Fld := ⟨A.ADT_DIMCFG p, 0, 10⟩
def A.ADT_ALT (p : Nat) : Nat := 0x4000C + 0x10000 * p
def F.ADT_ALT_SVID (p : Nat) : Fld := ⟨A.ADT_ALT p, 0, 16⟩
def F.ADT_ALT_ENTERED (p : Nat) : Fld := ⟨A.ADT_ALT p, 16, 1⟩
def F.ADT_ALT_ORIENT (p : Nat) : Fld := ⟨A.ADT_ALT p, 17, 1⟩
def F.ADT_ALT_DFP (p : Nat) : Fld := ⟨A.ADT_ALT p, 18, 1⟩
def F.ADT_ALT_ACTCBL (p : Nat) : Fld := ⟨A.ADT_ALT p, 19, 1⟩
def A.ADT_LANE (p : Nat) : Nat := 0x40010 + 0x10000 * p
def F.ADT_LANE_TXUSE (p : Nat) : Fld := ⟨A.ADT_LANE p, 0, 2⟩
def F.ADT_LANE_RXUSE (p : Nat) : Fld := ⟨A.ADT_LANE p, 2, 2⟩
def F.ADT_LANE_RXCAUSE0 (p : Nat) : Fld := ⟨A.ADT_LANE p, 4, 4⟩
def F.ADT_LANE_RXCAUSE1 (p : Nat) : Fld := ⟨A.ADT_LANE p, 8, 4⟩
def F.ADT_LANE_FLAPS0 (p : Nat) : Fld := ⟨A.ADT_LANE p, 12, 2⟩
def F.ADT_LANE_FLAPS1 (p : Nat) : Fld := ⟨A.ADT_LANE p, 14, 2⟩
def F.ADT_LANE_RXHOLD0 (p : Nat) : Fld := ⟨A.ADT_LANE p, 16, 1⟩
def F.ADT_LANE_RXHOLD1 (p : Nat) : Fld := ⟨A.ADT_LANE p, 17, 1⟩
def A.ADT_SKEW (p : Nat) : Nat := 0x40014 + 0x10000 * p
def F.ADT_SKEW_SKEW (p : Nat) : Fld := ⟨A.ADT_SKEW p, 0, 13⟩
def A.ADT_EQ (p : Nat) : Nat := 0x40018 + 0x10000 * p
def F.ADT_EQ_PRE0 (p : Nat) : Fld := ⟨A.ADT_EQ p, 0, 6⟩
def F.ADT_EQ_POST0 (p : Nat) : Fld := ⟨A.ADT_EQ p, 8, 6⟩
def F.ADT_EQ_PRE1 (p : Nat) : Fld := ⟨A.ADT_EQ p, 16, 6⟩
def F.ADT_EQ_POST1 (p : Nat) : Fld := ⟨A.ADT_EQ p, 24, 6⟩
def A.ADT_DEGCFG (p : Nat) : Nat := 0x4001C + 0x10000 * p
def F.ADT_DEGCFG_THR (p : Nat) : Fld := ⟨A.ADT_DEGCFG p, 0, 20⟩
def A.ADT_TRAINCNT (p : Nat) : Nat := 0x40030 + 0x10000 * p
def F.ADT_TRAINCNT_FAIL (p : Nat) : Fld := ⟨A.ADT_TRAINCNT p, 0, 16⟩
def F.ADT_TRAINCNT_DEG (p : Nat) : Fld := ⟨A.ADT_TRAINCNT p, 16, 16⟩
def A.ADT_IGNWR (p : Nat) : Nat := 0x4003C + 0x10000 * p
def F.ADT_IGNWR (p : Nat) : Fld := ⟨A.ADT_IGNWR p, 0, 32⟩
def A.ADT_CAPCFG (p : Nat) : Nat := 0x40080 + 0x10000 * p
def F.ADT_CAPCFG_REQENC (p : Nat) : Fld := ⟨A.ADT_CAPCFG p, 0, 1⟩
def F.ADT_CAPCFG_LSYNC (p : Nat) : Fld := ⟨A.ADT_CAPCFG p, 1, 1⟩
def F.ADT_CAPCFG_TIMECAL (p : Nat) : Fld := ⟨A.ADT_CAPCFG p, 2, 1⟩
def F.ADT_CAPCFG_CLASSES (p : Nat) : Fld := ⟨A.ADT_CAPCFG p, 8, 8⟩
def A.ADT_LLCTRL (p : Nat) : Nat := 0x40100 + 0x10000 * p
def F.ADT_LLCTRL_REPLIM (p : Nat) : Fld := ⟨A.ADT_LLCTRL p, 0, 5⟩
def F.ADT_LLCTRL_E2ETMO (p : Nat) : Fld := ⟨A.ADT_LLCTRL p, 8, 8⟩
def A.ADT_LLSTAT (p : Nat) : Nat := 0x40104 + 0x10000 * p
def F.ADT_LLSTAT_TXHSEQ (p : Nat) : Fld := ⟨A.ADT_LLSTAT p, 0, 12⟩
def F.ADT_LLSTAT_RXHSEQ (p : Nat) : Fld := ⟨A.ADT_LLSTAT p, 16, 12⟩
def F.ADT_LLSTAT_NAKOUT (p : Nat) : Fld := ⟨A.ADT_LLSTAT p, 28, 1⟩
def A.ADT_RPLOCC (p : Nat) : Nat := 0x40108 + 0x10000 * p
def F.ADT_RPLOCC_BYTES (p : Nat) : Fld := ⟨A.ADT_RPLOCC p, 0, 17⟩
def F.ADT_RPLOCC_FRAMES (p : Nat) : Fld := ⟨A.ADT_RPLOCC p, 17, 12⟩
def A.ADT_E2EOCC (p : Nat) : Nat := 0x4010C + 0x10000 * p
def F.ADT_E2EOCC_BYTES (p : Nat) : Fld := ⟨A.ADT_E2EOCC p, 0, 19⟩
def A.ADT_KEYSTAT (p : Nat) : Nat := 0x40190 + 0x10000 * p
def F.ADT_KEYSTAT_KX (p : Nat) : Fld := ⟨A.ADT_KEYSTAT p, 0, 3⟩
def F.ADT_KEYSTAT_TXKPH (p : Nat) : Fld := ⟨A.ADT_KEYSTAT p, 3, 1⟩
def F.ADT_KEYSTAT_RXKPH (p : Nat) : Fld := ⟨A.ADT_KEYSTAT p, 4, 1⟩
def F.ADT_KEYSTAT_KEYS (p : Nat) : Fld := ⟨A.ADT_KEYSTAT p, 16, 16⟩
def A.ADT_KEYCFG (p : Nat) : Nat := 0x40194 + 0x10000 * p
def F.ADT_KEYCFG_REKEYMIN (p : Nat) : Fld := ⟨A.ADT_KEYCFG p, 0, 4⟩
def A.ADT_PEERCAP (p : Nat) (k : Nat) : Nat := 0x40040 + 0x10000 * p + 4 * k
def F.ADT_PEERCAP (p : Nat) (k : Nat) : Fld := ⟨A.ADT_PEERCAP p k, 0, 32⟩
def A.ADT_CRDCFG (p : Nat) (c : Nat) : Nat := 0x40110 + 0x10000 * p + 4 * c
def F.ADT_CRDCFG_UNITS (p : Nat) (c : Nat) : Fld := ⟨A.ADT_CRDCFG p c, 0, 12⟩
def A.ADT_TXCRD (p : Nat) (c : Nat) : Nat := 0x40130 + 0x10000 * p + 4 * c
def F.ADT_TXCRD_AVAIL (p : Nat) (c : Nat) : Fld := ⟨A.ADT_TXCRD p c, 0, 16⟩
def A.ADT_FECCOR0 (p : Nat) : Nat := 0x40020 + 0x10000 * p
def F.ADT_FECCOR0 (p : Nat) : Fld := ⟨A.ADT_FECCOR0 p, 0, 32⟩
def A.ADT_FECCOR1 (p : Nat) : Nat := 0x40024 + 0x10000 * p
def F.ADT_FECCOR1 (p : Nat) : Fld := ⟨A.ADT_FECCOR1 p, 0, 32⟩
def A.ADT_FECUNC0 (p : Nat) : Nat := 0x40028 + 0x10000 * p
def F.ADT_FECUNC0 (p : Nat) : Fld := ⟨A.ADT_FECUNC0 p, 0, 32⟩
def A.ADT_FECUNC1 (p : Nat) : Nat := 0x4002C + 0x10000 * p
def F.ADT_FECUNC1 (p : Nat) : Fld := ⟨A.ADT_FECUNC1 p, 0, 32⟩
def A.ADT_HCRCERR (p : Nat) : Nat := 0x40150 + 0x10000 * p
def F.ADT_HCRCERR (p : Nat) : Fld := ⟨A.ADT_HCRCERR p, 0, 32⟩
def A.ADT_CRCERR (p : Nat) : Nat := 0x40154 + 0x10000 * p
def F.ADT_CRCERR (p : Nat) : Fld := ⟨A.ADT_CRCERR p, 0, 32⟩
def A.ADT_TAGERR (p : Nat) : Nat := 0x40158 + 0x10000 * p
def F.ADT_TAGERR (p : Nat) : Fld := ⟨A.ADT_TAGERR p, 0, 32⟩
def A.ADT_NAKTX (p : Nat) : Nat := 0x4015C + 0x10000 * p
def F.ADT_NAKTX (p : Nat) : Fld := ⟨A.ADT_NAKTX p, 0, 32⟩
def A.ADT_NAKRX (p : Nat) : Nat := 0x40160 + 0x10000 * p
def F.ADT_NAKRX (p : Nat) : Fld := ⟨A.ADT_NAKRX p, 0, 32⟩
def A.ADT_REPLAY (p : Nat) : Nat := 0x40164 + 0x10000 * p
def F.ADT_REPLAY (p : Nat) : Fld := ⟨A.ADT_REPLAY p, 0, 32⟩
def A.ADT_STOMP (p : Nat) : Nat := 0x40168 + 0x10000 * p
def F.ADT_STOMP (p : Nat) : Fld := ⟨A.ADT_STOMP p, 0, 32⟩
def A.ADT_MALFORM (p : Nat) : Nat := 0x4016C + 0x10000 * p
def F.ADT_MALFORM (p : Nat) : Fld := ⟨A.ADT_MALFORM p, 0, 32⟩
def A.ADT_TTLDROP (p : Nat) : Nat := 0x40170 + 0x10000 * p
def F.ADT_TTLDROP (p : Nat) : Fld := ⟨A.ADT_TTLDROP p, 0, 32⟩
def A.ADT_NOTUN (p : Nat) : Nat := 0x40174 + 0x10000 * p
def F.ADT_NOTUN (p : Nat) : Fld := ⟨A.ADT_NOTUN p, 0, 32⟩
def A.ADT_E2EDUP (p : Nat) : Nat := 0x40178 + 0x10000 * p
def F.ADT_E2EDUP (p : Nat) : Fld := ⟨A.ADT_E2EDUP p, 0, 32⟩
def A.ADT_E2EGAP (p : Nat) : Nat := 0x4017C + 0x10000 * p
def F.ADT_E2EGAP (p : Nat) : Fld := ⟨A.ADT_E2EGAP p, 0, 32⟩
def A.ADT_E2EDROP (p : Nat) : Nat := 0x40180 + 0x10000 * p
def F.ADT_E2EDROP (p : Nat) : Fld := ⟨A.ADT_E2EDROP p, 0, 32⟩
def A.ADT_CPLDROP (p : Nat) : Nat := 0x40184 + 0x10000 * p
def F.ADT_CPLDROP (p : Nat) : Fld := ⟨A.ADT_CPLDROP p, 0, 32⟩
def A.ADT_LINKERR (p : Nat) : Nat := 0x40188 + 0x10000 * p
def F.ADT_LINKERR (p : Nat) : Fld := ⟨A.ADT_LINKERR p, 0, 32⟩
def A.TUN_CFG : Nat := 0x80000
def F.TUN_CFG_DRAINTMO : Fld := ⟨A.TUN_CFG, 0, 8⟩
def A.TUN_STAT : Nat := 0x80004
def F.TUN_STAT_USED : Fld := ⟨A.TUN_STAT, 0, 11⟩
def F.TUN_STAT_TIDFREE : Fld := ⟨A.TUN_STAT, 16, 12⟩
def F.TUN_STAT_MAPVALID : Fld := ⟨A.TUN_STAT, 28, 1⟩
def A.TUN_IGNWR : Nat := 0x80008
def F.TUN_IGNWR : Fld := ⟨A.TUN_IGNWR, 0, 32⟩
def A.TUN_TRNOCTX : Nat := 0x8000C
def F.TUN_TRNOCTX : Fld := ⟨A.TUN_TRNOCTX, 0, 32⟩
def A.TUN_TOOLONG : Nat := 0x80010
def F.TUN_TOOLONG : Fld := ⟨A.TUN_TOOLONG, 0, 32⟩
def A.SCH_CTRL (p : Nat) : Nat := 0xA0000 + 0x10000 * p
def F.SCH_CTRL_OBSEN (p : Nat) : Fld := ⟨A.SCH_CTRL p, 0, 1⟩
def F.SCH_CTRL_YELPOOL (p : Nat) : Fld := ⟨A.SCH_CTRL p, 8, 9⟩
def A.SCH_EPOCH (p : Nat) : Nat := 0xA0004 + 0x10000 * p
def F.SCH_EPOCH_LEN (p : Nat) : Fld := ⟨A.SCH_EPOCH p, 0, 14⟩
def A.SCH_EPOCHA (p : Nat) : Nat := 0xA0008 + 0x10000 * p
def F.SCH_EPOCHA_LEN (p : Nat) : Fld := ⟨A.SCH_EPOCHA p, 0, 14⟩
def A.SCH_STAT (p : Nat) : Nat := 0xA000C + 0x10000 * p
def F.SCH_STAT_PEND (p : Nat) : Fld := ⟨A.SCH_STAT p, 0, 1⟩
def F.SCH_STAT_LOCK (p : Nat) : Fld := ⟨A.SCH_STAT p, 1, 1⟩
def F.SCH_STAT_MODE (p : Nat) : Fld := ⟨A.SCH_STAT p, 2, 1⟩
def F.SCH_STAT_METPEND (p : Nat) : Fld := ⟨A.SCH_STAT p, 3, 1⟩
def F.SCH_STAT_ACTQ (p : Nat) : Fld := ⟨A.SCH_STAT p, 16, 11⟩
def A.SCH_SLOT (p : Nat) : Nat := 0xA0010 + 0x10000 * p
def F.SCH_SLOT_SLOTPS (p : Nat) : Fld := ⟨A.SCH_SLOT p, 0, 20⟩
def F.SCH_SLOT_POINTER (p : Nat) : Fld := ⟨A.SCH_SLOT p, 20, 10⟩
def A.SCH_DRAIN (p : Nat) : Nat := 0xA0014 + 0x10000 * p
def F.SCH_DRAIN_LAST (p : Nat) : Fld := ⟨A.SCH_DRAIN p, 0, 16⟩
def F.SCH_DRAIN_MAX (p : Nat) : Fld := ⟨A.SCH_DRAIN p, 16, 16⟩
def A.SCH_OBSCFG (p : Nat) : Nat := 0xA0018 + 0x10000 * p
def F.SCH_OBSCFG_INTERVAL (p : Nat) : Fld := ⟨A.SCH_OBSCFG p, 0, 10⟩
def F.SCH_OBSCFG_HWCLR (p : Nat) : Fld := ⟨A.SCH_OBSCFG p, 16, 1⟩
def A.SCH_COMMITS (p : Nat) : Nat := 0xA001C + 0x10000 * p
def F.SCH_COMMITS (p : Nat) : Fld := ⟨A.SCH_COMMITS p, 0, 32⟩
def A.SCH_IGNWR (p : Nat) : Nat := 0xA0020 + 0x10000 * p
def F.SCH_IGNWR (p : Nat) : Fld := ⟨A.SCH_IGNWR p, 0, 32⟩
def A.SCH_CALMIS (p : Nat) : Nat := 0xA0024 + 0x10000 * p
def F.SCH_CALMIS (p : Nat) : Fld := ⟨A.SCH_CALMIS p, 0, 32⟩
def A.SCH_OBSSKIP (p : Nat) : Nat := 0xA0028 + 0x10000 * p
def F.SCH_OBSSKIP (p : Nat) : Fld := ⟨A.SCH_OBSSKIP p, 0, 32⟩
def A.SCH_METHOLD : Nat := 0xA002C
def F.SCH_METHOLD : Fld := ⟨A.SCH_METHOLD, 0, 32⟩
def A.SCH_CSH0 (p : Nat) (c : Nat) : Nat := 0xA0100 + 0x10000 * p + 8 * c
def F.SCH_CSH0_RATE (p : Nat) (c : Nat) : Fld := ⟨A.SCH_CSH0 p c, 0, 17⟩
def A.SCH_CSH1 (p : Nat) (c : Nat) : Nat := 0xA0104 + 0x10000 * p + 8 * c
def F.SCH_CSH1_DEPTH (p : Nat) (c : Nat) : Fld := ⟨A.SCH_CSH1 p c, 0, 14⟩
def A.SCH_CSHA0 (p : Nat) (c : Nat) : Nat := 0xA0140 + 0x10000 * p + 8 * c
def F.SCH_CSHA0_RATE (p : Nat) (c : Nat) : Fld := ⟨A.SCH_CSHA0 p c, 0, 17⟩
def A.SCH_CSHA1 (p : Nat) (c : Nat) : Nat := 0xA0144 + 0x10000 * p + 8 * c
def F.SCH_CSHA1_DEPTH (p : Nat) (c : Nat) : Fld := ⟨A.SCH_CSHA1 p c, 0, 14⟩
def A.SCH_SHP0 (p : Nat) (q : Nat) : Nat := 0xA5000 + 0x10000 * p + 8 * q
def F.SCH_SHP0_RATE (p : Nat) (q : Nat) : Fld := ⟨A.SCH_SHP0 p q, 0, 17⟩
def A.SCH_SHP1 (p : Nat) (q : Nat) : Nat := 0xA5004 + 0x10000 * p + 8 * q
def F.SCH_SHP1_DEPTH (p : Nat) (q : Nat) : Fld := ⟨A.SCH_SHP1 p q, 0, 14⟩
def A.SCH_SHPA0 (p : Nat) (q : Nat) : Nat := 0xA7000 + 0x10000 * p + 8 * q
def F.SCH_SHPA0_RATE (p : Nat) (q : Nat) : Fld := ⟨A.SCH_SHPA0 p q, 0, 17⟩
def A.SCH_SHPA1 (p : Nat) (q : Nat) : Nat := 0xA7004 + 0x10000 * p + 8 * q
def F.SCH_SHPA1_DEPTH (p : Nat) (q : Nat) : Fld := ⟨A.SCH_SHPA1 p q, 0, 14⟩
def A.SCH_CAL (p : Nat) (s : Nat) : Nat := 0xA1000 + 0x10000 * p + 4 * s
def F.SCH_CAL_INDEX (p : Nat) (s : Nat) : Fld := ⟨A.SCH_CAL p s, 0, 10⟩
def F.SCH_CAL_KIND (p : Nat) (s : Nat) : Fld := ⟨A.SCH_CAL p s, 12, 2⟩
def A.SCH_CALA (p : Nat) (s : Nat) : Nat := 0xA2000 + 0x10000 * p + 4 * s
def F.SCH_CALA_INDEX (p : Nat) (s : Nat) : Fld := ⟨A.SCH_CALA p s, 0, 10⟩
def F.SCH_CALA_KIND (p : Nat) (s : Nat) : Fld := ⟨A.SCH_CALA p s, 12, 2⟩
def A.SCH_WGT (p : Nat) (q : Nat) : Nat := 0xA3000 + 0x10000 * p + 4 * q
def F.SCH_WGT_WEIGHT (p : Nat) (q : Nat) : Fld := ⟨A.SCH_WGT p q, 0, 16⟩
def A.SCH_WGTA (p : Nat) (q : Nat) : Nat := 0xA4000 + 0x10000 * p + 4 * q
def F.SCH_WGTA_WEIGHT (p : Nat) (q : Nat) : Fld := ⟨A.SCH_WGTA p q, 0, 16⟩
def A.SCH_HW0 (p : Nat) (q : Nat) : Nat := 0xA9000 + 0x10000 * p + 8 * q
def F.SCH_HW0_MAXDEPTH (p : Nat) (q : Nat) : Fld := ⟨A.SCH_HW0 p q, 0, 32⟩
def A.SCH_HW1 (p : Nat) (q : Nat) : Nat := 0xA9004 + 0x10000 * p + 8 * q
def F.SCH_HW1_MAXDELAY (p : Nat) (q : Nat) : Fld := ⟨A.SCH_HW1 p q, 0, 32⟩
def A.SCH_MET0 (m : Nat) : Nat := 0xAB000 + 8 * m
def F.SCH_MET0_CIR (m : Nat) : Fld := ⟨A.SCH_MET0 m, 0, 17⟩
def F.SCH_MET0_CBS (m : Nat) : Fld := ⟨A.SCH_MET0 m, 17, 14⟩
def F.SCH_MET0_EN (m : Nat) : Fld := ⟨A.SCH_MET0 m, 31, 1⟩
def A.SCH_MET1 (m : Nat) : Nat := 0xAB004 + 8 * m
def F.SCH_MET1_PIR (m : Nat) : Fld := ⟨A.SCH_MET1 m, 0, 17⟩
def F.SCH_MET1_PBS (m : Nat) : Fld := ⟨A.SCH_MET1 m, 17, 14⟩
def F.SCH_MET1_AWARE (m : Nat) : Fld := ⟨A.SCH_MET1 m, 31, 1⟩
def A.SCH_META0 (m : Nat) : Nat := 0xAD000 + 8 * m
def F.SCH_META0_CIR (m : Nat) : Fld := ⟨A.SCH_META0 m, 0, 17⟩
def F.SCH_META0_CBS (m : Nat) : Fld := ⟨A.SCH_META0 m, 17, 14⟩
def F.SCH_META0_EN (m : Nat) : Fld := ⟨A.SCH_META0 m, 31, 1⟩
def A.SCH_META1 (m : Nat) : Nat := 0xAD004 + 8 * m
def F.SCH_META1_PIR (m : Nat) : Fld := ⟨A.SCH_META1 m, 0, 17⟩
def F.SCH_META1_PBS (m : Nat) : Fld := ⟨A.SCH_META1 m, 17, 14⟩
def F.SCH_META1_AWARE (m : Nat) : Fld := ⟨A.SCH_META1 m, 31, 1⟩
def A.PCX_ID : Nat := 0x100000
def F.PCX_ID_VID : Fld := ⟨A.PCX_ID, 0, 16⟩
def F.PCX_ID_DID : Fld := ⟨A.PCX_ID, 16, 16⟩
def A.PCX_SSID : Nat := 0x100004
def F.PCX_SSID_SSVID : Fld := ⟨A.PCX_SSID, 0, 16⟩
def F.PCX_SSID_SSID : Fld := ⟨A.PCX_SSID, 16, 16⟩
def A.PCX_CTRL : Nat := 0x100008
def F.PCX_CTRL_CLKMODE : Fld := ⟨A.PCX_CTRL, 0, 2⟩
def F.PCX_CTRL_MAXSPEED : Fld := ⟨A.PCX_CTRL, 2, 3⟩
def F.PCX_CTRL_AEREN : Fld := ⟨A.PCX_CTRL, 5, 1⟩
def F.PCX_CTRL_RAEN : Fld := ⟨A.PCX_CTRL, 6, 1⟩
def A.PCX_STAT : Nat := 0x10000C
def F.PCX_STAT_LINKUP : Fld := ⟨A.PCX_STAT, 0, 1⟩
def F.PCX_STAT_SPEED : Fld := ⟨A.PCX_STAT, 1, 3⟩
def F.PCX_STAT_WIDTH : Fld := ⟨A.PCX_STAT, 4, 3⟩
def F.PCX_STAT_HRST : Fld := ⟨A.PCX_STAT, 7, 1⟩
def A.PCX_SBPOLL : Nat := 0x100010
def F.PCX_SBPOLL_US : Fld := ⟨A.PCX_SBPOLL, 0, 10⟩
def A.PCX_CTO : Nat := 0x100014
def F.PCX_CTO_MS : Fld := ⟨A.PCX_CTO, 0, 10⟩
def A.PCX_PELHEAD : Nat := 0x100080
def F.PCX_PELHEAD_NEXT : Fld := ⟨A.PCX_PELHEAD, 0, 6⟩
def A.PCX_PDLHEAD : Nat := 0x100084
def F.PCX_PDLHEAD_NEXT : Fld := ⟨A.PCX_PDLHEAD, 0, 5⟩
def A.PCX_PORTCFG : Nat := 0x100018
def F.PCX_PORTCFG_PRGPIO0 : Fld := ⟨A.PCX_PORTCFG, 0, 3⟩
def F.PCX_PORTCFG_PREN0 : Fld := ⟨A.PCX_PORTCFG, 3, 1⟩
def F.PCX_PORTCFG_PWRGPIO0 : Fld := ⟨A.PCX_PORTCFG, 4, 3⟩
def F.PCX_PORTCFG_PWREN0 : Fld := ⟨A.PCX_PORTCFG, 7, 1⟩
def F.PCX_PORTCFG_PRGPIO1 : Fld := ⟨A.PCX_PORTCFG, 8, 3⟩
def F.PCX_PORTCFG_PREN1 : Fld := ⟨A.PCX_PORTCFG, 11, 1⟩
def F.PCX_PORTCFG_PWRGPIO1 : Fld := ⟨A.PCX_PORTCFG, 12, 3⟩
def F.PCX_PORTCFG_PWREN1 : Fld := ⟨A.PCX_PORTCFG, 15, 1⟩
def F.PCX_PORTCFG_PRGPIO2 : Fld := ⟨A.PCX_PORTCFG, 16, 3⟩
def F.PCX_PORTCFG_PREN2 : Fld := ⟨A.PCX_PORTCFG, 19, 1⟩
def F.PCX_PORTCFG_PWRGPIO2 : Fld := ⟨A.PCX_PORTCFG, 20, 3⟩
def F.PCX_PORTCFG_PWREN2 : Fld := ⟨A.PCX_PORTCFG, 23, 1⟩
def F.PCX_PORTCFG_PRGPIO3 : Fld := ⟨A.PCX_PORTCFG, 24, 3⟩
def F.PCX_PORTCFG_PREN3 : Fld := ⟨A.PCX_PORTCFG, 27, 1⟩
def F.PCX_PORTCFG_PWRGPIO3 : Fld := ⟨A.PCX_PORTCFG, 28, 3⟩
def F.PCX_PORTCFG_PWREN3 : Fld := ⟨A.PCX_PORTCFG, 31, 1⟩
def A.PCX_PORTSTAT (k : Nat) : Nat := 0x100020 + 4 * k
def F.PCX_PORTSTAT_LINKUP (k : Nat) : Fld := ⟨A.PCX_PORTSTAT k, 0, 1⟩
def F.PCX_PORTSTAT_SPEED (k : Nat) : Fld := ⟨A.PCX_PORTSTAT k, 1, 3⟩
def F.PCX_PORTSTAT_WIDTH (k : Nat) : Fld := ⟨A.PCX_PORTSTAT k, 4, 3⟩
def F.PCX_PORTSTAT_PRSNT (k : Nat) : Fld := ⟨A.PCX_PORTSTAT k, 7, 1⟩
def F.PCX_PORTSTAT_DISABLED (k : Nat) : Fld := ⟨A.PCX_PORTSTAT k, 8, 1⟩
def F.PCX_PORTSTAT_BOUND (k : Nat) : Fld := ⟨A.PCX_PORTSTAT k, 9, 1⟩
def F.PCX_PORTSTAT_TID (k : Nat) : Fld := ⟨A.PCX_PORTSTAT k, 16, 12⟩
def A.PCX_SLOT (k : Nat) : Nat := 0x100040 + 4 * k
def F.PCX_SLOT_BOUND (k : Nat) : Fld := ⟨A.PCX_SLOT k, 0, 1⟩
def F.PCX_SLOT_PRSNT (k : Nat) : Fld := ⟨A.PCX_SLOT k, 1, 1⟩
def F.PCX_SLOT_DLLA (k : Nat) : Fld := ⟨A.PCX_SLOT k, 2, 1⟩
def F.PCX_SLOT_RAEN (k : Nat) : Fld := ⟨A.PCX_SLOT k, 3, 1⟩
def F.PCX_SLOT_PCCOFF (k : Nat) : Fld := ⟨A.PCX_SLOT k, 4, 1⟩
def F.PCX_SLOT_DOCKFID (k : Nat) : Fld := ⟨A.PCX_SLOT k, 8, 6⟩
def F.PCX_SLOT_DOCKPORT (k : Nat) : Fld := ⟨A.PCX_SLOT k, 14, 2⟩
def F.PCX_SLOT_TID (k : Nat) : Fld := ⟨A.PCX_SLOT k, 16, 12⟩
def A.PCX_IGNWR : Nat := 0x100090
def F.PCX_IGNWR : Fld := ⟨A.PCX_IGNWR, 0, 32⟩
def A.PCX_PELCNT : Nat := 0x100094
def F.PCX_PELCNT : Fld := ⟨A.PCX_PELCNT, 0, 32⟩
def A.PCX_PDCNT : Nat := 0x100098
def F.PCX_PDCNT : Fld := ⟨A.PCX_PDCNT, 0, 32⟩
def A.PCX_CPLSYN : Nat := 0x10009C
def F.PCX_CPLSYN : Fld := ⟨A.PCX_CPLSYN, 0, 32⟩
def A.PCX_UNEXCPL : Nat := 0x1000A0
def F.PCX_UNEXCPL : Fld := ⟨A.PCX_UNEXCPL, 0, 32⟩
def A.PCX_MGMTTO : Nat := 0x1000A4
def F.PCX_MGMTTO : Fld := ⟨A.PCX_MGMTTO, 0, 32⟩
def A.PCX_NOTEDROP : Nat := 0x1000A8
def F.PCX_NOTEDROP : Fld := ⟨A.PCX_NOTEDROP, 0, 32⟩
def A.PCX_PEL0 (e : Nat) : Nat := 0x101000 + 32 * e
def F.PCX_PEL0_TID (e : Nat) : Fld := ⟨A.PCX_PEL0 e, 0, 12⟩
def F.PCX_PEL0_REASON (e : Nat) : Fld := ⟨A.PCX_PEL0 e, 12, 4⟩
def F.PCX_PEL0_LEN (e : Nat) : Fld := ⟨A.PCX_PEL0 e, 16, 13⟩
def F.PCX_PEL0_VALID (e : Nat) : Fld := ⟨A.PCX_PEL0 e, 31, 1⟩
def A.PCX_PEL1 (e : Nat) : Nat := 0x101004 + 32 * e
def F.PCX_PEL1_ADDR (e : Nat) : Fld := ⟨A.PCX_PEL1 e, 0, 32⟩
def A.PCX_PEL2 (e : Nat) : Nat := 0x101008 + 32 * e
def F.PCX_PEL2_ADDRHI (e : Nat) : Fld := ⟨A.PCX_PEL2 e, 0, 32⟩
def A.PCX_PEL3 (e : Nat) : Nat := 0x10100C + 32 * e
def F.PCX_PEL3_SEC (e : Nat) : Fld := ⟨A.PCX_PEL3 e, 0, 32⟩
def A.PCX_PEL4 (e : Nat) : Nat := 0x101010 + 32 * e
def F.PCX_PEL4_NS (e : Nat) : Fld := ⟨A.PCX_PEL4 e, 0, 30⟩
def A.PCX_PEL5 (e : Nat) : Nat := 0x101014 + 32 * e
def F.PCX_PEL5_RID (e : Nat) : Fld := ⟨A.PCX_PEL5 e, 0, 16⟩
def A.PCX_PEL6 (e : Nat) : Nat := 0x101018 + 32 * e
def A.PCX_PEL7 (e : Nat) : Nat := 0x10101C + 32 * e
def A.PCX_PDL0 (e : Nat) : Nat := 0x101800 + 16 * e
def F.PCX_PDL0_ADDR (e : Nat) : Fld := ⟨A.PCX_PDL0 e, 0, 32⟩
def A.PCX_PDL1 (e : Nat) : Nat := 0x101804 + 16 * e
def F.PCX_PDL1_ADDRHI (e : Nat) : Fld := ⟨A.PCX_PDL1 e, 0, 32⟩
def A.PCX_PDL2 (e : Nat) : Nat := 0x101808 + 16 * e
def F.PCX_PDL2_LEN (e : Nat) : Fld := ⟨A.PCX_PDL2 e, 0, 10⟩
def F.PCX_PDL2_SLOT (e : Nat) : Fld := ⟨A.PCX_PDL2 e, 10, 4⟩
def F.PCX_PDL2_CAUSE (e : Nat) : Fld := ⟨A.PCX_PDL2 e, 14, 3⟩
def F.PCX_PDL2_VALID (e : Nat) : Fld := ⟨A.PCX_PDL2 e, 31, 1⟩
def A.PCX_PDL3 (e : Nat) : Nat := 0x10180C + 16 * e
def F.PCX_PDL3_NS (e : Nat) : Fld := ⟨A.PCX_PDL3 e, 0, 30⟩
def A.DSC_IGNWR : Nat := 0x110010
def F.DSC_IGNWR : Fld := ⟨A.DSC_IGNWR, 0, 32⟩
def A.DSC_SKIPTILE : Nat := 0x110014
def F.DSC_SKIPTILE : Fld := ⟨A.DSC_SKIPTILE, 0, 32⟩
def A.DSC_AUDDROP : Nat := 0x110018
def F.DSC_AUDDROP : Fld := ⟨A.DSC_AUDDROP, 0, 32⟩
def A.DSC_PROTBLK : Nat := 0x11001C
def F.DSC_PROTBLK : Fld := ⟨A.DSC_PROTBLK, 0, 32⟩
def A.DSC_DECERR : Nat := 0x110020
def F.DSC_DECERR : Fld := ⟨A.DSC_DECERR, 0, 32⟩
def A.DSC_IN_CTRL (k : Nat) : Nat := 0x110100 + 64 * k
def F.DSC_IN_CTRL_EN (k : Nat) : Fld := ⟨A.DSC_IN_CTRL k, 0, 1⟩
def F.DSC_IN_CTRL_HPD (k : Nat) : Fld := ⟨A.DSC_IN_CTRL k, 1, 1⟩
def F.DSC_IN_CTRL_IRQ (k : Nat) : Fld := ⟨A.DSC_IN_CTRL k, 2, 1⟩
def F.DSC_IN_CTRL_DSCEN (k : Nat) : Fld := ⟨A.DSC_IN_CTRL k, 3, 1⟩
def F.DSC_IN_CTRL_HDCPEN (k : Nat) : Fld := ⟨A.DSC_IN_CTRL k, 4, 1⟩
def F.DSC_IN_CTRL_VRR (k : Nat) : Fld := ⟨A.DSC_IN_CTRL k, 5, 1⟩
def F.DSC_IN_CTRL_MAXRATE (k : Nat) : Fld := ⟨A.DSC_IN_CTRL k, 6, 3⟩
def F.DSC_IN_CTRL_MAXLANES (k : Nat) : Fld := ⟨A.DSC_IN_CTRL k, 9, 2⟩
def A.DSC_IN_STAT (k : Nat) : Nat := 0x110104 + 64 * k
def F.DSC_IN_STAT_TRAINED (k : Nat) : Fld := ⟨A.DSC_IN_STAT k, 0, 1⟩
def F.DSC_IN_STAT_RATE (k : Nat) : Fld := ⟨A.DSC_IN_STAT k, 1, 3⟩
def F.DSC_IN_STAT_LANES (k : Nat) : Fld := ⟨A.DSC_IN_STAT k, 4, 3⟩
def F.DSC_IN_STAT_VIDEO (k : Nat) : Fld := ⟨A.DSC_IN_STAT k, 7, 1⟩
def F.DSC_IN_STAT_FMT (k : Nat) : Fld := ⟨A.DSC_IN_STAT k, 8, 2⟩
def F.DSC_IN_STAT_BPC (k : Nat) : Fld := ⟨A.DSC_IN_STAT k, 10, 2⟩
def F.DSC_IN_STAT_DSC (k : Nat) : Fld := ⟨A.DSC_IN_STAT k, 12, 1⟩
def F.DSC_IN_STAT_HDCPAUTH (k : Nat) : Fld := ⟨A.DSC_IN_STAT k, 13, 1⟩
def F.DSC_IN_STAT_HDCPENC (k : Nat) : Fld := ⟨A.DSC_IN_STAT k, 14, 1⟩
def F.DSC_IN_STAT_BLOCKED (k : Nat) : Fld := ⟨A.DSC_IN_STAT k, 15, 1⟩
def A.DSC_IN_MODE (k : Nat) : Nat := 0x110108 + 64 * k
def F.DSC_IN_MODE_HACT (k : Nat) : Fld := ⟨A.DSC_IN_MODE k, 0, 13⟩
def F.DSC_IN_MODE_VACT (k : Nat) : Fld := ⟨A.DSC_IN_MODE k, 16, 13⟩
def A.DSC_IN_PERIOD (k : Nat) : Nat := 0x11010C + 64 * k
def F.DSC_IN_PERIOD_NS (k : Nat) : Fld := ⟨A.DSC_IN_PERIOD k, 0, 26⟩
def A.DSC_IN_SWEEP (k : Nat) : Nat := 0x110110 + 64 * k
def F.DSC_IN_SWEEP_N (k : Nat) : Fld := ⟨A.DSC_IN_SWEEP k, 0, 8⟩
def F.DSC_IN_SWEEP_NEFF (k : Nat) : Fld := ⟨A.DSC_IN_SWEEP k, 16, 8⟩
def A.DSC_IN_INVAL (k : Nat) : Nat := 0x11011C + 64 * k
def F.DSC_IN_INVAL_INVAL (k : Nat) : Fld := ⟨A.DSC_IN_INVAL k, 0, 1⟩
def A.DSC_IN_FRAME (k : Nat) : Nat := 0x110114 + 64 * k
def F.DSC_IN_FRAME (k : Nat) : Fld := ⟨A.DSC_IN_FRAME k, 0, 32⟩
def A.DSC_IN_TILES (k : Nat) : Nat := 0x110118 + 64 * k
def F.DSC_IN_TILES (k : Nat) : Fld := ⟨A.DSC_IN_TILES k, 0, 32⟩
def A.DSC_EDID (k : Nat) (w : Nat) : Nat := 0x111000 + 512 * k + 4 * w
def F.DSC_EDID (k : Nat) (w : Nat) : Fld := ⟨A.DSC_EDID k w, 0, 32⟩
def A.DSO_IGNWR : Nat := 0x120000
def F.DSO_IGNWR : Fld := ⟨A.DSO_IGNWR, 0, 32⟩
def A.DSO_UNDERRUN : Nat := 0x120004
def F.DSO_UNDERRUN : Fld := ⟨A.DSO_UNDERRUN, 0, 32⟩
def A.DSO_SUPERSEDE : Nat := 0x120008
def F.DSO_SUPERSEDE : Fld := ⟨A.DSO_SUPERSEDE, 0, 32⟩
def A.DSO_INCOMPL : Nat := 0x12000C
def F.DSO_INCOMPL : Fld := ⟨A.DSO_INCOMPL, 0, 32⟩
def A.DSO_OUT_CTRL (k : Nat) : Nat := 0x120100 + 64 * k
def F.DSO_OUT_CTRL_EN (k : Nat) : Fld := ⟨A.DSO_OUT_CTRL k, 0, 1⟩
def F.DSO_OUT_CTRL_UPD (k : Nat) : Fld := ⟨A.DSO_OUT_CTRL k, 1, 1⟩
def F.DSO_OUT_CTRL_HELD (k : Nat) : Fld := ⟨A.DSO_OUT_CTRL k, 2, 1⟩
def F.DSO_OUT_CTRL_GENLOCK (k : Nat) : Fld := ⟨A.DSO_OUT_CTRL k, 3, 1⟩
def F.DSO_OUT_CTRL_BUFS (k : Nat) : Fld := ⟨A.DSO_OUT_CTRL k, 4, 1⟩
def F.DSO_OUT_CTRL_AUTOTIM (k : Nat) : Fld := ⟨A.DSO_OUT_CTRL k, 5, 1⟩
def F.DSO_OUT_CTRL_HDCPEN (k : Nat) : Fld := ⟨A.DSO_OUT_CTRL k, 6, 1⟩
def F.DSO_OUT_CTRL_BPC10 (k : Nat) : Fld := ⟨A.DSO_OUT_CTRL k, 7, 1⟩
def F.DSO_OUT_CTRL_REFRESH (k : Nat) : Fld := ⟨A.DSO_OUT_CTRL k, 8, 1⟩
def A.DSO_OUT_STAT (k : Nat) : Nat := 0x120104 + 64 * k
def F.DSO_OUT_STAT_STATE (k : Nat) : Fld := ⟨A.DSO_OUT_STAT k, 0, 3⟩
def F.DSO_OUT_STAT_RATE (k : Nat) : Fld := ⟨A.DSO_OUT_STAT k, 3, 3⟩
def F.DSO_OUT_STAT_LANES (k : Nat) : Fld := ⟨A.DSO_OUT_STAT k, 6, 2⟩
def F.DSO_OUT_STAT_HPD (k : Nat) : Fld := ⟨A.DSO_OUT_STAT k, 8, 1⟩
def F.DSO_OUT_STAT_PEND (k : Nat) : Fld := ⟨A.DSO_OUT_STAT k, 9, 1⟩
def F.DSO_OUT_STAT_BUILD (k : Nat) : Fld := ⟨A.DSO_OUT_STAT k, 10, 1⟩
def F.DSO_OUT_STAT_ARMED (k : Nat) : Fld := ⟨A.DSO_OUT_STAT k, 11, 1⟩
def F.DSO_OUT_STAT_GLOCK (k : Nat) : Fld := ⟨A.DSO_OUT_STAT k, 12, 1⟩
def F.DSO_OUT_STAT_HDCP (k : Nat) : Fld := ⟨A.DSO_OUT_STAT k, 13, 2⟩
def F.DSO_OUT_STAT_MUTE (k : Nat) : Fld := ⟨A.DSO_OUT_STAT k, 15, 1⟩
def F.DSO_OUT_STAT_ERR (k : Nat) : Fld := ⟨A.DSO_OUT_STAT k, 16, 4⟩
def A.DSO_OUT_FS (k : Nat) : Nat := 0x120108 + 64 * k
def F.DSO_OUT_FS_BASE (k : Nat) : Fld := ⟨A.DSO_OUT_FS k, 0, 11⟩
def F.DSO_OUT_FS_BUFSZ (k : Nat) : Fld := ⟨A.DSO_OUT_FS k, 16, 7⟩
def A.DSO_OUT_PCLK (k : Nat) : Nat := 0x12011C + 64 * k
def F.DSO_OUT_PCLK_KHZ (k : Nat) : Fld := ⟨A.DSO_OUT_PCLK k, 0, 22⟩
def A.DSO_OUT_FLIPNS (k : Nat) : Nat := 0x120134 + 64 * k
def F.DSO_OUT_FLIPNS_NS (k : Nat) : Fld := ⟨A.DSO_OUT_FLIPNS k, 0, 30⟩
def A.DSO_OUT_GLERR (k : Nat) : Nat := 0x120138 + 64 * k
def F.DSO_OUT_GLERR_ERR (k : Nat) : Fld := ⟨A.DSO_OUT_GLERR k, 0, 32⟩
def A.DSO_OUT_H (k : Nat) : Nat := 0x12010C + 64 * k
def F.DSO_OUT_H_ACT (k : Nat) : Fld := ⟨A.DSO_OUT_H k, 0, 13⟩
def F.DSO_OUT_H_TOTAL (k : Nat) : Fld := ⟨A.DSO_OUT_H k, 16, 13⟩
def A.DSO_OUT_V (k : Nat) : Nat := 0x120114 + 64 * k
def F.DSO_OUT_V_ACT (k : Nat) : Fld := ⟨A.DSO_OUT_V k, 0, 13⟩
def F.DSO_OUT_V_TOTAL (k : Nat) : Fld := ⟨A.DSO_OUT_V k, 16, 13⟩
def A.DSO_OUT_HS (k : Nat) : Nat := 0x120110 + 64 * k
def F.DSO_OUT_HS_START (k : Nat) : Fld := ⟨A.DSO_OUT_HS k, 0, 13⟩
def F.DSO_OUT_HS_WIDTH (k : Nat) : Fld := ⟨A.DSO_OUT_HS k, 16, 10⟩
def F.DSO_OUT_HS_POL (k : Nat) : Fld := ⟨A.DSO_OUT_HS k, 31, 1⟩
def A.DSO_OUT_VS (k : Nat) : Nat := 0x120118 + 64 * k
def F.DSO_OUT_VS_START (k : Nat) : Fld := ⟨A.DSO_OUT_VS k, 0, 13⟩
def F.DSO_OUT_VS_WIDTH (k : Nat) : Fld := ⟨A.DSO_OUT_VS k, 16, 10⟩
def F.DSO_OUT_VS_POL (k : Nat) : Fld := ⟨A.DSO_OUT_VS k, 31, 1⟩
def A.DSO_OUT_GLPER (k : Nat) : Nat := 0x120120 + 64 * k
def F.DSO_OUT_GLPER_NS (k : Nat) : Fld := ⟨A.DSO_OUT_GLPER k, 0, 26⟩
def A.DSO_OUT_GLPH (k : Nat) : Nat := 0x120124 + 64 * k
def F.DSO_OUT_GLPH_NS (k : Nat) : Fld := ⟨A.DSO_OUT_GLPH k, 0, 26⟩
def A.DSO_OUT_FRAMECNT (k : Nat) : Nat := 0x120128 + 64 * k
def F.DSO_OUT_FRAMECNT (k : Nat) : Fld := ⟨A.DSO_OUT_FRAMECNT k, 0, 32⟩
def A.DSO_OUT_SHOWN (k : Nat) : Nat := 0x12012C + 64 * k
def F.DSO_OUT_SHOWN (k : Nat) : Fld := ⟨A.DSO_OUT_SHOWN k, 0, 32⟩
def A.DSO_OUT_FLIPSEC (k : Nat) : Nat := 0x120130 + 64 * k
def F.DSO_OUT_FLIPSEC (k : Nat) : Fld := ⟨A.DSO_OUT_FLIPSEC k, 0, 32⟩
def A.TIM_CTRL : Nat := 0xF0000
def F.TIM_CTRL_SERVOEN : Fld := ⟨A.TIM_CTRL, 0, 1⟩
def F.TIM_CTRL_EXTSRC : Fld := ⟨A.TIM_CTRL, 1, 2⟩
def F.TIM_CTRL_PPSOUTEN : Fld := ⟨A.TIM_CTRL, 3, 1⟩
def A.TIM_STAT : Nat := 0xF0004
def F.TIM_STAT_STATE : Fld := ⟨A.TIM_STAT, 0, 2⟩
def F.TIM_STAT_CLASS : Fld := ⟨A.TIM_STAT, 2, 2⟩
def F.TIM_STAT_SLAVEPORT : Fld := ⟨A.TIM_STAT, 4, 2⟩
def F.TIM_STAT_GMFID : Fld := ⟨A.TIM_STAT, 8, 6⟩
def F.TIM_STAT_STEPS : Fld := ⟨A.TIM_STAT, 16, 8⟩
def F.TIM_STAT_PSTATE : Fld := ⟨A.TIM_STAT, 24, 6⟩
def A.TIM_SERVO : Nat := 0xF0020
def F.TIM_SERVO_KP : Fld := ⟨A.TIM_SERVO, 0, 4⟩
def F.TIM_SERVO_KI : Fld := ⟨A.TIM_SERVO, 4, 4⟩
def F.TIM_SERVO_DLIM : Fld := ⟨A.TIM_SERVO, 8, 8⟩
def A.TIM_LSYNC : Nat := 0xF0024
def F.TIM_LSYNC_US : Fld := ⟨A.TIM_LSYNC, 0, 20⟩
def A.TIM_PRIO : Nat := 0xF0028
def F.TIM_PRIO_PRIO : Fld := ⟨A.TIM_PRIO, 0, 8⟩
def A.TIM_ALARM : Nat := 0xF0038
def F.TIM_ALARM_NS : Fld := ⟨A.TIM_ALARM, 0, 16⟩
def A.TIM_SETNS : Nat := 0xF0068
def F.TIM_SETNS_NS : Fld := ⟨A.TIM_SETNS, 0, 30⟩
def F.TIM_SETNS_GO : Fld := ⟨A.TIM_SETNS, 31, 1⟩
def A.TIM_PPSINNS : Nat := 0xF0070
def F.TIM_PPSINNS_NS : Fld := ⟨A.TIM_PPSINNS, 0, 30⟩
def F.TIM_PPSINNS_VALID : Fld := ⟨A.TIM_PPSINNS, 31, 1⟩
def A.TIM_PPSOUT : Nat := 0xF0074
def F.TIM_PPSOUT_WIDTH : Fld := ⟨A.TIM_PPSOUT, 0, 30⟩
def A.TIM_PROBE : Nat := 0xF0090
def F.TIM_PROBE_TID : Fld := ⟨A.TIM_PROBE, 0, 12⟩
def F.TIM_PROBE_GO : Fld := ⟨A.TIM_PROBE, 31, 1⟩
def A.TIM_NOWNS : Nat := 0xF0008
def F.TIM_NOWNS_NS : Fld := ⟨A.TIM_NOWNS, 0, 30⟩
def A.TIM_NOWFRAC : Nat := 0xF000C
def F.TIM_NOWFRAC_FRAC : Fld := ⟨A.TIM_NOWFRAC, 0, 16⟩
def A.TIM_NOWSECLO : Nat := 0xF0010
def F.TIM_NOWSECLO_SEC : Fld := ⟨A.TIM_NOWSECLO, 0, 32⟩
def A.TIM_NOWSECHI : Nat := 0xF0014
def F.TIM_NOWSECHI_SEC : Fld := ⟨A.TIM_NOWSECHI, 0, 16⟩
def A.TIM_STEPLO : Nat := 0xF0018
def F.TIM_STEPLO_STEP : Fld := ⟨A.TIM_STEPLO, 0, 32⟩
def A.TIM_STEPHI : Nat := 0xF001C
def F.TIM_STEPHI_STEP : Fld := ⟨A.TIM_STEPHI, 0, 16⟩
def A.TIM_OFFSET : Nat := 0xF002C
def F.TIM_OFFSET : Fld := ⟨A.TIM_OFFSET, 0, 32⟩
def A.TIM_DELAY : Nat := 0xF0030
def F.TIM_DELAY : Fld := ⟨A.TIM_DELAY, 0, 32⟩
def A.TIM_EXTOFF : Nat := 0xF0034
def F.TIM_EXTOFF : Fld := ⟨A.TIM_EXTOFF, 0, 32⟩
def A.TIM_TXCOR (n : Nat) : Nat := 0xF0040 + 8 * n
def F.TIM_TXCOR_FRAC (n : Nat) : Fld := ⟨A.TIM_TXCOR n, 0, 16⟩
def F.TIM_TXCOR_NS (n : Nat) : Fld := ⟨A.TIM_TXCOR n, 16, 16⟩
def A.TIM_RXCOR (n : Nat) : Nat := 0xF0044 + 8 * n
def F.TIM_RXCOR_FRAC (n : Nat) : Fld := ⟨A.TIM_RXCOR n, 0, 16⟩
def F.TIM_RXCOR_NS (n : Nat) : Fld := ⟨A.TIM_RXCOR n, 16, 16⟩
def A.TIM_SETSECLO : Nat := 0xF0060
def F.TIM_SETSECLO_SEC : Fld := ⟨A.TIM_SETSECLO, 0, 32⟩
def A.TIM_SETSECHI : Nat := 0xF0064
def F.TIM_SETSECHI_SEC : Fld := ⟨A.TIM_SETSECHI, 0, 16⟩
def A.TIM_TRIG (k : Nat) : Nat := 0xF0080 + 4 * k
def F.TIM_TRIG_ARMED (k : Nat) : Fld := ⟨A.TIM_TRIG k, 0, 1⟩
def F.TIM_TRIG_STAGED (k : Nat) : Fld := ⟨A.TIM_TRIG k, 1, 1⟩
def F.TIM_TRIG_LATE (k : Nat) : Fld := ⟨A.TIM_TRIG k, 2, 1⟩
def F.TIM_TRIG_FIRED (k : Nat) : Fld := ⟨A.TIM_TRIG k, 16, 16⟩
def A.TIM_IGNWR : Nat := 0xF00A0
def F.TIM_IGNWR : Fld := ⟨A.TIM_IGNWR, 0, 32⟩
def A.TIM_SMPREJ : Nat := 0xF00A4
def F.TIM_SMPREJ : Fld := ⟨A.TIM_SMPREJ, 0, 32⟩
def A.ETH_CTRL (p : Nat) : Nat := 0x130000 + 0x8000 * p
def F.ETH_CTRL_MODE (p : Nat) : Fld := ⟨A.ETH_CTRL p, 0, 2⟩
def F.ETH_CTRL_FEC (p : Nat) : Fld := ⟨A.ETH_CTRL p, 2, 2⟩
def F.ETH_CTRL_PAUSETX (p : Nat) : Fld := ⟨A.ETH_CTRL p, 4, 1⟩
def F.ETH_CTRL_PAUSERX (p : Nat) : Fld := ⟨A.ETH_CTRL p, 5, 1⟩
def F.ETH_CTRL_PTPLOCAL (p : Nat) : Fld := ⟨A.ETH_CTRL p, 6, 1⟩
def F.ETH_CTRL_DEIMARK (p : Nat) : Fld := ⟨A.ETH_CTRL p, 7, 1⟩
def A.ETH_STAT (p : Nat) : Nat := 0x130004 + 0x8000 * p
def F.ETH_STAT_LINK (p : Nat) : Fld := ⟨A.ETH_STAT p, 0, 1⟩
def F.ETH_STAT_SPEED (p : Nat) : Fld := ⟨A.ETH_STAT p, 1, 3⟩
def F.ETH_STAT_PAUSED (p : Nat) : Fld := ⟨A.ETH_STAT p, 4, 1⟩
def A.ETH_GLINT0 (p : Nat) : Nat := 0x130010 + 0x8000 * p
def F.ETH_GLINT0_TSID (p : Nat) : Fld := ⟨A.ETH_GLINT0 p, 0, 8⟩
def F.ETH_GLINT0_VALID (p : Nat) : Fld := ⟨A.ETH_GLINT0 p, 8, 1⟩
def F.ETH_GLINT0_FRAC (p : Nat) : Fld := ⟨A.ETH_GLINT0 p, 16, 16⟩
def A.ETH_GLSTAT (p : Nat) : Nat := 0x130020 + 0x8000 * p
def F.ETH_GLSTAT_COUNT (p : Nat) : Fld := ⟨A.ETH_GLSTAT p, 0, 7⟩
def F.ETH_GLSTAT_OVF (p : Nat) : Fld := ⟨A.ETH_GLSTAT p, 8, 1⟩
def A.ETH_TXCOR (p : Nat) : Nat := 0x130008 + 0x8000 * p
def F.ETH_TXCOR_FRAC (p : Nat) : Fld := ⟨A.ETH_TXCOR p, 0, 16⟩
def F.ETH_TXCOR_NS (p : Nat) : Fld := ⟨A.ETH_TXCOR p, 16, 16⟩
def A.ETH_RXCOR (p : Nat) : Nat := 0x13000C + 0x8000 * p
def F.ETH_RXCOR_FRAC (p : Nat) : Fld := ⟨A.ETH_RXCOR p, 0, 16⟩
def F.ETH_RXCOR_NS (p : Nat) : Fld := ⟨A.ETH_RXCOR p, 16, 16⟩
def A.ETH_GLINT1 (p : Nat) : Nat := 0x130014 + 0x8000 * p
def F.ETH_GLINT1 (p : Nat) : Fld := ⟨A.ETH_GLINT1 p, 0, 32⟩
def A.ETH_GLINT2 (p : Nat) : Nat := 0x130018 + 0x8000 * p
def F.ETH_GLINT2 (p : Nat) : Fld := ⟨A.ETH_GLINT2 p, 0, 32⟩
def A.ETH_GLINT3 (p : Nat) : Nat := 0x13001C + 0x8000 * p
def F.ETH_GLINT3 (p : Nat) : Fld := ⟨A.ETH_GLINT3 p, 0, 32⟩
def A.ETH_MDIO : Nat := 0x130024
def F.ETH_MDIO_DATA : Fld := ⟨A.ETH_MDIO, 0, 16⟩
def F.ETH_MDIO_REG : Fld := ⟨A.ETH_MDIO, 16, 5⟩
def F.ETH_MDIO_PHYAD : Fld := ⟨A.ETH_MDIO, 21, 5⟩
def F.ETH_MDIO_C45 : Fld := ⟨A.ETH_MDIO, 26, 1⟩
def F.ETH_MDIO_OP : Fld := ⟨A.ETH_MDIO, 27, 2⟩
def F.ETH_MDIO_BUSY : Fld := ⟨A.ETH_MDIO, 30, 1⟩
def F.ETH_MDIO_GO : Fld := ⟨A.ETH_MDIO, 31, 1⟩
def A.ETH_IGNWR (p : Nat) : Nat := 0x130030 + 0x8000 * p
def F.ETH_IGNWR (p : Nat) : Fld := ⟨A.ETH_IGNWR p, 0, 32⟩
def A.ETH_RXDROP (p : Nat) : Nat := 0x130034 + 0x8000 * p
def F.ETH_RXDROP (p : Nat) : Fld := ⟨A.ETH_RXDROP p, 0, 32⟩
def A.ETH_FCSERR (p : Nat) : Nat := 0x130038 + 0x8000 * p
def F.ETH_FCSERR (p : Nat) : Fld := ⟨A.ETH_FCSERR p, 0, 32⟩
def A.ETH_TXDROP (p : Nat) : Nat := 0x13003C + 0x8000 * p
def F.ETH_TXDROP (p : Nat) : Fld := ⟨A.ETH_TXDROP p, 0, 32⟩
def A.ETH_GLDROP (p : Nat) : Nat := 0x130040 + 0x8000 * p
def F.ETH_GLDROP (p : Nat) : Fld := ⟨A.ETH_GLDROP p, 0, 32⟩
def A.ETH_TCSKIP (p : Nat) : Nat := 0x130044 + 0x8000 * p
def F.ETH_TCSKIP (p : Nat) : Fld := ⟨A.ETH_TCSKIP p, 0, 32⟩
def A.CRT_CFG : Nat := 0xE0000
def F.CRT_CFG_MINLEAD : Fld := ⟨A.CRT_CFG, 0, 10⟩
def F.CRT_CFG_LEAD : Fld := ⟨A.CRT_CFG, 16, 4⟩
def A.CRT_STAT : Nat := 0xE0004
def F.CRT_STAT_INFLIGHT : Fld := ⟨A.CRT_STAT, 0, 5⟩
def F.CRT_STAT_COORD : Fld := ⟨A.CRT_STAT, 8, 5⟩
def F.CRT_STAT_HOLD : Fld := ⟨A.CRT_STAT, 16, 5⟩
def A.CRT_LASTLATE : Nat := 0xE0008
def F.CRT_LASTLATE_NS : Fld := ⟨A.CRT_LASTLATE, 0, 32⟩
def A.CRT_IGNWR : Nat := 0xE0010
def F.CRT_IGNWR : Fld := ⟨A.CRT_IGNWR, 0, 32⟩
def A.CRT_COMMITS : Nat := 0xE0014
def F.CRT_COMMITS : Fld := ⟨A.CRT_COMMITS, 0, 32⟩
def A.CRT_ABORTS : Nat := 0xE0018
def F.CRT_ABORTS : Fld := ⟨A.CRT_ABORTS, 0, 32⟩
def A.CRT_LATE : Nat := 0xE001C
def F.CRT_LATE : Fld := ⟨A.CRT_LATE, 0, 32⟩
def A.CRT_REFUSED : Nat := 0xE0020
def F.CRT_REFUSED : Fld := ⟨A.CRT_REFUSED, 0, 32⟩
def A.CRT_SLOT0 (k : Nat) : Nat := 0xE0100 + 16 * k
def F.CRT_SLOT0_ID (k : Nat) : Fld := ⟨A.CRT_SLOT0 k, 0, 16⟩
def F.CRT_SLOT0_COORDFID (k : Nat) : Fld := ⟨A.CRT_SLOT0 k, 16, 6⟩
def F.CRT_SLOT0_ISCOORD (k : Nat) : Fld := ⟨A.CRT_SLOT0 k, 22, 1⟩
def F.CRT_SLOT0_STATE (k : Nat) : Fld := ⟨A.CRT_SLOT0 k, 24, 3⟩
def F.CRT_SLOT0_DECISION (k : Nat) : Fld := ⟨A.CRT_SLOT0 k, 27, 2⟩
def A.CRT_SLOT1 (k : Nat) : Nat := 0xE0104 + 16 * k
def F.CRT_SLOT1_NACT (k : Nat) : Fld := ⟨A.CRT_SLOT1 k, 0, 9⟩
def A.CRT_SLOT2 (k : Nat) : Nat := 0xE0108 + 16 * k
def F.CRT_SLOT2_SEC (k : Nat) : Fld := ⟨A.CRT_SLOT2 k, 0, 32⟩
def A.CRT_SLOT3 (k : Nat) : Nat := 0xE010C + 16 * k
def F.CRT_SLOT3_NS (k : Nat) : Fld := ⟨A.CRT_SLOT3 k, 0, 30⟩
def A.FAB_CFG : Nat := 0xD0000
def F.FAB_CFG_SETTLE : Fld := ⟨A.FAB_CFG, 0, 3⟩
def F.FAB_CFG_AUTOFID : Fld := ⟨A.FAB_CFG, 8, 1⟩
def A.FAB_ID : Nat := 0xD0004
def F.FAB_ID_FID : Fld := ⟨A.FAB_ID, 0, 6⟩
def F.FAB_ID_SRC : Fld := ⟨A.FAB_ID, 8, 3⟩
def F.FAB_ID_STATE : Fld := ⟨A.FAB_ID, 12, 2⟩
def F.FAB_ID_QCAUSE : Fld := ⟨A.FAB_ID, 16, 4⟩
def F.FAB_ID_ROOT : Fld := ⟨A.FAB_ID, 24, 6⟩
def A.FAB_NVFID : Nat := 0xD0008
def F.FAB_NVFID_FID : Fld := ⟨A.FAB_NVFID, 0, 6⟩
def A.FAB_STAT : Nat := 0xD000C
def F.FAB_STAT_NDEV : Fld := ⟨A.FAB_STAT, 0, 6⟩
def F.FAB_STAT_NHOST : Fld := ⟨A.FAB_STAT, 8, 3⟩
def F.FAB_STAT_NQUAR : Fld := ⟨A.FAB_STAT, 16, 6⟩
def A.FAB_TREE : Nat := 0xD0040
def F.FAB_TREE_PORTS : Fld := ⟨A.FAB_TREE, 0, 3⟩
def F.FAB_TREE_PARENT : Fld := ⟨A.FAB_TREE, 4, 2⟩
def F.FAB_TREE_PARENTV : Fld := ⟨A.FAB_TREE, 6, 1⟩
def A.FAB_DBGEN : Nat := 0xD0010
def F.FAB_DBGEN : Fld := ⟨A.FAB_DBGEN, 0, 32⟩
def A.FAB_INSTSEC : Nat := 0xD0014
def F.FAB_INSTSEC : Fld := ⟨A.FAB_INSTSEC, 0, 32⟩
def A.FAB_INSTNS : Nat := 0xD0018
def F.FAB_INSTNS : Fld := ⟨A.FAB_INSTNS, 0, 32⟩
def A.FAB_IGNWR : Nat := 0xD0020
def F.FAB_IGNWR : Fld := ⟨A.FAB_IGNWR, 0, 32⟩
def A.FAB_NOROUTE : Nat := 0xD0024
def F.FAB_NOROUTE : Fld := ⟨A.FAB_NOROUTE, 0, 32⟩
def A.FAB_ENCDROP : Nat := 0xD0028
def F.FAB_ENCDROP : Fld := ⟨A.FAB_ENCDROP, 0, 32⟩
def A.FAB_INSTDROP : Nat := 0xD002C
def F.FAB_INSTDROP : Fld := ⟨A.FAB_INSTDROP, 0, 32⟩
def A.FAB_FAILOVER : Nat := 0xD0030
def F.FAB_FAILOVER : Fld := ⟨A.FAB_FAILOVER, 0, 32⟩
def A.FAB_LATEINST : Nat := 0xD0034
def F.FAB_LATEINST : Fld := ⟨A.FAB_LATEINST, 0, 32⟩
def A.FAB_RT (d : Nat) : Nat := 0xD0100 + 4 * d
def F.FAB_RT_PRI (d : Nat) : Fld := ⟨A.FAB_RT d, 0, 2⟩
def F.FAB_RT_PRIV (d : Nat) : Fld := ⟨A.FAB_RT d, 2, 1⟩
def F.FAB_RT_ALT (d : Nat) : Fld := ⟨A.FAB_RT d, 3, 2⟩
def F.FAB_RT_ALTV (d : Nat) : Fld := ⟨A.FAB_RT d, 5, 1⟩
def F.FAB_RT_UP (d : Nat) : Fld := ⟨A.FAB_RT d, 6, 1⟩
def F.FAB_RT_PRIDOWN (d : Nat) : Fld := ⟨A.FAB_RT d, 7, 1⟩
def F.FAB_RT_CMASK (d : Nat) : Fld := ⟨A.FAB_RT d, 8, 8⟩
def F.FAB_RT_NOALT (d : Nat) : Fld := ⟨A.FAB_RT d, 16, 1⟩
def F.FAB_RT_SELF (d : Nat) : Fld := ⟨A.FAB_RT d, 17, 1⟩
def A.FAB_RSET0 (d : Nat) : Nat := 0xD0400 + 32 * d
def F.FAB_RSET0_LINKS (d : Nat) : Fld := ⟨A.FAB_RSET0 d, 0, 32⟩
def A.FAB_RSET1 (d : Nat) : Nat := 0xD0404 + 32 * d
def F.FAB_RSET1_LINKS (d : Nat) : Fld := ⟨A.FAB_RSET1 d, 0, 32⟩
def A.FAB_RSET2 (d : Nat) : Nat := 0xD0408 + 32 * d
def F.FAB_RSET2_LINKS (d : Nat) : Fld := ⟨A.FAB_RSET2 d, 0, 32⟩
def A.FAB_RSET3 (d : Nat) : Nat := 0xD040C + 32 * d
def F.FAB_RSET3_LINKS (d : Nat) : Fld := ⟨A.FAB_RSET3 d, 0, 32⟩
def A.FAB_RSET4 (d : Nat) : Nat := 0xD0410 + 32 * d
def F.FAB_RSET4_LINKS (d : Nat) : Fld := ⟨A.FAB_RSET4 d, 0, 32⟩
def A.FAB_RSET5 (d : Nat) : Nat := 0xD0414 + 32 * d
def F.FAB_RSET5_LINKS (d : Nat) : Fld := ⟨A.FAB_RSET5 d, 0, 32⟩
def A.USB_CTRL : Nat := 0x140000
def F.USB_CTRL_EN : Fld := ⟨A.USB_CTRL, 0, 1⟩
def F.USB_CTRL_UPSEL : Fld := ⟨A.USB_CTRL, 1, 2⟩
def F.USB_CTRL_HSDIS : Fld := ⟨A.USB_CTRL, 3, 1⟩
def F.USB_CTRL_YALEN : Fld := ⟨A.USB_CTRL, 4, 1⟩
def A.USB_STAT : Nat := 0x140004
def F.USB_STAT_UPSRC : Fld := ⟨A.USB_STAT, 0, 2⟩
def F.USB_STAT_USTATE : Fld := ⟨A.USB_STAT, 2, 3⟩
def F.USB_STAT_HS : Fld := ⟨A.USB_STAT, 5, 1⟩
def F.USB_STAT_ADDR : Fld := ⟨A.USB_STAT, 6, 7⟩
def F.USB_STAT_RWEN : Fld := ⟨A.USB_STAT, 13, 1⟩
def F.USB_STAT_MTT : Fld := ⟨A.USB_STAT, 14, 1⟩
def F.USB_STAT_YADDR : Fld := ⟨A.USB_STAT, 16, 7⟩
def F.USB_STAT_YCONF : Fld := ⟨A.USB_STAT, 23, 1⟩
def A.USB_WAKE : Nat := 0x140008
def F.USB_WAKE_REASON : Fld := ⟨A.USB_WAKE, 0, 3⟩
def F.USB_WAKE_PORT : Fld := ⟨A.USB_WAKE, 3, 3⟩
def F.USB_WAKE_PENDING : Fld := ⟨A.USB_WAKE, 6, 1⟩
def F.USB_WAKE_OUTCOME : Fld := ⟨A.USB_WAKE, 7, 2⟩
def A.USB_YALSTAT : Nat := 0x14000C
def F.USB_YALSTAT_FWSTATE : Fld := ⟨A.USB_YALSTAT, 0, 3⟩
def F.USB_YALSTAT_FWERR : Fld := ⟨A.USB_YALSTAT, 8, 3⟩
def A.USB_PORT (k : Nat) : Nat := 0x140010 + 4 * (k - 1)
def F.USB_PORT_CONN (k : Nat) : Fld := ⟨A.USB_PORT k, 0, 1⟩
def F.USB_PORT_EN (k : Nat) : Fld := ⟨A.USB_PORT k, 1, 1⟩
def F.USB_PORT_SUSP (k : Nat) : Fld := ⟨A.USB_PORT k, 2, 1⟩
def F.USB_PORT_OC (k : Nat) : Fld := ⟨A.USB_PORT k, 3, 1⟩
def F.USB_PORT_PWR (k : Nat) : Fld := ⟨A.USB_PORT k, 4, 1⟩
def F.USB_PORT_SPEED (k : Nat) : Fld := ⟨A.USB_PORT k, 5, 2⟩
def F.USB_PORT_TEST (k : Nat) : Fld := ⟨A.USB_PORT k, 7, 1⟩
def A.USB_IGNWR : Nat := 0x140040
def F.USB_IGNWR : Fld := ⟨A.USB_IGNWR, 0, 32⟩
def A.USB_TTOVF : Nat := 0x140044
def F.USB_TTOVF : Fld := ⟨A.USB_TTOVF, 0, 32⟩
def A.USB_CTLABORT : Nat := 0x140048
def F.USB_CTLABORT : Fld := ⟨A.USB_CTLABORT, 0, 32⟩
def A.USB_YALREJ : Nat := 0x14004C
def F.USB_YALREJ : Fld := ⟨A.USB_YALREJ, 0, 32⟩
def A.USB_OCCNT : Nat := 0x140050
def F.USB_OCCNT : Fld := ⟨A.USB_OCCNT, 0, 32⟩
def A.PD_CTRL (p : Nat) : Nat := 0x150000 + 0x4000 * p
def F.PD_CTRL_EN (p : Nat) : Fld := ⟨A.PD_CTRL p, 0, 1⟩
def F.PD_CTRL_PORTROLE (p : Nat) : Fld := ⟨A.PD_CTRL p, 1, 2⟩
def F.PD_CTRL_TRY (p : Nat) : Fld := ⟨A.PD_CTRL p, 3, 2⟩
def F.PD_CTRL_RPCUR (p : Nat) : Fld := ⟨A.PD_CTRL p, 5, 2⟩
def F.PD_CTRL_PREFPR (p : Nat) : Fld := ⟨A.PD_CTRL p, 7, 2⟩
def F.PD_CTRL_PREFDR (p : Nat) : Fld := ⟨A.PD_CTRL p, 9, 2⟩
def F.PD_CTRL_ACCPR (p : Nat) : Fld := ⟨A.PD_CTRL p, 11, 1⟩
def F.PD_CTRL_ACCDR (p : Nat) : Fld := ⟨A.PD_CTRL p, 12, 1⟩
def F.PD_CTRL_ACCVC (p : Nat) : Fld := ⟨A.PD_CTRL p, 13, 1⟩
def F.PD_CTRL_EPREN (p : Nat) : Fld := ⟨A.PD_CTRL p, 14, 1⟩
def F.PD_CTRL_HARDRST (p : Nat) : Fld := ⟨A.PD_CTRL p, 15, 1⟩
def F.PD_CTRL_RELEASE (p : Nat) : Fld := ⟨A.PD_CTRL p, 16, 1⟩
def A.PD_STAT (p : Nat) : Nat := 0x150004 + 0x4000 * p
def F.PD_STAT_STATE (p : Nat) : Fld := ⟨A.PD_STAT p, 0, 4⟩
def F.PD_STAT_PR (p : Nat) : Fld := ⟨A.PD_STAT p, 4, 1⟩
def F.PD_STAT_DR (p : Nat) : Fld := ⟨A.PD_STAT p, 5, 1⟩
def F.PD_STAT_VCONN (p : Nat) : Fld := ⟨A.PD_STAT p, 6, 1⟩
def F.PD_STAT_ORIENT (p : Nat) : Fld := ⟨A.PD_STAT p, 7, 1⟩
def F.PD_STAT_CONTRACT (p : Nat) : Fld := ⟨A.PD_STAT p, 8, 2⟩
def F.PD_STAT_POS (p : Nat) : Fld := ⟨A.PD_STAT p, 10, 4⟩
def F.PD_STAT_DBSINK (p : Nat) : Fld := ⟨A.PD_STAT p, 14, 1⟩
def F.PD_STAT_MISMATCH (p : Nat) : Fld := ⟨A.PD_STAT p, 15, 1⟩
def A.PD_VBUS (p : Nat) : Nat := 0x150008 + 0x4000 * p
def F.PD_VBUS_VBUS (p : Nat) : Fld := ⟨A.PD_VBUS p, 0, 10⟩
def F.PD_VBUS_SYS (p : Nat) : Fld := ⟨A.PD_VBUS p, 16, 10⟩
def A.PD_ISNS (p : Nat) : Nat := 0x15000C + 0x4000 * p
def F.PD_ISNS_CUR (p : Nat) : Fld := ⟨A.PD_ISNS p, 0, 10⟩
def A.PD_CONTRACT (p : Nat) : Nat := 0x150010 + 0x4000 * p
def F.PD_CONTRACT_VOLT (p : Nat) : Fld := ⟨A.PD_CONTRACT p, 0, 12⟩
def F.PD_CONTRACT_CUR (p : Nat) : Fld := ⟨A.PD_CONTRACT p, 12, 10⟩
def A.PD_EPRLIM (p : Nat) : Nat := 0x1500C0 + 0x4000 * p
def F.PD_EPRLIM_PDP (p : Nat) : Fld := ⟨A.PD_EPRLIM p, 0, 8⟩
def F.PD_EPRLIM_MAXV (p : Nat) : Fld := ⟨A.PD_EPRLIM p, 8, 2⟩
def A.PD_MOIST (p : Nat) : Nat := 0x1500D0 + 0x4000 * p
def F.PD_MOIST_THRESH (p : Nat) : Fld := ⟨A.PD_MOIST p, 0, 7⟩
def F.PD_MOIST_EN (p : Nat) : Fld := ⟨A.PD_MOIST p, 7, 1⟩
def F.PD_MOIST_LAST (p : Nat) : Fld := ⟨A.PD_MOIST p, 8, 8⟩
def F.PD_MOIST_DRY (p : Nat) : Fld := ⟨A.PD_MOIST p, 16, 2⟩
def A.PD_VSEL (p : Nat) : Nat := 0x1500D4 + 0x4000 * p
def F.PD_VSEL_BASE (p : Nat) : Fld := ⟨A.PD_VSEL p, 0, 3⟩
def F.PD_VSEL_WIDTH (p : Nat) : Fld := ⟨A.PD_VSEL p, 3, 3⟩
def A.PD_SRCPDO (p : Nat) (k : Nat) : Nat := 0x150040 + 0x4000 * p + 4 * k
def F.PD_SRCPDO_PDO (p : Nat) (k : Nat) : Fld := ⟨A.PD_SRCPDO p k, 0, 32⟩
def A.PD_SNKPDO (p : Nat) (k : Nat) : Nat := 0x150080 + 0x4000 * p + 4 * k
def F.PD_SNKPDO_PDO (p : Nat) (k : Nat) : Fld := ⟨A.PD_SNKPDO p k, 0, 32⟩
def A.PD_IGNWR (p : Nat) : Nat := 0x1500E0 + 0x4000 * p
def F.PD_IGNWR (p : Nat) : Fld := ⟨A.PD_IGNWR p, 0, 32⟩
def A.PD_HRSTCNT (p : Nat) : Nat := 0x1500E4 + 0x4000 * p
def F.PD_HRSTCNT (p : Nat) : Fld := ⟨A.PD_HRSTCNT p, 0, 32⟩
def A.PD_WETCNT (p : Nat) : Nat := 0x1500E8 + 0x4000 * p
def F.PD_WETCNT (p : Nat) : Fld := ⟨A.PD_WETCNT p, 0, 32⟩
def A.PD_COLLCNT (p : Nat) : Nat := 0x1500EC + 0x4000 * p
def F.PD_COLLCNT (p : Nat) : Fld := ⟨A.PD_COLLCNT p, 0, 32⟩
def A.PD_PROTCNT (p : Nat) : Nat := 0x1500F0 + 0x4000 * p
def F.PD_PROTCNT (p : Nat) : Fld := ⟨A.PD_PROTCNT p, 0, 32⟩
def A.PWR_STAT : Nat := 0x8000
def F.PWR_STAT_CUR : Fld := ⟨A.PWR_STAT, 0, 3⟩
def F.PWR_STAT_TGT : Fld := ⟨A.PWR_STAT, 4, 3⟩
def F.PWR_STAT_PEND : Fld := ⟨A.PWR_STAT, 8, 3⟩
def F.PWR_STAT_PENDV : Fld := ⟨A.PWR_STAT, 11, 1⟩
def F.PWR_STAT_PHASE : Fld := ⟨A.PWR_STAT, 12, 3⟩
def F.PWR_STAT_STEP : Fld := ⟨A.PWR_STAT, 16, 4⟩
def F.PWR_STAT_DEFER : Fld := ⟨A.PWR_STAT, 20, 1⟩
def A.PWR_CFG : Nat := 0x8004
def F.PWR_CFG_DRAMKEEP : Fld := ⟨A.PWR_CFG, 0, 1⟩
def A.PWR_DOMIDLE : Nat := 0x8008
def F.PWR_DOMIDLE_US : Fld := ⟨A.PWR_DOMIDLE, 0, 10⟩
def A.PWR_DOM : Nat := 0x800C
def F.PWR_DOM_POWERED : Fld := ⟨A.PWR_DOM, 0, 12⟩
def F.PWR_DOM_CLOCKED : Fld := ⟨A.PWR_DOM, 16, 12⟩
def A.PWR_LAST : Nat := 0x8010
def F.PWR_LAST_TGT : Fld := ⟨A.PWR_LAST, 0, 3⟩
def F.PWR_LAST_BLOCK : Fld := ⟨A.PWR_LAST, 8, 4⟩
def F.PWR_LAST_CAUSE : Fld := ⟨A.PWR_LAST, 12, 2⟩
def A.PWR_WARN : Nat := 0x8014
def F.PWR_WARN_LEVEL : Fld := ⟨A.PWR_WARN, 0, 4⟩
def A.PWR_PEN : Nat := 0x8018
def F.PWR_PEN_MINMV : Fld := ⟨A.PWR_PEN, 0, 10⟩
def F.PWR_PEN_DURUS : Fld := ⟨A.PWR_PEN, 10, 22⟩
def A.PWR_THRIFTC (c : Nat) : Nat := 0x8020 + 4 * c
def F.PWR_THRIFTC_RATE (c : Nat) : Fld := ⟨A.PWR_THRIFTC c, 0, 17⟩
def A.PWR_IGNWR : Nat := 0x8040
def F.PWR_IGNWR : Fld := ⟨A.PWR_IGNWR, 0, 32⟩
def A.PWR_ABANDON : Nat := 0x8044
def F.PWR_ABANDON : Fld := ⟨A.PWR_ABANDON, 0, 32⟩
def A.PWR_HWFORCE : Nat := 0x8048
def F.PWR_HWFORCE : Fld := ⟨A.PWR_HWFORCE, 0, 32⟩
def A.PWR_THRIFTCNT : Nat := 0x804C
def F.PWR_THRIFTCNT : Fld := ⟨A.PWR_THRIFTCNT, 0, 32⟩
def A.PWR_DOMWAKE : Nat := 0x8050
def F.PWR_DOMWAKE : Fld := ⟨A.PWR_DOMWAKE, 0, 32⟩
def A.LANT_WAKESEL : Nat := 0xC000
def F.LANT_WAKESEL_SMBUS : Fld := ⟨A.LANT_WAKESEL, 0, 1⟩
def F.LANT_WAKESEL_PIN : Fld := ⟨A.LANT_WAKESEL, 1, 4⟩
def F.LANT_WAKESEL_ATTACH : Fld := ⟨A.LANT_WAKESEL, 5, 3⟩
def F.LANT_WAKESEL_PERST : Fld := ⟨A.LANT_WAKESEL, 8, 1⟩
def F.LANT_WAKESEL_POL : Fld := ⟨A.LANT_WAKESEL, 9, 4⟩
def A.LANT_WAKE : Nat := 0xC004
def F.LANT_WAKE_PEND : Fld := ⟨A.LANT_WAKE, 0, 1⟩
def F.LANT_WAKE_SRC : Fld := ⟨A.LANT_WAKE, 1, 9⟩
def F.LANT_WAKE_LATCHED : Fld := ⟨A.LANT_WAKE, 10, 1⟩
def A.LANT_DSTICKS : Nat := 0xC008
def F.LANT_DSTICKS_TICKS : Fld := ⟨A.LANT_DSTICKS, 0, 32⟩
def A.LANT_DSTICKSHI : Nat := 0xC010
def F.LANT_DSTICKSHI_TICKS : Fld := ⟨A.LANT_DSTICKSHI, 0, 16⟩
def A.LANT_IGNWR : Nat := 0xC00C
def F.LANT_IGNWR : Fld := ⟨A.LANT_IGNWR, 0, 32⟩
def A.HWR_CTRL (n : Nat) : Nat := 0x20000 + 1024 * n
def F.HWR_CTRL_RUN (n : Nat) : Fld := ⟨A.HWR_CTRL n, 0, 1⟩
def A.HWR_STAT (n : Nat) : Nat := 0x20004 + 1024 * n
def F.HWR_STAT_STATE (n : Nat) : Fld := ⟨A.HWR_STAT n, 0, 3⟩
def F.HWR_STAT_DUTY (n : Nat) : Fld := ⟨A.HWR_STAT n, 3, 5⟩
def F.HWR_STAT_CAUSE (n : Nat) : Fld := ⟨A.HWR_STAT n, 8, 4⟩
def F.HWR_STAT_MODE (n : Nat) : Fld := ⟨A.HWR_STAT n, 12, 3⟩
def A.HWR_WDT (n : Nat) : Nat := 0x20008 + 1024 * n
def F.HWR_WDT_US (n : Nat) : Fld := ⟨A.HWR_WDT n, 0, 6⟩
def A.HWR_GWIN (n : Nat) : Nat := 0x2000C + 1024 * n
def F.HWR_GWIN_BASE (n : Nat) : Fld := ⟨A.HWR_GWIN n, 0, 10⟩
def F.HWR_GWIN_SIZE (n : Nat) : Fld := ⟨A.HWR_GWIN n, 16, 9⟩
def A.HWR_MBCTL (n : Nat) : Nat := 0x20010 + 1024 * n
def F.HWR_MBCTL_INLEN (n : Nat) : Fld := ⟨A.HWR_MBCTL n, 0, 9⟩
def F.HWR_MBCTL_SEND (n : Nat) : Fld := ⟨A.HWR_MBCTL n, 9, 1⟩
def F.HWR_MBCTL_INFULL (n : Nat) : Fld := ⟨A.HWR_MBCTL n, 10, 1⟩
def F.HWR_MBCTL_OUTLEN (n : Nat) : Fld := ⟨A.HWR_MBCTL n, 16, 9⟩
def A.HWR_EVOVF (n : Nat) : Nat := 0x20014 + 1024 * n
def F.HWR_EVOVF (n : Nat) : Fld := ⟨A.HWR_EVOVF n, 0, 32⟩
def A.HWR_MBIN (n : Nat) (w : Nat) : Nat := 0x20100 + 1024 * n + 4 * w
def F.HWR_MBIN (n : Nat) (w : Nat) : Fld := ⟨A.HWR_MBIN n w, 0, 32⟩
def A.HWR_MBOUT (n : Nat) (w : Nat) : Nat := 0x20200 + 1024 * n + 4 * w
def F.HWR_MBOUT (n : Nat) (w : Nat) : Fld := ⟨A.HWR_MBOUT n w, 0, 32⟩
def A.HWR_MAP (d : Nat) : Nat := 0x26000 + 4 * d
def F.HWR_MAP_HEWER (d : Nat) : Fld := ⟨A.HWR_MAP d, 0, 5⟩
def A.HWR_PTPSEL : Nat := 0x26080
def F.HWR_PTPSEL_TARGET : Fld := ⟨A.HWR_PTPSEL, 0, 5⟩
def A.HWR_IGNWR : Nat := 0x26084
def F.HWR_IGNWR : Fld := ⟨A.HWR_IGNWR, 0, 32⟩
def A.HWR_TAKEOVERS : Nat := 0x26088
def F.HWR_TAKEOVERS : Fld := ⟨A.HWR_TAKEOVERS, 0, 32⟩
def A.MEM_SPILLBASE : Nat := 0x30000
def F.MEM_SPILLBASE_VALUE : Fld := ⟨A.MEM_SPILLBASE, 0, 11⟩
def A.MEM_SPILLSIZE : Nat := 0x30004
def F.MEM_SPILLSIZE_VALUE : Fld := ⟨A.MEM_SPILLSIZE, 0, 11⟩
def A.MEM_SPILLCFG : Nat := 0x30008
def F.MEM_SPILLCFG_HIGH : Fld := ⟨A.MEM_SPILLCFG, 0, 7⟩
def F.MEM_SPILLCFG_LOW : Fld := ⟨A.MEM_SPILLCFG, 8, 7⟩
def A.MEM_SPILLOCC : Nat := 0x3000C
def F.MEM_SPILLOCC_KIB : Fld := ⟨A.MEM_SPILLOCC, 0, 32⟩
def A.MEM_SCRUB : Nat := 0x30010
def F.MEM_SCRUB_MS : Fld := ⟨A.MEM_SCRUB, 0, 16⟩
def A.MEM_GERRADDR : Nat := 0x30014
def F.MEM_GERRADDR_ADDR : Fld := ⟨A.MEM_GERRADDR, 0, 25⟩
def A.MEM_HWIN : Nat := 0x30018
def F.MEM_HWIN_GIB : Fld := ⟨A.MEM_HWIN, 0, 2⟩
def A.MEM_DRAMSTAT : Nat := 0x3001C
def F.MEM_DRAMSTAT_STATE : Fld := ⟨A.MEM_DRAMSTAT, 0, 2⟩
def F.MEM_DRAMSTAT_DOUBLE : Fld := ⟨A.MEM_DRAMSTAT, 2, 1⟩
def F.MEM_DRAMSTAT_TEMP : Fld := ⟨A.MEM_DRAMSTAT, 16, 8⟩
def A.MEM_IGNWR : Nat := 0x30020
def F.MEM_IGNWR : Fld := ⟨A.MEM_IGNWR, 0, 32⟩
def A.MEM_GCOR : Nat := 0x30024
def F.MEM_GCOR : Fld := ⟨A.MEM_GCOR, 0, 32⟩
def A.MEM_GUNC : Nat := 0x30028
def F.MEM_GUNC : Fld := ⟨A.MEM_GUNC, 0, 32⟩
def A.MEM_ARB (r : Nat) : Nat := 0x30100 + 4 * r
def F.MEM_ARB_PRIO (r : Nat) : Fld := ⟨A.MEM_ARB r, 0, 2⟩
def F.MEM_ARB_LIMIT (r : Nat) : Fld := ⟨A.MEM_ARB r, 8, 8⟩
def F.MEM_ARB_MAXWAIT (r : Nat) : Fld := ⟨A.MEM_ARB r, 16, 16⟩
def A.DRF_WAITLIM (i : Nat) : Nat := 0x70000 + 4 * i
def F.DRF_WAITLIM_LIMIT (i : Nat) : Fld := ⟨A.DRF_WAITLIM i, 0, 8⟩
def A.DRF_FORCED (i : Nat) : Nat := 0x70040 + 4 * i
def F.DRF_FORCED (i : Nat) : Fld := ⟨A.DRF_FORCED i, 0, 32⟩
def A.DRF_IGNWR : Nat := 0x70080
def F.DRF_IGNWR : Fld := ⟨A.DRF_IGNWR, 0, 32⟩
def A.KEY_LCS : Nat := 0x10000
def F.KEY_LCS_CUR : Fld := ⟨A.KEY_LCS, 0, 3⟩
def F.KEY_LCS_BURNT : Fld := ⟨A.KEY_LCS, 4, 3⟩
def F.KEY_LCS_PARTIAL : Fld := ⟨A.KEY_LCS, 7, 1⟩
def F.KEY_LCS_ROOT : Fld := ⟨A.KEY_LCS, 8, 2⟩
def F.KEY_LCS_JTAGUNL : Fld := ⟨A.KEY_LCS, 10, 1⟩
def F.KEY_LCS_OTPERR : Fld := ⟨A.KEY_LCS, 11, 1⟩
def F.KEY_LCS_PROGD : Fld := ⟨A.KEY_LCS, 12, 7⟩
def A.KEY_LCREQ : Nat := 0x10004
def F.KEY_LCREQ_TARGET : Fld := ⟨A.KEY_LCREQ, 0, 3⟩
def F.KEY_LCREQ_KEY : Fld := ⟨A.KEY_LCREQ, 8, 8⟩
def A.KEY_NONCECTL : Nat := 0x10008
def F.KEY_NONCECTL_GEN : Fld := ⟨A.KEY_NONCECTL, 0, 1⟩
def F.KEY_NONCECTL_VALID : Fld := ⟨A.KEY_NONCECTL, 1, 1⟩
def A.KEY_CMD : Nat := 0x10040
def F.KEY_CMD_OP : Fld := ⟨A.KEY_CMD, 0, 4⟩
def F.KEY_CMD_BUSY : Fld := ⟨A.KEY_CMD, 30, 1⟩
def F.KEY_CMD_GO : Fld := ⟨A.KEY_CMD, 31, 1⟩
def A.KEY_RES : Nat := 0x10044
def F.KEY_RES_CODE : Fld := ⟨A.KEY_RES, 0, 8⟩
def F.KEY_RES_HANDLE : Fld := ⟨A.KEY_RES, 16, 16⟩
def A.KEY_ROOTH : Nat := 0x10048
def F.KEY_ROOTH_HANDLE : Fld := ⟨A.KEY_ROOTH, 0, 16⟩
def A.KEY_SLOTS : Nat := 0x1004C
def F.KEY_SLOTS_FREE : Fld := ⟨A.KEY_SLOTS, 0, 6⟩
def F.KEY_SLOTS_USED : Fld := ⟨A.KEY_SLOTS, 8, 7⟩
def A.KEY_NONCE (w : Nat) : Nat := 0x10010 + 4 * w
def F.KEY_NONCE (w : Nat) : Fld := ⟨A.KEY_NONCE w, 0, 32⟩
def A.KEY_BUF (w : Nat) : Nat := 0x10100 + 4 * w
def F.KEY_BUF (w : Nat) : Fld := ⟨A.KEY_BUF w, 0, 32⟩
def A.KEY_OTP (w : Nat) : Nat := 0x10400 + 4 * w
def F.KEY_OTP (w : Nat) : Fld := ⟨A.KEY_OTP w, 0, 32⟩
def A.KEY_IGNWR : Nat := 0x10060
def F.KEY_IGNWR : Fld := ⟨A.KEY_IGNWR, 0, 32⟩
def A.KEY_OPERR : Nat := 0x10064
def F.KEY_OPERR : Fld := ⟨A.KEY_OPERR, 0, 32⟩
def A.FLT_CTRL : Nat := 0x14000
def F.FLT_CTRL_GCORLOG : Fld := ⟨A.FLT_CTRL, 0, 1⟩
def A.FLT_SEQ : Nat := 0x14004
def F.FLT_SEQ_NEXT : Fld := ⟨A.FLT_SEQ, 0, 32⟩
def A.FLT_HEAD : Nat := 0x14008
def F.FLT_HEAD_NEXT : Fld := ⟨A.FLT_HEAD, 0, 8⟩
def A.FLT_RDSEQ : Nat := 0x1400C
def F.FLT_RDSEQ_SEQ : Fld := ⟨A.FLT_RDSEQ, 0, 32⟩
def A.FLT_OPEN : Nat := 0x14010
def F.FLT_OPEN_COUNT : Fld := ⟨A.FLT_OPEN, 0, 8⟩
def A.FLT_IGNWR : Nat := 0x14020
def F.FLT_IGNWR : Fld := ⟨A.FLT_IGNWR, 0, 32⟩
def A.FLT_MASKCNT : Nat := 0x14024
def F.FLT_MASKCNT : Fld := ⟨A.FLT_MASKCNT, 0, 32⟩
def A.FLT_VISCNT : Nat := 0x14028
def F.FLT_VISCNT : Fld := ⟨A.FLT_VISCNT, 0, 32⟩
def A.FLT_LOSTCNT : Nat := 0x1402C
def F.FLT_LOSTCNT : Fld := ⟨A.FLT_LOSTCNT, 0, 32⟩
def A.FLT_CLS (c : Nat) : Nat := 0x14040 + 4 * c
def F.FLT_CLS (c : Nat) : Fld := ⟨A.FLT_CLS c, 0, 32⟩
def A.FLT_ENT0 (e : Nat) : Nat := 0x15000 + 32 * e
def F.FLT_ENT0 (e : Nat) : Fld := ⟨A.FLT_ENT0 e, 0, 32⟩
def A.FLT_ENT1 (e : Nat) : Nat := 0x15004 + 32 * e
def F.FLT_ENT1 (e : Nat) : Fld := ⟨A.FLT_ENT1 e, 0, 32⟩
def A.FLT_ENT2 (e : Nat) : Nat := 0x15008 + 32 * e
def F.FLT_ENT2 (e : Nat) : Fld := ⟨A.FLT_ENT2 e, 0, 32⟩
def A.FLT_ENT3 (e : Nat) : Nat := 0x1500C + 32 * e
def F.FLT_ENT3 (e : Nat) : Fld := ⟨A.FLT_ENT3 e, 0, 32⟩
def A.FLT_ENT4 (e : Nat) : Nat := 0x15010 + 32 * e
def F.FLT_ENT4 (e : Nat) : Fld := ⟨A.FLT_ENT4 e, 0, 32⟩
def A.FLT_ENT5 (e : Nat) : Nat := 0x15014 + 32 * e
def F.FLT_ENT5 (e : Nat) : Fld := ⟨A.FLT_ENT5 e, 0, 32⟩
def A.FLT_ENT6 (e : Nat) : Nat := 0x15018 + 32 * e
def F.FLT_ENT6 (e : Nat) : Fld := ⟨A.FLT_ENT6 e, 0, 32⟩
def A.FLT_ENT7 (e : Nat) : Nat := 0x1501C + 32 * e
def F.FLT_ENT7 (e : Nat) : Fld := ⟨A.FLT_ENT7 e, 0, 32⟩
def A.NIC_CTRL (p : Nat) : Nat := 0x1000000 + 0x20000 * p
def F.NIC_CTRL_EN (p : Nat) : Fld := ⟨A.NIC_CTRL p, 0, 1⟩
def F.NIC_CTRL_PROMISC (p : Nat) : Fld := ⟨A.NIC_CTRL p, 1, 1⟩
def F.NIC_CTRL_RSSEN (p : Nat) : Fld := ⟨A.NIC_CTRL p, 2, 1⟩
def F.NIC_CTRL_PTPQ (p : Nat) : Fld := ⟨A.NIC_CTRL p, 4, 4⟩
def A.NIC_MACLO (p : Nat) : Nat := 0x1000004 + 0x20000 * p
def F.NIC_MACLO_ADDR (p : Nat) : Fld := ⟨A.NIC_MACLO p, 0, 32⟩
def A.NIC_MACHI (p : Nat) : Nat := 0x1000008 + 0x20000 * p
def F.NIC_MACHI_ADDR (p : Nat) : Fld := ⟨A.NIC_MACHI p, 0, 16⟩
def A.NIC_STAT (p : Nat) : Nat := 0x100000C + 0x20000 * p
def F.NIC_STAT_LINK (p : Nat) : Fld := ⟨A.NIC_STAT p, 0, 1⟩
def F.NIC_STAT_SPEED (p : Nat) : Fld := ⟨A.NIC_STAT p, 1, 3⟩
def F.NIC_STAT_ETUN (p : Nat) : Fld := ⟨A.NIC_STAT p, 4, 1⟩
def F.NIC_STAT_TTUN (p : Nat) : Fld := ⟨A.NIC_STAT p, 5, 1⟩
def A.NIC_GLINT0 (p : Nat) : Nat := 0x1000010 + 0x20000 * p
def F.NIC_GLINT0_TSID (p : Nat) : Fld := ⟨A.NIC_GLINT0 p, 0, 8⟩
def F.NIC_GLINT0_VALID (p : Nat) : Fld := ⟨A.NIC_GLINT0 p, 8, 1⟩
def F.NIC_GLINT0_FRAC (p : Nat) : Fld := ⟨A.NIC_GLINT0 p, 16, 16⟩
def A.NIC_GLINT1 (p : Nat) : Nat := 0x1000014 + 0x20000 * p
def F.NIC_GLINT1 (p : Nat) : Fld := ⟨A.NIC_GLINT1 p, 0, 32⟩
def A.NIC_GLINT2 (p : Nat) : Nat := 0x1000018 + 0x20000 * p
def F.NIC_GLINT2 (p : Nat) : Fld := ⟨A.NIC_GLINT2 p, 0, 32⟩
def A.NIC_GLINT3 (p : Nat) : Nat := 0x100001C + 0x20000 * p
def F.NIC_GLINT3 (p : Nat) : Fld := ⟨A.NIC_GLINT3 p, 0, 32⟩
def A.NIC_GLSTAT (p : Nat) : Nat := 0x1000020 + 0x20000 * p
def F.NIC_GLSTAT_COUNT (p : Nat) : Fld := ⟨A.NIC_GLSTAT p, 0, 7⟩
def F.NIC_GLSTAT_OVF (p : Nat) : Fld := ⟨A.NIC_GLSTAT p, 8, 1⟩
def A.NIC_GLDROP (p : Nat) : Nat := 0x1000024 + 0x20000 * p
def F.NIC_GLDROP (p : Nat) : Fld := ⟨A.NIC_GLDROP p, 0, 32⟩
def A.NIC_RXDROP (p : Nat) : Nat := 0x1000028 + 0x20000 * p
def F.NIC_RXDROP (p : Nat) : Fld := ⟨A.NIC_RXDROP p, 0, 32⟩
def A.NIC_RSSKEY (p : Nat) (w : Nat) : Nat := 0x1000100 + 0x20000 * p + 4 * w
def F.NIC_RSSKEY_KEY (p : Nat) (w : Nat) : Fld := ⟨A.NIC_RSSKEY p w, 0, 32⟩
def A.NIC_RETA (p : Nat) (w : Nat) : Nat := 0x1000200 + 0x20000 * p + 4 * w
def F.NIC_RETA_QUEUES (p : Nat) (w : Nat) : Fld := ⟨A.NIC_RETA p w, 0, 32⟩
def A.NIC_TXQ_BASELO (p : Nat) (q : Nat) : Nat := 0x1001000 + 0x20000 * p + 32 * q
def F.NIC_TXQ_BASELO_BASE (p : Nat) (q : Nat) : Fld := ⟨A.NIC_TXQ_BASELO p q, 12, 20⟩
def A.NIC_TXQ_BASEHI (p : Nat) (q : Nat) : Nat := 0x1001004 + 0x20000 * p + 32 * q
def F.NIC_TXQ_BASEHI_BASE (p : Nat) (q : Nat) : Fld := ⟨A.NIC_TXQ_BASEHI p q, 0, 32⟩
def A.NIC_TXQ_CFG (p : Nat) (q : Nat) : Nat := 0x1001008 + 0x20000 * p + 32 * q
def F.NIC_TXQ_CFG_EN (p : Nat) (q : Nat) : Fld := ⟨A.NIC_TXQ_CFG p q, 0, 1⟩
def F.NIC_TXQ_CFG_LOG2SZ (p : Nat) (q : Nat) : Fld := ⟨A.NIC_TXQ_CFG p q, 8, 5⟩
def F.NIC_TXQ_CFG_IEN (p : Nat) (q : Nat) : Fld := ⟨A.NIC_TXQ_CFG p q, 22, 1⟩
def A.NIC_TXQ_DB (p : Nat) (q : Nat) : Nat := 0x100100C + 0x20000 * p + 32 * q
def F.NIC_TXQ_DB_HOSTIDX (p : Nat) (q : Nat) : Fld := ⟨A.NIC_TXQ_DB p q, 0, 16⟩
def A.NIC_TXQ_IDX (p : Nat) (q : Nat) : Nat := 0x1001010 + 0x20000 * p + 32 * q
def F.NIC_TXQ_IDX_DEVIDX (p : Nat) (q : Nat) : Fld := ⟨A.NIC_TXQ_IDX p q, 0, 16⟩
def F.NIC_TXQ_IDX_HOSTIDX (p : Nat) (q : Nat) : Fld := ⟨A.NIC_TXQ_IDX p q, 16, 16⟩
def A.NIC_RXQ_BASELO (p : Nat) (q : Nat) : Nat := 0x1002000 + 0x20000 * p + 32 * q
def F.NIC_RXQ_BASELO_BASE (p : Nat) (q : Nat) : Fld := ⟨A.NIC_RXQ_BASELO p q, 12, 20⟩
def A.NIC_RXQ_BASEHI (p : Nat) (q : Nat) : Nat := 0x1002004 + 0x20000 * p + 32 * q
def F.NIC_RXQ_BASEHI_BASE (p : Nat) (q : Nat) : Fld := ⟨A.NIC_RXQ_BASEHI p q, 0, 32⟩
def A.NIC_RXQ_CFG (p : Nat) (q : Nat) : Nat := 0x1002008 + 0x20000 * p + 32 * q
def F.NIC_RXQ_CFG_EN (p : Nat) (q : Nat) : Fld := ⟨A.NIC_RXQ_CFG p q, 0, 1⟩
def F.NIC_RXQ_CFG_LOG2SZ (p : Nat) (q : Nat) : Fld := ⟨A.NIC_RXQ_CFG p q, 8, 5⟩
def F.NIC_RXQ_CFG_IEN (p : Nat) (q : Nat) : Fld := ⟨A.NIC_RXQ_CFG p q, 22, 1⟩
def A.NIC_RXQ_DB (p : Nat) (q : Nat) : Nat := 0x100200C + 0x20000 * p + 32 * q
def F.NIC_RXQ_DB_HOSTIDX (p : Nat) (q : Nat) : Fld := ⟨A.NIC_RXQ_DB p q, 0, 16⟩
def A.NIC_RXQ_IDX (p : Nat) (q : Nat) : Nat := 0x1002010 + 0x20000 * p + 32 * q
def F.NIC_RXQ_IDX_DEVIDX (p : Nat) (q : Nat) : Fld := ⟨A.NIC_RXQ_IDX p q, 0, 16⟩
def F.NIC_RXQ_IDX_HOSTIDX (p : Nat) (q : Nat) : Fld := ⟨A.NIC_RXQ_IDX p q, 16, 16⟩
def A.PUSH_BASELO (p : Nat) : Nat := 0x1040000 + 0x1000 * p
def F.PUSH_BASELO_BASE (p : Nat) : Fld := ⟨A.PUSH_BASELO p, 12, 20⟩
def A.PUSH_BASEHI (p : Nat) : Nat := 0x1040004 + 0x1000 * p
def F.PUSH_BASEHI_BASE (p : Nat) : Fld := ⟨A.PUSH_BASEHI p, 0, 32⟩
def A.PUSH_CFG (p : Nat) : Nat := 0x1040008 + 0x1000 * p
def F.PUSH_CFG_EN (p : Nat) : Fld := ⟨A.PUSH_CFG p, 0, 1⟩
def F.PUSH_CFG_LOG2SZ (p : Nat) : Fld := ⟨A.PUSH_CFG p, 8, 5⟩
def F.PUSH_CFG_VEC (p : Nat) : Fld := ⟨A.PUSH_CFG p, 16, 3⟩
def F.PUSH_CFG_IEN (p : Nat) : Fld := ⟨A.PUSH_CFG p, 22, 1⟩
def A.PUSH_DB (p : Nat) : Nat := 0x104000C + 0x1000 * p
def F.PUSH_DB_HOSTIDX (p : Nat) : Fld := ⟨A.PUSH_DB p, 0, 16⟩
def A.PUSH_IDX (p : Nat) : Nat := 0x1040010 + 0x1000 * p
def F.PUSH_IDX_DEVIDX (p : Nat) : Fld := ⟨A.PUSH_IDX p, 0, 16⟩
def F.PUSH_IDX_HOSTIDX (p : Nat) : Fld := ⟨A.PUSH_IDX p, 16, 16⟩
def A.PUSH_FRAME (p : Nat) : Nat := 0x1040014 + 0x1000 * p
def F.PUSH_FRAME_FRAME (p : Nat) : Fld := ⟨A.PUSH_FRAME p, 0, 32⟩
def A.MSIX_ADDRLO (p : Nat) (v : Nat) : Nat := 0x1080000 + 0x4000 * p + 16 * v
def F.MSIX_ADDRLO_ADDR (p : Nat) (v : Nat) : Fld := ⟨A.MSIX_ADDRLO p v, 2, 30⟩
def A.MSIX_ADDRHI (p : Nat) (v : Nat) : Nat := 0x1080004 + 0x4000 * p + 16 * v
def F.MSIX_ADDRHI_ADDR (p : Nat) (v : Nat) : Fld := ⟨A.MSIX_ADDRHI p v, 0, 32⟩
def A.MSIX_DATA (p : Nat) (v : Nat) : Nat := 0x1080008 + 0x4000 * p + 16 * v
def F.MSIX_DATA (p : Nat) (v : Nat) : Fld := ⟨A.MSIX_DATA p v, 0, 32⟩
def A.MSIX_CTRL (p : Nat) (v : Nat) : Nat := 0x108000C + 0x4000 * p + 16 * v
def F.MSIX_CTRL_MASK (p : Nat) (v : Nat) : Fld := ⟨A.MSIX_CTRL p v, 0, 1⟩
def A.MSIX_PBA (p : Nat) (w : Nat) : Nat := 0x1082000 + 0x4000 * p + 4 * w
def F.MSIX_PBA (p : Nat) (w : Nat) : Fld := ⟨A.MSIX_PBA p w, 0, 32⟩

/-! ### Register tables, by block -/

/-- Registers of GLB. -/
def regsGLB0 : List RegDesc :=
  [⟨0x0, 1, 0, 1, 0, [⟨0, 8, .ro, 161⟩, ⟨8, 2, .ro, 0⟩, ⟨16, 16, .ro, 2112⟩]⟩,
   ⟨0x10, 1, 0, 1, 0, [⟨0, 2, .ro, 0⟩, ⟨2, 2, .ro, 0⟩, ⟨4, 3, .ro, 0⟩, ⟨8, 6, .ro, 0⟩, ⟨14, 2, .ro, 0⟩, ⟨16, 1, .ro, 0⟩]⟩,
   ⟨0x14, 1, 0, 1, 0, [⟨0, 1, .w1c, 1⟩, ⟨1, 1, .w1c, 0⟩, ⟨2, 1, .w1c, 0⟩, ⟨3, 1, .w1c, 0⟩, ⟨4, 1, .w1c, 0⟩, ⟨5, 1, .w1c, 0⟩, ⟨6, 1, .w1c, 0⟩, ⟨7, 1, .w1c, 0⟩]⟩,
   ⟨0x18, 1, 0, 1, 0, [⟨0, 8, .wo, 0⟩, ⟨8, 1, .wo, 0⟩, ⟨9, 1, .wo, 0⟩]⟩,
   ⟨0x20, 1, 0, 1, 0, [⟨0, 4, .ro, 0⟩, ⟨4, 1, .ro, 0⟩, ⟨5, 1, .ro, 0⟩, ⟨6, 1, .ro, 0⟩, ⟨7, 1, .ro, 0⟩, ⟨8, 1, .ro, 0⟩, ⟨9, 1, .ro, 0⟩, ⟨10, 1, .ro, 0⟩, ⟨11, 1, .ro, 0⟩, ⟨12, 1, .ro, 0⟩, ⟨16, 7, .ro, 0⟩]⟩,
   ⟨0x24, 1, 0, 1, 0, [⟨0, 32, .ro, 0⟩]⟩,
   ⟨0x28, 1, 0, 1, 0, [⟨0, 24, .rw, 0⟩]⟩,
   ⟨0x40, 1, 0, 1, 0, [⟨0, 1, .wo, 0⟩, ⟨1, 1, .rw, 0⟩, ⟨2, 1, .ro, 0⟩, ⟨8, 8, .ro, 0⟩, ⟨16, 6, .ro, 0⟩]⟩,
   ⟨0x44, 1, 0, 1, 0, [⟨0, 32, .ro, 0⟩]⟩,
   ⟨0x48, 1, 0, 1, 0, [⟨0, 30, .ro, 0⟩]⟩,
   ⟨0x4C, 1, 0, 1, 0, [⟨0, 32, .w1cAll, 0⟩]⟩,
   ⟨0x50, 1, 0, 1, 0, [⟨0, 32, .w1cAll, 0⟩]⟩,
   ⟨0x54, 1, 0, 1, 0, [⟨0, 32, .w1cAll, 0⟩]⟩,
   ⟨0x58, 1, 0, 1, 0, [⟨0, 32, .w1cAll, 0⟩]⟩,
   ⟨0x5C, 1, 0, 1, 0, [⟨0, 32, .w1cAll, 0⟩]⟩,
   ⟨0x60, 1, 0, 1, 0, [⟨0, 32, .ro, 0⟩]⟩,
   ⟨0x64, 1, 0, 1, 0, [⟨0, 32, .ro, 0⟩]⟩,
   ⟨0x68, 1, 0, 1, 0, [⟨0, 8, .rw, 128⟩]⟩,
   ⟨0x6C, 1, 0, 1, 0, [⟨0, 6, .ro, 0⟩, ⟨8, 2, .ro, 0⟩, ⟨16, 16, .ro, 0⟩]⟩,
   ⟨0x70, 1, 0, 1, 0, [⟨0, 10, .rw, 0⟩, ⟨16, 1, .wo, 0⟩, ⟨17, 1, .ro, 0⟩]⟩]

/-- Registers of GLB. -/
def regsGLB1 : List RegDesc :=
  [⟨0x1000, 256, 16, 1, 0, [⟨12, 20, .rw, 0⟩]⟩,
   ⟨0x1004, 256, 16, 1, 0, [⟨0, 32, .rw, 0⟩]⟩,
   ⟨0x1008, 256, 16, 1, 0, [⟨0, 3, .rw, 0⟩, ⟨8, 5, .rw, 0⟩, ⟨16, 6, .rw, 0⟩, ⟨22, 1, .rw, 0⟩, ⟨24, 8, .rw, 0⟩]⟩,
   ⟨0x100C, 256, 16, 1, 0, [⟨0, 16, .ro, 0⟩, ⟨16, 16, .ro, 0⟩]⟩]

/-- Registers of GLB. -/
def regsGLB : List RegDesc := regsGLB0 ++ regsGLB1

/-- Registers of EVT. -/
def regsEVT : List RegDesc :=
  [⟨0x0, 16, 4, 1, 0, [⟨0, 32, .w1c, 0⟩]⟩,
   ⟨0x40, 16, 4, 1, 0, [⟨0, 32, .rw, 4294967295⟩]⟩,
   ⟨0x100, 64, 4, 1, 0, [⟨0, 8, .rw, 0⟩, ⟨8, 6, .rw, 0⟩, ⟨15, 1, .rw, 0⟩]⟩,
   ⟨0x200, 1, 0, 1, 0, [⟨0, 10, .rw, 0⟩]⟩,
   ⟨0x204, 1, 0, 1, 0, [⟨0, 32, .w1cAll, 0⟩]⟩]

/-- Registers of PWR. -/
def regsPWR : List RegDesc :=
  [⟨0x0, 1, 0, 1, 0, [⟨0, 3, .ro, 0⟩, ⟨4, 3, .ro, 0⟩, ⟨8, 3, .ro, 0⟩, ⟨11, 1, .ro, 0⟩, ⟨12, 3, .ro, 0⟩, ⟨16, 4, .ro, 0⟩, ⟨20, 1, .ro, 0⟩]⟩,
   ⟨0x4, 1, 0, 1, 0, [⟨0, 1, .rw, 1⟩]⟩,
   ⟨0x8, 1, 0, 1, 0, [⟨0, 10, .rw, 100⟩]⟩,
   ⟨0xC, 1, 0, 1, 0, [⟨0, 12, .ro, 0⟩, ⟨16, 12, .ro, 0⟩]⟩,
   ⟨0x10, 1, 0, 1, 0, [⟨0, 3, .ro, 0⟩, ⟨8, 4, .ro, 0⟩, ⟨12, 2, .ro, 0⟩]⟩,
   ⟨0x14, 1, 0, 1, 0, [⟨0, 4, .rw, 6⟩]⟩,
   ⟨0x18, 1, 0, 1, 0, [⟨0, 10, .ro, 0⟩, ⟨10, 22, .ro, 0⟩]⟩,
   ⟨0x20, 8, 4, 1, 0, [⟨0, 17, .rw, 0⟩]⟩,
   ⟨0x40, 1, 0, 1, 0, [⟨0, 32, .w1cAll, 0⟩]⟩,
   ⟨0x44, 1, 0, 1, 0, [⟨0, 32, .w1cAll, 0⟩]⟩,
   ⟨0x48, 1, 0, 1, 0, [⟨0, 32, .w1cAll, 0⟩]⟩,
   ⟨0x4C, 1, 0, 1, 0, [⟨0, 32, .w1cAll, 0⟩]⟩,
   ⟨0x50, 1, 0, 1, 0, [⟨0, 32, .w1cAll, 0⟩]⟩]

/-- Registers of LANT. -/
def regsLANT : List RegDesc :=
  [⟨0x0, 1, 0, 1, 0, [⟨0, 1, .rw, 1⟩, ⟨1, 4, .rw, 0⟩, ⟨5, 3, .rw, 7⟩, ⟨8, 1, .rw, 0⟩, ⟨9, 4, .rw, 0⟩]⟩,
   ⟨0x4, 1, 0, 1, 0, [⟨0, 1, .w1c, 0⟩, ⟨1, 9, .ro, 0⟩, ⟨10, 1, .w1c, 0⟩]⟩,
   ⟨0x8, 1, 0, 1, 0, [⟨0, 32, .ro, 0⟩]⟩,
   ⟨0xC, 1, 0, 1, 0, [⟨0, 32, .w1cAll, 0⟩]⟩,
   ⟨0x10, 1, 0, 1, 0, [⟨0, 16, .ro, 0⟩]⟩]

/-- Registers of KEY. -/
def regsKEY : List RegDesc :=
  [⟨0x0, 1, 0, 1, 0, [⟨0, 3, .ro, 0⟩, ⟨4, 3, .ro, 0⟩, ⟨7, 1, .ro, 0⟩, ⟨8, 2, .ro, 0⟩, ⟨10, 1, .ro, 0⟩, ⟨11, 1, .ro, 0⟩, ⟨12, 7, .ro, 0⟩]⟩,
   ⟨0x4, 1, 0, 1, 0, [⟨0, 3, .wo, 0⟩, ⟨8, 8, .wo, 0⟩]⟩,
   ⟨0x8, 1, 0, 1, 0, [⟨0, 1, .wo, 0⟩, ⟨1, 1, .ro, 0⟩]⟩,
   ⟨0x10, 8, 4, 1, 0, [⟨0, 32, .ro, 0⟩]⟩,
   ⟨0x40, 1, 0, 1, 0, [⟨0, 4, .rw, 0⟩, ⟨30, 1, .ro, 0⟩, ⟨31, 1, .wo, 0⟩]⟩,
   ⟨0x44, 1, 0, 1, 0, [⟨0, 8, .ro, 0⟩, ⟨16, 16, .ro, 0⟩]⟩,
   ⟨0x48, 1, 0, 1, 0, [⟨0, 16, .ro, 0⟩]⟩,
   ⟨0x4C, 1, 0, 1, 0, [⟨0, 6, .ro, 36⟩, ⟨8, 7, .ro, 0⟩]⟩,
   ⟨0x60, 1, 0, 1, 0, [⟨0, 32, .w1cAll, 0⟩]⟩,
   ⟨0x64, 1, 0, 1, 0, [⟨0, 32, .w1cAll, 0⟩]⟩,
   ⟨0x100, 64, 4, 1, 0, [⟨0, 32, .rw, 0⟩]⟩,
   ⟨0x400, 60, 4, 1, 0, [⟨0, 32, .ro, 0⟩]⟩]

/-- Registers of FLT. -/
def regsFLT : List RegDesc :=
  [⟨0x0, 1, 0, 1, 0, [⟨0, 1, .rw, 0⟩]⟩,
   ⟨0x4, 1, 0, 1, 0, [⟨0, 32, .ro, 1⟩]⟩,
   ⟨0x8, 1, 0, 1, 0, [⟨0, 8, .ro, 0⟩]⟩,
   ⟨0xC, 1, 0, 1, 0, [⟨0, 32, .rw, 0⟩]⟩,
   ⟨0x10, 1, 0, 1, 0, [⟨0, 8, .ro, 0⟩]⟩,
   ⟨0x20, 1, 0, 1, 0, [⟨0, 32, .w1cAll, 0⟩]⟩,
   ⟨0x24, 1, 0, 1, 0, [⟨0, 32, .w1cAll, 0⟩]⟩,
   ⟨0x28, 1, 0, 1, 0, [⟨0, 32, .w1cAll, 0⟩]⟩,
   ⟨0x2C, 1, 0, 1, 0, [⟨0, 32, .w1cAll, 0⟩]⟩,
   ⟨0x40, 16, 4, 1, 0, [⟨0, 32, .w1cAll, 0⟩]⟩,
   ⟨0x1000, 256, 32, 1, 0, [⟨0, 32, .ro, 0⟩]⟩,
   ⟨0x1004, 256, 32, 1, 0, [⟨0, 32, .ro, 0⟩]⟩,
   ⟨0x1008, 256, 32, 1, 0, [⟨0, 32, .ro, 0⟩]⟩,
   ⟨0x100C, 256, 32, 1, 0, [⟨0, 32, .ro, 0⟩]⟩,
   ⟨0x1010, 256, 32, 1, 0, [⟨0, 32, .ro, 0⟩]⟩,
   ⟨0x1014, 256, 32, 1, 0, [⟨0, 32, .ro, 0⟩]⟩,
   ⟨0x1018, 256, 32, 1, 0, [⟨0, 32, .ro, 0⟩]⟩,
   ⟨0x101C, 256, 32, 1, 0, [⟨0, 32, .ro, 0⟩]⟩]

/-- Registers of HWR. -/
def regsHWR : List RegDesc :=
  [⟨0x0, 24, 1024, 1, 0, [⟨0, 1, .rw, 0⟩]⟩,
   ⟨0x4, 24, 1024, 1, 0, [⟨0, 3, .ro, 0⟩, ⟨3, 5, .ro, 31⟩, ⟨8, 4, .ro, 0⟩, ⟨12, 3, .ro, 0⟩]⟩,
   ⟨0x8, 24, 1024, 1, 0, [⟨0, 6, .rw, 4⟩]⟩,
   ⟨0x500C, 4, 1024, 1, 0, [⟨0, 10, .rw, 0⟩, ⟨16, 9, .rw, 0⟩]⟩,
   ⟨0x5010, 4, 1024, 1, 0, [⟨0, 9, .rw, 0⟩, ⟨9, 1, .wo, 0⟩, ⟨10, 1, .ro, 0⟩, ⟨16, 9, .ro, 0⟩]⟩,
   ⟨0x14, 24, 1024, 1, 0, [⟨0, 32, .w1cAll, 0⟩]⟩,
   ⟨0x5100, 4, 1024, 64, 4, [⟨0, 32, .rw, 0⟩]⟩,
   ⟨0x200, 24, 1024, 64, 4, [⟨0, 32, .ro, 0⟩]⟩,
   ⟨0x6000, 18, 4, 1, 0, [⟨0, 5, .ro, 0⟩]⟩,
   ⟨0x6080, 1, 0, 1, 0, [⟨0, 5, .rw, 9⟩]⟩,
   ⟨0x6084, 1, 0, 1, 0, [⟨0, 32, .w1cAll, 0⟩]⟩,
   ⟨0x6088, 1, 0, 1, 0, [⟨0, 32, .w1cAll, 0⟩]⟩]

/-- Registers of MEM. -/
def regsMEM : List RegDesc :=
  [⟨0x0, 1, 0, 1, 0, [⟨0, 11, .rw, 32⟩]⟩,
   ⟨0x4, 1, 0, 1, 0, [⟨0, 11, .rw, 480⟩]⟩,
   ⟨0x8, 1, 0, 1, 0, [⟨0, 7, .rw, 90⟩, ⟨8, 7, .rw, 75⟩]⟩,
   ⟨0xC, 1, 0, 1, 0, [⟨0, 32, .ro, 0⟩]⟩,
   ⟨0x10, 1, 0, 1, 0, [⟨0, 16, .rw, 1000⟩]⟩,
   ⟨0x14, 1, 0, 1, 0, [⟨0, 25, .ro, 0⟩]⟩,
   ⟨0x18, 1, 0, 1, 0, [⟨0, 2, .rw, 0⟩]⟩,
   ⟨0x1C, 1, 0, 1, 0, [⟨0, 2, .ro, 0⟩, ⟨2, 1, .ro, 0⟩, ⟨16, 8, .ro, 0⟩]⟩,
   ⟨0x20, 1, 0, 1, 0, [⟨0, 32, .w1cAll, 0⟩]⟩,
   ⟨0x24, 1, 0, 1, 0, [⟨0, 32, .w1cAll, 0⟩]⟩,
   ⟨0x28, 1, 0, 1, 0, [⟨0, 32, .w1cAll, 0⟩]⟩,
   ⟨0x100, 16, 4, 1, 0, [⟨0, 2, .rw, 0⟩, ⟨8, 8, .rw, 0⟩, ⟨16, 16, .w1cAll, 0⟩]⟩]

/-- Registers of ADT. -/
def regsADT0 : List RegDesc :=
  [⟨0x0, 1, 0, 1, 0, [⟨0, 1, .rw, 0⟩, ⟨1, 2, .rw, 2⟩, ⟨3, 1, .rw, 0⟩, ⟨4, 1, .rw, 1⟩, ⟨5, 1, .wo, 0⟩, ⟨6, 1, .rw, 0⟩]⟩,
   ⟨0x4, 1, 0, 1, 0, [⟨0, 4, .ro, 0⟩, ⟨4, 2, .ro, 0⟩, ⟨6, 2, .ro, 0⟩, ⟨8, 2, .ro, 0⟩, ⟨10, 1, .ro, 0⟩, ⟨11, 1, .ro, 0⟩, ⟨12, 1, .ro, 0⟩, ⟨16, 4, .ro, 0⟩]⟩,
   ⟨0x8, 1, 0, 1, 0, [⟨0, 10, .rw, 20⟩]⟩,
   ⟨0xC, 1, 0, 1, 0, [⟨0, 16, .ro, 12060⟩, ⟨16, 1, .ro, 0⟩, ⟨17, 1, .ro, 0⟩, ⟨18, 1, .ro, 0⟩, ⟨19, 1, .ro, 0⟩]⟩,
   ⟨0x10, 1, 0, 1, 0, [⟨0, 2, .ro, 0⟩, ⟨2, 2, .ro, 0⟩, ⟨4, 4, .ro, 0⟩, ⟨8, 4, .ro, 0⟩, ⟨12, 2, .ro, 0⟩, ⟨14, 2, .ro, 0⟩, ⟨16, 1, .ro, 0⟩, ⟨17, 1, .ro, 0⟩]⟩,
   ⟨0x14, 1, 0, 1, 0, [⟨0, 13, .ro, 0⟩]⟩,
   ⟨0x18, 1, 0, 1, 0, [⟨0, 6, .ro, 4⟩, ⟨8, 6, .ro, 8⟩, ⟨16, 6, .ro, 4⟩, ⟨24, 6, .ro, 8⟩]⟩,
   ⟨0x1C, 1, 0, 1, 0, [⟨0, 20, .rw, 1000⟩]⟩,
   ⟨0x20, 1, 0, 1, 0, [⟨0, 32, .w1cAll, 0⟩]⟩,
   ⟨0x24, 1, 0, 1, 0, [⟨0, 32, .w1cAll, 0⟩]⟩,
   ⟨0x28, 1, 0, 1, 0, [⟨0, 32, .w1cAll, 0⟩]⟩,
   ⟨0x2C, 1, 0, 1, 0, [⟨0, 32, .w1cAll, 0⟩]⟩,
   ⟨0x30, 1, 0, 1, 0, [⟨0, 16, .w1cAll, 0⟩, ⟨16, 16, .w1cAll, 0⟩]⟩,
   ⟨0x3C, 1, 0, 1, 0, [⟨0, 32, .w1cAll, 0⟩]⟩,
   ⟨0x40, 16, 4, 1, 0, [⟨0, 32, .ro, 0⟩]⟩,
   ⟨0x80, 1, 0, 1, 0, [⟨0, 1, .rw, 0⟩, ⟨1, 1, .rw, 1⟩, ⟨2, 1, .rw, 0⟩, ⟨8, 8, .rw, 255⟩]⟩,
   ⟨0x100, 1, 0, 1, 0, [⟨0, 5, .rw, 16⟩, ⟨8, 8, .rw, 50⟩]⟩,
   ⟨0x104, 1, 0, 1, 0, [⟨0, 12, .ro, 0⟩, ⟨16, 12, .ro, 0⟩, ⟨28, 1, .ro, 0⟩]⟩,
   ⟨0x108, 1, 0, 1, 0, [⟨0, 17, .ro, 0⟩, ⟨17, 12, .ro, 0⟩]⟩,
   ⟨0x10C, 1, 0, 1, 0, [⟨0, 19, .ro, 0⟩]⟩]

/-- Registers of ADT. -/
def regsADT1 : List RegDesc :=
  [⟨0x110, 8, 4, 1, 0, [⟨0, 12, .rw, 0⟩]⟩,
   ⟨0x130, 8, 4, 1, 0, [⟨0, 16, .ro, 0⟩]⟩,
   ⟨0x150, 1, 0, 1, 0, [⟨0, 32, .w1cAll, 0⟩]⟩,
   ⟨0x154, 1, 0, 1, 0, [⟨0, 32, .w1cAll, 0⟩]⟩,
   ⟨0x158, 1, 0, 1, 0, [⟨0, 32, .w1cAll, 0⟩]⟩,
   ⟨0x15C, 1, 0, 1, 0, [⟨0, 32, .w1cAll, 0⟩]⟩,
   ⟨0x160, 1, 0, 1, 0, [⟨0, 32, .w1cAll, 0⟩]⟩,
   ⟨0x164, 1, 0, 1, 0, [⟨0, 32, .w1cAll, 0⟩]⟩,
   ⟨0x168, 1, 0, 1, 0, [⟨0, 32, .w1cAll, 0⟩]⟩,
   ⟨0x16C, 1, 0, 1, 0, [⟨0, 32, .w1cAll, 0⟩]⟩,
   ⟨0x170, 1, 0, 1, 0, [⟨0, 32, .w1cAll, 0⟩]⟩,
   ⟨0x174, 1, 0, 1, 0, [⟨0, 32, .w1cAll, 0⟩]⟩,
   ⟨0x178, 1, 0, 1, 0, [⟨0, 32, .w1cAll, 0⟩]⟩,
   ⟨0x17C, 1, 0, 1, 0, [⟨0, 32, .w1cAll, 0⟩]⟩,
   ⟨0x180, 1, 0, 1, 0, [⟨0, 32, .w1cAll, 0⟩]⟩,
   ⟨0x184, 1, 0, 1, 0, [⟨0, 32, .w1cAll, 0⟩]⟩,
   ⟨0x188, 1, 0, 1, 0, [⟨0, 32, .w1cAll, 0⟩]⟩,
   ⟨0x190, 1, 0, 1, 0, [⟨0, 3, .ro, 0⟩, ⟨3, 1, .ro, 0⟩, ⟨4, 1, .ro, 0⟩, ⟨16, 16, .ro, 0⟩]⟩,
   ⟨0x194, 1, 0, 1, 0, [⟨0, 4, .rw, 10⟩]⟩]

/-- Registers of ADT. -/
def regsADT : List RegDesc := regsADT0 ++ regsADT1

/-- Registers of DRF. -/
def regsDRF : List RegDesc :=
  [⟨0x0, 16, 4, 1, 0, [⟨0, 8, .rw, 16⟩]⟩,
   ⟨0x40, 16, 4, 1, 0, [⟨0, 32, .w1cAll, 0⟩]⟩,
   ⟨0x80, 1, 0, 1, 0, [⟨0, 32, .w1cAll, 0⟩]⟩]

/-- Registers of TUN. -/
def regsTUN : List RegDesc :=
  [⟨0x0, 1, 0, 1, 0, [⟨0, 8, .rw, 10⟩]⟩,
   ⟨0x4, 1, 0, 1, 0, [⟨0, 11, .ro, 0⟩, ⟨16, 12, .ro, 0⟩, ⟨28, 1, .ro, 0⟩]⟩,
   ⟨0x8, 1, 0, 1, 0, [⟨0, 32, .w1cAll, 0⟩]⟩,
   ⟨0xC, 1, 0, 1, 0, [⟨0, 32, .w1cAll, 0⟩]⟩,
   ⟨0x10, 1, 0, 1, 0, [⟨0, 32, .w1cAll, 0⟩]⟩]

/-- Registers of SCH. -/
def regsSCH0 : List RegDesc :=
  [⟨0x0, 1, 0, 1, 0, [⟨0, 1, .rw, 1⟩, ⟨8, 9, .rw, 192⟩]⟩,
   ⟨0x4, 1, 0, 1, 0, [⟨0, 14, .rwS, 1000⟩]⟩,
   ⟨0x8, 1, 0, 1, 0, [⟨0, 14, .roA, 1000⟩]⟩,
   ⟨0xC, 1, 0, 1, 0, [⟨0, 1, .ro, 0⟩, ⟨1, 1, .ro, 0⟩, ⟨2, 1, .ro, 0⟩, ⟨3, 1, .ro, 0⟩, ⟨16, 11, .ro, 0⟩]⟩,
   ⟨0x10, 1, 0, 1, 0, [⟨0, 20, .ro, 84000⟩, ⟨20, 10, .ro, 0⟩]⟩,
   ⟨0x14, 1, 0, 1, 0, [⟨0, 16, .ro, 0⟩, ⟨16, 16, .w1cAll, 0⟩]⟩,
   ⟨0x18, 1, 0, 1, 0, [⟨0, 10, .rw, 63⟩, ⟨16, 1, .wo, 0⟩]⟩,
   ⟨0x1C, 1, 0, 1, 0, [⟨0, 32, .ro, 0⟩]⟩,
   ⟨0x20, 1, 0, 1, 0, [⟨0, 32, .w1cAll, 0⟩]⟩,
   ⟨0x24, 1, 0, 1, 0, [⟨0, 32, .w1cAll, 0⟩]⟩,
   ⟨0x28, 1, 0, 1, 0, [⟨0, 32, .w1cAll, 0⟩]⟩,
   ⟨0x100, 8, 8, 1, 0, [⟨0, 17, .rwS, 0⟩]⟩,
   ⟨0x104, 8, 8, 1, 0, [⟨0, 14, .rwS, 16⟩]⟩,
   ⟨0x140, 8, 8, 1, 0, [⟨0, 17, .roA, 0⟩]⟩,
   ⟨0x144, 8, 8, 1, 0, [⟨0, 14, .roA, 16⟩]⟩,
   ⟨0x1000, 1024, 4, 1, 0, [⟨0, 10, .rwS, 0⟩, ⟨12, 2, .rwS, 0⟩]⟩,
   ⟨0x2000, 1024, 4, 1, 0, [⟨0, 10, .roA, 0⟩, ⟨12, 2, .roA, 0⟩]⟩,
   ⟨0x3000, 1024, 4, 1, 0, [⟨0, 16, .rwS, 1⟩]⟩,
   ⟨0x4000, 1024, 4, 1, 0, [⟨0, 16, .roA, 1⟩]⟩,
   ⟨0x5000, 1024, 8, 1, 0, [⟨0, 17, .rwS, 0⟩]⟩]

/-- Registers of SCH. -/
def regsSCH1 : List RegDesc :=
  [⟨0x5004, 1024, 8, 1, 0, [⟨0, 14, .rwS, 16⟩]⟩,
   ⟨0x7000, 1024, 8, 1, 0, [⟨0, 17, .roA, 0⟩]⟩,
   ⟨0x7004, 1024, 8, 1, 0, [⟨0, 14, .roA, 16⟩]⟩,
   ⟨0x9000, 1024, 8, 1, 0, [⟨0, 32, .ro, 0⟩]⟩,
   ⟨0x9004, 1024, 8, 1, 0, [⟨0, 32, .ro, 0⟩]⟩]

/-- Registers of SCH. -/
def regsSCH : List RegDesc := regsSCH0 ++ regsSCH1

/-- Registers that only instance 0 of SCH has. -/
def regsSCHInst0 : List RegDesc :=
  [⟨0x2C, 1, 0, 1, 0, [⟨0, 32, .w1cAll, 0⟩]⟩,
   ⟨0xB000, 1024, 8, 1, 0, [⟨0, 17, .rwS, 0⟩, ⟨17, 14, .rwS, 147⟩, ⟨31, 1, .rwS, 0⟩]⟩,
   ⟨0xB004, 1024, 8, 1, 0, [⟨0, 17, .rwS, 0⟩, ⟨17, 14, .rwS, 147⟩, ⟨31, 1, .rwS, 0⟩]⟩,
   ⟨0xD000, 1024, 8, 1, 0, [⟨0, 17, .roA, 0⟩, ⟨17, 14, .roA, 147⟩, ⟨31, 1, .roA, 0⟩]⟩,
   ⟨0xD004, 1024, 8, 1, 0, [⟨0, 17, .roA, 0⟩, ⟨17, 14, .roA, 147⟩, ⟨31, 1, .roA, 0⟩]⟩]

/-- Registers of FAB. -/
def regsFAB0 : List RegDesc :=
  [⟨0x0, 1, 0, 1, 0, [⟨0, 3, .rw, 2⟩, ⟨8, 1, .rw, 1⟩]⟩,
   ⟨0x4, 1, 0, 1, 0, [⟨0, 6, .ro, 0⟩, ⟨8, 3, .ro, 0⟩, ⟨12, 2, .ro, 0⟩, ⟨16, 4, .ro, 0⟩, ⟨24, 6, .ro, 0⟩]⟩,
   ⟨0x8, 1, 0, 1, 0, [⟨0, 6, .rw, 0⟩]⟩,
   ⟨0xC, 1, 0, 1, 0, [⟨0, 6, .ro, 0⟩, ⟨8, 3, .ro, 0⟩, ⟨16, 6, .ro, 0⟩]⟩,
   ⟨0x10, 1, 0, 1, 0, [⟨0, 32, .ro, 0⟩]⟩,
   ⟨0x14, 1, 0, 1, 0, [⟨0, 32, .ro, 0⟩]⟩,
   ⟨0x18, 1, 0, 1, 0, [⟨0, 32, .ro, 0⟩]⟩,
   ⟨0x20, 1, 0, 1, 0, [⟨0, 32, .w1cAll, 0⟩]⟩,
   ⟨0x24, 1, 0, 1, 0, [⟨0, 32, .w1cAll, 0⟩]⟩,
   ⟨0x28, 1, 0, 1, 0, [⟨0, 32, .w1cAll, 0⟩]⟩,
   ⟨0x2C, 1, 0, 1, 0, [⟨0, 32, .w1cAll, 0⟩]⟩,
   ⟨0x30, 1, 0, 1, 0, [⟨0, 32, .w1cAll, 0⟩]⟩,
   ⟨0x34, 1, 0, 1, 0, [⟨0, 32, .w1cAll, 0⟩]⟩,
   ⟨0x40, 1, 0, 1, 0, [⟨0, 3, .ro, 0⟩, ⟨4, 2, .ro, 0⟩, ⟨6, 1, .ro, 0⟩]⟩,
   ⟨0x100, 64, 4, 1, 0, [⟨0, 2, .ro, 0⟩, ⟨2, 1, .ro, 0⟩, ⟨3, 2, .ro, 0⟩, ⟨5, 1, .ro, 0⟩, ⟨6, 1, .ro, 0⟩, ⟨7, 1, .ro, 0⟩, ⟨8, 8, .ro, 255⟩, ⟨16, 1, .ro, 0⟩, ⟨17, 1, .ro, 0⟩]⟩,
   ⟨0x400, 64, 32, 1, 0, [⟨0, 32, .ro, 0⟩]⟩,
   ⟨0x404, 64, 32, 1, 0, [⟨0, 32, .ro, 0⟩]⟩,
   ⟨0x408, 64, 32, 1, 0, [⟨0, 32, .ro, 0⟩]⟩,
   ⟨0x40C, 64, 32, 1, 0, [⟨0, 32, .ro, 0⟩]⟩,
   ⟨0x410, 64, 32, 1, 0, [⟨0, 32, .ro, 0⟩]⟩]

/-- Registers of FAB. -/
def regsFAB1 : List RegDesc :=
  [⟨0x414, 64, 32, 1, 0, [⟨0, 32, .ro, 0⟩]⟩]

/-- Registers of FAB. -/
def regsFAB : List RegDesc := regsFAB0 ++ regsFAB1

/-- Registers of CRT. -/
def regsCRT : List RegDesc :=
  [⟨0x0, 1, 0, 1, 0, [⟨0, 10, .rw, 200⟩, ⟨16, 4, .rw, 5⟩]⟩,
   ⟨0x4, 1, 0, 1, 0, [⟨0, 5, .ro, 0⟩, ⟨8, 5, .ro, 0⟩, ⟨16, 5, .ro, 0⟩]⟩,
   ⟨0x8, 1, 0, 1, 0, [⟨0, 32, .ro, 0⟩]⟩,
   ⟨0x10, 1, 0, 1, 0, [⟨0, 32, .w1cAll, 0⟩]⟩,
   ⟨0x14, 1, 0, 1, 0, [⟨0, 32, .w1cAll, 0⟩]⟩,
   ⟨0x18, 1, 0, 1, 0, [⟨0, 32, .w1cAll, 0⟩]⟩,
   ⟨0x1C, 1, 0, 1, 0, [⟨0, 32, .w1cAll, 0⟩]⟩,
   ⟨0x20, 1, 0, 1, 0, [⟨0, 32, .w1cAll, 0⟩]⟩,
   ⟨0x100, 16, 16, 1, 0, [⟨0, 16, .ro, 0⟩, ⟨16, 6, .ro, 0⟩, ⟨22, 1, .ro, 0⟩, ⟨24, 3, .ro, 0⟩, ⟨27, 2, .ro, 0⟩]⟩,
   ⟨0x104, 16, 16, 1, 0, [⟨0, 9, .ro, 0⟩]⟩,
   ⟨0x108, 16, 16, 1, 0, [⟨0, 32, .ro, 0⟩]⟩,
   ⟨0x10C, 16, 16, 1, 0, [⟨0, 30, .ro, 0⟩]⟩]

/-- Registers of TIM. -/
def regsTIM0 : List RegDesc :=
  [⟨0x0, 1, 0, 1, 0, [⟨0, 1, .rw, 1⟩, ⟨1, 2, .rw, 0⟩, ⟨3, 1, .rw, 0⟩]⟩,
   ⟨0x4, 1, 0, 1, 0, [⟨0, 2, .ro, 0⟩, ⟨2, 2, .ro, 3⟩, ⟨4, 2, .ro, 0⟩, ⟨8, 6, .ro, 0⟩, ⟨16, 8, .ro, 0⟩, ⟨24, 6, .ro, 0⟩]⟩,
   ⟨0x8, 1, 0, 1, 0, [⟨0, 30, .ro, 0⟩]⟩,
   ⟨0xC, 1, 0, 1, 0, [⟨0, 16, .ro, 0⟩]⟩,
   ⟨0x10, 1, 0, 1, 0, [⟨0, 32, .ro, 0⟩]⟩,
   ⟨0x14, 1, 0, 1, 0, [⟨0, 16, .ro, 0⟩]⟩,
   ⟨0x18, 1, 0, 1, 0, [⟨0, 32, .ro, 0⟩]⟩,
   ⟨0x1C, 1, 0, 1, 0, [⟨0, 16, .ro, 256⟩]⟩,
   ⟨0x20, 1, 0, 1, 0, [⟨0, 4, .rw, 1⟩, ⟨4, 4, .rw, 3⟩, ⟨8, 8, .rw, 10⟩]⟩,
   ⟨0x24, 1, 0, 1, 0, [⟨0, 20, .rw, 1000⟩]⟩,
   ⟨0x28, 1, 0, 1, 0, [⟨0, 8, .rw, 128⟩]⟩,
   ⟨0x2C, 1, 0, 1, 0, [⟨0, 32, .ro, 0⟩]⟩,
   ⟨0x30, 1, 0, 1, 0, [⟨0, 32, .ro, 0⟩]⟩,
   ⟨0x34, 1, 0, 1, 0, [⟨0, 32, .rw, 0⟩]⟩,
   ⟨0x38, 1, 0, 1, 0, [⟨0, 16, .rw, 100⟩]⟩,
   ⟨0x40, 3, 8, 1, 0, [⟨0, 16, .rw, 0⟩, ⟨16, 16, .rw, 0⟩]⟩,
   ⟨0x44, 3, 8, 1, 0, [⟨0, 16, .rw, 0⟩, ⟨16, 16, .rw, 0⟩]⟩,
   ⟨0x60, 1, 0, 1, 0, [⟨0, 32, .rw, 0⟩]⟩,
   ⟨0x64, 1, 0, 1, 0, [⟨0, 16, .rw, 0⟩]⟩,
   ⟨0x68, 1, 0, 1, 0, [⟨0, 30, .rw, 0⟩, ⟨31, 1, .wo, 0⟩]⟩]

/-- Registers of TIM. -/
def regsTIM1 : List RegDesc :=
  [⟨0x70, 1, 0, 1, 0, [⟨0, 30, .ro, 0⟩, ⟨31, 1, .ro, 0⟩]⟩,
   ⟨0x74, 1, 0, 1, 0, [⟨0, 30, .rw, 100000000⟩]⟩,
   ⟨0x80, 4, 4, 1, 0, [⟨0, 1, .ro, 0⟩, ⟨1, 1, .ro, 0⟩, ⟨2, 1, .ro, 0⟩, ⟨16, 16, .ro, 0⟩]⟩,
   ⟨0x90, 1, 0, 1, 0, [⟨0, 12, .rw, 0⟩, ⟨31, 1, .wo, 0⟩]⟩,
   ⟨0xA0, 1, 0, 1, 0, [⟨0, 32, .w1cAll, 0⟩]⟩,
   ⟨0xA4, 1, 0, 1, 0, [⟨0, 32, .w1cAll, 0⟩]⟩]

/-- Registers of TIM. -/
def regsTIM : List RegDesc := regsTIM0 ++ regsTIM1

/-- Registers of PCX. -/
def regsPCX0 : List RegDesc :=
  [⟨0x0, 1, 0, 1, 0, [⟨0, 16, .ro, 0⟩, ⟨16, 16, .ro, 2112⟩]⟩,
   ⟨0x4, 1, 0, 1, 0, [⟨0, 16, .rwL, 0⟩, ⟨16, 16, .rwL, 0⟩]⟩,
   ⟨0x8, 1, 0, 1, 0, [⟨0, 2, .rw, 0⟩, ⟨2, 3, .rw, 5⟩, ⟨5, 1, .rw, 1⟩, ⟨6, 1, .rw, 1⟩]⟩,
   ⟨0xC, 1, 0, 1, 0, [⟨0, 1, .ro, 0⟩, ⟨1, 3, .ro, 0⟩, ⟨4, 3, .ro, 0⟩, ⟨7, 1, .ro, 0⟩]⟩,
   ⟨0x10, 1, 0, 1, 0, [⟨0, 10, .rw, 2⟩]⟩,
   ⟨0x14, 1, 0, 1, 0, [⟨0, 10, .rw, 40⟩]⟩,
   ⟨0x18, 1, 0, 1, 0, [⟨0, 3, .rw, 0⟩, ⟨3, 1, .rw, 0⟩, ⟨4, 3, .rw, 0⟩, ⟨7, 1, .rw, 0⟩, ⟨8, 3, .rw, 0⟩, ⟨11, 1, .rw, 0⟩, ⟨12, 3, .rw, 0⟩, ⟨15, 1, .rw, 0⟩, ⟨16, 3, .rw, 0⟩, ⟨19, 1, .rw, 0⟩, ⟨20, 3, .rw, 0⟩, ⟨23, 1, .rw, 0⟩, ⟨24, 3, .rw, 0⟩, ⟨27, 1, .rw, 0⟩, ⟨28, 3, .rw, 0⟩, ⟨31, 1, .rw, 0⟩]⟩,
   ⟨0x20, 4, 4, 1, 0, [⟨0, 1, .ro, 0⟩, ⟨1, 3, .ro, 0⟩, ⟨4, 3, .ro, 0⟩, ⟨7, 1, .ro, 0⟩, ⟨8, 1, .ro, 0⟩, ⟨9, 1, .ro, 0⟩, ⟨16, 12, .ro, 0⟩]⟩,
   ⟨0x40, 16, 4, 1, 0, [⟨0, 1, .ro, 0⟩, ⟨1, 1, .ro, 0⟩, ⟨2, 1, .ro, 0⟩, ⟨3, 1, .rw, 1⟩, ⟨4, 1, .ro, 0⟩, ⟨8, 6, .ro, 0⟩, ⟨14, 2, .ro, 0⟩, ⟨16, 12, .ro, 0⟩]⟩,
   ⟨0x80, 1, 0, 1, 0, [⟨0, 6, .ro, 0⟩]⟩,
   ⟨0x84, 1, 0, 1, 0, [⟨0, 5, .ro, 0⟩]⟩,
   ⟨0x90, 1, 0, 1, 0, [⟨0, 32, .w1cAll, 0⟩]⟩,
   ⟨0x94, 1, 0, 1, 0, [⟨0, 32, .w1cAll, 0⟩]⟩,
   ⟨0x98, 1, 0, 1, 0, [⟨0, 32, .w1cAll, 0⟩]⟩,
   ⟨0x9C, 1, 0, 1, 0, [⟨0, 32, .w1cAll, 0⟩]⟩,
   ⟨0xA0, 1, 0, 1, 0, [⟨0, 32, .w1cAll, 0⟩]⟩,
   ⟨0xA4, 1, 0, 1, 0, [⟨0, 32, .w1cAll, 0⟩]⟩,
   ⟨0xA8, 1, 0, 1, 0, [⟨0, 32, .w1cAll, 0⟩]⟩,
   ⟨0x1000, 64, 32, 1, 0, [⟨0, 12, .ro, 0⟩, ⟨12, 4, .ro, 0⟩, ⟨16, 13, .ro, 0⟩, ⟨31, 1, .ro, 0⟩]⟩,
   ⟨0x1004, 64, 32, 1, 0, [⟨0, 32, .ro, 0⟩]⟩]

/-- Registers of PCX. -/
def regsPCX1 : List RegDesc :=
  [⟨0x1008, 64, 32, 1, 0, [⟨0, 32, .ro, 0⟩]⟩,
   ⟨0x100C, 64, 32, 1, 0, [⟨0, 32, .ro, 0⟩]⟩,
   ⟨0x1010, 64, 32, 1, 0, [⟨0, 30, .ro, 0⟩]⟩,
   ⟨0x1014, 64, 32, 1, 0, [⟨0, 16, .ro, 0⟩]⟩,
   ⟨0x1018, 64, 32, 1, 0, []⟩,
   ⟨0x101C, 64, 32, 1, 0, []⟩,
   ⟨0x1800, 32, 16, 1, 0, [⟨0, 32, .ro, 0⟩]⟩,
   ⟨0x1804, 32, 16, 1, 0, [⟨0, 32, .ro, 0⟩]⟩,
   ⟨0x1808, 32, 16, 1, 0, [⟨0, 10, .ro, 0⟩, ⟨10, 4, .ro, 0⟩, ⟨14, 3, .ro, 0⟩, ⟨31, 1, .ro, 0⟩]⟩,
   ⟨0x180C, 32, 16, 1, 0, [⟨0, 30, .ro, 0⟩]⟩]

/-- Registers of PCX. -/
def regsPCX : List RegDesc := regsPCX0 ++ regsPCX1

/-- Registers of DSC. -/
def regsDSC : List RegDesc :=
  [⟨0x10, 1, 0, 1, 0, [⟨0, 32, .w1cAll, 0⟩]⟩,
   ⟨0x14, 1, 0, 1, 0, [⟨0, 32, .w1cAll, 0⟩]⟩,
   ⟨0x18, 1, 0, 1, 0, [⟨0, 32, .w1cAll, 0⟩]⟩,
   ⟨0x1C, 1, 0, 1, 0, [⟨0, 32, .w1cAll, 0⟩]⟩,
   ⟨0x20, 1, 0, 1, 0, [⟨0, 32, .w1cAll, 0⟩]⟩,
   ⟨0x100, 2, 64, 1, 0, [⟨0, 1, .rw, 0⟩, ⟨1, 1, .rw, 0⟩, ⟨2, 1, .wo, 0⟩, ⟨3, 1, .rw, 0⟩, ⟨4, 1, .rw, 0⟩, ⟨5, 1, .rw, 0⟩, ⟨6, 3, .rw, 5⟩, ⟨9, 2, .rw, 2⟩]⟩,
   ⟨0x104, 2, 64, 1, 0, [⟨0, 1, .ro, 0⟩, ⟨1, 3, .ro, 0⟩, ⟨4, 3, .ro, 0⟩, ⟨7, 1, .ro, 0⟩, ⟨8, 2, .ro, 0⟩, ⟨10, 2, .ro, 0⟩, ⟨12, 1, .ro, 0⟩, ⟨13, 1, .ro, 0⟩, ⟨14, 1, .ro, 0⟩, ⟨15, 1, .ro, 0⟩]⟩,
   ⟨0x108, 2, 64, 1, 0, [⟨0, 13, .ro, 0⟩, ⟨16, 13, .ro, 0⟩]⟩,
   ⟨0x10C, 2, 64, 1, 0, [⟨0, 26, .ro, 0⟩]⟩,
   ⟨0x110, 2, 64, 1, 0, [⟨0, 8, .rw, 0⟩, ⟨16, 8, .ro, 0⟩]⟩,
   ⟨0x114, 2, 64, 1, 0, [⟨0, 32, .ro, 0⟩]⟩,
   ⟨0x118, 2, 64, 1, 0, [⟨0, 32, .ro, 0⟩]⟩,
   ⟨0x11C, 2, 64, 1, 0, [⟨0, 1, .wo, 0⟩]⟩,
   ⟨0x1000, 2, 512, 128, 4, [⟨0, 32, .rw, 0⟩]⟩]

/-- Registers of DSO. -/
def regsDSO : List RegDesc :=
  [⟨0x0, 1, 0, 1, 0, [⟨0, 32, .w1cAll, 0⟩]⟩,
   ⟨0x4, 1, 0, 1, 0, [⟨0, 32, .w1cAll, 0⟩]⟩,
   ⟨0x8, 1, 0, 1, 0, [⟨0, 32, .w1cAll, 0⟩]⟩,
   ⟨0xC, 1, 0, 1, 0, [⟨0, 32, .w1cAll, 0⟩]⟩,
   ⟨0x100, 4, 64, 1, 0, [⟨0, 1, .rw, 0⟩, ⟨1, 1, .rw, 0⟩, ⟨2, 1, .rw, 0⟩, ⟨3, 1, .rw, 0⟩, ⟨4, 1, .rw, 1⟩, ⟨5, 1, .rw, 1⟩, ⟨6, 1, .rw, 0⟩, ⟨7, 1, .rw, 1⟩, ⟨8, 1, .wo, 0⟩]⟩,
   ⟨0x104, 4, 64, 1, 0, [⟨0, 3, .ro, 0⟩, ⟨3, 3, .ro, 0⟩, ⟨6, 2, .ro, 0⟩, ⟨8, 1, .ro, 0⟩, ⟨9, 1, .ro, 0⟩, ⟨10, 1, .ro, 0⟩, ⟨11, 1, .ro, 0⟩, ⟨12, 1, .ro, 0⟩, ⟨13, 2, .ro, 0⟩, ⟨15, 1, .ro, 0⟩, ⟨16, 4, .ro, 0⟩]⟩,
   ⟨0x108, 4, 64, 1, 0, [⟨0, 11, .rw, 0⟩, ⟨16, 7, .rw, 64⟩]⟩,
   ⟨0x10C, 4, 64, 1, 0, [⟨0, 13, .rw, 0⟩, ⟨16, 13, .rw, 0⟩]⟩,
   ⟨0x110, 4, 64, 1, 0, [⟨0, 13, .rw, 0⟩, ⟨16, 10, .rw, 0⟩, ⟨31, 1, .rw, 0⟩]⟩,
   ⟨0x114, 4, 64, 1, 0, [⟨0, 13, .rw, 0⟩, ⟨16, 13, .rw, 0⟩]⟩,
   ⟨0x118, 4, 64, 1, 0, [⟨0, 13, .rw, 0⟩, ⟨16, 10, .rw, 0⟩, ⟨31, 1, .rw, 0⟩]⟩,
   ⟨0x11C, 4, 64, 1, 0, [⟨0, 22, .rw, 0⟩]⟩,
   ⟨0x120, 4, 64, 1, 0, [⟨0, 26, .rw, 0⟩]⟩,
   ⟨0x124, 4, 64, 1, 0, [⟨0, 26, .rw, 0⟩]⟩,
   ⟨0x128, 4, 64, 1, 0, [⟨0, 32, .ro, 0⟩]⟩,
   ⟨0x12C, 4, 64, 1, 0, [⟨0, 32, .ro, 0⟩]⟩,
   ⟨0x130, 4, 64, 1, 0, [⟨0, 32, .ro, 0⟩]⟩,
   ⟨0x134, 4, 64, 1, 0, [⟨0, 30, .ro, 0⟩]⟩,
   ⟨0x138, 4, 64, 1, 0, [⟨0, 32, .ro, 0⟩]⟩]

/-- Registers of ETH. -/
def regsETH : List RegDesc :=
  [⟨0x0, 1, 0, 1, 0, [⟨0, 2, .rw, 0⟩, ⟨2, 2, .rw, 0⟩, ⟨4, 1, .rw, 0⟩, ⟨5, 1, .rw, 1⟩, ⟨6, 1, .rw, 0⟩, ⟨7, 1, .rw, 1⟩]⟩,
   ⟨0x4, 1, 0, 1, 0, [⟨0, 1, .ro, 0⟩, ⟨1, 3, .ro, 0⟩, ⟨4, 1, .ro, 0⟩]⟩,
   ⟨0x8, 1, 0, 1, 0, [⟨0, 16, .rw, 0⟩, ⟨16, 16, .rw, 0⟩]⟩,
   ⟨0xC, 1, 0, 1, 0, [⟨0, 16, .rw, 0⟩, ⟨16, 16, .rw, 0⟩]⟩,
   ⟨0x10, 1, 0, 1, 0, [⟨0, 8, .ro, 0⟩, ⟨8, 1, .ro, 0⟩, ⟨16, 16, .ro, 0⟩]⟩,
   ⟨0x14, 1, 0, 1, 0, [⟨0, 32, .ro, 0⟩]⟩,
   ⟨0x18, 1, 0, 1, 0, [⟨0, 32, .ro, 0⟩]⟩,
   ⟨0x1C, 1, 0, 1, 0, [⟨0, 32, .ro, 0⟩]⟩,
   ⟨0x20, 1, 0, 1, 0, [⟨0, 7, .ro, 0⟩, ⟨8, 1, .w1c, 0⟩]⟩,
   ⟨0x30, 1, 0, 1, 0, [⟨0, 32, .w1cAll, 0⟩]⟩,
   ⟨0x34, 1, 0, 1, 0, [⟨0, 32, .w1cAll, 0⟩]⟩,
   ⟨0x38, 1, 0, 1, 0, [⟨0, 32, .w1cAll, 0⟩]⟩,
   ⟨0x3C, 1, 0, 1, 0, [⟨0, 32, .w1cAll, 0⟩]⟩,
   ⟨0x40, 1, 0, 1, 0, [⟨0, 32, .w1cAll, 0⟩]⟩,
   ⟨0x44, 1, 0, 1, 0, [⟨0, 32, .w1cAll, 0⟩]⟩]

/-- Registers that only instance 0 of ETH has. -/
def regsETHInst0 : List RegDesc :=
  [⟨0x24, 1, 0, 1, 0, [⟨0, 16, .rw, 0⟩, ⟨16, 5, .rw, 0⟩, ⟨21, 5, .rw, 0⟩, ⟨26, 1, .rw, 0⟩, ⟨27, 2, .rw, 0⟩, ⟨30, 1, .ro, 0⟩, ⟨31, 1, .wo, 0⟩]⟩]

/-- Registers of USB. -/
def regsUSB : List RegDesc :=
  [⟨0x0, 1, 0, 1, 0, [⟨0, 1, .rw, 1⟩, ⟨1, 2, .rw, 2⟩, ⟨3, 1, .rw, 0⟩, ⟨4, 1, .rw, 1⟩]⟩,
   ⟨0x4, 1, 0, 1, 0, [⟨0, 2, .ro, 3⟩, ⟨2, 3, .ro, 0⟩, ⟨5, 1, .ro, 0⟩, ⟨6, 7, .ro, 0⟩, ⟨13, 1, .ro, 0⟩, ⟨14, 1, .ro, 0⟩, ⟨16, 7, .ro, 0⟩, ⟨23, 1, .ro, 0⟩]⟩,
   ⟨0x8, 1, 0, 1, 0, [⟨0, 3, .ro, 0⟩, ⟨3, 3, .ro, 0⟩, ⟨6, 1, .ro, 0⟩, ⟨7, 2, .ro, 0⟩]⟩,
   ⟨0xC, 1, 0, 1, 0, [⟨0, 3, .ro, 0⟩, ⟨8, 3, .ro, 0⟩]⟩,
   ⟨0x10, 7, 4, 1, 0, [⟨0, 1, .ro, 0⟩, ⟨1, 1, .ro, 0⟩, ⟨2, 1, .ro, 0⟩, ⟨3, 1, .ro, 0⟩, ⟨4, 1, .ro, 0⟩, ⟨5, 2, .ro, 0⟩, ⟨7, 1, .ro, 0⟩]⟩,
   ⟨0x40, 1, 0, 1, 0, [⟨0, 32, .w1cAll, 0⟩]⟩,
   ⟨0x44, 1, 0, 1, 0, [⟨0, 32, .w1cAll, 0⟩]⟩,
   ⟨0x48, 1, 0, 1, 0, [⟨0, 32, .w1cAll, 0⟩]⟩,
   ⟨0x4C, 1, 0, 1, 0, [⟨0, 32, .w1cAll, 0⟩]⟩,
   ⟨0x50, 1, 0, 1, 0, [⟨0, 32, .w1cAll, 0⟩]⟩]

/-- Registers of PD. -/
def regsPD : List RegDesc :=
  [⟨0x0, 1, 0, 1, 0, [⟨0, 1, .rw, 0⟩, ⟨1, 2, .rw, 2⟩, ⟨3, 2, .rw, 0⟩, ⟨5, 2, .rw, 2⟩, ⟨7, 2, .rw, 0⟩, ⟨9, 2, .rw, 0⟩, ⟨11, 1, .rw, 1⟩, ⟨12, 1, .rw, 1⟩, ⟨13, 1, .rw, 1⟩, ⟨14, 1, .rw, 0⟩, ⟨15, 1, .wo, 0⟩, ⟨16, 1, .wo, 0⟩]⟩,
   ⟨0x4, 1, 0, 1, 0, [⟨0, 4, .ro, 0⟩, ⟨4, 1, .ro, 0⟩, ⟨5, 1, .ro, 0⟩, ⟨6, 1, .ro, 0⟩, ⟨7, 1, .ro, 0⟩, ⟨8, 2, .ro, 0⟩, ⟨10, 4, .ro, 0⟩, ⟨14, 1, .ro, 0⟩, ⟨15, 1, .ro, 0⟩]⟩,
   ⟨0x8, 1, 0, 1, 0, [⟨0, 10, .ro, 0⟩, ⟨16, 10, .ro, 0⟩]⟩,
   ⟨0xC, 1, 0, 1, 0, [⟨0, 10, .ro, 0⟩]⟩,
   ⟨0x10, 1, 0, 1, 0, [⟨0, 12, .ro, 0⟩, ⟨12, 10, .ro, 0⟩]⟩,
   ⟨0x40, 11, 4, 1, 0, [⟨0, 32, .rw, 0⟩]⟩,
   ⟨0x80, 11, 4, 1, 0, [⟨0, 32, .rw, 0⟩]⟩,
   ⟨0xC0, 1, 0, 1, 0, [⟨0, 8, .rw, 0⟩, ⟨8, 2, .rw, 0⟩]⟩,
   ⟨0xD0, 1, 0, 1, 0, [⟨0, 7, .rw, 10⟩, ⟨7, 1, .rw, 1⟩, ⟨8, 8, .ro, 0⟩, ⟨16, 2, .ro, 0⟩]⟩,
   ⟨0xD4, 1, 0, 1, 0, [⟨0, 3, .rw, 0⟩, ⟨3, 3, .rw, 0⟩]⟩,
   ⟨0xE0, 1, 0, 1, 0, [⟨0, 32, .w1cAll, 0⟩]⟩,
   ⟨0xE4, 1, 0, 1, 0, [⟨0, 32, .w1cAll, 0⟩]⟩,
   ⟨0xE8, 1, 0, 1, 0, [⟨0, 32, .w1cAll, 0⟩]⟩,
   ⟨0xEC, 1, 0, 1, 0, [⟨0, 32, .w1cAll, 0⟩]⟩,
   ⟨0xF0, 1, 0, 1, 0, [⟨0, 32, .w1cAll, 0⟩]⟩]

/-- Registers of NIC. -/
def regsNIC0 : List RegDesc :=
  [⟨0x0, 1, 0, 1, 0, [⟨0, 1, .rw, 0⟩, ⟨1, 1, .rw, 0⟩, ⟨2, 1, .rw, 0⟩, ⟨4, 4, .rw, 0⟩]⟩,
   ⟨0x4, 1, 0, 1, 0, [⟨0, 32, .rw, 0⟩]⟩,
   ⟨0x8, 1, 0, 1, 0, [⟨0, 16, .rw, 0⟩]⟩,
   ⟨0xC, 1, 0, 1, 0, [⟨0, 1, .ro, 0⟩, ⟨1, 3, .ro, 0⟩, ⟨4, 1, .ro, 0⟩, ⟨5, 1, .ro, 0⟩]⟩,
   ⟨0x10, 1, 0, 1, 0, [⟨0, 8, .ro, 0⟩, ⟨8, 1, .ro, 0⟩, ⟨16, 16, .ro, 0⟩]⟩,
   ⟨0x14, 1, 0, 1, 0, [⟨0, 32, .ro, 0⟩]⟩,
   ⟨0x18, 1, 0, 1, 0, [⟨0, 32, .ro, 0⟩]⟩,
   ⟨0x1C, 1, 0, 1, 0, [⟨0, 32, .ro, 0⟩]⟩,
   ⟨0x20, 1, 0, 1, 0, [⟨0, 7, .ro, 0⟩, ⟨8, 1, .w1c, 0⟩]⟩,
   ⟨0x24, 1, 0, 1, 0, [⟨0, 32, .w1cAll, 0⟩]⟩,
   ⟨0x28, 1, 0, 1, 0, [⟨0, 32, .w1cAll, 0⟩]⟩,
   ⟨0x100, 10, 4, 1, 0, [⟨0, 32, .rw, 0⟩]⟩,
   ⟨0x200, 16, 4, 1, 0, [⟨0, 32, .rw, 0⟩]⟩,
   ⟨0x1000, 16, 32, 1, 0, [⟨12, 20, .rw, 0⟩]⟩,
   ⟨0x1004, 16, 32, 1, 0, [⟨0, 32, .rw, 0⟩]⟩,
   ⟨0x1008, 16, 32, 1, 0, [⟨0, 1, .rw, 0⟩, ⟨8, 5, .rw, 0⟩, ⟨22, 1, .rw, 0⟩]⟩,
   ⟨0x100C, 16, 32, 1, 0, [⟨0, 16, .wo, 0⟩]⟩,
   ⟨0x1010, 16, 32, 1, 0, [⟨0, 16, .ro, 0⟩, ⟨16, 16, .ro, 0⟩]⟩,
   ⟨0x2000, 16, 32, 1, 0, [⟨12, 20, .rw, 0⟩]⟩,
   ⟨0x2004, 16, 32, 1, 0, [⟨0, 32, .rw, 0⟩]⟩]

/-- Registers of NIC. -/
def regsNIC1 : List RegDesc :=
  [⟨0x2008, 16, 32, 1, 0, [⟨0, 1, .rw, 0⟩, ⟨8, 5, .rw, 0⟩, ⟨22, 1, .rw, 0⟩]⟩,
   ⟨0x200C, 16, 32, 1, 0, [⟨0, 16, .wo, 0⟩]⟩,
   ⟨0x2010, 16, 32, 1, 0, [⟨0, 16, .ro, 0⟩, ⟨16, 16, .ro, 0⟩]⟩]

/-- Registers of NIC. -/
def regsNIC : List RegDesc := regsNIC0 ++ regsNIC1

/-- Registers of PUSH. -/
def regsPUSH : List RegDesc :=
  [⟨0x0, 1, 0, 1, 0, [⟨12, 20, .rw, 0⟩]⟩,
   ⟨0x4, 1, 0, 1, 0, [⟨0, 32, .rw, 0⟩]⟩,
   ⟨0x8, 1, 0, 1, 0, [⟨0, 1, .rw, 0⟩, ⟨8, 5, .rw, 0⟩, ⟨16, 3, .rw, 0⟩, ⟨22, 1, .rw, 0⟩]⟩,
   ⟨0xC, 1, 0, 1, 0, [⟨0, 16, .wo, 0⟩]⟩,
   ⟨0x10, 1, 0, 1, 0, [⟨0, 16, .ro, 0⟩, ⟨16, 16, .ro, 0⟩]⟩,
   ⟨0x14, 1, 0, 1, 0, [⟨0, 32, .ro, 0⟩]⟩]

/-- Registers of MSIX. -/
def regsMSIX : List RegDesc :=
  [⟨0x0, 64, 16, 1, 0, [⟨2, 30, .rw, 0⟩]⟩,
   ⟨0x4, 64, 16, 1, 0, [⟨0, 32, .rw, 0⟩]⟩,
   ⟨0x8, 64, 16, 1, 0, [⟨0, 32, .rw, 0⟩]⟩,
   ⟨0xC, 64, 16, 1, 0, [⟨0, 1, .rw, 1⟩]⟩,
   ⟨0x2000, 2, 4, 1, 0, [⟨0, 32, .ro, 0⟩]⟩]

/-- The registers of block `b`, instance `n` (R503; meters only in SCH0, MDIO only in ETH0). -/
def blockRegs (b : Blk) (n : Nat) : List RegDesc :=
  match b with
  | .glb => regsGLB
  | .evt => regsEVT
  | .pwr => regsPWR
  | .lant => regsLANT
  | .key => regsKEY
  | .flt => regsFLT
  | .hwr => regsHWR
  | .mem => regsMEM
  | .adt => regsADT
  | .drf => regsDRF
  | .tun => regsTUN
  | .sch => if n = 0 then regsSCH ++ regsSCHInst0 else regsSCH
  | .fab => regsFAB
  | .crt => regsCRT
  | .tim => regsTIM
  | .pcx => regsPCX
  | .dsc => regsDSC
  | .dso => regsDSO
  | .eth => if n = 0 then regsETH ++ regsETHInst0 else regsETH
  | .usb => regsUSB
  | .pd => regsPD
  | .nic => regsNIC
  | .push => regsPUSH
  | .msix => regsMSIX

/-- Table 22-1: block, base of instance 0, number of instances, distance of instances, span of one. -/
def blockTable : List (Blk × Nat × Nat × Nat × Nat) :=
  [(.glb, 0x0, 1, 0x4000, 0x4000),
   (.evt, 0x4000, 1, 0x4000, 0x4000),
   (.pwr, 0x8000, 1, 0x4000, 0x4000),
   (.lant, 0xC000, 1, 0x4000, 0x4000),
   (.key, 0x10000, 1, 0x4000, 0x4000),
   (.flt, 0x14000, 1, 0x4000, 0x4000),
   (.hwr, 0x20000, 1, 0x10000, 0x10000),
   (.mem, 0x30000, 1, 0x10000, 0x10000),
   (.adt, 0x40000, 3, 0x10000, 0x10000),
   (.drf, 0x70000, 1, 0x10000, 0x10000),
   (.tun, 0x80000, 1, 0x20000, 0x20000),
   (.sch, 0xA0000, 3, 0x10000, 0x10000),
   (.fab, 0xD0000, 1, 0x10000, 0x10000),
   (.crt, 0xE0000, 1, 0x10000, 0x10000),
   (.tim, 0xF0000, 1, 0x10000, 0x10000),
   (.pcx, 0x100000, 1, 0x10000, 0x10000),
   (.dsc, 0x110000, 1, 0x10000, 0x10000),
   (.dso, 0x120000, 1, 0x10000, 0x10000),
   (.eth, 0x130000, 2, 0x8000, 0x8000),
   (.usb, 0x140000, 1, 0x10000, 0x10000),
   (.pd, 0x150000, 3, 0x4000, 0x4000),
   (.nic, 0x1000000, 2, 0x20000, 0x20000),
   (.push, 0x1040000, 4, 0x1000, 0x1000),
   (.msix, 0x1080000, 4, 0x4000, 0x4000)]

end Sys2Proof.Machine
end

