-- ==== Sys2Proof/Machine/State.lean ====
section
/-! DEFINITION. The state of the device: its register file, the internal state of each block, what it has sent out, and
the queue of commands that wait. -/

namespace Sys2Proof.Machine

/-! ### Control model (chapters 1, 3, 4) -/

/-- The internal state of one ring (R84, R85, R97, R100). `total` counts the entries (records, on an event ring) the
device has reached since the ring was enabled: DEVIDX is it modulo 65,536 and PHASE follows from it. `laps`: how often 65,536 fits into the
entries between the two indices, which the indices themselves cannot tell. -/
structure RingSt where
  ring : Nat
  total : Nat
  laps : Nat
  seq : Nat
  dropped : Bool
  held : List EvRec
  posted : List PostedBuf
deriving DecidableEq, Repr

/-- A host command that has been started and not completed (R89). `serial` tells it from every other command, `pair` is its completion
ring as it was taken; `req` is the management request it waits for,
where it waits for one (R94), and `dst` that request's device; `own`: this host controlled the fabric when it was taken. -/
structure InFlight where
  serial : Nat
  pair : Nat
  ring : Nat
  idx : Nat
  tag : BitVec 16
  opcode : Nat
  req : Option Nat
  dst : Nat
  own : Bool
deriving DecidableEq, Repr

/-- A posted register write that has completed on the bus and not yet taken effect (R23). -/
structure PostedWrite where
  req : Req
  addr : Nat
  data : Word
deriving DecidableEq, Repr

/-- A holding register (R24): requester path, address of the high word, latched value. -/
structure Held where
  req : Req
  addr : Nat
  data : Word
deriving DecidableEq, Repr

/-- Rings, vectors, register paths and the snapshot. -/
structure CtlSt where
  rings : List RingSt
  inflight : List InFlight
  heldCpl : List Cpl
  serial : Nat
  nextReq : Nat
  vecs : List (Nat × Bool)
  posted : List PostedWrite
  holds : List Held
  snapTaker : Nat
  snap : List (Nat × Word)
  mirror : List (Nat × Word)
deriving DecidableEq, Repr

/-- A yield in progress at the owner (R108). `sent`: YIELD or RELEASE has gone out. -/
structure YieldSt where
  ticket : InFlight
  tofid : Nat
  sent : Bool
deriving DecidableEq, Repr

/-- Ownership beside GLB_OWNER (R102 to R108), and the host-alive conditions. `prio` is GLB_OWNPRIO as it stood at the last election,
`yieldFrom` the rank of the owner whose yield this device took, while another's can still be in flight. -/
structure OwnSt where
  best : Option (Nat × Rank × Nat)
  ownClaim : Bool
  highClaim : Option Nat
  prio : Nat
  yieldFrom : Option Rank
  ownerRank : Option Rank
  yielding : Option YieldSt
  wasOwner : Bool
  noClaim : Bool
  perstHigh : Bool
  linkUp : Bool
  bme : Bool
deriving DecidableEq, Repr

/-- The boot directory in use (R70): A_OFF, B_OFF, its SEQ, the offset of the copy to be rewritten next, and the flash's size. -/
structure BootDir where
  aOff : Nat
  bOff : Nat
  seq : Nat
  next : Nat
  size : Nat
deriving DecidableEq, Repr

/-- Boot ROM, resets and the Lantern's own latches (chapter 3). `held`: the domains outside the Lantern are held in reset; `wdt`: the
boot watchdog runs; `pers`: PCIe personality presented, 0 Retry Status, 1 boot, 2 full; `startSlot` the slot started; `railsLow` the rails
below their level, as RAIL_BELOW_RESET_LEVEL numbers them; `warmAt` the uptime of the last warm reset; `late`: 900 ms have passed without
a personality since PCIE_PERST_N rose; `perstOut` the level of PCIE_PERST_N in dock role; `flashMode` the flash read mode (0 1-1-1, 1 1-4-4,
2 8-8-8, 3 8D-8D-8D); `portsOff`: a thermal trip keeps the PD ports without terminations until PORST_N rises (R410). -/
structure BootSt where
  roleLatched : Bool
  strapFault : Bool
  strapsDue : Bool
  held : Bool
  porstLow : Bool
  warmLow : Bool
  romDone : Bool
  wdt : Bool
  pers : Nat
  startSlot : Nat
  thermTrip : Bool
  portsOff : Bool
  penumbra : Bool
  thrift : Bool
  railsLow : List Nat
  rstCnt : Nat
  warmAt : Nat
  late : Bool
  perstOut : Bool
  flashMode : Nat
  dir : Option BootDir
deriving DecidableEq, Repr

/-- SMBus target (R110 to R112): ADDR, the causes of SMB_ALERT_N (0 strap fault, 1 THERMTRIP_N, 2 Penumbra, 3 owner change), whether the
last DATA read was not available. -/
structure SmbSt where
  addr : Nat
  causes : Nat
  unavail : Bool
deriving DecidableEq, Repr

/-! ### Adit ports and link layer (chapters 5, 6) -/

/-- One Adit port's bring-up and lanes beside its registers (R114 to R138). Lane sets are masks of two bits; `rateMax` is RATEMAX as of
the last Discover Modes, `shared` the set of rates both Mode VDOs share, `rate` the rate of the next training, `det` the device's lanes
with a far termination, `txSwap` and `rxSwap`: logical lane 0 is the device's lane 1 in that direction, `inv` the device's lanes received
inverted, `one` whether the link is held to one lane and `ownOne` whether by this end, `status` the status of the own taps and `wants` what is
asked of the far ones (pre and post of lane 0, then of lane 1), `frames` the training frames begun, `cap` CAPCFG and `fidReq` FIDREQ as latched for
this EXCHANGE, `firstJoin` the uptime of each lane's first rejoin, `skewKept` the skew measured before lane 0 failed,
`uncs` the uptimes of the last second's uncorrectable codewords, `inRoute` whether the port may carry routed frames (R379), `met` whether
a NEIGHBOUR has come since the port entered LIT. -/
structure PortSt where
  rateMax : Nat
  shared : Nat
  rate : Nat
  retry : Bool
  idle : Bool
  one : Bool
  ownOne : Bool
  det : Nat
  txSwap : Bool
  rxSwap : Bool
  inv : Nat
  status : List Nat
  wants : List Nat
  frames : Nat
  rxReady : Nat
  farReady : Nat
  locked : Nat
  cap : Nat
  fidReq : Nat
  peerCap : List (BitVec 8)
  gotAck : Bool
  ackSent : Bool
  asking : Nat
  firstJoin0 : Option Nat
  firstJoin1 : Option Nat
  skewKept : Nat
  uncs : List Nat
  inRoute : Bool
  met : Bool
deriving DecidableEq, Repr

/-- A port with no bring-up in progress. -/
def PortSt.reset : PortSt :=
  { rateMax := 2, shared := 0, rate := 0, retry := false, idle := false, one := false, ownOne := false, det := 0, txSwap := false, rxSwap := false, inv := 0,
    status := [0, 0, 0, 0], wants := [0, 0, 0, 0], frames := 0, rxReady := 0, farReady := 0, locked := 0, cap := 0, fidReq := 0, peerCap := [], gotAck := false, ackSent := false,
    asking := 0, firstJoin0 := none, firstJoin1 := none, skewKept := 0, uncs := [], inRoute := false, met := false }

/-- One logical lane of a port's receiver (R119 to R123, R136, R138): the last 58 bits received; the valid sync headers in a row, up to
64; how the last 64 headers were; the codewords of zero syndrome in a row; whether block and codeword lock hold; the uncorrectable
codewords in a row; the codewords since the last marker, once one has come, and `seek`, those since lock while none has; the uptime of the last
offence that R138 judges; the codewords that wait for the other lane's, decoded, each with the stamp of its first UI: a block in error is none;
`skip` more are dropped before the lane stands in step with the other. -/
structure RxLane where
  scr : BitVec 58
  run : Nat
  window : List Bool
  zero : Nat
  lock : Bool
  row : Nat
  since : Option Nat
  bad : Option Nat
  fifo : List (Int × List (Option Block))
  seek : Nat
  skip : Nat
deriving DecidableEq, Repr

/-- A lane that receives nothing; the scrambler's state is never reset (R119). -/
def RxLane.fresh (scr : BitVec 58) : RxLane :=
  { scr := scr, run := 0, window := [], zero := 0, lock := false, row := 0, since := none, bad := none, fifo := [], seek := 0, skip := 0 }

/-- A frame being put together from its blocks (R118): the bytes so far; 1 a block in error among the header's, 2 after it. -/
structure RxFrame where
  bytes : List (BitVec 8)
  errored : Nat
deriving DecidableEq, Repr

/-- The coding of one port (R118 to R122, R133). `tx` are the blocks not yet in a codeword; `rate`, `use`, `live`: the codewords' rate, the
lanes striped over and all that carry codewords; `next` the start of the next codeword in ps of uptime, none while none are sent; `sent` the
codewords since LOCK; `scr` the scramblers of the two lanes; `rx` the receiver's lanes; `asm` the frame being received. -/
structure PcsSt where
  tx : List Block
  rate : Nat
  use : Nat
  live : Nat
  next : Option Nat
  sent : Nat
  scr : List (BitVec 58)
  rx : List RxLane
  asm : Option RxFrame
deriving DecidableEq, Repr

/-- A port that sends and receives nothing. -/
def PcsSt.reset : PcsSt :=
  { tx := [], rate := 0, use := 0, live := 0, next := none, sent := 0, scr := [0, 0], rx := [RxLane.fresh 0, RxLane.fresh 0], asm := none }

/-- The coding of a port whose domain has been reset: the scramblers go on as they are (R119). -/
def PcsSt.afterReset (c : PcsSt) : PcsSt := { PcsSt.reset with scr := c.scr, rx := c.rx.map fun r => RxLane.fresh r.scr }

/-- Link encryption of one port (R171 to R173). `life` is REKEYMIN in minutes as of the installation of the keys in use, `lifeNew` of the last keys installed; `step` is the step of R171 the exchange has reached, 0 none; `phase` the
key phase it installs; `eph` is the slot of the ephemeral key, and the keys in use are (phase, slot); `peerKey` is the
public key of the peer's leaf certificate. `exTx` and `exRx` count HSEQ values under the current
keys (R170). -/
structure KeySt where
  step : Nat
  rekey : Bool
  started : Bool
  phase : Nat
  ownRand : BitVec 256
  eph : Nat
  peerRand : BitVec 256
  peerPub : Option (BitVec 768)
  peerKey : BitVec 768
  peerChain : List (BitVec 8)
  failed : Bool
  rdyGot : Bool
  txOn : Bool
  rxOn : Bool
  txPhase : Nat
  exTx : Nat
  exRx : Nat
  since : Nat
  life : Nat
  lifeNew : Nat
  overdue : Bool
  keyTx : List (Nat × Nat)
  keyRx : List (Nat × Nat)
deriving DecidableEq, Repr

/-- A port with no keys. -/
def KeySt.reset : KeySt :=
  { step := 0, rekey := false, started := false, phase := 0, ownRand := 0, eph := 0, peerRand := 0, peerPub := none,
    peerKey := 0, peerChain := [], failed := false, rdyGot := false, txOn := false, rxOn := false, txPhase := 0, exTx := 0, exRx := 0, since := 0, life := 10, lifeNew := 10, overdue := false,
    keyTx := [], keyRx := [] }

/-- One port's link layer (R154 to R164): replay copies oldest first, the frames to resend before any new one, replays
in a row of the oldest frame, credits of the eight classes each way, the classes negotiated, the port's units of the completion pool as of
the last LIT (R159, R161). -/
structure LinkSt where
  replay : List Wire
  resend : List Wire
  replays : Nat
  txLimit : List Nat
  txUsed : List Nat
  txSeen : Nat
  rxLimit : List Nat
  classes : Nat
  pool : Nat
  poolAt : Option Nat
  key : KeySt
deriving DecidableEq, Repr

/-- A port's link layer while the port is DARK. -/
def LinkSt.reset : LinkSt :=
  { replay := [], resend := [], replays := 0, txLimit := List.replicate 8 0, txUsed := List.replicate 8 0, txSeen := 0,
    rxLimit := List.replicate 8 0, classes := 1, pool := 512, poolAt := none, key := KeySt.reset }

/-! ### Key store (chapter 19) -/

/-- A key in a slot (R474): kind 0 a secret, 1 a private key to agree, 2 a private key to sign; policy bits (Table 19-4);
depth. -/
structure KeyVal where
  kind : Nat
  policy : Nat
  depth : Nat
  value : List (BitVec 8)
deriving DecidableEq, Repr

/-- A slot: its generation and its key. -/
structure KeySlot where
  gen : Nat
  key : Option KeyVal
deriving DecidableEq, Repr

/-- An engine operation (Table 19-5): from firmware or a host, its OP, the arguments, the DRAM bytes it names. -/
structure KeyOp where
  fw : Bool
  op : Nat
  args : List (BitVec 8)
  dram : List (BitVec 8)
deriving DecidableEq, Repr

/-- The Lamp Room. `cells` counts the burnt cells of the four transition fields (R469), `svnA` and `svnB` those of the
rollback counter's copies; `runSvn` and `measure` are the running image's; `burning` is the transition being burnt;
`bad` lists what OTP errors have made unusable: 0 the root, 1 the firmware-key digest, 2 the device-CA digest (R473). -/
structure KeyStSt where
  slots : List KeySlot
  cells : List Nat
  depRoot : Option (BitVec 256)
  rmaRoot : Option (BitVec 256)
  svnA : Nat
  svnB : Nat
  runSvn : Nat
  measure : BitVec 384
  running : Option KeyOp
  queue : List KeyOp
  burning : Option Nat
  bad : List Nat
  errAt : Option Nat
deriving DecidableEq, Repr

/-! ### Queues and schedulers (chapter 8) -/

/-- A frame that waits at an Adit egress: tunnel queue (context index), or fabric queue where there is none; the fabric
time it joined; the receive units it still holds and the port they belong to, on a frame in transit (R160); the fence
it waits for (R237): the bundle's leader and P; whether it stands in the DRAM spill area (R456). -/
structure QFrame where
  queue : Option Nat
  f : Frame
  at_ : Nat
  from_ : Option (Nat × Nat)
  fence : Option (Nat × Nat)
  dram : Bool := false
deriving DecidableEq, Repr

/-- A staged commit of one scheduler or of the meters (R218), applied at the first boundary at or after `at_`, which a cart
sets at its commit time; `late` is a WHEN that came too late. It belongs to a command's `group`, or to the cart `cart`. -/
structure Staged where
  at_ : Option Nat
  late : Option Nat
  group : Nat
  cart : Option Nat
deriving DecidableEq, Repr

/-- Who waits for a command's outcome: the host through a command ring (R89), another host bridge through a management
request (R94), or no one. -/
inductive Reply where
  | host (t : InFlight)
  | mgmt (fid id : Nat)
  | noOne
deriving DecidableEq, Repr

/-- An SCH_COMMIT or cart action that waits for its blocks (R218): the command here or the management request elsewhere
that it answers; blocks still to apply (bit n scheduler n, bit 3 the meters); the last boundary applied. -/
structure CommitReq where
  group : Nat
  reply : Reply
  todo : Nat
  last : Nat
deriving DecidableEq, Repr

/-- Fair-queueing tags of a queue's head (R208): start and finish, and whether the queue was eligible at the last look. -/
structure Tag where
  q : Nat
  start : Nat
  fin : Nat
  elig : Bool
deriving DecidableEq, Repr

/-- A commit whose drain runs (R219): its boundary, the meters' commit applied with it, and the slots of the new rotation that have begun. -/
structure Drain where
  t0 : Nat
  met : Option Staged
  slots : Nat
deriving DecidableEq, Repr

/-- A commit that is swapped and whose first new frame has not started (R219): its boundary, whether the meters were committed with it,
when it was swapped. -/
structure Drained where
  t0 : Nat
  met : Bool
  at_ : Nat
deriving DecidableEq, Repr

/-- One port's scheduler (R201 to R226). Balances and tokens are integers; `missed`: the epoch's calendar-miss event has been raised;
`activeQ`: queues that held a frame in this epoch; `lastBound` the last boundary taken; `spilling`: further frames go to the spill area (R456). -/
structure SchSt where
  queue : List QFrame
  grants : List Nat
  ccred : List (Nat × Int)
  lastF : List (Nat × Nat)
  tags : List Tag
  vtime : Nat
  shTok : List (Nat × Int)
  clTok : List (Nat × Int)
  staged : Option Staged
  draining : Option Drain
  drained : Option Drained
  activeQ : List Nat
  missed : Bool
  lastBound : Nat
  spilling : Bool
deriving DecidableEq, Repr

/-- A scheduler with nothing queued. -/
def SchSt.reset : SchSt :=
  { queue := [], grants := [], ccred := [], lastF := [], tags := [], vtime := 0, shTok := [], clTok := [], staged := none,
    draining := none, drained := none, activeQ := [], missed := false, lastBound := 0, spilling := false }

/-! ### Tunnels (chapter 7) -/

/-- A copy held end to end, with the Adit port it is charged to (R163) and its fence (R237). -/
structure Copy where
  f : Frame
  port : Nat
  fence : Option (Nat × Nat)
deriving DecidableEq, Repr

/-- A foreign frame held back at its interface (R185, R213): bytes, KIND, LAST, arriving yellow (R214). -/
structure HeldFrame where
  bytes : List (BitVec 8)
  kind : Nat
  last : Bool
  yellow : Bool
deriving DecidableEq, Repr

/-- The frame that stands first at an end and waits (R213): the ring or queue that offers it, where it is not among those held; whether
one waits; whether its colour has been counted; the colour with which it has passed the meter; since when (uptime) it is held red. -/
structure Offer where
  ring : Option Nat
  pend : Bool
  counted : Bool
  paid : Option Nat
  red : Option Nat
deriving DecidableEq, Repr

/-- No frame waits. -/
def Offer.idle : Offer := { ring := none, pend := false, counted := false, paid := none, red := none }

/-- A context's statistics (R197). -/
structure TunStat where
  admits : Nat
  admitBytes : Nat
  deliver : Nat
  deliverBytes : Nat
  fwd : Nat
  yellow : Nat
  red : Nat
  drop : Nat
  resend : Nat
  dup : Nat
  gap : Nat
deriving DecidableEq, Repr

/-- One tunnel context that is not FREE (Table 7-3), with the copies, held frames and statistics behind it. `paused` is 0,
or the cause of the pause (Table 7-7). `lastResend` is the ESEQ that started the latest resend and its uptime (R167);
`links` are the failed links a resend has started for (R378); `waiting` are arrived frames that wait for a posted buffer
(R96); `first`: the frame that stands first and waits; `await`: a moved end that waits for SEQS. -/
structure TunCtx where
  idx : Nat
  state : Nat
  pos : Nat
  par : TunPar
  paused : Nat
  tx : Nat
  ack : Nat
  rx : Nat
  openAt : Nat
  copies : List Copy
  held : List HeldFrame
  lastResend : Option (Nat × Nat)
  links : List Nat
  waiting : List QFrame
  first : Offer
  await : Bool
  stat : TunStat
deriving DecidableEq, Repr

/-- An acknowledgement owed (R166): destination, TID, RESEND, ESEQ. -/
structure OwedAck where
  dst : Nat
  tid : Nat
  resend : Bool
  eseq : Nat
deriving DecidableEq, Repr

/-- A completion reservation (R161): bundle leader, requester ID, tag, units. -/
structure CplRes where
  lead : Nat
  req : Nat
  tag : Nat
  units : Nat
deriving DecidableEq, Repr

/-- What a tunnel operation is done for: a command, or a hot-plug move of a dock port (R251). -/
inductive TunFor where
  | cmd (t : InFlight)
  | hotPlug (dock port : Nat)
deriving DecidableEq, Repr

/-- A tunnel operation that waits for a drain (R192, R194): 0 close, 1 retarget. -/
structure TunWait where
  who : TunFor
  tid : Nat
  kind : Nat
  force : Bool
  endB : Bool
  newFid : Nat
  newEp : Nat
  dOut : Nat
  dIn : Nat
deriving DecidableEq, Repr

/-- A tunnel command that waits behind another of its TID (R196), with the answers of its devices. -/
structure TunNext where
  t : InFlight
  tid : Nat
  target : Nat
  ops : BitVec 448
  ans : List DevAns
deriving DecidableEq, Repr

/-- A held TID (R187): its operands, the devices of its path set where this host bridge opened it, the devices that have
not confirmed its removal (R189). -/
structure HeldTid where
  par : TunPar
  path : List Nat
  stale : List Nat
deriving DecidableEq, Repr

/-- What an interface makes of a frame: it takes it, lets it wait, or drops it for want of a buffer (R96). -/
inductive Handed where
  | taken
  | waits
  | dropped
deriving DecidableEq, Repr

/-- How a full copy of the TID map stands at a mirror (R508): none is arriving, one is being taken, or a piece of it was missed. -/
inductive CopyIn where
  | idle
  | taking
  | broken
deriving DecidableEq, Repr

/-- Contexts, the TID map and its mirroring, bindings, and tunnel commands in progress. `mapSeq` is the last SEQ sent or
applied, `mapSrc` the owner (FID and GEN) whose numbers these are, `seen` the last that came in; `copyIn` says how a full copy stands; `unanswered` lists map messages with the host bridge they went to. -/
structure TunSt where
  ctxs : List TunCtx
  map : List HeldTid
  mapSeq : Nat
  mapSrc : Option (Nat × Nat)
  seen : Option Nat
  copyIn : CopyIn
  unanswered : List (Nat × MapMsg)
  binds : List Binding
  owed : List OwedAck
  waits : List TunWait
  next : List TunNext
  longAt : Option Nat
  cplPool : List CplRes
  cplLoose : Nat
  loop : List QFrame
deriving DecidableEq, Repr

/-- Meter buckets of one meter, in bits (R212). -/
structure MeterSt where
  m : Nat
  c : Int
  p : Int
deriving DecidableEq, Repr

/-! ### Fabric (chapter 14) -/

/-- A link of the graph: two ends (FID, port) and whether it is encrypted. -/
structure GLink where
  a : Nat
  ap : Nat
  b : Nat
  bp : Nat
  enc : Bool
deriving DecidableEq, Repr

/-- A fabric graph (R364): FIDs of its devices and its links. -/
structure Graph where
  nodes : List Nat
  links : List GLink
deriving DecidableEq, Repr

/-- A held RECORD with the uptime of its last receipt (R363, R364). -/
structure HeldRec where
  r : Rec
  at_ : Nat
deriving DecidableEq, Repr

/-- Discovery and routing. `live` is the graph of the held RECORDs, `graph` the installed one; `tinst` the pending install
instant and `arr` the arrival of the last RECORD that changed the graph (R379), in nanoseconds of fabric time; `dropDue`:
frames of before the install at `instAt` may still wait (R380), `dropAt` the last event of their discard; `relayed` the keys
(UID, GEN, TRY) of ASSIGNs taken, `tries` the owner's ASSIGNs (UID, TRY, FID). -/
structure FabSt where
  recs : List HeldRec
  seq : Nat
  chg : Nat
  neigh : List (Nat × Neigh)
  tinst : Option Nat
  arr : Nat
  computed : Bool
  live : Graph
  graph : Graph
  instAt : Nat
  dropDue : Bool
  dropAt : Option Nat
  relayed : List (Nat × Nat × Nat)
  tries : List (Nat × Nat × Nat)
  rejoin : List (Nat × Nat × Bool)
  firstLit : Bool
deriving DecidableEq, Repr

/-! ### Time (chapter 12) -/

/-- One port's link sync: announce information held, last SYNC_M sent (SEQ and corrected t1), last SYNC_S sent (SEQ and
corrected t2, t3). Timestamps are in 2^-16 ns of fabric time. -/
structure TimPort where
  ann : Option Announce
  seq : Nat
  m : Option (Nat × Int)
  sl : Option (Nat × Int × Int)
deriving DecidableEq, Repr

/-- A port with no time information. -/
def TimPort.reset : TimPort := { ann := none, seq := 0, m := none, sl := none }

/-- A trigger (R322, R323): WHEN, the fabric time of the next edge, PERIOD and WIDTH, in nanoseconds; whether the next
edge counts as late, and the due edge its delay is counted from. -/
structure Trig where
  when : Nat
  next : Nat
  period : Nat
  width : Nat
  late : Bool
  due : Nat
deriving DecidableEq, Repr

/-- The time unit beside its registers. `integ` is the integrator A of R316. -/
structure TimSt where
  ports : List TimPort
  self : Bool
  gm : Nat
  integ : Rat
  lastD : Option Int
  rejects : Nat
  fresh : Bool
  srcLive : Bool
  srcLost : Bool
  holdAt : Option Nat
  alarmAt : Option Nat
  trigs : List (Option Trig)
  ppsSec : Nat
  ppsInAt : Option Nat
  probeSeq : Nat
  probe : Option (Nat × Nat × Int)
deriving DecidableEq, Repr

/-! ### Ethernet (chapter 12) -/

/-- A frame in a MAC's transmit buffer: its bytes, whether it came by an ETHERNET_TIME tunnel, YEL, the TSID a local frame
asks a stamp for, whether it came by the local transmit path. -/
structure MacTx where
  bytes : List (BitVec 8)
  time : Bool
  yel : Bool
  tsid : Option Nat
  local_ : Bool
deriving DecidableEq, Repr

/-- One MAC beside its registers: Glints (TSID, stamp), frames on the local path with their stamps, the transmit buffer,
the uptime a received PAUSE ends, whether it has asked for PAUSE, the last uncorrected-PTP event. -/
structure MacSt where
  glints : List (Nat × Int)
  localRx : List (List (BitVec 8) × Int)
  tx : List MacTx
  pauseEnd : Nat
  asked : Bool
  tcAt : Option Nat
deriving DecidableEq, Repr

/-- A MAC with nothing in it. -/
def MacSt.reset : MacSt := { glints := [], localRx := [], tx := [], pauseEnd := 0, asked := false, tcAt := none }

/-- One NIC queue's pass count and posted buffers. -/
structure NicQ where
  tx : Bool
  q : Nat
  total : Nat
  posted : List NicBuf
deriving DecidableEq, Repr

/-- One NIC function: Glints, the far MAC's last reported link, its queues. -/
structure NicSt where
  glints : List (Nat × Int)
  farUp : Bool
  farSpeed : Nat
  tcAt : Option Nat
  queues : List NicQ
deriving DecidableEq, Repr

/-- A NIC function with nothing queued. -/
def NicSt.reset : NicSt := { glints := [], farUp := false, farSpeed := 0, tcAt := none, queues := [] }

/-! ### Tile sources (chapter 10) -/

/-- What waits at a tile source to enter its DISPLAY tunnel: a tile with its fragments still to admits and their LAST
marks, a display control record, a FRAME_END, the end of a push descriptor with its EOF flag. -/
inductive SrcItem where
  | tile (t : Nat) (hash : Option (BitVec 64)) (band frame : Nat) (started : Bool) (frags : List (List (BitVec 8) × Bool))
  | record (bytes : List (BitVec 8))
  | frameEnd (frame : Nat)
  | pushEnd (eof : Bool)
deriving DecidableEq, Repr

/-- What one frame of a source has sent: tiles, INCOMPLETE, PROT. -/
structure FrameSum where
  frame : Nat
  sent : Nat
  incompl : Bool
  prot : Bool
deriving DecidableEq, Repr

/-- One tile source: 0 and 1 the inputs, 2 to 5 the push streams (R260 to R268). `refl` lists the VALID entries; `sweep` is
the frame's first swept tile and their number; `band` counts bands captured; `due` marks the records to send before the
next tile: 0 MODE, 1 METADATA, 2 PPS; `skipSaid` is the last frame whose skip event was raised, `blockSaid` lists those of frames
that still wait whose protection event was. -/
structure SrcSt where
  refl : List (Nat × BitVec 64)
  clear : Bool
  cursor : Nat
  sweep : Nat × Nat
  live : Bool
  enc : Bool
  items : List SrcItem
  sums : List FrameSum
  band : Nat
  due : List Nat
  mode : InMode
  skipSaid : Option Nat
  blockSaid : List Nat
  sink : List (BitVec 8)
  rxids : List (BitVec 8)
  total : Nat
deriving DecidableEq, Repr

/-- No stream. -/
def InMode.reset : InMode := { video := false, khz := 0, w := 0, h := 0, fmt := 0, bpc := 0, dsc := false, hdcp := 0, mdata := [], pps := [] }

/-- A source with nothing captured. -/
def SrcSt.reset : SrcSt :=
  { refl := [], clear := true, cursor := 0, sweep := (0, 0), live := false, enc := false, items := [], sums := [], band := 0,
    due := [0, 1, 2], mode := InMode.reset, skipSaid := none, blockSaid := [], sink := [], rxids := [], total := 0 }

/-! ### Display outputs (chapter 11) -/

/-- A map entry (R289): the buffer that holds the tile's version, whether it is protected, and its content stream type (R300). -/
structure MapTile where
  buf : Nat
  prot : Bool
  typ1 : Bool := false
deriving DecidableEq, Repr

/-- The picture a map is of: size, FMT, BPC, DSC and period. -/
structure PicMode where
  w : Nat
  h : Nat
  fmt : Nat
  bpc : Nat
  dsc : Bool
  vrr : Bool
  period : Nat
deriving DecidableEq, Repr

/-- An armed or staged flip (R298, R299): the time named, whether a cart's, whether armed, the boundary at which it was due. -/
structure FlipArm where
  when : Nat
  cart : Option Nat
  armed : Bool
  dueAt : Option Nat
deriving DecidableEq, Repr

/-- A tile being put together from its fragments: its header, fragments taken, data. -/
structure TileAsm where
  hdr : List (BitVec 8)
  got : Nat
  data : List (BitVec 8)
deriving DecidableEq, Repr

/-- One output beside its registers (R286 to R300). Maps list the valid entries; `qFrame` and `bFrame` are source FRAME
numbers; `refused`: the incoming mode was refused; `noLink`: the monitor's link cannot carry the timing; `held`: the FLIPMODE that still
acts, where one written with Q present waits for the boundary (R301); `gen`: fabric time, uptime and genlock error of the last boundary under
genlock (R295); `pps` and `mdata` are the incoming parameter set and metadata, with those of Q and P. -/
structure OutSt where
  p : List (Nat × MapTile)
  q : Option (List (Nat × MapTile))
  b : Option (List (Nat × MapTile))
  qFrame : Nat
  bFrame : Nat
  pMode : PicMode
  qMode : PicMode
  mode : PicMode
  refused : Bool
  mdata : List (BitVec 8)
  pps : List (BitVec 8)
  qPps : List (BitVec 8)
  qMdata : List (BitVec 8)
  pPps : List (BitVec 8)
  pMdata : List (BitVec 8)
  asm : Option TileAsm
  flip : Option FlipArm
  monitor : Option Monitor
  incAt : Option Nat
  noLink : Bool
  held : Option Bool
  gen : Option (Nat × Nat × Int)
deriving DecidableEq, Repr

/-- No picture. -/
def PicMode.reset : PicMode := { w := 0, h := 0, fmt := 0, bpc := 0, dsc := false, vrr := false, period := 0 }

/-- An output after reset: every map not valid. -/
def OutSt.reset : OutSt :=
  { p := [], q := none, b := none, qFrame := 0, bFrame := 0, pMode := PicMode.reset, qMode := PicMode.reset, mode := PicMode.reset,
    refused := false, mdata := [], pps := [], qPps := [], qMdata := [], pPps := [], pMdata := [], asm := none, flip := none, monitor := none, incAt := none,
    noLink := false, held := none, gen := none }

/-- The frame stores: DRAM in 16 KiB slots that have been written, and the key protected tiles are stored under. -/
structure StoreSt where
  slots : List (Nat × List Word)
  key : BitVec 256
deriving DecidableEq, Repr

/-! ### PCI Express bridging (chapter 9) -/

/-- A Type 1 header and what stands behind it: a virtual downstream port beside PCX_SLOTk (R230, R231), or function 4. Fields the host
writes, hot-plug state, AER status and Header Log. `removed`: surprise removal is shown until the binding moves; `moving`: a hot-plug move
of its binding runs; `sltCtl`: Slot Control but Power Controller Control; `told`: the binding whose dock has been told
what the host wrote. -/
structure SlotSt where
  sbr : Bool
  linkDis : Bool
  speed : Nat
  secBus : Nat
  subBus : Nat
  priBus : Nat
  memBase : Nat
  memLim : Nat
  prefBase : Nat
  prefLim : Nat
  attention : Bool
  pdc : Bool
  dllsc : Bool
  removed : Bool
  moving : Bool
  aer : Nat
  errEn : Bool
  sltCtl : Nat
  hdrLog : List (BitVec 8)
  told : Option (Nat × Nat × Nat)
deriving DecidableEq, Repr

/-- A virtual port as it comes out of reset: no windows. -/
def SlotSt.reset : SlotSt :=
  { sbr := false, linkDis := false, speed := 0, secBus := 0, subBus := 0, priBus := 0, memBase := 1, memLim := 0, prefBase := 1, prefLim := 0,
    attention := false, pdc := false, dllsc := false, removed := false, moving := false, aer := 0, errEn := false, sltCtl := 0, hdrLog := [], told := none }

/-- A dock port beside PCX_PORTSTATk: disabled by Link Disable, by power off, by hot-plug; in hot reset; the host bridge and slot it is bound
to. -/
structure DockPort where
  linkDis : Bool
  powerOff : Bool
  hpOff : Bool
  sbr : Bool
  speed : Nat
  host : Option (Nat × Nat)
deriving DecidableEq, Repr

/-- A dock port after reset. -/
def DockPort.reset : DockPort := { linkDis := false, powerOff := false, hpOff := false, sbr := false, speed := 5, host := none }

/-- A request outstanding at the requesting bridge (R241, R243): bundle, key, slot or port, header, first address, bytes
the requester asked for and got, bytes from there to the end of the last doubleword, bytes read ahead; `stale`: a posted
request followed it (R244). -/
structure ReqOut where
  lead : Nat
  req : Nat
  tag : Nat
  unit : Nat
  hdr : List (BitVec 8)
  addr : Nat
  want : Nat
  got : Nat
  skip : Nat
  ahead : Nat
  stale : Bool
deriving DecidableEq, Repr

/-- A request this bridge has sent onto its PCIe link and times (R240): bundle, key, header, bytes owed, uptime. -/
structure ReqIn where
  lead : Nat
  req : Nat
  tag : Nat
  hdr : List (BitVec 8)
  owed : Nat
  at_ : Nat
deriving DecidableEq, Repr

/-- A read-ahead buffer (R243): slot, address, bytes (none: claimed), uptime of the last fill. -/
structure RaBuf where
  slot : Nat
  addr : Nat
  bytes : List (Option (BitVec 8))
  at_ : Nat
deriving DecidableEq, Repr

/-- A side-band summary held (R248): SIDEBAND tunnel, SEQ, its 16 bytes. -/
structure Summary where
  tid : Nat
  seq : Nat
  bytes : List (BitVec 8)
deriving DecidableEq, Repr

/-- A PCX_HOTPLUG command (R250, R251). `step` is the step of R251 it is in, 0 while it waits its turn; `req` the port
control it waits for; `code` and `res` the answer of that step's operation, once it has ended; `ans` what the devices of
the path set answer to its tunnel messages; `tid` the bundle's leader, `freed` the copies freed. -/
structure HotPlug where
  ticket : InFlight
  dock : Nat
  port : Nat
  toFid : Nat
  toSlot : Nat
  force : Bool
  tmo : Nat
  ans : List DevAns
  step : Nat
  req : Nat
  code : Option Nat
  res : BitVec 448
  tid : Nat
  oldFid : Nat
  oldSlot : Nat
  freed : Nat
deriving DecidableEq, Repr

/-- What an owner's host bridge waits for at a slot here (R251): the power-off of step 1, or (`link`) the link of step 6. -/
structure SlotAsk where
  slot : Nat
  link : Bool
  fid : Nat
  id : Nat
deriving DecidableEq, Repr

/-- A host's configuration write that waits for a dock (R242): its request, its slot, and the header of its TLP, where it came as one. -/
structure CfgWait where
  id : Nat
  slot : Nat
  hdr : Option (List (BitVec 8))
deriving DecidableEq, Repr

/-- The PCX block beside its registers. `up` is function 4's Type 1 header, `cfg` the fields of configuration space that the host has
written and no other field holds, by function * 4,096 + offset (functions 0 to 4, then the virtual ports), `ssid` the subsystem IDs as of the
last conventional reset (R254); `bme` is Bus Master Enable of function 4, `wakeLow` whether PCIE_WAKE_N is
driven, `l2` whether the upstream link is in L2. -/
structure PcxSt where
  slots : List SlotSt
  dports : List DockPort
  sums : List Summary
  sumSeq : List (Nat × Nat)
  outs : List ReqOut
  ins : List ReqIn
  bufs : List RaBuf
  up : SlotSt
  cfg : List (Nat × Nat)
  ssid : Word
  bme : Bool
  wakeLow : Bool
  l2 : Bool
  noteAt : List (Nat × Nat)
  unexAt : Option Nat
  limitAt : Option Nat
  cfgWaits : List CfgWait
  asks : List SlotAsk
  hp : List HotPlug
deriving DecidableEq, Repr

/-! ### Faults (chapter 20) -/

/-- A logged fault whose recovery is open: SEQ, entry index, class, unit, masked, uptime at detection, route entries affected
(class 2). -/
structure OpenFault where
  seq : Nat
  idx : Nat
  cls : Nat
  unit : Nat
  masked : Bool
  at_ : Nat
  aff : List Nat
deriving DecidableEq, Repr

/-- The fault log beside its registers. -/
structure FltSt where
  opens : List OpenFault
  gcor : List (Nat × Nat)
deriving DecidableEq, Repr

/-! ### USB hub and Yalcel (chapter 15) -/

/-- A Yalcel firmware session (R401): slot, declared length, bytes received, sectors programmed, pages programmed of the next one. -/
structure FwSession where
  slot : Nat
  len : Nat
  img : List (BitVec 8)
  sectors : Nat
  pages : Nat
deriving DecidableEq, Repr

/-- The hub beside its registers. `cand` is the candidate AUTO keeps (3 none), `to_` the port a running change goes to, `fresh`
an attach not yet reported, `prev` USTATE before suspend; per downstream port (1 to 7) the device there with its speed, the change
bits (connection, enable, suspend, over-current, reset), the wake enables, USB_OC_N low; each TT's periodic and
non-periodic split buffers in use, by the device address and endpoint they serve; `selSusp` the ports the host has suspended
itself, `test` the test mode each runs; `gone` the upstream ports lost to a hard reset that have not come back (R403); `parts` the request that
stands unfinished at the hub and at the Yalcel device (R399); `drive`: the hub drives its own K. -/
structure UsbSt where
  cand : Nat
  to_ : Nat
  fresh : Bool
  prev : Nat
  devs : List (Option Nat)
  change : List Nat
  wakeEn : List Nat
  ocLow : List Bool
  tts : List (List Nat × List Nat)
  selSusp : List Nat
  test : List Nat
  gone : List Nat
  parts : List (Option Nat)
  drive : Bool
  session : Option FwSession
  dlLen : Nat
  dlData : List (BitVec 8)
  report : Bool
  abortAt : Option Nat
  rejAt : Option Nat
deriving DecidableEq, Repr

/-- A detached hub. -/
def UsbSt.reset : UsbSt :=
  { cand := 3, to_ := 3, fresh := false, prev := 0, devs := List.replicate 7 none, change := List.replicate 7 0, wakeEn := List.replicate 7 0,
    ocLow := List.replicate 7 false, tts := List.replicate 7 ([], []), selSusp := [], test := List.replicate 7 0, gone := [], parts := [none, none], drive := false, session := none, dlLen := 0, dlData := [],
    report := false, abortAt := none, rejAt := none }

/-! ### Power delivery (chapter 16) -/

/-- What a contract in negotiation would be: position, voltage in 50 mV, current in 10 mA, EPR, PPS. -/
structure PdOffer where
  pos : Nat
  volt : Nat
  cur : Nat
  epr : Bool
  pps : Bool
deriving DecidableEq, Repr

/-- A PD port controller beside its registers (R406 to R419). `step`: 0 none, 1 capabilities sent, 2 source transition, 3 request
sent, 4 own swap asked, 5 swap in progress, 6 hard reset, 7 source VBUS rising to vSafe5V. `swap` is the kind of the swap that
runs, `retry` one withdrawn, `asked` the kinds the partner has refused since the last SPR contract (one bit each), `defPr` and `defDr`
the roles at attach, `hard` the stage of a hard reset's VBUS cycle (1 on, 2 discharging, 3 below 0.8 V), `hardBy` whether the port
fed VBUS as it came, `hardRx` its direction while one of the other direction is taken as the same, `hrRow` hard resets since the last
explicit contract, `policy` PORTROLE, TRY and RPCUR as they act, `rp` what a DRP presents, `dirty` a table written that is not yet
offered or asked by, `cable` EPR and 5 A as its e-marker reports, `caps` the source positions last offered, `skip` no moisture check
before the first detach, `gate` and `disch` PDn_GATE and PDn_DISCH, `rev` the revision spoken in tenths, `trips` rows of Table 16-2
that a Status will tell of, `bist` BIST Test Data runs. -/
structure PdSt where
  step : Nat
  offer : Option PdOffer
  swap : Nat
  retry : Nat
  asked : Nat
  defPr : Bool
  defDr : Bool
  hard : Nat
  hardBy : Bool
  hardRx : Option Bool
  hrRow : Nat
  policy : Nat
  rp : Bool
  dirty : Bool
  epr : Bool
  pps : Bool
  cableEpr : Bool
  cable5 : Bool
  caps : List Word
  skip : Bool
  released : Bool
  gate : Bool
  disch : Bool
  rev : Nat
  trips : Nat
  bist : Bool
deriving DecidableEq, Repr

/-- A port nothing is attached to. `policy` is CTRL's reset value of PORTROLE, TRY and RPCUR. -/
def PdSt.reset : PdSt :=
  { step := 0, offer := none, swap := 0, retry := 0, asked := 0, defPr := false, defDr := false, hard := 0, hardBy := false, hardRx := none, hrRow := 0, policy := 0x22, rp := false,
    dirty := false, epr := false, pps := false, cableEpr := false, cable5 := false, caps := [], skip := false, released := false, gate := false,
    disch := false, rev := 31, trips := 0, bist := false }

/-! ### Power states (chapter 17) -/

/-- The power manager beside PWR_STAT. `entry` is the state the running entry leads to, `abort` a shallower request met it,
`at_` the uptime the transition began, `ready` the Hewers that have written HWMODE since; `wake` a wake latched during it; `woken` the domains running on demand, `wokeAt` since which uptime;
`dsAt` the uptime of Deep sleep entry; `thrAt`, `thrMin` the uptime and lowest sample of the Thrift visit. -/
structure PwrSt where
  entry : Nat
  abort : Bool
  at_ : Nat
  ready : List Nat
  wake : Bool
  woken : Nat
  wokeAt : List (Nat × Nat)
  dsAt : Nat
  thrAt : Nat
  thrMin : Nat
deriving DecidableEq, Repr

/-- A stable power manager. -/
def PwrSt.reset : PwrSt := { entry := 0, abort := false, at_ := 0, ready := [], wake := false, woken := 0, wokeAt := [], dsAt := 0, thrAt := 0, thrMin := 0 }

/-! ### Hewers (chapter 18) -/

/-- A checkpoint slot (R446): its sequence word (0: not complete), the effect number it has reached, the context. -/
structure CkSlot where
  seq : Nat
  eff : Nat
  bytes : List (BitVec 8)
deriving DecidableEq, Repr

/-- A journal entry (R447): effect number, code, Gallery address of its record. -/
structure Effect where
  num : Nat
  code : Nat
  addr : Nat
deriving DecidableEq, Repr

/-- One duty's checkpoints and journal: the last checkpoint's sequence number, the next effect's number. -/
structure DutySt where
  seq : Nat
  next : Nat
  slot0 : CkSlot
  slot1 : CkSlot
  journal : List Effect
deriving DecidableEq, Repr

/-- A duty with nothing done. -/
def DutySt.reset : DutySt :=
  { seq := 0, next := 1, slot0 := { seq := 0, eff := 0, bytes := [] }, slot1 := { seq := 0, eff := 0, bytes := [] }, journal := [] }

/-- One Hewer beside its registers: the address it started at, integer registers x0 to x31 as the commands of this model write them, U-mode, the time FTIME
holds with the reads left, the uptime of the last kick; for a user Hewer its subscriptions, event queue, the WAIT it is in (mask, end),
an outbound message not yet read, the inbound message delivered. -/
structure HewerSt where
  entry : Nat
  x : List Word
  user : Bool
  held : Nat
  heldReads : Nat
  kick : Nat
  subs : List Nat
  events : List EvRec
  wait : Option (Nat × Option Nat)
  unread : Bool
  inbox : List (BitVec 8)
deriving DecidableEq, Repr

/-- A Hewer in reset. -/
def HewerSt.reset : HewerSt :=
  { entry := 0, x := List.replicate 32 0, user := false, held := 0, heldReads := 0, kick := 0, subs := [], events := [], wait := none, unread := false, inbox := [] }

/-- A takeover that runs (R448): duty, failed and new Hewer, cause, whether the new one has started, whether its event loses
MASKED (R463), its fault log entries. -/
structure Takeover where
  duty : Nat
  old : Nat
  new : Nat
  cause : Nat
  started : Bool
  late : Bool
  seqs : List Nat
deriving DecidableEq, Repr

/-- The Hewer cluster; the last spill-full and correctable-error events. -/
structure HewSt where
  cores : List HewerSt
  duties : List DutySt
  takes : List Takeover
  spillAt : Option Nat
  corAt : Option Nat
deriving DecidableEq, Repr

/-! ### Carts (chapter 13) -/

/-- A cart coordinated here (R347): T in ns; its command until the completion is written; participants and their actions;
whether PREPARE has gone out; READY votes; decision (1 GO, 2 ABORT) and the outcome fields of Table 13-1; DONEs (FID, outcome,
lateness, copies); RSTCNT of the participants at submission; its CRT_SLOT. -/
structure CartCo where
  id : Nat
  t : Nat
  ticket : Option InFlight
  parts : List Nat
  acts : List (Nat × List CartAct)
  sent : Bool
  votes : List Nat
  dec : Nat
  code : Nat
  reason : Nat
  rfid : Nat
  actidx : Nat
  sub : Nat
  dones : List (Nat × Nat × Nat × Nat)
  rst : List (Nat × Nat)
  k : Nat
deriving DecidableEq, Repr

/-- SEQS to send to a device (R509): TID, END, RXESEQ and TXESEQ of the staying end. -/
structure SeqsOut where
  fid : Nat
  tid : Nat
  endB : Bool
  rx : Nat
  tx : Nat
deriving DecidableEq, Repr

/-- A participant slot (R349): its cart, its CRT_SLOT, state (1 STAGING to 5 DONE), decision, actions, participants; answers
to its queries; whether it has relayed the decision; outcome, lateness in ns, copies freed; the TIDs that wait for SEQS; the TIDs
installed, reserved and quiesced at prepare, the mask of triggers staged; SEQS to repeat, SEQS that came early; whether DONEACK has come. -/
structure CartSlot where
  coord : Nat
  id : Nat
  t : Nat
  k : Nat
  st : Nat
  dec : Nat
  acts : List CartAct
  parts : List Nat
  answers : List (Nat × Nat)
  relayed : Bool
  out : Nat
  late : Nat
  freed : Nat
  wait : List Nat
  made : List Nat
  resv : List Nat
  quies : List Nat
  trigs : Nat
  seqs : List SeqsOut
  early : List (Nat × Nat × Nat)
  acked : Bool
deriving DecidableEq, Repr

/-- The cart unit: carts coordinated, participant slots, messages to this device itself that wait. -/
structure CrtSt where
  cos : List CartCo
  slots : List CartSlot
  loop : List (Nat × Nat × Nat × CartBody)
deriving DecidableEq, Repr

/-- The DRAM arbiter (R461): wait counters, the last owner, the last winner of each PRIO. -/
structure ArbSt where
  wait : List Nat
  owner : Nat
  last : List Nat
deriving DecidableEq, Repr

/-- One output of the Drift (R462): wait counters of the inputs, the last winner. -/
structure DriftOut where
  wait : List Nat
  last : Nat
deriving DecidableEq, Repr

/-! ### The state -/

/-- The state of the device. -/
structure State where
  regs : List (Nat × Word)
  clock : Nat
  uptime : Nat
  ctl : CtlSt
  own : OwnSt
  boot : BootSt
  smb : SmbSt
  ports : List PortSt
  pcs : List PcsSt
  links : List LinkSt
  schs : List SchSt
  meters : List MeterSt
  metStaged : Option Staged
  metHold : Option Nat
  commits : List CommitReq
  nextGroup : Nat
  tun : TunSt
  fab : FabSt
  tim : TimSt
  macs : List MacSt
  nics : List NicSt
  srcs : List SrcSt
  dispOuts : List OutSt
  store : StoreSt
  pcx : PcxSt
  flt : FltSt
  keys : KeyStSt
  usb : UsbSt
  pds : List PdSt
  pwr : PwrSt
  hew : HewSt
  crt : CrtSt
  arb : ArbSt
  drift : List DriftOut
  draws : Nat
  outs : List Out
  line : List Out
  mail : List (Dest × Msg)
  pending : List Instr
deriving DecidableEq, Repr

/-! ### Reset

Where the specification gives internal state no reset value, it starts empty or zero (assumption 9). -/

/-- Rings, vectors and register paths with nothing in them. -/
def CtlSt.reset : CtlSt :=
  { rings := [], inflight := [], heldCpl := [], serial := 0, nextReq := 0, vecs := [], posted := [], holds := [], snapTaker := 0, snap := [], mirror := [] }

/-- Nothing has waited; the rotations start at requester 0. -/
def ArbSt.reset : ArbSt := { wait := List.replicate 16 0, owner := 15, last := List.replicate 4 15 }

/-- Nothing has waited; the rotation starts at input 0. -/
def DriftOut.reset : DriftOut := { wait := List.replicate 14 0, last := 15 }

/-- No owner heard, no host alive. -/
def OwnSt.reset : OwnSt :=
  { best := none, ownClaim := false, highClaim := none, prio := 0x80, yieldFrom := none, ownerRank := none, yielding := none, wasOwner := false, noClaim := false,
    perstHigh := false, linkUp := false, bme := false }

/-- Right after Lantern power-on: PORST_N is low (R41), no strap has been sampled. -/
def BootSt.reset : BootSt :=
  { roleLatched := false, strapFault := false, strapsDue := false, held := true, porstLow := true, warmLow := false, 
    romDone := false, wdt := false, pers := 0, startSlot := 0, thermTrip := false, portsOff := false, penumbra := false, thrift := false,
    railsLow := [], rstCnt := (Config.freeRandom 0).toNat % 65536, warmAt := 0, late := false, perstOut := false,
    flashMode := 0, dir := none }

/-- The SMBus target with no alert. -/
def SmbSt.reset : SmbSt := { addr := 0, causes := 0, unavail := false }

/-- A blank part's Lamp Room. -/
def KeyStSt.reset : KeyStSt :=
  { slots := List.replicate 64 { gen := 0, key := none }, cells := List.replicate 4 0, depRoot := none, rmaRoot := none, svnA := 0, svnB := 0,
    runSvn := 0, measure := 0, running := none, queue := [], burning := none, bad := [], errAt := none }

/-- No tunnels. -/
def TunSt.reset : TunSt :=
  { ctxs := [], map := [], mapSeq := 0, mapSrc := none, seen := none, copyIn := .idle, unanswered := [], binds := [], owed := [], waits := [], next := [], longAt := none,
    cplPool := [], cplLoose := 0, loop := [] }

/-- A device that has heard nothing of the fabric. -/
def FabSt.reset : FabSt :=
  { recs := [], seq := 0, chg := 0, neigh := [], tinst := none, arr := 0, computed := false, live := { nodes := [], links := [] },
    graph := { nodes := [], links := [] }, instAt := 0, dropDue := false, dropAt := none, relayed := [], tries := [], rejoin := [], firstLit := false }

/-- A time unit without a master. -/
def TimSt.reset : TimSt :=
  { ports := List.replicate 3 TimPort.reset, self := false, gm := 0, integ := 0, lastD := none, rejects := 0, fresh := false, srcLive := false,
    srcLost := false, holdAt := none, alarmAt := none, trigs := List.replicate 4 none, ppsSec := 0, ppsInAt := none, probeSeq := 0, probe := none }

/-- A PCX block with nothing bound. -/
def PcxSt.reset : PcxSt :=
  { slots := List.replicate 16 SlotSt.reset, dports := List.replicate 4 DockPort.reset, sums := [], sumSeq := [], outs := [], ins := [], bufs := [],
    up := SlotSt.reset, cfg := [], ssid := 0, bme := false, wakeLow := false, l2 := false, noteAt := [], unexAt := none, limitAt := none, cfgWaits := [], asks := [], hp := [] }

/-- Hewers in reset. -/
def HewSt.reset : HewSt :=
  { cores := List.replicate 24 HewerSt.reset, duties := List.replicate 18 DutySt.reset, takes := [], spillAt := none, corAt := none }

/-- The device right after Lantern power-on reset: every register at the reset value of its field tables. The straps, the
OTP and the causes of reset the tables give no number are those of assumption 1. -/
def State.reset : State :=
  { regs := [], clock := 0, uptime := 0, ctl := CtlSt.reset, own := OwnSt.reset, boot := BootSt.reset, smb := SmbSt.reset,
    ports := List.replicate 3 PortSt.reset, pcs := List.replicate 3 PcsSt.reset, links := List.replicate 3 LinkSt.reset, schs := List.replicate 3 SchSt.reset,
    meters := [], metStaged := none, metHold := none, commits := [], nextGroup := 0, tun := TunSt.reset, fab := FabSt.reset,
    tim := TimSt.reset, macs := List.replicate 2 MacSt.reset, nics := List.replicate 2 NicSt.reset, srcs := List.replicate 6 SrcSt.reset,
    dispOuts := List.replicate 4 OutSt.reset, store := { slots := [], key := 0 }, pcx := PcxSt.reset, flt := { opens := [], gcor := [] },
    keys := KeyStSt.reset, usb := UsbSt.reset, pds := List.replicate 3 PdSt.reset, pwr := PwrSt.reset, hew := HewSt.reset,
    crt := { cos := [], slots := [], loop := [] }, arb := ArbSt.reset, drift := List.replicate 14 DriftOut.reset, draws := 1, outs := [],
    line := [], mail := [], pending := [] }

/-- Reasons a command stops the machine with a fault. None is raised: the device never traps (R101). -/
inductive Fault where
  /-- Kept for a state that no rule describes; no meaning raises it. Safe. -/
  | none
deriving DecidableEq, Repr

/-- Reasons a command is refused. -/
inductive Refusal where
  /-- Raised by an arm of `exec` for a command without a meaning. Safe. -/
  | notModelled (mnemonic : String)
deriving DecidableEq, Repr

end Sys2Proof.Machine
end

