-- ==== Sys2Proof/Machine/Ops.lean ====
section
/-! DEFINITION. The named operations over the register file, the clock, the rings, events and completions. -/

namespace Sys2Proof.Machine

/-! ### Finding a register (R9, R503, R504) -/

/-- Whether a block offset is one of the registers `d` describes. -/
def RegDesc.hits (d : RegDesc) (o : Nat) : Bool :=
  decide (d.off ≤ o) && decide ((o - d.off) / d.s1 < d.c1) && decide ((o - d.off) % d.s1 / d.s2 < d.c2) &&
    decide ((o - d.off) % d.s1 % d.s2 = 0)

/-- The block, instance and offset an address falls in (Table 22-1). -/
def blockOf (a : Nat) : Option (Blk × Nat × Nat) :=
  match blockTable.find? (fun e => decide (e.2.1 ≤ a) && decide ((a - e.2.1) / e.2.2.2.1 < e.2.2.1) &&
      decide ((a - e.2.1) % e.2.2.2.1 < e.2.2.2.2)) with
  | some e => some (e.1, (a - e.2.1) / e.2.2.2.1, (a - e.2.1) % e.2.2.2.1)
  | none => none

/-- The description of the register at an address, where there is one. -/
def regAt (a : Nat) : Option RegDesc :=
  match blockOf a with
  | some (b, n, o) => (blockRegs b n).find? (fun d => d.hits o)
  | none => none

/-- The sum of the reset values of a register's fields. -/
def fieldsReset (fs : List FieldDesc) : Nat := (fs.map fun f => f.reset % 2 ^ f.width * 2 ^ f.lo).sum

/-- Reset values that differ from instance to instance: CRDCFG (Table 6-5), MEM_ARB (Table 18-8), HWR_MAP and HWRn_STAT. -/
def resetOverride (a : Nat) : Option Nat :=
  if 0x40110 ≤ a ∧ a < 0x70000 ∧ (a - 0x40000) % 0x10000 < 0x130 ∧ 0x110 ≤ (a - 0x40000) % 0x10000 then
    [64, 512, 128, 512, 352, 256, 64, 160][((a - 0x40000) % 0x10000 - 0x110) / 4]?
  else if 0x30100 ≤ a ∧ a < 0x30140 then
    [0x803, 0x803, 0x803, 0x803, 0x2002, 0x2002, 0x4001, 0x4001, 0x4001, 0x4001, 0x1002, 0x4001, 0x1002, 0x1002,
      0xFF00, 0][(a - 0x30100) / 4]?
  else if 0x26000 ≤ a ∧ a < 0x26048 then some ((a - 0x26000) / 4)
  else if a = 0x70038 ∨ a = 0x7003C then some 0
  else none

/-- The reset value of the register at an address; 0 where there is no register (R504). -/
def regReset (a : Nat) : Word :=
  match resetOverride a with
  | some v => BitVec.ofNat 32 v
  | none =>
    match regAt a with
    | some d => BitVec.ofNat 32 (fieldsReset d.fields)
    | none => 0

/-! ### The register file -/

/-- The word a register file holds at an address: an unlisted one reads as its reset value. -/
def RegFile.get (l : List (Nat × Word)) (a : Nat) : Word :=
  match l.find? (fun e => e.1 == a) with
  | some e => e.2
  | none => regReset a

/-- Insert a pair in address order, replacing one of the same address. -/
def RegFile.insert (a : Nat) (v : Word) : List (Nat × Word) → List (Nat × Word)
  | [] => [(a, v)]
  | e :: t => if a < e.1 then (a, v) :: e :: t else if a = e.1 then (a, v) :: t else e :: RegFile.insert a v t

/-- Write a word, keeping the canonical form: a word equal to the reset value is not listed. -/
def RegFile.set (l : List (Nat × Word)) (a : Nat) (v : Word) : List (Nat × Word) :=
  if v = regReset a then l.filter (fun e => e.1 != a) else RegFile.insert a v l

/-- The canonical form: addresses strictly rising, and no entry equal to its reset value. -/
def RegFile.wf (l : List (Nat × Word)) : Bool :=
  decide ((l.map (·.1)).Pairwise (· < ·)) && l.all (fun e => e.2 != regReset e.1)

/-- Read a whole register. -/
def State.rd (s : State) (a : Nat) : Word := RegFile.get s.regs a

/-- Set a whole register, whatever its access codes: the device's own update. -/
def State.wr (s : State) (a : Nat) (v : Word) : State := { s with regs := RegFile.set s.regs a v }

/-- Bits `lo` to `lo + width - 1` of a word. -/
def bitsOf (w : Word) (lo width : Nat) : Nat := w.toNat / 2 ^ lo % 2 ^ width

/-- A word with bits `lo` to `lo + width - 1` replaced. -/
def putBits (w : Word) (lo width v : Nat) : Word :=
  BitVec.ofNat 32 (w.toNat - bitsOf w lo width * 2 ^ lo + v % 2 ^ width * 2 ^ lo)

/-- The value of a field. -/
def State.get (s : State) (f : Fld) : Nat := bitsOf (s.rd f.addr) f.lo f.width

/-- Set a field: the device's own update, whatever the field's access code. -/
def State.put (s : State) (f : Fld) (v : Nat) : State := s.wr f.addr (putBits (s.rd f.addr) f.lo f.width v)

/-- A one-bit field as a truth value. -/
def State.bit (s : State) (f : Fld) : Bool := s.get f == 1

/-- Set a one-bit field. -/
def State.putBit (s : State) (f : Fld) (b : Bool) : State := s.put f (if b then 1 else 0)

/-- Add 1 to a counter that stops at its largest value. -/
def State.bump (s : State) (f : Fld) : State :=
  if s.get f + 1 < 2 ^ f.width then s.put f (s.get f + 1) else s

/-- Add `n` to a counter that stops at its largest value. -/
def State.bumpBy (s : State) (f : Fld) (n : Nat) : State := s.put f (min (s.get f + n) (2 ^ f.width - 1))

/-- Add `n` to a counter that runs modulo its width. -/
def State.addMod (s : State) (f : Fld) (n : Nat) : State := s.put f (s.get f + n)

/-! ### Outputs, clock, free draws -/

/-- Whether an output leaves by a port's lanes and has yet to be coded (R118). -/
def onLine : Out → Bool
  | .frame .. => true
  | .link .. => true
  | .blocks .. => true
  | .capability .. => true
  | .lanes .. => true
  | .stream .. => true
  | .stripe .. => true
  | .sync .. => true
  | _ => false

/-- A message that has yet to be put into frames (R154). -/
def mailOf : Out → List (Dest × Msg)
  | .msg d m => [(d, m)]
  | _ => []

/-- Append an output: one that leaves by lanes waits for its port's codewords, a message for its frames. -/
def State.emit (s : State) (o : Out) : State :=
  { s with outs := s.outs ++ [o], line := if onLine o then s.line ++ [o] else s.line, mail := s.mail ++ mailOf o }

/-- Append outputs. -/
def State.emits (s : State) (os : List Out) : State := os.foldl State.emit s

/-- One nanosecond of the fabric clock, in its units of 2^-40 ns (R304). -/
def nsUnit : Nat := 2 ^ 40

/-- Fabric seconds. -/
def State.sec (s : State) : Nat := s.clock / nsUnit / 1000000000 % 2 ^ 48

/-- Fabric nanoseconds. -/
def State.ns (s : State) : Nat := s.clock / nsUnit % 1000000000

/-- Fabric time in whole nanoseconds. -/
def State.now (s : State) : Nat := s.clock / nsUnit

/-- Take the next random draw: a free value. -/
def State.draw (s : State) : BitVec 256 × State := (Config.freeRandom s.draws, { s with draws := s.draws + 1 })

/-- Whether `gap` nanoseconds of uptime have passed since a mark, or there is none: "at most once per". -/
def State.due (s : State) (mark : Option Nat) (gap : Nat) : Bool :=
  match mark with
  | some a => decide (a + gap ≤ s.uptime)
  | none => true

/-! ### Role and identity -/

/-- The latched role (Table 0-2). -/
def State.role (s : State) : Nat := s.get F.GLB_STRAP_ROLE

/-- Whether the device is a host bridge. -/
def State.isHost (s : State) : Bool := s.role == 0

/-- The device's own FID. -/
def State.fid (s : State) : Nat := s.get F.FAB_ID_FID

/-- The FID held in straps, 0 where there is none (Table 2-7). -/
def State.strapFid (s : State) : Nat := if s.get F.GLB_STRAP_FIDS = 63 then 0 else s.get F.GLB_STRAP_FIDS

/-- The dock ports PCIEBIF provides, and the lanes of each (Table 2-7, R233). -/
def State.dockPorts (s : State) : Nat := match s.get F.GLB_STRAP_PCIEBIF with | 1 => 2 | 2 => 4 | _ => 1
def State.dockLanes (s : State) : Nat := match s.get F.GLB_STRAP_PCIEBIF with | 1 => 2 | 2 => 1 | _ => 4

/-- The device's unique ID. -/
def State.uid (s : State) : Nat := s.get F.GLB_UIDLO_UID + 2 ^ 32 * s.get F.GLB_UIDHI_UID

/-- From Sleep entry's prepare phase until the exit completes (Table 17-2, R427). -/
def State.asleep (s : State) : Bool :=
  decide (2 ≤ s.get F.PWR_STAT_CUR) ||
    ((s.get F.PWR_STAT_PHASE == 3 || s.get F.PWR_STAT_PHASE == 4) && decide (2 ≤ s.pwr.entry))

/-- The same of Deep sleep and Off: the ports stay DARK (R427). -/
def State.deepAsleep (s : State) : Bool :=
  decide (3 ≤ s.get F.PWR_STAT_CUR) ||
    ((s.get F.PWR_STAT_PHASE == 3 || s.get F.PWR_STAT_PHASE == 4) && decide (3 ≤ s.pwr.entry))

/-- Whether CORE is clocked (Table 17-2, R433): in Sleep while it runs on demand. -/
def State.coreClocked (s : State) : Bool :=
  decide (s.get F.PWR_STAT_CUR < 2) || (s.get F.PWR_STAT_CUR == 2 && s.pwr.woken % 2 == 1)

/-! ### What runs (R4, R43, R67, Table 2-11, Table 17-2) -/

/-- Whether the domains outside the Lantern run: not held in reset, and powered or on their way out of Deep sleep or Off. -/
def State.up (s : State) : Bool := !s.boot.held && (decide (s.get F.PWR_STAT_CUR < 3) || s.get F.PWR_STAT_PHASE == 5)

/-- The same of the domains a SerDes rail resets (ADT0 to ADT2, PCX, DISP, NET): no SerDes rail is low. -/
def State.serdesUp (s : State) : Bool := s.up && !(s.boot.railsLow.any fun r => r == 3 || r == 4)

/-- The same of MEM: no DRAM rail is low. -/
def State.memUp (s : State) : Bool := s.up && !(s.boot.railsLow.any fun r => decide (5 ≤ r))

/-- Whether the Adit ports' registers are out of reset, their power state apart: no reset holds them and no SerDes rail is low. -/
def State.adtRuns (s : State) : Bool := !s.boot.held && !(s.boot.railsLow.any fun r => r == 3 || r == 4)

/-- The Lantern sets a field of an Adit port, which takes it unless it is in reset. -/
def State.putAdt (s : State) (f : Fld) (v : Nat) : State := if s.adtRuns then s.put f v else s

/-- Whether a switched domain is powered (R15, R423, Table 17-2): 5 PCX, 6 DISP, 7 NET, 8 USB, 9 MEM of PWR_DOM. -/
def State.domPowered (s : State) (d : Nat) : Bool :=
  let c := s.get F.PWR_STAT_CUR
  if 3 ≤ c then c == 3 && d == 9 && s.bit F.PWR_CFG_DRAMKEEP
  else match d with
    | 5 => s.role != 2
    | 6 => decide (c < 2)
    | 7 => s.role != 0
    | 8 => s.role == 1
    | _ => true

/-- Something happens in a domain outside the Lantern: nothing, where the domain does not run. -/
def State.whenUp (s : State) (g : State → State) : State := if s.up then g s else s

/-- Whether a duty's work happens (R449, Table 18-3): the Hewer HWR_MAP gives it is not marked failed, as it is once a duty has failed with
no spare in standby. -/
def State.dutyRuns (s : State) (d : Nat) : Bool := s.get (F.HWR_STAT_STATE (s.get (F.HWR_MAP_HEWER d))) != 4

/-- Every duty has a Hewer that has not failed. -/
def State.manned (s : State) : Bool := (List.range 18).all s.dutyRuns

/-- What the firmware of duty `d` does: nothing in Deep sleep, Off or reset, and nothing once the duty has stopped (R449). -/
def State.whenDuty (s : State) (d : Nat) (g : State → State) : State := if s.up && s.dutyRuns d then g s else s

/-- The same in a domain that a SerDes rail resets. -/
def State.whenSerdes (s : State) (g : State → State) : State := if s.serdesUp then g s else s

/-- The same in MEM. -/
def State.whenMem (s : State) (g : State → State) : State := if s.memUp then g s else s

/-- Change the control model's internal state. -/
def State.ctlM (s : State) (g : CtlSt → CtlSt) : State := { s with ctl := g s.ctl }

/-- Change the ownership's internal state. -/
def State.ownM (s : State) (g : OwnSt → OwnSt) : State := { s with own := g s.own }

/-- Change the boot and reset state. -/
def State.bootM (s : State) (g : BootSt → BootSt) : State := { s with boot := g s.boot }

/-- Change the SMBus target's state. -/
def State.smbM (s : State) (g : SmbSt → SmbSt) : State := { s with smb := g s.smb }

/-! ### Lists keyed by a test -/

/-- Replace the entries that pass the test by `x`, or append `x` where none does. -/
def putBy {α : Type} (p : α → Bool) (x : α) (l : List α) : List α :=
  if l.any p then l.map (fun y => if p y then x else y) else l ++ [x]

/-- Apply `g` to the entries that pass the test. -/
def updBy {α : Type} (p : α → Bool) (g : α → α) (l : List α) : List α := l.map (fun y => if p y then g y else y)

/-! ### Rings (R83 to R86) -/

/-- A ring nothing has happened on. -/
def RingSt.new (n : Nat) : RingSt := { ring := n, total := 0, laps := 0, seq := 0, dropped := false, held := [], posted := [] }

/-- The internal state of ring `n`. -/
def State.ring (s : State) (n : Nat) : RingSt := (s.ctl.rings.find? (fun r => r.ring == n)).getD (RingSt.new n)

/-- Replace the internal state of a ring. -/
def State.setRing (s : State) (r : RingSt) : State :=
  s.ctlM fun k => { k with rings := putBy (fun x => x.ring == r.ring) r k.rings }

/-- Entries of the ring: records on an event ring (R83). -/
def State.ringCap (s : State) (n : Nat) : Nat :=
  2 ^ (s.get (F.GLB_RCFG_LOG2SZ n)) * (if s.get (F.GLB_RCFG_TYPE n) = 3 then 2 else 1)

/-- The address of an index's slot: the index modulo the ring's size (R84); a record of an event ring takes half an entry. -/
def State.slotAddr (s : State) (n idx : Nat) : Nat :=
  s.get (F.GLB_RBASELO_BASE n) * 4096 + s.get (F.GLB_RBASEHI_BASE n) * 2 ^ 32 +
    idx % s.ringCap n * (if s.get (F.GLB_RCFG_TYPE n) = 3 then 32 else 64)

/-- The slot the device reaches next. -/
def State.slotHere (s : State) (n : Nat) : Nat := s.slotAddr n (s.ring n).total

/-- The difference of two 16-bit indices. -/
def idxDiff (a b : Nat) : Nat := (a + 65536 - b % 65536) % 65536

/-- Entries of a device-filled ring that the host has not read. -/
def State.ringUnread (s : State) (n : Nat) : Nat :=
  idxDiff (s.get (F.GLB_RIDX_DEVIDX n)) (s.get (F.GLB_RIDX_HOSTIDX n)) + 65536 * (s.ring n).laps

/-- Entries the device may still write on a device-filled ring (R84). -/
def State.ringFree (s : State) (n : Nat) : Nat := s.ringCap n - s.ringUnread n

/-- Entries that wait for the device on a host-filled ring (R84). -/
def State.ringWaiting (s : State) (n : Nat) : Nat :=
  idxDiff (s.get (F.GLB_RIDX_HOSTIDX n)) (s.get (F.GLB_RIDX_DEVIDX n)) + 65536 * (s.ring n).laps

/-- PHASE of the entry the device reaches next (R85): 1 on the first pass, flipping on each later one. -/
def State.ringPhase (s : State) (n : Nat) : Nat := ((s.ring n).total / s.ringCap n + 1) % 2

/-- Whether the host fills a ring (Table 4-2): command and data-out rings. -/
def State.hostFills (s : State) (n : Nat) : Bool := s.get (F.GLB_RCFG_TYPE n) ∈ [1, 4]

/-- Advance the device index by one entry. -/
def State.ringStep (s : State) (n : Nat) : State :=
  let laps := if s.hostFills n then (s.ringWaiting n - 1) / 65536 else (s.ringUnread n + 1) / 65536
  (s.setRing { s.ring n with total := (s.ring n).total + 1, laps := laps }).addMod (F.GLB_RIDX_DEVIDX n) 1

/-- Set the host index (R84). -/
def State.setHostIdx (s : State) (n idx : Nat) : State :=
  let d := idxDiff idx (s.get (F.GLB_RIDX_HOSTIDX n))
  let laps := if s.hostFills n then (s.ringWaiting n + d) / 65536 else (s.ringUnread n - d) / 65536
  (s.setRing { s.ring n with laps := laps }).put (F.GLB_RIDX_HOSTIDX n) idx

/-! ### MSI-X with holdoff (R98) -/

/-- The pending bit of a function's vector (R81). -/
def pbaBit (fn v : Nat) : Fld := ⟨A.MSIX_PBA fn (v / 32), v % 32, 1⟩

/-- The MSI-X vectors of functions 0 to 3 (R81, Table 9-1). -/
def msixVectors (fn : Nat) : Nat := [64, 17, 17, 8].getD fn 0

/-- A function sends a vector's MSI-X message, as its table entry says; a masked one is pending until it is unmasked (R81). -/
def State.msix (s : State) (fn v : Nat) : State :=
  if s.bit (F.MSIX_CTRL_MASK fn v) then s.put (pbaBit fn v) 1
  else s.emit (.msix fn v (s.get (F.MSIX_ADDRLO_ADDR fn v) * 4 + s.get (F.MSIX_ADDRHI_ADDR fn v) * 2 ^ 32) (s.rd (A.MSIX_DATA fn v)))

/-- Signal a vector of function 0: at once, or after the holdoff that runs. -/
def State.signal (s : State) (v : Nat) : State :=
  if s.get F.EVT_HOLDOFF_US = 0 then s.msix 0 v
  else
    match s.ctl.vecs.find? (fun e => e.1 == v) with
    | some _ => s.ctlM fun k => { k with vecs := updBy (fun e => e.1 == v) (fun e => (e.1, true)) k.vecs }
    | none => (s.ctlM fun k => { k with vecs := k.vecs ++ [(v, false)] }).msix 0 v

/-! ### Event records (R97 to R100) -/

/-- Where an event's values lie in DATA: (byte, width) of each. One not listed gives each value one byte, from byte 0 on. -/
def evLayout (ev : Nat) : List (Nat × Nat) :=
  let g := ev / 8
  let b := ev % 8
  if ev = 1 then [(0, 1), (1, 2), (3, 1)]
  else if g = 5 then (if b < 2 then [(0, 4), (4, 1), (5, 1)] else [(0, 4), (4, 1), (8, 4)])
  else if g = 25 then [(0, 2), (2, 2)]
  else if g = 30 ∨ g = 32 ∨ g = 34 then [(0, 2), (2, 2), (4, 4), (8, 4)]
  else if g = 35 ∧ (b < 2 ∨ b = 3) then [(0, 8), (8, 1)]
  else if g = 35 ∧ b = 6 then [(0, 4), (4, 1)]
  else if g = 36 ∧ b = 2 then [(0, 4)]
  else if g = 38 then
    (if b = 1 ∨ b = 3 then [(0, 2), (2, 1), (4, 4)] else if b = 4 then [(0, 2), (2, 1), (3, 1), (4, 2)] else [(0, 2), (2, 1), (3, 1), (4, 1)])
  else if g = 40 then
    (match b with
      | 0 => [(0, 8)] | 2 => [(0, 4)] | 3 => [(0, 1), (1, 1), (2, 1), (3, 1), (4, 8)] | 5 => [(0, 1), (1, 1), (2, 1), (3, 1), (4, 4)]
      | 6 => [(0, 4), (4, 4), (8, 2)] | _ => [(0, 1), (1, 1), (2, 1), (3, 1)])
  else if g = 41 then [(0, 4)]
  else if 50 ≤ g ∧ g < 54 then
    (match b with
      | 0 => [(0, 4), (4, 4), (8, 4)] | 1 => [(0, 4), (4, 4)] | 4 => [(0, 1), (4, 4)] | 5 => [(0, 4)] | _ => [(0, 1), (1, 1), (2, 1), (3, 1)])
  else if 54 ≤ g ∧ g < 58 then (if b < 2 then [(0, 2), (2, 1)] else [(0, 2)])
  else (List.range 12).map fun i => (i, 1)

/-- DATA of an event: its values at their places, little-endian, 0 elsewhere (R97). -/
def evData (ev : Nat) (vals : List Nat) : List (BitVec 8) :=
  leBytes 12 (((evLayout ev).zip vals).map fun e => e.2 % 256 ^ e.1.2 * 256 ^ e.1.1).sum

/-- Where DATA carries a TID (R99). -/
def evTid (ev : Nat) : Option Nat :=
  let g := ev / 8
  let b := ev % 8
  if g = 25 ∨ ((54 ≤ g ∧ g < 58) ∧ b < 2) ∨ (g = 44 ∧ (b = 1 ∨ b = 2)) then some 0
  else if (g = 43 ∧ (b = 4 ∨ b = 5 ∨ b = 7)) ∨ ((g = 13 ∨ g = 17 ∨ g = 21) ∧ b = 5) ∨ ((g = 30 ∨ g = 32 ∨ g = 34) ∧ b = 0) then some 2
  else if ((g = 13 ∨ g = 17 ∨ g = 21) ∧ b = 6) ∨ ev = 384 then some 1
  else if ev = 326 then some 8
  else none

/-- The host bridge a tunnel known here is granted to, 0 where none is (R99). -/
def State.granteeOf (s : State) (tid : Nat) : Nat :=
  match s.tun.ctxs.find? (fun c => c.par.tid == tid) with
  | some c => c.par.grant
  | none => ((s.tun.map.find? fun h => h.par.tid == tid).map fun h => h.par.grant).getD 0

/-- The grantee of the tunnel whose TID a record's DATA carries. -/
def State.recGrantee (s : State) (r : EvRec) : Nat :=
  match evTid r.evnum with
  | some o => (match (byteAt r.data o + 256 * byteAt r.data (o + 1)) % 4096 with | 0 => 0 | t => s.granteeOf t)
  | none => 0

/-- The 32 bytes of a record (Table 4-9). -/
def EvRec.bytes (r : EvRec) (seq phase : Nat) (dropped : Bool) : List (BitVec 8) :=
  let b := fun (x : Bool) (n : Nat) => if x then n else 0
  leBytes 2 (r.evnum % 512) ++ leBytes 1 (phase + b r.masked 2 + b r.remote 4 + b dropped 8) ++ [0] ++ leBytes 1 (r.src % 64) ++ [0] ++ leBytes 2 seq ++
    leBytes 6 r.sec ++ [0, 0] ++ leBytes 4 (r.ns % 2 ^ 30) ++ (List.range 12).map fun i => r.data.getD i 0

/-- Write one record to an event ring that has a free entry. -/
def State.writeRecord (s : State) (n : Nat) (r : EvRec) : State :=
  let q := s.ring n
  let seq := (q.seq + 1) % 65536
  ((((s.setRing { q with seq := seq, dropped := false }).emit (.hostWrite (s.slotHere n) (EvRec.bytes r seq (s.ringPhase n) q.dropped))).emit
    (.record n (s.get (F.GLB_RIDX_DEVIDX n)) seq (s.ringPhase n) q.dropped r)).ringStep n).signal
    (s.get (F.EVT_GMAP_VEC (r.evnum / 8)))

/-- Record an event on this host bridge (R98, R100): written, held while the ring is full, or dropped and counted. -/
def State.recordEvent (s : State) (r : EvRec) : State :=
  let g := r.evnum / 8
  let n := s.get (F.EVT_GMAP_RING g)
  if s.get (F.EVT_GMAP_EN g) = 0 ∨ s.get (F.GLB_RCFG_TYPE n) ≠ 3 then s.bump F.EVT_DROP
  else if (s.ring n).held = [] ∧ 0 < s.ringFree n then s.writeRecord n r
  else if (s.ring n).held.length < 256 then s.setRing { s.ring n with held := (s.ring n).held ++ [r] }
  else (s.setRing { s.ring n with dropped := true }).bump F.EVT_DROP

/-- The owner this device follows, 0 where it follows none (R105). -/
def State.ownerFid (s : State) : Nat := s.get F.GLB_OWNER_OWNFID

/-- Change the Hewer cluster's internal state. -/
def State.hewM (s : State) (g : HewSt → HewSt) : State := { s with hew := g s.hew }

/-- A Hewer. -/
def State.core (s : State) (n : Nat) : HewerSt := s.hew.cores.getD n HewerSt.reset

/-- Change a Hewer. -/
def State.coreM (s : State) (n : Nat) (g : HewerSt → HewerSt) : State := s.hewM fun h => { h with cores := h.cores.modify n g }

/-- A record goes where R99 sends it: onto this host bridge's own rings; from another device to the owner's host bridge and to the grantee of
the tunnel its DATA names, `grantee` where this device knows it no longer. Ownership events (GLB group 0, bits 1 to 4) go to every host
bridge. -/
def State.dispatch (s : State) (r : EvRec) (grantee : Nat) : State :=
  if s.isHost then s.recordEvent r
  else if 1 ≤ r.evnum ∧ r.evnum < 8 then s.emit (.msg .allHosts (.event r))
  else
    let to_ := if grantee = 0 then s.recGrantee r else grantee
    let t := if s.ownerFid = 0 then s else s.emit (.msg (.fid s.ownerFid) (.event r))
    if to_ = 0 ∨ to_ = s.ownerFid then t else t.emit (.msg (.fid to_) (.event r))

/-- The event part of R98: set the status bit; unless masked, the record goes out. -/
def State.raiseCore (s : State) (r : EvRec) (grantee : Nat) : State :=
  let t := s.put ⟨A.EVT_STAT (r.evnum / 32), r.evnum % 32, 1⟩ 1
  if t.get ⟨A.EVT_MASK (r.evnum / 32), r.evnum % 32, 1⟩ = 1 then t else t.dispatch r grantee

/-- A record enters a user Hewer's queue (R452); one that finds it full is counted. -/
def State.subscribe1 (s : State) (n : Nat) (r : EvRec) : State :=
  if !((s.core n).subs.contains r.evnum) then s
  else if (s.core n).events.length < 32 then s.coreM n fun h => { h with events := h.events ++ [r] }
  else s.bump (F.HWR_EVOVF n)

/-- The subscribed events of the user Hewers are copied as they occur, whatever EVT_MASK holds (R452). -/
def State.subscribed (s : State) (r : EvRec) : State := [20, 21, 22, 23].foldl (fun t n => t.subscribe1 n r) s

/-- An event as this device records it. -/
def State.eventOf (s : State) (ev : Nat) (masked : Bool) (data : List (BitVec 8)) : EvRec :=
  { evnum := ev, masked := masked, remote := false, src := s.fid, sec := s.sec, ns := s.ns, data := data }

/-- EVENT_RAISE (R98, R99, R452) with its 12 bytes of DATA: the first record a user Hewer's queue drops since EVOVF was clear raises its
own event. While everything outside the Lantern is held in reset no event is recorded. -/
def State.raiseBytes (s : State) (ev : Nat) (masked : Bool) (grantee : Nat) (data : List (BitVec 8)) : State :=
  if s.boot.held then s
  else
  let r := s.eventOf ev masked data
  let t := (s.raiseCore r grantee).subscribed r
  [20, 21, 22, 23].foldl (fun u n =>
    if s.get (F.HWR_EVOVF n) = 0 ∧ u.get (F.HWR_EVOVF n) = 1 then
      let o := u.eventOf 61 false (evData 61 [n])
      (u.raiseCore o 0).subscribed o
    else u) t

/-- EVENT_RAISE with the values its DATA carries. -/
def State.raiseWith (s : State) (ev : Nat) (masked : Bool) (grantee : Nat) (vals : List Nat) : State :=
  s.raiseBytes ev masked grantee (evData ev vals)

/-- Raise event `bit` of group `g`. -/
def State.raise (s : State) (g bit : Nat) (vals : List Nat) : State := s.raiseWith (8 * g + bit) false 0 vals

/-- Count one occurrence in a tally (R101); the first increment of a GLB tally from 0 raises event 0. -/
def State.tally (s : State) (f : Fld) : State :=
  if f.addr ∈ [A.GLB_IGNWR, A.GLB_DBIGN, A.GLB_CMDIGN, A.GLB_NOWNWR, A.GLB_NOWNCMD] ∧ s.get f = 0 then
    (s.bump f).raise 0 0 []
  else s.bump f

/-! ### Completions (R88, R89) -/

/-- The 64 bytes of a completion (Table 4-4). -/
def Cpl.bytes (c : Cpl) (phase : Nat) : List (BitVec 8) :=
  leBytes 1 c.opcode ++ leBytes 1 c.code ++ leBytes 2 c.tag.toNat ++ leBytes 1 phase ++ leBytes 1 c.cmdRing ++ leBytes 2 c.cmdIdx ++ leBytes 56 c.result.toNat

/-- Write a completion into completion ring `n`, which has a free entry. -/
def State.writeCpl (s : State) (n : Nat) (c : Cpl) : State :=
  let t := ((s.emit (.hostWrite (s.slotHere n) (Cpl.bytes c (s.ringPhase n)))).emit
    (.completion n (s.get (F.GLB_RIDX_DEVIDX n)) (s.ringPhase n) c)).ringStep n
  if s.bit (F.GLB_RCFG_IEN n) then t.signal (s.get (F.GLB_RCFG_VEC n)) else t

/-- Whether completion ring `n` can take an entry now. -/
def State.cplReady (s : State) (n : Nat) : Bool := s.get (F.GLB_RCFG_TYPE n) == 2 && decide (0 < s.ringFree n)

/-- COMMAND_COMPLETION_WRITE (R89): written now, or kept until an entry frees. -/
def State.complete (s : State) (c : Cpl) : State :=
  if s.cplReady c.pair then s.writeCpl c.pair c else s.ctlM fun k => { k with heldCpl := k.heldCpl ++ [c] }

/-- Write the completions that wait, in order, as far as their rings have room. -/
def State.flushCpl (s : State) : State :=
  s.ctl.heldCpl.foldl (fun t c => t.complete c) (s.ctlM fun k => { k with heldCpl := [] })

/-- The completion of a command in progress. -/
def InFlight.cpl (t : InFlight) (code : Nat) (result : BitVec 448) : Cpl :=
  { pair := t.pair, opcode := t.opcode, code := code, tag := t.tag, cmdRing := t.ring, cmdIdx := t.idx, result := result }

/-- Whether two tickets name the same command. -/
def InFlight.same (t u : InFlight) : Bool := t.serial == u.serial

/-- Complete a command in progress with a code of Table 4-6 and its result. -/
def State.finish (s : State) (t : InFlight) (code : Nat) (result : BitVec 448) : State :=
  (s.ctlM fun k => { k with inflight := k.inflight.filter (fun u => !(u.same t)) }).complete (t.cpl code result)

/-- Give a command's outcome to whoever waits for it. -/
def State.reply (s : State) (r : Reply) (code : Nat) (result : BitVec 448) : State :=
  match r with
  | .host t => s.finish t code result
  | .mgmt fid id => s.emit (.msg (.fid fid) (.mgmtRsp id code result))
  | .noOne => s

/-- RESULT bytes from (offset in the descriptor, value): offset 0x08 is the first byte. -/
def resultOf (l : List (Nat × Nat)) : BitVec 448 := BitVec.ofNat 448 ((l.map fun e => e.2 * 256 ^ (e.1 - 8)).sum)

/-- An operand of a command: `size` bytes at a descriptor offset. -/
def opAt (c : HostCmd) (off size : Nat) : Nat := c.ops.toNat / 256 ^ (off - 8) % 256 ^ size

/-- Operand bytes outside the used bits (descriptor offset, first bit, width) are all 0 (R90). -/
def opsClean (ops : BitVec 448) (used : List (Nat × Nat × Nat)) : Bool :=
  decide (ops.toNat = (used.map fun u => ops.toNat / 2 ^ (8 * (u.1 - 8) + u.2.1) % 2 ^ u.2.2 * 2 ^ (8 * (u.1 - 8) + u.2.1)).sum)

/-- The reserved bits of a command are 0 (R90, Table 4-3). -/
def cmdClean (c : HostCmd) (used : List (Nat × Nat × Nat)) : Bool :=
  decide (c.flags.toNat < 2) && decide (c.target.toNat < 64) && c.rsvd == 0 && opsClean c.ops used

/-- Whether the device can take the next command of a ring (R89): the ring is an enabled command ring with an entry
waiting (and the Core domain and duty 1 run), its completion ring has a free entry, and a FENCE finds no earlier command in progress. -/
def State.canTake (s : State) (c : HostCmd) : Bool :=
  s.isHost && s.up && s.get (F.GLB_RCFG_TYPE c.ring) == 1 && decide (0 < s.ringWaiting c.ring) &&
    s.cplReady (s.get (F.GLB_RCFG_PAIR c.ring)) &&
    s.dutyRuns 1 && !(s.ctl.heldCpl.any fun k => k.pair == s.get (F.GLB_RCFG_PAIR c.ring)) &&
    (c.flags.toNat % 2 == 0 || !(s.ctl.inflight.any fun t => t.ring == c.ring))

/-- Whether the host reaches BAR2 and the functions beside function 0 (R76, R81): under the full personality. -/
def State.fnOpen (s : State) : Bool := s.isHost && s.boot.pers == 2 && decide (s.get F.PWR_STAT_CUR < 3)

/-- Whether this device accepts control from its own host (R105, R108). -/
def State.hostControls (s : State) : Bool := s.get F.GLB_OWNER_STATE == 3 && s.own.yielding.isNone

/-- The ticket of the command a ring gives next. -/
def State.ticket (s : State) (op : Nat) (c : HostCmd) : InFlight :=
  { serial := s.ctl.serial, pair := s.get (F.GLB_RCFG_PAIR c.ring), ring := c.ring, idx := s.get (F.GLB_RIDX_DEVIDX c.ring), tag := c.tag, opcode := op,
    req := none, dst := 0, own := s.hostControls }

/-- Take a command from its ring (R89): its index advances and its descriptor has been read. -/
def State.take (s : State) (c : HostCmd) : State := (s.ctlM fun k => { k with serial := k.serial + 1 }).ringStep c.ring

/-- The duty whose work an opcode is (Table 18-3); the rest are duty 1's own. -/
def opDuty (op : Nat) : Nat :=
  if op = 0x08 then 0
  else if 0x10 ≤ op ∧ op < 0x18 then 2
  else if 0x40 ≤ op ∧ op < 0x48 then 3
  else match op with
  | 0x28 => 13
  | 0x30 => 12
  | 0x48 => 4
  | 0x49 => 5
  | 0x4A => 4
  | 0x50 => 15
  | _ => 1

/-- Whether a command's work is done here by a duty that has stopped (R449). -/
def State.unserved (s : State) (op : Nat) (c : HostCmd) : Bool :=
  !(s.dutyRuns (opDuty op)) && (c.target == 0 || c.target.toNat == s.fid)

/-- Take a command from its ring (R89), check it (R90) and its issuer (R109), and run `body` on it with its ticket. A command whose duty
has stopped stays in progress: its work does not happen (R449). -/
def State.command (s : State) (op : Nat) (control : Bool) (used : List (Nat × Nat × Nat)) (c : HostCmd)
    (body : InFlight → State → State) : State :=
  if s.canTake c then
    let t := s.ticket op c
    let s1 := s.take c
    if !(cmdClean c used) then (s1.tally F.GLB_CMDIGN).finish t 0x02 0
    else if control && !(s.hostControls) then (s1.tally F.GLB_NOWNCMD).finish t 0x04 0
    else
      let s2 := s1.ctlM fun k => { k with inflight := k.inflight ++ [t] }
      if s.unserved op c then s2 else body t s2
  else s

/-- Whether a party may make a control write now (Table 4-12). -/
def State.mayControl (s : State) : Req → Bool
  | .host => s.hostControls
  | .mgmt f => f == s.ownerFid && f != 0
  | .smbus => false
  | .yalcel => s.get F.GLB_OWNER_STATE == 0
  | .hewer _ => true

/-- Whether the bus takes a requester's accesses: a host's come through PCIe function 0, Yalcel's through the dock's hub; none reach a
device held in reset, or without CORE. -/
def State.busOpen (s : State) (r : Req) : Bool :=
  !s.boot.held && decide (s.get F.PWR_STAT_CUR < 3) &&
    (match r with
      | .host => s.isHost && s.boot.pers != 0
      | .yalcel => s.role == 1
      | _ => true)

/-- A control write to a GLB register: done for the parties of Table 4-12, otherwise ignored and tallied. SMBus has no write path
(R112). -/
def State.glbWrite (s : State) (r : Req) (g : State → State) : State :=
  if r = .smbus ∨ !(s.busOpen r) then s else if s.mayControl r then g s else s.tally F.GLB_NOWNWR

/-- A control write to a register of another block: beside the boot personality a host reaches GLB alone (R75). -/
def State.controlWrite (s : State) (r : Req) (g : State → State) : State :=
  if r = .host ∧ s.busOpen r ∧ s.boot.pers = 1 then s.tally F.GLB_IGNWR else s.glbWrite r g

/-- A control write to a block that is Off in the role (R15): the writer is judged first (assumption 22). -/
def State.offWrite (s : State) (r : Req) : State := s.controlWrite r fun t => t.tally F.GLB_IGNWR

/-- Whether TARGET can be reached: it has an installed route (R92 UNREACHABLE). -/
def State.reachable (s : State) (d : Nat) : Bool := s.bit (F.FAB_RT_PRIV d) || s.bit (F.FAB_RT_ALTV d)

/-- Run a command here, or send it as a management request to TARGET and wait for the answer (R94). -/
def State.onTarget (s : State) (t : InFlight) (c : HostCmd) (here : State → State) : State :=
  if c.target.toNat = 0 ∨ c.target.toNat = s.fid then here s
  else if !(s.reachable c.target.toNat) then s.finish t 0x07 0
  else
    (s.ctlM fun k => { k with nextReq := k.nextReq + 1, inflight := updBy (fun u => u.same t) (fun u => { u with req := some k.nextReq, dst := c.target.toNat }) k.inflight }).emit
      (.msg (.fid c.target.toNat) (.mgmtReq s.ctl.nextReq t.opcode c.ops))

end Sys2Proof.Machine
end

