-- ==== Sys2Proof/Machine/Faults.lean ====
section
/-! DEFINITION. The fault log (chapter 20): entries, meetings of faults, and the close of a recovery. -/

namespace Sys2Proof.Machine

/-- Whether a new fault of a class on a unit meets an open entry (R493). Of class 3 it meets one whose takeover runs, which is masked; a
duty that stopped with no spare has none. -/
def OpenFault.met (o : OpenFault) (cls unit : Nat) : Bool :=
  ((cls == 1 || cls == 2) && o.cls == 1 && o.unit == unit) || (cls == 2 && o.cls == 2) || ((cls == 3 || cls == 4) && o.cls == 3 && o.masked)

/-- SEQ of the most recent open entry met, 0 where none is. -/
def State.relSeq (s : State) (cls unit : Nat) : Nat :=
  ((s.flt.opens.filter (fun o => o.met cls unit)).map (·.seq)).foldl max 0

/-- The overwrite of an entry the owner has not read (R496): counted, and the log-loss event once. -/
def State.loseEntry (s : State) (e : Nat) : State :=
  if s.get (F.FLT_ENT0 e) ≠ 0 ∧ s.get F.FLT_RDSEQ_SEQ < s.get (F.FLT_ENT0 e) then
    (if s.get F.FLT_LOSTCNT = 0 then
      s.raise 5 3 [s.get (F.FLT_ENT0 e), s.get (F.FLT_ENT1 e) % 256]
    else s).bump F.FLT_LOSTCNT
  else s

/-- Write the eight words of an entry (Table 20-3). -/
def State.writeEntry (s : State) (e seq cls flags group unit rel detail recov : Nat) : State :=
  ((((((((s.put (F.FLT_ENT0 e) seq).put (F.FLT_ENT1 e) (cls + 256 * flags + 65536 * group + 16777216 * unit)).put
    (F.FLT_ENT2 e) (s.sec % 2 ^ 32)).put (F.FLT_ENT3 e) (s.sec / 2 ^ 32)).put (F.FLT_ENT4 e) s.ns).put
    (F.FLT_ENT5 e) rel).put (F.FLT_ENT6 e) detail).put (F.FLT_ENT7 e) recov)

/-- Whether a class's recovery is complete at once (Table 20-1): 4, 5, and 6 in regions 1 and 2. -/
def closesAtOnce (cls detail : Nat) : Bool := cls == 4 || cls == 5 || (cls == 6 && decide (detail % 256 ≤ 2))

/-- FAULT_LOG_ENTRY (R495, R496, R497): write an entry and raise its FLT event; `detail` is DETAIL's four bytes. -/
def State.logFault (s : State) (cls unit group : Nat) (masked : Bool) (detail : Nat) : State :=
  let e := s.get F.FLT_HEAD_NEXT
  let q := s.get F.FLT_SEQ_NEXT
  let rel := s.relSeq cls unit
  let done := closesAtOnce cls detail
  let flags := (if masked then 1 else 0) + (if rel = 0 then 0 else 2) + (if done then 4 else 0)
  let t := (((s.loseEntry e).writeEntry e q cls flags group unit rel detail 0).put F.FLT_HEAD_NEXT (e + 1)).put F.FLT_SEQ_NEXT (q + 1)
  let t := { t with flt := { t.flt with opens := t.flt.opens.filter (fun o => o.idx != e) } }
  let t := if done then t else { t with flt := { t.flt with opens := t.flt.opens ++ [{ seq := q, idx := e, cls := cls, unit := unit, masked := masked, at_ := s.uptime, aff := [] }] } }
  let t := (t.put F.FLT_OPEN_COUNT (min t.flt.opens.length 255)).bump (F.FLT_CLS cls)
  let t := t.bump (if masked then F.FLT_MASKCNT else F.FLT_VISCNT)
  let t := if masked then t.raiseWith (8 * 5 + 0) true 0 [q, cls, unit] else t.raise 5 1 [q, cls, unit]
  if rel = 0 then t else t.raiseWith (8 * 5 + 2) masked 0 [q, cls, rel]

/-- Microseconds from an uptime to now, as RECOV holds them: 24 bits, saturating. -/
def State.recov (s : State) (at_ : Nat) : Nat := min ((s.uptime - at_) / 1000) 0xFFFFFF

/-- FAULT_RECOVERY_COMPLETE (R496): RECOV, then DONE, and the event where the fault was visible. -/
def State.closeFault (s : State) (o : OpenFault) : State :=
  let t := (s.put (F.FLT_ENT7 o.idx) (s.recov o.at_)).put ⟨A.FLT_ENT1 o.idx, 10, 1⟩ 1
  let t := { t with flt := { t.flt with opens := t.flt.opens.filter (fun p => p.seq != o.seq) } }
  let t := t.put F.FLT_OPEN_COUNT (min t.flt.opens.length 255)
  if o.masked then t else t.raise 5 4 [o.seq, o.cls, s.recov o.at_]

/-- Close the open entries that pass a test. -/
def State.closeFaults (s : State) (p : OpenFault → Bool) : State :=
  (s.flt.opens.filter p).foldl (fun t o => t.closeFault o) s

/-- FAULT_RECOVERY_COMPLETE (R496), for the open entry of a SEQ. -/
def execFaultRecoveryComplete (seq : Nat) (s : State) : Host.Outcome State Fault Refusal :=
  .next (s.whenUp fun s => (s.closeFaults (fun o => o.seq == seq)))

end Sys2Proof.Machine
end

