-- ==== Sys2Proof/Machine/Ownership.lean ====
section
/-! DEFINITION. Ownership of the fabric (R102 to R108): states, elections, yields and the host-alive conditions. -/

namespace Sys2Proof.Machine

/-- Whether rank `a` is higher than rank `b` (R102). -/
def Rank.higher (a b : Rank) : Bool := decide (b.prio < a.prio) || (decide (a.prio = b.prio) && decide (a.uid < b.uid))

/-- Whether generation `a` compares as higher than `b`: it leads by 1 to 32,767 (GLB_OWNER.GEN). -/
def genHigher (a b : Nat) : Bool := decide (1 ≤ idxDiff a b) && decide (idxDiff a b ≤ 32767)

/-- This host bridge's rank (R102): GLB_OWNPRIO as it stood at the last election. -/
def State.rank (s : State) : Rank := { prio := s.own.prio, uid := s.uid }

/-- Whether this host bridge's host is alive (R103). -/
def State.hostAlive (s : State) : Bool :=
  s.isHost && s.own.perstHigh && s.own.linkUp && s.own.bme && !(s.bit F.GLB_ALIVE_EXPIRED)

/-- Pull SMB_ALERT_N low for a cause (R112): bit 0 strap fault, 1 THERMTRIP_N, 2 Penumbra, 3 owner change. -/
def State.alert (s : State) (cause : Nat) : State :=
  (s.smbM fun b => { b with causes := b.causes ||| 2 ^ cause }).emit (.pin .smbAlertN false)

/-- Set GLB_OWNER, raise the owner-change event (R113) and the SMBus alert (R112). -/
def State.setOwner (s : State) (st fid gen : Nat) (rank : Option Rank) : State :=
  ((((s.put F.GLB_OWNER_STATE st).put F.GLB_OWNER_OWNFID fid).put F.GLB_OWNER_GEN gen).ownM
    fun o => { o with ownerRank := rank, wasOwner := false, yieldFrom := none }).raise 0 1 [fid, gen, st] |>.alert 3

/-- Broadcast a heartbeat (R104). -/
def State.heartbeat (s : State) : State :=
  s.emit (.msg .broadcast (.heartbeat s.fid (s.own.ownerRank.getD s.rank) (s.get F.GLB_OWNER_GEN)))

/-- The higher of the GENs heard in claims and one more. -/
def highGen (h : Option Nat) (g : Nat) : Option Nat :=
  match h with
  | some x => if genHigher g x then some g else some x
  | none => some g

/-- Broadcast this host bridge's claim and keep it as heard (R105). -/
def State.claim (s : State) : State :=
  let g := (s.get F.GLB_OWNER_GEN + 1) % 65536
  let b := match s.own.best with
    | some (f, r, n) => if Rank.higher r s.rank then some (f, r, n) else some (s.fid, s.rank, g)
    | none => some (s.fid, s.rank, g)
  (s.ownM fun o => { o with best := b, ownClaim := true, highClaim := highGen o.highClaim g }).emit
    (.msg .broadcast (.claim s.fid s.rank g))

/-- Enter ELECTING (Table 4-11): no owner is followed; an alive host's bridge claims at once. GLB_OWNPRIO takes effect here (R102). -/
def State.electWith (s : State) (noClaim masked : Bool) : State :=
  let t := ((s.put F.GLB_OWNER_STATE 2).put F.GLB_OWNER_OWNFID 0).ownM fun o =>
    { o with best := none, ownClaim := false, highClaim := none, prio := s.get F.GLB_OWNPRIO_PRIO, yieldFrom := none, ownerRank := none, wasOwner := false, noClaim := noClaim }
  let u := t.raiseWith 2 masked 0 []
  if u.hostAlive && !noClaim then u.claim else u

/-- Enter ELECTING for a cause that is no fault. -/
def State.elect (s : State) (noClaim : Bool) : State := s.electWith noClaim false

/-- Complete a yield in progress (R108). -/
def State.endYield (s : State) (code : Nat) : State :=
  match s.own.yielding with
  | some y =>
    let t := (s.ownM fun o => { o with yielding := none, noClaim := false }).finish y.ticket code 0
    if code = 0 then t.raise 0 4 [] else t
  | none => s

/-- An election ends: a yield to no one completes (R108), and an OWNER fault's recovery is complete (Table 20-1). -/
def State.endRelease (s : State) : State :=
  let t := s.closeFaults fun o => o.cls == 7
  match t.own.yielding with
  | some y => if y.tofid = 0 ∧ y.sent then t.endYield 0 else t
  | none => t

/-- Enter OWNER with a generation and send a heartbeat (R105, R108); the owner's own map is the current one (R187). -/
def State.become (s : State) (gen : Nat) : State :=
  ((s.put F.TUN_STAT_MAPVALID 1).setOwner 3 s.fid gen (some s.rank)).heartbeat

/-- Whether a heartbeat moves this device to a new owner: its GEN is higher than any accepted (Table 4-11), or, beside
an owner already followed, its sender ranks higher (R106). -/
def State.takesOwner (s : State) (rank : Rank) (gen : Nat) : Bool :=
  genHigher gen (s.get F.GLB_OWNER_GEN) ||
    (match s.own.ownerRank with | some r => Rank.higher rank r | none => false)

/-- The device follows the sender of a heartbeat. -/
def State.follow (s : State) (fid : Nat) (rank : Rank) (gen : Nat) : State :=
  (s.setOwner 1 fid (if genHigher gen (s.get F.GLB_OWNER_GEN) then gen else s.get F.GLB_OWNER_GEN) (some rank)).endRelease

/-- Whether a heartbeat is that of the target of this device's yield. -/
def State.yieldTaken (s : State) (fid gen : Nat) : Bool :=
  match s.own.yielding with
  | some y => y.sent && y.tofid == fid && gen == (s.get F.GLB_OWNER_GEN + 1) % 65536
  | none => false

/-- A heartbeat arrives (R105, R106, R108). -/
def State.hearHeartbeat (s : State) (fid : Nat) (rank : Rank) (gen : Nat) : State :=
  if fid = s.fid then s
  else
    match s.get F.GLB_OWNER_STATE with
    | 3 =>
      if s.yieldTaken fid gen then (s.follow fid rank gen).endYield 0
      else if Rank.higher rank (s.own.ownerRank.getD s.rank) then (s.follow fid rank gen).endYield 0x30
      else s
    | 1 =>
      if fid = s.ownerFid then
        if genHigher gen (s.get F.GLB_OWNER_GEN) then s.put F.GLB_OWNER_GEN gen else s
      else if s.takesOwner rank gen then (if s.yieldTaken fid gen then (s.follow fid rank gen).endYield 0 else s.follow fid rank gen)
      else s
    | _ => if genHigher gen (s.get F.GLB_OWNER_GEN) then s.follow fid rank gen else s

/-- The host ceases to be alive: an owner becomes FOLLOWER and its heartbeats stop (Table 4-11); a yield whose YIELD has not gone out
completes YIELD_REFUSED. A claim of this device's own no longer wins. -/
def State.hostLost (s : State) : State :=
  if s.get F.GLB_OWNER_STATE = 3 then
    let t := ((s.put F.GLB_OWNER_STATE 1).ownM fun o => { o with wasOwner := true }).raise 0 1 [s.fid, s.get F.GLB_OWNER_GEN, 1]
    match s.own.yielding with
    | some y => if y.sent then t else t.endYield 0x30
    | none => t
  else s

/-- The host may be alive again: a bridge in NONE starts an election; a former owner no device has claimed against
returns to OWNER (Table 4-11). -/
def State.hostGained (s : State) : State :=
  if s.hostAlive then
    if s.get F.GLB_OWNER_STATE = 0 then s.elect false
    else if s.get F.GLB_OWNER_STATE = 1 ∧ s.own.wasOwner then s.become (s.get F.GLB_OWNER_GEN)
    else s
  else s

/-- Set one of the conditions of R103: 0 PCIE_PERST_N high, 1 link up, 2 Bus Master Enable, 3 keepalive. -/
def State.setAlive (s : State) (cond : Nat) (v : Bool) : State :=
  match cond with
  | 0 => s.ownM fun o => { o with perstHigh := v }
  | 1 => s.ownM fun o => { o with linkUp := v }
  | 2 => s.ownM fun o => { o with bme := v }
  | _ => s.putBit F.GLB_ALIVE_EXPIRED (!v)

/-- A condition of R103 changes, with what follows from it. -/
def State.aliveChange (s : State) (cond : Nat) (v : Bool) : State :=
  let t := s.setAlive cond v
  if s.hostAlive && !t.hostAlive then t.hostLost else if !s.hostAlive && t.hostAlive then t.hostGained else t

/-- Whether OWN_YIELD may name this FID: a host bridge of the fabric graph, not in Quarantine (R108). -/
def State.hostInGraph (s : State) (fid : Nat) : Bool :=
  s.fab.recs.any fun h => h.r.fid == fid && h.r.role == 0 && s.fab.live.nodes.contains fid

/-- OWN_YIELD (R108). -/
def execOwnYield (c : HostCmd) (s : State) : Host.Outcome State Fault Refusal :=
  .next (s.command 0x08 true [(8, 0, 6)] c fun t u =>
    let f := opAt c 8 1
    if f = u.fid ∧ f ≠ 0 then u.finish t 0x00 0
    else if f = 0 ∨ u.hostInGraph f then
      u.ownM fun o => { o with yielding := some { ticket := t, tofid := f, sent := false } }
    else u.finish t 0x03 0)

/-- Enter OWNER by the yield of an owner of a rank. -/
def State.takeYield (s : State) (gen : Nat) (rank : Rank) : State :=
  (s.become gen).ownM fun o => { o with yieldFrom := some rank }

/-- YIELD_RECEIVE (R108): a host bridge with an alive host takes ownership. Of two yields in flight at once, the higher-ranked owner's
stands: beside a yield of this device's own, and beside another's that it has just taken. -/
def execYieldReceive (tofid gen : Nat) (rank : Rank) (s : State) : Host.Outcome State Fault Refusal :=
  .next (s.whenUp fun s => (if tofid ≠ s.fid ∨ !(s.hostAlive) then s
    else
      match s.own.yielding, s.own.yieldFrom with
      | some _, _ => if Rank.higher rank s.rank then (s.endYield 0x30).takeYield gen rank else s
      | none, some r => if Rank.higher rank r then s.takeYield gen rank else s
      | none, none => s.takeYield gen rank))

/-- YIELD_TIMEOUT (R108): the owner stays OWNER and the yield completes YIELD_REFUSED. -/
def execYieldTimeout (s : State) : Host.Outcome State Fault Refusal :=
  .next (s.whenUp fun s => (match s.own.yielding with
    | some y => if y.sent ∧ y.tofid ≠ 0 then s.endYield 0x30 else s
    | none => s))

/-- HEARTBEAT_SEND (R104): the owner's host bridge broadcasts a heartbeat; by now a yield that met the one it took has timed out. -/
def execHeartbeatSend (s : State) : Host.Outcome State Fault Refusal :=
  .next (s.whenDuty 0 fun s => (if s.get F.GLB_OWNER_STATE = 3 ∧ s.hostAlive then (s.ownM fun o => { o with yieldFrom := none }).heartbeat else s))

/-- OWNER_TIMER_EXPIRY (R105): the device enters ELECTING, also one that has waited in ELECTING for a winner's heartbeat that never came
(assumption 85). A host bridge that followed an owner logs an OWNER fault (R496). -/
def execOwnerTimerExpiry (s : State) : Host.Outcome State Fault Refusal :=
  .next (s.whenDuty 0 fun s => (if s.get F.GLB_OWNER_STATE = 1 then
      let t := s.electWith s.own.noClaim s.isHost
      if s.isHost then t.logFault 7 0 0 true (s.ownerFid + 256 * s.get F.GLB_OWNER_GEN) else t
    else if s.get F.GLB_OWNER_STATE = 2 then s.elect s.own.noClaim
    else s))

/-- CLAIM_SEND (R105). -/
def execClaimSend (s : State) : Host.Outcome State Fault Refusal :=
  .next (s.whenDuty 0 fun s => (if s.get F.GLB_OWNER_STATE = 2 ∧ s.hostAlive ∧ !s.own.noClaim then s.claim else s))

/-- CLAIM_RECEIVE (R105): NONE becomes ELECTING, ELECTING keeps the best claim, the other states ignore it. A former
owner can no longer return without an election. -/
def execClaimReceive (fid : Nat) (rank : Rank) (gen : Nat) (s : State) : Host.Outcome State Fault Refusal :=
  .next (s.whenUp fun s => (let t := if s.get F.GLB_OWNER_STATE = 0 then s.elect false else s
    if t.get F.GLB_OWNER_STATE = 2 then
      t.ownM fun o => { o with
        best := (match o.best with
          | some (f, r, g) => if Rank.higher rank r then some (fid, rank, gen) else some (f, r, g)
          | none => some (fid, rank, gen)),
        highClaim := highGen o.highClaim gen }
    else t.ownM fun o => { o with wasOwner := false }))

/-- ELECTION_CLOSE (R103, R105): to OWNER on the best claim, to NONE where none was heard; otherwise the device waits for
the winner's heartbeat, and so does one whose own claim is the best but whose host is no longer alive. A yield to no one completes. -/
def execElectionClose (s : State) : Host.Outcome State Fault Refusal :=
  .next (s.whenDuty 0 fun s => (if s.get F.GLB_OWNER_STATE = 2 then
      match s.own.best with
      | some (f, _, _) => (if f = s.fid ∧ s.own.ownClaim ∧ s.hostAlive then s.become (s.own.highClaim.getD 0) else s).endRelease
      | none => ((s.put F.GLB_OWNER_STATE 0).raise 0 3 []).endRelease
    else s))

/-- ALIVE_KICK (R103): the keepalive timer starts again and EXPIRED clears. -/
def execAliveKick (s : State) : Host.Outcome State Fault Refusal := .next (s.whenUp fun s => (s.aliveChange 3 true))

end Sys2Proof.Machine
end

