-- ==== Sys2Proof/Machine/Keys.lean ====
section
/-! DEFINITION. Slots, handles and derivation of the Lamp Room (R474 to R481), which the links, the frame stores and the
engine's operations share. -/

namespace Sys2Proof.Machine

/-- Change the Lamp Room's internal state. -/
def State.ksM (s : State) (g : KeyStSt → KeyStSt) : State := { s with keys := g s.keys }

/-- A slot. -/
def State.slotAt (s : State) (n : Nat) : KeySlot := s.keys.slots.getD n { gen := 0, key := none }

/-- The handle of a slot as it stands (R474). -/
def State.handleOf (s : State) (n : Nat) : Nat := n + 64 * (s.slotAt n).gen

/-- KEY_SLOTS and KEY_ROOTH follow the slots, KEY_CMD.BUSY the engine's operations. -/
def State.keyRegs (s : State) : State :=
  (((s.putBit F.KEY_CMD_BUSY (s.keys.running.isSome || s.keys.queue != [])).put F.KEY_SLOTS_FREE (((s.keys.slots.drop 28).filter (·.key.isNone)).length)).put F.KEY_SLOTS_USED
    ((s.keys.slots.filter (·.key.isSome)).length)).put F.KEY_ROOTH_HANDLE (if (s.slotAt 0).key.isSome then s.handleOf 0 else 0)

/-- Put a key into a slot. -/
def State.setKey (s : State) (n : Nat) (v : KeyVal) : State :=
  (s.ksM fun k => { k with slots := k.slots.modify n fun x => { x with key := some v } }).keyRegs

/-- Erase a slot that holds a key: its generation advances modulo 1,024. -/
def KeySlot.erase (x : KeySlot) : KeySlot := if x.key.isSome then { gen := (x.gen + 1) % 1024, key := none } else x

/-- Erase a slot. -/
def State.eraseKey (s : State) (n : Nat) : State :=
  (s.ksM fun k => { k with slots := k.slots.modify n KeySlot.erase }).keyRegs

/-- The lowest free slot of a list. -/
def State.freeSlot (s : State) (ns : List Nat) : Option Nat := ns.find? fun n => (s.slotAt n).key.isNone

/-- Whether bit `b` of a policy is set. -/
def polBit (pol b : Nat) : Bool := pol / 2 ^ b % 2 == 1

/-- Whether every bit of `a` is in `b`. -/
def polWithin (a b : Nat) : Bool := decide (a < 256) && (List.range 8).all fun k => !(polBit a k) || polBit b k

/-- A policy with a bit set. -/
def polWith (pol b : Nat) : Nat := if polBit pol b then pol else pol + 2 ^ b

/-- The child of a key for a label and a length (R476). -/
def derive (parent : List (BitVec 8)) (label : List (BitVec 8)) (len : Nat) : List (BitVec 8) :=
  Config.kmac256 parent label ("DZ-LAMP".toList.map fun c => BitVec.ofNat 8 c.toNat) len

/-- A string's bytes, zeros after it up to 32. -/
def label32 (str : String) (more : List (BitVec 8)) : List (BitVec 8) :=
  let b := (str.toList.map fun c => BitVec.ofNat 8 c.toNat) ++ more
  b ++ List.replicate (32 - b.length) 0

/-- Bytes of a private scalar, big-endian. -/
def scalarBytes (k : BitVec 384) : List (BitVec 8) := beBytes 48 k.toNat

/-- Bytes of a public key, 97 uncompressed (Table 19-5). -/
def pubBytes (k : BitVec 768) : List (BitVec 8) := 0x04#8 :: beBytes 96 k.toNat

/-- The public key 97 bytes spell. -/
def readPub (bs : List (BitVec 8)) : BitVec 768 := BitVec.ofNat 768 (beNat (slice bs 1 96))

/-- The order of P-384's group (FIPS 186-5). -/
def p384n : Nat :=
  0xFFFFFFFFFFFFFFFFFFFFFFFFFFFFFFFFFFFFFFFFFFFFFFFFC7634D81F4372DDF581A0DB248B0A77AECEC196ACCC52973

/-- The scalar a 48-byte output gives (R481). -/
def scalarOf (v : List (BitVec 8)) : BitVec 384 := BitVec.ofNat 384 (beNat v % (p384n - 1) + 1)

/-- The private scalar of a slot's key: a key pair's own, or the one a derived secret gives. -/
def KeyVal.scalar (v : KeyVal) : BitVec 384 := if v.kind = 0 then scalarOf v.value else BitVec.ofNat 384 (beNat v.value)

/-- Life-cycle state in use. -/
def State.lcs (s : State) : Nat := s.get F.KEY_LCS_CUR

/-- What JTAG offers in a life-cycle state (Table 3-5): everything in Blank and, once unlocked, in Returned; otherwise IDCODE and BYPASS
alone. -/
def State.jtagOpen (s : State) : Bool := s.lcs == 0 || (s.lcs == 3 && s.bit F.KEY_LCS_JTAGUNL)

/-- A 48-byte digest of the DIGESTS partition: 0 FWKEY_DEP, 1 CA_DEP, 2 FWKEY_RMA, 3 CA_RMA, 4 RMADBG. -/
def State.otpDigest (s : State) (n : Nat) : BitVec 384 :=
  BitVec.ofNat 384 (beNat ((List.range 12).flatMap fun w => leBytes 4 (s.get (F.KEY_OTP (12 * n + w)))))

/-- The device-CA digest of the state (Table 19-1). -/
def State.caDigest (s : State) : BitVec 384 :=
  match s.lcs with | 0 => Config.testCaDigest | 3 => s.otpDigest 3 | _ => s.otpDigest 1

/-- The public key of the leaf of a chain that verifies; none verifies where the digest is bad (R473). -/
def State.verifyChain (s : State) (chain : List (BitVec 8)) : Option (BitVec 768) :=
  if 2 ∈ s.keys.bad then none else Config.chainLeaf s.caDigest chain

/-- The root secret and its policy (Table 19-1). -/
def State.rootKey (s : State) : Option (BitVec 256 × Nat) :=
  if 0 ∈ s.keys.bad then none
  else match s.lcs with
  | 0 => some (Config.testRootKey, 0x3B)
  | 1 | 2 => s.keys.depRoot.map fun r => (r, 0x7F)
  | 3 => s.keys.rmaRoot.map fun r => (r, 0x3B)
  | _ => none

/-- The slots that a reset and the boot fill (R474, R480, R481): the root, the identity key, and where the root has CP the frame-store content
key and the HDCP keys the flash blob holds. -/
def State.loadRoot (s : State) : State :=
  match s.rootKey with
  | none => s.keyRegs
  | some (r, pol) =>
    let root := leBytes 32 r.toNat
    let t := s.setKey 0 { kind := 0, policy := pol, depth := 0, value := root }
    let t := t.setKey 1 { kind := 0, policy := 8, depth := 1, value := derive root (label32 "DZ-IDENT" (leBytes 8 s.uid)) 48 }
    let (x, t) := t.draw
    if polBit pol 2 then
      let v := derive root (label32 "DZ-STORE" (leBytes 24 x.toNat)) 32
      let t := (List.range 10).foldl (fun u i => match Config.hdcpBlob r (18 + i) with
        | some b => u.setKey (18 + i) { kind := 0, policy := 4, depth := 0, value := b }
        | none => u) t
      { t.setKey 2 { kind := 0, policy := 4, depth := 1, value := v } with store := { t.store with key := BitVec.ofNat 256 (leNat v) } }
    else t

/-- Every volatile slot is lost (R474). -/
def State.loseSlots (s : State) : State := (s.ksM fun k => { k with slots := k.slots.map KeySlot.erase }).keyRegs

/-! ### The slots of a port (R479) -/

/-- The five slots of a port. -/
def linkSlots (p : Nat) : List Nat := [3 + 5 * p, 4 + 5 * p, 5 + 5 * p, 6 + 5 * p, 7 + 5 * p]

/-- Erase the slots of a port. -/
def State.dropLinkKeys (s : State) (p : Nat) : State :=
  if (linkSlots p).any fun n => (s.slotAt n).key.isSome then (linkSlots p).foldl (fun t n => t.eraseKey n) s else s

/-- KEYGEN of a port's ephemeral key into its first free slot: the slot and the public key. -/
def State.ephemeral (s : State) (p : Nat) : State × Nat × BitVec 768 :=
  let n := (s.freeSlot (linkSlots p)).getD (3 + 5 * p)
  let (x, t) := s.draw
  let k := Config.ecKeyGen x
  (t.setKey n { kind := 1, policy := 0x40, depth := 0, value := scalarBytes k }, n, Config.ecPublic k)

/-- The label of a link key (R479). -/
def linkLabel (dir lo hi : Nat) (loRand hiRand : BitVec 256) : List (BitVec 8) :=
  let h := Config.sha384 (leBytes 8 lo ++ leBytes 8 hi ++ beBytes 32 loRand.toNat ++ beBytes 32 hiRand.toNat)
  ("PLK".toList.map fun c => BitVec.ofNat 8 c.toNat) ++ leBytes 1 dir ++ (beBytes 48 h.toNat).take 28

/-- AGREE and both DERIVEs of a port (R479): transmit and receive slots of the new keys. -/
def State.linkKeys (s : State) (p eph : Nat) (peer : BitVec 768) (peerUid : Nat) (own other : BitVec 256) : State × Nat × Nat :=
  match (s.slotAt eph).key with
  | none => (s, 0, 0)
  | some e =>
    let cp := (match s.rootKey with | some (_, pol) => polBit pol 2 | none => false)
    let pol := if cp then 6 else 2
    let b := (s.freeSlot (linkSlots p)).getD (4 + 5 * p)
    let secret := scalarBytes (Config.ecdh e.scalar peer)
    let t := (s.setKey b { kind := 0, policy := pol + 1, depth := 0, value := secret }).eraseKey eph
    let up := decide (s.uid < peerUid)
    let lab := fun (dir : Nat) =>
      if up then linkLabel dir s.uid peerUid own other else linkLabel dir peerUid s.uid other own
    let key := fun (dir : Nat) => ({ kind := 0, policy := pol, depth := 1, value := derive secret (lab dir) 36 } : KeyVal)
    let x := (t.freeSlot (linkSlots p)).getD (5 + 5 * p)
    let t := t.setKey x (key (if up then 0 else 1))
    let y := (t.freeSlot (linkSlots p)).getD (6 + 5 * p)
    ((t.setKey y (key (if up then 1 else 0))).eraseKey b, x, y)

end Sys2Proof.Machine
end

