-- ==== Sys2Proof/Machine/Routing.lean ====
section
/-! DEFINITION. The fabric graph and the route tables computed from it (R364, R367, R370 to R375): functions of the
held RECORDs alone. -/

namespace Sys2Proof.Machine

/-- Whether a FID came from a binding, straps or NV memory (Table 14-3). -/
def configuredSrc (src : Nat) : Bool := decide (1 ≤ src) && decide (src ≤ 3)

/-- Whether RECORD `a` keeps a FID against `b` (R367): configured beats automatic, then the lower UID. -/
def recBeats (a b : Rec) : Bool :=
  if configuredSrc a.src == configuredSrc b.src then decide (a.uid < b.uid) else configuredSrc a.src

/-- Whether a RECORD's device is a member of the graph (R364), beside a loser of a FID conflict. -/
def recMember (r : Rec) : Bool := decide (1 ≤ r.fid) && decide (r.fid ≤ 62) && !r.quar

/-- Whether port `q` of RECORD `b` lists port `p` of `a` as UP (R364). -/
def listsBack (a : Rec) (p : Nat) (b : Rec) (q : Nat) : Bool :=
  match b.ports[q]? with
  | some e => e.up && e.peer == a.uid && e.pport == p
  | none => false

/-- Breadth-first distances: `k` rounds from the pairs (device, distance) in `d`. -/
def bfs (next : Nat → List Nat) : Nat → Nat → List (Nat × Nat) → List (Nat × Nat)
  | 0, _, d => d
  | k + 1, lvl, d =>
    let fresh := ((d.filter fun e => e.2 == lvl).flatMap fun e => next e.1).filter fun n => !(d.any fun e => e.1 == n)
    bfs next k (lvl + 1) (d ++ (fresh.eraseDups.map fun n => (n, lvl + 1)))

/-- The devices, by UID, that a device's listed links lead to among the holders of a FID. -/
def listedBy (recs : List Rec) (uid : Nat) : List Nat :=
  match recs.find? fun r => r.uid == uid with
  | none => []
  | some a => a.ports.zipIdx.flatMap fun e =>
      if e.1.up then (recs.filter fun b => b.uid == e.1.peer && recMember b && listsBack a e.2 b e.1.pport).map (·.uid) else []

/-- The RECORDs a device's links reach; any other is ignored (R364). -/
def reached (recs : List Rec) (uid : Nat) : List Rec :=
  let us := (bfs (listedBy recs) 64 0 [(uid, 0)]).map (·.1)
  recs.filter fun r => us.contains r.uid

/-- The RECORDs of the members of the graph a device sees, one for each FID (R364, R367). -/
def members (recs : List Rec) (uid : Nat) : List Rec :=
  let rs := reached recs uid
  rs.filter fun r => recMember r && !(rs.any fun o => recMember o && o.fid == r.fid && recBeats o r)

/-- The links of a member's ports whose other end is a member, named by the end with the lower FID. -/
def linksOf (ms : List Rec) (a : Rec) : List GLink :=
  a.ports.zipIdx.flatMap fun e =>
    if e.1.up then
      (ms.filter fun b => b.uid == e.1.peer && decide (a.fid < b.fid) && listsBack a e.2 b e.1.pport).map fun b =>
        { a := a.fid, ap := e.2, b := b.fid, bp := e.1.pport, enc := e.1.enc }
    else []

/-- The hops out of a device: own port, neighbour, its port. -/
def Graph.hops (g : Graph) (x : Nat) : List (Nat × Nat × Nat) :=
  g.links.flatMap fun l =>
    (if l.a = x then [(l.ap, l.b, l.bp)] else []) ++ (if l.b = x then [(l.bp, l.a, l.ap)] else [])

/-- A value from a list of pairs. -/
def assoc {α : Type} (l : List (Nat × α)) (x : Nat) : Option α := (l.find? fun e => e.1 == x).map (·.2)

/-- Where a device's view of the graph starts: itself where it is a member, otherwise the members its links join. -/
def viewFrom (recs : List Rec) (uid : Nat) : List Nat :=
  let ms := members recs uid
  match recs.find? fun r => r.uid == uid with
  | none => []
  | some r =>
    if ms.contains r then [r.fid]
    else r.ports.zipIdx.flatMap fun e =>
      if e.1.up then (ms.filter fun b => b.uid == e.1.peer && listsBack r e.2 b e.1.pport).map (·.fid) else []

/-- The graph as a device sees it (R364): the members it reaches, and their links. -/
def buildGraph (recs : List Rec) (uid : Nat) : Graph :=
  let ms := members recs uid
  let g : Graph := { nodes := ms.map (·.fid), links := ms.flatMap (linksOf ms) }
  let reach := (bfs (fun x => (g.hops x).map (·.2.1)) 64 0 ((viewFrom recs uid).eraseDups.map fun n => (n, 0))).map (·.1)
  { nodes := (g.nodes.filter fun n => reach.contains n), links := g.links.filter fun l => reach.contains l.a }

/-- The root (R370): the lowest FID; 0 in an empty graph. -/
def Graph.root (g : Graph) : Nat := (g.nodes.min?).getD 0

/-- Distances from the root (R370). -/
def Graph.dists (g : Graph) : List (Nat × Nat) :=
  bfs (fun x => (g.hops x).map (·.2.1)) 64 0 (if g.nodes.isEmpty then [] else [(g.root, 0)])

/-- Whether the hop from `x` to `y` is an up hop (R370). -/
def hopUp (d : List (Nat × Nat)) (x y : Nat) : Bool :=
  let dx := (assoc d x).getD 64
  let dy := (assoc d y).getD 64
  decide (dy < dx) || (dx == dy && decide (y < x))

/-- Whether one triple comes before another, number by number. -/
def lexLt (a b : Nat × Nat × Nat) : Bool :=
  decide (a.1 < b.1) || (a.1 == b.1 && (decide (a.2.1 < b.2.1) || (a.2.1 == b.2.1 && decide (a.2.2 < b.2.2))))

/-- The least triple by its numbers, in order. -/
def lexMin (l : List (Nat × Nat × Nat)) : Option (Nat × Nat × Nat) :=
  l.foldl (fun b e => match b with
    | none => some e
    | some x => if lexLt e x then some e else some x) none

/-- One device's entry toward a destination. -/
structure RouteEnt where
  x : Nat
  port : Nat
  next : Nat
  up : Bool
  r : Nat
deriving DecidableEq, Repr

/-- Devices ordered by (distance, FID). -/
def Graph.order (g : Graph) : List Nat :=
  let d := g.dists
  (List.range 65).flatMap fun k => (List.range 63).filter fun f => g.nodes.contains f && assoc d f == some k

/-- The primary entries of every device toward `dst` (R371), in the order of (distance, FID). -/
def Graph.routes (g : Graph) (dst : Nat) : List RouteEnt :=
  let d := g.dists
  let h := bfs (fun n => ((g.hops n).filter fun e => hopUp d n e.2.1).map (·.2.1)) 64 0
    (if g.nodes.contains dst then [(dst, 0)] else [])
  g.order.foldl (fun acc x =>
    if x = dst then acc ++ [{ x := x, port := 0, next := x, up := false, r := 0 }]
    else
      match assoc h x with
      | some hx =>
        match lexMin (((g.hops x).filter fun e => !(hopUp d x e.2.1) && assoc h e.2.1 == some (hx - 1)).map fun e => (hx, e.2.1, e.1)) with
        | some (_, n, p) => acc ++ [{ x := x, port := p, next := n, up := false, r := hx }]
        | none => acc
      | none =>
        match lexMin (((g.hops x).filter fun e => hopUp d x e.2.1).filterMap fun e =>
            (acc.find? fun u => u.x == e.2.1).map fun u => (u.r, e.2.1, e.1)) with
        | some (r, n, p) => acc ++ [{ x := x, port := p, next := n, up := true, r := r + 1 }]
        | none => acc) []

/-- The primary route of `x`: the devices after it with the entry each is reached by. -/
def walk (rs : List RouteEnt) : Nat → Nat → List RouteEnt
  | 0, _ => []
  | k + 1, x =>
    match rs.find? fun e => e.x == x with
    | some e => if e.next = x then [] else e :: walk rs k e.next
    | none => []

/-- The alternate of `x` toward the destination of `rs` (R372): port, where there is one. -/
def Graph.alternate (g : Graph) (rs : List RouteEnt) (x : Nat) : Option Nat :=
  match rs.find? fun e => e.x == x with
  | none => none
  | some pe =>
    if pe.next = x then none
    else
      let d := g.dists
      (lexMin (((g.hops x).filter fun e =>
          e.1 != pe.port &&
          (let w := walk rs 64 e.2.1
           (rs.any fun u => u.x == e.2.1) && !(w.any fun u => u.next == x) &&
             (hopUp d x e.2.1 || w.all fun u => !u.up))).filterMap fun e =>
        (rs.find? fun u => u.x == e.2.1).map fun u => (u.r, e.2.1, e.1))).map (·.2.2)

/-- The index of a link in a route set (R375): by its lower-FID end. -/
def Graph.linkIdx (g : Graph) (x port : Nat) : Nat :=
  match g.links.find? fun l => (l.a == x && l.ap == port) || (l.b == x && l.bp == port) with
  | some l => (l.a - 1) * 3 + l.ap
  | none => 0

/-- The route set of `x` (R375) as a 192-bit number. -/
def Graph.routeSet (g : Graph) (rs : List RouteEnt) (x : Nat) : Nat :=
  ((walk rs 64 x).map fun e => 2 ^ g.linkIdx e.x e.port).foldl (fun a b => if a / b % 2 = 1 then a else a + b) 0

/-- The parent link of a device in the broadcast tree (R374): own port, parent, its port. -/
def Graph.parent (g : Graph) (x : Nat) : Option (Nat × Nat × Nat) :=
  let d := g.dists
  match lexMin (((g.hops x).filter fun e => hopUp d x e.2.1).map fun e => ((assoc d e.2.1).getD 64, e.2.1, e.1)) with
  | some (_, n, p) => (g.hops x).find? fun e => e.1 == p && e.2.1 == n
  | none => none

/-- The tree ports of a device (R374): its parent port, and the ports of the devices it is the parent of. -/
def Graph.treePorts (g : Graph) (x : Nat) : List Nat :=
  (match g.parent x with | some (p, _, _) => [p] | none => []) ++
    g.nodes.filterMap fun y =>
      match g.parent y with
      | some (_, n, q) => if n = x then some q else none
      | none => none

end Sys2Proof.Machine
end

