-- ==== Sys2Proof/Machine/Paths.lean ====
section
/-! DEFINITION. The paths of frames inside a device: ports, credits, egress queues, contexts, and the choice of an egress
(R160, R184, R203, R376). -/

namespace Sys2Proof.Machine

/-! ### Ports, links, schedulers, contexts -/

/-- Port `p`'s bring-up state. -/
def State.port (s : State) (p : Nat) : PortSt := s.ports.getD p PortSt.reset

/-- Port `p`'s link layer. -/
def State.link (s : State) (p : Nat) : LinkSt := s.links.getD p LinkSt.reset

/-- Port `p`'s scheduler. -/
def State.sch (s : State) (p : Nat) : SchSt := s.schs.getD p SchSt.reset

/-- Change port `p`'s bring-up state. -/
def State.portM (s : State) (p : Nat) (g : PortSt → PortSt) : State := { s with ports := s.ports.modify p g }

/-- Change port `p`'s link layer. -/
def State.linkM (s : State) (p : Nat) (g : LinkSt → LinkSt) : State := { s with links := s.links.modify p g }

/-- Change port `p`'s scheduler. -/
def State.schM (s : State) (p : Nat) (g : SchSt → SchSt) : State := { s with schs := s.schs.modify p g }

/-- Change port `p`'s keys. -/
def State.keyM (s : State) (p : Nat) (g : KeySt → KeySt) : State := s.linkM p fun l => { l with key := g l.key }

/-- Change the tunnel state. -/
def State.tunM (s : State) (g : TunSt → TunSt) : State := { s with tun := g s.tun }

/-- Change the fabric state. -/
def State.fabM (s : State) (g : FabSt → FabSt) : State := { s with fab := g s.fab }

/-- Change the context at an index. -/
def State.ctxM (s : State) (idx : Nat) (g : TunCtx → TunCtx) : State :=
  s.tunM fun t => { t with ctxs := updBy (fun c => c.idx == idx) g t.ctxs }

/-- The context at an index. -/
def State.ctx (s : State) (idx : Nat) : Option TunCtx := s.tun.ctxs.find? fun c => c.idx == idx

/-- The context of a TID; of the two of a tunnel with both ends here, end A. -/
def State.ctxOf (s : State) (tid : Nat) : Option TunCtx := s.tun.ctxs.find? fun c => c.par.tid == tid

/-- The other context of a tunnel with both ends on this device (R177). -/
def State.twin (s : State) (c : TunCtx) : Option TunCtx :=
  s.tun.ctxs.find? fun d => d.par.tid == c.par.tid && d.idx != c.idx

/-- Whether a context is an end. -/
def TunCtx.isEnd (c : TunCtx) : Bool := c.pos == 1 || c.pos == 2

/-- The device at the far end. -/
def TunCtx.far (c : TunCtx) : Nat := if c.pos = 1 then c.par.bFid else c.par.aFid

/-- The endpoint of this end. -/
def TunCtx.ep (c : TunCtx) : Nat := if c.pos = 1 then c.par.epA else c.par.epB

/-- Whether both ends lie on this device. -/
def TunCtx.local_ (c : TunCtx) : Bool := c.par.aFid == c.par.bFid

/-- A ring no longer offers its frame. -/
def State.offerGone (s : State) (ring ep : Nat) : State :=
  s.tunM fun u => { u with ctxs := updBy (fun c => c.isEnd && c.ep == ep && c.first.ring == some ring) (fun c => { c with first := Offer.idle }) u.ctxs }

/-- The leader's TID of a PCIe bundle (R182). -/
def TunCtx.leader (c : TunCtx) : Nat := if c.par.bundle = 0 then c.par.tid else c.par.bundle

/-- The open end at an endpoint that carries a tunnel type, whatever its state (R183). -/
def State.endAt (s : State) (ep typ : Nat) : Option TunCtx :=
  s.tun.ctxs.find? fun c => c.isEnd && c.ep == ep && c.par.typ == typ

/-- The latched state of a port (Table 5-4). -/
def State.portState (s : State) (p : Nat) : Nat := s.get (F.ADT_STAT_STATE p)

/-- Whether a port is LIT or DIM. -/
def State.lit (s : State) (p : Nat) : Bool := decide (p < 3) && (s.portState p == 5 || s.portState p == 6)

/-- UP (Table 14-2): LIT or DIM, and NEIGHBOUR current. -/
def State.portUp (s : State) (p : Nat) : Bool := s.lit p && s.fab.neigh.any fun e => e.1 == p

/-- Whether a port's link is encrypted. -/
def State.enc (s : State) (p : Nat) : Bool := s.bit (F.ADT_STAT_ENC p)

/-- Whether a port's link carries a class now: class 0 alone until the keys are in place (R131, R171). -/
def State.carries (s : State) (p cls : Nat) : Bool :=
  cls == 0 || ((s.link p).classes / 2 ^ cls % 2 == 1 && s.get (F.ADT_KEYSTAT_KX p) ∈ [0, 2, 3])

/-- Whether this device is held in Quarantine (R368). -/
def State.quarantined (s : State) : Bool := s.get F.FAB_ID_STATE == 2

/-- Whether routed frames of a class may leave by a port now: UP, in the installed tables (R379), carrying the class, from a device that is
not in Quarantine (R368). -/
def State.usable (s : State) (p cls : Nat) : Bool := s.portUp p && (s.port p).inRoute && s.carries p cls && !s.quarantined

/-- Whether the neighbour on a port is held in Quarantine (R368). -/
def State.peerQuar (s : State) (p : Nat) : Bool :=
  match s.fab.neigh.find? fun e => e.1 == p with
  | some n => s.fab.recs.any fun h => h.r.uid == n.2.uid && h.r.quar
  | none => false

/-- A frame other than HELLO that comes in by a port acts, unless the neighbour is held in Quarantine: then it is dropped and counted (R368). -/
def State.fromPeer (s : State) (p : Nat) (g : State → State) : State := if s.peerQuar p then s.bump F.FAB_NOROUTE else g s

/-! ### Credits and LINK words (R153, R158, R160) -/

/-- Credit available toward the peer for a class (ADTn_TXCRDc). -/
def State.txAvail (s : State) (p cls : Nat) : Nat :=
  if cls = 3 then 0xFFFF
  else if (s.link p).txSeen / 2 ^ cls % 2 = 0 then 0
  else
    let d := ((s.link p).txLimit.getD cls 0 + 65536 - (s.link p).txUsed.getD cls 0) % 65536
    if 32767 < d then 0 else d

/-- The CREDIT word of a class. -/
def State.creditWord (s : State) (p cls : Nat) : LinkWord :=
  { kind := 3, arg := creditArg cls ((s.link p).rxLimit.getD cls 0) }

/-- The classes a port sends CREDIT words for: those carried, but class 3 (R160, R161). -/
def State.creditClasses (s : State) (p : Nat) : List Nat := [0, 1, 2, 4, 5, 6, 7].filter fun c => s.carries p c

/-- CREDIT words for all classes. -/
def State.creditAll (s : State) (p : Nat) : State :=
  s.emits ((s.creditClasses p).map fun c => .link p (s.creditWord p c))

/-- DIM_EXIT (R133): 96 TRAIN blocks, then CREDIT words for all classes in the first LINK slots. -/
def State.exitDim (s : State) (p : Nat) : State :=
  if s.lit p ∧ s.bit (F.ADT_STAT_TXDIM p) then
    ((((s.put (F.ADT_STAT_TXDIM p) 0).put (F.ADT_STAT_STATE p) 5).emit (.blocks p 0x66 (s.get (F.ADT_LANE_TXUSE p)) (if (s.port p).one then 128 else 0) 0 96))).creditAll p
  else s

/-- Send a LINK word: a port in Dim leaves Dim for it. -/
def State.sendLink (s : State) (p : Nat) (w : LinkWord) : State :=
  if s.lit p then (s.exitDim p).emit (.link p w) else s

/-- Receive space frees (R160): the limit rises and a CREDIT word goes out. Class 3 returns to the completion pool. -/
def State.freeRx (s : State) (p cls units : Nat) : State :=
  if cls = 3 then s.tunM fun t => { t with cplLoose := t.cplLoose - units }
  else
    let t := s.linkM p fun l => { l with rxLimit := l.rxLimit.modify cls fun v => (v + units) % 65536 }
    if s.carries p cls then t.sendLink p (t.creditWord p cls) else t

/-- A queued frame leaves the device or is discarded: what it held on its way in frees. -/
def State.release (s : State) (q : QFrame) : State :=
  match q.from_ with
  | some (p, u) => s.freeRx p q.f.cls u
  | none => s

/-! ### Egress queues (R184, R203) -/

/-- A frame's size without a tag (R143). -/
def frameSize (f : Frame) : Nat := 20 + f.len

/-- A frame's size on a port's link. -/
def State.sizeOn (s : State) (p : Nat) (f : Frame) : Nat := frameSize f + if (s.link p).key.txOn then 16 else 0

/-- Frames of a tunnel queue of a port, oldest first. -/
def SchSt.frames (c : SchSt) (q : Nat) : List QFrame := c.queue.filter fun e => e.queue == some q

/-- Depth in bytes of a tunnel queue. -/
def SchSt.depth (c : SchSt) (q : Nat) : Nat := ((c.frames q).map fun e => frameSize e.f).sum

/-- What the high-water words of a queue read in high-water mode (R226): the larger of the mark and of depth and delay as they stand. -/
def State.highNow (s : State) (p q : Nat) : Nat × Nat :=
  let d := min ((s.sch p).depth q) 0xFFFFFFFF
  let h := match ((s.sch p).frames q).head? with | some e => min (s.now - e.at_) 0xFFFFFFFF | none => 0
  (max (s.get (F.SCH_HW0_MAXDEPTH p q)) d, max (s.get (F.SCH_HW1_MAXDELAY p q)) h)

/-- The high-water marks of a queue take its depth and delay (R226). -/
def State.highWater (s : State) (p q : Nat) : State :=
  if s.get (F.SCH_STAT_MODE p) = 1 then
    (s.put (F.SCH_HW0_MAXDEPTH p q) (s.highNow p q).1).put (F.SCH_HW1_MAXDELAY p q) (s.highNow p q).2
  else s

/-- A port's share of egress space: a third of 21,720 KiB (R455, R456). -/
def spillShare : Nat := 7413760

/-- The part of its share above which a port's further frames go to DRAM. -/
def State.spillHigh (s : State) : Nat := spillShare * min 100 (s.get F.MEM_SPILLCFG_HIGH) / 100

/-- The part below which spilling stops; LOW at or above HIGH counts as HIGH - 5. -/
def State.spillLow (s : State) : Nat :=
  let h := s.get F.MEM_SPILLCFG_HIGH
  spillShare * (if h ≤ s.get F.MEM_SPILLCFG_LOW then h - 5 else s.get F.MEM_SPILLCFG_LOW) / 100

/-- Bytes of a port's queued frames on the die. -/
def SchSt.onDie (c : SchSt) : Nat := ((c.queue.filter fun e => !e.dram).map fun e => frameSize e.f).sum

/-- Bytes of the spill area in use. -/
def State.spillBytes (s : State) : Nat := ([0, 1, 2].map fun p => (((s.sch p).queue.filter (·.dram)).map fun e => frameSize e.f).sum).sum

/-- Frames come back from DRAM in queue order while they fit (R456). -/
def unspill (high : Nat) : Nat → List QFrame → List QFrame
  | _, [] => []
  | have_, q :: t =>
    if !q.dram then q :: unspill high have_ t
    else if have_ + frameSize q.f ≤ high then { q with dram := false } :: unspill high (have_ + frameSize q.f) t
    else q :: t

/-- Spilling stops once the share on the die has fallen below LOW, and frames come back (R456). -/
def State.spillTurn (s : State) (p : Nat) : State :=
  s.schM p fun c =>
    if c.spilling && decide (c.onDie < s.spillLow) then { c with spilling := false, queue := unspill s.spillHigh c.onDie c.queue }
    else if !c.spilling && (c.queue.any (·.dram)) then { c with queue := unspill s.spillHigh c.onDie c.queue }
    else c

/-- Whether a further frame of a port goes to the spill area. -/
def State.spills (s : State) (p size : Nat) : Bool := (s.sch p).spilling || decide (s.spillHigh < (s.sch p).onDie + size)

/-- Whether a frame of a size for a port would spill and finds the spill area full. -/
def State.spillFull (s : State) (p size : Nat) : Bool :=
  s.spills p size && decide (2097152 * s.get F.MEM_SPILLSIZE_VALUE < s.spillBytes + size)

/-- A frame joins an egress queue of a port; one that would spill and finds no room in the area stays where it came in (R459). -/
def State.enqueue (s : State) (p : Nat) (q : QFrame) : State :=
  let s := s.spillTurn p
  let sp := s.spills p (frameSize q.f)
  let q := { q with dram := sp && !(s.spillFull p (frameSize q.f)) }
  let t := s.schM p fun c => { c with spilling := sp, queue := c.queue ++ [q], activeQ := match q.queue with
    | some k => if c.activeQ.contains k then c.activeQ else c.activeQ ++ [k]
    | none => c.activeQ }
  match q.queue with
  | some k => t.highWater p k
  | none => t

/-- What follows when frames leave a queue from its head: fresh tags (R208), an emptied queue's credit (R206). -/
def SchSt.settle (c : SchSt) (q : Nat) : SchSt :=
  let bal := (assoc c.ccred q).getD 0
  { c with tags := c.tags.filter (fun t => t.q != q),
           ccred := if c.frames q = [] ∧ 0 < bal then putBy (fun e => e.1 == q) (q, (0 : Int)) c.ccred else c.ccred,
           grants := if c.frames q = [] ∨ bal ≤ 0 then c.grants.filter (· != q) else c.grants }

/-- Remove the frames of a port's queues that pass a test; what they held frees. -/
def State.dropQueued (s : State) (p : Nat) (test : QFrame → Bool) : State :=
  let gone := (s.sch p).queue.filter test
  let t := ((gone.filterMap (·.queue)).eraseDups.foldl (fun u q => u.highWater p q) s).schM p fun c =>
    (gone.filterMap (·.queue)).eraseDups.foldl (fun d q => d.settle q) { c with queue := c.queue.filter fun e => !(test e) }
  gone.foldl (fun u q => u.release q) t

/-! ### The spill area is full (R459) -/

/-- The spill-full event, at most once per 1 ms (R459). -/
def State.spillEvent (s : State) (p : Nat) : State :=
  if s.due s.hew.spillAt 1000000 then (s.hewM fun h => { h with spillAt := some s.uptime }).raise 10 2 [p] else s

/-! ### Egress choice (Table 14-5) -/

/-- The port the route table gives toward a device: primary, or the alternate where allowed; `encOnly` admits encrypted
links alone. -/
def State.tableHop (s : State) (d cls : Nat) (priOnly encOnly : Bool) : Option Nat :=
  let ok := fun p => s.usable p cls && (!encOnly || s.enc p)
  if s.bit (F.FAB_RT_PRIV d) && !(s.bit (F.FAB_RT_PRIDOWN d)) && ok (s.get (F.FAB_RT_PRI d)) then some (s.get (F.FAB_RT_PRI d))
  else if priOnly then none
  else if s.bit (F.FAB_RT_ALTV d) && s.get (F.FAB_RT_CMASK d) / 2 ^ cls % 2 == 1 && ok (s.get (F.FAB_RT_ALT d)) then
    some (s.get (F.FAB_RT_ALT d))
  else none

/-- The port a tunnel's frames toward `d` take at this device; `enc` is the tunnel's ENC flag or false to leave it out. -/
def State.tunHop (s : State) (c : TunCtx) (d : Nat) (enc : Bool) : Option Nat :=
  if c.isEnd ∧ c.par.policy = 2 then
    if s.usable c.par.fport c.par.cls && (!enc || s.enc c.par.fport) then some c.par.fport else none
  else s.tableHop d c.par.cls (c.par.policy == 1 || c.par.policy == 2) enc

/-- EGRESS of an end (Table 7-3): the port in use toward the far end. -/
def State.egressOf (s : State) (c : TunCtx) : Option Nat :=
  if c.isEnd && !c.local_ then s.tunHop c c.far c.par.enc else none

/-- Send a frame with TID 0 from this device or through it (R376): a broadcast leaves on every tree port but `skip`. -/
def State.sendFabric (s : State) (f : Frame) (from_ : Option (Nat × Nat)) (skip : Option Nat) : State :=
  let q : QFrame := { queue := none, f := f, at_ := s.now, from_ := from_, fence := none }
  if f.dst = 63 then
    let ps := [0, 1, 2].filter fun p => s.get F.FAB_TREE_PORTS / 2 ^ p % 2 == 1 && some p != skip && s.usable p f.cls
    let t := (ps.foldl (fun t p => t.enqueue p { q with from_ := none }) s).release q
    if ps = [] ∧ skip = none then t.bump F.FAB_NOROUTE else t
  else
    match s.tableHop f.dst f.cls false false with
    | some p => s.enqueue p q
    | none => (s.release q).bump F.FAB_NOROUTE

/-- FRAME_FORWARD of a tunnel frame at a transit device (R151, R376), into its tunnel's queue; `since` is when it was queued here. -/
def State.sendTransit (s : State) (c : TunCtx) (f : Frame) (from_ : Option (Nat × Nat)) (since : Nat) : State :=
  let q : QFrame := { queue := some c.idx, f := f, at_ := since, from_ := from_, fence := none }
  match s.tunHop c f.dst c.par.enc with
  | some p => if f.cls = 5 ∧ s.spillFull p (frameSize f) then (((s.release q).bump (F.ADT_E2EDROP p)).spillEvent p) else s.enqueue p q
  | none =>
    if c.par.enc && (s.tunHop c f.dst false).isSome then (s.release q).bump F.FAB_ENCDROP
    else (s.release q).bump F.FAB_NOROUTE

/-- A tunnel frame leaves this end (R376): without a port it is discarded, its copy being held. -/
def State.sendEnd (s : State) (c : TunCtx) (f : Frame) (fence : Option (Nat × Nat)) : State :=
  match s.egressOf c with
  | some p => s.enqueue p { queue := some c.idx, f := f, at_ := s.now, from_ := none, fence := fence }
  | none => s

/-- Bytes held in copies charged to a port (ADTn_E2EOCC). -/
def State.e2eOcc (s : State) (p : Nat) : Nat :=
  (s.tun.ctxs.map fun c => ((c.copies.filter fun k => k.port == p).map fun k => frameSize k.f).sum).sum

/-- Raise a tunnel event (Table 7-7), here and at the tunnel's grantee (R99). -/
def State.tunEvent (s : State) (par : TunPar) (bit : Nat) (data : List Nat) : State :=
  s.raiseWith (8 * 25 + bit) false par.grant (par.tid :: data)

end Sys2Proof.Machine
end

