-- ==== Sys2Proof/Machine/Slots.lean ====
section
/-! DEFINITION. Slots and dock ports of the PCIe bridge as the bundles and the far summaries show them (R231, R248). -/

namespace Sys2Proof.Machine

/-- The highest speed code a PCIe link trains to (PCX_CTRL.MAXSPEED): 0 counts as 1, above 5 as 5. -/
def State.pcieMax (s : State) : Nat := max 1 (min 5 (s.get F.PCX_CTRL_MAXSPEED))

/-- Change the bridge's internal state. -/
def State.pcxM (s : State) (g : PcxSt → PcxSt) : State := { s with pcx := g s.pcx }

/-- Change a slot. -/
def State.slotM (s : State) (k : Nat) (g : SlotSt → SlotSt) : State := s.pcxM fun x => { x with slots := x.slots.modify k g }

/-- A slot. -/
def State.slot (s : State) (k : Nat) : SlotSt := s.pcx.slots.getD k SlotSt.reset

/-- A dock port. -/
def State.dport (s : State) (k : Nat) : DockPort := s.pcx.dports.getD k DockPort.reset

/-- Change a dock port. -/
def State.dportM (s : State) (k : Nat) (g : DockPort → DockPort) : State := s.pcxM fun x => { x with dports := x.dports.modify k g }

/-- The leader's end A at slot `k` of this host bridge (R231). -/
def State.slotLeader (s : State) (k : Nat) : Option TunCtx :=
  s.tun.ctxs.find? fun c => c.par.typ == 0 && c.pos == 1 && c.ep == 4096 + k

/-- The leader's end B at a dock port of this device. -/
def State.portLeader (s : State) (k : Nat) : Option TunCtx :=
  s.tun.ctxs.find? fun c => c.par.typ == 0 && c.pos == 2 && c.ep == 4096 + k

/-- The member of a type of a bundle, at the same end as its leader. -/
def State.member (s : State) (l : TunCtx) (typ : Nat) : Option TunCtx :=
  s.tun.ctxs.find? fun c => c.par.typ == typ && c.leader == l.par.tid && c.pos == l.pos

/-- The newest summary of a bundle's SIDEBAND tunnel. -/
def State.summary (s : State) (l : TunCtx) : Option (List (BitVec 8)) :=
  match s.member l 3 with
  | some c => (s.pcx.sums.find? fun e => e.tid == c.par.tid).map (·.bytes)
  | none => none

/-! ### Configuration space: what it stores (R229 to R231) -/

/-- What a field of configuration space that no other field holds reads before the host writes it: Device Control's defaults, AER severities (of a
virtual port's R245 errors fixed at non-fatal, R246), the correctable mask. -/
def cfgReset (fn o : Nat) : Nat :=
  match o with
  | 0x48 => 0x2810
  | 0x10C => if 5 ≤ fn then 0x00422010 else 0x00462030
  | 0x114 => 0x2000
  | _ => 0

/-- The stored word of a function's configuration space. -/
def State.cfgStored (s : State) (fn o : Nat) : Nat := (assoc s.pcx.cfg (4096 * fn + o)).getD (cfgReset fn o)

/-- Store a word of a function's configuration space. -/
def State.cfgPut (s : State) (fn o v : Nat) : State :=
  s.pcxM fun x => { x with cfg := putBy (fun e => e.1 == 4096 * fn + o) (4096 * fn + o, v) x.cfg }

/-- Max_Payload_Size of a function in bytes: at most 512 (Table 9-2). -/
def State.maxPayload (s : State) (fn : Nat) : Nat := 128 * 2 ^ min 2 (s.cfgStored fn 0x48 / 32 % 8)

/-- The one MSI of a virtual port, for hot-plug and errors, where the host has enabled it (R230). -/
def State.slotMsi (s : State) (k : Nat) : State :=
  if s.cfgStored (5 + k) 0x90 / 65536 % 2 = 1 then
    s.emit (.pcie (.slotIrq k (s.cfgStored (5 + k) 0x94 + 2 ^ 32 * s.cfgStored (5 + k) 0x98) (s.cfgStored (5 + k) 0x9C)))
  else s

/-- An error of a virtual port (R230, R246): its bit of the AER status and the Header Log; where the host has not masked it and has enabled error
reporting, the port's interrupt and, where `send` allows, the message of its severity upstream. -/
def State.portError (s : State) (k bit : Nat) (hdr : List (BitVec 8)) (send : Bool) : State :=
  let x := s.slot k
  let t := s.slotM k fun x => { x with aer := if x.aer / 2 ^ bit % 2 = 1 then x.aer else x.aer + 2 ^ bit, hdrLog := hdr }
  if s.cfgStored (5 + k) 0x108 / 2 ^ bit % 2 = 1 ∨ !x.errEn then t
  else
    let t := t.slotMsi k
    if !send then t
    else if s.cfgStored (5 + k) 0x10C / 2 ^ bit % 2 = 1 then t.emit (.pcie (.errMsg (5 + k) 2)) else t.emit (.pcie (.errNonfatal k))

/-- The hot-plug interrupt of a slot, as the host enables it in Slot Control and MSI (R230, R231). -/
def State.slotIrq (s : State) (k : Nat) : State :=
  let x := s.slot k
  let on := fun (i : Nat) => x.sltCtl / 2 ^ i % 2 == 1
  if on 5 && ((on 0 && x.attention) || (on 3 && x.pdc) || (on 12 && x.dllsc)) then s.slotMsi k else s

/-- The presence and link bits a slot shows (R231). -/
def State.slotShows (s : State) (k : Nat) : Bool × Bool :=
  match s.slotLeader k with
  | none => (false, false)
  | some l =>
    match s.summary l with
    | none => (false, false)
    | some b =>
      let d := l.par.epB % 4
      let prs := byteAt b 2 / 2 ^ d % 2 == 1 && !(s.slot k).removed
      (prs, prs && byteAt b 2 / 2 ^ (4 + d) % 2 == 1 && l.state == 2 && l.paused == 0)

/-- A hot-plug move's wait at a slot here is over: the owner's host bridge is told, or is this device (R251). -/
def State.answerAsk (s : State) (a : SlotAsk) : State :=
  let t := s.pcxM fun x => { x with asks := x.asks.erase a }
  if a.fid = s.fid then
    t.pcxM fun x => { x with hp := updBy (fun h => h.req == a.id && (h.step == 1 || h.step == 6)) (fun h => { h with code := some 0 }) x.hp }
  else t.emit (.msg (.fid a.fid) (.portRsp a.id 0))

/-- Answer the waits at a slot for its link, or for its power-off. -/
def State.answerAsks (s : State) (k : Nat) (link : Bool) : State :=
  (s.pcx.asks.filter fun a => a.slot == k && a.link == link).foldl (fun t a => t.answerAsk a) s

/-- A control of a slot is told to its dock port, no host's write waiting for the answer. -/
def State.tellDock (s : State) (l : TunCtx) (field v : Nat) : State :=
  (s.ctlM fun c => { c with nextReq := c.nextReq + 1 }).emit (.msg (.fid l.par.bFid) (.portCtl s.ctl.nextReq (l.par.epB % 4096) field v))

/-- What a slot's fields of R242 hold that differs from their values after reset: dock control and value. -/
def State.slotHolds (s : State) (k : Nat) : List (Nat × Nat) :=
  let x := s.slot k
  [(4, 1), (1, 1), (0, 1), (3, x.speed)].filter fun e => match e.1 with
    | 4 => s.bit (F.PCX_SLOT_PCCOFF k)
    | 1 => x.linkDis
    | 0 => x.sbr
    | _ => x.speed != 0

/-- A dock port that a slot is newly bound to, its bundle open, learns what the slot's fields hold (R234, R242). -/
def State.tellSlot (s : State) (k : Nat) : State :=
  match s.slotLeader k with
  | none => if (s.slot k).told.isSome then s.slotM k fun x => { x with told := none } else s
  | some l =>
    let who := (l.par.tid, l.par.bFid, l.par.epB)
    if l.state ≠ 2 ∨ (s.slot k).told = some who then s
    else (s.slotHolds k).foldl (fun t e => t.tellDock l e.1 e.2) (s.slotM k fun x => { x with told := some who })

/-- A slot's fields of R242 return to their values after reset: the dock port it is bound to follows (R234). -/
def State.untellSlot (s : State) (k : Nat) : State :=
  match s.slotLeader k with
  | none => s
  | some l => (s.slotHolds k).foldl (fun t e => t.tellDock l e.1 (if e.1 = 3 then 5 else 0)) s

/-- One slot's register and change bits follow its bundle and summary, with the slot event (Table 9-6). -/
def State.refreshSlot (s : State) (k : Nat) : State :=
  let (prs, dll) := s.slotShows k
  let old := (s.bit (F.PCX_SLOT_PRSNT k), s.bit (F.PCX_SLOT_DLLA k))
  let l := s.slotLeader k
  let t := ((((s.putBit (F.PCX_SLOT_BOUND k) l.isSome).put (F.PCX_SLOT_DOCKFID k) (l.elim 0 (·.par.bFid))).put
    (F.PCX_SLOT_DOCKPORT k) (l.elim 0 fun c => c.par.epB % 4)).put (F.PCX_SLOT_TID k) (l.elim 0 (·.par.tid)))
  let t := t.tellSlot k
  if old = (prs, dll) then t
  else
    let t := (t.putBit (F.PCX_SLOT_PRSNT k) prs).putBit (F.PCX_SLOT_DLLA k) dll
    let t := (t.slotM k fun x => { x with pdc := x.pdc || old.1 != prs, dllsc := x.dllsc || old.2 != dll }).slotIrq k
    let t := t.raise 43 2 [k, if prs then 1 else 0, if dll then 1 else 0, t.get (F.PCX_SLOT_DOCKFID k)]
    if dll then t.answerAsks k true else t

/-! ### Dock ports (R234, R242, R252) -/

/-- Whether a dock port's presence comes from a GPIO, and which (PCX_PORTCFG). -/
def State.presence (s : State) (k : Nat) : Option Nat :=
  if s.get ⟨A.PCX_PORTCFG, 8 * k + 3, 1⟩ = 1 then some (s.get ⟨A.PCX_PORTCFG, 8 * k, 3⟩) else none

/-- A dock port's link drops: its bits, the event, and the requests of its device. -/
def State.dockDown (s : State) (k : Nat) : State :=
  if s.bit (F.PCX_PORTSTAT_LINKUP k) then
    let t := ((s.put (F.PCX_PORTSTAT_LINKUP k) 0).put (F.PCX_PORTSTAT_SPEED k) 0).put (F.PCX_PORTSTAT_WIDTH k) 0
    let t := if (t.presence k).isNone then t.put (F.PCX_PORTSTAT_PRSNT k) 0 else t
    (t.pcxM fun x => { x with outs := x.outs.filter fun o => o.unit != k }).raise 43 1 [k, 0, 0, 0]
  else s

/-- Whether a dock port is disabled: by Link Disable, by power off, by hot-plug. -/
def DockPort.off (x : DockPort) : Bool := x.linkDis || x.powerOff || x.hpOff

/-- A dock port's slot power follows its bound host's Power Controller Control, where a GPIO is assigned (R234). -/
def State.slotPower (s : State) (k : Nat) : State :=
  if s.get ⟨A.PCX_PORTCFG, 8 * k + 7, 1⟩ = 1 then
    s.emit (.pin (.gpio (s.get ⟨A.PCX_PORTCFG, 8 * k + 4, 3⟩)) ((s.dport k).host.isSome && !(s.dport k).powerOff))
  else s

/-- The link enable and slot power of a dock port follow its controls (R242). -/
def State.dockEnable (s : State) (k : Nat) (was : Bool) : State :=
  let off := (s.dport k).off
  let t := (s.putBit (F.PCX_PORTSTAT_DISABLED k) off).slotPower k
  if off = was then t
  else if off then (t.emit (.pcie (.enable k false))).dockDown k
  else t.emit (.pcie (.enable k true))

/-- A dock port follows the bundle that ends at it; what its last host had set goes with the binding (R234, R251). -/
def State.refreshPort (s : State) (k : Nat) : State :=
  let l := s.portLeader k
  let t := (s.putBit (F.PCX_PORTSTAT_BOUND k) l.isSome).put (F.PCX_PORTSTAT_TID k) (l.elim 0 (·.par.tid))
  let host := l.map fun c => (c.par.aFid, c.par.epA % 4096)
  let x := t.dport k
  if x.host = host then t
  else (t.dportM k fun x => { x with host := host, linkDis := false, powerOff := false, sbr := false, speed := 5 }).dockEnable k x.off

/-- Slots (host) and dock ports (dock) follow the bundles. -/
def State.pcxRefresh (s : State) : State :=
  let t := if s.isHost then (List.range 16).foldl (fun u k => u.refreshSlot k) s else s
  if s.role = 1 then [0, 1, 2, 3].foldl (fun u k => u.refreshPort k) t else t

end Sys2Proof.Machine
end

