-- ==== Sys2Proof/Machine/Admit.lean ====
section
/-! DEFINITION. Where frames enter tunnels: ingress meters (R212 to R215), the end-to-end pool and copies (R163, R164),
resends (R168) and pauses (R196). -/

namespace Sys2Proof.Machine

/-! ### Ingress meters -/

/-- The settings of a meter in use: enabled, CIR, CBS, PIR, PBS in Mbit/s and bits (R212). -/
structure MeterCfg where
  en : Bool
  cir : Nat
  cbs : Nat
  pir : Nat
  pbs : Nat
  aware : Bool
deriving DecidableEq, Repr

/-- Settings as the words of a meter give them: a burst below 147 units counts as 147, a PIR below CIR as CIR. -/
def meterOf (w0 w1 : Word) : MeterCfg :=
  { en := bitsOf w0 31 1 == 1, cir := bitsOf w0 0 17, cbs := 512 * max 147 (bitsOf w0 17 14),
    pir := max (bitsOf w0 0 17) (bitsOf w1 0 17), pbs := 512 * max 147 (bitsOf w1 17 14), aware := bitsOf w1 31 1 == 1 }

/-- The active settings of meter `m`. -/
def State.meterCfg (s : State) (m : Nat) : MeterCfg := meterOf (s.rd (A.SCH_META0 m)) (s.rd (A.SCH_META1 m))

/-- The buckets of meter `m`; a meter without an entry has both full (R220). -/
def State.meter (s : State) (m : Nat) : MeterSt :=
  match s.meters.find? fun x => x.m == m with
  | some x => x
  | none => { m := m, c := (s.meterCfg m).cbs, p := (s.meterCfg m).pbs }

/-- Replace a meter's buckets. -/
def State.setMeter (s : State) (x : MeterSt) : State := { s with meters := putBy (fun y => y.m == x.m) x s.meters }

/-- The colour a meter gives a frame of `bits` bits: 0 green, 1 yellow, 2 red (RFC 2698, R214). -/
def State.colour (s : State) (m bits : Nat) (yellow : Bool) : Nat :=
  let k := s.meterCfg m
  let b := s.meter m
  if !k.en then 0
  else if b.p < (bits : Int) then 2
  else if (k.aware && yellow) || b.c < (bits : Int) then 1
  else 0

/-- Take the tokens of a frame that passes with a colour. -/
def State.payMeter (s : State) (m bits col : Nat) : State :=
  if !(s.meterCfg m).en then s
  else
    match col with
    | 0 => s.setMeter { s.meter m with c := (s.meter m).c - bits, p := (s.meter m).p - bits }
    | 1 => s.setMeter { s.meter m with p := (s.meter m).p - bits }
    | _ => s

/-- The meter of a context: its own index where METER reads 0xFFFF (Table 7-5). -/
def TunCtx.meter (c : TunCtx) : Nat := if c.par.meter = 0xFFFF then c.idx else c.par.meter

/-! ### Statistics -/

/-- Add to a statistic that saturates at 32 bits (R197). -/
def satAdd (a b : Nat) : Nat := min (a + b) 0xFFFFFFFF

/-- Change a context's statistics. -/
def State.statM (s : State) (idx : Nat) (g : TunStat → TunStat) : State := s.ctxM idx fun c => { c with stat := g c.stat }

/-- Count a frame in DROP. -/
def State.statDrop (s : State) (idx : Nat) : State := s.statM idx fun t => { t with drop := satAdd t.drop 1 }

/-! ### Admission (R17 steps 3 to 7) -/

/-- What an ingress test finds: pass with a colour, hold, or drop: red, or for want of room, charged to a port (3: none). -/
inductive Adm where
  | pass (col : Nat)
  | hold
  | dropRed
  | dropPool (p : Nat)
deriving DecidableEq, Repr

/-- Whether the pool a frame would be charged to is full, or the tunnel holds 32,767 frames (R164). -/
def State.poolFull (s : State) (c : TunCtx) (p len : Nat) : Bool :=
  decide (262144 < s.e2eOcc p + 20 + len) || decide (32767 ≤ c.copies.length)

/-- Whether there is room for a frame that the meter has passed (R164, R215, R459). -/
def State.roomTest (s : State) (c : TunCtx) (len col : Nat) : Adm :=
  let lossy := c.par.cls == 5
  if c.local_ then .pass col
  else
    match s.egressOf c with
    | none => if lossy then .dropPool 3 else .hold
    | some p =>
      if s.poolFull c p len ∨ s.spillFull p (20 + len) then (if lossy then .dropPool p else .hold)
      else if lossy ∧ col = 1 ∧ s.get (F.SCH_CTRL_YELPOOL p) ≠ 0 ∧ 1024 * s.get (F.SCH_CTRL_YELPOOL p) ≤ s.e2eOcc p then .dropPool p
      else .pass col

/-- Change the frame that stands first at an end. -/
def State.firstM (s : State) (idx : Nat) (g : Offer → Offer) : State := s.ctxM idx fun c => { c with first := g c.first }

/-- Count a frame's colour once, at its first test (R213). -/
def State.countColour (s : State) (idx col : Nat) : State :=
  match col with
  | 1 => s.statM idx fun t => { t with yellow := satAdd t.yellow 1 }
  | 2 => s.statM idx fun t => { t with red := satAdd t.red 1 }
  | _ => s

/-- The meter's test of the frame that stands first at an end (R212, R213): its colour is counted once; green and yellow take tokens, once
they pass. None where the frame is held. -/
def State.meterTest (s : State) (c : TunCtx) (len : Nat) (yellow : Bool) : State × Option Nat :=
  match c.first.paid with
  | some col => (s, some col)
  | none =>
    let bits := 8 * (20 + len)
    let col := if c.par.men then s.colour c.meter bits yellow else 0
    let held := c.par.cls ≠ 5 ∧ (col = 2 ∨ (c.par.cls = 4 ∧ col = 1))
    let t := if c.first.counted then s else s.countColour c.idx col
    if held then
      let t := if !c.first.counted ∧ c.par.cls ≠ 4 then t.bump F.SCH_METHOLD else t
      (t.firstM c.idx fun o => { o with counted := true, red := if o.red.isSome then o.red else some s.uptime }, none)
    else
      let t := if c.par.men then t.payMeter c.meter bits col else t
      (t.firstM c.idx fun o => { o with counted := true, paid := some col, red := none }, some col)

/-- The test of the frame that stands first at an end, offered by a ring or not (R164, R185, R213, R215). -/
def State.admTest (s : State) (c : TunCtx) (ring : Option Nat) (len : Nat) (yellow : Bool) : State × Adm :=
  let t := s.firstM c.idx fun o => { o with ring := ring, pend := true }
  if c.state ≠ 2 ∨ c.paused ≠ 0 then (t, if c.par.cls = 5 then .dropPool 3 else .hold)
  else
    match t.meterTest c len yellow with
    | (u, none) => (u, .hold)
    | (u, some col) => (u, if c.par.cls = 5 ∧ col = 2 then .dropRed else u.roomTest c len col)

/-- The pool-full event (R164) and the spill-full event (R459), each at most once per 1 ms. -/
def State.poolEvent (s : State) (c : TunCtx) (len : Nat) : State :=
  match s.egressOf c with
  | some p =>
    if s.poolFull c p len && s.due (s.link p).poolAt 1000000 then
      (s.linkM p fun l => { l with poolAt := some s.uptime }).raise (13 + 4 * p) 4 [s.e2eOcc p / 1024 % 256, s.e2eOcc p / 262144]
    else if s.spillFull p (20 + len) then s.spillEvent p
    else s
  | none => s

/-- The fence a non-posted or completion frame takes at admission (R237): the bundle's posted TXESEQ - 1. -/
def State.fenceOf (s : State) (c : TunCtx) (kind : Nat) (bytes : List (BitVec 8)) : Option (Nat × Nat) :=
  if kind = 0x09 ∨ (kind = 0x0A ∧ !(tlpRelaxed (tlpHeader bytes))) then
    (s.tun.ctxs.find? fun l => l.par.tid == c.leader && l.pos == c.pos).map fun l => (c.leader, (l.tx + 65535) % 65536)
  else none

/-- Admit a frame of a colour (R17 steps 4 to 7): its ESEQ, its copy, its queue. A tunnel with both ends here passes the Drift. -/
def State.admits (s : State) (c : TunCtx) (kind : Nat) (bytes : List (BitVec 8)) (last : Bool) (col : Nat) : State :=
  let f : Frame := {
    dst := c.far, src := s.fid, tid := c.par.tid, cls := c.par.cls, kind := kind, len := bytes.length,
    hseq := 0, eseq := c.tx, ttl := 63, flags := (if col = 1 ∧ c.par.cls = 5 then 4 else 0) + (if last ∧ (kind = 0x0A ∨ kind = 0x0D) then 8 else 0),
    rsvd := 0, payload := bytes }
  let fence := s.fenceOf c kind bytes
  let t := s.ctxM c.idx fun d => { d with
    tx := (d.tx + 1) % 65536,
    copies := d.copies ++ [{ f := f, port := (s.egressOf c).getD 3, fence := fence }],
    first := Offer.idle,
    stat := { d.stat with admits := satAdd d.stat.admits 1, admitBytes := (d.stat.admitBytes + bytes.length) % 2 ^ 64 } }
  if c.local_ then t.tunM fun u => { u with loop := u.loop ++ [{ queue := some c.idx, f := f, at_ := s.now, from_ := none, fence := fence }] }
  else t.sendEnd c f fence

/-- A foreign frame longer than its class limit (R181). -/
def State.tooLong (s : State) (c : TunCtx) (len : Nat) : State :=
  let t := (s.bump F.TUN_TOOLONG).statDrop c.idx
  if s.due s.tun.longAt 1000000 then
    (t.tunM fun u => { u with longAt := some s.uptime }).tunEvent c.par 6 [len]
  else t

/-- A foreign frame that yields no open tunnel, counted by its interface (Table 1-3 step 2): a MAC counts it in
ETHn_RXDROP; the other interfaces have no such counter. -/
def State.noTunnel (s : State) (ep : Nat) : State :=
  if ep / 4096 = 4 then s.bump (F.ETH_RXDROP (ep % 4096)) else s

/-- A frame of an end is dropped at its meter or for want of room (R164, R213, R215). -/
def State.dropFirst (s : State) (c : TunCtx) (a : Adm) : State :=
  let t := (s.firstM c.idx fun _ => Offer.idle).statDrop c.idx
  match a with
  | .dropPool p => if p < 3 then t.bump (F.ADT_E2EDROP p) else t
  | _ => t

/-- Whether another frame stands before one that a ring, or its interface itself, offers to an end. -/
def TunCtx.behind (c : TunCtx) (ring : Option Nat) : Bool :=
  if c.first.pend && c.first.ring.isSome then ring.isNone || c.first.ring != ring else decide (c.held ≠ [])

/-- A frame that stands first at an end meets its tunnel: it is admitted or dropped, or it waits (the answer is then true). -/
def State.meet (s : State) (c : TunCtx) (ring : Option Nat) (h : HeldFrame) : State × Bool :=
  match s.admTest c ring h.bytes.length h.yellow with
  | (t, .pass col) => (t.admits c h.kind h.bytes h.last col, false)
  | (t, .hold) => (t.poolEvent c h.bytes.length, true)
  | (t, .dropRed) => (t.dropFirst c .dropRed, false)
  | (t, a) => ((t.poolEvent c h.bytes.length).dropFirst c a, false)

/-- A frame from an interface, or from one of its rings, meets its tunnel (R17). Input colour is ETHERNET's alone (R214). -/
def State.ingressOf (s : State) (ring : Option Nat) (ep typ kind : Nat) (bytes : List (BitVec 8)) (last yellow : Bool) : State :=
  match s.endAt ep typ with
  | none => s.noTunnel ep
  | some c =>
    if c.state = 4 then s.noTunnel ep
    else if lenMax c.par.cls < bytes.length then s.tooLong c bytes.length
    else
      let h : HeldFrame := { bytes := bytes, kind := kind, last := last, yellow := yellow && typ == 5 }
      let keep := fun (t : State) => t.ctxM c.idx fun d => { d with held := d.held ++ [h] }
      if c.behind ring then keep s
      else
        match s.meet c ring h with
        | (t, false) => t
        | (t, true) => keep (t.firstM c.idx fun o => { o with ring := none })

/-- FOREIGN_FRAME_INGRESS (R17): a frame from an interface meets its tunnel. -/
def State.ingress (s : State) (ep typ kind : Nat) (bytes : List (BitVec 8)) (last yellow : Bool) : State :=
  s.ingressOf none ep typ kind bytes last yellow

/-- How a frame that a ring offers stands at its tunnel: 0 passes or is dropped there, 1 must wait, 2 no open tunnel, 3 longer than the
class limit. What the test counts and takes is in the state (R213). -/
def State.offerRing (s : State) (ring ep typ len : Nat) (yellow : Bool) : State × Nat :=
  match s.endAt ep typ with
  | none => (s, 2)
  | some c =>
    if c.state = 4 then (s, 2)
    else if lenMax c.par.cls < len then (s, 3)
    else if c.behind (some ring) then (s, 1)
    else
      match s.admTest c (some ring) len (yellow && typ == 5) with
      | (t, .hold) => (t.poolEvent c len, 1)
      | (t, _) => (t, 0)

/-- Admit the frames an end holds back, in order, as far as they pass now. -/
def State.flushHeld : Nat → Nat → State → State
  | 0, _, s => s
  | n + 1, idx, s =>
    match s.ctx idx with
    | none => s
    | some c =>
      match c.held with
      | [] => s
      | h :: rest =>
        if c.state = 4 then
          (rest.foldl (fun t _ => t.noTunnel c.ep) (s.noTunnel c.ep)).ctxM idx fun d => { d with held := [], first := Offer.idle }
        else if c.first.pend && c.first.ring.isSome then s
        else
          match s.meet c none h with
          | (t, true) => t
          | (t, false) => flushHeld n idx (t.ctxM idx fun d => { d with held := rest })

/-- Admit what any end holds back, as far as it passes now. -/
def State.flushAllHeld (s : State) : State :=
  s.tun.ctxs.foldl (fun t c => if c.held = [] then t else t.flushHeld c.held.length c.idx) s

/-! ### Resends and pauses -/

/-- E2E_RESEND (R168): every outstanding frame of an end, in ESEQ order, with RTX set, by its current route and ahead of
its new frames. What started the last resend no longer counts (R167). -/
def State.resend (s : State) (idx : Nat) : State :=
  match s.ctx idx with
  | none => s
  | some c =>
    if !c.isEnd || c.local_ || c.copies.isEmpty then s
    else
      let t := [0, 1, 2].foldl (fun u p => u.dropQueued p fun e => e.queue == some idx && e.from_.isNone) s
      let t := (t.statM idx fun k => { k with resend := satAdd k.resend c.copies.length }).ctxM idx fun d => { d with lastResend := none }
      c.copies.foldl (fun u k => u.sendEnd c { k.f with flags := setFlag k.f.flags 4 true } k.fence) t

/-- The cause for which an end has no way to its far end: 0 none, 1 no route, 2 no encrypted route (Table 7-7). -/
def State.pauseCause (s : State) (c : TunCtx) : Nat :=
  if c.local_ then 0
  else if (s.egressOf c).isSome then 0
  else if c.par.enc && (s.tunHop c c.far false).isSome then 2
  else 1

/-- Whether a pause ends when a route returns (R196): for want of a route, or (4) for a far device that left the graph
and is back. A pause for a reset (3) ends with the reinstall. -/
def State.mayResume (s : State) (c : TunCtx) : Bool :=
  c.paused == 1 || c.paused == 2 || (c.paused == 4 && s.fab.live.nodes.contains c.far)

/-- TUNNEL_PAUSE (R196) of one end: it pauses where it has no way out, and resumes when one returns. -/
def State.pauseOne (s : State) (idx : Nat) : State :=
  match s.ctx idx with
  | none => s
  | some c =>
    if !c.isEnd || (c.state != 2 && c.state != 3) then s
    else
      let k := s.pauseCause c
      if c.paused = 0 ∧ k ≠ 0 then (s.ctxM idx fun d => { d with paused := k }).tunEvent c.par 3 [k]
      else if s.mayResume c ∧ k = 0 then
        (((s.ctxM idx fun d => { d with paused := 0 }).resend idx).tunEvent c.par 4 []).flushHeld c.held.length idx
      else s

/-- TUNNEL_PAUSE over every end; the slots follow (R231). -/
def State.refreshPause (s : State) : State := (s.tun.ctxs.foldl (fun t c => t.pauseOne c.idx) s).pcxRefresh

/-- Pause the ends whose far end lies on a device that has reset (`by_` 3) or left the graph (4) (R196, cause 3). -/
def State.pauseFar (s : State) (fid by_ : Nat) : State :=
  (s.tun.ctxs.foldl (fun t c =>
    if !c.isEnd || c.far != fid || c.local_ || (c.state != 2 && c.state != 3) then t
    else if c.paused = 0 then (t.ctxM c.idx fun d => { d with paused := by_ }).tunEvent c.par 3 [3]
    else if by_ = 3 ∧ c.paused = 4 then t.ctxM c.idx fun d => { d with paused := 3 }
    else if by_ = 3 ∧ c.paused ≠ 3 then (t.ctxM c.idx fun d => { d with paused := 3 }).tunEvent c.par 3 [3]
    else t) s).pcxRefresh

end Sys2Proof.Machine
end

