-- ==== Sys2Proof/Machine/SchedCore.lean ====
section
/-! DEFINITION. A port's scheduler: slot times, shapers, fair-queueing tags, eligibility, and the swap of a commit
(R202 to R211, R216, R219, R220). -/

namespace Sys2Proof.Machine

/-! ### Slot time (R204, R207) -/

/-- T_slot in ps: 8,400 bits at the payload of a rate code and a number of lanes, rounded down. -/
def slotPs (rate lanes : Nat) : Nat :=
  (match rate with | 2 => 168000 | 1 => 336000 | _ => 8400 * 17 * 1000 * 10000 / (103125 * 16)) / max 1 lanes

/-- Lanes in a mask of two. -/
def laneCount (mask : Nat) : Nat := mask % 2 + mask / 2 % 2

/-- The port's payload rate may have changed (R207): T_slot follows, with its event. -/
def State.setSlot (s : State) (p : Nat) : State :=
  if laneCount (s.get (F.ADT_STAT_TXLANES p)) = 0 then s
  else
    let old := s.get (F.SCH_SLOT_SLOTPS p)
    let new := if s.get (F.ADT_STAT_RATE p) = 0 ∧ laneCount (s.get (F.ADT_STAT_TXLANES p)) = 2 then 432727
      else slotPs (s.get (F.ADT_STAT_RATE p)) (laneCount (s.get (F.ADT_STAT_TXLANES p)))
    if old = new then s
    else (s.put (F.SCH_SLOT_SLOTPS p) new).raise (29 + 2 * p) 4 [old / 1000 % 256, old / 256000, new / 1000 % 256, new / 256000]

/-! ### Shapers (R210, R211) -/

/-- RATE as it acts: at most 100,000. -/
def shaperRate (w : Nat) : Nat := min 100000 w

/-- The burst of a DEPTH in bits: a DEPTH below 16 counts as 16. -/
def shaperDepth (d : Nat) : Int := (512 * max 16 d : Nat)

/-- Tokens after one microsecond (R210). -/
def shaperGain (rate depth : Nat) (tok : Int) : Int := min (tok + shaperRate rate) (shaperDepth depth)

/-- RATE of a class shaper as it acts: in Thrift no more than its cap (R438). -/
def State.classRate (s : State) (p cls : Nat) : Nat :=
  let r := s.get (F.SCH_CSHA0_RATE p cls)
  let cap := s.get (F.PWR_THRIFTC_RATE cls)
  if !s.boot.thrift ∨ cap = 0 then r else if r = 0 then cap else min (shaperRate r) cap

/-- Whether the class shaper lets a class send. -/
def State.classOk (s : State) (p cls : Nat) : Bool :=
  s.classRate p cls == 0 || decide (0 < (assoc (s.sch p).clTok cls).getD 0)

/-- The shaper of a queue: the context's SHAPER, or the index itself. -/
def State.shaperIx (s : State) (q : Nat) : Nat :=
  match s.ctx q with
  | some c => if c.par.shaper = 0xFFFF then q else c.par.shaper
  | none => q

/-- Whether the per-queue shaper lets a queue send. -/
def State.queueOk (s : State) (p q : Nat) : Bool :=
  s.get (F.SCH_SHPA0_RATE p (s.shaperIx q)) == 0 || decide (0 < (assoc (s.sch p).shTok (s.shaperIx q)).getD 0)

/-- Charge the class shaper for a frame of `size` bytes. -/
def State.chargeClass (s : State) (p cls size : Nat) : State :=
  if s.classRate p cls = 0 then s
  else s.schM p fun c => { c with clTok := putBy (fun e => e.1 == cls) (cls, (assoc c.clTok cls).getD 0 - (8 * size : Nat)) c.clTok }

/-- Charge the per-queue shaper. -/
def State.chargeQueue (s : State) (p q size : Nat) : State :=
  let k := s.shaperIx q
  if s.get (F.SCH_SHPA0_RATE p k) = 0 then s
  else s.schM p fun c => { c with shTok := putBy (fun e => e.1 == k) (k, (assoc c.shTok k).getD 0 - (8 * size : Nat)) c.shTok }

/-! ### Completion reservations (R161, R162) -/

/-- The completion pool: the CRDCFG3 units of the three ports, each as of its last LIT (R159). -/
def State.poolUnits (s : State) : Nat := ([0, 1, 2].map fun p => (s.link p).pool).sum

/-- Units of the pool that are free. -/
def State.poolFree (s : State) : Nat := s.poolUnits - ((s.tun.cplPool.map (·.units)).sum + s.tun.cplLoose)

/-- The leader's TID for a frame's tunnel. -/
def State.leadOf (s : State) (tid : Nat) : Nat := match s.ctxOf tid with | some c => c.leader | none => tid

/-- The reservation a class-2 frame needs. -/
def State.needRes (s : State) (f : Frame) : CplRes :=
  let h := tlpHeader f.payload
  { lead := s.leadOf f.tid, req := (tlpReqKey h).1, tag := (tlpReqKey h).2, units := 2 * ((tlpB h + 63) / 64 + 1) }

/-- Whether two reservations are for one request. -/
def CplRes.same (a b : CplRes) : Bool := a.lead == b.lead && a.req == b.req && a.tag == b.tag

/-- Whether a class-2 frame's reservation is made or can be made. -/
def State.resOk (s : State) (f : Frame) : Bool :=
  s.tun.cplPool.any (fun r => r.same (s.needRes f)) || decide ((s.needRes f).units ≤ s.poolFree)

/-- Make the reservation of a class-2 frame. -/
def State.reserve (s : State) (f : Frame) : State :=
  if s.tun.cplPool.any (fun r => r.same (s.needRes f)) then s
  else s.tunM fun t => { t with cplPool := t.cplPool ++ [s.needRes f] }

/-! ### Eligibility and tags (R202, R208, R209) -/

/-- Whether a fence is met (R237). -/
def State.fenceOk (s : State) (q : QFrame) : Bool :=
  match q.fence with
  | some (lead, p) =>
    match s.tun.ctxs.find? fun c => c.par.tid == lead && c.isEnd with
    | some l => decide ((l.ack + 65536 - p) % 65536 < 32768)
    | none => true
  | none => true

/-- Whether a head frame may be offered, shapers of its own queue apart (R202). -/
def State.headOk (s : State) (p : Nat) (q : QFrame) : Bool :=
  s.carries p q.f.cls && decide (unitsOf (s.sizeOn p q.f) ≤ s.txAvail p q.f.cls) && s.classOk p q.f.cls &&
    (q.f.cls != 2 || s.resOk q.f) && s.fenceOk q

/-- The head frame of a tunnel queue. -/
def State.head (s : State) (p q : Nat) : Option QFrame := ((s.sch p).frames q).head?

/-- The head frame of a fabric queue. -/
def State.fabHead (s : State) (p cls : Nat) : Option QFrame :=
  (s.sch p).queue.find? fun e => e.queue.isNone && e.f.cls == cls

/-- Whether a queue is eligible for fair queueing. -/
def State.wfqOk (s : State) (p q : Nat) : Bool :=
  s.get (F.SCH_WGTA_WEIGHT p q) != 0 && s.queueOk p q && (match s.head p q with | some h => s.headOk p h | none => false)

/-- Tag `a` is before tag `b` (R208). -/
def tagBefore (a b : Nat) : Bool := decide (2 ^ 31 ≤ (a + 2 ^ 32 - b % 2 ^ 32) % 2 ^ 32)

/-- The later of two tags. -/
def tagMax (a b : Nat) : Nat := if tagBefore a b then b else a

/-- The queues that hold frames. -/
def SchSt.queues (c : SchSt) : List Nat := (c.queue.filterMap (·.queue)).eraseDups

/-- The tag of a queue's head: afresh where the head is new, raised to V where the queue has become eligible (R208). -/
def State.tagOf (s : State) (p q : Nat) : Option Tag :=
  match s.head p q with
  | none => none
  | some h =>
    let w := s.get (F.SCH_WGTA_WEIGHT p q)
    if w = 0 then none
    else
      let ok := s.wfqOk p q
      let v := (s.sch p).vtime
      let st := match (s.sch p).tags.find? fun t => t.q == q with
        | some t => if ok && !t.elig then tagMax v t.start else t.start
        | none => tagMax v ((assoc (s.sch p).lastF q).getD 0)
      some { q := q, start := st, fin := (st + (s.sizeOn p h.f * 65536 + w - 1) / w) % 2 ^ 32, elig := ok }

/-- Tag the heads as they stand now. -/
def State.retag (s : State) (p : Nat) : State :=
  let ts := (s.sch p).queues.filterMap fun q => s.tagOf p q
  s.schM p fun c => { c with tags := ts }

/-- The eligible head whose finish tag comes first, lower index on a tie (R209). -/
def SchSt.best (c : SchSt) : Option Tag :=
  (c.tags.filter (·.elig)).foldl (fun b t => match b with
    | none => some t
    | some x => if tagBefore t.fin x.fin || (t.fin == x.fin && decide (t.q < x.q)) then some t else some x) none

/-- After a frame sent under fair queueing: F_q and V move (R209). -/
def State.advanceV (s : State) (p q fin : Nat) : State :=
  let t := (s.schM p fun c => { c with lastF := putBy (fun e => e.1 == q) (q, fin) c.lastF }).retag p
  match ((t.sch p).tags.filter (·.elig)).map (·.start) with
  | [] => t
  | x :: xs => t.schM p fun c => { c with vtime := tagMax c.vtime (xs.foldl (fun a b => if tagBefore b a then b else a) x) }

/-! ### The calendar (R204 to R206) -/

/-- Whether a queue holds a frame. -/
def State.holds (s : State) (p q : Nat) : Bool := (s.head p q).isSome

/-- Grant a slot's credit to a queue. -/
def State.grantQueue (s : State) (p q : Nat) : State :=
  let b := min 18760 ((assoc (s.sch p).ccred q).getD 0 + 1050)
  s.schM p fun c => { c with
    ccred := putBy (fun e => e.1 == q) (q, b) c.ccred,
    grants := if b ≤ 0 ∨ c.grants.contains q then c.grants else c.grants ++ [q] }

/-- A calendar miss: counted, and the event once per epoch (Table 8-5). -/
def State.calMiss (s : State) (p slot cause : Nat) : State :=
  let t := s.bump (F.SCH_CALMIS p)
  if (s.sch p).missed then t
  else (t.schM p fun c => { c with missed := true }).raise (29 + 2 * p) 3 [slot % 256, slot / 256, cause]

/-- Slot `k` begins: its entry acts as R205 states. -/
def State.slotBegin (s : State) (p k : Nat) : State :=
  let ix := s.get (F.SCH_CALA_INDEX p k)
  let t := s.put (F.SCH_SLOT_POINTER p) k
  match s.get (F.SCH_CALA_KIND p k) with
  | 1 =>
    if !(s.holds p ix) then t
    else match s.ctx ix with
      | some c => if c.par.cls = 4 ∨ c.par.cls = 6 then t.grantQueue p ix else t.calMiss p k 1
      | none => t.calMiss p k 2
  | 2 =>
    let cls := ix % 8
    if cls ≠ 4 ∧ cls ≠ 6 then t.calMiss p k 1
    else match (List.range 1024).find? fun q => s.holds p q && (match s.ctx q with | some c => c.par.cls == cls | none => false) with
      | some q => t.grantQueue p q
      | none => t
  | _ => t

/-! ### Shadow to active (R216, R219, R220) -/

/-- Copy `n` bytes of register space at `src` over those at `dst`. -/
def State.copyRegs (s : State) (src dst n : Nat) : State :=
  let t := (s.regs.filter fun e => decide (dst ≤ e.1) && decide (e.1 < dst + n)).foldl (fun u e => u.wr e.1 (regReset e.1)) s
  (s.regs.filter fun e => decide (src ≤ e.1) && decide (e.1 < src + n)).foldl (fun u e => u.wr (dst + (e.1 - src)) e.2) t

/-- Copy a scheduler's shadow to its active copy. -/
def State.copyShadow (s : State) (p : Nat) : State :=
  let b := A.SCH_CTRL p
  ((((s.copyRegs (b + 0x1000) (b + 0x2000) 0x1000).copyRegs (b + 0x3000) (b + 0x4000) 0x1000).copyRegs (b + 0x5000) (b + 0x7000) 0x2000).copyRegs
    (b + 0x100) (b + 0x140) 0x40).copyRegs (b + 4) (b + 8) 4

/-- Copy the meters' shadow; a meter whose settings and mode are unchanged keeps its buckets (R220). -/
def State.copyMeters (s : State) : State :=
  let t := s.copyRegs 0xAB000 0xAD000 0x2000
  { t with meters := t.meters.filter fun x =>
      bitsOf (s.rd (A.SCH_META0 x.m)) 0 31 == bitsOf (t.rd (A.SCH_META0 x.m)) 0 31 && s.rd (A.SCH_META1 x.m) == t.rd (A.SCH_META1 x.m) }

/-- A block of a commit request has applied at boundary `t0`; the request completes with its last block (R218). -/
def State.blockDone (s : State) (group bit t0 : Nat) : State :=
  match s.commits.find? fun r => r.group == group with
  | none => s
  | some r =>
    let todo := if r.todo / 2 ^ bit % 2 = 1 then r.todo - 2 ^ bit else r.todo
    let last := max r.last t0
    if todo = 0 then
      { s with commits := s.commits.filter fun x => x.group != group }.reply r.reply 0x00
        (resultOf [(0x08, last / 1000000000), (0x10, last % 1000000000)])
    else { s with commits := updBy (fun x => x.group == group) (fun x => { x with todo := todo, last := last }) s.commits }

/-- The late-commit event (R218, Table 8-5): µs from a WHEN that was missed to the boundary. -/
def State.lateCommit (s : State) (p t0 : Nat) (g : Staged) : State :=
  match g.late with
  | some w => s.raise (29 + 2 * p) 1 [min ((t0 - w) / 1000) 0xFFFF % 256, min ((t0 - w) / 1000) 0xFFFF / 256, 0, 0]
  | none => s

/-- A drain is over at `now_` (R219): it is reported, with the commit. -/
def State.drainDone (s : State) (p now_ : Nat) : State :=
  match (s.sch p).drained with
  | none => s
  | some d =>
    let n := min (now_ - d.t0) 0xFFFF
    let t := (s.schM p fun c => { c with drained := none }).put (F.SCH_DRAIN_LAST p) n
    let t := if t.get (F.SCH_DRAIN_MAX p) < n then t.put (F.SCH_DRAIN_MAX p) n else t
    t.raise (29 + 2 * p) 0 [2 ^ p + (if d.met then 8 else 0), 0, n % 256, n / 256]

/-- A drain whose port can start no frame any more ended at its swap (R219). -/
def State.drainSettle (s : State) (p : Nat) : State :=
  match (s.sch p).drained with
  | some d => s.drainDone p d.at_
  | none => s

/-- Whether a frame is ready to start on a port (R201). -/
def State.frameReady (s : State) (p : Nat) : Bool :=
  s.lit p && !(s.bit (F.ADT_STAT_TXDIM p)) &&
    (([6, 0, 7].any fun c => match s.fabHead p c with | some q => s.headOk p q | none => false) ||
      ((s.sch p).grants.any fun k => match s.head p k with | some q => s.headOk p q | none => false) || ((s.retag p).sch p).best.isSome)

/-- COMMIT_SWAP (R219, R220): the shadow becomes active and the port starts empty; the slots that began in the drain grant their credit in
order. The drain lasts to the first new frame's start, where one is ready. -/
def State.swap (s : State) (p : Nat) : State :=
  match (s.sch p).draining, (s.sch p).staged with
  | some d, some g =>
    let t := (s.copyShadow p).schM p fun c => { c with
      grants := [], ccred := [], lastF := [], tags := [], vtime := 0, shTok := [], clTok := [], staged := none, draining := none,
      drained := some { t0 := d.t0, met := d.met.isSome, at_ := s.now } }
    let t := ((t.put (F.SCH_STAT_PEND p) 0).put (F.SCH_STAT_LOCK p) 0).addMod (F.SCH_COMMITS p) 1
    let t := (List.range d.slots).foldl (fun u k => u.slotBegin p (k % 1024)) t
    let t := t.lateCommit p d.t0 g
    let t := match d.met with | some m => if m.group = g.group then t else t.lateCommit p d.t0 m | none => t
    let t := (t.retag p).blockDone g.group p d.t0
    if t.frameReady p then t else t.drainSettle p
  | _, _ => s

/-- The meters' commit is applied, at a boundary of SCH0 (R218, R220). -/
def State.swapMeters (s : State) (t0 : Nat) (g : Staged) : State :=
  let t := ({ s.copyMeters with metStaged := none }.put (F.SCH_STAT_METPEND 0) 0)
  t.blockDone g.group 3 t0

end Sys2Proof.Machine
end

