-- ==== Sys2Proof/Machine/TimeCore.lean ====
section
/-! DEFINITION. The time unit's shared operations: timestamps, grandmaster selection, holdover and the servo (R304 to
R318). -/

namespace Sys2Proof.Machine

/-- Change the time unit's internal state. -/
def State.timM (s : State) (g : TimSt → TimSt) : State := { s with tim := g s.tim }

/-- Change one port's link sync. -/
def State.tportM (s : State) (p : Nat) (g : TimPort → TimPort) : State := s.timM fun t => { t with ports := t.ports.modify p g }

/-- One port's link sync. -/
def State.tport (s : State) (p : Nat) : TimPort := s.tim.ports.getD p TimPort.reset

/-- The clock in units of 2^-16 ns. -/
def State.stamp (s : State) : Int := (s.clock / 2 ^ 24 : Nat)

/-- A register word as a signed number. -/
def wordInt (w : Word) : Int := w.toInt

/-- STEP (R304). -/
def State.stepVal (s : State) : Nat := s.get F.TIM_STEPLO_STEP + 2 ^ 32 * (s.get F.TIM_STEPHI_STEP % 65536)

/-- Set STEP. -/
def State.setStep (s : State) (v : Nat) : State := (s.put F.TIM_STEPLO_STEP (v % 2 ^ 32)).put F.TIM_STEPHI_STEP (v / 2 ^ 32 % 65536)

/-- round(2^40 * (1 + c)) as STEP's 48 bits (R316). -/
def stepOf (c : Rat) : Nat := ((2 ^ 40 * (1 + c) + 1 / 2).floor % 2 ^ 48).toNat

/-- A value in 2^-16 ns as a register in 2^-8 ns, two's complement and saturating. -/
def toOffset (x : Int) : Nat := (max (-(2 ^ 31)) (min (2 ^ 31 - 1) (x / 256)) % 2 ^ 32).toNat

/-- PSTATE of a port (R313): 0 DISABLED, 1 MASTER, 2 SLAVE, 3 PASSIVE. -/
def State.pstate (s : State) (p : Nat) : Nat := s.get F.TIM_STAT_PSTATE / 4 ^ p % 4

/-- Whether candidate `a` is better than `b` (R312): class, priority, UID, STEPS, sender. -/
def Announce.better (a b : Announce) : Bool :=
  if a.cls ≠ b.cls then decide (a.cls < b.cls)
  else if a.prio ≠ b.prio then decide (b.prio < a.prio)
  else if a.gm ≠ b.gm then decide (a.gm < b.gm)
  else if a.steps ≠ b.steps then decide (a.steps < b.steps)
  else decide (a.sender < b.sender)

/-- The device's own candidacy (R312). -/
def State.ownCandidate (s : State) : Announce :=
  { gm := s.uid, prio := s.get F.TIM_PRIO_PRIO, cls := if s.tim.srcLive then 1 else if s.tim.self && s.tim.srcLost then 2 else 3,
    steps := 0, sender := s.uid }

/-- The best received candidate with its port: STEPS count one higher. -/
def State.bestHeard (s : State) : Option (Nat × Announce) :=
  ([0, 1, 2].filterMap fun p => if s.lit p then (s.tport p).ann.map fun a => (p, { a with steps := a.steps + 1 }) else none).foldl
    (fun b e => match b with
      | none => some e
      | some x => if Announce.better e.2 x.2 then some e else some x) none

/-- What the device announces (R312). -/
def State.announcement (s : State) : Announce :=
  match s.tim.self, s.bestHeard with
  | false, some (_, a) => { a with sender := s.uid }
  | _, _ => s.ownCandidate

/-- The FID of a UID as the held RECORDs give it. -/
def State.fidOf (s : State) (uid : Nat) : Nat :=
  if uid = s.uid then s.fid else match s.fab.recs.find? fun h => h.r.uid == uid with | some h => h.r.fid | none => 0

/-- Enter holdover for a cause of Table 12-5, with the TIME fault (R318, class 8). -/
def State.enterHoldover (s : State) (cause : Nat) : State :=
  if s.get F.TIM_STAT_STATE = 3 then s
  else
    (((s.put F.TIM_STAT_STATE 3).timM fun t => { t with holdAt := some s.uptime }).raiseWith (8 * 40 + 1) true 0 [cause]).logFault
      8 0 40 true (cause + 256 * s.get F.TIM_STAT_SLAVEPORT)

/-- Leave holdover (R318): the event, and the TIME fault's recovery is complete. -/
def State.leaveHoldover (s : State) : State :=
  match s.tim.holdAt with
  | some a =>
    (((s.put F.TIM_STAT_STATE (if s.tim.self then 1 else 2)).timM fun t => { t with holdAt := none }).raise 40 2
      [(s.uptime - a) / 1000000]).closeFaults fun o => o.cls == 8
  | none => s.put F.TIM_STAT_STATE (if s.tim.self then 1 else 2)

/-- Set the time states of the ports (R313), with the event for each that changes. -/
def State.setPstates (s : State) (slave : Option Nat) : State :=
  [0, 1, 2].foldl (fun t p =>
    let new := if !(s.lit p) then 0 else if slave = some p then 2
      else match (s.tport p).ann with
        | some a => if Announce.better s.announcement a then 1 else 3
        | none => 1
    if t.pstate p = new then t
    else (t.put F.TIM_STAT_PSTATE (t.get F.TIM_STAT_PSTATE - t.pstate p * 4 ^ p + new * 4 ^ p)).raise 40 4 [p, new]) s

/-- Record the grandmaster followed (TIM_STAT), with the event of a change. -/
def State.setGm (s : State) (a : Announce) (self : Bool) : State :=
  let t := (((s.put F.TIM_STAT_CLASS a.cls).put F.TIM_STAT_GMFID (s.fidOf a.gm)).put F.TIM_STAT_STEPS a.steps).timM
    fun t => { t with self := self, gm := a.gm }
  if s.tim.gm = a.gm then t else t.raise 40 3 [s.fidOf a.gm, a.cls, a.steps, 0, a.gm]

/-- Whether this is the first choice of a master after reset, made in INIT (R313). -/
def State.firstMaster (s : State) : Bool := s.get F.TIM_STAT_STATE == 0 && s.tim.gm == 0

/-- The device takes its own candidacy (R312): from INIT it is grandmaster; a change of grandmaster puts it into holdover, which no selection
ends (R313, R318). -/
def State.selectSelf (s : State) : State :=
  let t := s.setGm s.ownCandidate true
  let t := if s.tim.self then t else if s.firstMaster then t.put F.TIM_STAT_STATE 1 else t.enterHoldover 1
  t.setPstates none

/-- Selection (R312, R313). In INIT the device takes its own candidacy where it has heard a candidate its own beats or its source is live, and
else only where `settle` says that it has heard none in 30 ms. -/
def State.timeSelect (s : State) (settle : Bool) : State :=
  match s.bestHeard with
  | some (p, a) =>
    if Announce.better s.ownCandidate a then s.selectSelf
    else
      let change := s.tim.gm ≠ a.gm ∨ s.tim.self ∨ s.get F.TIM_STAT_SLAVEPORT ≠ p
      let t := ((s.setGm a false).put F.TIM_STAT_SLAVEPORT p).setPstates (some p)
      if change then
        let u := t.timM fun t => { t with fresh := true, rejects := 0 }
        if s.firstMaster then u else u.enterHoldover 1
      else t
  | none => if s.get F.TIM_STAT_STATE = 0 && !settle && !s.tim.srcLive then s.setPstates none else s.selectSelf

/-- The time states of the ports with the slave port as it is: a port newly Lit has one at once (R313). -/
def State.refreshPstates (s : State) : State := s.setPstates (if s.tim.self ∨ s.tim.gm = 0 then none else some (s.get F.TIM_STAT_SLAVEPORT))

/-- A port goes DARK (R336): its announce information and samples lapse at once, and the device reselects. -/
def State.timePortDark (s : State) (p : Nat) : State :=
  let t := s.tportM p fun x => { x with ann := none, m := none, sl := none }
  t.timeSelect false

/-- The first edge of a trigger's series after an instant. -/
def Trig.after (t : Trig) (x : Nat) : Nat := if x < t.when then t.when else t.when + ((x - t.when) / t.period + 1) * t.period

/-- Set the clock, in 2^-40 ns. A forward step across due edges of an armed trigger leaves it one edge, at the step, counted
late from the last edge crossed (R323). -/
def State.setClock (s : State) (v : Nat) : State :=
  let b := v / nsUnit
  { s with
    clock := v,
    tim := { s.tim with trigs := s.tim.trigs.map fun o => o.map fun t =>
      if s.now < t.next ∧ t.next ≤ b then
        { t with next := b, late := true, due := if t.period = 0 then t.next else t.next + (b - t.next) / t.period * t.period }
      else t } }

/-- Move the clock by a signed amount in 2^-16 ns. -/
def State.stepClock (s : State) (d : Int) : State := s.setClock ((s.clock : Int) + d * 2 ^ 24).toNat

/-- SERVO_UPDATE and CLOCK_STEP (R316, R317) for an accepted offset in 2^-16 ns over an interval τ in ns. -/
def State.servo (s : State) (theta : Int) (tau : Nat) : State :=
  if !(s.bit F.TIM_CTRL_SERVOEN) then s
  else if 65536000 < theta.natAbs then
    ((s.stepClock (-theta)).setStep (stepOf (-s.tim.integ))).raise 40 0 [(theta % 2 ^ 64).toNat]
  else
    let e : Rat := (theta : Rat) / 65536 / tau
    let a := s.tim.integ + e / 2 ^ s.get F.TIM_SERVO_KI
    (s.timM fun t => { t with integ := a }).setStep (stepOf (-(e / 2 ^ s.get F.TIM_SERVO_KP) - a))

/-- The offset alarm (R319), at most once per 1 s. -/
def State.offsetAlarm (s : State) (theta : Int) : State :=
  let lim := s.get F.TIM_ALARM_NS
  if lim ≠ 0 ∧ lim * 65536 < theta.natAbs ∧ s.due s.tim.alarmAt 1000000000 then
    (s.timM fun t => { t with alarmAt := some s.uptime }).raise 41 0 [toOffset theta]
  else s

/-- An accepted sample: INIT and holdover end, offsets are reported, the servo acts (R313, R316 to R318). -/
def State.acceptSample (s : State) (theta : Int) (delay : Option Int) (tau : Nat) : State :=
  let t := if s.get F.TIM_STAT_STATE = 3 then s.leaveHoldover
    else if s.get F.TIM_STAT_STATE = 0 then s.put F.TIM_STAT_STATE (if s.tim.self then 1 else 2) else s
  let t := t.put F.TIM_OFFSET (toOffset theta)
  let t := match delay with
    | some d => (t.put F.TIM_DELAY (toOffset d)).timM fun x => { x with lastD := some d, rejects := 0, fresh := false }
    | none => t
  (t.offsetAlarm theta).servo theta tau

end Sys2Proof.Machine
end

