-- ==== Sys2Proof/Machine/Failover.lean ====
section
/-! DEFINITION. What a change of a port's state brings: this device's RECORD (R362), the graph (R364, R379), local
failover (R377, R378), and going DARK (R135, R157). -/

namespace Sys2Proof.Machine

/-! ### The device's RECORD and the graph -/

/-- SETTLE in nanoseconds (FAB_CFG): 0 counts as 1, above 4 as 4. -/
def State.settleNs (s : State) : Nat := 1000000 * max 1 (min 4 (s.get F.FAB_CFG_SETTLE))

/-- One port of the device's own RECORD (Table 14-2). -/
def State.recPort (s : State) (p : Nat) : RecPort :=
  let n := (s.fab.neigh.find? fun e => e.1 == p).map (·.2)
  { peer := (n.map (·.uid)).getD 0, pport := (n.map (·.port)).getD 0, up := s.portUp p, rate := s.get (F.ADT_STAT_RATE p),
    lanes := s.get (F.ADT_STAT_TXLANES p), enc := s.enc p }

/-- The device's own RECORD as it stands (R362). -/
def State.ownRec (s : State) : Rec :=
  { uid := s.uid, fid := s.fid, src := s.get F.FAB_ID_SRC, role := s.role, quar := s.get F.FAB_ID_STATE == 2,
    qcause := s.get F.FAB_ID_QCAUSE, seq := s.fab.seq, chg := s.fab.chg, rstCnt := s.boot.rstCnt,
    ports := [0, 1, 2].map s.recPort }

/-- The RECORDs held. -/
def State.recs (s : State) : List Rec := s.fab.recs.map (·.r)

/-- Hold a RECORD as the newest of its UID. -/
def State.holdRec (s : State) (r : Rec) : State :=
  s.fabM fun f => { f with recs := putBy (fun h => h.r.uid == r.uid) { r := r, at_ := s.uptime } f.recs }

/-- The UID that holds a FID. -/
def State.uidOf (s : State) (recs : List Rec) (fid : Nat) : Nat := ((members recs s.uid).find? fun r => r.fid == fid).elim 0 (·.uid)

/-- FAB_STAT from the RECORDs and the graph. -/
def State.fabStat (s : State) : State :=
  ((s.put F.FAB_STAT_NDEV s.fab.live.nodes.length).put F.FAB_STAT_NHOST
    (min 4 ((members s.recs s.uid).filter fun r => r.role == 0 && s.fab.live.nodes.contains r.fid).length)).put F.FAB_STAT_NQUAR
    ((s.recs.filter (·.quar)).length)

/-- Judge the graph anew after a change that happened at `chg` (R364, R379): joins and leaves are raised, and T_inst moves. -/
def State.graphNote (s : State) (before : List Rec) (chg : Nat) : State :=
  let g := buildGraph s.recs s.uid
  if g = s.fab.live then s.fabStat
  else
    let t := (s.fabM fun f => { f with live := g, arr := s.now, computed := false, tinst := match f.tinst with
      | some x => some (max x (chg + s.settleNs))
      | none => some (chg + s.settleNs) }).fabStat
    let t := (g.nodes.filter fun n => !(s.fab.live.nodes.contains n)).foldl (fun u n => u.raise 35 0 [s.uidOf s.recs n, n]) t
    (s.fab.live.nodes.filter fun n => !(g.nodes.contains n)).foldl (fun u n => (u.raise 35 1 [s.uidOf before n, n]).pauseFar n 4) t

/-- The ports that are LIT or DIM. -/
def State.litPorts (s : State) : List Nat := [0, 1, 2].filter s.lit

/-- RECORD_ORIGINATE (R362): the next SEQ, CHG now, flooded on every Lit port. -/
def State.originate (s : State) : State :=
  let t := s.fabM fun f => { f with seq := (f.seq + 1) % 65536, chg := s.now }
  ((t.holdRec t.ownRec).emit (.msg (.ports t.litPorts) (.record t.ownRec))).graphNote s.recs s.now

/-- NEIGHBOUR (Table 14-1) on a port. -/
def State.sendNeighbour (s : State) (p : Nat) : State :=
  s.emit (.msg (.port p) (.neighbour { uid := s.uid, fid := s.fid, src := s.get F.FAB_ID_SRC, role := s.role, port := p, rstCnt := s.boot.rstCnt }))

/-- Take a FID from a source of Table 14-3 (R365): ACTIVE, the event, NEIGHBOUR at once on every Lit port, a new RECORD. -/
def State.takeFid (s : State) (fid src : Nat) : State :=
  let t := (((s.put F.FAB_ID_FID fid).put F.FAB_ID_SRC src).put F.FAB_ID_STATE 1).put F.FAB_ID_QCAUSE 0
  let t := t.raise 35 2 [fid, src]
  (t.litPorts.foldl (fun u p => u.sendNeighbour p) t).originate

/-- The FID the device would take from straps or NV memory, with its source: (0, 0) where neither gives one. -/
def State.ownFid (s : State) : Nat × Nat :=
  let a := s.strapFid
  let b := s.get F.FAB_NVFID_FID
  if a ≠ 0 then (a, 1) else if 1 ≤ b ∧ b ≤ 62 then (b, 2) else (0, 0)

/-! ### Local failover (R377, R378) -/

/-- The destinations whose entry uses a port as its primary. -/
def State.entriesOn (s : State) (p : Nat) : List Nat :=
  (List.range 63).filter fun d => d != 0 && s.bit (F.FAB_RT_PRIV d) && s.get (F.FAB_RT_PRI d) == p && !(s.bit (F.FAB_RT_PRIDOWN d))

/-- Whether an entry has an alternate it can use now. -/
def State.hasAlt (s : State) (d : Nat) : Bool :=
  s.bit (F.FAB_RT_ALTV d) && s.portUp (s.get (F.FAB_RT_ALT d)) && (s.port (s.get (F.FAB_RT_ALT d))).inRoute

/-- Frames that waited on a port that is gone: tunnel frames take the port they now have, fabric frames are discarded and
counted (R377). -/
def State.moveQueue (s : State) (p : Nat) : State :=
  let qs := (s.sch p).queue
  let ks := (qs.filterMap (·.queue)).eraseDups
  let t := (ks.foldl (fun u q => u.highWater p q) s).schM p fun c => ks.foldl (fun d q => d.settle q) { c with queue := [] }
  qs.foldl (fun u q =>
    match q.queue with
    | none => (u.release q).bump F.FAB_NOROUTE
    | some k =>
      match u.ctx k with
      | some c =>
        if c.isEnd then
          match u.egressOf c with
          | some n => u.enqueue n q
          | none => u.release q
        else u.sendTransit c q.f q.from_ q.at_
      | none => u.release q) t

/-- A frame that came in by a port holds nothing there any more; what a completion holds of the device's pool it keeps (R161). -/
def QFrame.forget (p : Nat) (q : QFrame) : QFrame :=
  match q.from_ with
  | some (x, _) => if x = p ∧ q.f.cls ≠ 3 then { q with from_ := none } else q
  | none => q

/-- Frames that came in by a port hold nothing there once its credit state is gone (R157): those queued, and those that wait at their end. -/
def State.forgetFrom (s : State) (p : Nat) : State :=
  { s with
    schs := s.schs.map fun c => { c with queue := c.queue.map (QFrame.forget p) }
    tun := { s.tun with ctxs := s.tun.ctxs.map fun c => { c with waiting := c.waiting.map (QFrame.forget p) } } }

/-- The ends whose far device is one of `ds` resend for a link, unless a resend for it has started (R378). -/
def State.resendFor (s : State) (ds : List Nat) (link : Nat) : State :=
  s.tun.ctxs.foldl (fun t c =>
    if c.isEnd && ds.contains c.far && !c.links.contains link then
      (t.ctxM c.idx fun d => { d with links := d.links ++ [link] }).resend c.idx
    else t) s

/-- The RECORDs as they would be with this device in the graph, whatever its Quarantine. -/
def State.recsWithMe (s : State) : List Rec := s.recs.map fun r => if r.uid = s.uid then { r with quar := false } else r

/-- Whether a device of the graph holds this device's FID and keeps it (R367). -/
def State.fidTaken (s : State) : Bool :=
  s.fid != 0 && (reached s.recs s.uid).any fun r => r.uid != s.uid && recMember r && r.fid == s.fid && recBeats r s.ownRec &&
    (buildGraph s.recs s.uid).nodes.contains r.fid

/-- Host bridges of the graph with lower UIDs (Table 14-4, cause 3). -/
def State.lowerHosts (s : State) : Nat :=
  let g := buildGraph s.recsWithMe s.uid
  ((members s.recsWithMe s.uid).filter fun r => r.role == 0 && decide (r.uid < s.uid) && g.nodes.contains r.fid).length

/-- Set FAB_ID.STATE and QCAUSE, and originate a RECORD where they changed. -/
def State.setFabState (s : State) (st cause : Nat) : State :=
  if s.get F.FAB_ID_STATE = st ∧ s.get F.FAB_ID_QCAUSE = cause then s
  else (((s.put F.FAB_ID_STATE st).put F.FAB_ID_QCAUSE cause).originate).refreshPause

/-- A device whose FID no other takes is ACTIVE, or in Quarantine for four host bridges before it (R368). -/
def State.judgeRank (s : State) : State := if s.isHost ∧ 4 ≤ s.lowerHosts then s.setFabState 2 3 else s.setFabState 1 0

/-- A device in Quarantine with a FID judges it again when the graph has shrunk: what held it may have left (R368). -/
def State.judgeLeave (s : State) : State := if s.fid = 0 ∨ !s.quarantined ∨ s.fidTaken then s else s.judgeRank

/-- PORT_FAILOVER (R377): what follows when a port is no longer UP. `fault` logs a class 2 fault (Table 20-1), masked where every entry had
an alternate and no PORT recovery is open here (R493, Table 20-2). -/
def State.leaveUp (s : State) (p : Nat) (fault : Bool) : State :=
  let ds := s.entriesOn p
  let link := s.fab.graph.linkIdx s.fid p
  let t := s.portM p fun x => { x with inRoute := false }
  let t := ds.foldl (fun u d => u.put (F.FAB_RT_PRIDOWN d) 1) t
  let moved := ds.filter t.hasAlt
  let lost := ds.length - moved.length
  let t := moved.foldl (fun u _ => u.bump F.FAB_FAILOVER) t
  let t := if moved = [] then t else t.raiseWith (8 * 35 + 4) true 0 [p, moved.length]
  let t := if lost = 0 then t else t.raise 35 5 [p, lost]
  let t := (t.moveQueue p).resendFor moved link
  let masked := lost == 0 && !(t.flt.opens.any fun o => o.cls == 2)
  let t := if fault then
      let u := t.logFault 2 p 35 masked (t.get (F.ADT_STAT_LASTFAIL p) + 256 * min moved.length 255 + 65536 * min lost 255)
      { u with flt := { u.flt with opens := updBy (fun o => o.cls == 2 && o.unit == p && o.at_ == s.uptime) (fun o => { o with aff := ds }) u.flt.opens } }
    else t
  t.refreshPause.originate.judgeLeave

/-! ### DARK (R125, R135, R157) -/

/-- A port goes DARK for a cause of ADTn_STAT.LASTFAIL. Lanes, replay buffer, NAK, credits and keys are lost; a port that
was UP fails over, and a drain in progress ends at once (R223). -/
def State.goDark (s : State) (p cause : Nat) (fault : Bool) : State :=
  if s.portState p = 0 then (if cause = 6 ∨ cause = 7 ∨ cause = 11 then s.put (F.ADT_STAT_LASTFAIL p) cause else s)
  else
    let left := s.portState p
    let wasUp := s.portUp p
    let rate := s.get (F.ADT_STAT_RATE p)
    let t := ((s.wr (A.ADT_STAT p) 0).put (F.ADT_STAT_RATE p) rate).put (F.ADT_STAT_LASTFAIL p) cause
    let t := ((t.wr (A.ADT_LANE p) 0).wr (A.ADT_LLSTAT p) 0).wr (A.ADT_KEYSTAT p) 0
    let t := (List.range 16).foldl (fun u k => u.put (F.ADT_PEERCAP p k) 0) t
    let t := (t.linkM p fun l => { LinkSt.reset with poolAt := l.poolAt, pool := l.pool }).dropLinkKeys p
    let t := t.portM p fun x => { PortSt.reset with rateMax := x.rateMax, frames := x.frames, shared := x.shared, rate := x.rate, retry := x.retry, inRoute := x.inRoute }
    let t := (t.emit (.lanes p 3 0)).raise (12 + 4 * p) 1 [cause, left]
    let t := t.fabM fun f => { f with neigh := f.neigh.filter fun e => e.1 != p }
    let t := if left = 5 ∨ left = 6 then t.timePortDark p else t
    let t := (t.drainSettle p).swap p
    let t := if left = 5 ∨ left = 6 then t.forgetFrom p else t
    if wasUp then t.leaveUp p fault
    else if left = 5 ∨ left = 6 then t.moveQueue p
    else t

end Sys2Proof.Machine
end

