-- ==== Sys2Proof/Machine/Time.lean ====
section
/-! DEFINITION. Fabric time (chapter 12): link sync, announces, sources, pins, triggers and probes. -/

namespace Sys2Proof.Machine

/-! ### Link sync (R307 to R311) -/

/-- Whether link sync runs on a port (R308): Lit, LSYNC at both ends, a FID at both ends, not in Quarantine (R368). -/
def State.syncs (s : State) (p : Nat) : Bool :=
  s.lit p && (s.port p).cap / 2 % 2 == 1 && byteAt (s.port p).peerCap 5 / 8 % 2 == 1 && s.fid != 0 && !s.quarantined &&
    (match assoc s.fab.neigh p with | some n => n.fid != 0 | none => false)

/-- A port's transmit correction in 2^-16 ns. -/
def State.txCor (s : State) (p : Nat) : Int := wordInt (s.rd (A.TIM_TXCOR p))

/-- A port's receive correction in 2^-16 ns. -/
def State.rxCor (s : State) (p : Nat) : Int := wordInt (s.rd (A.TIM_RXCOR p))

/-- One UI of a port's lanes in 2^-16 ns (Table 5-2), times a number of them. -/
def State.uis (s : State) (p : Nat) (n : Int) : Int :=
  n * (match s.get (F.ADT_STAT_RATE p) with | 2 => 18824 | 1 => 37647 | _ => 96970) * 65536 / 1000000

/-- An instant of a port's lanes: the clock, and the UIs since it last moved (R140). -/
def State.lineStamp (s : State) (p ui : Nat) : Int := s.stamp + s.uis p ui

/-- A stamp of the lane SYNC blocks arrive on, referred to lane 0 (R140): while lane 0 is spared, by the skew measured before it failed. -/
def State.toLane0 (s : State) (p : Nat) (at_ : Int) : Int :=
  if s.get (F.ADT_LANE_RXUSE p) = 2 then
    let k := (s.port p).skewKept
    at_ - s.uis p (if 4096 ≤ k then (k : Int) - 8192 else k)
  else at_

/-- The stamp of a SYNC block that arrives, referred to lane 0. -/
def State.rxStamp (s : State) (p ui : Nat) : Int := s.toLane0 p (s.lineStamp p ui)

/-- The logical lane SYNC blocks leave on: the lowest in use (R140). -/
def State.syncLane (s : State) (p : Nat) : Nat := if s.get (F.ADT_LANE_TXUSE p) % 2 = 1 then 0 else 1

/-- LINK_SYNC_SEND (R308): a MASTER port sends SYNC_M with the next SEQ, `ui` UIs after the clock's last move. -/
def execLinkSyncSend (x : SyncOut) (s : State) : Host.Outcome State Fault Refusal :=
  let p := x.p
  .next (s.whenSerdes fun s => (if s.syncs p ∧ s.pstate p = 1 then
      let q := ((s.tport p).seq + 1) % 65536
      let t := s.exitDim p
      (t.tportM p fun k => { k with seq := q, m := some (q, t.lineStamp p x.ui + t.txCor p) }).emit (.sync p (t.syncLane p) 1 q)
    else s))

/-- SYNC_M comes in (R308): a SLAVE port answers SYNC_S of the same SEQ; MASTER and PASSIVE ports ignore it (R313). `at_` is the block's
stamp; the answer leaves `uiTx` UIs after the clock's last move. -/
def State.hearSyncM (s : State) (p seq : Nat) (at_ : Int) (uiTx : Nat) : State :=
  if s.syncs p ∧ s.pstate p = 2 then
    let t := s.exitDim p
    (t.tportM p fun x => { x with sl := some (seq, at_ - s.rxCor p, t.lineStamp p uiTx + t.txCor p) }).emit (.sync p (t.syncLane p) 2 seq)
  else s

/-- SYNC_M_RECEIVE (R308). -/
def execSyncMReceive (p : Nat) (x : SyncM) (s : State) : Host.Outcome State Fault Refusal :=
  .next (s.whenSerdes fun s => s.hearSyncM p x.seq (s.rxStamp p x.ui) x.uiTx)

/-- The link sync interval in µs (R308): the larger of TIM_LSYNC, clamped, and the peer's SYNCMIN. -/
def State.syncUs (s : State) (p : Nat) : Nat :=
  max (max 125 (min 1000000 (s.get F.TIM_LSYNC_US))) (leNat (slice (s.port p).peerCap 22 2))

/-- SYNC_S comes in (R308), its block stamped `at_`: the master sends FOLLOW with its corrected t1 and t4. -/
def State.hearSyncS (s : State) (p seq : Nat) (at_ : Int) : State :=
  match (s.tport p).m with
  | some (q, t1) =>
    if q = seq ∧ s.syncs p ∧ s.pstate p = 1 then s.emit (.msg (.port p) (.follow seq (s.syncUs p) t1 (at_ - s.rxCor p))) else s
  | none => s

/-- SYNC_S_RECEIVE (R308). -/
def execSyncSReceive (p : Nat) (x : SyncS) (s : State) : Host.Outcome State Fault Refusal :=
  .next (s.whenSerdes fun s => s.hearSyncS p x.seq (s.rxStamp p x.ui))

/-- A sample rejected for D against the last accepted one (R311). -/
def State.rejectDlim (s : State) (d : Int) : Bool :=
  let lim := s.get F.TIM_SERVO_DLIM
  lim != 0 && !s.tim.fresh && decide (s.tim.rejects < 3) &&
    (match s.tim.lastD with | some l => decide (lim * 65536 < (d - l).natAbs) | none => false)

/-- FOLLOW_RECEIVE (R310, R311): offset and delay from the four timestamps; the sample is accepted or rejected. -/
def execFollowReceive (p seq us : Nat) (t1 t4 : Int) (s : State) : Host.Outcome State Fault Refusal :=
  .next (s.whenUp fun s => (
    if !(s.syncs p) ∨ s.pstate p ≠ 2 then s
    else s.fromPeer p fun s =>
      match (s.tport p).sl with
      | none => (s.timM fun t => { t with rejects := 0 }).bump F.TIM_SMPREJ
      | some (q, t2, t3) =>
        let theta := ((t2 - t1) - (t4 - t3)) / 2
        let d := ((t2 - t1) + (t4 - t3)) / 2
        if q ≠ seq ∨ d < 0 then (s.timM fun t => { t with rejects := 0 }).bump F.TIM_SMPREJ
        else if s.rejectDlim d then (s.timM fun t => { t with rejects := t.rejects + 1 }).bump F.TIM_SMPREJ
        else s.acceptSample theta (some d) (us * 1000)))

/-! ### Grandmaster (R312, R313, R318) -/

/-- ANNOUNCE_SEND (R312): on every Lit port. -/
def execAnnounceSend (s : State) : Host.Outcome State Fault Refusal :=
  .next (s.whenDuty 9 fun s => (if s.quarantined then s else s.litPorts.foldl (fun t p => t.emit (.msg (.port p) (.announce s.announcement))) s))

/-- ANNOUNCE_RECEIVE (R312): kept and selected from, but an echo of this device's own UID. -/
def execAnnounceReceive (p : Nat) (a : Announce) (s : State) : Host.Outcome State Fault Refusal :=
  .next (s.whenUp fun s => (if s.quarantined ∨ !(s.lit p) then s
    else s.fromPeer p fun s => if a.gm = s.uid then s else (s.tportM p fun x => { x with ann := some a }).timeSelect true))

/-- ANNOUNCE_TIMEOUT (R312): a port's announce information lapses. -/
def execAnnounceTimeout (p : Nat) (s : State) : Host.Outcome State Fault Refusal :=
  .next (s.whenUp fun s => (if p < 3 then (s.tportM p fun x => { x with ann := none }).timeSelect true else s))

/-- HOLDOVER_TIMEOUT (R318): no sample accepted for three intervals. -/
def execHoldoverTimeout (s : State) : Host.Outcome State Fault Refusal :=
  .next (s.whenUp fun s => (if s.get F.TIM_STAT_STATE = 2 then s.enterHoldover 2 else s))

/-! ### External sources (R314, R315) -/

/-- Whether the device follows another grandmaster: from its first choice of one, in INIT already. -/
def State.follows (s : State) : Bool := !s.tim.self && (s.get F.TIM_STAT_STATE != 0 || s.tim.gm != 0)

/-- One sample of the selected external source: it keeps the source live, the device reselects, and a device that did not follow another
grandmaster takes the offset in 2^-16 ns where it is one. -/
def State.sourceSample (s : State) (theta : Int) : State :=
  let t := (s.timM fun x => { x with srcLive := true, srcLost := false }).timeSelect true
  if t.tim.self ∧ !s.follows then t.acceptSample theta none 1000000000 else t

/-- A write of TIM_EXTOFF: a sample where EXTSRC is 1, tallied on a device that follows another grandmaster (R314). -/
def State.writeExtoff (s : State) (v : Word) : State :=
  let t := s.wr A.TIM_EXTOFF v
  let t := if s.follows then t.bump F.TIM_IGNWR else t
  if s.get F.TIM_CTRL_EXTSRC = 1 then t.sourceSample (wordInt v * 256) else t

/-- A write of TIM_CTRL: another source is live only by samples of its own (R314), and PPS_OUT begins at the next whole second (R321). -/
def State.writeTimCtrl (s : State) (v : Word) : State :=
  let t := s.wr A.TIM_CTRL (v &&& 0xF#32)
  let t := if bitsOf v 3 1 = 1 ∧ !(s.bit F.TIM_CTRL_PPSOUTEN) then t.timM fun x => { x with ppsSec := s.sec + (if s.ns = 0 then 0 else 1) } else t
  if bitsOf v 1 2 = s.get F.TIM_CTRL_EXTSRC then t
  else (t.timM fun x => { x with srcLive := bitsOf v 1 2 == 2 && !(s.due x.ppsInAt 3000000000), srcLost := false }).timeSelect false

/-- PPS_IN_EDGE (R314): stamped to 1 ns; the offset is the stamp less the nearest whole second. -/
def execPpsInEdge (s : State) : Host.Outcome State Fault Refusal :=
  .next (s.whenUp fun s => (
    let t := ((s.put F.TIM_PPSINNS_NS s.ns).put F.TIM_PPSINNS_VALID 1).timM fun x => { x with ppsInAt := some s.uptime }
    let off : Int := if s.ns < 500000000 then s.ns else (s.ns : Int) - 1000000000
    if s.get F.TIM_CTRL_EXTSRC = 2 then t.sourceSample (off * 65536) else t))

/-- SOURCE_LOST (R314): 3 s without a sample of TIM_EXTOFF, or, with `pps`, without an edge on PPS_IN. -/
def execSourceLost (pps : Bool) (s : State) : Host.Outcome State Fault Refusal :=
  .next (s.whenUp fun s => (
    let t := if pps ∧ s.bit F.TIM_PPSINNS_VALID then (s.put F.TIM_PPSINNS_VALID 0).raise 41 1 [] else s
    if s.tim.srcLive ∧ s.get F.TIM_CTRL_EXTSRC = (if pps then 2 else 1) then
      let u := t.timM fun x => { x with srcLive := false, srcLost := s.tim.self }
      (if s.tim.self then u.enterHoldover 3 else u).timeSelect true
    else t))

/-- A write of TIM_SETNS: with GO it sets the clock, on the grandmaster alone (R315). -/
def State.writeSetns (s : State) (v : Word) : State :=
  if bitsOf v 31 1 = 0 then s.put F.TIM_SETNS_NS (bitsOf v 0 30)
  else if !s.tim.self then s.bump F.TIM_IGNWR
  else
    let sec := s.get F.TIM_SETSECLO_SEC + 2 ^ 32 * (s.get F.TIM_SETSECHI_SEC % 65536)
    (((s.put F.TIM_SETNS_NS (bitsOf v 0 30)).setClock ((sec * 1000000000 + bitsOf v 0 30) * nsUnit))).raise 40 7 [0]

/-! ### Pins (R321 to R323) -/

/-- PPS_OUT_PULSE (R321): one pulse for each whole second, none for one that has already pulsed. -/
def execPpsOutPulse (s : State) : Host.Outcome State Fault Refusal :=
  .next (s.whenUp fun s => (if s.bit F.TIM_CTRL_PPSOUTEN ∧ s.tim.ppsSec ≤ s.sec then
      (s.timM fun t => { t with ppsSec := s.sec + 1 }).emit (.pulse .ppsOut true (s.get F.TIM_PPSOUT_WIDTH))
    else s))

/-- The trigger of an index. -/
def State.trig (s : State) (k : Nat) : Option Trig := (s.tim.trigs.getD k none)

/-- Set or clear a trigger. -/
def State.setTrig (s : State) (k : Nat) (x : Option Trig) : State :=
  (s.timM fun t => { t with trigs := t.trigs.set k x }).putBit (F.TIM_TRIG_ARMED k) x.isSome

/-- A trigger armed now (R323): WHEN past or less than 10 µs away makes its first edge late. -/
def State.newTrig (s : State) (when width period : Nat) : Trig :=
  if s.now + 10000 ≤ when then { when := when, next := when, period := period, width := width, late := false, due := when }
  else if period = 0 then { when := when, next := s.now + 10000, period := 0, width := width, late := true, due := when }
  else
    let k := (s.now + 10000 - when + period - 1) / period
    { when := when, next := when + k * period, period := period, width := width, late := true, due := when + (k - 1) * period }

/-- TIM_ARM on this device (Table 12-2): completion code and result. -/
def State.timArm (s : State) (ops : BitVec 448) : State × Nat × BitVec 448 :=
  let o := fun (off size : Nat) => ops.toNat / 256 ^ (off - 8) % 256 ^ size
  let mask := o 0x08 1 % 16
  let named := (List.range 4).filter fun k => mask / 2 ^ k % 2 == 1
  let width := o 0x0C 4
  let period := o 0x1C 4
  if mask = 0 then (s, 0x03, resultOf [(0x08, 1)])
  else if o 0x09 1 % 2 = 1 then (named.foldl (fun t k => t.setTrig k none) s, 0x00, 0)
  else if named.any fun k => s.bit (F.TIM_TRIG_STAGED k) || (s.bit (F.TIM_TRIG_ARMED k) && o 0x09 1 / 2 % 2 == 0) then
    (s, 0x03, resultOf [(0x08, 2)])
  else if width < 10 ∨ 999999999 < width ∨ (period ≠ 0 ∧ period < width + 10) then (s, 0x03, resultOf [(0x08, 3)])
  else
    let x := s.newTrig (o 0x10 6 * 1000000000 + o 0x18 4) width period
    (named.foldl (fun t k => t.setTrig k (some x)) s, 0x00, resultOf [(0x09, if x.late then mask else 0)])

/-- Complete a command with what its operation answers. -/
def State.answer (t : InFlight) (r : State × Nat × BitVec 448) : State := r.1.finish t r.2.1 r.2.2

/-- The operand bits of TIM_ARM. -/
def timArmBits : List (Nat × Nat × Nat) := [(0x08, 0, 4), (0x09, 0, 2), (0x0C, 0, 32), (0x10, 0, 48), (0x18, 0, 30), (0x1C, 0, 32)]

/-- TIM_ARM (R322). -/
def execTimArm (c : HostCmd) (s : State) : Host.Outcome State Fault Refusal :=
  .next (s.command 0x38 true timArmBits c fun t u => u.onTarget t c fun v => State.answer t (v.timArm c.ops))

/-- TRIGGER_EDGE (R323): an armed trigger has reached its next edge. -/
def execTriggerEdge (k : Nat) (s : State) : Host.Outcome State Fault Refusal :=
  .next (s.whenUp fun s => (match s.trig k with
    | some x =>
      if s.now < x.next then s
      else
        let t := ((s.put (F.TIM_TRIG_FIRED k) (s.get (F.TIM_TRIG_FIRED k) + 1)).putBit (F.TIM_TRIG_LATE k) x.late).emit
          (.pulse (.trig k) true x.width)
        let t := if x.late then t.raise 40 5 [k, 0, 0, 0, min (x.next - x.due) 0xFFFFFFFF] else t
        if x.period = 0 then t.setTrig k none
        else t.setTrig k (some { x with next := x.after x.next, late := false, due := x.after x.next })
    | none => s))

/-! ### Probes (R324) -/

/-- A timestamp as TS12 (R309). -/
def ts12 (x : Int) : List (BitVec 8) :=
  let n := x.toNat
  leBytes 6 (n / 65536 / 1000000000) ++ leBytes 4 (n / 65536 % 1000000000) ++ leBytes 2 n

/-- A timestamp read from TS12. -/
def readTs12 (bs : List (BitVec 8)) : Int :=
  ((leNat (slice bs 0 6) * 1000000000 + leNat (slice bs 6 4)) * 65536 + leNat (slice bs 10 2) : Nat)

/-- The end of a TIME tunnel on this device. -/
def State.timeEnd (s : State) (tid : Nat) : Option TunCtx :=
  s.tun.ctxs.find? fun c => c.par.tid == tid && c.isEnd && c.par.typ == 7

/-- A write of TIM_PROBE: with GO it sends PROBE on the tunnel. -/
def State.writeProbe (s : State) (v : Word) : State :=
  if bitsOf v 31 1 = 0 then s.put F.TIM_PROBE_TID (bitsOf v 0 12)
  else
    match s.timeEnd (bitsOf v 0 12) with
    | some c =>
      if s.tim.probe.isSome then s.bump F.TIM_IGNWR
      else
        let q := (s.tim.probeSeq + 1) % 65536
        let t := (s.put F.TIM_PROBE_TID (bitsOf v 0 12)).timM fun x => { x with probeSeq := q, probe := some (c.par.tid, q, s.stamp) }
        t.ingress c.ep 7 0x0F ([3, 1] ++ leBytes 2 q ++ ts12 s.stamp) false false
    | none => s.bump F.TIM_IGNWR

/-- A PROBE arrives at an end: PROBE_REPLY with arrival and departure stamps. -/
def State.hearProbe (s : State) (c : TunCtx) (bytes : List (BitVec 8)) : State :=
  s.ingress c.ep 7 0x0F ([4, 1] ++ slice bytes 2 14 ++ ts12 s.stamp ++ ts12 s.stamp) false false

/-- A PROBE_REPLY arrives: offset and delay without corrections, and the event. -/
def State.hearReply (s : State) (c : TunCtx) (bytes : List (BitVec 8)) : State :=
  match s.tim.probe with
  | some (tid, seq, t1) =>
    if tid = c.par.tid ∧ seq = leNat (slice bytes 2 2) then
      let t2 := readTs12 (slice bytes 16 12)
      let t3 := readTs12 (slice bytes 28 12)
      let theta := ((t2 - t1) - (s.stamp - t3)) / 2
      let d := ((t2 - t1) + (s.stamp - t3)) / 2
      (s.timM fun x => { x with probe := none }).raise 40 6 [toOffset theta, toOffset d, tid]
    else s
  | none => s

/-- A frame of a TIME tunnel is delivered. -/
def State.timeDeliver (s : State) (c : TunCtx) (bytes : List (BitVec 8)) : State :=
  match byteAt bytes 0 with
  | 3 => s.hearProbe c bytes
  | 4 => s.hearReply c bytes
  | _ => s

/-- PROBE_RECEIVE (R324), on the TIME tunnel of a TID. -/
def execProbeReceive (tid : Nat) (bytes : List (BitVec 8)) (s : State) : Host.Outcome State Fault Refusal :=
  .next (s.whenUp fun s => (match s.timeEnd tid with
    | some c => if byteAt bytes 0 = 3 then s.hearProbe c bytes else s
    | none => s))

/-- PROBE_REPLY_RECEIVE (R324). -/
def execProbeReplyReceive (tid : Nat) (bytes : List (BitVec 8)) (s : State) : Host.Outcome State Fault Refusal :=
  .next (s.whenUp fun s => (match s.timeEnd tid with
    | some c => if byteAt bytes 0 = 4 then s.hearReply c bytes else s
    | none => s))

end Sys2Proof.Machine
end

