-- ==== Sys2Proof/Machine/Ethernet.lean ====
section
/-! DEFINITION. Ethernet MACs and NIC functions (chapter 12): PTP classification and correction, transmit buffers, Glints,
RSS, queues, MDIO. -/

namespace Sys2Proof.Machine

/-! ### Frames on the wire -/

/-- The FCS a frame should end with. -/
def fcsOf (body : List (BitVec 8)) : List (BitVec 8) := leBytes 4 (crc32 body).toNat

/-- Whether a frame's FCS matches (R326). -/
def fcsOk (bs : List (BitVec 8)) : Bool := decide (4 ≤ bs.length) && bs.drop (bs.length - 4) == fcsOf (bs.take (bs.length - 4))

/-- Put a new FCS on a frame. -/
def refcs (bs : List (BitVec 8)) : List (BitVec 8) := bs.take (bs.length - 4) ++ fcsOf (bs.take (bs.length - 4))

/-- A big-endian 16-bit field. -/
def be16 (bs : List (BitVec 8)) (i : Nat) : Nat := byteAt bs i * 256 + byteAt bs (i + 1)

/-- Whether a VLAN tag stands at an offset: 802.1Q or 802.1ad. -/
def tagAt (bs : List (BitVec 8)) (i : Nat) : Bool := be16 bs i == 0x8100 || be16 bs i == 0x88A8

/-- The offset of the EtherType after up to two VLAN tags (R327). -/
def typeOff (bs : List (BitVec 8)) : Nat := if tagAt bs 12 then (if tagAt bs 16 then 20 else 16) else 12

/-- The offset of the UDP header of an IPv4 or IPv6 frame, where there is one. -/
def udpOff (bs : List (BitVec 8)) : Option Nat :=
  let t := typeOff bs
  if be16 bs t = 0x0800 ∧ byteAt bs (t + 11) = 17 then some (t + 2 + 4 * (byteAt bs (t + 2) % 16))
  else if be16 bs t = 0x86DD ∧ byteAt bs (t + 8) = 17 then some (t + 42)
  else none

/-- The offset of the PTP message and of the UDP header it stands behind, for a PTP frame (R327). -/
def ptpOff (bs : List (BitVec 8)) : Option (Nat × Option Nat) :=
  if be16 bs (typeOff bs) = 0x88F7 then some (typeOff bs + 2, none)
  else match udpOff bs with
    | some u => if be16 bs (u + 2) = 319 ∨ be16 bs (u + 2) = 320 then some (u + 8, some u) else none
    | none => none

/-- Whether a frame is an event message (R330): messageType 0 to 3, versionPTP 2. -/
def ptpEvent (bs : List (BitVec 8)) : Bool :=
  match ptpOff bs with
  | some (o, _) => decide (byteAt bs o % 16 ≤ 3) && byteAt bs (o + 1) % 16 == 2
  | none => false

/-- Replace bytes from an offset. -/
def patch (bs : List (BitVec 8)) (off : Nat) (new : List (BitVec 8)) : List (BitVec 8) :=
  bs.take off ++ new ++ bs.drop (off + new.length)

/-- A ones-complement sum folded to 16 bits. -/
def fold16 (n : Nat) : Nat := let a := n % 65536 + n / 65536; let b := a % 65536 + a / 65536; b % 65536 + b / 65536

/-- The sum of the 16-bit words of a byte string. -/
def words16 : List (BitVec 8) → Nat
  | a :: b :: t => a.toNat * 256 + b.toNat + words16 t
  | [a] => a.toNat * 256
  | [] => 0

/-- PTP_CORRECTION (R330): correctionField moves by an amount in 2^-16 ns, the UDP checksum is updated incrementally where
it is not 0, and the FCS is recomputed. -/
def ptpCorrect (bs : List (BitVec 8)) (by_ : Int) : List (BitVec 8) :=
  match ptpOff bs with
  | none => bs
  | some (o, u) =>
    let old := slice bs (o + 8) 8
    let new := beBytes 8 (((beNat old : Int) + by_) % 2 ^ 64).toNat
    let b := patch bs (o + 8) new
    let b := match u with
      | some x =>
        if be16 bs (x + 6) = 0 then b
        else
          let c := 65535 - fold16 ((65535 - be16 bs (x + 6)) + (4 * 65535 - words16 old) + words16 new)
          patch b (x + 6) (beBytes 2 (if c = 0 then 65535 else c))
      | none => b
    refcs b

/-- Whether a frame arrives yellow (R214): DEI in its 802.1Q tag. -/
def arrivesYellow (bs : List (BitVec 8)) : Bool := tagAt bs 12 && byteAt bs 14 / 16 % 2 == 1

/-- DEI set in the outermost tag (R328). -/
def markDei (bs : List (BitVec 8)) : List (BitVec 8) :=
  if tagAt bs 12 ∧ byteAt bs 14 / 16 % 2 = 0 then refcs (patch bs 14 [BitVec.ofNat 8 (byteAt bs 14 + 16)]) else bs

/-! ### MAC and NIC state -/

/-- MAC `n`'s internal state. -/
def State.mac (s : State) (n : Nat) : MacSt := s.macs.getD n MacSt.reset

/-- Change a MAC's internal state. -/
def State.macM (s : State) (n : Nat) (g : MacSt → MacSt) : State := { s with macs := s.macs.modify n g }

/-- NIC function `f + 1`'s internal state. -/
def State.nic (s : State) (f : Nat) : NicSt := s.nics.getD f NicSt.reset

/-- Change a NIC function's internal state. -/
def State.nicM (s : State) (f : Nat) (g : NicSt → NicSt) : State := { s with nics := s.nics.modify f g }

/-- The event group of MAC `n` or, with `nic`, of a NIC function (R338). -/
def ethGroup (n : Nat) (nic : Bool) : Nat := (if nic then 55 else 54) + 2 * n

/-- A Glint joins a MAC's queue (R331): the newest is dropped where 64 are held. -/
def State.glintMac (s : State) (n tsid : Nat) (stamp : Int) : State :=
  if (s.mac n).glints.length < 64 then
    (s.macM n fun m => { m with glints := m.glints ++ [(tsid, stamp)] }).put (F.ETH_GLSTAT_COUNT n) ((s.mac n).glints.length + 1)
  else
    let t := (s.put (F.ETH_GLSTAT_OVF n) 1).bump (F.ETH_GLDROP n)
    if s.bit (F.ETH_GLSTAT_OVF n) then t else t.raise (ethGroup n false) 2 [0]

/-- A Glint joins a NIC function's queue. -/
def State.glintNic (s : State) (f tsid : Nat) (stamp : Int) : State :=
  if (s.nic f).glints.length < 64 then
    (s.nicM f fun m => { m with glints := m.glints ++ [(tsid, stamp)] }).put (F.NIC_GLSTAT_COUNT f) ((s.nic f).glints.length + 1)
  else
    let t := (s.put (F.NIC_GLSTAT_OVF f) 1).bump (F.NIC_GLDROP f)
    if s.bit (F.NIC_GLSTAT_OVF f) then t else (t.raise (ethGroup f true) 2 [0]).msix (f + 1) 16

/-- The stamp of a MAC moved by its receive or transmit correction (R329). -/
def State.macStamp (s : State) (cor : Nat) : Int := s.stamp + wordInt (s.rd cor)

/-- Bytes a MAC's receive buffer holds: frames held back at its tunnels and frames on its local path. -/
def State.macHeld (s : State) (n : Nat) : Nat :=
  (((s.tun.ctxs.filter fun c => c.isEnd && c.ep == 0x4000 + n).map fun c => (c.held.map (·.bytes.length)).sum).sum) +
    ((s.mac n).localRx.map (·.1.length)).sum

/-- PAUSE follows the receive buffer (R326): asked for above 75 % of 128 KiB. -/
def State.pauseCheck (s : State) (n : Nat) : State :=
  let want := s.bit (F.ETH_CTRL_PAUSETX n) && decide (98304 < s.macHeld n)
  if want = (s.mac n).asked then s else (s.macM n fun m => { m with asked := want }).emit (.pause n want)

/-- The event of a PTP frame sent uncorrected, at most once per 1 s. -/
def State.tcSkip (s : State) (n len : Nat) (nic : Bool) : State :=
  if nic then
    if s.due (s.nic n).tcAt 1000000000 then (s.nicM n fun m => { m with tcAt := some s.uptime }).raise (ethGroup n true) 3 [len] else s
  else
    let t := s.bump (F.ETH_TCSKIP n)
    if s.due (s.mac n).tcAt 1000000000 then (t.macM n fun m => { m with tcAt := some s.uptime }).raise (ethGroup n false) 3 [len] else t

/-- Whether an open end of a type stands at an endpoint. -/
def State.openEnd (s : State) (ep typ : Nat) : Bool :=
  match s.endAt ep typ with | some c => c.state == 2 | none => false

/-- Whether a frame takes the ETHERNET_TIME tunnel of an endpoint (R327). -/
def State.takesTime (s : State) (ep : Nat) (bs : List (BitVec 8)) : Bool :=
  (ptpOff bs).isSome && decide (bs.length ≤ 256) && s.openEnd ep 6

/-! ### MACs (R325 to R329, R338) -/

/-- A PAUSE frame is taken in by the MAC (R326): PAUSERX holds transmission for its quanta of 512 bit times. -/
def State.takePause (s : State) (n : Nat) (bs : List (BitVec 8)) : State :=
  if s.bit (F.ETH_CTRL_PAUSERX n) ∧ be16 bs 14 = 1 then
    let mbit := [100, 1000, 2500, 5000, 10000, 25000].getD (s.get (F.ETH_STAT_SPEED n)) 25000
    let ns := be16 bs 16 * 512 * 1000 / mbit
    (s.macM n fun m => { m with pauseEnd := s.uptime + ns }).putBit (F.ETH_STAT_PAUSED n) (ns != 0)
  else s

/-- ETHERNET_FRAME_RECEIVE (R326, R327): checked, classified, and entered into a tunnel or the local path. -/
def execEthernetFrameReceive (n : Nat) (bytes : List (BitVec 8)) (s : State) : Host.Outcome State Fault Refusal :=
  .next (s.whenSerdes fun s => (
    if 2 ≤ n ∨ s.isHost ∨ s.get (F.ETH_CTRL_MODE n) = 0 ∨ !(s.bit (F.ETH_STAT_LINK n)) then s
    else if bytes.length < 64 ∨ 9216 < bytes.length ∨ !(fcsOk bytes) then s.bump (F.ETH_FCSERR n)
    else if be16 bytes 12 = 0x8808 then s.takePause n bytes
    else if 131072 < s.macHeld n + bytes.length then s.bump (F.ETH_RXDROP n)
    else
      let stamp := s.macStamp (A.ETH_RXCOR n)
      let ptp := (ptpOff bytes).isSome
      if ptp ∧ s.bit (F.ETH_CTRL_PTPLOCAL n) then (s.macM n fun m => { m with localRx := m.localRx ++ [(bytes, stamp)] }).pauseCheck n
      else if s.takesTime (0x4000 + n) bytes then
        (s.ingress (0x4000 + n) 6 0x0C (if ptpEvent bytes then ptpCorrect bytes (-stamp) else bytes) false (arrivesYellow bytes)).pauseCheck n
      else ((if ptp then s.tcSkip n bytes.length false else s).ingress (0x4000 + n) 5 0x0C bytes false (arrivesYellow bytes)).pauseCheck n))

/-- A tunnel's frame enters a MAC's transmit buffer (R181, R328): its FCS is checked again, and yellow frames are dropped
while the buffer is more than half full. -/
def State.macDeliver (s : State) (c : TunCtx) (f : Frame) : State :=
  let n := c.ep % 4096
  let used := ((s.mac n).tx.map (·.bytes.length)).sum
  let yel := flagOf f.flags 2
  if !(fcsOk f.payload) then s.bump (F.ETH_FCSERR n)
  else if c.par.typ = 5 ∧ yel ∧ Config.macTxBytes < 2 * used then s.bump (F.ETH_TXDROP n)
  else s.macM n fun m => { m with tx := m.tx ++ [{ bytes := f.payload, time := c.par.typ == 6, yel := yel, tsid := none, local_ := false }] }

/-- ETHERNET_FRAME_TRANSMIT (R328 to R331): the oldest frame of a MAC's transmit buffer leaves. -/
def execEthernetFrameTransmit (n : Nat) (s : State) : Host.Outcome State Fault Refusal :=
  .next (s.whenSerdes fun s => (match (s.mac n).tx with
    | [] => s
    | x :: rest =>
      if s.isHost ∨ s.get (F.ETH_CTRL_MODE n) = 0 ∨ !(s.bit (F.ETH_STAT_LINK n)) ∨ s.uptime < (s.mac n).pauseEnd then s
      else
        let stamp := s.macStamp (A.ETH_TXCOR n)
        let t := s.macM n fun m => { m with tx := rest }
        let bytes := if x.time ∧ ptpEvent x.bytes then ptpCorrect x.bytes stamp
          else if !x.time && x.tsid.isNone && x.yel && s.bit (F.ETH_CTRL_DEIMARK n) then markDei x.bytes else x.bytes
        let t := t.emit (.eth n bytes)
        match x.tsid with
        | some id => t.glintMac n id stamp
        | none => t))

/-- The TID of the ETHERNET tunnel at an endpoint, and its grantee. -/
def State.ethTid (s : State) (ep : Nat) : Nat × Nat :=
  match s.endAt ep 5 with | some c => (c.par.tid, c.par.grant) | none => (0, 0)

/-- The link speeds a MAC mode gives (R325, Table 12-3). -/
def modeSpeeds (mode : Nat) : List Nat := match mode with | 1 => [5] | 2 => [4] | 3 => [0, 1, 2, 3, 4] | _ => []

/-- A MAC's link goes up at a speed, or down, with its event (R338). -/
def State.setMacLink (s : State) (n : Nat) (up : Bool) (speed : Nat) : State :=
  let e := s.ethTid (0x4000 + n)
  let t := s.putBit (F.ETH_STAT_LINK n) up
  let t := if up then t.put (F.ETH_STAT_SPEED n) speed else t
  t.raiseWith (8 * ethGroup n false + (if up then 0 else 1)) false e.2 (if up then [e.1, speed] else [e.1])

/-- A write of ETHn_CTRL: a change of MODE takes the link of the old mode down. -/
def State.writeEthCtrl (s : State) (n : Nat) (v : Word) : State :=
  let t := s.wr (A.ETH_CTRL n) (v &&& 0xFF#32)
  if bitsOf v 0 2 ≠ s.get (F.ETH_CTRL_MODE n) ∧ s.bit (F.ETH_STAT_LINK n) then t.setMacLink n false 0 else t

/-- ETHERNET_LINK_CHANGE (R325, R338): up at a speed of the MAC's mode, or down. -/
def execEthernetLinkChange (n : Nat) (up : Bool) (speed : Nat) (s : State) : Host.Outcome State Fault Refusal :=
  .next (s.whenSerdes fun s => (
    if 2 ≤ n ∨ s.isHost ∨ (up && !((modeSpeeds (s.get (F.ETH_CTRL_MODE n))).contains speed)) ∨
        (up == s.bit (F.ETH_STAT_LINK n) && (!up || s.get (F.ETH_STAT_SPEED n) == speed)) then s
    else s.setMacLink n up speed))

/-! ### MDIO (R340) -/

/-- A write of ETH0_MDIO. -/
def State.writeMdio (s : State) (v : Word) : State :=
  if bitsOf v 31 1 = 0 then s.wr A.ETH_MDIO ((v &&& 0x1FFFFFFF#32) ||| (s.rd A.ETH_MDIO &&& 0x40000000#32))
  else if s.bit F.ETH_MDIO_BUSY ∨ (bitsOf v 26 1 = 0 ∧ (bitsOf v 27 2 = 0 ∨ bitsOf v 27 2 = 3)) then s.bump (F.ETH_IGNWR 0)
  else (s.wr A.ETH_MDIO ((v &&& 0x1FFFFFFF#32) ||| 0x40000000#32)).emit
    (.mdio (bitsOf v 26 1 == 1) (bitsOf v 27 2) (bitsOf v 21 5) (bitsOf v 16 5) (bitsOf v 0 16))

/-- MDIO_FRAME_DONE (R340): BUSY clears; a read stores its data. -/
def execMdioFrameDone (data : Nat) (s : State) : Host.Outcome State Fault Refusal :=
  .next (s.whenSerdes fun s => (if s.bit F.ETH_MDIO_BUSY then
      let t := s.put F.ETH_MDIO_BUSY 0
      if 2 ≤ s.get F.ETH_MDIO_OP then t.put F.ETH_MDIO_DATA data else t
    else s))

/-! ### NIC functions (R333 to R335, R341) -/

/-- NICf_STAT follows the tunnels and the far MAC's link (R335), with the link event and vector 16. -/
def State.nicRefresh (s : State) : State :=
  if !s.isHost then s
  else [0, 1].foldl (fun t f =>
    let e := t.openEnd (0x5001 + f) 5
    let up := e && (t.nic f).farUp
    let was := t.bit (F.NIC_STAT_LINK f)
    let u := (((t.putBit (F.NIC_STAT_ETUN f) e).putBit (F.NIC_STAT_TTUN f) (t.openEnd (0x5001 + f) 6)).putBit (F.NIC_STAT_LINK f) up).put
      (F.NIC_STAT_SPEED f) (t.nic f).farSpeed
    if up = was then u
    else
      let id := (t.ethTid (0x5001 + f)).1
      (u.raise (ethGroup f true) (if up then 0 else 1) (if up then [id, (t.nic f).farSpeed] else [id])).msix (f + 1) 16) s

/-- A far MAC's link event reaches the host bridge of end A (R335). -/
def State.hearLink (s : State) (r : EvRec) : State :=
  let g := r.evnum / 8
  if (g = 54 ∨ g = 56) ∧ r.evnum % 8 ≤ 1 then
    match [0, 1].find? fun f => (s.ethTid (0x5001 + f)).1 == byteAt r.data 0 + 256 * byteAt r.data 1 && (s.endAt (0x5001 + f) 5).isSome with
    | some f => (s.nicM f fun n => { n with farUp := r.evnum % 8 == 0, farSpeed := if r.evnum % 8 = 0 then byteAt r.data 2 else n.farSpeed }).nicRefresh
    | none => s
  else s

/-- A NIC queue's internal state. -/
def State.nicQ (s : State) (f : Nat) (tx : Bool) (q : Nat) : NicQ :=
  match (s.nic f).queues.find? fun x => x.tx == tx && x.q == q with
  | some x => x
  | none => { tx := tx, q := q, total := 0, posted := [] }

/-- Replace a NIC queue's internal state. -/
def State.setNicQ (s : State) (f : Nat) (x : NicQ) : State :=
  s.nicM f fun n => { n with queues := putBy (fun y => y.tx == x.tx && y.q == x.q) x n.queues }

/-- The address of a NIC queue's registers. -/
def nicBase (f : Nat) (tx : Bool) (q : Nat) : Nat := if tx then A.NIC_TXQ_BASELO f q else A.NIC_RXQ_BASELO f q

/-- A field of a NIC queue: offset in its registers, first bit, width. -/
def nicFld (f : Nat) (tx : Bool) (q off lo w : Nat) : Fld := ⟨nicBase f tx q + off, lo, w⟩

/-- Entries of a NIC queue. -/
def State.nicCap (s : State) (f : Nat) (tx : Bool) (q : Nat) : Nat := 2 ^ s.get (nicFld f tx q 8 8 5)

/-- A write of a NIC queue's CFG (R341): enabling starts the ring again. -/
def State.writeNicCfg (s : State) (f : Nat) (tx : Bool) (q : Nat) (v : Word) : State :=
  if 4 ≤ bitsOf v 8 5 ∧ bitsOf v 8 5 ≤ 16 then
    let t := s.wr (nicBase f tx q + 8) (v &&& 0x00401F01#32)
    if bitsOf v 0 1 = 1 ∧ s.get (nicFld f tx q 8 0 1) = 0 then
      (t.wr (nicBase f tx q + 0x10) 0).setNicQ f { tx := tx, q := q, total := 0, posted := [] }
    else if bitsOf v 0 1 = 0 then (if tx then t.offerGone q (0x5001 + f) else t).setNicQ f { s.nicQ f tx q with posted := [] }
    else t
  else s.tally F.GLB_IGNWR

/-- NIC_QUEUE_ENABLE (R341). -/
def execNicQueueEnable (f : Nat) (tx : Bool) (q : Nat) (v : Word) (s : State) : Host.Outcome State Fault Refusal :=
  .next (s.whenSerdes fun s => (if s.fnOpen ∧ f < 2 ∧ q < 16 then s.writeNicCfg f tx q v else s))

/-- A NIC queue's doorbell (R87, R333): a bad one is counted in GLB_DBIGN. -/
def State.nicDoorbell (s : State) (f : Nat) (tx : Bool) (q : Nat) (v : Word) (bufs : List NicBuf) : State :=
  let dev := s.get (nicFld f tx q 0x10 0 16)
  if s.get (nicFld f tx q 8 0 1) = 0 ∨ bitsOf v 16 16 ≠ 0 ∨ s.nicCap f tx q < idxDiff (bitsOf v 0 16) dev then s.tally F.GLB_DBIGN
  else
    let t := s.put (nicFld f tx q 0x10 16 16) (bitsOf v 0 16)
    if tx then t else t.setNicQ f { t.nicQ f tx q with posted := (t.nicQ f tx q).posted ++ bufs }

/-- The host address of the descriptor a NIC queue has reached (R84). -/
def State.nicSlot (s : State) (f : Nat) (tx : Bool) (q : Nat) : Nat :=
  (s.rd (nicBase f tx q)).toNat + 2 ^ 32 * (s.rd (nicBase f tx q + 4)).toNat + 32 * ((s.nicQ f tx q).total % s.nicCap f tx q)

/-- The bytes written into a NIC descriptor (Table 12-4), STATUS and PHASE last. -/
def State.nicBack (s : State) (f : Nat) (tx : Bool) (q phase status len hash : Nat) (stamp : Int) (flags : Nat) : List Out :=
  let a := s.nicSlot f tx q
  (if tx then [] else [.hostWrite (a + 0x0A) (leBytes 2 len ++ leBytes 4 hash ++ ts12 stamp ++ leBytes 1 flags)]) ++
    [.hostWrite (a + 0x1E) (leBytes 1 status ++ leBytes 1 phase)]

/-- Write a NIC descriptor back and advance the queue. -/
def State.nicWriteback (s : State) (f : Nat) (tx : Bool) (q status len hash : Nat) (stamp : Int) (flags : Nat) : State :=
  let x := s.nicQ f tx q
  let phase := (x.total / s.nicCap f tx q + 1) % 2
  let t := (((s.emits (s.nicBack f tx q phase status len hash stamp flags)).emit
    (.nicWriteback (f + 1) tx q (s.get (nicFld f tx q 0x10 0 16)) phase status len hash stamp flags)).setNicQ
    f { x with total := x.total + 1 }).addMod (nicFld f tx q 0x10 0 16) 1
  if t.get (nicFld f tx q 8 22 1) = 1 then t.msix (f + 1) q else t

/-- NIC_TX_DESCRIPTOR (R333): the next transmit descriptor of a queue; one whose frame must wait is not taken yet. -/
def execNicTxDescriptor (f q : Nat) (d : NicTx) (s : State) : Host.Outcome State Fault Refusal :=
  .next (s.whenSerdes fun s => (
    let waiting := idxDiff (s.get (nicFld f true q 0x10 16 16)) (s.get (nicFld f true q 0x10 0 16))
    if !s.isHost ∨ 2 ≤ f ∨ 16 ≤ q ∨ !(s.bit (F.NIC_CTRL_EN f)) ∨ s.get (nicFld f true q 8 0 1) = 0 ∨ waiting = 0 then s
    else if d.len < 60 ∨ 9212 < d.len then s.nicWriteback f true q 0x03 0 0 0 0
    else
      let bytes := NicTx.frame d ++ fcsOf (NicTx.frame d)
      let ep := 0x5001 + f
      let time := s.takesTime ep bytes
      let typ := if time then 6 else 5
      let yel := arrivesYellow bytes
      match s.offerRing q ep typ bytes.length yel with
      | (t, 1) => t
      | (_, 2) => s.nicWriteback f true q 0x07 0 0 0 0
      | (_, 3) => (s.ingress ep typ 0x0C bytes false yel).nicWriteback f true q 0x03 0 0 0 0
      | (t, _) =>
        let t := t.emit (.hostRead d.addr d.len)
        let t := if !time && (ptpOff bytes).isSome then t.tcSkip f bytes.length true else t
        let t := t.ingressOf (some q) ep typ 0x0C (if time ∧ ptpEvent bytes then ptpCorrect bytes (-s.stamp) else bytes) false yel
        let t := if d.tsreq then t.glintNic f d.tsid s.stamp else t
        t.nicWriteback f true q 0 0 0 0 0))

/-- The Toeplitz hash of a byte string under a 40-byte key (R334). -/
def toeplitz (key : Nat) (bs : List (BitVec 8)) : Nat :=
  ((List.range (8 * bs.length)).foldl (fun (a : BitVec 32) i =>
    if byteAt bs (i / 8) / 2 ^ (7 - i % 8) % 2 = 1 then a ^^^ BitVec.ofNat 32 (key / 2 ^ (288 - i)) else a) 0).toNat

/-- The 40-byte key as one number, byte 0 first. -/
def State.rssKey (s : State) (f : Nat) : Nat := beNat ((List.range 10).flatMap fun w => leBytes 4 (s.rd (A.NIC_RSSKEY f w)).toNat)

/-- What the hash covers (R334): the IP addresses, and the TCP or UDP ports where present. -/
def rssInput (bs : List (BitVec 8)) : Option (List (BitVec 8)) :=
  let t := typeOff bs
  if be16 bs t = 0x0800 then
    let l4 := t + 2 + 4 * (byteAt bs (t + 2) % 16)
    some (slice bs (t + 14) 8 ++ if byteAt bs (t + 11) = 6 ∨ byteAt bs (t + 11) = 17 then slice bs l4 4 else [])
  else if be16 bs t = 0x86DD then
    some (slice bs (t + 10) 32 ++ if byteAt bs (t + 8) = 6 ∨ byteAt bs (t + 8) = 17 then slice bs (t + 42) 4 else [])
  else none

/-- The queue a received frame goes to, and its hash (R334). -/
def State.rssQueue (s : State) (f : Nat) (bs : List (BitVec 8)) : Nat × Nat :=
  match (if s.bit (F.NIC_CTRL_RSSEN f) ∧ (ptpOff bs).isNone then rssInput bs else none) with
  | some x =>
    let h := toeplitz (s.rssKey f) x
    (s.get ⟨A.NIC_RETA f (h % 128 / 8), 4 * (h % 8), 4⟩, h)
  | none => (s.get (F.NIC_CTRL_PTPQ f), 0)

/-- Whether a NIC function accepts a frame's destination address (NICf_CTRL.PROMISC). -/
def State.nicAccepts (s : State) (f : Nat) (bs : List (BitVec 8)) : Bool :=
  byteAt bs 0 % 2 == 1 || s.bit (F.NIC_CTRL_PROMISC f) ||
    bs.take 6 == leBytes 4 (s.rd (A.NIC_MACLO f)).toNat ++ leBytes 2 (s.rd (A.NIC_MACHI f)).toNat

/-- A tunnel's frame reaches a NIC function (R330, R333, R334): written to the next posted buffer; without one, class 5 is
dropped and class 6 waits (the answer is then false). -/
def State.nicDeliver (s : State) (c : TunCtx) (fr : Frame) : State × Bool :=
  let f := c.ep % 4096 - 1
  if !(fcsOk fr.payload) then (s.bump (F.NIC_RXDROP f), true)
  else if !(s.nicAccepts f fr.payload) then (s, true)
  else
    let (q, hash) := s.rssQueue f fr.payload
    match (if s.bit (F.NIC_CTRL_EN f) ∧ s.get (nicFld f false q 8 0 1) = 1 then (s.nicQ f false q).posted else []) with
    | [] => if c.par.typ = 5 then (s.bump (F.NIC_RXDROP f), true) else (s, false)
    | b :: rest =>
      let t := s.setNicQ f { s.nicQ f false q with posted := rest }
      let cor := c.par.typ = 6 ∧ ptpEvent fr.payload
      let bytes := if cor then ptpCorrect fr.payload s.stamp else fr.payload
      let flags := (if (ptpOff bytes).isSome then 1 else 0) + (if flagOf fr.flags 2 then 2 else 0) + (if cor then 4 else 0)
      if b.cap < bytes.length then (t.nicWriteback f false q 0x03 bytes.length 0 0 0, true)
      else ((t.emit (.hostWrite b.addr bytes)).nicWriteback f false q 0 bytes.length hash s.stamp flags, true)

/-! ### Glint reads (R331) -/

/-- A read of GLINT word 0 of MAC `n`: the oldest Glint moves into the GLINT words. -/
def State.popMac (s : State) (n : Nat) : State :=
  match (s.mac n).glints with
  | [] => s.put (F.ETH_GLINT0_VALID n) 0
  | (id, st) :: rest =>
    let x := st.toNat
    (((((((s.macM n fun m => { m with glints := rest }).put (F.ETH_GLSTAT_COUNT n) rest.length).put (F.ETH_GLINT0_TSID n) id).put
      (F.ETH_GLINT0_VALID n) 1).put (F.ETH_GLINT0_FRAC n) x).wr (A.ETH_GLINT1 n) (BitVec.ofNat 32 (x / 65536 % 1000000000))).wr
      (A.ETH_GLINT2 n) (BitVec.ofNat 32 (x / 65536 / 1000000000))).wr (A.ETH_GLINT3 n) (BitVec.ofNat 32 (x / 65536 / 1000000000 / 2 ^ 32 % 65536))

/-- A read of GLINT word 0 of NIC function `f + 1`. -/
def State.popNic (s : State) (f : Nat) : State :=
  match (s.nic f).glints with
  | [] => s.put (F.NIC_GLINT0_VALID f) 0
  | (id, st) :: rest =>
    let x := st.toNat
    (((((((s.nicM f fun m => { m with glints := rest }).put (F.NIC_GLSTAT_COUNT f) rest.length).put (F.NIC_GLINT0_TSID f) id).put
      (F.NIC_GLINT0_VALID f) 1).put (F.NIC_GLINT0_FRAC f) x).wr (A.NIC_GLINT1 f) (BitVec.ofNat 32 (x / 65536 % 1000000000))).wr
      (A.NIC_GLINT2 f) (BitVec.ofNat 32 (x / 65536 / 1000000000))).wr (A.NIC_GLINT3 f) (BitVec.ofNat 32 (x / 65536 / 1000000000 / 2 ^ 32 % 65536))

end Sys2Proof.Machine
end

