-- ==== Sys2Proof/Machine/Lode.lean ====
section
/-! DEFINITION. The Lode codec (R271 to R275), the tile hash (R260), fragments (R269, R270) and pixel words (R256, R259). -/

namespace Sys2Proof.Machine

/-! ### Pixel words -/

/-- A pixel word (R259). -/
def pixWord (x : Pix) : Word := BitVec.ofNat 32 (x.c0 % 1024 * 2 ^ 20 + x.c1 % 1024 * 2 ^ 10 + x.c2 % 1024)

/-- The components of a pixel word. -/
def wordPix (w : Word) : Pix := { c0 := w.toNat / 2 ^ 20 % 1024, c1 := w.toNat / 2 ^ 10 % 1024, c2 := w.toNat % 1024 }

/-- A component as it arrives at a BPC code, widened to 10 bits (R256). -/
def widen (bpc v : Nat) : Nat := match bpc with | 0 => v * 16 + v / 4 | 1 => v * 4 + v / 64 | _ => v

/-- An input pixel as its pixel word. -/
def inputPix (bpc : Nat) (x : Pix) : Word := pixWord { c0 := widen bpc x.c0, c1 := widen bpc x.c1, c2 := widen bpc x.c2 }

/-- A push pixel as its pixel word (Table 10-2): format 0 holds 8-bit B, G, R, X bytes. -/
def pushPix (format : Nat) (w : BitVec 32) : Word :=
  if format = 0 then inputPix 1 { c0 := w.toNat / 65536 % 256, c1 := w.toNat / 256 % 256, c2 := w.toNat % 256 } else w &&& 0x3FFFFFFF#32

/-- The four bytes of a word. -/
def wordBytes (w : Word) : List (BitVec 8) := leBytes 4 w.toNat

/-- A tile's hash (R260): CRC-64 over its pixel words in row order. -/
def crc64 (bs : List (BitVec 8)) : BitVec 64 :=
  bs.foldl (fun c b => crcStepsMsb 0x42F0E1EBA9EA3693#64 8 (c ^^^ ((BitVec.setWidth 64 b) <<< (56 : Nat)))) 0

/-- The words of tile (tx, ty) of a picture of `w` by `h` (R258), whose pixel at column x and row y is `px x y`. -/
def cutTile (px : Nat → Nat → Word) (w h tx ty : Nat) : List (List Word) :=
  (List.range (min 64 (h - 64 * ty))).map fun y => (List.range (min 64 (w - 64 * tx))).map fun x => px (64 * tx + x) (64 * ty + y)

/-- The bytes of a tile's lines. -/
def tileBytes (lines : List (List Word)) : List (BitVec 8) := lines.flatMap fun l => l.flatMap wordBytes

/-! ### Prediction (R272) -/

/-- The transformed components of a pixel. -/
def lodeD (x : Pix) : Pix := { c0 := (x.c0 + 1024 - x.c1) % 1024, c1 := x.c1, c2 := (x.c2 + 1024 - x.c1) % 1024 }

/-- The pixel of transformed components. -/
def lodeInv (d : Pix) : Pix := { c0 := (d.c0 + d.c1) % 1024, c1 := d.c1, c2 := (d.c2 + d.c1) % 1024 }

/-- The median edge predictor. -/
def medPred (a b c : Nat) : Nat := if max a b ≤ c then min a b else if c ≤ min a b then max a b else a + b - c

/-- The prediction of one component from its left, above and above-left neighbours, where they stand. -/
def lodePred (a b c : Option Nat) : Nat :=
  match a, b, c with
  | none, none, _ => 512
  | some a, none, _ => a
  | none, some b, _ => b
  | some a, some b, c => medPred a b (c.getD b)

/-- The mapped residual of a component (R273). -/
def lodeV (x pred : Nat) : Nat :=
  let e := (x + 1024 - pred) % 1024
  if e < 512 then 2 * e else 2 * (1024 - e) - 1

/-- The component a mapped residual gives. -/
def lodeX (v pred : Nat) : Nat := if v % 2 = 1 then (pred + 8192 - (v + 1) / 2) % 1024 else (pred + v / 2) % 1024

/-- The residuals of a line: left and above-left neighbours, the line above from here on, and the line's pixels. -/
def lodeLine : Option Pix → Option Pix → Option (List Pix) → List Pix → List Pix
  | _, _, _, [] => []
  | a, c, up, x :: xs =>
    let b := up.bind List.head?
    { c0 := lodeV x.c0 (lodePred (a.map (·.c0)) (b.map (·.c0)) (c.map (·.c0))),
      c1 := lodeV x.c1 (lodePred (a.map (·.c1)) (b.map (·.c1)) (c.map (·.c1))),
      c2 := lodeV x.c2 (lodePred (a.map (·.c2)) (b.map (·.c2)) (c.map (·.c2))) } :: lodeLine (some x) b (up.map List.tail) xs

/-! ### Rice codes (R273) -/

/-- The low `n` bits of a number, most significant first. -/
def bitList : Nat → Nat → List Bool
  | 0, _ => []
  | n + 1, v => (v / 2 ^ n % 2 == 1) :: bitList n v

/-- The code of a value under a parameter. -/
def rice (k v : Nat) : List Bool :=
  if v / 2 ^ k < 16 then List.replicate (v / 2 ^ k) true ++ [false] ++ bitList k v else List.replicate 16 true ++ bitList 10 v

/-- The number a list of bits spells. -/
def bitsNat (l : List Bool) : Nat := l.foldl (fun a b => 2 * a + if b then 1 else 0) 0

/-- Bits as bytes, each filled from its most significant bit and padded with zeros. -/
def packBits : Nat → List Bool → List (BitVec 8)
  | 0, _ => []
  | _ + 1, [] => []
  | n + 1, b :: bs =>
    let l := (b :: bs).take 8
    BitVec.ofNat 8 (bitsNat (l ++ List.replicate (8 - l.length) false)) :: packBits n ((b :: bs).drop 8)

/-- The bits of bytes. -/
def unpackBits (bs : List (BitVec 8)) : List Bool := bs.flatMap fun b => bitList 8 b.toNat

/-- Read one value. -/
def readRice (k : Nat) (bits : List Bool) : Option (Nat × List Bool) :=
  let q := (bits.takeWhile id).length
  if 16 ≤ q then
    let r := bits.drop 16
    if r.length < 10 then none else some (bitsNat (r.take 10), r.drop 10)
  else
    let r := bits.drop (q + 1)
    if bits.length ≤ q ∨ r.length < k then none else some (q * 2 ^ k + bitsNat (r.take k), r.drop k)

/-! ### Encoder (R274) -/

/-- The parameter that codes a component of a line shortest. -/
def bestK (vs : List Nat) : Nat :=
  let len := fun k => (vs.map fun v => (rice k v).length).sum
  let least := ((List.range 10).map len).min?.getD 0
  let ks := (List.range 10).filter fun k => len k == least
  ks.getD (Config.pick ks % ks.length) 0

/-- A line header (Table 10-4) with its data. -/
def lineRecord (mode k1 k0 k2 : Nat) (data : List (BitVec 8)) : List (BitVec 8) :=
  leBytes 4 (mode + 4 * k1 + 64 * k0 + 1024 * k2 + 65536 * data.length) ++ data

/-- One line coded: SOLID, REPEAT, CODED, or RAW where CODED is too long. -/
def encodeLine (up : Option (List Word)) (line : List Word) : List (BitVec 8) :=
  if line.all (· == line.headD 0) then lineRecord 3 0 0 0 (wordBytes (line.headD 0))
  else if up = some line then lineRecord 2 0 0 0 []
  else
    let vs := lodeLine none none (up.map fun u => u.map fun w => lodeD (wordPix w)) (line.map fun w => lodeD (wordPix w))
    let k0 := bestK (vs.map (·.c0))
    let k1 := bestK (vs.map (·.c1))
    let k2 := bestK (vs.map (·.c2))
    let bits := vs.flatMap fun v => rice k1 v.c1 ++ rice k0 v.c0 ++ rice k2 v.c2
    let data := packBits bits.length bits
    if data.length ≤ 4 * line.length then lineRecord 0 k1 k0 k2 data else lineRecord 1 0 0 0 (line.flatMap wordBytes)

/-- A tile's lines coded in order. -/
def encodeTile : Option (List Word) → List (List Word) → List (BitVec 8)
  | _, [] => []
  | up, l :: ls => encodeLine up l ++ encodeTile (some l) ls

/-! ### Decoder (R271 to R275) -/

/-- The pixels of a CODED line. -/
def decodeCoded (k0 k1 k2 : Nat) : Nat → Option Pix → Option Pix → Option (List Pix) → List Bool → Option (List Pix × List Bool)
  | 0, _, _, _, bits => some ([], bits)
  | n + 1, a, c, up, bits =>
    let b := up.bind List.head?
    match readRice k1 bits with
    | none => none
    | some (v1, r1) =>
      match readRice k0 r1 with
      | none => none
      | some (v0, r0) =>
        match readRice k2 r0 with
        | none => none
        | some (v2, r2) =>
          let x : Pix := {
            c0 := lodeX v0 (lodePred (a.map (·.c0)) (b.map (·.c0)) (c.map (·.c0))),
            c1 := lodeX v1 (lodePred (a.map (·.c1)) (b.map (·.c1)) (c.map (·.c1))),
            c2 := lodeX v2 (lodePred (a.map (·.c2)) (b.map (·.c2)) (c.map (·.c2))) }
          match decodeCoded k0 k1 k2 n (some x) b (up.map List.tail) r2 with
          | some (l, r) => some (x :: l, r)
          | none => none

/-- Words of bytes. -/
def bytesWords : Nat → List (BitVec 8) → List Word
  | 0, _ => []
  | n + 1, bs => BitVec.ofNat 32 (leNat (bs.take 4)) :: bytesWords n (bs.drop 4)

/-- One line record of a tile of width `tw`: the line and what follows it. -/
def decodeLine (tw : Nat) (up : Option (List Word)) (bs : List (BitVec 8)) : Option (List Word × List (BitVec 8)) :=
  let h := leNat (bs.take 4)
  let mode := h % 4
  let k1 := h / 4 % 16
  let k0 := h / 64 % 16
  let k2 := h / 1024 % 16
  let len := h / 65536 % 16384
  let data := (bs.drop 4).take len
  let rest := (bs.drop 4).drop len
  if bs.length < 4 ∨ data.length < len ∨ h / 16384 % 4 ≠ 0 ∨ h / 2 ^ 30 ≠ 0 ∨ 9 < k0 ∨ 9 < k1 ∨ 9 < k2 ∨ (mode ≠ 0 ∧ k0 + k1 + k2 ≠ 0) then none
  else
    match mode with
    | 1 => if len = 4 * tw then some (bytesWords tw data, rest) else none
    | 2 => match up with
      | some u => if len = 0 then some (u, rest) else none
      | none => none
    | 3 => if len = 4 then some (List.replicate tw (BitVec.ofNat 32 (leNat data)), rest) else none
    | _ =>
      if 4 * tw < len then none
      else
        match decodeCoded k0 k1 k2 tw none none (up.map fun u => u.map fun w => lodeD (wordPix w)) (unpackBits data) with
        | some (l, left) => if left.length < 8 then some (l.map fun d => pixWord (lodeInv d), rest) else none
        | none => none

/-- The lines of a tile: its records end exactly at the data's end (R275). -/
def decodeTile (tw : Nat) : Nat → Option (List Word) → List (BitVec 8) → Option (List (List Word))
  | 0, _, bs => if bs = [] then some [] else none
  | n + 1, up, bs =>
    match decodeLine tw up bs with
    | none => none
    | some (l, rest) => (decodeTile tw n (some l) rest).map fun ls => l :: ls

/-! ### Fragments (R269, R270) -/

/-- The pieces of 9,328 bytes a tile's data is sent in. -/
def pieces : Nat → List (BitVec 8) → List (List (BitVec 8))
  | 0, _ => []
  | n + 1, bs => if bs.length ≤ 9328 then [bs] else bs.take 9328 :: pieces n (bs.drop 9328)

/-- A fragment header (Table 10-3). -/
def fragHeader (coding frag nfrag frame tx ty tw th : Nat) : List (BitVec 8) :=
  [1, coding, frag, nfrag].map (BitVec.ofNat 8) ++ leBytes 4 frame ++ leBytes 2 tx ++ leBytes 2 ty ++ leBytes 1 tw ++ leBytes 1 th ++ leBytes 2 0

/-- The fragments of a tile, each with its LAST mark. -/
def fragments (coding frame tx ty tw th : Nat) (data : List (BitVec 8)) : List (List (BitVec 8) × Bool) :=
  let ps := pieces (data.length / 9328 + 1) data
  ps.zipIdx.map fun e => (fragHeader coding e.2 ps.length frame tx ty tw th ++ e.1, e.2 + 1 == ps.length)

/-- A display control record (R292). -/
def dispRecord (type : Nat) (body : List (BitVec 8)) : List (BitVec 8) :=
  leBytes 1 type ++ leBytes 1 1 ++ leBytes 2 body.length ++ body

/-- The body of a display control record whose VERSION and BODYLEN are right, with its TYPE. -/
def readRecord (bs : List (BitVec 8)) : Option (Nat × List (BitVec 8)) :=
  if 4 ≤ bs.length ∧ byteAt bs 1 = 1 ∧ leNat (slice bs 2 2) = bs.length - 4 then some (byteAt bs 0, bs.drop 4) else none

/-! ### DSC picture parameter sets (VESA DSC) -/

/-- Slice height and width, chunk size, bits per pixel in sixteenths. -/
def ppsSlice (pps : List (BitVec 8)) : Nat × Nat × Nat × Nat :=
  (beNat (slice pps 10 2), beNat (slice pps 12 2), beNat (slice pps 14 2), byteAt pps 4 % 4 * 256 + byteAt pps 5)

/-- Slots of 16 KiB a slice takes (R287). -/
def sliceSpan (pps : List (BitVec 8)) : Nat := ((ppsSlice pps).2.2.1 * (ppsSlice pps).1 + 16383) / 16384

/-- Payload of one lane in bit/s at a rate code: 8b/10b up to HBR3, 128b/132b above. -/
def laneRate (rate : Nat) : Rat :=
  match rate with
  | 0 => 1296000000 | 1 => 2160000000 | 2 => 4320000000 | 3 => 6480000000
  | 4 => 10000000000 * 128 / 132 | 5 => 13500000000 * 128 / 132 | _ => 20000000000 * 128 / 132

/-- Rounded-up quotient. -/
def ceilDiv (a b : Nat) : Nat := (a + b - 1) / b

/-- Columns and rows of tiles, or of slices (R258, R287). -/
def gridOf (w h : Nat) (dsc : Bool) (pps : List (BitVec 8)) : Nat × Nat :=
  if dsc then (ceilDiv w (max 1 (ppsSlice pps).2.1), ceilDiv h (max 1 (ppsSlice pps).1)) else (ceilDiv w 64, ceilDiv h 64)

end Sys2Proof.Machine
end

