-- ==== Sys2Proof/Machine/Capture.lean ====
section
/-! DEFINITION. Tile sources (chapter 10): inputs, damage detection, the push path, and how tiles and records enter the
DISPLAY tunnel. Source 0 and 1 are the inputs, 2 to 5 the push streams. -/

namespace Sys2Proof.Machine

/-- A source's internal state. -/
def State.src (s : State) (k : Nat) : SrcSt := s.srcs.getD k SrcSt.reset

/-- Change a source's internal state. -/
def State.srcM (s : State) (k : Nat) (g : SrcSt → SrcSt) : State := { s with srcs := s.srcs.modify k g }

/-- A source's endpoint. -/
def srcEp (k : Nat) : Nat := 0x2000 + k

/-- The DISPLAY tunnel's end at a source. -/
def State.srcEnd (s : State) (k : Nat) : Option TunCtx := s.endAt (srcEp k) 4

/-- The source's frame number register: DSC_INk_FRAME, or PUSHk_FRAME. -/
def frameReg (k : Nat) : Fld := if k < 2 then F.DSC_IN_FRAME k else F.PUSH_FRAME_FRAME (k - 2)

/-- What a frame has sent so far. -/
def SrcSt.sum (x : SrcSt) (n : Nat) : FrameSum :=
  match x.sums.find? fun f => f.frame == n with
  | some f => f
  | none => { frame := n, sent := 0, incompl := false, prot := false }

/-- Change what a frame has sent. -/
def SrcSt.setSum (x : SrcSt) (f : FrameSum) : SrcSt := { x with sums := putBy (fun y => y.frame == f.frame) f x.sums }

/-- A reflection entry takes a hash (R261). -/
def SrcSt.reflect (x : SrcSt) (t : Nat) (h : BitVec 64) : SrcSt := { x with refl := putBy (fun e => e.1 == t) (t, h) x.refl }

/-- The FRAME_END record of a frame (Table 11-2). -/
def SrcSt.endRecord (x : SrcSt) (n : Nat) : List (BitVec 8) :=
  let f := x.sum n
  dispRecord 2 (leBytes 4 n ++ leBytes 4 f.sent ++ leBytes 1 ((if f.incompl then 1 else 0) + (if f.prot then 2 else 0)) ++ leBytes 3 0)

/-! ### Push rings (R265) -/

/-- Entries of a push ring. -/
def State.pushCap (s : State) (k : Nat) : Nat := 2 ^ s.get (F.PUSH_CFG_LOG2SZ k)

/-- The host address of the descriptor a push ring has reached (R84). -/
def State.pushSlot (s : State) (k : Nat) : Nat :=
  4096 * s.get (F.PUSH_BASELO_BASE k) + 2 ^ 32 * s.get (F.PUSH_BASEHI_BASE k) + 64 * ((s.src (k + 2)).total % s.pushCap k)

/-- Write a push descriptor back (R267): STATUS and WBFLAGS in place, and the vector where IEN is 1. -/
def State.pushWriteback (s : State) (k status : Nat) : State :=
  let x := s.src (k + 2)
  let phase := (x.total / s.pushCap k + 1) % 2
  let t := (s.emit (.hostWrite (s.pushSlot k + 6) (leBytes 1 status ++ leBytes 1 phase))).emit
    (.pushWriteback k (s.get (F.PUSH_IDX_DEVIDX k)) phase status)
  let t := (t.srcM (k + 2) fun y => { y with total := y.total + 1 }).addMod (F.PUSH_IDX_DEVIDX k) 1
  if t.bit (F.PUSH_CFG_IEN k) then t.msix 3 (t.get (F.PUSH_CFG_VEC k)) else t

/-- Whether an entry of a source's queue is the end of a push descriptor. -/
def SrcItem.isEnd : SrcItem → Bool
  | .pushEnd _ => true
  | _ => false

/-! ### Content protection (R278) -/

/-- Whether the link key a port sends under holds the content-protection usage (R475, R479). -/
def State.linkCp (s : State) (p : Nat) : Bool :=
  let k := (s.link p).key
  k.txOn && k.keyTx.any fun e => e.1 == k.txPhase && (match (s.slotAt e.2).key with | some v => polBit v.policy 2 | none => false)

/-- Whether a DISPLAY tunnel has ENC set and every link on its route holds keys with the content-protection usage (R278): this device's own
by its key's policy, the others by the graph, whose encrypted links hold keys of the same roots. -/
def State.protRoute (s : State) (c : TunCtx) : Bool :=
  c.par.enc && (c.local_ || (match s.egressOf c with
    | none => false
    | some p => s.linkCp p && (walk (s.fab.graph.routes c.far) 64 s.fid).all fun e =>
        s.fab.graph.links.any fun l => l.enc && ((l.a == e.x && l.ap == e.port) || (l.b == e.x && l.bp == e.port))))

/-- The frame number a waiting tile belongs to. -/
def SrcItem.frame : SrcItem → Nat
  | .tile _ _ _ fr _ _ => fr
  | _ => 0

/-- Whether a source's head tile carries protected content. -/
def SrcSt.headProt (x : SrcSt) : Bool :=
  match x.items with
  | .tile _ _ _ _ _ ((b, _) :: _) :: _ => byteAt b 1 / 4 % 2 == 1
  | _ => false

/-- Protected tiles of a frame are not admitted: BLOCKED, DSC_PROTBLK, and the event once a frame. -/
def State.protBlocked (s : State) (k fr n : Nat) : State :=
  let t := (s.put (F.DSC_IN_STAT_BLOCKED k) 1).bumpBy F.DSC_PROTBLK n
  if (s.src k).blockSaid.contains fr then t
  else (t.srcM k fun y => { y with blockSaid := fr :: y.blockSaid.filter fun f => y.items.any fun i => i.frame == f }).raise 47 4 [k, 0, 0, 0]

/-! ### Admission (R261, R267, TILE_ADMISSION) -/

/-- The payload at the head of a source's queue and its KIND and LAST mark. -/
def SrcSt.headFrame (x : SrcSt) : Option (List (BitVec 8) × Nat × Bool) :=
  match x.items with
  | .tile _ _ _ _ _ ((b, l) :: _) :: _ => some (b, 0x0D, l)
  | .record b :: _ => some (b, 0x0E, false)
  | .frameEnd n :: _ => some (x.endRecord n, 0x0E, false)
  | _ => none

/-- What follows when the head frame has been admitted. -/
def State.headDone (s : State) (k : Nat) : State :=
  let x := s.src k
  match x.items with
  | .tile t h bd fr _ (_ :: f :: fs) :: rest => s.srcM k fun y => { y with items := .tile t h bd fr true (f :: fs) :: rest }
  | .tile t h _ fr _ _ :: rest =>
    let u := s.srcM k fun y =>
      let y := { y with items := rest }
      let y := y.setSum { y.sum fr with sent := (y.sum fr).sent + 1, prot := (y.sum fr).prot || x.headProt }
      match h with | some v => y.reflect t v | none => y
    if k < 2 then u.addMod (F.DSC_IN_TILES k) 1 else u
  | .frameEnd n :: rest =>
    let u := s.srcM k fun y => { y with items := rest, sums := y.sums.filter fun f => f.frame != n }
    if 2 ≤ k then u.addMod (frameReg k) 1 else u
  | _ :: rest => s.srcM k fun y => { y with items := rest }
  | [] => s

/-- Admit what a source holds, in order, as far as its tunnel takes it; protected tiles only while R278 lets them go. -/
def State.pump : Nat → Nat → State → State
  | 0, _, s => s
  | n + 1, k, s =>
    match (s.src k).items with
    | [] => s
    | .pushEnd _ :: rest => State.pump n k ((s.srcM k fun y => { y with items := rest }).pushWriteback (k - 2) 0)
    | item :: rest =>
      match (s.src k).headFrame with
      | none => s
      | some (b, kind, last) =>
        if (s.src k).headProt && !((s.srcEnd k).any s.protRoute) then
          State.pump n k ((s.srcM k fun y => { y with items := rest }).protBlocked k item.frame 1)
        else
          match s.offerRing 0 (srcEp k) 4 b.length false with
          | (t, 0) => State.pump n k ((t.ingressOf (some 0) (srcEp k) 4 kind b last false).headDone k)
          | (t, _) => t

/-- The frames a source holds. -/
def SrcSt.load (x : SrcSt) : Nat :=
  (x.items.map fun i => match i with | .tile _ _ _ _ _ fs => fs.length + 1 | _ => 1).sum

/-- Admit as much of a source's queue as passes now. -/
def State.pumpAll (s : State) (k : Nat) : State := State.pump ((s.src k).load + 1) k s

/-- TILE_ADMISSION (R261): what waits at a source is offered to its tunnel again. -/
def execTileAdmission (k : Nat) (s : State) : Host.Outcome State Fault Refusal := .next (s.whenSerdes fun s => (if k < 6 then s.pumpAll k else s))

/-- A push descriptor in progress is written back UNREACHABLE (R193, R279). -/
def State.pushEnded (s : State) (k : Nat) : State :=
  if (s.src k).items.any SrcItem.isEnd then (s.srcM k fun x => { x with items := x.items.filter fun i => !i.isEnd }).pushWriteback (k - 2) 0x07 else s

/-- The source's DISPLAY tunnel has opened or moved (R263, R269): FRAME restarts at 0 and the whole picture is due; a frame in progress is
not gone on with, and the receivers of the far end before are not this one's (R277). -/
def State.srcOpened (s : State) (k : Nat) : State :=
  ((s.pushEnded k).srcM k fun x => { x with
    clear := true, live := false, items := [], sums := [], due := [0, 1, 2], skipSaid := none, blockSaid := [], rxids := [] }).put (frameReg k) 0

/-- The source's tunnel has closed (R279): what waits is dropped, a push descriptor in progress is UNREACHABLE. -/
def State.srcClosed (s : State) (k : Nat) : State :=
  (s.pushEnded k).srcM k fun x => { x with clear := true, items := [], sums := [], refl := [], rxids := [] }

/-! ### Inputs (R255 to R257, R263) -/

/-- A frame in progress is abandoned (R279): it gets no frame-end record, what has not begun to travel is dropped, and the
next frame takes the next number. -/
def State.abandonFrame (s : State) (k : Nat) : State :=
  let n := s.get (frameReg k)
  if (s.src k).live ∧ (s.srcEnd k).isSome then
    (s.srcM k fun x => { x with
      sums := x.sums.filter fun f => f.frame != n,
      items := x.items.filter fun i => match i with
        | .tile _ _ _ fr started _ => started || fr != n
        | _ => true }).put (frameReg k) (n + 1)
  else s

/-- The fastest rate an input trains at: MAXRATE, 6 and 7 as 5 (R281). -/
def State.inRate (s : State) (k : Nat) : Nat := min 5 (s.get (F.DSC_IN_CTRL_MAXRATE k))

/-- The most lanes an input trains with: MAXLANES (R281). -/
def State.inLanes (s : State) (k : Nat) : Nat := 2 ^ min 2 (s.get (F.DSC_IN_CTRL_MAXLANES k))

/-- DP_INPUT_TRAIN (R255, R263): an enabled input's link trains at a rate and lanes it offers (Table 10-1), or is lost. -/
def execDpInputTrain (k : Nat) (up : Bool) (rate lanes : Nat) (s : State) : Host.Outcome State Fault Refusal :=
  .next (s.whenSerdes fun s => (
    if 2 ≤ k ∨ !s.isHost then s
    else if up then
      if s.bit (F.DSC_IN_CTRL_EN k) ∧ rate ≤ s.inRate k ∧ lanes ∈ [1, 2, 4] ∧ lanes ≤ s.inLanes k then
        (((((s.abandonFrame k).put (F.DSC_IN_STAT_TRAINED k) 1).put (F.DSC_IN_STAT_RATE k) rate).put (F.DSC_IN_STAT_LANES k) lanes).srcM k
          fun x => { x with clear := true, live := false }).raise 47 0 [k, rate, lanes, 0]
      else s
    else if s.bit (F.DSC_IN_STAT_TRAINED k) then
      ((((s.abandonFrame k).put (F.DSC_IN_STAT_TRAINED k) 0).put (F.DSC_IN_STAT_VIDEO k) 0).srcM k
        fun x => { x with clear := true, live := false }).raise 47 1 [k, 0, 0, 0]
    else s))

/-- Whether an input takes a stream: the features of Table 10-1 within the link's payload, and DSC as it advertises it (R276). -/
def State.inTakes (s : State) (k : Nat) (m : InMode) : Bool :=
  let link : Rat := s.get (F.DSC_IN_STAT_LANES k) * laneRate (s.get (F.DSC_IN_STAT_RATE k))
  let bits : Rat := if m.dsc then ((ppsSlice m.pps).2.2.2 : Rat) / 16 else ((3 * (6 + 2 * m.bpc) : Nat) : Rat)
  !m.video || (decide (1 ≤ m.w) && decide (m.w ≤ 7680) && decide (1 ≤ m.h) && decide (m.h ≤ 4320) && decide (m.fmt ≤ 1) && decide (m.bpc ≤ 2) &&
    decide (m.khz ≤ 1800000) && decide ((m.khz : Rat) * 1000 * bits ≤ link) &&
    (!m.dsc || (s.bit (F.DSC_IN_CTRL_DSCEN k) && decide ((gridOf m.w m.h true m.pps).1 ≤ 16))))

/-- Whether the Lamp Room holds HDCP receiver keys (R277, R480): a key of slots 18 to 27 with the content-protection usage. -/
def State.hdcpKeys (s : State) : Bool :=
  (List.range 10).any fun i => match (s.slotAt (18 + i)).key with | some v => polBit v.policy 2 | none => false

/-- The HDCP state an input reaches (R277, R480): none unless HDCPEN is 1, failed without keys. -/
def State.hdcpAs (s : State) (k st : Nat) : Nat :=
  if !(s.bit (F.DSC_IN_CTRL_HDCPEN k)) ∨ st = 0 then 0 else if s.hdcpKeys then st else 3

/-- RxInfo one repeater level up (HDCP 2.3): DEPTH one more, or the cascade exceeded. -/
def rxInfoUp (v : Nat) : Nat := if v / 512 % 8 < 4 then v + 512 else if v / 4 % 2 = 1 then v else v + 4

/-- An authenticated repeater reports the receiver IDs of its tunnel's far end (R277). -/
def State.sendRxIds (s : State) (k : Nat) : State :=
  let b := (s.src k).rxids
  if s.bit (F.DSC_IN_CTRL_HDCPEN k) && s.bit (F.DSC_IN_STAT_HDCPAUTH k) && !b.isEmpty && (s.srcEnd k).isSome then s.emit (.rxIds k (rxInfoUp (leNat (b.take 2))) (b.drop 2)) else s

/-- The HDCP state of an input's stream changes: the buffer is due a clear (R263), and the event. -/
def State.setInHdcp (s : State) (k st : Nat) : State :=
  if (s.src k).mode.hdcp = st then s
  else
    let t := (s.putBit (F.DSC_IN_STAT_HDCPAUTH k) (st == 1 || st == 2)).srcM k fun x => { x with clear := true, mode := { x.mode with hdcp := st } }
    let t := if s.bit (F.DSC_IN_STAT_HDCPAUTH k) then t else t.sendRxIds k
    t.raise 47 5 [k, st]

/-- DP_INPUT_MODE_CHANGE (R263): the stream's mode, DSC or HDCP state; a frame in progress is abandoned (R279). -/
def execDpInputModeChange (k : Nat) (m : InMode) (s : State) : Host.Outcome State Fault Refusal :=
  .next (s.whenSerdes fun s => (
    if 2 ≤ k ∨ !s.isHost ∨ !(s.bit (F.DSC_IN_STAT_TRAINED k)) ∨ !(s.inTakes k m) then s
    else
      let old := (s.src k).mode
      let t := (((((s.putBit (F.DSC_IN_STAT_VIDEO k) m.video).put (F.DSC_IN_STAT_FMT k) m.fmt).put (F.DSC_IN_STAT_BPC k) m.bpc).putBit
        (F.DSC_IN_STAT_DSC k) m.dsc).put (F.DSC_IN_MODE_HACT k) m.w).put (F.DSC_IN_MODE_VACT k) m.h
      let pic := old.w != m.w || old.h != m.h || old.fmt != m.fmt || old.bpc != m.bpc || old.dsc != m.dsc || old.video != m.video
      let t := if pic then t.abandonFrame k else t
      let t := t.srcM k fun x => { x with
        mode := { m with hdcp := old.hdcp }, clear := x.clear || pic, live := x.live && !pic,
        due := x.due ++ (if pic then [0] else []) ++ (if old.mdata = m.mdata then [] else [1]) ++ (if old.pps = m.pps then [] else [2]) }
      let t := if pic then t.raise 47 2 [k, m.fmt, m.bpc, if m.dsc then 1 else 0] else t
      t.setInHdcp k (s.hdcpAs k m.hdcp)))

/-- The EDID an input presents (R257): DSC_EDIDk, 512 bytes. -/
def State.edidOf (s : State) (k : Nat) : List (BitVec 8) := (List.range 128).flatMap fun w => leBytes 4 (s.get (F.DSC_EDID k w))

/-- The EDID is presented anew where it has changed while HPD is high (R257). -/
def State.showEdid (s : State) (k : Nat) (old : List (BitVec 8)) : State :=
  if s.bit (F.DSC_IN_CTRL_HPD k) && s.edidOf k != old then s.emit (.edid k (s.edidOf k)) else s

/-- The DSC decoding capabilities advertised for a monitor's 16 capability bytes (R276): its DPCD 0x60 to 0x6D, with of 0x6D (slice
capabilities 2) only 16 slices per line. -/
def dscCaps (b : List (BitVec 8)) : List (BitVec 8) := (b ++ List.replicate 14 0).take 13 ++ [BitVec.ofNat 8 (byteAt b 13 % 2)]

/-- The DPCD receiver capabilities an input presents: they follow DSC_INk_CTRL (R257), the DSC ones the far monitor's (R276). -/
def State.dpcdOf (s : State) (k : Nat) : Out :=
  .dpcd k (s.inRate k) (s.inLanes k) (if s.bit (F.DSC_IN_CTRL_DSCEN k) then some (dscCaps (slice (s.src k).sink 1 16)) else none)
    (s.bit (F.DSC_IN_CTRL_HDCPEN k))

/-- A write of DSC_INk_CTRL: HPD follows, and the GPU finds the EDID and the capabilities; IRQ pulses DP_HPD low for 750 µs (R257). -/
def State.writeDscCtrl (s : State) (k : Nat) (v : Word) : State :=
  if 2 ≤ k then s
  else
    let t := s.wr (A.DSC_IN_CTRL k) (v &&& 0x7FB#32)
    let rise := bitsOf v 1 1 == 1 && !(s.bit (F.DSC_IN_CTRL_HPD k))
    let t := if bitsOf v 1 1 = s.get (F.DSC_IN_CTRL_HPD k) then t else t.emit (.pin (.dpHpd k) (bitsOf v 1 1 == 1))
    let t := if rise then t.emit (.edid k (t.edidOf k)) else t
    let t := if rise || s.dpcdOf k != t.dpcdOf k then t.emit (t.dpcdOf k) else t
    let t := if bitsOf v 4 1 = 0 then t.setInHdcp k 0 else t
    if bitsOf v 2 1 = 1 then t.emit (.pulse (.dpHpd k) false 750000) else t

/-- IRQ_HPD_PULSE (R257): a control write of DSC_INk_CTRL with IRQ set. -/
def execIrqHpdPulse (r : Req) (k : Nat) (s : State) : Host.Outcome State Fault Refusal :=
  .next (if s.isHost then s.controlWrite r fun t => t.whenSerdes fun u => u.writeDscCtrl k (u.rd (A.DSC_IN_CTRL k) ||| 4#32)
    else s.controlWrite r fun t => t.whenSerdes fun u => u.tally F.DSC_IGNWR)

/-- A write of DSC_INk_INVAL: the reflection buffer is cleared at the next frame start (R263). -/
def State.writeInval (s : State) (k : Nat) (v : Word) : State :=
  if bitsOf v 0 1 = 1 then s.srcM k fun x => { x with clear := true } else s

/-- REFLECTION_CLEAR (R263): a control write of DSC_INk_INVAL. -/
def execReflectionClear (r : Req) (k : Nat) (s : State) : Host.Outcome State Fault Refusal :=
  .next (if s.isHost then (if k < 2 then s.controlWrite r fun t => t.whenSerdes fun u => u.writeInval k 1 else s)
    else s.controlWrite r fun t => t.whenSerdes fun u => u.tally F.DSC_IGNWR)

/-! ### Captured frames (R260 to R264, R276 to R278) -/

/-- Tiles, or slices, of a source's picture. -/
def SrcSt.grid (x : SrcSt) : Nat × Nat := gridOf x.mode.w x.mode.h x.mode.dsc x.mode.pps

/-- Whether a position is swept in this frame (R264); the cursor wraps at the last tile. -/
def SrcSt.swept (x : SrcSt) (t : Nat) : Bool :=
  let n := x.grid.1 * x.grid.2
  decide ((t + n - x.sweep.1 % (max 1 n)) % (max 1 n) < x.sweep.2)

/-- A tile whose admission no longer sets its reflection entry: the buffer has been cleared since it was captured (R263). -/
def SrcItem.unhash : SrcItem → SrcItem
  | .tile t _ b fr st fs => .tile t none b fr st fs
  | i => i

/-- TILE_SKIP (R262): the capture of the band two after `lim - 2` must begin, so tiles of bands before `lim - 1` not yet begun are dropped,
counted, and their frame is INCOMPLETE. -/
def State.skipTiles (s : State) (k lim : Nat) : State :=
  let x := s.src k
  let old := fun (i : SrcItem) => match i with
    | .tile _ _ b _ started _ => !started && decide (b + 1 < lim)
    | _ => false
  let gone := x.items.filter old
  if gone = [] then s
  else
    let t := gone.foldl (fun u i => match i with
      | .tile n _ _ fr _ _ => (u.bump F.DSC_SKIPTILE).srcM k fun y =>
          { y.setSum { y.sum fr with incompl := true } with refl := y.refl.filter fun e => e.1 != n }
      | _ => u) (s.srcM k fun y => { y with items := y.items.filter fun i => !(old i) })
    let fr := match gone.head? with | some (.tile _ _ _ fr _ _) => fr | _ => 0
    if x.skipSaid = some fr then t
    else (t.srcM k fun y => { y with skipSaid := some fr }).raise 47 3 [k, gone.length % 256, gone.length / 256, 0]

/-- CAPTURE_FRAME_START (R262 to R264): its first band is captured from now, pending clears act, and the sweep takes its tiles. `enc`: the frame is
HDCP-encrypted; `period` the last frame period in ns. -/
def execCaptureFrameStart (k : Nat) (enc : Bool) (period : Nat) (s : State) : Host.Outcome State Fault Refusal :=
  .next (s.whenSerdes fun s => (
    if 2 ≤ k ∨ !s.isHost ∨ !(s.bit (F.DSC_IN_STAT_TRAINED k)) ∨ !(s.bit (F.DSC_IN_STAT_VIDEO k)) then s
    else
      let s := s.skipTiles k (s.src k).band
      let x := s.src k
      let enc := enc && s.bit (F.DSC_IN_STAT_HDCPAUTH k)
      let clear := x.clear || (enc != s.bit (F.DSC_IN_STAT_HDCPENC k))
      let n := x.grid.1 * x.grid.2
      let rate := if s.bit (F.DSC_IN_CTRL_VRR k) then 24 else max 1 (1000000000 / max 1 period)
      let neff := max (s.get (F.DSC_IN_SWEEP_N k)) (ceilDiv n (2 * rate))
      let t := ((s.put (F.DSC_IN_PERIOD_NS k) period).put (F.DSC_IN_SWEEP_NEFF k) neff).putBit (F.DSC_IN_STAT_HDCPENC k) enc
      t.srcM k fun y => { y with
        refl := if clear then [] else y.refl, clear := false, live := true, enc := enc,
        items := if clear then y.items.map SrcItem.unhash else y.items,
        sweep := (y.cursor % max 1 n, neff), cursor := (y.cursor % max 1 n + neff) % max 1 n }))

/-- The records due before the next tile (R292): MODE, METADATA, PPS. -/
def State.dueRecords (s : State) (k : Nat) : List SrcItem :=
  let x := s.src k
  let m := x.mode
  let period := if k < 2 then s.get (F.DSC_IN_PERIOD_NS k) else Config.pushPeriod
  let vrr := if k < 2 ∧ s.bit (F.DSC_IN_CTRL_VRR k) then 2 else 0
  (if x.due.contains 0 then [.record (dispRecord 1 (leBytes 2 m.w ++ leBytes 2 m.h ++ leBytes 4 period ++ leBytes 1 m.fmt ++ leBytes 1 m.bpc ++
      leBytes 1 ((if m.dsc then 1 else 0) + vrr) ++ leBytes 1 0))] else []) ++
    (if x.due.contains 1 ∧ m.mdata ≠ [] then [.record (dispRecord 3 (m.mdata.take 64))] else []) ++
    (if x.due.contains 2 ∧ m.dsc then [.record (dispRecord 4 (m.pps.take 128))] else [])

/-- The units of a band with their index, hash, coding, position, size and data (R258, R260, R276). -/
def SrcSt.units (x : SrcSt) (j : Nat) : Band → List (Nat × BitVec 64 × Nat × Nat × Nat × Nat × Nat × List (BitVec 8))
  | .pixels ls =>
    (List.range x.grid.1).map fun tx =>
      let t := cutTile (fun c r => inputPix x.mode.bpc ((ls.getD (r - 64 * j) []).getD c { c0 := 0, c1 := 0, c2 := 0 })) x.mode.w x.mode.h tx j
      (j * x.grid.1 + tx, crc64 (tileBytes t), 0, tx, j, (t.headD []).length - 1, t.length - 1, encodeTile none t)
  | .slices l => (l.filter fun e => e.1 < x.grid.1 && e.2.1 < x.grid.2).map fun e => (e.2.1 * x.grid.1 + e.1, crc64 e.2.2, 1, e.1, e.2.1, 0, 0, e.2.2)

/-- The damaged tiles of a band join the queue (R260), or are blocked (R278). -/
def State.bandTiles (s : State) (k j : Nat) (d : Band) (c : TunCtx) : State :=
  let x := s.src k
  let fr := s.get (frameReg k)
  let us := (x.units j d).filter fun u => x.swept u.1 || !(x.refl.any fun e => e.1 == u.1 && e.2 == u.2.1)
  if x.enc && !(s.protRoute c) then
    s.protBlocked k fr us.length
  else
    let t := s.put (F.DSC_IN_STAT_BLOCKED k) 0
    let recs := if us = [] then [] else t.dueRecords k
    let its := us.map fun (n, h, cod, tx, ty, tw, th, data) =>
      SrcItem.tile n (some h) x.band fr false
        (fragments (cod + (if x.enc then 4 else 0) + (if x.swept n then 8 else 0)) fr tx ty tw th data)
    t.srcM k fun y => { y with items := y.items ++ recs ++ its, due := if us = [] then y.due else [] }

/-- CAPTURE_BAND_END (R260, R262): band `j` of the frame has been captured. The capture of the next band of the frame
begins; after the last band the frame ends, and the frame number advances. `aud` audio packets have arrived since the band before it, and are discarded (R257). -/
def execCaptureBandEnd (k j aud : Nat) (d : Band) (s : State) : Host.Outcome State Fault Refusal :=
  .next (s.whenSerdes fun s => (
    if 2 ≤ k ∨ !s.isHost ∨ !(s.src k).live then s
    else
      let t := s.bumpBy F.DSC_AUDDROP aud
      let t := if (s.src k).grid.2 ≤ j + 1 then t else t.skipTiles k ((s.src k).band + 1)
      let t := match t.srcEnd k with
        | some c => if c.state = 4 ∨ c.state = 1 then t else t.bandTiles k j d c
        | none => t.srcM k fun y => { y with refl := [] }
      let t := t.srcM k fun y => { y with band := y.band + 1 }
      let t := if (t.src k).grid.2 ≤ j + 1 then
          let fr := t.get (frameReg k)
          let u := t.srcM k fun y => { y with live := false, items := if (t.srcEnd k).isSome then y.items ++ [.frameEnd fr] else y.items }
          if (t.srcEnd k).isSome then u.put (frameReg k) (fr + 1) else u
        else t
      t.pumpAll k))

/-! ### The push path (R265 to R268) -/

/-- A write of PUSHk_CFG (R265): enabling starts the ring again, and a descriptor of the ring before is not written into it. -/
def State.writePushCfg (s : State) (k : Nat) (v : Word) : State :=
  if bitsOf v 0 1 = 1 ∧ (bitsOf v 8 5 < 4 ∨ 16 < bitsOf v 8 5) then s.tally F.GLB_IGNWR
  else
    let t := s.wr (A.PUSH_CFG k) (v &&& 0x00471F01#32)
    if bitsOf v 0 1 = 1 ∧ s.get (F.PUSH_CFG_EN k) = 0 then
      (t.wr (A.PUSH_IDX k) 0).srcM (k + 2) fun x => { x with total := 0, items := x.items.filter fun i => !i.isEnd }
    else t

/-- PUSH_RING_ENABLE (R265). -/
def execPushRingEnable (k : Nat) (v : Word) (s : State) : Host.Outcome State Fault Refusal :=
  .next (s.whenSerdes fun s => (if s.fnOpen ∧ k < 4 then s.writePushCfg k v else s))

/-- A push page's doorbell (R87, R265). -/
def State.pushDoorbell (s : State) (k : Nat) (v : Word) : State :=
  if s.get (F.PUSH_CFG_EN k) = 0 ∨ bitsOf v 16 16 ≠ 0 ∨ s.pushCap k < idxDiff (bitsOf v 0 16) (s.get (F.PUSH_IDX_DEVIDX k)) then s.tally F.GLB_DBIGN
  else s.put (F.PUSH_IDX_HOSTIDX k) (bitsOf v 0 16)

/-- PUSH_DOORBELL (R265). -/
def execPushDoorbell (k : Nat) (v : Word) (s : State) : Host.Outcome State Fault Refusal :=
  .next (s.whenSerdes fun s => (if s.fnOpen ∧ k < 4 then s.pushDoorbell k v else s))

/-- Whether a rectangle, rounded outward and clipped (R267), covers a tile. -/
def rectCovers (r : Nat × Nat × Nat × Nat) (d : PushDesc) (tx ty : Nat) : Bool :=
  let (x, y, w, h) := r
  decide (0 < w) && decide (0 < h) && decide (x < d.w) && decide (y < d.h) && decide (x / 64 ≤ tx) && decide (tx ≤ (min (x + w) d.w - 1) / 64) &&
    decide (y / 64 ≤ ty) && decide (ty ≤ (min (y + h) d.h - 1) / 64)

/-- The tiles a descriptor covers, in tile-index order (R267). -/
def pushCovered (d : PushDesc) : List (Nat × Nat) :=
  let cols := ceilDiv d.w 64
  ((List.range (cols * ceilDiv d.h 64)).map fun t => (t % cols, t / cols)).filter fun e => d.full || d.rects.any fun r => rectCovers r d e.1 e.2

/-- A surface's pixel word at a column and row. -/
def PushDesc.pixel (d : PushDesc) (x y : Nat) : Word := pushPix d.format ((d.px.getD y []).getD x 0)

/-- The tiles a descriptor sends, as fragments (R267). -/
def pushTiles (d : PushDesc) (frame : Nat) : List SrcItem :=
  (pushCovered d).map fun (tx, ty) =>
    let lines := cutTile (PushDesc.pixel d) d.w d.h tx ty
    SrcItem.tile (ty * ceilDiv d.w 64 + tx) none 0 frame false
      (fragments 0 frame tx ty ((lines.headD []).length - 1) (lines.length - 1) (encodeTile none lines))

/-- The reads of host memory that bring a descriptor's tiles, line by line (R267). -/
def pushReads (d : PushDesc) : List Out :=
  (pushCovered d).flatMap fun (tx, ty) => (List.range (min 64 (d.h - 64 * ty))).map fun y =>
    .hostRead (d.addr + d.pitch * (64 * ty + y) + 256 * tx) (4 * min 64 (d.w - 64 * tx))

/-- Whether this host may use a tunnel: it is the owner or the tunnel's grantee (R195, R268). -/
def State.mayUse (s : State) (c : TunCtx) : Bool := s.ownerFid == s.fid || c.par.grant == s.fid

/-- Whether a descriptor's operands are right (R268). -/
def pushOk (d : PushDesc) : Bool :=
  decide (d.format < 2) && d.addr % 64 == 0 && d.pitch % 64 == 0 && decide (4 * d.w ≤ d.pitch) && decide (1 ≤ d.w) && decide (d.w ≤ 7680) &&
    decide (1 ≤ d.h) && decide (d.h ≤ 4320) && decide (d.nrect ≤ 4)

/-- PUSH_DESCRIPTOR (R267, R268): the next descriptor of a push ring. -/
def execPushDescriptor (k : Nat) (d : PushDesc) (s : State) : Host.Outcome State Fault Refusal :=
  .next (s.whenSerdes fun s => (
    let x := s.src (k + 2)
    if !s.isHost ∨ 4 ≤ k ∨ s.get (F.PUSH_CFG_EN k) = 0 ∨ x.items ≠ [] ∨
        idxDiff (s.get (F.PUSH_IDX_HOSTIDX k)) (s.get (F.PUSH_IDX_DEVIDX k)) = 0 then s
    else
      match s.srcEnd (k + 2) with
      | none => s.pushWriteback k 0x07
      | some c =>
        if c.state = 1 ∨ c.state = 4 then s.pushWriteback k 0x07
        else if c.state = 3 ∨ c.paused ≠ 0 then s
        else if !(s.mayUse c) then s.pushWriteback k 0x05
        else if d.opcode ≠ 1 then (s.tally F.GLB_CMDIGN).pushWriteback k 0x01
        else if !d.clean then (s.tally F.GLB_CMDIGN).pushWriteback k 0x02
        else if !(pushOk d) then s.pushWriteback k 0x03
        else
          let fr := s.get (frameReg (k + 2))
          let bpc := if d.format = 0 then 1 else 2
          let new := x.mode.w ≠ d.w ∨ x.mode.h ≠ d.h ∨ x.mode.bpc ≠ bpc
          let t := (s.emits (pushReads d)).srcM (k + 2) fun y => { y with
            mode := { y.mode with video := true, w := d.w, h := d.h, bpc := bpc }, due := if new then y.due ++ [0] else y.due }
          let recs := t.dueRecords (k + 2)
          let t := t.srcM (k + 2) fun y => { y with
            items := recs ++ pushTiles d fr ++ [.pushEnd d.eof] ++ (if d.eof then [.frameEnd fr] else []), due := [] }
          t.pumpAll (k + 2)))

/-! ### Records that reach a source (R292) -/

/-- A REFRESH at a source (R263, R268). -/
def State.hearRefresh (s : State) (k : Nat) : State :=
  let t := s.raise 47 6 [k, 0, 0, 0]
  if k < 2 then t.srcM k fun x => { x with clear := true } else t.raise 47 7 [k - 2, 0, 0, 0]

/-- A SINK at a source: it is held, and for a monitor at an input's far end firmware builds the EDID presented (R257) and copies the DSC
capabilities (R276). -/
def State.hearSink (s : State) (k : Nat) (b : List (BitVec 8)) : State :=
  let t := s.srcM k fun x => { x with sink := b }
  if k < 2 ∧ byteAt b 0 = 1 then
    let e := Config.edidNoAudio (b.drop 19)
    let t := ((List.range 128).foldl (fun u w => u.put (F.DSC_EDID k w) (leNat (slice e (4 * w) 4))) t).showEdid k (s.edidOf k)
    if t.bit (F.DSC_IN_CTRL_DSCEN k) then t.emit (t.dpcdOf k) else t
  else t

/-- New receiver IDs reach an input (R277). -/
def State.hearRxIds (s : State) (k : Nat) : State := if k < 2 then s.sendRxIds k else s

/-- A display control record is delivered at a source; any other is discarded and counted. -/
def State.srcRecord (s : State) (k : Nat) (bytes : List (BitVec 8)) : State :=
  match readRecord bytes with
  | some (0x10, b) => if b.length = 4 then s.hearRefresh k else s.bump F.DSC_DECERR
  | some (0x11, b) => if b.length = 19 + leNat (slice b 17 2) ∧ b.length ≤ 531 then s.hearSink k b else s.bump F.DSC_DECERR
  | some (0x12, b) => if 2 ≤ b.length ∧ b.length % 5 = 2 ∧ b.length ≤ 157 then (s.srcM k fun x => { x with rxids := b }).hearRxIds k else s.bump F.DSC_DECERR
  | _ => s.bump F.DSC_DECERR

/-- The source whose DISPLAY tunnel has a TID. -/
def State.srcOf (s : State) (tid : Nat) : Option Nat :=
  (List.range 6).find? fun k => match s.srcEnd k with | some c => c.par.tid == tid | none => false

/-- A record of one TYPE arrives on a DISPLAY tunnel at its source. -/
def State.srcTyped (s : State) (tid type : Nat) (bytes : List (BitVec 8)) : State :=
  match s.srcOf tid with
  | some k => if byteAt bytes 0 = type then s.srcRecord k bytes else s
  | none => s

/-- REFRESH_RECORD (R263). -/
def execRefreshRecord (tid : Nat) (bytes : List (BitVec 8)) (s : State) : Host.Outcome State Fault Refusal := .next (s.whenSerdes fun s => (s.srcTyped tid 0x10 bytes))

/-- SINK_RECORD (R292). -/
def execSinkRecord (tid : Nat) (bytes : List (BitVec 8)) (s : State) : Host.Outcome State Fault Refusal := .next (s.whenSerdes fun s => (s.srcTyped tid 0x11 bytes))

/-- HDCP_RXID_RECORD (R277, R292). -/
def execHdcpRxidRecord (tid : Nat) (bytes : List (BitVec 8)) (s : State) : Host.Outcome State Fault Refusal := .next (s.whenSerdes fun s => (s.srcTyped tid 0x12 bytes))

end Sys2Proof.Machine
end

