-- ==== Sys2Proof/Machine/Outputs.lean ====
section
/-! DEFINITION. Frame stores and display outputs (chapter 11): maps, records, timing checks, boundaries and flips. -/

namespace Sys2Proof.Machine

/-- An output's internal state. -/
def State.dout (s : State) (k : Nat) : OutSt := s.dispOuts.getD k OutSt.reset

/-- Change an output's internal state. -/
def State.doutM (s : State) (k : Nat) (g : OutSt → OutSt) : State := { s with dispOuts := s.dispOuts.modify k g }

/-- Whether the device has outputs (R283): dock and relay roles. -/
def State.hasOuts (s : State) : Bool := s.role == 1 || s.role == 2

/-- DSO_OUTk_STAT's PEND, BUILD and ARMED follow the maps and the flip, armed or staged by a cart (R303, Table 13-2). -/
def State.outBits (s : State) (k : Nat) : State :=
  let x := s.dout k
  ((s.putBit (F.DSO_OUT_STAT_PEND k) x.q.isSome).putBit (F.DSO_OUT_STAT_BUILD k) x.b.isSome).putBit (F.DSO_OUT_STAT_ARMED k)
    x.flip.isSome

/-! ### Sending records (R292) -/

/-- A record leaves an output on its DISPLAY tunnel. -/
def State.outRecord (s : State) (k type : Nat) (body : List (BitVec 8)) : State :=
  match s.endAt (0x3000 + k) 4 with
  | some _ => s.ingress (0x3000 + k) 4 0x0E (dispRecord type body) false false
  | none => s

/-- REFRESH with a cause. -/
def State.sendRefresh (s : State) (k cause : Nat) : State := s.outRecord k 0x10 (leBytes 1 cause ++ leBytes 3 0)

/-- SINK: the monitor's capabilities and EDID. -/
def State.sendSink (s : State) (k : Nat) : State :=
  match (s.dout k).monitor with
  | some m => s.outRecord k 0x11 (leBytes 1 1 ++ (m.caps ++ List.replicate 16 0).take 16 ++ leBytes 2 (min 512 m.edid.length) ++ m.edid.take 512)
  | none => s.outRecord k 0x11 (leBytes 19 0)

/-! ### Fit and rates (R288, R296) -/

/-- Buffers of an output. -/
def State.nbuf (s : State) (k : Nat) : Nat := 2 + s.get (F.DSO_OUT_CTRL_BUFS k)

/-- BUFSZ as it acts, in 2 MiB units. -/
def State.bufsz (s : State) (k : Nat) : Nat := max 1 (min 64 (s.get (F.DSO_OUT_FS_BUFSZ k)))

/-- Whether a picture fits a buffer (R288). -/
def State.fits (s : State) (k : Nat) (m : PicMode) (pps : List (BitVec 8)) : Bool :=
  let g := gridOf m.w m.h m.dsc pps
  decide (g.1 * g.2 * (if m.dsc then sliceSpan pps else 1) ≤ s.bufsz k * 128)

/-- Whether two ranges of units overlap. -/
def overlaps (a n b m : Nat) : Bool := decide (a < b + m) && decide (b < a + n) && decide (0 < n) && decide (0 < m)

/-- Whether an output's buffers are clear of the other enabled outputs', of the firmware area and of the spill area (R288). -/
def State.storeClear (s : State) (k nb : Nat) : Bool :=
  let base := s.get (F.DSO_OUT_FS_BASE k)
  let n := nb * s.bufsz k
  !(overlaps base n 0 24) && !(overlaps base n (s.get F.MEM_SPILLBASE_VALUE) (s.get F.MEM_SPILLSIZE_VALUE)) &&
    [0, 1, 2, 3].all fun j => j == k || !(s.bit (F.DSO_OUT_CTRL_EN j)) || !(overlaps base n (s.get (F.DSO_OUT_FS_BASE j)) (s.nbuf j * s.bufsz j))

/-- An output's frame rate in Hz, given its genlock (R296). -/
def State.outRate (s : State) (k : Nat) (gl : Bool) : Rat :=
  if gl then 1000000000 / (s.get (F.DSO_OUT_GLPER_NS k) : Rat)
  else 1000 * (s.get (F.DSO_OUT_PCLK_KHZ k) : Rat) / (s.get (F.DSO_OUT_H_TOTAL k) * s.get (F.DSO_OUT_V_TOTAL k) : Nat)

/-- An output's pixel clock in Hz. -/
def State.outClock (s : State) (k : Nat) (gl : Bool) : Rat :=
  if gl then ((s.get (F.DSO_OUT_H_TOTAL k) * s.get (F.DSO_OUT_V_TOTAL k) : Nat) : Rat) * 1000000000 / (s.get (F.DSO_OUT_GLPER_NS k) : Rat)
  else 1000 * (s.get (F.DSO_OUT_PCLK_KHZ k) : Rat)

/-- Whether a monitor's link carries a picture at a pixel clock (R296): the clock × 3 × bpc, or the DSC stream rate. -/
def State.linkFits (s : State) (k : Nat) (clock : Rat) (bpc : Nat) (dsc : Bool) (pps : List (BitVec 8)) : Bool :=
  match (s.dout k).monitor with
  | none => true
  | some m =>
    let need : Rat := if dsc then clock * (ppsSlice pps).2.2.2 / 16 else clock * (3 * bpc)
    decide (need ≤ m.lanes * laneRate m.rate)

/-- The condition of R296 an output breaks with a picture, as ERR: 0 none, 2 pixel clock, 3 link capacity, 1 pixel budget. -/
def State.timingErr (s : State) (k : Nat) (gl : Bool) (bpc : Nat) (dsc : Bool) (pps : List (BitVec 8)) : Nat :=
  let clock := s.outClock k gl
  let px := fun (j : Nat) (g : Bool) => ((s.get (F.DSO_OUT_H_ACT j) * s.get (F.DSO_OUT_V_ACT j) : Nat) : Rat) * s.outRate j g
  let others := (([0, 1, 2, 3].filter fun j => j != k && s.bit (F.DSO_OUT_CTRL_EN j)).map fun j => px j (s.bit (F.DSO_OUT_CTRL_GENLOCK j))).sum
  if (2100000000 : Rat) < clock then 2 else if !(s.linkFits k clock bpc dsc pps) then 3 else if (4000000000 : Rat) < px k gl + others then 1 else 0

/-- A mode or an enable is refused: ERR and the event. -/
def State.outErr (s : State) (k err : Nat) : State := (s.put (F.DSO_OUT_STAT_ERR k) err).raise (50 + k) 7 [err]

/-- Components per pixel bits of an output. -/
def State.outBpc (s : State) (k : Nat) : Nat := if s.bit (F.DSO_OUT_CTRL_BPC10 k) then 10 else 8

/-- Whether Update mode applies (R297). -/
def State.updates (s : State) (k : Nat) : Bool :=
  s.bit (F.DSO_OUT_CTRL_UPD k) && !(s.dout k).pMode.dsc && (match (s.dout k).monitor with | some m => m.su | none => false)

/-- DSO_OUTk_STAT.STATE, RATE and LANES follow the enable and the monitor, HPD the monitor (it is read live). -/
def State.outState (s : State) (k : Nat) : State :=
  let t := s.putBit (F.DSO_OUT_STAT_HPD k) (s.dout k).monitor.isSome
  if !(s.bit (F.DSO_OUT_CTRL_EN k)) then t.put (F.DSO_OUT_STAT_STATE k) 0
  else
    match (s.dout k).monitor with
    | none => t.put (F.DSO_OUT_STAT_STATE k) 1
    | some m =>
      if m.lanes = 0 ∨ (s.dout k).noLink then t.put (F.DSO_OUT_STAT_STATE k) 5
      else ((t.put (F.DSO_OUT_STAT_RATE k) m.rate).put (F.DSO_OUT_STAT_LANES k) (m.lanes / 2)).put (F.DSO_OUT_STAT_STATE k)
        (if s.updates k then 4 else 3)

/-! ### HDCP transmitter (R300) -/

/-- Whether a presented tile is of content stream Type 1 (R300). -/
def State.type1 (s : State) (k : Nat) : Bool := (s.dout k).p.any fun e => e.2.prot && e.2.typ1

/-- Whether the topology below an output forbids Type 1 (R300): RxInfo tells of an HDCP 1 or an HDCP 2.0 device. -/
def State.barsType1 (s : State) (k : Nat) : Bool :=
  match (s.dout k).monitor with
  | some m => m.hdcp.any fun e => e.1 % 4 != 0
  | none => false

/-- The type an output's link encrypts under (R300). -/
def State.linkType (s : State) (k : Nat) : Nat := if s.type1 k && !(s.barsType1 k) then 1 else 0

/-- Whether in an HDCP state the link encrypts at the type the presented tiles require (R300). -/
def State.encrypts (s : State) (k st : Nat) : Bool := st == 2 && !(s.type1 k && s.barsType1 k)

/-- Set the HDCP state and MUTE, with their event on a change. -/
def State.setHdcp (s : State) (k st : Nat) : State :=
  let mute := (s.dout k).p.any (·.2.prot) && !(s.encrypts k st) && s.bit (F.DSO_OUT_CTRL_EN k) && (s.dout k).monitor.isSome
  if s.get (F.DSO_OUT_STAT_HDCP k) = st ∧ s.bit (F.DSO_OUT_STAT_MUTE k) = mute then s
  else ((s.put (F.DSO_OUT_STAT_HDCP k) st).putBit (F.DSO_OUT_STAT_MUTE k) mute).raise (50 + k) 6 [st, if mute then 1 else 0]

/-- Authentication of the monitor at an attach, or when HDCPEN is set: HDCP_RXID goes to the source. It fails without a monitor of HDCP 2.3
and without the Lamp Room's keys (R480). -/
def State.startHdcp (s : State) (k : Nat) : State :=
  if !(s.bit (F.DSO_OUT_CTRL_HDCPEN k)) then s.setHdcp k 0
  else
    match (s.dout k).monitor with
    | none => s.setHdcp k 0
    | some m =>
      match (if s.hdcpKeys then m.hdcp else none) with
      | none => s.setHdcp k 3
      | some (info, ids) => (s.outRecord k 0x12 (leBytes 2 info ++ (ids.take 31).flatMap (leBytes 5))).setHdcp k 1

/-! ### Enable (R288, R296, R301) -/

/-- Apply the timing firmware sets (R293). -/
def State.setTiming (s : State) (k : Nat) (t : OutTiming) : State :=
  ((((s.wr (A.DSO_OUT_H k) (t.h &&& 0x1FFF1FFF#32)).wr (A.DSO_OUT_HS k) (t.hs &&& 0x83FF1FFF#32)).wr (A.DSO_OUT_V k) (t.v &&& 0x1FFF1FFF#32)).wr
    (A.DSO_OUT_VS k) (t.vs &&& 0x83FF1FFF#32)).wr (A.DSO_OUT_PCLK k) (t.pclk &&& 0x3FFFFF#32)

/-- Why an output may not be enabled with a control word, as ERR. -/
def State.enableErr (s : State) (k : Nat) (v : Word) : Nat :=
  if !(s.storeClear k (2 + bitsOf v 4 1)) ∨ !(s.fits k (s.dout k).pMode (s.dout k).pPps) then 4
  else s.timingErr k (bitsOf v 3 1 == 1) (if bitsOf v 7 1 = 1 then 10 else 8) (s.dout k).pMode.dsc (s.dout k).pPps

/-- The FLIPMODE that acts (R301): one written while Q is present waits for the next boundary. -/
def State.heldNow (s : State) (k : Nat) : Bool := (s.dout k).held.getD (s.bit (F.DSO_OUT_CTRL_HELD k))

/-- What an enabled output's genlock shows goes when it is disabled, with the event of R302. -/
def State.dropGenlock (s : State) (k : Nat) : State :=
  let t := (s.put (F.DSO_OUT_STAT_GLOCK k) 0).put (F.DSO_OUT_GLERR_ERR k) 0
  if s.bit (F.DSO_OUT_STAT_GLOCK k) then t.raise (50 + k) 4 [0, 0] else t

/-- FLIPMODE written while Q is present leaves the old one in force until the boundary (R301). -/
def State.latchHeld (s : State) (k : Nat) (v : Word) : State :=
  if (s.dout k).q.isSome ∧ bitsOf v 2 1 ≠ s.get (F.DSO_OUT_CTRL_HELD k) then s.doutM k fun x => { x with held := some (s.heldNow k) } else s

/-- A write of DSO_OUTk_CTRL; `timing` is what firmware sets first where AUTOTIM is 1. An enable that is refused, and 10 bpc beyond the link of an
enabled output, leave the output as it was (R288, R296). -/
def State.writeOutCtrl (s : State) (k : Nat) (v : Word) (timing : Option OutTiming) : State :=
  if 4 ≤ k then s
  else
    let was := s.bit (F.DSO_OUT_CTRL_EN k)
    let s1 := if bitsOf v 8 1 = 1 then s.sendRefresh k 4 else s
    if bitsOf v 0 1 = 1 ∧ !was then
      let s2 := match timing with
        | some t => if bitsOf v 5 1 = 1 then s1.setTiming k t else s1
        | none => s1
      if s2.enableErr k v ≠ 0 then s1.outErr k (s2.enableErr k v)
      else
        let t := ((((s2.latchHeld k v).wr (A.DSO_OUT_CTRL k) (v &&& 0xFF#32)).put (F.DSO_OUT_STAT_ERR k) 0).doutM k fun x =>
          { x with noLink := false, gen := none }).outState k
        let t := match (t.dout k).monitor with
          | some x => t.raise (50 + k) 3 [x.rate, x.lanes, if x.lanes = 0 then 0 else 1]
          | none => t
        (t.sendRefresh k 2).startHdcp k
    else if was ∧ bitsOf v 0 1 = 1 ∧ bitsOf v 7 1 = 1 ∧ !(s.bit (F.DSO_OUT_CTRL_BPC10 k)) ∧
        s1.timingErr k (s.bit (F.DSO_OUT_CTRL_GENLOCK k)) 10 (s.dout k).pMode.dsc (s.dout k).pPps ≠ 0 then
      s1.outErr k (s1.timingErr k (s.bit (F.DSO_OUT_CTRL_GENLOCK k)) 10 (s.dout k).pMode.dsc (s.dout k).pPps)
    else
      let keep := if was then s1.rd (A.DSO_OUT_CTRL k) &&& 0x18#32 else v &&& 0x18#32
      let t := ((s1.latchHeld k v).wr (A.DSO_OUT_CTRL k) ((v &&& 0xE7#32) ||| keep)).outState k
      let t := if bitsOf v 0 1 = 0 then t.dropGenlock k else t
      if bitsOf v 6 1 = s.get (F.DSO_OUT_CTRL_HDCPEN k) ∧ bitsOf v 0 1 = 1 then t else t.startHdcp k

/-- OUTPUT_ENABLE (R296): a control write of DSO_OUTk_CTRL with EN set. -/
def execOutputEnable (r : Req) (k : Nat) (timing : Option OutTiming) (s : State) : Host.Outcome State Fault Refusal :=
  .next (if s.hasOuts ∧ k < 4 then s.controlWrite r fun t => t.whenSerdes fun u => u.writeOutCtrl k (u.rd (A.DSO_OUT_CTRL k) ||| 1#32) timing
    else if s.isHost then s.offWrite r else s)

/-- OUTPUT_REFRESH_REQUEST (R292): a control write of DSO_OUTk_CTRL with REFRESH set. -/
def execOutputRefreshRequest (r : Req) (k : Nat) (s : State) : Host.Outcome State Fault Refusal :=
  .next (if s.hasOuts ∧ k < 4 then s.controlWrite r fun t => t.whenSerdes fun u => u.writeOutCtrl k (u.rd (A.DSO_OUT_CTRL k) ||| 0x100#32) none
    else if s.isHost then s.offWrite r else s)

/-- MONITOR_HOTPLUG (R283, R292, R300, R301): a monitor attaches and trains at a rate and lanes of Table 11-1 (0 lanes: it does not), or
detaches. -/
def execMonitorHotplug (k : Nat) (m : Option Monitor) (s : State) : Host.Outcome State Fault Refusal :=
  .next (s.whenSerdes fun s => (
    if !s.hasOuts ∨ 4 ≤ k ∨ m.isSome = (s.dout k).monitor.isSome ∨ m.any (fun x => 6 < x.rate || !([0, 1, 2, 4].contains x.lanes)) then s
    else
      let t := (s.doutM k fun x => { x with monitor := m }).raise (50 + k) 2 [if m.isSome then 1 else 0]
      let t := match m with
        | some x =>
          if t.bit (F.DSO_OUT_CTRL_EN k) then
            let ok := t.linkFits k (t.outClock k (t.bit (F.DSO_OUT_CTRL_GENLOCK k))) (t.outBpc k) (t.dout k).pMode.dsc (t.dout k).pPps
            let t := (if ok then t.put (F.DSO_OUT_STAT_ERR k) 0 else t.outErr k 3).doutM k fun y => { y with noLink := !ok }
            t.raise (50 + k) 3 [x.rate, x.lanes, if x.lanes = 0 then 0 else 1]
          else t
        | none => t.doutM k fun y => { y with noLink := false }
      ((t.outState k).sendSink k).startHdcp k))

/-! ### Records at an output (R291 to R293) -/

/-- A MODE record's picture. -/
def readMode (b : List (BitVec 8)) : PicMode :=
  { w := leNat (slice b 0 2), h := leNat (slice b 2 2), period := leNat (slice b 4 4), fmt := byteAt b 8, bpc := byteAt b 9,
    dsc := byteAt b 10 % 2 == 1, vrr := byteAt b 10 / 2 % 2 == 1 }

/-- Why an output refuses a new mode (R288, R293, R296), as ERR; where AUTOTIM is 1 the timing is judged at the flip. -/
def State.modeErr (s : State) (k : Nat) (m : PicMode) (pps : List (BitVec 8)) : Nat :=
  if !(s.fits k m pps) then 4
  else if s.bit (F.DSO_OUT_CTRL_EN k) ∧ !(s.bit (F.DSO_OUT_CTRL_AUTOTIM k)) then
    s.timingErr k (s.bit (F.DSO_OUT_CTRL_GENLOCK k)) (s.outBpc k) m.dsc pps
  else 0

/-- The incoming mode is taken, an ERR of a mode refused before it being over, or refused with its ERR. -/
def State.judgeMode (s : State) (k : Nat) : State :=
  let x := s.dout k
  let e := s.modeErr k x.mode x.pps
  let t := s.doutM k fun y => { y with refused := e != 0 }
  if e ≠ 0 then t.outErr k e else t.put (F.DSO_OUT_STAT_ERR k) (if x.noLink then 3 else 0)

/-- A MODE record (R293): on a change Q and B go, P stays in the old mode, and REFRESH is sent; a mode that fails R288 or R296 is
refused, a DSC one once its PPS gives its slices. -/
def State.hearMode (s : State) (k : Nat) (m : PicMode) : State :=
  let x := s.dout k
  if x.mode.w = m.w ∧ x.mode.h = m.h ∧ x.mode.fmt = m.fmt ∧ x.mode.bpc = m.bpc ∧ x.mode.dsc = m.dsc then s.doutM k fun y => { y with mode := m }
  else
    let t := (s.doutM k fun y => { y with mode := m, q := none, b := none, asm := none, refused := false }).outBits k
    let t := t.sendRefresh k 3
    if m.dsc then t else t.judgeMode k

/-- A PPS record: it gives the slices of a DSC mode, which may then not fit. -/
def State.hearPps (s : State) (k : Nat) (b : List (BitVec 8)) : State :=
  let t := s.doutM k fun x => { x with pps := b }
  if (t.dout k).mode.dsc then t.judgeMode k else t

/-- A FRAME_END completes the B of its frame, or a frame identical to its predecessor (R291); the B of an abandoned frame goes (R279). False:
it waits, HELD with Q present. -/
def State.hearFrameEnd (s : State) (k : Nat) (b : List (BitVec 8)) : State × Bool :=
  let x := s.dout k
  if s.heldNow k ∧ x.q.isSome then (s, false)
  else
    let frame := leNat (slice b 0 4)
    let done := (if x.bFrame = frame then x.b else none).getD (x.q.getD x.p)
    let t := if x.q.isSome then s.bump F.DSO_SUPERSEDE else s
    let t := (t.doutM k fun y => { y with q := some done, b := none, qFrame := frame, qMode := y.mode, qPps := y.pps, qMdata := y.mdata }).outBits k
    if byteAt b 8 % 2 = 1 then
      let t := t.bump F.DSO_INCOMPL
      if t.due x.incAt 1000000000 then ((t.doutM k fun y => { y with incAt := some s.uptime }).raise (50 + k) 5 [frame], true) else (t, true)
    else (t, true)

/-- A display control record at an output; false where it must wait. -/
def State.outHear (s : State) (k : Nat) (bytes : List (BitVec 8)) : State × Bool :=
  match readRecord bytes with
  | some (0x01, b) => if b.length = 12 then (s.hearMode k (readMode b), true) else (s.bump F.DSC_DECERR, true)
  | some (0x02, b) => if b.length = 12 then (if (s.dout k).refused then (s, true) else s.hearFrameEnd k b) else (s.bump F.DSC_DECERR, true)
  | some (0x03, b) => if b.length ≤ 64 then (s.doutM k fun x => { x with mdata := b }, true) else (s.bump F.DSC_DECERR, true)
  | some (0x04, b) => if b.length = 128 then (s.hearPps k b, true) else (s.bump F.DSC_DECERR, true)
  | _ => (s.bump F.DSC_DECERR, true)

/-! ### Tiles at an output (R275, R289, R290) -/

/-- Slots a tile or slice takes. -/
def OutSt.span (x : OutSt) : Nat := if x.mode.dsc then sliceSpan x.pps else 1

/-- Write one slot of the frame stores, the slots in rising order. -/
def slotInsert (k : Nat) (w : List Word) : List (Nat × List Word) → List (Nat × List Word)
  | [] => [(k, w)]
  | e :: t => if k < e.1 then (k, w) :: e :: t else if k = e.1 then (k, w) :: t else e :: slotInsert k w t

/-- The slots written stand in strictly rising order. -/
def slotsRise (l : List (Nat × List Word)) : Bool := decide ((l.map (·.1)).Pairwise (· < ·))

/-- A word protected under the content key of a slot (R300); the same again brings it back. -/
def State.storeCrypt (s : State) (prot : Bool) (slot i : Nat) (w : Word) : Word := if prot then w ^^^ Config.storeStream s.store.key slot i else w

/-- Write a tile's lines, or a slice's bytes, to the frame store (R286, R287), encrypted where protected (R300); nothing is kept while a DRAM
rail is low (R43). -/
def State.storeTile (s : State) (slot : Nat) (words : List Word) (prot : Bool) : State :=
  if !s.memUp then s
  else { s with store := { s.store with slots := slotInsert slot (words.mapIdx fun i w => s.storeCrypt prot slot i w) s.store.slots } }

/-- A word of a slot as scan-out reads it, decrypted where protected. -/
def State.storeWord (s : State) (prot : Bool) (slot i : Nat) : Word :=
  s.storeCrypt prot slot i (match (assoc s.store.slots slot).bind (·[i]?) with
    | some w => w
    | none => Config.dramNoise slot i)

/-- The first slot of tile `t` of a buffer. -/
def State.slotOf (s : State) (k buf t : Nat) : Nat := (s.get (F.DSO_OUT_FS_BASE k) + buf * s.bufsz k) * 128 + t * (s.dout k).span

/-- The buffers a tile may be written to (R290). -/
def State.freeBufs (s : State) (k t : Nat) : List Nat :=
  let x := s.dout k
  let base := assoc x.p t
  let pend := x.q.bind fun q => assoc q t
  let mine := x.b.bind fun b => assoc b t
  let ok := (List.range (s.nbuf k)).filter fun b => (match base with | some e => e.buf != b | none => true) && (match pend with | some e => e.buf != b | none => true)
  match mine with
  | some e => if ok.contains e.buf then [e.buf] else ok
  | none => ok

/-- A tile is discarded (R275): counted, the event, and REFRESH. -/
def State.decodeError (s : State) (k tid : Nat) : State :=
  let grantee := match s.endAt (0x3000 + k) 4 with | some c => c.par.grant | none => 0
  (((s.doutM k fun x => { x with asm := none }).bump F.DSC_DECERR).raiseWith (8 * 48) false grantee [k, tid % 256, tid / 256, 0]).sendRefresh k 1

/-- Lines padded to the store's stride of 64 words. -/
def strideLines (ls : List (List Word)) : List Word := ls.flatMap fun l => l ++ List.replicate (64 - l.length) 0

/-- A whole tile or slice is decoded into a free buffer of the building map. -/
def State.placeTile (s : State) (k tid : Nat) (hdr data : List (BitVec 8)) : State :=
  let x := s.dout k
  let g := gridOf x.mode.w x.mode.h x.mode.dsc x.pps
  let tx := leNat (slice hdr 8 2)
  let ty := leNat (slice hdr 10 2)
  let t := ty * g.1 + tx
  let tw := min 64 (x.mode.w - 64 * tx)
  let th := min 64 (x.mode.h - 64 * ty)
  let slice_ := byteAt hdr 1 % 4 == 1
  let prot := byteAt hdr 1 / 4 % 2 == 1
  if g.1 ≤ tx ∨ g.2 ≤ ty ∨ slice_ ≠ x.mode.dsc ∨ (!slice_ && (byteAt hdr 12 % 64 + 1 != tw || byteAt hdr 13 % 64 + 1 != th)) ∨
      (slice_ && decide (16384 * x.span < data.length)) then s.decodeError k tid
  else
    match (if slice_ then some (bytesWords ((data.length + 3) / 4) data) else (decodeTile tw th none data).map strideLines), s.freeBufs k t with
    | some words, b :: bs =>
      let buf := (b :: bs).getD (Config.pick (b :: bs) % (b :: bs).length) b
      let frame := leNat (slice hdr 4 4)
      let fresh := x.b.isNone || x.bFrame != frame
      let map := if fresh then x.q.getD x.p else x.b.getD []
      let u := s.doutM k fun y => { y with asm := none, bFrame := frame, b := some (putBy (fun e => e.1 == t) (t, { buf := buf, prot := prot, typ1 := prot && Config.tileType1 hdr }) map) }
      (u.storeTile (s.slotOf k buf t) words prot).outBits k
    | some _, [] => s
    | none, _ => s.decodeError k tid

/-- A fragment header is consistent with the tile it continues (R275), LAST mark included. -/
def fragOk (asm : Option TileAsm) (b : List (BitVec 8)) (last : Bool) : Bool :=
  decide (16 < b.length) && byteAt b 0 == 1 && decide (byteAt b 1 % 4 ≤ 1) && decide (byteAt b 1 < 16) && decide (0 < byteAt b 3) &&
    leNat (slice b 14 2) == 0 && last == (byteAt b 2 + 1 == byteAt b 3) && (last || b.length == 9344) &&
    (match asm with
      | some a => byteAt b 2 == a.got && byteAt b 3 == byteAt a.hdr 3 && slice b 4 8 == slice a.hdr 4 8
      | none => byteAt b 2 == 0)

/-- A tile fragment at an output; false where the tile must wait for a buffer (R290). -/
def State.outFragment (s : State) (k tid : Nat) (b : List (BitVec 8)) (last : Bool) : State × Bool :=
  let x := s.dout k
  if x.refused then (s, true)
  else if !(fragOk x.asm b last) then (s.decodeError k tid, true)
  else
    let g := gridOf x.mode.w x.mode.h x.mode.dsc x.pps
    if s.freeBufs k (leNat (slice b 10 2) * g.1 + leNat (slice b 8 2)) = [] then (s, false)
    else
      let data := (match x.asm with | some a => a.data | none => []) ++ b.drop 16
      if last then (s.placeTile k tid (b.take 16) data, true)
      else (s.doutM k fun y => { y with asm := some { hdr := (match x.asm with | some a => a.hdr | none => b.take 16), got := byteAt b 2 + 1, data := data } }, true)

/-- A frame of a DISPLAY tunnel is delivered at an end: an output or a source. -/
def State.displayDeliver (s : State) (c : TunCtx) (f : Frame) : State × Bool :=
  if c.ep / 4096 = 2 then (if f.kind = 0x0E then (s.srcRecord (c.ep % 4096) f.payload, true) else (s.bump F.DSC_DECERR, true))
  else if f.kind = 0x0D then s.outFragment (c.ep % 4096) c.par.tid f.payload (flagOf f.flags 3)
  else s.outHear (c.ep % 4096) f.payload

/-- The output's tunnel has opened (R289, R292): every map is not valid, Q and B are absent, and REFRESH is sent. -/
def State.outOpened (s : State) (k : Nat) : State :=
  let t := s.doutM k fun x => { x with p := [], q := none, b := none, asm := none, mode := PicMode.reset, pMode := PicMode.reset, refused := false }
  (t.outBits k).sendRefresh k 2

/-- The tile-source end has moved or the tunnel has closed (R301): B and Q go, P stays. -/
def State.outMoved (s : State) (k : Nat) : State :=
  (s.doutM k fun x => { x with q := none, b := none, asm := none }).outBits k

/-- The output's end has come here by a retarget or a reinstall (R301, R358): B and Q go and P stays; without one, as after a reset, REFRESH is
sent. -/
def State.outArrived (s : State) (k : Nat) : State :=
  let t := s.outMoved k
  if (s.dout k).p = [] then t.sendRefresh k 2 else t

/-! ### Boundaries and flips (R294, R295, R297, R298) -/

/-! ### Scan-out (R284, R285, R289, R297, R300) -/

/-- Whether a presented tile is sent: its entry is valid, and a protected one only over a link that encrypts at the required type. -/
def State.shown (s : State) (k t : Nat) : Option MapTile :=
  match assoc (s.dout k).p t with
  | some e => if e.prot && !(s.encrypts k (s.get (F.DSO_OUT_STAT_HDCP k))) then none else some e
  | none => none

/-- A component as sent (R284). -/
def sendComp (bpc v : Nat) : Nat := if bpc = 10 then v else min ((v + 2) / 4) 255

/-- A pixel of the active area as sent (R285): the picture stands at the top left, and what it does not cover is black. -/
def State.scanPixel (s : State) (k x y : Nat) : Nat × Nat × Nat :=
  let m := (s.dout k).pMode
  let t := y / 64 * ceilDiv m.w 64 + x / 64
  match (if x < m.w ∧ y < m.h then s.shown k t else none) with
  | none => (0, 0, 0)
  | some e =>
    let c := wordPix (s.storeWord e.prot ((s.get (F.DSO_OUT_FS_BASE k) + e.buf * s.bufsz k) * 128 + t) (64 * (y % 64) + x % 64))
    let b := s.outBpc k
    (sendComp b c.c0, sendComp b c.c1, sendComp b c.c2)

/-- Active lines as sent; `dry` lists lines whose FIFO ran dry, each with the pixel from which it is black (R296). -/
def State.scanLines (s : State) (k : Nat) (dry : List (Nat × Nat)) (ys : List Nat) : List (List (Nat × Nat × Nat)) :=
  ys.map fun y => (List.range (s.get (F.DSO_OUT_H_ACT k))).map fun x =>
    if dry.any fun e => e.1 == y && decide (e.2 ≤ x) then (0, 0, 0) else s.scanPixel k x y

/-- The slices of a DSC picture in raster order as sent (R287): chunk size × slice height bytes each. -/
def State.scanSlices (s : State) (k : Nat) : List (List (BitVec 8)) :=
  let x := s.dout k
  let g := gridOf x.pMode.w x.pMode.h true x.pPps
  let n := (ppsSlice x.pPps).2.2.1 * (ppsSlice x.pPps).1
  (List.range (g.1 * g.2)).map fun t =>
    match s.shown k t with
    | none => Config.blackSlice x.pPps
    | some e =>
      let slot := (s.get (F.DSO_OUT_FS_BASE k) + e.buf * s.bufsz k) * 128 + t * sliceSpan x.pPps
      ((List.range ((n + 3) / 4)).flatMap fun i => wordBytes (s.storeWord e.prot slot i)).take n

/-- The frame an output in Raster mode has sent when a boundary comes. -/
def State.scanOut (s : State) (k : Nat) (dry : List (Nat × Nat)) : State :=
  if s.get (F.DSO_OUT_STAT_STATE k) ≠ 3 then s
  else if (s.dout k).pMode.dsc then s.emit (.slices k (s.dout k).pPps (s.scanSlices k) (s.dout k).pMdata)
  else s.emit (.picture k (s.outBpc k) (s.scanLines k dry (List.range (s.get (F.DSO_OUT_V_ACT k)))) (s.dout k).pMdata)

/-- The active lines of tile rows. -/
def State.bandLines (s : State) (k : Nat) (rows : List Nat) : List Nat :=
  (List.range (s.get (F.DSO_OUT_V_ACT k))).filter fun y => rows.contains (y / 64)

/-- Whether the next flip shows another mode, which firmware retimes the output for where AUTOTIM is 1 (R293). -/
def OutSt.remode (x : OutSt) : Bool :=
  x.pMode.w != x.qMode.w || x.pMode.h != x.qMode.h || x.pMode.fmt != x.qMode.fmt || x.pMode.bpc != x.qMode.bpc || x.pMode.dsc != x.qMode.dsc

/-- FLIP (R298): Q becomes the presented map. `late` is the boundary that was due, where the flip is late (R299). In Update mode the bands
whose map entries changed are sent, every band where the picture did (R297). -/
def State.flip (s : State) (k : Nat) (q : List (Nat × MapTile)) (late : Option Nat) : State :=
  let x := s.dout k
  let cols := max 1 (gridOf x.qMode.w x.qMode.h x.qMode.dsc x.qPps).1
  let rows := if !x.remode then ((q.filter fun e => assoc x.p e.1 != some e.2).map fun e => e.1 / cols).eraseDups
    else List.range (ceilDiv (s.get (F.DSO_OUT_V_ACT k)) 64)
  let t := s.doutM k fun y => { y with p := q, q := none, pMode := y.qMode, pPps := y.qPps, pMdata := y.qMdata, flip := none }
  let t := ((t.put (F.DSO_OUT_FLIPSEC k) s.sec).put (F.DSO_OUT_FLIPNS_NS k) s.ns).put (F.DSO_OUT_SHOWN k) x.qFrame
  let t := t.raise (50 + k) 0 [t.get (F.DSO_OUT_FRAMECNT k), x.qFrame, s.ns]
  let t := match late with
    | some d => t.raise (50 + k) 1 [min ((s.now - d) / 1000) 0xFFFFFFFF, x.qFrame]
    | none => t
  let t := ((t.outBits k).outState k).setHdcp k (t.get (F.DSO_OUT_STAT_HDCP k))
  let t := if t.get (F.DSO_OUT_STAT_HDCP k) = 2 ∧ t.linkType k ≠ s.linkType k then t.emit (.streamType k (t.linkType k)) else t
  if t.get (F.DSO_OUT_STAT_STATE k) = 4 then t.emit (.su k rows (t.outBpc k) (t.scanLines k [] (t.bandLines k rows)) x.qMdata) else t

/-- The flip due at a boundary, by the FLIPMODE in force there (R301), or the note that one was due and found no Q. -/
def State.boundaryFlip (s : State) (k : Nat) : State :=
  let s := s.doutM k fun y => { y with held := none }
  let x := s.dout k
  if !(s.bit (F.DSO_OUT_CTRL_HELD k)) then
    match x.q with
    | some q => (s.flip k q none).doutM k fun y => { y with flip := x.flip }
    | none => s
  else
    match x.flip with
    | some f =>
      if !f.armed ∨ s.now < f.when then s
      else
        match x.q with
        | some q => s.flip k q f.dueAt
        | none => s.doutM k fun y => { y with flip := some { f with dueAt := some (f.dueAt.getD s.now) } }
    | none => s

/-- The correction a genlocked generator makes to its next frame (R295): an error above one line time is removed by one blanking interval,
a smaller one by trimming the PLL within 500 ppm. -/
def genTrim (per lines : Nat) (e : Int) : Int :=
  if per / max 1 lines < e.natAbs then e else if e < 0 then -((min e.natAbs (per / 2000) : Nat) : Int) else ((min e.natAbs (per / 2000) : Nat) : Int)

/-- Whether an output's boundary can fall now (R295): under genlock a corrected GLPER after the last, or whole GLPERs later, to the 20 ns
of GLOCK. The time between is fabric time; where the servo has stepped the clock meanwhile, local time. -/
def State.genDue (s : State) (k : Nat) : Bool :=
  let per := s.get (F.DSO_OUT_GLPER_NS k)
  match (s.dout k).gen with
  | none => true
  | some (n, u, e) =>
    let loc : Int := (s.uptime : Int) - u
    let fab : Int := (s.now : Int) - n
    let d := (if decide (2000 * (fab - loc).natAbs ≤ loc.natAbs) then fab else loc) - (per - genTrim per (s.get (F.DSO_OUT_V_TOTAL k)) e)
    !(s.bit (F.DSO_OUT_CTRL_EN k)) || !(s.bit (F.DSO_OUT_CTRL_GENLOCK k)) || per == 0 || (decide (-20 ≤ d) && decide ((d + 20) % per ≤ 40))

/-- Genlock at a boundary (R295): the error against the nearest target, and GLOCK with its event. -/
def State.genlock (s : State) (k : Nat) : State :=
  let per := s.get (F.DSO_OUT_GLPER_NS k)
  if !(s.bit (F.DSO_OUT_CTRL_GENLOCK k)) ∨ per = 0 then s
  else
    let e : Int := (((s.now + per - s.get (F.DSO_OUT_GLPH_NS k) % per + per / 2) % per : Nat) : Int) - (per / 2 : Nat)
    let lock := decide (e.natAbs ≤ 20)
    let t := (s.put (F.DSO_OUT_GLERR_ERR k) (e % 2 ^ 32).toNat).doutM k fun y => { y with gen := some (s.now, s.uptime, e) }
    if s.bit (F.DSO_OUT_STAT_GLOCK k) = lock then t
    else (t.putBit (F.DSO_OUT_STAT_GLOCK k) lock).raise (50 + k) 4 [if lock then 1 else 0, (e % 2 ^ 32).toNat]

/-- Whether a flip is taken at this boundary (R298, R299). -/
def State.flipDue (s : State) (k : Nat) : Bool :=
  (s.dout k).q.isSome && (!(s.bit (F.DSO_OUT_CTRL_HELD k)) || (match (s.dout k).flip with
    | some f => f.armed && decide (f.when ≤ s.now)
    | none => false))

/-- Firmware retimes an output at the flip of a new mode (R293), or keeps the timing it has set; a timing R296 forbids refuses the mode: Q and B go, P stays. -/
def State.retimeFlip (s : State) (k : Nat) (t : Option OutTiming) : State :=
  let u := match t with | some x => s.setTiming k x | none => s
  let e := u.timingErr k (s.bit (F.DSO_OUT_CTRL_GENLOCK k)) (s.outBpc k) (s.dout k).qMode.dsc (s.dout k).qPps
  if e = 0 then u.boundaryFlip k
  else ((s.doutM k fun y => { y with q := none, b := none, asm := none, refused := true }).outBits k).outErr k e

/-- The flips that fell due while scan-out had stopped (R299): under genlock at the boundary GLPER and GLPHASE place, else at WHEN. -/
def State.missFlips (s : State) : State :=
  [0, 1, 2, 3].foldl (fun t k => let t := t.doutM k fun y => { y with gen := none }; match (s.dout k).flip with
    | some f =>
      let per := s.get (F.DSO_OUT_GLPER_NS k)
      let at_ := if s.bit (F.DSO_OUT_CTRL_GENLOCK k) ∧ per ≠ 0 then f.when + (per + s.get (F.DSO_OUT_GLPH_NS k) % per - f.when % per) % per else f.when
      if f.armed ∧ f.dueAt = none ∧ at_ ≤ s.now then t.doutM k fun y => { y with flip := some { f with dueAt := some at_ } } else t
    | none => t) s

/-! ### DSO_FLIP (R299) -/

/-- DSO_FLIP on this device (Table 11-3): completion code and result. -/
def State.dsoFlip (s : State) (ops : BitVec 448) : State × Nat × BitVec 448 :=
  let o := fun (off size : Nat) => ops.toNat / 256 ^ (off - 8) % 256 ^ size
  let mask := o 0x08 1 % 16
  let named := [0, 1, 2, 3].filter fun k => mask / 2 ^ k % 2 == 1
  let when := o 0x10 6 * 1000000000 + o 0x18 4
  let at_ := o 0x09 1 % 2 == 1
  let late := at_ && decide (when < s.now + 10000)
  if mask = 0 ∨ !s.hasOuts then (s, 0x03, resultOf [(0x08, 1)])
  else if o 0x09 1 / 2 % 2 = 1 then
    (named.foldl (fun t k => (t.doutM k fun x => { x with flip := match x.flip with
      | some f => if f.cart.isSome then some f else none
      | none => none }).outBits k) s, 0x00, 0)
  else if named.any fun k => !(s.heldNow k) then (s, 0x03, resultOf [(0x08, 2)])
  else if named.any fun k => (s.dout k).flip.isSome then (s, 0x03, resultOf [(0x08, 3)])
  else
    let f : FlipArm := { when := if at_ && !late then when else s.now + 10000, cart := none, armed := true, dueAt := none }
    (named.foldl (fun t k => (t.doutM k fun x => { x with flip := some f }).outBits k) s, 0x00, resultOf [(0x09, if late then mask else 0)])

/-- The operand bits of DSO_FLIP. -/
def dsoFlipBits : List (Nat × Nat × Nat) := [(0x08, 0, 4), (0x09, 0, 2), (0x10, 0, 48), (0x18, 0, 30)]

/-- DSO_FLIP (R299). -/
def execDsoFlip (c : HostCmd) (s : State) : Host.Outcome State Fault Refusal :=
  .next (s.command 0x30 true dsoFlipBits c fun t u => u.onTarget t c fun v => State.answer t (v.dsoFlip c.ops))

end Sys2Proof.Machine
end

