-- ==== Sys2Proof/Machine/Pcie.lean ====
section
/-! DEFINITION. PCI Express bridging (chapter 9) but for hot-plug: TLPs into and out of bundles, synthesized completions,
read-ahead, the posted-error log, side-band summaries. PCIe link 4 is the upstream link, 0 to 3 the dock ports. -/

namespace Sys2Proof.Machine

/-! ### Fields of TLPs (PCI Express Base Specification 5.0) -/

/-- The member a TLP travels in (R236): 0 posted, 1 non-posted, 2 completion. -/
def tlpClass (h : List (BitVec 8)) : Nat :=
  let typ := byteAt h 0 % 32
  if typ = 0x0A ∨ typ = 0x0B then 2 else if 16 ≤ typ ∨ (typ = 0 ∧ 64 ≤ byteAt h 0) then 0 else 1

/-- Payload bytes of a TLP. -/
def tlpPayload (h : List (BitVec 8)) : Nat := if byteAt h 0 / 64 % 2 = 1 then 4 * tlpLen h else 0

/-- Doublewords of a TLP header. -/
def tlpHdrLen (h : List (BitVec 8)) : Nat := if byteAt h 0 / 32 % 2 = 1 then 16 else 12

/-- The doubleword address of a memory, I/O or AtomicOp request. -/
def tlpAddr (h : List (BitVec 8)) : Nat := beNat (slice h 8 (tlpHdrLen h - 8)) / 4 * 4

/-- Whether a request addresses memory. -/
def tlpMem (h : List (BitVec 8)) : Bool := byteAt h 0 % 32 ∈ [0, 1, 0x0C, 0x0D, 0x0E]

/-- Whether a request is a memory read. -/
def tlpRead (h : List (BitVec 8)) : Bool := byteAt h 0 % 32 == 0 && decide (byteAt h 0 < 64)

/-- Disabled bytes before the first enabled one of a doubleword. -/
def beLead (be : Nat) : Nat := if be % 2 = 1 then 0 else if be / 2 % 2 = 1 then 1 else if be / 4 % 2 = 1 then 2 else if be / 8 % 2 = 1 then 3 else 0

/-- Disabled bytes after the last enabled one. -/
def beTrail (be : Nat) : Nat := if be / 8 % 2 = 1 then 0 else if be / 4 % 2 = 1 then 1 else if be / 2 % 2 = 1 then 2 else 3

/-- Disabled bytes after the last enabled byte of a memory read. -/
def tlpTrail (h : List (BitVec 8)) : Nat :=
  let be := byteAt h 7
  if tlpLen h = 1 then (if be % 16 = 0 then 3 else beTrail (be % 16)) else beTrail (be / 16)

/-- The byte count of a request's completions. -/
def tlpCount (h : List (BitVec 8)) : Nat :=
  if tlpRead h then 4 * tlpLen h - beLead (byteAt h 7 % 16) - tlpTrail h else tlpB h

/-- The address of the first byte a memory read asks for. -/
def tlpFirst (h : List (BitVec 8)) : Nat := tlpAddr h + beLead (byteAt h 7 % 16)

/-- A message the bridge does not support and drops where it arrives (Table 9-2): LTR or OBFF. -/
def tlpDropped (h : List (BitVec 8)) : Bool := decide (16 ≤ byteAt h 0 % 32) && (byteAt h 7 == 0x10 || byteAt h 7 == 0x12)

/-- A completion header for a request: status, bytes it counts, length in doublewords, lower address. -/
def cplHeader (hdr : List (BitVec 8)) (who status count len low : Nat) : List (BitVec 8) :=
  let d := if len = 0 then 0x0A else 0x4A
  [d, byteAt hdr 1 / 4 * 4, byteAt hdr 2 / 16 % 4 * 16 + len / 256 % 4, len, (Config.completerId who).toNat / 256,
    (Config.completerId who).toNat, status * 32 + count / 256 % 16, count, byteAt hdr 4, byteAt hdr 5, byteAt hdr 6, low % 128].map
    (BitVec.ofNat 8)

/-- A completion without data that ends a request with `owed` bytes still to come. -/
def cplEnd (hdr : List (BitVec 8)) (who status owed : Nat) : List (BitVec 8) :=
  cplHeader hdr who status (if tlpRead hdr then owed else 4) 0 (if tlpRead hdr then tlpFirst hdr + tlpCount hdr - owed else 0)

/-! ### Bundles -/

/-- The context of a member type of a bundle at one end position. -/
def State.bundle (s : State) (lead pos typ : Nat) : Option TunCtx :=
  s.tun.ctxs.find? fun c => c.leader == lead && c.pos == pos && c.par.typ == typ && c.isEnd

/-- The PCIe link of an end: 4 at the host bridge, the dock port otherwise. -/
def TunCtx.pcieLink (c : TunCtx) : Nat := if c.pos = 1 then 4 else c.ep % 4096

/-- Slot or port of an end. -/
def TunCtx.unit (c : TunCtx) : Nat := c.ep % 4096

/-- Why a TLP from the fabric cannot go out (R245), 0 where it can: 1 link down, 2 port disabled, 3 host gone. -/
def State.pcieBlocked (s : State) (c : TunCtx) : Nat :=
  if c.pos = 1 then (if s.own.perstHigh && s.own.linkUp && s.pcx.bme then 0 else 3)
  else if s.bit (F.PCX_PORTSTAT_DISABLED c.unit) || (s.dport c.unit).sbr then 2
  else if s.bit (F.PCX_PORTSTAT_LINKUP c.unit) then 0 else 1

/-- Enter a TLP or side-band payload into a bundle member. -/
def State.pcieSend (s : State) (m : TunCtx) (bytes : List (BitVec 8)) (last : Bool) : State :=
  s.ingress m.ep m.par.typ ((typeKinds m.par.typ).headD 0) bytes last false

/-- A synthesized completion goes to the requester over the fabric (R240). -/
def State.synthesize (s : State) (lead pos : Nat) (hdr : List (BitVec 8)) (status owed : Nat) : State :=
  match s.bundle lead pos 2 with
  | none => s
  | some m =>
    ((s.pcieSend m (cplEnd hdr m.unit status owed) true).bump F.PCX_CPLSYN).raise 43 7
      [status, m.unit, m.par.tid % 256, m.par.tid / 256]

/-- An unexpected completion is discarded and counted (R240, R241), its event at most once per 1 ms. -/
def State.unexpected (s : State) (tid : Nat) : State :=
  let t := s.bump F.PCX_UNEXCPL
  if s.due s.pcx.unexAt 1000000 then (t.pcxM fun x => { x with unexAt := some s.uptime }).raise 44 1 [tid % 256, tid / 256, 0, 0]
  else t

/-- The requests outstanding on a bundle are answered Completer Abort at the requesting side, and its reservations end
(R241): the bundle is closed or retargeted, or its far end has reset. -/
def State.abortBundle (s : State) (lead : Nat) : State :=
  let mine := s.pcx.outs.filter fun o => o.lead == lead
  let link := fun (o : ReqOut) => if s.isHost then 4 else o.unit
  let t := mine.foldl (fun u o =>
    let u := if o.got < o.want ∨ !(tlpRead o.hdr) then u.emit (.tlp (link o) (cplEnd o.hdr o.unit 4 (o.want - o.got))) else u
    u.raise 43 7 [4, o.unit, lead % 256, lead / 256]) s
  let t := t.pcxM fun x => { x with outs := x.outs.filter fun o => o.lead != lead }
  t.tunM fun u => { u with cplPool := u.cplPool.filter fun r => r.lead != lead }

/-! ### Read-ahead (R243, R244) -/

/-- Write a prefetch-discard log entry, count it and raise its event. -/
def State.logDiscard (s : State) (slot addr len cause : Nat) : State :=
  let e := s.get F.PCX_PDLHEAD_NEXT
  let t := (((((((s.put (F.PCX_PDL0_ADDR e) addr).put (F.PCX_PDL1_ADDRHI e) (addr / 2 ^ 32)).put (F.PCX_PDL2_LEN e) len).put
    (F.PCX_PDL2_SLOT e) slot).put (F.PCX_PDL2_CAUSE e) cause).put (F.PCX_PDL2_VALID e) 1).put (F.PCX_PDL3_NS e) s.ns).put
    F.PCX_PDLHEAD_NEXT (e + 1)
  (t.bump F.PCX_PDCNT).raise 43 6 [e, cause, slot, 0]

/-- The unclaimed bytes of a buffer are discarded for a cause. -/
def State.discardBuf (s : State) (b : RaBuf) (cause : Nat) : State :=
  match b.bytes.findIdx? (·.isSome) with
  | some i => s.logDiscard b.slot (b.addr + i) (b.bytes.filter (·.isSome)).length cause
  | none => s

/-- Discard the buffers that pass a test. -/
def State.discardBufs (s : State) (test : RaBuf → Bool) (cause : Nat) : State :=
  (s.pcx.bufs.filter test).foldl (fun t b => t.discardBuf b cause)
    (s.pcxM fun x => { x with bufs := x.bufs.filter fun b => !(test b) })

/-- Bytes read ahead arrive: they extend the buffer that ends where they begin, or take a new one. -/
def State.fillBuf (s : State) (slot addr : Nat) (bytes : List (BitVec 8)) : State :=
  if bytes = [] then s
  else
    match s.pcx.bufs.find? fun b => b.slot == slot && b.addr + b.bytes.length == addr && decide (b.bytes.length + bytes.length ≤ 512) with
    | some b => s.pcxM fun x => { x with bufs := (x.bufs.filter (· != b)) ++ [{ b with bytes := b.bytes ++ bytes.map some, at_ := s.uptime }] }
    | none =>
      let t := if s.pcx.bufs.length < 16 then s
        else match s.pcx.bufs with
          | b :: rest => (s.pcxM fun x => { x with bufs := rest }).discardBuf b 3
          | [] => s
      t.pcxM fun x => { x with bufs := x.bufs ++ [{ slot := slot, addr := addr, bytes := bytes.map some, at_ := s.uptime }] }

/-- How far a host read may be lengthened (R243): to the last 64-byte boundary within 512 bytes, the 4 KiB page and the
window. -/
def aheadEnd (start stop limit : Nat) : Nat :=
  max stop (min (stop + 512) (min ((start / 4096 + 1) * 4096) (limit + 1)) / 64 * 64)

/-- A memory read lengthened to `stop`: length, and last byte enables that take the added bytes. -/
def lengthen (bytes : List (BitVec 8)) (stop : Nat) : List (BitVec 8) :=
  let off := bytes.length - (tlpHeader bytes).length
  let h := tlpHeader bytes
  let n := (stop - tlpAddr h) / 4
  let be := byteAt h 7 % 16 + 0xF0
  ((bytes.set (off + 2) (BitVec.ofNat 8 (byteAt h 2 / 4 * 4 + n / 256 % 4))).set (off + 3) (BitVec.ofNat 8 n)).set (off + 7) (BitVec.ofNat 8 be)

/-- The buffer whose unclaimed bytes hold a whole range. -/
def State.bufFor (s : State) (slot first count : Nat) : Option RaBuf :=
  s.pcx.bufs.find? fun b => b.slot == slot && decide (b.addr ≤ first) && decide (first + count ≤ b.addr + b.bytes.length) &&
    (slice b.bytes (first - b.addr) count).all (·.isSome)

/-- The completions of a memory read with its bytes from an address: none above Max_Payload_Size, each but the last ending on a multiple of it. -/
def splitCpl (h : List (BitVec 8)) (who mps : Nat) : Nat → Nat → List (BitVec 8) → List (List (BitVec 8))
  | 0, _, _ => []
  | n + 1, first, got =>
    let k := min got.length (mps - first % mps)
    let last := k == got.length
    let data := List.replicate (first % 4) (0 : BitVec 8) ++ got.take k ++ (if last then List.replicate (tlpTrail h) 0 else [])
    (cplHeader h who 0 got.length (data.length / 4) first ++ data) :: (if last then [] else splitCpl h who mps n (first + k) (got.drop k))

/-- A host read is completed from a buffer, and its bytes are released. -/
def State.claimBuf (s : State) (b : RaBuf) (h : List (BitVec 8)) : State :=
  let first := tlpFirst h
  let n := tlpCount h
  let got := (slice b.bytes (first - b.addr) n).map fun x => x.getD 0
  let rest := b.bytes.zipIdx.map fun e => if first ≤ b.addr + e.2 ∧ b.addr + e.2 < first + n then none else e.1
  let t := s.pcxM fun x => { x with
    bufs := if rest.all (·.isNone) then x.bufs.filter (· != b) else x.bufs.map fun y => if y = b then { b with bytes := rest } else y }
  t.emits ((splitCpl h b.slot (s.maxPayload 4) 5 first got).map fun c => .tlp 4 c)

/-! ### TLPs from a PCIe link (R230, R236) -/

/-- Whether the memory windows of function 4 and of a virtual port act: Memory Space Enable of both. -/
def State.windowsOn (s : State) (k : Nat) : Bool := s.cfgStored 4 4 / 2 % 2 == 1 && s.cfgStored (5 + k) 4 / 2 % 2 == 1

/-- The slots a host TLP matches (R230): by bus range, memory window, or all for a broadcast message. -/
def State.slotsFor (s : State) (h : List (BitVec 8)) : List Nat :=
  let typ := byteAt h 0 % 32
  let bus := fun (k : Nat) => decide (0 < (s.slot k).secBus) && decide ((s.slot k).secBus ≤ byteAt h 8) && decide (byteAt h 8 ≤ (s.slot k).subBus)
  let mem := fun (k : Nat) => s.windowsOn k && ((decide ((s.slot k).memBase ≤ tlpAddr h) && decide (tlpAddr h ≤ (s.slot k).memLim)) ||
    (decide ((s.slot k).prefBase ≤ tlpAddr h) && decide (tlpAddr h ≤ (s.slot k).prefLim)))
  (List.range 16).filter fun k =>
    if tlpClass h = 2 ∨ typ = 5 ∨ typ = 0x12 then bus k else if tlpMem h then mem k else if typ = 0x13 then true else false

/-- A number with a bit set. -/
def withBit (v i : Nat) : Nat := if v / 2 ^ i % 2 = 1 then v else v + 2 ^ i

/-- A TLP header as the four words of a Header Log. -/
def hdrWords (h : List (BitVec 8)) : List Nat :=
  let b := h.take (tlpHdrLen h)
  (List.range 4).map fun i => beNat (slice (b ++ List.replicate (16 - b.length) 0) (4 * i) 4)

/-- A request that function `fn` (0 to 4) does not support (R235): its bit of the AER status with the header of the first error, and Device Status.
An error not masked, where the host has enabled its reporting, sends the message of its severity; of a non-posted request answered Unsupported
Request, the severity being non-fatal, it is advisory and counts as correctable. -/
def State.unsupported (s : State) (fn : Nat) (h : List (BitVec 8)) : State :=
  let fatal := s.cfgStored fn 0x10C / 2 ^ 20 % 2 == 1
  let adv := !fatal && tlpClass h == 1
  let on := fun (i : Nat) => s.cfgStored fn 0x48 / 2 ^ i % 2 == 1
  let serr := s.cfgStored fn 4 / 2 ^ 8 % 2 == 1
  let t := if s.cfgStored fn 0x104 = 0 then (hdrWords h).zipIdx.foldl (fun u e => u.cfgPut fn (0x11C + 4 * e.2) e.1) s else s
  let t := t.cfgPut fn 0x104 (withBit (s.cfgStored fn 0x104) 20)
  let t := t.cfgPut fn 0x48 (withBit (withBit (s.cfgStored fn 0x48) 19) (if fatal then 18 else if adv then 16 else 17))
  let t := if adv then t.cfgPut fn 0x110 (withBit (s.cfgStored fn 0x110) 13) else t
  if s.cfgStored fn 0x108 / 2 ^ 20 % 2 = 1 ∨ !(on 3 || serr) then t
  else if fatal then (if on 2 || serr then t.emit (.pcie (.errMsg fn 2)) else t)
  else if adv then (if on 0 && s.cfgStored fn 0x114 / 2 ^ 13 % 2 == 0 then t.emit (.pcie (.errMsg fn 0)) else t)
  else if on 1 || serr then t.emit (.pcie (.errMsg fn 1))
  else t

/-- A request that finds no way on is answered Unsupported Request on its own link, as a switch answers it (R230). -/
def State.refuseTlp (s : State) (link : Nat) (h : List (BitVec 8)) : State :=
  let t := if link = 4 then s.unsupported (if s.boot.pers = 1 then 0 else 4) h else s
  if tlpClass h = 1 then t.emit (.tlp link (cplEnd h link 1 (tlpCount h))) else t

/-- A completion from a PCIe link goes back on its bundle (R236), or is unexpected (R240). -/
def State.cplToFabric (s : State) (c : TunCtx) (bytes : List (BitVec 8)) : State :=
  let h := tlpHeader bytes
  let (req, tag) := tlpCplKey h
  match s.pcx.ins.find? fun i => i.lead == c.par.tid && i.req == req && i.tag == tag with
  | none => s.unexpected ((s.bundle c.par.tid c.pos 2).elim c.par.tid (·.par.tid))
  | some i =>
    let last := tlpCplLast h
    let t := s.pcxM fun x => { x with
      ins := if last then x.ins.filter (· != i) else updBy (· == i) (fun y => { y with owed := y.owed - (tlpPayload h - byteAt h 11 % 4) }) x.ins }
    match s.bundle c.par.tid c.pos 2 with
    | some m => t.pcieSend m bytes last
    | none => t

/-- A posted request from a PCIe link enters the posted tunnel; at a host bridge the slot's read-ahead bytes go (R244). -/
def State.postedToFabric (s : State) (c : TunCtx) (bytes : List (BitVec 8)) : State :=
  let t := if c.pos = 1 then
      (s.discardBufs (fun b => b.slot == c.unit) 2).pcxM fun x =>
        { x with outs := updBy (fun o => o.unit == c.unit) (fun o => { o with stale := true }) x.outs }
    else s
  t.pcieSend c bytes false

/-- Note a request outstanding and send it in the non-posted tunnel. -/
def State.sendRequest (s : State) (c m : TunCtx) (bytes : List (BitVec 8)) (ahead : Nat) : State :=
  let h := tlpHeader bytes
  let (req, tag) := tlpReqKey h
  let o : ReqOut := {
    lead := c.par.tid, req := req, tag := tag, unit := c.unit, hdr := h.take 16, addr := tlpFirst h, want := tlpCount h,
    got := 0, skip := tlpTrail h, ahead := ahead, stale := false }
  (s.pcxM fun x => { x with outs := x.outs ++ [o] }).pcieSend m
    (if ahead = 0 then bytes else lengthen bytes (tlpAddr h + 4 * tlpLen h + ahead)) false

/-- The bytes a request may be lengthened by (R243). -/
def State.aheadFor (s : State) (c : TunCtx) (h : List (BitVec 8)) : Nat :=
  let x := s.slot c.unit
  let stop := tlpAddr h + 4 * tlpLen h
  if c.pos = 1 ∧ tlpRead h ∧ x.prefBase ≤ tlpAddr h ∧ stop ≤ x.prefLim + 1 ∧ s.bit F.PCX_CTRL_RAEN ∧ s.bit (F.PCX_SLOT_RAEN c.unit) then
    aheadEnd (tlpAddr h) stop x.prefLim - stop
  else 0

/-- A non-posted request from a PCIe link (R236, R243). -/
def State.requestToFabric (s : State) (c : TunCtx) (bytes : List (BitVec 8)) : State :=
  let h := tlpHeader bytes
  match (if c.pos = 1 ∧ tlpRead h then s.bufFor c.unit (tlpFirst h) (tlpCount h) else none), s.bundle c.par.tid c.pos 1 with
  | some b, _ => s.claimBuf b h
  | none, some m => s.sendRequest c m bytes (s.aheadFor c h)
  | none, none => s.refuseTlp c.pcieLink h

/-- A TLP from a PCIe link enters the bundle whose leader is `c`. -/
def State.tlpToBundle (s : State) (c : TunCtx) (bytes : List (BitVec 8)) : State :=
  match tlpClass (tlpHeader bytes) with
  | 0 => s.postedToFabric c bytes
  | 1 => s.requestToFabric c bytes
  | _ => s.cplToFabric c bytes

/-! ### TLPs from the fabric -/

/-- A posted TLP that cannot be delivered (R245): logged, counted, its event raised; a dock sends a notice (R246). -/
def State.postedFail (s : State) (c : TunCtx) (reason : Nat) (bytes : List (BitVec 8)) : State :=
  let h := tlpHeader bytes
  let addr := if tlpMem h then tlpAddr h else 0
  let rid := byteAt h 4 * 256 + byteAt h 5
  let e := s.get F.PCX_PELHEAD_NEXT
  let t := ((((((((((s.put (F.PCX_PEL0_TID e) c.par.tid).put (F.PCX_PEL0_REASON e) reason).put (F.PCX_PEL0_LEN e) (tlpPayload h)).put
    (F.PCX_PEL0_VALID e) 1).put (F.PCX_PEL1_ADDR e) addr).put (F.PCX_PEL2_ADDRHI e) (addr / 2 ^ 32)).put (F.PCX_PEL3_SEC e) s.sec).put
    (F.PCX_PEL4_NS e) s.ns).put (F.PCX_PEL5_RID e) rid).put F.PCX_PELHEAD_NEXT (e + 1)).bump F.PCX_PELCNT
  let t := t.raise 43 4 [e, reason, c.par.tid % 256, c.par.tid / 256]
  match (if c.pos = 1 then none else s.bundle c.par.tid c.pos 3) with
  | none => t
  | some m =>
    if t.due (assoc t.pcx.noteAt c.par.tid) 10000 then
      let hd := h.take (tlpHdrLen h)
      (t.pcxM fun x => { x with noteAt := putBy (fun a => a.1 == c.par.tid) (c.par.tid, s.uptime) x.noteAt }).pcieSend m
        (leBytes 1 2 ++ leBytes 1 reason ++ leBytes 2 (tlpPayload h) ++ leBytes 8 addr ++ leBytes 6 s.sec ++ leBytes 2 0 ++
          leBytes 4 s.ns ++ leBytes 2 rid ++ leBytes 6 0 ++ hd ++ List.replicate (16 - hd.length) 0) false
    else
      let t := t.bump F.PCX_NOTEDROP
      if t.due t.pcx.limitAt 1000000 then
        (t.pcxM fun x => { x with limitAt := some s.uptime }).raise 44 2 [c.par.tid % 256, c.par.tid / 256, 0, 0]
      else t

/-- Bytes of a lengthened read arrive (R243): the host's own bytes complete its read, the rest is kept, or discarded on
arrival where a posted request came between (R252). -/
def State.aheadArrive (s : State) (o : ReqOut) (bytes : List (BitVec 8)) : State :=
  let h := tlpHeader bytes
  let low := byteAt h 11 % 4
  let data := (h.drop (tlpHdrLen h)).drop low
  let n := min (tlpPayload h - low) (o.want + o.skip + o.ahead - o.got)
  let own := min n (o.want - o.got)
  let t := if own = 0 then (if byteAt h 6 / 32 ≠ 0 ∧ o.got < o.want then s.emit (.tlp 4 bytes) else s)
    else
      let len := (low + own + 3) / 4
      s.emit (.tlp 4 (cplHeader o.hdr o.unit 0 (o.want - o.got) len (o.addr + o.got) ++ (h.drop 12).take (4 * len)))
  let edge := o.want + o.skip
  let extra := (slice data (edge - o.got) (n - (edge - o.got)))
  let at_ := o.addr + max edge o.got
  if extra = [] then t
  else if o.stale then t.logDiscard o.unit at_ extra.length 2
  else t.fillBuf o.unit at_ extra

/-- A completion from the fabric (R236, R240, R241). -/
def State.cplFromFabric (s : State) (c : TunCtx) (bytes : List (BitVec 8)) : State :=
  let h := tlpHeader bytes
  let (req, tag) := tlpCplKey h
  match s.pcx.outs.find? fun o => o.lead == c.leader && o.req == req && o.tag == tag with
  | none => s.unexpected c.par.tid
  | some o =>
    let t := if o.ahead = 0 then s.emit (.tlp c.pcieLink bytes) else s.aheadArrive o bytes
    t.pcxM fun x => { x with
      outs := if tlpCplLast h then x.outs.filter (· != o)
        else updBy (· == o) (fun y => { y with got := y.got + (tlpPayload h - byteAt h 11 % 4) }) x.outs }

/-- ACS Source Validation of a virtual port (Table 9-2): a request from behind it whose requester bus is not the port's. -/
def State.acsBlocks (s : State) (c : TunCtx) (h : List (BitVec 8)) : Bool :=
  c.pos == 1 && s.cfgStored (5 + c.unit) 0x14C / 65536 % 2 == 1 &&
    !(decide ((s.slot c.unit).secBus ≤ byteAt h 4) && decide (byteAt h 4 ≤ (s.slot c.unit).subBus))

/-- An ACS violation is an error of the virtual port. -/
def State.acsLog (s : State) (c : TunCtx) (bytes : List (BitVec 8)) : State :=
  let h := tlpHeader bytes
  let hd := h.take (tlpHdrLen h)
  s.portError c.unit 21 (hd ++ List.replicate (16 - hd.length) 0) true

/-- A posted request from the fabric (R236, R245). -/
def State.postedFromFabric (s : State) (c : TunCtx) (bytes : List (BitVec 8)) : State :=
  let why := s.pcieBlocked c
  if why ≠ 0 then s.postedFail c why bytes
  else if (if c.pos = 1 then s.maxPayload 4 else 512) < tlpPayload (tlpHeader bytes) then s.postedFail c 4 bytes
  else if s.acsBlocks c (tlpHeader bytes) then s.acsLog c bytes
  else s.emit (.tlp c.pcieLink bytes)

/-- A non-posted request from the fabric (R236, R240): sent and timed, or answered Unsupported Request at once. -/
def State.requestFromFabric (s : State) (c : TunCtx) (bytes : List (BitVec 8)) : State :=
  let h := tlpHeader bytes
  if s.pcieBlocked c ≠ 0 then s.synthesize c.leader c.pos (h.take 16) 1 (tlpCount h)
  else if s.acsBlocks c h then (s.acsLog c bytes).synthesize c.leader c.pos (h.take 16) 4 (tlpCount h)
  else
    let (req, tag) := tlpReqKey h
    (s.pcxM fun x => { x with ins := x.ins ++ [{ lead := c.leader, req := req, tag := tag, hdr := h.take 16, owed := tlpCount h, at_ := s.uptime }] }).emit
      (.tlp c.pcieLink bytes)

/-- COMPLETION_TIMEOUT (R240): the request's completions have not ended within PCX_CTO. -/
def execCompletionTimeout (lead req tag : Nat) (s : State) : Host.Outcome State Fault Refusal :=
  .next (s.whenSerdes fun s => (match s.pcx.ins.find? fun i => i.lead == lead && i.req == req && i.tag == tag with
    | none => s
    | some i =>
      if !(s.due (some i.at_) (1000000 * max 1 (min 1000 (s.get F.PCX_CTO_MS)))) then s else
      let t := s.pcxM fun x => { x with ins := x.ins.filter (· != i) }
      match s.tun.ctxs.find? fun c => c.par.tid == lead && c.isEnd with
      | some c => t.synthesize lead c.pos i.hdr 4 i.owed
      | none => t))

/-- READAHEAD_EXPIRY (R244): the bytes of the slot's buffer at an address have stayed unclaimed for 10 µs. -/
def execReadaheadExpiry (slot addr : Nat) (s : State) : Host.Outcome State Fault Refusal :=
  .next (s.whenSerdes fun s => (s.discardBufs (fun b => b.slot == slot && b.addr == addr) 1))

/-! ### Side-band (R246 to R249) -/

/-- PCIE_WAKE_N follows the newest summaries (R249). -/
def State.refreshWake (s : State) : State :=
  let low := s.isHost && (!s.own.perstHigh || !s.own.linkUp) &&
    (List.range 16).any fun k => match s.slotLeader k with
      | some l => (match s.summary l with | some b => byteAt b 1 % 2 == 1 | none => false)
      | none => false
  if low = s.pcx.wakeLow then s else (s.pcxM fun x => { x with wakeLow := low }).emit (.pin .wakeN (!low))

/-- The presence of the dock ports follows the sampled GPIO levels and links (R234). -/
def State.samplePresence (s : State) (gpio : Nat) : State :=
  if s.role = 1 then
    [0, 1, 2, 3].foldl (fun t k => match t.presence k with
      | some g => t.putBit (F.PCX_PORTSTAT_PRSNT k) (gpio / 2 ^ g % 2 == 0)
      | none => t.put (F.PCX_PORTSTAT_PRSNT k) (t.get (F.PCX_PORTSTAT_LINKUP k))) s
  else s

/-- The sum of the bits of a one-bit field over the four dock ports. -/
def State.portBits (s : State) (f : Nat → Fld) : Nat := s.get (f 0) + 2 * s.get (f 1) + 4 * s.get (f 2) + 8 * s.get (f 3)

/-- A summary's 16 bytes (Table 9-3). -/
def State.summaryBytes (s : State) (pins : SidePins) (seq : Nat) : List (BitVec 8) :=
  let b := fun (x : Bool) => if x then 1 else 0
  [1, (if s.role = 1 then b pins.wake + 2 * b pins.clkreq else 0) + (if s.isHost ∧ s.bit F.PCX_STAT_HRST then 4 else 0),
    (if s.role = 1 then s.portBits F.PCX_PORTSTAT_PRSNT + 16 * s.portBits F.PCX_PORTSTAT_LINKUP else 0),
    pins.hpd % 16 + 16 * b pins.eth0 + 32 * b pins.eth1, pins.gpio, 0, pins.fan % 65536, pins.fan % 65536 / 256, seq, seq / 256].map (BitVec.ofNat 8) ++
    List.replicate 6 0

/-- SIDEBAND_SUMMARY_SEND (R248): an open end of a SIDEBAND tunnel sends a summary. -/
def execSidebandSummarySend (tid : Nat) (pins : SidePins) (s : State) : Host.Outcome State Fault Refusal :=
  .next (s.whenSerdes fun s => (match s.tun.ctxs.find? fun c => c.par.tid == tid && c.isEnd && c.par.typ == 3 && c.state == 2 with
    | none => s
    | some c =>
      let seq := ((assoc s.pcx.sumSeq tid).getD 0 + 1) % 65536
      let t := (s.samplePresence pins.gpio).pcxM fun x => { x with sumSeq := putBy (fun e => e.1 == tid) (tid, seq) x.sumSeq }
      t.pcieSend c (t.summaryBytes pins seq) false))

/-- A summary arrives at an end (R248, R249): the newest by SEQ is kept; slots and PCIE_WAKE_N follow; HRST rising resets
the dock ports bound to that host bridge. -/
def State.hearSummary (s : State) (c : TunCtx) (bytes : List (BitVec 8)) : State :=
  let seq := leNat (slice bytes 8 2)
  let old := s.pcx.sums.find? fun e => e.tid == c.par.tid
  if (match old with | some e => decide (1 ≤ idxDiff seq e.seq) && decide (idxDiff seq e.seq ≤ 32767) | none => true) then
    let t := s.pcxM fun x => { x with sums := putBy (fun e => e.tid == c.par.tid) { tid := c.par.tid, seq := seq, bytes := bytes } x.sums }
    let t := if t.isHost then t.pcxRefresh.refreshWake else t
    let was := match old with | some e => byteAt e.bytes 1 / 4 % 2 | none => 0
    if t.role = 1 ∧ byteAt bytes 1 / 4 % 2 = 1 ∧ was = 0 then
      [0, 1, 2, 3].foldl (fun u k => match u.portLeader k with
        | some l => if l.par.aFid = c.far then (u.emit (.pcie (.hotReset k true))).emit (.pcie (.hotReset k false)) else u
        | none => u) t
    else t
  else s

/-- A posted-error notice arrives at the host bridge (R246). -/
def State.hearNotice (s : State) (c : TunCtx) (bytes : List (BitVec 8)) : State :=
  if c.pos = 1 then
    let k := c.unit
    let reason := byteAt bytes 1
    let bit := match reason with | 1 => 5 | 2 => 20 | _ => 18
    (s.raise 43 5 [k, reason, c.par.tid % 256, c.par.tid / 256]).portError k bit (slice bytes 32 16) (s.bit F.PCX_CTRL_AEREN)
  else s

/-- A SIDEBAND payload is delivered (R247); one of another TYPE was refused as malformed. -/
def State.hearSideband (s : State) (c : TunCtx) (bytes : List (BitVec 8)) : State :=
  match byteAt bytes 0 with
  | 1 => s.hearSummary c bytes
  | 2 => s.hearNotice c bytes
  | _ => s

/-- SIDEBAND_SUMMARY_RECEIVE (R248, R249), on the SIDEBAND tunnel of a TID. -/
def execSidebandSummaryReceive (tid : Nat) (bytes : List (BitVec 8)) (s : State) : Host.Outcome State Fault Refusal :=
  .next (s.whenSerdes fun s => (match s.tun.ctxs.find? fun c => c.par.tid == tid && c.isEnd && c.par.typ == 3 with
    | some c => if byteAt bytes 0 = 1 then s.hearSummary c bytes else s
    | none => s))

/-- POSTED_ERROR_NOTICE_RECEIVE (R246). -/
def execPostedErrorNoticeReceive (tid : Nat) (bytes : List (BitVec 8)) (s : State) : Host.Outcome State Fault Refusal :=
  .next (s.whenSerdes fun s => (match s.tun.ctxs.find? fun c => c.par.tid == tid && c.isEnd && c.par.typ == 3 with
    | some c => if byteAt bytes 0 = 2 then s.hearNotice c bytes else s
    | none => s))

/-- A frame of a PCIe bundle is delivered at an end. -/
def State.pcieDeliver (s : State) (c : TunCtx) (bytes : List (BitVec 8)) : State :=
  match c.par.typ with
  | 0 => s.postedFromFabric c bytes
  | 1 => s.requestFromFabric c bytes
  | 2 => s.cplFromFabric c bytes
  | _ => s.hearSideband c bytes

/-! ### Dock ports (R234, R242, R252) -/

/-- DOCK_PORT_LINK_CHANGE (R50, R233, R234, R242, R252, R253): a dock port's link comes up at a speed, Target Link Speed at most, and at PCIEBIF's width, where PCIE_PERST_N
has been released, or drops. -/
def execDockPortLinkChange (k : Nat) (up : Bool) (speed width : Nat) (s : State) : Host.Outcome State Fault Refusal :=
  .next (s.whenSerdes fun s => (if s.dockPorts ≤ k ∨ s.role ≠ 1 then s
    else if up then
      if s.bit (F.PCX_PORTSTAT_DISABLED k) ∨ !s.boot.perstOut ∨ width ≠ s.dockLanes ∨ speed = 0 ∨ min s.pcieMax (s.dport k).speed < speed then s
      else
        let t := ((s.put (F.PCX_PORTSTAT_LINKUP k) 1).put (F.PCX_PORTSTAT_SPEED k) speed).put (F.PCX_PORTSTAT_WIDTH k) width
        let t := if (t.presence k).isNone then t.put (F.PCX_PORTSTAT_PRSNT k) 1 else t
        t.raise 43 0 [k, speed, width, 0]
    else s.dockDown k))

/-- A dock port control (R242, R251): 0 Secondary Bus Reset, 1 Link Disable, 2 Retrain Link, 3 Target Link Speed, 4 Power
Controller Control Off, 8 disabled by hot-plug. -/
def State.dockControl (s : State) (k field v : Nat) : State :=
  if s.dockPorts ≤ k then s
  else
    let was := (s.dport k).off
    match field with
    | 0 => (s.dportM k fun x => { x with sbr := v == 1 }).emit (.pcie (.hotReset k (v == 1)))
    | 1 => (s.dportM k fun x => { x with linkDis := v == 1 }).dockEnable k was
    | 2 => s.emit (.pcie (.retrain k))
    | 3 => (s.dportM k fun x => { x with speed := if v = 0 then 5 else v }).emit (.pcie (.targetSpeed k v))
    | 4 => (s.dportM k fun x => { x with powerOff := v == 1 }).dockEnable k was
    | 8 => (s.dportM k fun x => { x with hpOff := v == 1 }).dockEnable k was
    | _ => s

/-! ### The host's side of the link (R61, R244, R252) -/

/-- The host's requests are lost: read-ahead buffers go with cause 4, and what arrives for its requests is unexpected. Requests sent to the host
are timed on (R240). -/
def State.pcieHostLost (s : State) : State :=
  ((s.discardBufs (fun _ => true) 4).pcxM fun x => { x with outs := [] }).refreshWake

end Sys2Proof.Machine
end

