-- ==== Sys2Proof/Machine/Rings.lean ====
section
/-! DEFINITION. Rings, vectors, event records and the commands of chapter 4 that need nothing else. -/

namespace Sys2Proof.Machine

/-- Write the records held for an event ring, in order, as far as it has room (R100). -/
def State.flushRecords (s : State) (n : Nat) : State :=
  (s.ring n).held.foldl
    (fun t r =>
      if (t.ring n).held = [] ∧ 0 < t.ringFree n then t.writeRecord n r
      else t.setRing { t.ring n with held := (t.ring n).held ++ [r] })
    (s.setRing { s.ring n with held := [] })

/-- Count the records held for a ring that is being disabled as dropped (R98, R100). -/
def State.dropHeld (s : State) (n : Nat) : State :=
  ((s.ring n).held.foldl (fun t _ => t.bump F.EVT_DROP) s).setRing { s.ring n with held := [], posted := [] }

/-- Enable ring `n` with configuration `v`: both indices and the pass start again (R85, R86). -/
def State.enableRing (s : State) (n : Nat) (v : Word) : State :=
  (((s.wr (A.GLB_RCFG n) (v &&& 0xFF7F1F07#32)).wr (A.GLB_RIDX n) 0).setRing
    (RingSt.new n)).flushCpl

/-- Disable ring `n` (R86): what has not started is discarded. -/
def State.disableRing (s : State) (n : Nat) (v : Word) : State :=
  let t := (s.dropHeld n).wr (A.GLB_RCFG n) (v &&& 0xFF7F1F07#32)
  if s.get (F.GLB_RCFG_TYPE n) = 4 then t.offerGone n 0x7000 else t

/-- A write of GLB_RCFG (R86): enables, disables, changes VEC or IEN alone, or is ignored and counted. -/
def State.writeRcfg (s : State) (n : Nat) (v : Word) : State :=
  let w := v &&& 0xFF7F1F07#32
  let old := s.rd (A.GLB_RCFG n)
  if bitsOf old 0 3 = 0 ∧ 1 ≤ bitsOf w 0 3 ∧ bitsOf w 0 3 ≤ 5 ∧ 4 ≤ bitsOf w 8 5 ∧ bitsOf w 8 5 ≤ 16 then s.enableRing n v
  else if 1 ≤ bitsOf old 0 3 ∧ bitsOf w 0 3 = 0 then s.disableRing n v
  else if old &&& 0xFF001F07#32 = w &&& 0xFF001F07#32 ∧ old ≠ w then s.wr (A.GLB_RCFG n) w
  else s.tally F.GLB_IGNWR

/-- RING_ENABLE (R86). -/
def execRingEnable (n : Nat) (v : Word) (s : State) : Host.Outcome State Fault Refusal :=
  .next (if n < 256 ∧ s.busOpen .host then s.writeRcfg n v else s)

/-- RING_DISABLE (R86). -/
def execRingDisable (n : Nat) (v : Word) (s : State) : Host.Outcome State Fault Refusal :=
  .next (if n < 256 ∧ s.busOpen .host then s.writeRcfg n v else s)

/-- RING_VECTOR_CHANGE (R86). -/
def execRingVectorChange (n : Nat) (v : Word) (s : State) : Host.Outcome State Fault Refusal :=
  .next (if n < 256 ∧ s.busOpen .host then s.writeRcfg n v else s)

/-- Whether a doorbell value is valid for ring `n` (R87). -/
def State.doorbellOk (s : State) (n : Nat) (v : Word) : Bool :=
  let ty := s.get (F.GLB_RCFG_TYPE n)
  let idx := bitsOf v 0 16
  let dev := s.get (F.GLB_RIDX_DEVIDX n)
  decide (ty ≠ 0) && decide (bitsOf v 16 16 = 0) &&
    (if ty = 1 ∨ ty = 4 then decide (idxDiff idx dev ≤ s.ringCap n) else decide (idxDiff dev idx ≤ s.ringCap n))

/-- A valid doorbell: the host index moves, and what waited for room goes on (R84, R89, R100). -/
def State.ringDoorbell (s : State) (n : Nat) (v : Word) (bufs : List PostedBuf) : State :=
  let t := s.setHostIdx n (bitsOf v 0 16)
  match s.get (F.GLB_RCFG_TYPE n) with
  | 2 => t.flushCpl
  | 3 => t.flushRecords n
  | 5 => t.setRing { t.ring n with posted := (t.ring n).posted ++ bufs }
  | _ => t

/-- NOP (R91): completes OK. -/
def execNop (c : HostCmd) (s : State) : Host.Outcome State Fault Refusal :=
  .next (s.command 0x00 false [] c fun t u => u.finish t 0x00 0)

/-- The opcodes of Table 4-5. -/
def opcodes : List Nat :=
  [0x00, 0x01, 0x02, 0x08, 0x10, 0x11, 0x12, 0x13, 0x14, 0x15, 0x20, 0x28, 0x30, 0x38, 0x40, 0x41, 0x42, 0x48, 0x49, 0x4A, 0x50]

/-- UNKNOWN_OPCODE (R90): taken, counted in GLB_CMDIGN and completed BAD_OPCODE. -/
def execUnknownOpcode (op : Nat) (c : HostCmd) (s : State) : Host.Outcome State Fault Refusal :=
  .next (if op ∈ opcodes ∨ 256 ≤ op ∨ !(s.canTake c) then s
    else ((s.take c).tally F.GLB_CMDIGN).finish (s.ticket op c) 0x01 0)

/-- HOLDOFF_EXPIRY (R98): a pending vector gets its one message and a new holdoff; another one becomes free. -/
def execHoldoffExpiry (v : Nat) (s : State) : Host.Outcome State Fault Refusal :=
  .next (s.whenUp fun s => (match s.ctl.vecs.find? (fun e => e.1 == v) with
    | some (_, true) => (s.ctlM fun k => { k with vecs := updBy (fun e => e.1 == v) (fun e => (e.1, false)) k.vecs }).msix 0 v
    | some (_, false) => s.ctlM fun k => { k with vecs := k.vecs.filter (fun e => e.1 != v) }
    | none => s))

/-- EVENT_RECORD_FLUSH (R100). -/
def execEventRecordFlush (n : Nat) (s : State) : Host.Outcome State Fault Refusal :=
  .next (s.whenUp fun s => (if s.get (F.GLB_RCFG_TYPE n) = 3 then s.flushRecords n else s))

/-- The command in progress that waits for a management request. -/
def State.waiting (s : State) (id : Nat) : Option InFlight := s.ctl.inflight.find? (fun t => t.req == some id)

end Sys2Proof.Machine
end

