-- ==== Sys2Proof/Machine/HostData.lean ====
section
/-! DEFINITION. Data rings (R95, R96), and the delivery of tunnel frames at this device's ends (R165, R177). -/

namespace Sys2Proof.Machine

/-! ### Data rings -/

/-- The end whose rings this device's host-data endpoint uses. -/
def State.dataEnd (s : State) (ring : Nat) : Option TunCtx :=
  s.tun.ctxs.find? fun c => c.par.typ == 8 && c.isEnd && c.par.dOut == ring

/-- The device writes a data descriptor's LEN, FLAGS and STATUS in place (Table 4-8), STATUS last (R95). -/
def State.descBack (s : State) (n status len : Nat) : State :=
  let a := s.slotHere n
  (s.emit (.hostWrite (a + 4) (leBytes 2 len ++ leBytes 1 (s.ringPhase n)))).emit (.hostWrite (a + 7) (leBytes 1 status))

/-- Write a data-out descriptor back and advance its ring. -/
def State.dataOutBack (s : State) (n status len : Nat) : State :=
  ((s.descBack n status len).emit (.writeback n (s.get (F.GLB_RIDX_DEVIDX n)) (s.ringPhase n) status len)).ringStep n

/-- Write the oldest posted data-in descriptor back, advance its ring, and signal where IEN is 1 (R98). -/
def State.dataInBack (s : State) (n status len eseq src ns : Nat) : State :=
  let t := s.emit (.hostWrite (s.slotHere n + 0x18) (leBytes 2 eseq ++ leBytes 1 src ++ leBytes 4 ns))
  let t := ((t.descBack n status len).emit (.dataIn n (s.get (F.GLB_RIDX_DEVIDX n)) (s.ringPhase n) status len eseq src ns)).ringStep n
  let t := t.setRing { t.ring n with posted := (t.ring n).posted.tail }
  if t.bit (F.GLB_RCFG_IEN n) then t.signal (t.get (F.GLB_RCFG_VEC n)) else t

/-- Write back every posted descriptor of a data-in ring with a status and LEN 0 (R193, R195). -/
def State.flushDataIn (s : State) (n status : Nat) : State :=
  if s.get (F.GLB_RCFG_TYPE n) = 5 then (s.ring n).posted.foldl (fun t _ => t.dataInBack n status 0 0 0 0) s else s

/-- Write back every descriptor that waits on a data-out ring with a status and LEN 0 (R193, R195). -/
def State.flushDataOut (s : State) (n status : Nat) : State :=
  if s.get (F.GLB_RCFG_TYPE n) = 4 then (List.range (s.ringWaiting n)).foldl (fun t _ => t.dataOutBack n status 0) s else s

/-- A HOSTDATA frame is written to the next posted buffer (R96), with the time it arrived; without one it waits, or is dropped on the lossy
class. -/
def State.hostDeliver (s : State) (c : TunCtx) (q : QFrame) : State × Handed :=
  let f := q.f
  let ns := q.at_ % 1000000000
  let n := c.par.dIn
  let t := if s.mayUse c then s else s.flushDataIn n 0x05
  match (if t.get (F.GLB_RCFG_TYPE n) = 5 then (t.ring n).posted else []) with
  | [] => if c.par.cls = 5 then (t.statDrop c.idx, .dropped) else (t, .waits)
  | b :: _ =>
    if b.cap < f.len then (t.dataInBack n 0x03 f.len f.eseq f.src ns, .taken)
    else ((t.emit (.hostWrite b.addr f.payload)).dataInBack n 0x00 f.len f.eseq f.src ns, .taken)

/-! ### Delivery at an end -/

/-- What an interface that takes a frame or lets it wait answers. -/
def handed (r : State × Bool) : State × Handed := (r.1, if r.2 then .taken else .waits)

/-- A frame is handed to the interface its end names (R17 step 13). -/
def State.handOver (s : State) (c : TunCtx) (q : QFrame) : State × Handed :=
  let f := q.f
  match c.ep / 4096 with
  | 1 => (s.pcieDeliver c f.payload, .taken)
  | 2 | 3 => handed (s.displayDeliver c f)
  | 4 => (s.macDeliver c f, .taken)
  | 5 => handed (s.nicDeliver c f)
  | 6 => (s.timeDeliver c f.payload, .taken)
  | 7 => s.hostDeliver c q
  | _ => (s, .taken)

/-- A delivered frame is counted at its end (R197); one dropped there for want of a buffer is not. -/
def State.countDeliver (s : State) (idx len : Nat) (h : Handed) : State :=
  if h = .taken then s.statM idx fun k => { k with deliver := satAdd k.deliver 1, deliverBytes := (k.deliverBytes + len) % 2 ^ 64 } else s

/-- Hand a frame over behind those that wait, or let it wait with what it holds. -/
def State.deliver (s : State) (c : TunCtx) (q : QFrame) : State :=
  match (if c.waiting = [] then s.handOver c q else (s, .waits)) with
  | (t, .waits) => t.ctxM c.idx fun d => { d with waiting := d.waiting ++ [q] }
  | (t, h) => (t.countDeliver c.idx q.f.len h).release q

/-- Hand over the frames that wait at an end, in order, as far as its interface takes them. -/
def State.flushWaiting : Nat → Nat → State → State
  | 0, _, s => s
  | n + 1, idx, s =>
    match s.ctx idx with
    | none => s
    | some c =>
      match c.waiting with
      | [] => s
      | q :: rest =>
        match s.handOver c q with
        | (t, .waits) => t
        | (t, h) => flushWaiting n idx (((t.ctxM idx fun d => { d with waiting := rest }).countDeliver idx q.f.len h).release q)

/-- Hand over what waits at any end. -/
def State.flushAllWaiting (s : State) : State :=
  s.tun.ctxs.foldl (fun t c => if c.waiting = [] then t else t.flushWaiting c.waiting.length c.idx) s

/-- Free an end's copies up to an ESEQ it has outstanding (R166): what was held back for room is offered again. -/
def State.freeCopies (s : State) (idx eseq : Nat) : State :=
  match s.ctx idx with
  | none => s
  | some c =>
    match c.copies.findIdx? fun k => k.f.eseq == eseq with
    | none => s
    | some i => (s.ctxM idx fun d => { d with copies := d.copies.drop (i + 1), ack := eseq }).flushAllHeld

/-- Where an ESEQ lies at an end (R165): 0 the next expected, 1 behind it, 2 ahead. -/
def TunCtx.place (c : TunCtx) (eseq : Nat) : Nat :=
  let d := (c.rx + 65536 - eseq % 65536) % 65536
  if d = 0 then 0 else if d ≤ 32768 then 1 else 2

/-- An acknowledgement is owed to the far end. -/
def State.owe (s : State) (c : TunCtx) (resend : Bool) (eseq : Nat) : State :=
  let a : OwedAck := { dst := c.far, tid := c.par.tid, resend := resend, eseq := eseq }
  s.tunM fun t => { t with owed := putBy (fun x => x.dst == a.dst && x.tid == a.tid && x.resend == a.resend) a t.owed }

/-- TUNNEL_FRAME_DELIVER (R165) for a frame that arrived on a port. -/
def State.arrive (s : State) (p : Nat) (c : TunCtx) (q : QFrame) : State :=
  let last := (c.rx + 65535) % 65536
  match c.place q.f.eseq with
  | 0 => ((s.ctxM c.idx fun d => { d with rx := (d.rx + 1) % 65536 }).owe c false q.f.eseq).deliver c q
  | 1 => ((((s.bump (F.ADT_E2EDUP p)).statM c.idx fun k => { k with dup := satAdd k.dup 1 }).owe c false last)).release q
  | _ => ((((s.bump (F.ADT_E2EGAP p)).statM c.idx fun k => { k with gap := satAdd k.gap 1 }).owe c true last)).release q

/-- A frame of a tunnel with both ends here reaches its other end (R177). -/
def State.arriveLocal (s : State) (q : QFrame) : State :=
  match q.queue with
  | none => s
  | some idx =>
    match s.ctx idx with
    | none => s
    | some c =>
      match s.twin c with
      | none => s
      | some d =>
        if d.state = 1 ∨ d.state = 4 then s
        else if d.place q.f.eseq = 0 then
          ((s.ctxM d.idx fun x => { x with rx := (x.rx + 1) % 65536 }).freeCopies idx q.f.eseq).deliver d q
        else s

/-- The frames of tunnels with both ends here pass through the Drift, in order. -/
def State.passDrift : Nat → State → State
  | 0, s => s
  | n + 1, s =>
    match s.tun.loop with
    | [] => s
    | q :: rest => passDrift n ((s.tunM fun t => { t with loop := rest }).arriveLocal q)

/-- Every frame in the Drift, and those its delivery brings, reach their ends. -/
def State.flushLoop (s : State) : State := State.passDrift (4 * s.tun.loop.length) s

/-! ### Descriptors and doorbells -/

/-- The device reads the segments of a data-out descriptor. -/
def State.readSegs (s : State) (d : DataOut) : State := s.emits (d.segs.map fun e => .hostRead e.1 e.2)

/-- The frame of a data-out descriptor. -/
def DataOut.frame (d : DataOut) : List (BitVec 8) := (List.range d.len).map fun i => d.bytes.getD i 0

/-- DATA_OUT_DESCRIPTOR (R95, R96): the next descriptor of a data-out ring; one whose frame must wait is not taken yet. -/
def execDataOutDescriptor (n : Nat) (d : DataOut) (s : State) : Host.Outcome State Fault Refusal :=
  .next (s.whenUp fun s => (
    if !s.isHost ∨ s.get (F.GLB_RCFG_TYPE n) ≠ 4 ∨ s.ringWaiting n = 0 then s
    else
      match s.dataEnd n with
      | none => s.dataOutBack n 0x07 0
      | some c =>
        if c.state = 4 then s.dataOutBack n 0x07 0
        else if !(s.mayUse c) then s.dataOutBack n 0x05 0
        else if d.opcode ≠ 1 then (s.tally F.GLB_CMDIGN).dataOutBack n 0x01 0
        else if !d.clean then (s.tally F.GLB_CMDIGN).dataOutBack n 0x02 0
        else if lenMax c.par.cls < d.len then (s.tooLong c d.len).dataOutBack n 0x03 0
        else if d.nseg = 0 ∨ 4 < d.nseg ∨ d.len = 0 ∨ (d.segs.map (·.2)).sum ≠ d.len then s.dataOutBack n 0x03 0
        else
          match s.offerRing n c.ep 8 d.len false with
          | (t, 1) => t
          | (t, _) => (((t.readSegs d).ingressOf (some n) c.ep 8 0x11 (DataOut.frame d) false false).dataOutBack n 0x00 d.len).flushLoop))

/-- A doorbell of ring `n` (R87): a valid one moves the host index and lets what waits go on; a bad one is ignored and counted. -/
def State.doorbell (s : State) (n : Nat) (v : Word) (bufs : List PostedBuf) : State :=
  if 256 ≤ n ∨ !s.fnOpen then s
  else if s.doorbellOk n v then (s.ringDoorbell n v bufs).flushAllWaiting else s.tally F.GLB_DBIGN

/-- DOORBELL (R81, R87), with the descriptors it posts on a data-in ring. -/
def execDoorbell (n : Nat) (v : Word) (bufs : List PostedBuf) (s : State) : Host.Outcome State Fault Refusal := .next (s.doorbell n v bufs)

/-- NIC_DOORBELL (R333): a NIC queue's host index moves; frames that wait for its buffers go on. -/
def execNicDoorbell (f : Nat) (tx : Bool) (q : Nat) (v : Word) (bufs : List NicBuf) (s : State) : Host.Outcome State Fault Refusal :=
  .next (s.whenSerdes fun s => (if s.fnOpen ∧ f < 2 ∧ q < 16 then (s.nicDoorbell f tx q v bufs).flushAllWaiting else s))

/-- EVENT_FRAME_RECEIVE (R99, R335): a host bridge records the remote event under its own group map; a far MAC's link event reaches the
NIC. -/
def execEventFrameReceive (r : EvRec) (s : State) : Host.Outcome State Fault Refusal :=
  .next (s.whenUp fun s => (if s.isHost then (s.recordEvent { r with remote := true }).hearLink r else s))

end Sys2Proof.Machine
end

