-- ==== Sys2Proof/Machine/Messages.lean ====
section
/-! DEFINITION. The frames a device's own messages travel in (R154, R158, Table 6-3): KIND, class, payload, and the queue they join. -/

namespace Sys2Proof.Machine

/-! ### Payloads -/

/-- A timestamp in 2^-16 ns as TS12 (R309). -/
def stampBytes (x : Int) : List (BitVec 8) :=
  let n := x.toNat
  leBytes 6 (n / 65536 / 1000000000) ++ leBytes 4 (n / 65536 % 1000000000) ++ leBytes 2 (n % 65536)

/-- A truth value as a byte. -/
def boolByte (b : Bool) : List (BitVec 8) := [if b then 1#8 else 0#8]

/-- A RECORD body (Table 14-2), 62 bytes. -/
def Rec.bytes (r : Rec) : List (BitVec 8) :=
  leBytes 8 r.uid ++ leBytes 1 r.fid ++ leBytes 1 r.src ++ leBytes 1 r.role ++ leBytes 1 ((if r.quar then 1 else 0) + 2 * (r.qcause % 16)) ++
    leBytes 2 r.seq ++ leBytes 6 (r.chg / 1000000000) ++ leBytes 4 (r.chg % 1000000000) ++ leBytes 2 r.rstCnt ++
    (r.ports.flatMap fun p => leBytes 8 p.peer ++ leBytes 1 p.pport ++ boolByte p.up ++ leBytes 1 (p.rate % 4 + 4 * (p.lanes % 4)) ++ boolByte p.enc)

/-- The operand bytes 0x08 to 0x1F of TUN_OPEN as applied, and 8 reserved bytes (R508). -/
def TunPar.bytes (p : TunPar) : List (BitVec 8) :=
  leBytes 2 p.tid ++ leBytes 1 (p.typ % 16 + (if p.typ = 8 then 16 * (p.cls % 8) else 0)) ++
    leBytes 1 ((if p.enc then 1 else 0) + (if p.men then 2 else 0) + 4 * (p.policy % 4) + 16 * (p.fport % 4)) ++ leBytes 1 p.aFid ++ leBytes 1 p.bFid ++
    leBytes 2 p.epA ++ leBytes 2 p.epB ++ leBytes 2 p.meter ++ leBytes 2 p.shaper ++ leBytes 2 p.bundle ++ leBytes 1 p.grant ++ leBytes 1 p.dOut ++
    leBytes 1 p.dIn ++ leBytes 1 0 ++ leBytes 4 p.cookie ++ leBytes 8 0

/-- The TYPE of a map message (R508): TIDMAP, or BIND where it carries bindings. -/
def MapMsg.typ (m : MapMsg) : Nat := if m.binds = [] then 0x40 else 0x41

/-- A map message's payload (R508): TIDMAP, or BIND where it carries bindings. -/
def MapMsg.bytes (m : MapMsg) : List (BitVec 8) :=
  let flags := (if m.full then 1 else 0) + if m.last then 2 else 0
  let head := fun (typ n : Nat) => leBytes 1 typ ++ leBytes 1 1 ++ leBytes 2 m.seq ++ leBytes 1 flags ++ leBytes 1 n ++ leBytes 2 0
  if m.binds = [] then
    head 0x40 m.tids.length ++ m.tids.flatMap fun e => leBytes 2 e.tid ++ boolByte e.held.isSome ++ leBytes 1 0 ++
      (match e.held with | some p => TunPar.bytes p | none => leBytes 32 0)
  else head 0x41 m.binds.length ++ m.binds.flatMap fun b => leBytes 8 b.uid ++ leBytes 1 b.fid ++ boolByte b.unbind ++ leBytes 2 0

/-- The action records of a device in a PREPARE (R343, R346), each 32-byte record behind its cart index (2 bytes; assumption 42). -/
def actBytes (acts : List CartAct) : List (BitVec 8) :=
  ((acts.map fun a => (a.idx, a.raw)).eraseDups).flatMap fun (i, r) =>
    leBytes 2 i ++ leBytes 1 r.typ ++ leBytes 1 r.fid ++ leBytes 1 r.flags ++ leBytes 1 0 ++ leBytes 28 r.prm

/-- The body of a cart message and its TYPE (Table 13-3). -/
def CartBody.bytes : CartBody → Nat × List (BitVec 8)
  | .prepare parts acts => (1, leBytes 8 ((parts.eraseDups.map fun f => 2 ^ (f % 64)).sum) ++ actBytes acts)
  | .vote ready cause actidx sub => (2, boolByte ready ++ leBytes 1 cause ++ leBytes 2 actidx ++ leBytes 1 sub)
  | .go => (3, [])
  | .abort => (4, [])
  | .query => (5, [])
  | .answer a => (6, leBytes 1 a)
  | .done out late freed => (7, leBytes 1 out ++ leBytes 4 late ++ leBytes 4 freed)
  | .doneack => (8, [])
  | .seqs tid endB rx tx => (9, leBytes 2 tid ++ boolByte endB ++ leBytes 1 0 ++ leBytes 2 rx ++ leBytes 2 tx)

/-- The bytes of a message: as the chapters lay them out, a free value where they give no layout. -/
def Msg.bytes : Msg → List (BitVec 8)
  | .neighbour n => [1, 1] ++ leBytes 8 n.uid ++ leBytes 1 n.fid ++ leBytes 1 n.src ++ leBytes 1 n.role ++ leBytes 1 n.port ++ leBytes 2 n.rstCnt
  | .record r => [2, 1] ++ Rec.bytes r
  | .assign a => [3, 1] ++ leBytes 8 a.uid ++ leBytes 1 a.fid ++ leBytes 1 a.owner ++ leBytes 2 a.gen ++ leBytes 1 a.try_ ++ boolByte a.bound
  | .follow q us t1 t4 => [1, 1] ++ leBytes 2 q ++ leBytes 4 us ++ stampBytes t1 ++ stampBytes t4
  | .announce a => [2, 1] ++ leBytes 2 0 ++ leBytes 8 a.gm ++ leBytes 1 a.prio ++ leBytes 1 a.cls ++ leBytes 1 a.steps ++ leBytes 1 0 ++ leBytes 8 a.sender
  | .kxHello r pub _ _ chain => beBytes 32 r.toNat ++ [4] ++ beBytes 96 pub.toNat ++ chain
  | .kxFinish sig => beBytes 96 sig.toNat
  | .cart coord id t b =>
    leBytes 1 (CartBody.bytes b).1 ++ leBytes 1 coord ++ leBytes 2 id ++ leBytes 6 (t / 1000000000) ++ leBytes 4 (t % 1000000000) ++ (CartBody.bytes b).2
  | .map m => MapMsg.bytes m
  | .mapRsp typ seq status => leBytes 1 typ ++ [1] ++ leBytes 2 seq ++ leBytes 1 status
  | m => Config.msgHead m :: (Config.msgTail m).take 1023

/-- KIND and class of a message (Table 6-3). -/
def Msg.kind : Msg → Nat × Nat
  | .heartbeat .. | .claim .. | .yield .. | .release => (0x05, 0)
  | .event _ => (0x06, 0)
  | .mgmtReq .. | .install .. | .activate .. | .remove _ | .quiesce _ | .close _ | .grantSet .. | .portCtl .. | .map _ => (0x03, 0)
  | .mgmtRsp .. | .installRsp .. | .tunRsp .. | .portRsp .. | .mapRsp .. => (0x04, 0)
  | .announce _ | .follow .. => (0x0F, 6)
  | .kxHello .. | .kxFinish _ => (0x07, 0)
  | .neighbour _ | .record _ | .assign _ => (0x02, 0)
  | .cart .. => (0x10, 7)

/-- A payload in frames of at most 1,024 bytes (R171), `n` of them at most. -/
def keyxPieces : Nat → List (BitVec 8) → List (List (BitVec 8))
  | 0, _ => []
  | n + 1, l => if l.length ≤ 1024 then [l] else l.take 1024 :: keyxPieces n (l.drop 1024)

/-- The frames of a message to a device (R171: LAST on the final one of a KEYX message). -/
def State.msgFrames (s : State) (dst : Nat) (m : Msg) : List Frame :=
  let b := Msg.bytes m
  let ps := if (Msg.kind m).1 = 0x07 then keyxPieces (b.length / 1024 + 1) b else [b]
  ps.zipIdx.map fun e =>
    { dst := dst, src := s.fid, tid := 0, cls := (Msg.kind m).2, kind := (Msg.kind m).1, len := e.1.length, hseq := 0, eseq := 0, ttl := 63,
      flags := if (Msg.kind m).1 = 0x07 ∧ e.2 + 1 = ps.length then 8 else 0, rsvd := 0, payload := e.1 }

/-! ### Queues -/

/-- The host bridges of the fabric beside this device (R99, R188). -/
def State.otherHosts (s : State) : List Nat :=
  ((members (s.fab.recs.map (·.r)) s.uid).filter fun r => r.role == 0 && r.fid != s.fid && s.fab.live.nodes.contains r.fid).map (·.fid)

/-- A frame of this device joins a port's fabric queue. -/
def State.joinPort (s : State) (p : Nat) (f : Frame) : State :=
  s.enqueue p { queue := none, f := f, at_ := s.now, from_ := none, fence := none }

/-- The frames of a message join the queues their way gives: a hop-only one the port it concerns, if it is Lit (R309, R361). -/
def State.postMsg (s : State) (e : Dest × Msg) : State :=
  match e.1 with
  | .fid d => (s.msgFrames d e.2).foldl (fun t f => t.sendFabric f none none) s
  | .fidAlt d =>
    let p := s.get (F.FAB_RT_ALT d)
    if s.bit (F.FAB_RT_ALTV d) && s.usable p (Msg.kind e.2).2 then (s.msgFrames d e.2).foldl (fun t f => t.joinPort p f) s else s
  | .allHosts => s.otherHosts.foldl (fun t d => (t.msgFrames d e.2).foldl (fun u f => u.sendFabric f none none) t) s
  | .broadcast => (s.msgFrames 63 e.2).foldl (fun t f => t.sendFabric f none none) s
  | .port p => if s.lit p then (s.msgFrames 0 e.2).foldl (fun t f => t.joinPort p f) s else s
  | .ports ps => (ps.filter s.lit).foldl (fun t p => (t.msgFrames 0 e.2).foldl (fun u f => u.joinPort p f) t) s

/-- The messages not yet in frames join their queues, oldest first. -/
def State.postMail (s : State) : State := s.mail.foldl State.postMsg { s with mail := [] }

end Sys2Proof.Machine
end

