-- ==== Sys2Proof/Machine/PathSet.lean ====
section
/-! DEFINITION. The path set of a tunnel (R179, R191 step 2), from the installed fabric graph. -/

namespace Sys2Proof.Machine

/-- The neighbour behind a device's port. -/
def Graph.behind (g : Graph) (x p : Nat) : Option Nat := ((g.hops x).find? fun e => e.1 == p).map (·.2.1)

/-- Whether the link at a device's port is encrypted. -/
def Graph.encAt (g : Graph) (x p : Nat) : Bool := g.links.any fun l => ((l.a == x && l.ap == p) || (l.b == x && l.bp == p)) && l.enc

/-- Devices reached from a worklist: each with whether an alternate hop led to it. -/
def spread (nexts : Nat × Bool → List (Nat × Bool)) : Nat → List (Nat × Bool) → List (Nat × Bool) → List (Nat × Bool)
  | 0, seen, _ => seen
  | _, seen, [] => seen
  | n + 1, seen, x :: q => if seen.contains x then spread nexts n seen q else spread nexts n (seen ++ [x]) (q ++ nexts x)

/-- The next devices toward `dst` (R179): primary, and alternate under policy 0; with ENC an alternate hop only over an
encrypted link, and one hop alone from a device that an alternate led to. -/
def Graph.nexts (g : Graph) (pol : Nat) (enc : Bool) (dst : Nat) (rs : List RouteEnt) (x : Nat × Bool) : List (Nat × Bool) :=
  if x.1 = dst then []
  else
    let pri := match rs.find? fun e => e.x == x.1 with
      | some e => [(e.port, e.next, false)]
      | none => []
    let alt := match (if pol = 0 then g.alternate rs x.1 else none) with
      | some p => (g.behind x.1 p).toList.map fun n => (p, n, true)
      | none => []
    let hops := pri ++ alt
    let ok := if enc then hops.filter fun h => !(x.2 || h.2.2) || g.encAt x.1 h.1 else hops
    (if enc && x.2 then ok.take 1 else ok).map fun h => (h.2.1, x.2 || h.2.2)

/-- The devices that frames from `src` to `dst` can cross: none where no route starts. -/
def Graph.oneWay (g : Graph) (pol fport : Nat) (enc : Bool) (src dst : Nat) : List Nat :=
  let rs := g.routes dst
  if src = dst then [src]
  else if pol = 2 then
    match g.behind src fport with
    | some n => src :: (spread (g.nexts pol enc dst rs) 512 [] [(n, false)]).map (·.1)
    | none => []
  else (spread (g.nexts pol enc dst rs) 512 [] [(src, false)]).map (·.1)

/-- The path set of a tunnel, in FID order; empty where an end has no way. -/
def Graph.pathSet (g : Graph) (pol fport : Nat) (enc : Bool) (a b : Nat) : List Nat :=
  let x := g.oneWay pol fport enc a b
  let y := g.oneWay pol fport enc b a
  if x = [] ∨ y = [] then [] else (List.range 63).filter fun n => x.contains n || y.contains n

/-- Whether a primary route has an unencrypted link (Table 7-6, REASON 6). -/
def Graph.plain (g : Graph) (pol fport src dst : Nat) : Bool :=
  if src = dst then false
  else
    let rs := g.routes dst
    let first := if pol = 2 then [(src, fport)] else []
    let start := if pol = 2 then (g.behind src fport).getD dst else src
    (first ++ (walk rs 64 start).map fun e => (e.x, e.port)).any fun h => !(g.encAt h.1 h.2)

end Sys2Proof.Machine
end

