-- ==== Sys2Proof/Machine/Tunnels.lean ====
section
/-! DEFINITION. Tunnels (chapter 7): contexts of this device, the owner's TID map, and the commands that open, close,
retarget and grant tunnels. -/

namespace Sys2Proof.Machine

/-! ### Contexts of this device -/

/-- The positions this device has in a tunnel (R177, Table 7-3). -/
def State.positions (s : State) (p : TunPar) : List Nat :=
  if p.aFid = s.fid ∧ p.bFid = s.fid then [1, 2] else if p.aFid = s.fid then [1] else if p.bFid = s.fid then [2] else [3]

/-- The lowest free context. -/
def State.freeCtx (s : State) : Option Nat := (List.range 1024).find? fun k => !(s.tun.ctxs.any fun c => c.idx == k)

/-- Whether an end here names a dock port that PCIEBIF does not provide. -/
def State.absent (s : State) (p : TunPar) : Bool :=
  s.role == 1 && ((p.aFid == s.fid && p.epA / 4096 == 1 && decide (s.dockPorts ≤ p.epA % 4096)) ||
    (p.bFid == s.fid && p.epB / 4096 == 1 && decide (s.dockPorts ≤ p.epB % 4096)))

/-- No statistics. -/
def TunStat.zero : TunStat :=
  { admits := 0, admitBytes := 0, deliver := 0, deliverBytes := 0, fwd := 0, yellow := 0, red := 0, drop := 0, resend := 0, dup := 0, gap := 0 }

/-- A context as INSTALL writes it: OPENING, sequences at 0 and 0xFFFF (R177) or as given. -/
def newCtx (idx pos : Nat) (p : TunPar) (q : Option Seqs) : TunCtx :=
  { idx := idx, state := 1, pos := pos, par := p, paused := 0, tx := (q.map (·.tx)).getD 0, ack := (q.map (·.ack)).getD 0xFFFF,
    rx := (q.map (·.rx)).getD 0, openAt := 0, copies := [], held := [], lastResend := none, links := [], waiting := [],
    first := Offer.idle, await := false, stat := TunStat.zero }

/-- Slots, NIC functions and PCIE_WAKE_N follow the contexts. -/
def State.endsChanged (s : State) : State := s.pcxRefresh.nicRefresh.refreshWake

/-- Foreign frames held back at an end belong to no open tunnel (R193). -/
def State.dropHeldFrames (s : State) (c : TunCtx) : State :=
  (c.held.foldl (fun t _ => t.noTunnel c.ep) s).ctxM c.idx fun d => { d with held := [], first := Offer.idle }

/-- The binding of a HOSTDATA ring pair ends (R193): every descriptor still posted is written back UNREACHABLE. -/
def State.unbindRings (s : State) (c : TunCtx) : State := (s.flushDataOut c.par.dOut 0x07).flushDataIn c.par.dIn 0x07

/-- A NIC function's ETHERNET end forgets the link of the MAC that was at the other end (R335). -/
def State.forgetFarMac (s : State) (c : TunCtx) : State :=
  if 0x5001 ≤ c.ep ∧ c.par.typ = 5 then s.nicM (c.ep - 0x5001) fun n => { n with farUp := false } else s

/-- What an endpoint does when its end is gone. -/
def State.endClosed (s : State) (c : TunCtx) : State :=
  match c.ep / 4096 with
  | 1 => if c.par.typ = 0 then
      let t := s.abortBundle c.par.tid
      if c.pos = 1 then
        (t.discardBufs (fun b => b.slot == c.unit) 4).slotM c.unit fun x => { x with removed := false, moving := false }
      else t
    else s.pcxM fun x => { x with sums := x.sums.filter fun e => e.tid != c.par.tid, sumSeq := x.sumSeq.filter fun e => e.1 != c.par.tid }
  | 2 => s.srcClosed (c.ep % 4096)
  | 3 => s.outMoved (c.ep % 4096)
  | 5 => s.forgetFarMac c
  | 6 => if s.tim.probe.any fun p => p.1 == c.par.tid then s.timM fun x => { x with probe := none } else s
  | 7 => s.unbindRings c
  | _ => s

/-- What an endpoint does when its end opens. -/
def State.endOpened (s : State) (c : TunCtx) : State :=
  match c.ep / 4096 with
  | 2 => s.srcOpened (c.ep % 4096)
  | 3 => s.outOpened (c.ep % 4096)
  | _ => s

/-- What an endpoint does when its end comes here by a retarget or is installed again (R194, R196). -/
def State.endArrived (s : State) (c : TunCtx) : State := if c.ep / 4096 = 3 then s.outArrived (c.ep % 4096) else s.endOpened c

/-- What an endpoint does when its end's other end has moved, or begins anew after a reset, at a side-band end: summaries of the far device that was
there say nothing of the one that comes (R248, R249). -/
def State.forgetSummary (s : State) (c : TunCtx) : State :=
  if c.par.typ = 3 then s.pcxM fun x => { x with sums := x.sums.filter fun e => e.tid != c.par.tid } else s

/-- What a staying end does when the other has moved (R241, R249, R263, R301). -/
def State.endMoved (s : State) (c : TunCtx) : State :=
  match c.ep / 4096 with
  | 1 => if c.par.typ = 0 then s.abortBundle c.par.tid else s.forgetSummary c
  | 2 => s.srcOpened (c.ep % 4096)
  | 3 => (s.outMoved (c.ep % 4096)).flushWaiting c.waiting.length c.idx
  | 5 => (s.forgetFarMac c).nicRefresh
  | _ => s

/-- A context is freed: what waits in its queue, at its interface and in the Drift is discarded. -/
def State.freeCtxOf (s : State) (c : TunCtx) : State :=
  let t := if c.isEnd ∧ c.state ≠ 4 then (s.dropHeldFrames c).endClosed c else s
  let t := [0, 1, 2].foldl (fun u p => u.dropQueued p fun e => e.queue == some c.idx) t
  let t := c.waiting.foldl (fun u q => u.release q) t
  (t.tunM fun u => { u with ctxs := u.ctxs.filter fun d => d.idx != c.idx, loop := u.loop.filter fun q => q.queue != some c.idx }).endsChanged

/-- TUNNEL_REMOVE's effect: every context of the TID here is freed. -/
def State.removeTid (s : State) (tid : Nat) : State :=
  (s.tun.ctxs.filter fun c => c.par.tid == tid).foldl (fun t c => t.freeCtxOf c) s

/-- A context that stays takes new operands and, at an end, new sequences (R194 step 3): its copies are freed. An end at
another endpoint opens anew. -/
def State.rewriteCtx (s : State) (c : TunCtx) (pos : Nat) (p : TunPar) (q : Option Seqs) : State :=
  let d := { c with par := p, pos := pos }
  let same := c.isEnd && d.isEnd && c.pos == pos && c.ep == d.ep
  let t := if c.isEnd ∧ !same then (s.dropHeldFrames c).endClosed c
    else if c.isEnd ∧ c.ep / 4096 = 7 ∧ (c.par.dOut ≠ p.dOut ∨ c.par.dIn ≠ p.dIn) then s.unbindRings c else s
  let t := t.ctxM c.idx fun x => { x with
    par := p, pos := pos, state := if pos = 3 ∨ same then x.state else 1,
    await := x.await && q.isNone, copies := if q.isSome ∨ pos = 3 then [] else x.copies, lastResend := none, links := [],
    tx := (q.map (·.tx)).getD x.tx, ack := (q.map (·.ack)).getD x.ack, rx := (q.map (·.rx)).getD x.rx }
  let t := if same ∧ q.isSome then t.endMoved d else t
  if q.isSome then t.tunEvent p 2 [min c.copies.length 0xFFFF] else t

/-- INSTALL at one position: code and index (R191 step 3). -/
def State.installAt (s : State) (p : TunPar) (pos : Nat) (q : Option Seqs) (renew : Bool) : State × Nat × Nat :=
  let old := match s.tun.ctxs.find? fun c => c.par.tid == p.tid && c.pos == pos with
    | some c => some c
    | none => s.tun.ctxs.find? fun c => c.par.tid == p.tid && !((s.positions p).contains c.pos)
  match (if renew then old else none) with
  | some c => (s.rewriteCtx c pos p q, 0, c.idx)
  | none =>
    match s.freeCtx with
    | none => (s, 1, 0)
    | some k =>
      let t := s.tunM fun u => { u with ctxs := u.ctxs ++ [newCtx k pos p q] }
      (if q.isSome then t.tunEvent p 2 [0] else t, 0, k)

/-- TUNNEL_INSTALL's effect: code, indices at ends A and B, copies freed. Contexts the tunnel has here and no longer needs
go. -/
def State.installHere (s : State) (p : TunPar) (qa qb : Option Seqs) (renew : Bool) : State × Nat × Nat × Nat × Nat :=
  if s.absent p then (s, 2, 0, 0, 0)
  else
    let n := ((s.tun.ctxs.filter fun c => c.par.tid == p.tid).map (·.copies.length)).sum
    let s := if renew then s else s.removeTid p.tid
    let ps := s.positions p
    let seqOf := fun (pos : Nat) => if pos = 1 then qa else if pos = 2 then qb else none
    let (t, code, i, j) := ps.foldl (fun (u, code, i, j) pos =>
      let (v, c, k) := u.installAt p pos (seqOf pos) renew
      (v, max code c, (if pos = 2 then i else k), (if pos = 1 then j else k))) (s, 0, 0, 0)
    let t := (t.tun.ctxs.filter fun c => c.par.tid == p.tid && !(ps.contains c.pos)).foldl (fun u c => u.freeCtxOf c) t
    if code = 0 then (t, 0, i, j, n)
    else if renew then (t, code, 0, 0, n) else (t.removeTid p.tid, code, 0, 0, n)

/-- ACTIVATE at one context: OPEN; a new one starts its statistics at 0 and its endpoint (R191 step 4); an end paused for a
reset resumes (R196). -/
def State.activateCtx (s : State) (c : TunCtx) (fresh : Bool) : State :=
  let new := fresh || c.state == 1
  let t := s.ctxM c.idx fun d => { d with
    state := 2, openAt := if new then s.now else d.openAt, stat := if new then TunStat.zero else d.stat,
    paused := if d.paused = 3 ∨ d.paused = 4 then 0 else d.paused }
  let t := if c.paused = 3 ∨ c.paused = 4 then t.forgetSummary c else t
  let t := if fresh then t.tunEvent c.par 0 [c.idx] else t
  let t := if c.isEnd ∧ (c.paused = 3 ∨ c.paused = 4) then t.tunEvent c.par 4 [] else t
  let t := if new ∧ c.isEnd then (if fresh then t.endOpened c else t.endArrived c) else t
  (t.pauseOne c.idx).flushHeld c.held.length c.idx

/-- TUNNEL_ACTIVATE's effect: an end that waits for SEQS stays as it is (R509). -/
def State.activateTid (s : State) (tid : Nat) (fresh : Bool) : State :=
  ((s.tun.ctxs.filter fun c => c.par.tid == tid && c.state != 4 && !c.await).foldl (fun t c => t.activateCtx c fresh) s).endsChanged

/-- TUNNEL_QUIESCE's effect: the ends admits nothing new. -/
def State.quiesceTid (s : State) (tid : Nat) : State :=
  (s.tunM fun u => { u with ctxs := updBy (fun c => c.par.tid == tid && c.isEnd && c.state == 2) (fun c => { c with state := 3 }) u.ctxs }).endsChanged

/-- Copies held at this device's ends of a TID. -/
def State.copiesOf (s : State) (tid : Nat) : Nat := ((s.tun.ctxs.filter fun c => c.par.tid == tid && c.isEnd).map (·.copies.length)).sum

/-- TUNNEL_CLOSE_MESSAGE's effect at one end: CLOSING, copies discarded, what the interface held back has no tunnel. -/
def State.closeCtx (s : State) (c : TunCtx) : State :=
  let t := ((s.dropHeldFrames c).ctxM c.idx fun d => { d with state := 4, copies := [] }).endClosed c
  t.tunEvent c.par 1 [min c.copies.length 0xFFFF]

/-- TUNNEL_CLOSE_MESSAGE's effect. -/
def State.closeTid (s : State) (tid : Nat) : State :=
  ((s.tun.ctxs.filter fun c => c.par.tid == tid && c.isEnd && c.state != 4).foldl (fun t c => t.closeCtx c) s).endsChanged

/-- GRANT_SET's effect (R195): after a revoke, the former grantee's descriptors are written back NOT_GRANTED. -/
def State.grantTid (s : State) (tid fid : Nat) : State :=
  (s.tun.ctxs.filter fun c => c.par.tid == tid).foldl (fun t c =>
    let new := { c.par with grant := fid }
    let u := (t.ctxM c.idx fun d => { d with par := new }).tunEvent new 5 [fid, 0]
    if c.ep / 4096 = 7 ∧ c.isEnd ∧ c.par.grant = s.fid ∧ fid ≠ s.fid ∧ s.ownerFid ≠ s.fid then
      (u.flushDataOut c.par.dOut 0x05).flushDataIn c.par.dIn 0x05
    else u) s

/-! ### Messages from the owner's host bridge -/

/-- TUNNEL_INSTALL (R191): the device takes a context, or refuses. -/
def execTunnelInstall (fid : Nat) (p : TunPar) (qa qb : Option Seqs) (s : State) : Host.Outcome State Fault Refusal :=
  .next (s.whenUp fun s => (
    let (t, code, i, j, n) := s.installHere p qa qb (qa.isSome || qb.isSome || (s.tun.ctxs.any fun c => c.par.tid == p.tid && c.state == 3))
    t.emit (.msg (.fid fid) (.installRsp p.tid code i j n))))

/-- TUNNEL_ACTIVATE (R191). -/
def execTunnelActivate (fid tid : Nat) (fresh : Bool) (s : State) : Host.Outcome State Fault Refusal :=
  .next (s.whenUp fun s => (((s.activateTid tid fresh).emit (.msg (.fid fid) (.tunRsp tid 0 0))).flushLoop))

/-- TUNNEL_REMOVE (R191, R192). -/
def execTunnelRemove (fid tid : Nat) (s : State) : Host.Outcome State Fault Refusal :=
  .next (s.whenUp fun s => ((s.removeTid tid).emit (.msg (.fid fid) (.tunRsp tid 0 0))))

/-- TUNNEL_QUIESCE (R192). -/
def execTunnelQuiesce (fid tid : Nat) (s : State) : Host.Outcome State Fault Refusal :=
  .next (s.whenUp fun s => ((s.quiesceTid tid).emit (.msg (.fid fid) (.tunRsp tid 0 (s.copiesOf tid)))))

/-- TUNNEL_CLOSE_MESSAGE (R192). -/
def execTunnelCloseMessage (fid tid : Nat) (s : State) : Host.Outcome State Fault Refusal :=
  .next (s.whenUp fun s => ((s.closeTid tid).emit (.msg (.fid fid) (.tunRsp tid 0 (s.copiesOf tid)))))

/-- GRANT_SET (R195). -/
def execGrantSet (fid tid to_ : Nat) (s : State) : Host.Outcome State Fault Refusal :=
  .next (s.whenUp fun s => ((s.grantTid tid to_).emit (.msg (.fid fid) (.tunRsp tid 0 0))))

/-- Whether a cart that installed a context here still holds it: its 10 ms run from T (R345). -/
def State.cartKeeps (s : State) (tid : Nat) : Bool := s.crt.slots.any fun k => k.made.contains tid && decide (s.now < k.t + 10000000)

/-- OPENING_TIMEOUT (R185): a context left in OPENING for 10 ms frees itself. One that waits for SEQS stays (R509). -/
def execOpeningTimeout (idx : Nat) (s : State) : Host.Outcome State Fault Refusal :=
  .next (s.whenUp fun s => (match s.ctx idx with
    | some c => if c.state = 1 ∧ !c.await ∧ !(s.cartKeeps c.par.tid) then s.freeCtxOf c else s
    | none => s))

/-! ### The TID map and its mirrors (R187 to R189, R508) -/

/-- A held TID. -/
def State.heldTid (s : State) (tid : Nat) : Option HeldTid := s.tun.map.find? fun h => h.par.tid == tid

/-- Send a map message with the next SEQ to host bridges. -/
def State.sendMap (s : State) (to_ : List Nat) (full last : Bool) (tids : List MapEntry) (binds : List Binding) : State :=
  if to_ = [] then s
  else
    let q := (s.tun.mapSeq + 1) % 65536
    let m : MapMsg := { seq := q, full := full, last := last, tids := tids, binds := binds }
    (s.tunM fun u => { u with mapSeq := q, mapSrc := some (s.fid, s.get F.GLB_OWNER_GEN), unanswered := u.unanswered ++ to_.map fun h => (h, m) }).emits
      (to_.map fun h => .msg (.fid h) (.map m))

/-- Send a change of one TID to every other host bridge (R188). -/
def State.mirrorTid (s : State) (tid : Nat) : State :=
  s.sendMap s.otherHosts false false [{ tid := tid, held := (s.heldTid tid).map (·.par) }] []

/-- Send a change of one binding to every other host bridge (R369). -/
def State.mirrorBind (s : State) (b : Binding) : State := s.sendMap s.otherHosts false false [] [b]

/-- A list in inPieces of `k`. -/
def inPieces {α : Type} (k : Nat) : Nat → List α → List (List α)
  | 0, _ => []
  | n + 1, l => if l.isEmpty then [] else l.take k :: inPieces k n (l.drop k)

/-- A full copy for a host bridge (R188, R508): every held TID and every binding, LAST on the final message. -/
def State.fullCopy (s : State) (fid : Nat) : State :=
  let ts := inPieces 28 (s.tun.map.length + 1) (s.tun.map.map fun h => ({ tid := h.par.tid, held := some h.par } : MapEntry))
  let bs := inPieces 84 (s.tun.binds.length + 1) s.tun.binds
  let ms := (ts.map fun t => (t, ([] : List Binding))) ++ bs.map fun b => (([] : List MapEntry), b)
  let ms := if ms = [] then [([], [])] else ms
  ms.zipIdx.foldl (fun u e => u.sendMap [fid] true (e.2 + 1 == ms.length) e.1.1 e.1.2) s

/-- A TID map with one entry of a map message applied. -/
def mapWith (l : List HeldTid) (e : MapEntry) : List HeldTid :=
  match e.held with
  | some p => putBy (fun h => h.par.tid == e.tid) { par := p, path := [], stale := [] } l
  | none => l.filter fun h => h.par.tid != e.tid

/-- The bindings with one of a map message applied. -/
def bindWith (l : List Binding) (b : Binding) : List Binding :=
  if b.unbind then l.filter fun y => y.uid != b.uid else putBy (fun y => y.uid == b.uid) b l

/-- Apply the entries of a map message. -/
def State.applyMap (s : State) (m : MapMsg) : State :=
  s.tunM fun x => { x with map := m.tids.foldl mapWith x.map, binds := m.binds.foldl bindWith x.binds }

/-- Whether a map message comes from another owner than the one whose SEQs the mirror counts: what that one sent, this device itself where it was
owner, says nothing of the new owner's numbers. -/
def State.newSource (s : State) (fid : Nat) : Bool := s.tun.mapSrc != some (fid, s.get F.GLB_OWNER_GEN)

/-- A map message has been seen: the newest SEQ that came in, and its owner. -/
def State.mapSeen (s : State) (fid q : Nat) : State :=
  let t := if s.newSource fid || s.tun.seen.elim true (fun v => decide (idxDiff q v < 32768)) then s.tunM fun x => { x with seen := some q } else s
  t.tunM fun x => { x with mapSrc := some (fid, s.get F.GLB_OWNER_GEN) }

/-- A map message applies in SEQ order; LAST of a full copy makes the mirror current. -/
def State.takeMap (s : State) (m : MapMsg) : State :=
  let t := (s.applyMap m).tunM fun x => { x with mapSeq := m.seq, copyIn := if m.full && !m.last then .taking else .idle }
  if m.full && m.last then t.put F.TUN_STAT_MAPVALID 1 else t

/-- A gap in SEQ: the mirror is not current; the pieces that remain of a full copy do not make it so, and what an earlier owner had begun to copy
is void. -/
def State.gapMap (s : State) (new : Bool) (m : MapMsg) : State :=
  (s.put F.TUN_STAT_MAPVALID 0).tunM fun x => { x with copyIn :=
    if m.full then (if m.last then .idle else .broken) else if x.copyIn = .idle ∨ new then .idle else .broken }

/-- Whether a message opens a full copy: the first piece that a new owner sends, the next SEQ while none is arriving, or for a mirror that is not
current one before which nothing was missed. -/
def State.opensCopy (s : State) (new : Bool) (m : MapMsg) : Bool :=
  m.full && (new || (s.tun.copyIn == .idle && (idxDiff m.seq s.tun.mapSeq == 1 ||
    (!(s.bit F.TUN_STAT_MAPVALID) && s.tun.seen.elim true fun v => m.seq == (v + 1) % 65536))))

/-- MAP_UPDATE_RECEIVE (R508): applied in SEQ order, or answered as a gap. -/
def execMapUpdateReceive (fid : Nat) (m : MapMsg) (s : State) : Host.Outcome State Fault Refusal :=
  .next (s.whenUp fun s => (
    if !s.isHost ∨ fid ≠ s.ownerFid ∨ fid = s.fid then s
    else
      let d := idxDiff m.seq s.tun.mapSeq
      let new := s.newSource fid
      let (t, st) :=
        if s.opensCopy new m then ((s.tunM fun x => { x with map := [], binds := [] }).takeMap m, 0)
        else if d = 1 ∧ (s.tun.copyIn = .idle ∨ (s.tun.copyIn = .taking ∧ new = false)) then (s.takeMap m, 0)
        else if new = false ∧ (d = 0 ∨ 32768 ≤ d) then (s, 0)
        else (s.gapMap new m, 1)
      (t.mapSeen fid m.seq).emit (.msg (.fid fid) (.mapRsp (MapMsg.typ m) m.seq st))))

/-- MAP_UPDATE_RETRY (R508): a message left unanswered for 1 ms is sent again. -/
def execMapUpdateRetry (fid seq : Nat) (s : State) : Host.Outcome State Fault Refusal :=
  .next (s.whenUp fun s => (match s.tun.unanswered.find? fun e => e.1 == fid && e.2.seq == seq with
    | some (_, m) => s.emit (.msg (.fid fid) (.map m))
    | none => s))

/-- A host bridge answers a map message: a gap brings it a full copy. -/
def State.mapAnswered (s : State) (fid seq status : Nat) : State :=
  if (s.tun.unanswered.any fun e => e.1 == fid && e.2.seq == seq) then
    if status = 1 then (s.tunM fun u => { u with unanswered := u.unanswered.filter fun e => e.1 != fid }).fullCopy fid
    else s.tunM fun u => { u with unanswered := u.unanswered.filter fun e => !(e.1 == fid && e.2.seq == seq) }
  else s

/-- A TID is released once every device of its path set has confirmed its removal (R187, R189): `left` have not. -/
def State.releaseTid (s : State) (tid : Nat) (left : List Nat) : State :=
  match s.heldTid tid with
  | none => s
  | some h =>
    if left = [] then
      let t := (s.tunM fun u => { u with map := u.map.filter fun x => x.par.tid != tid }).mirrorTid tid
      if h.stale = [] then t else t.tunEvent h.par 7 []
    else s.tunM fun u => { u with map := updBy (fun x => x.par.tid == tid) (fun x => { x with stale := left }) u.map }

/-- A device of stale TIDs has reset (R189): what it had not confirmed is confirmed. -/
def State.staleReset (s : State) (fid : Nat) : State :=
  (s.tun.map.filter fun h => h.stale.contains fid).foldl (fun t h => t.releaseTid h.par.tid (h.stale.filter (· != fid))) s

/-! ### Operand checks (Table 7-6) -/

/-- The class of a tunnel type (Table 7-1); HOSTDATA names its own. -/
def typeClass (typ cls : Nat) : Nat := [1, 2, 3, 7, 4, 5, 6, 6].getD typ cls

/-- Whether an end pair is allowed for a type (Tables 7-1, 7-2). -/
def pairOk (typ a b : Nat) : Bool :=
  match typ with
  | 0 | 1 | 2 | 3 => a == 1 && b == 1
  | 4 => (a == 2 && b == 3) || (a == 3 && b == 2)
  | 5 | 6 => (a == 4 || a == 5) && (b == 4 || b == 5) && (a == 4 || b == 4)
  | 7 => a == 6 && b == 6
  | 8 => a == 7 && b == 7
  | _ => false

/-- The role of a device of the graph, where it is in it. -/
def State.roleOf (s : State) (fid : Nat) : Option Nat :=
  if s.fab.graph.nodes.contains fid ∨ fid = s.fid then
    if fid = s.fid then some s.role else ((members s.recs s.uid).find? fun r => r.fid == fid).map (·.role)
  else none

/-- Whether a role has an endpoint (Table 7-2). -/
def epOk (role ep : Nat) : Bool :=
  let i := ep % 4096
  match ep / 4096 with
  | 1 => (role == 0 && decide (i < 16)) || (role == 1 && decide (i < 4))
  | 2 => role == 0 && decide (i < 6)
  | 3 => role != 0 && decide (i < 4)
  | 4 => role != 0 && decide (i < 2)
  | 5 => role == 0 && (i == 1 || i == 2)
  | 6 => i == 0
  | 7 => role == 0 && i == 0
  | _ => false

/-- Whether an index of a meter or shaper is in range. -/
def indexOk (n : Nat) : Bool := decide (n < 1024) || n == 0xFFFF

/-- The map but for one TID and what is being removed. -/
def State.others (s : State) (tid : Nat) : List TunPar := (s.tun.map.filter fun h => h.par.tid != tid && h.stale == []).map (·.par)

/-- Whether a member's bundle fits its leader (R182). -/
def bundleOk (p : TunPar) (m : List TunPar) : Bool :=
  if 1 ≤ p.typ ∧ p.typ ≤ 3 then
    (match m.find? fun l => l.tid == p.bundle with
     | some l => l.typ == 0 && l.aFid == p.aFid && l.bFid == p.bFid && l.epA == p.epA && l.epB == p.epB
     | none => false) && !(m.any fun o => o.typ == p.typ && o.bundle == p.bundle)
  else true

/-- Whether the data rings of a HOSTDATA tunnel can be bound (REASON 5): by their TYPE at each end's host bridge (`rings` answers for another
one), and by the map. -/
def State.ringsOk (s : State) (p : TunPar) (m : List TunPar) (rings : Nat → Bool) : Bool :=
  if p.typ = 8 then
    ([p.aFid, p.bFid].all fun f =>
      if f = s.fid then s.get (F.GLB_RCFG_TYPE p.dOut) == 4 && s.get (F.GLB_RCFG_TYPE p.dIn) == 5 else rings f) &&
      !(m.any fun o => o.typ == 8 && (o.dOut == p.dOut || o.dIn == p.dIn) &&
        (o.aFid == p.aFid || o.aFid == p.bFid || o.bFid == p.aFid || o.bFid == p.bFid))
  else true

/-- Whether this device's own rings fit a HOSTDATA tunnel that ends here (REASON 5). -/
def State.ownRings (s : State) (p : TunPar) : Bool :=
  p.typ != 8 || (p.aFid != s.fid && p.bFid != s.fid) || (s.get (F.GLB_RCFG_TYPE p.dOut) == 4 && s.get (F.GLB_RCFG_TYPE p.dIn) == 5)

/-- The first failing check of R191 step 1 after REASON 11, beside a map: completion code, REASON, FID. -/
def State.checkTunOn (s : State) (m : List TunPar) (p : TunPar) (pol fport : Nat) (rings : Nat → Bool) : Option (Nat × Nat × Nat) :=
  let bad := fun (f : Nat) => (s.roleOf f).isNone
  let ep := fun (f e : Nat) => match s.roleOf f with | some r => epOk r e | none => false
  let busy := fun (f e : Nat) => m.any fun o => o.typ == p.typ && ((o.aFid == f && o.epA == e) || (o.bFid == f && o.epB == e))
  if pol = 3 ∨ (pol = 2 ∧ fport = 3) ∨ !(indexOk p.meter) ∨ !(indexOk p.shaper) then some (3, 9, 0)
  else if 8 < p.typ ∨ (p.typ = 8 ∧ !([0, 1, 5].contains p.cls)) then some (3, 1, 0)
  else if !(pairOk p.typ (p.epA / 4096) (p.epB / 4096)) then some (3, 2, 0)
  else if p.grant ≠ 0 ∧ s.roleOf p.grant ≠ some 0 then some (3, 7, p.grant)
  else if !(bundleOk p m) then some (3, 10, 0)
  else if bad p.aFid then some (7, 0, p.aFid)
  else if bad p.bFid then some (7, 0, p.bFid)
  else if !(ep p.aFid p.epA) then some (3, 3, p.aFid)
  else if !(ep p.bFid p.epB) then some (3, 3, p.bFid)
  else if busy p.aFid p.epA then some (3, 4, p.aFid)
  else if busy p.bFid p.epB then some (3, 4, p.bFid)
  else if !(s.ringsOk p m rings) then some (3, 5, 0)
  else if p.enc ∧ (s.fab.graph.plain pol fport p.aFid p.bFid || s.fab.graph.plain pol fport p.bFid p.aFid) then some (3, 6, 0)
  else none

/-- The same beside the map as it is, the rings of other host bridges as they answered. -/
def State.checkTun (s : State) (p : TunPar) (pol fport : Nat) (ans : List DevAns) : Option (Nat × Nat × Nat) :=
  s.checkTunOn (s.others p.tid) p pol fport fun f => ans.all fun a => a.fid != f || a.rings

/-- The path set of a tunnel now. -/
def State.pathOf (s : State) (p : TunPar) : List Nat := s.fab.graph.pathSet p.policy p.fport p.enc p.aFid p.bFid

/-- The path set a held TID was installed on. -/
def State.pathHeld (s : State) (h : HeldTid) : List Nat :=
  (if h.path = [] then s.pathOf h.par else h.path) ++ h.stale.filter fun f => !(h.path.contains f)

/-! ### Operations of the owner's host bridge -/

/-- Give a tunnel operation's outcome to what it is done for (R251 step 3 for a hot-plug move). -/
def State.tunDone (s : State) (who : TunFor) (code : Nat) (result : BitVec 448) : State :=
  match who with
  | .cmd t => s.finish t code result
  | .hotPlug d p => s.pcxM fun x => { x with hp := updBy (fun h => h.dock == d && h.port == p) (fun h => { h with code := some code, res := result }) x.hp }

/-- A message to each device of a list, or its effect here. -/
def State.toAll (s : State) (ds : List Nat) (m : Msg) (here : State → State) : State :=
  ds.foldl (fun t d => if d = s.fid then here t else t.emit (.msg (.fid d) m)) s

/-- The answer of a device for a TID. -/
def ansOf (ans : List DevAns) (tid fid : Nat) : Option DevAns := ans.find? fun a => a.fid == fid && (a.tid == tid || a.tid == 0)

/-- The operands of TUN_OPEN (Table 7-5) as applied. -/
def State.openPar (s : State) (ops : BitVec 448) : TunPar :=
  let o := fun (off size : Nat) => ops.toNat / 256 ^ (off - 8) % 256 ^ size
  let typ := o 0x0A 1 % 16
  let fl := o 0x0B 1
  let own := fun (f : Nat) => if f = 0 then s.fid else f
  { tid := o 0x08 2 % 4096, typ := typ, cls := typeClass typ (o 0x0A 1 / 16 % 8), enc := fl % 2 == 1, men := fl / 2 % 2 == 1,
    policy := fl / 4 % 4, fport := fl / 16 % 4, aFid := own (o 0x0C 1), bFid := own (o 0x0D 1), epA := o 0x0E 2,
    epB := o 0x10 2, meter := o 0x12 2, shaper := o 0x14 2, bundle := o 0x16 2, grant := o 0x18 1, dOut := o 0x19 1,
    dIn := o 0x1A 1, cookie := o 0x1C 4, own := s.fid }

/-- The operand bits of TUN_OPEN; fields that do not apply to the TYPE are reserved (R190). -/
def openBits (ops : BitVec 448) : List (Nat × Nat × Nat) :=
  let typ := ops.toNat / 65536 % 16
  [(0x08, 0, 12), (0x0A, 0, if typ = 8 then 7 else 4), (0x0B, 0, 6), (0x0C, 0, 8), (0x0D, 0, 8), (0x0E, 0, 16),
    (0x10, 0, 16), (0x12, 0, 16), (0x14, 0, 16)] ++ (if 1 ≤ typ ∧ typ ≤ 3 then [(0x16, 0, 16)] else []) ++ [(0x18, 0, 8)] ++
    (if typ = 8 then [(0x19, 0, 8), (0x1A, 0, 8)] else []) ++ [(0x1C, 0, 32)]

/-- The answer of one device to INSTALL, this device's own effect among them: code, indices. -/
def State.installOne (s : State) (p : TunPar) (qa qb : Option Seqs) (renew : Bool) (ans : List DevAns) (d : Nat) :
    State × Nat × Nat × Nat × Nat :=
  if d = s.fid then s.installHere p qa qb renew
  else
    let t := s.emit (.msg (.fid d) (.install p qa qb))
    match ansOf ans p.tid d with
    | some a => (t, a.inst, a.idxA, a.idxB, a.copies)
    | none => (t, 3, 0, 0, 0)

/-- INSTALL on every device of a list: first failure (device, code), indices of ends A and B, copies freed. -/
def State.installAll (s : State) (p : TunPar) (qa qb : Option Seqs) (renew : Bool) (ans : List DevAns) (ds : List Nat) :
    State × Option (Nat × Nat) × Nat × Nat × Nat :=
  ds.foldl (fun (t, f, i, j, n) d =>
    let (u, c, x, y, k) := t.installOne p qa qb renew ans d
    (u, (if f.isNone ∧ c ≠ 0 then some (d, c) else f), (if d = p.aFid then x else i), (if d = p.bFid then y else j), n + k))
    (s, none, 0, 0, 0)

/-- The completion code and REASON of a failed INSTALL (R191). -/
def State.installCode (s : State) (f : Nat × Nat) : Nat × Nat :=
  match f.2 with
  | 1 => (0x11, 0)
  | 2 => (0x03, 3)
  | _ => if s.reachable f.1 then (0x06, 0) else (0x07, 0)

/-- REMOVE on every device of a list: the devices that did not confirm it. -/
def State.removeAll (s : State) (tid : Nat) (ans : List DevAns) (ds : List Nat) : State × List Nat :=
  (s.toAll ds (.remove tid) fun t => t.removeTid tid,
    ds.filter fun d => d != s.fid && !((ansOf ans tid d).elim false (·.rem)))

/-- TUN_OPEN past its checks (R191 steps 2 to 5). -/
def State.openGo (s : State) (who : TunFor) (p : TunPar) (ans : List DevAns) : State :=
  let path := s.pathOf p
  if path = [] then s.tunDone who 0x07 (resultOf [(0x08, p.tid)])
  else
    let s := (s.tunM fun u => { u with map := u.map ++ [{ par := p, path := path, stale := [] }] }).mirrorTid p.tid
    let (t, bad, i, j, _) := s.installAll p none none false ans path
    let res := fun (reason fid : Nat) =>
      resultOf [(0x08, p.tid), (0x0A, reason), (0x0B, fid), (0x0C, i), (0x0E, j), (0x10, path.length)]
    let back := fun (u : State) (code reason fid : Nat) =>
      let (v, left) := u.removeAll p.tid ans path
      (v.releaseTid p.tid left).tunDone who code (res reason fid)
    match bad with
    | some f => back t (s.installCode f).1 (s.installCode f).2 f.1
    | none =>
      let t := t.toAll path (.activate p.tid true) fun u => u.activateTid p.tid true
      match path.find? fun d => d != s.fid && !((ansOf ans p.tid d).elim false (·.act)) with
      | some d => back t 0x06 0 d
      | none => t.tunDone who 0x00 (res 0 0)

/-- Open a tunnel of given operands (R191). -/
def State.openWith (s : State) (who : TunFor) (p : TunPar) (ans : List DevAns) : State :=
  match s.checkTun { p with tid := 0 } p.policy p.fport ans with
  | some (code, reason, fid) => s.tunDone who code (resultOf [(0x0A, reason), (0x0B, fid)])
  | none =>
    if p.tid ≠ 0 ∧ (s.heldTid p.tid).isSome then s.tunDone who 0x12 (resultOf [(0x08, p.tid)])
    else
      match (if p.tid ≠ 0 then some p.tid else (List.range 4096).find? fun n => n != 0 && (s.heldTid n).isNone) with
      | none => s.tunDone who 0x10 0
      | some tid => s.openGo who { p with tid := tid } ans

/-- TUN_OPEN (R190, R191) after the reserved-field check. -/
def State.doOpen (s : State) (who : TunFor) (target : Nat) (ops : BitVec 448) (ans : List DevAns) : State :=
  if target ≠ 0 then s.tunDone who 3 (resultOf [(0x0A, 11), (0x0B, 0)]) else s.openWith who (s.openPar ops) ans

/-- The TIDs of a leader's bundle, itself first (R182). -/
def State.bundleTids (s : State) (tid : Nat) : List Nat :=
  tid :: (s.tun.map.filter fun h => h.par.bundle == tid && h.par.tid != tid).map (·.par.tid)

/-- CLOSE to both ends and REMOVE to the path set of one TID (R192 steps 3, 4): copies discarded. -/
def State.closeOne (s : State) (tid : Nat) (ans : List DevAns) : State × Nat :=
  match s.heldTid tid with
  | none => (s, 0)
  | some h =>
    let ends := if h.par.aFid = h.par.bFid then [h.par.aFid] else [h.par.aFid, h.par.bFid]
    let n := (ends.map fun d => if d = s.fid then s.copiesOf tid else (ansOf ans tid d).elim 0 (·.copies)).sum
    let t := s.toAll ends (.close tid) fun u => u.closeTid tid
    let (t, left) := t.removeAll tid ans (s.pathHeld h)
    (t.releaseTid tid left, n)

/-- Close a leader and its bundle, and complete (R192). -/
def State.closeGo (s : State) (who : TunFor) (tid : Nat) (ans : List DevAns) : State :=
  let (t, n) := (s.bundleTids tid).foldl (fun (u, n) k => let (v, m) := u.closeOne k ans; (v, n + m)) (s, 0)
  t.tunDone who 0x00 (resultOf [(0x08, n % 2 ^ 32)])

/-- A message to the ends of every TID of a bundle, or its effect here. -/
def State.toEnds (s : State) (tid : Nat) (m : Nat → Msg) (here : Nat → State → State) : State :=
  (s.bundleTids tid).foldl (fun t k => match s.heldTid k with
    | some h => t.toAll (if h.par.aFid = h.par.bFid then [h.par.aFid] else [h.par.aFid, h.par.bFid]) (m k) (here k)
    | none => t) s

/-- QUIESCE both ends of a bundle's tunnels. -/
def State.quiesceAll (s : State) (tid : Nat) : State := s.toEnds tid .quiesce fun k u => u.quiesceTid k

/-- The failure of a command that names a TID (R507). -/
def State.tunFail (s : State) (who : TunFor) (reason : Nat) : State := s.tunDone who 0x03 (resultOf [(0x0A, reason)])

/-- TUN_CLOSE (R192): DRAIN waits for OUTST 0 at both ends. -/
def State.doClose (s : State) (who : TunFor) (target tid : Nat) (drain : Bool) (ans : List DevAns) : State :=
  if target ≠ 0 then s.tunFail who 11
  else if 4095 < tid then s.tunFail who 9
  else
    match s.heldTid tid with
    | none => s.tunFail who 8
    | some h =>
      if h.par.bundle ≠ 0 then s.tunFail who 10
      else
        let t := s.quiesceAll tid
        if drain then
          t.tunM fun u => { u with waits := u.waits ++
            [{ who := who, tid := tid, kind := 0, force := true, endB := false, newFid := 0, newEp := 0, dOut := 0, dIn := 0 }] }
        else t.closeGo who tid ans

/-- A tunnel's operands after a retarget of one end (R194). -/
def movedTo (p : TunPar) (endB : Bool) (fid ep dOut dIn : Nat) : TunPar :=
  let p := if p.typ = 8 then { p with dOut := dOut, dIn := dIn } else p
  if endB then { p with bFid := fid, epB := ep } else { p with aFid := fid, epA := ep }

/-- The same, by a waiting operation. -/
def moved (p : TunPar) (w : TunWait) : TunPar := movedTo p w.endB w.newFid w.newEp w.dOut w.dIn

/-- TUN_RETARGET (R194): checks, then step 1's quiesce. -/
def State.doRetarget (s : State) (w : TunWait) (target end_ : Nat) : State :=
  if target ≠ 0 then s.tunFail w.who 11
  else if 4095 < w.tid then s.tunFail w.who 9
  else
    match s.heldTid w.tid with
    | none => s.tunFail w.who 8
    | some h =>
      if h.par.bundle ≠ 0 then s.tunFail w.who 10
      else if 1 < end_ then s.tunFail w.who 9
      else
        match s.checkTun (moved h.par w) h.par.policy h.par.fport [] with
        | some (3, reason, _) => s.tunFail w.who reason
        | some (code, _, _) => s.tunDone w.who code 0
        | none => (s.quiesceAll w.tid).tunM fun u => { u with waits := u.waits ++ [w] }

/-- Both ends of a bundle's tunnels take OPEN again. -/
def State.resumeAll (s : State) (tid : Nat) : State := s.toEnds tid (fun k => .activate k false) fun k u => u.activateTid k false

/-- The sequences of the staying end and of the moved end (R194 step 3), from the staying end's. -/
def retargetSeqs (tx rx : Nat) : Seqs × Seqs :=
  ({ tx := tx, ack := (tx + 65535) % 65536, rx := (rx + 0x8000) % 65536 },
   { tx := (rx + 0x8000) % 65536, ack := (rx + 0x7FFF) % 65536, rx := tx })

/-- TXESEQ and RXESEQ of a tunnel's end on a device. -/
def State.seqsAt (s : State) (p : TunPar) (endB : Bool) (ans : List DevAns) : Nat × Nat :=
  let f := if endB then p.bFid else p.aFid
  if f = s.fid then
    match s.tun.ctxs.find? fun c => c.par.tid == p.tid && c.pos == (if endB then 2 else 1) with
    | some c => (c.tx, c.rx)
    | none => (0, 0)
  else (ansOf ans p.tid f).elim (0, 0) fun a => (a.tx, a.rx)

/-- The devices that join a tunnel's path set by a move (R194 step 2). -/
def State.joining (s : State) (h : HeldTid) (w : TunWait) : List Nat := (s.pathOf (moved h.par w)).filter fun d => !((s.pathHeld h).contains d)

/-- The sequences of ends A and B after a move (R194 step 3). -/
def State.moveSeqs (s : State) (h : HeldTid) (w : TunWait) (ans : List DevAns) : Option Seqs × Option Seqs :=
  let (tx, rx) := s.seqsAt h.par (!w.endB) ans
  let (stay, mv) := retargetSeqs tx rx
  if w.endB then (some stay, some mv) else (some mv, some stay)

/-- Whether a device of the path set that stays in it can hold the moved tunnel: an endpoint that is there, a context for each position. -/
def State.canHold (s : State) (p : TunPar) (ans : List DevAns) (d : Nat) : Bool :=
  if d = s.fid then
    !s.absent p && (s.freeCtx.isSome || decide ((s.positions p).length ≤ (s.tun.ctxs.filter fun c => c.par.tid == p.tid).length))
  else (ansOf ans p.tid d).elim false fun a => a.inst == 0

/-- Step 2 of R194 for one TID: contexts on the devices that join; whether it goes: 0, 1 refused, 4 where there is no path set. -/
def State.moveJoin (s : State) (w : TunWait) (tid : Nat) (ans : List DevAns) : State × Nat :=
  match s.heldTid tid with
  | none => (s, 0)
  | some h =>
    let p := moved h.par w
    if s.pathOf p = [] then (s, 4)
    else
      let q := s.moveSeqs h w ans
      let r := s.installAll p q.1 q.2 false ans (s.joining h w)
      let stay := (s.pathOf p).filter fun d => (s.pathHeld h).contains d
      (r.1, if r.2.1.isSome || !(stay.all fun d => s.canHold p ans d) then 1 else 0)

/-- A refused step 2 is undone. -/
def State.moveUndo (s : State) (w : TunWait) (tid : Nat) (ans : List DevAns) : State :=
  match s.heldTid tid with
  | none => s
  | some h => (s.removeAll tid ans (s.joining h w)).1

/-- Steps 3 to 5 of R194 for one TID: the copies freed. -/
def State.moveRest (s : State) (w : TunWait) (tid : Nat) (ans : List DevAns) : State × Nat :=
  match s.heldTid tid with
  | none => (s, 0)
  | some h =>
    let p := moved h.par w
    let new := s.pathOf p
    let old := s.pathHeld h
    let q := s.moveSeqs h w ans
    let (t, _, _, _, n) := s.installAll p q.1 q.2 true ans (new.filter fun d => old.contains d)
    let (t, left) := t.removeAll tid ans (old.filter fun d => !(new.contains d))
    let t := t.toAll new (.activate tid false) fun u => u.activateTid tid false
    let t := t.tunM fun u => { u with map := updBy (fun x => x.par.tid == tid) (fun _ => { par := p, path := new ++ left, stale := [] }) u.map }
    (t.mirrorTid tid, n)

/-- Carry a retarget out after its drain (R194). A bundle moves as a whole. -/
def State.retargetGo (s : State) (w : TunWait) (ans : List DevAns) (drained : Bool) : State :=
  if !drained && !w.force then (s.resumeAll w.tid).tunDone w.who 0x06 0
  else
    let ks := s.bundleTids w.tid
    let (t, bad) := ks.foldl (fun (u, bad) k => if bad = 0 then State.moveJoin u w k ans else (u, bad)) (s, 0)
    if bad = 0 then
      let (t, n) := ks.foldl (fun (u, n) k => let (v, m) := State.moveRest u w k ans; (v, n + m)) (t, 0)
      t.tunDone w.who 0x00 (resultOf [(0x08, n % 2 ^ 32)])
    else ((ks.foldl (fun u k => u.moveUndo w k ans) t).resumeAll w.tid).tunDone w.who (if bad = 4 then 0x07 else 0x11) 0

/-- TUN_GRANT and TUN_REVOKE (R195). -/
def State.doGrant (s : State) (who : TunFor) (target tid to_ : Nat) (revoke : Bool) : State :=
  if target ≠ 0 then s.tunFail who 11
  else if 4095 < tid then s.tunFail who 9
  else
    match s.heldTid tid with
    | none => s.tunFail who 8
    | some h =>
      if !revoke ∧ s.roleOf to_ ≠ some 0 then s.tunFail who 7
      else
        let t := s.toAll (s.pathHeld h) (.grantSet tid to_) fun u => u.grantTid tid to_
        let t := t.tunM fun u => { u with map := updBy (fun x => x.par.tid == tid) (fun x => { x with par := { x.par with grant := to_ } }) u.map }
        (t.mirrorTid tid).tunDone who 0x00 0

/-- A tunnel command starts (R190, R192, R194, R195). -/
def State.tunStart (s : State) (x : TunNext) : State :=
  let o := fun (off size : Nat) => x.ops.toNat / 256 ^ (off - 8) % 256 ^ size
  let who := TunFor.cmd x.t
  if s.get F.GLB_OWNER_STATE ≠ 3 then s.tunDone who 0x08 0
  else match x.t.opcode with
  | 0x10 => s.doOpen who x.target x.ops x.ans
  | 0x11 => s.doClose who x.target x.tid (o 0x0A 1 % 2 == 1) x.ans
  | 0x12 => s.doRetarget
      { who := who, tid := x.tid, kind := 1, force := o 0x0E 1 % 2 == 1, endB := o 0x0A 1 == 1, newFid := o 0x0B 1, newEp := o 0x0C 2,
        dOut := o 0x0F 1, dIn := o 0x10 1 } x.target (o 0x0A 1)
  | 0x13 => s.doGrant who x.target x.tid (o 0x0A 1) false
  | _ => s.doGrant who x.target x.tid 0 true

/-- Whether a tunnel command for a TID is running: a bundle is busy as a whole. -/
def State.tunRuns (s : State) (tid : Nat) : Bool :=
  s.tun.waits.any fun w => w.tid == tid || (s.bundleTids w.tid).contains tid

/-- The TID a cart's action is on. -/
def ActKind.tid? : ActKind → Option Nat
  | .open_ p => some p.tid
  | .close t _ => some t
  | .retarget o _ _ _ _ => some o.tid
  | .grant t _ => some t
  | _ => none

/-- Whether a cart coordinated here has staged the TID, from PREPARE on: its commands wait for the outcome (R358). -/
def State.cartHas (s : State) (tid : Nat) : Bool :=
  s.crt.cos.any fun c => c.sent && c.ticket.isSome && c.acts.any fun a => a.2.any fun x => ActKind.tid? x.kind == some tid

/-- Whether a tunnel command for a TID has to wait. -/
def State.tidBusy (s : State) (tid : Nat) : Bool := s.tunRuns tid || s.cartHas tid

/-- A tunnel command starts, or waits behind the one that runs on its TID (R196). -/
def State.tunQueue (s : State) (x : TunNext) : State :=
  if x.tid ≠ 0 ∧ (s.tidBusy x.tid ∨ (s.tun.next.any fun y => y.tid == x.tid)) then s.tunM fun u => { u with next := u.next ++ [x] }
  else s.tunStart x

/-- Start the commands that wait, in order, as far as their TIDs are free. -/
def State.tunResume : Nat → State → State
  | 0, s => s
  | n + 1, s =>
    match s.tun.next.find? fun x => !(s.tidBusy x.tid) with
    | none => s
    | some x => tunResume n ((s.tunM fun u => { u with next := u.next.erase x }).tunStart x)

/-- A drain has ended (R192 step 2, R194 step 1). Where ownership has moved, the command completes OWN_LOST (R196). -/
def State.drainEnd (s : State) (tid : Nat) (drained : Bool) (ans : List DevAns) : State :=
  match s.tun.waits.find? fun w => w.tid == tid with
  | none => s
  | some w =>
    let t := s.tunM fun u => { u with waits := u.waits.erase w }
    let t := if t.get F.GLB_OWNER_STATE ≠ 3 then t.tunDone w.who 0x08 0
      else if w.kind = 0 then t.closeGo w.who tid ans
      else t.retargetGo w ans drained
    (State.tunResume (t.tun.next.length) t).flushLoop

/-! ### The commands -/

/-- A tunnel command of this host. -/
def State.tunCommand (s : State) (op : Nat) (used : List (Nat × Nat × Nat)) (c : HostCmd) (tid : Nat) (ans : List DevAns) : State :=
  (s.command op true used c fun t u => u.tunQueue { t := t, tid := tid, target := c.target.toNat, ops := c.ops, ans := ans }).flushLoop

/-- TUN_OPEN (R190, R191), with what the devices of the path set answer. -/
def execTunOpen (c : HostCmd) (ans : List DevAns) (s : State) : Host.Outcome State Fault Refusal :=
  .next (s.whenUp fun s => (s.tunCommand 0x10 (openBits c.ops) c (opAt c 0x08 2 % 4096) ans))

/-- TUN_CLOSE (R192). -/
def execTunClose (c : HostCmd) (ans : List DevAns) (s : State) : Host.Outcome State Fault Refusal :=
  .next (s.whenUp fun s => (s.tunCommand 0x11 [(0x08, 0, 16), (0x0A, 0, 1)] c (opAt c 0x08 2) ans))

/-- TUN_RETARGET (R194): it waits for its drain. -/
def execTunRetarget (c : HostCmd) (s : State) : Host.Outcome State Fault Refusal :=
  .next (s.whenUp fun s => (s.tunCommand 0x12 [(0x08, 0, 16), (0x0A, 0, 8), (0x0B, 0, 8), (0x0C, 0, 16), (0x0E, 0, 1), (0x0F, 0, 8), (0x10, 0, 8)] c (opAt c 0x08 2) []))

/-- TUN_GRANT (R195). -/
def execTunGrant (c : HostCmd) (s : State) : Host.Outcome State Fault Refusal :=
  .next (s.whenUp fun s => (s.tunCommand 0x13 [(0x08, 0, 16), (0x0A, 0, 8)] c (opAt c 0x08 2) []))

/-- TUN_REVOKE (R195). -/
def execTunRevoke (c : HostCmd) (s : State) : Host.Outcome State Fault Refusal :=
  .next (s.whenUp fun s => (s.tunCommand 0x14 [(0x08, 0, 16)] c (opAt c 0x08 2) []))

/-- The counters of a context (R197). -/
def TunStat.result (k : TunStat) : BitVec 448 :=
  resultOf [(0x08, k.admits), (0x0C, k.admitBytes), (0x14, k.deliver), (0x18, k.deliverBytes), (0x20, k.fwd), (0x24, k.yellow),
    (0x28, k.red), (0x2C, k.drop), (0x30, k.resend), (0x34, k.dup), (0x38, k.gap)]

/-- TUN_STATS on this device for a host bridge (R197): code and result. -/
def State.tunStats (s : State) (who : Nat) (ops : BitVec 448) : State × Nat × BitVec 448 :=
  let tid := ops.toNat % 65536
  if 4095 < tid then (s, 0x03, resultOf [(0x0A, 9)])
  else
    match s.ctxOf tid with
    | none => (s, 0x03, resultOf [(0x0A, 8)])
    | some c =>
      if who ≠ s.ownerFid ∧ who ≠ c.par.grant then (s, 0x05, 0)
      else (if ops.toNat / 65536 % 2 = 1 then s.statM c.idx fun _ => TunStat.zero else s, 0x00, c.stat.result)

/-- The operand bits of TUN_STATS. -/
def tunStatsBits : List (Nat × Nat × Nat) := [(0x08, 0, 16), (0x0A, 0, 1)]

/-- TUN_STATS (R197). -/
def execTunStats (c : HostCmd) (s : State) : Host.Outcome State Fault Refusal :=
  .next (s.command 0x15 false tunStatsBits c fun t u => u.onTarget t c fun v => State.answer t (v.tunStats v.fid c.ops))

/-! ### Reinstall (R196) -/

/-- Reinstall one held TID on a device that has reset. -/
def State.reinstallOne (s : State) (fid : Nat) (h : HeldTid) (ans : List DevAns) : State :=
  let p := h.par
  if p.aFid = p.bFid then
    let t := (s.installAll p none none false ans [fid]).1
    t.toAll [fid] (.activate p.tid true) fun u => u.activateTid p.tid true
  else if p.aFid = fid ∨ p.bFid = fid then
    let endB := p.bFid == fid
    let other := if endB then p.aFid else p.bFid
    let (tx, rx) := s.seqsAt p (!endB) ans
    let (stay, mv) := retargetSeqs tx rx
    let qa := some (if endB then stay else mv)
    let qb := some (if endB then mv else stay)
    let t := (s.installAll p qa qb false ans [fid]).1
    let t := (t.installAll p qa qb true ans [other]).1
    t.toAll [fid, other] (.activate p.tid false) fun u => u.activateTid p.tid false
  else
    let t := (s.installAll p none none false ans [fid]).1
    t.toAll [fid] (.activate p.tid false) fun u => u.activateTid p.tid false

/-- REINSTALL_CONTEXTS (R196): the owner's host bridge reinstalls a device's contexts from the map. -/
def execReinstallContexts (fid : Nat) (ans : List DevAns) (s : State) : Host.Outcome State Fault Refusal :=
  .next (s.whenUp fun s => (if s.hostControls ∧ fid ≠ s.fid ∧ s.fab.live.nodes.contains fid then
      ((s.tun.map.filter fun h => h.stale == [] && (s.pathHeld h).contains fid).foldl (fun t h => t.reinstallOne fid h ans) s).flushLoop
    else s))

end Sys2Proof.Machine
end

