-- ==== Sys2Proof/Machine/HotPlug.lean ====
section
/-! DEFINITION. Virtual port writes that reach the dock, and hot-plug moves (R242, R250 to R252). -/

namespace Sys2Proof.Machine

/-! ### Slots of this host bridge -/

/-- Hot-plug's control of a slot here (R251) for the owner's host bridge: 9 attention on or off, and with off the move's end, 10 removal, 11
report of the link, 12 no report, 13 a move to the slot begins or ends. What the host wrote to it during the move then reaches its dock port. -/
def State.slotControl (s : State) (fid id k field v : Nat) : State :=
  let ask := fun (t : State) (link : Bool) => t.pcxM fun x => { x with asks := x.asks ++ [{ slot := k, link := link, fid := fid, id := id }] }
  if 16 ≤ k ∨ !s.isHost then s
  else match field with
  | 9 =>
    if v = 1 then
      let t := ask ((s.slotM k fun x => { x with attention := true, moving := true }).slotIrq k) false
      if s.hostAlive then t else t.answerAsks k false
    else (((s.slotM k fun x => { x with attention := false, moving := false, told := none }).pcxM fun x =>
      { x with asks := x.asks.filter fun a => a.slot != k || a.link })).tellSlot k
  | 10 => (s.slotM k fun x => { x with removed := true, moving := true }).refreshSlot k
  | 11 => if s.bit (F.PCX_SLOT_DLLA k) then (ask s true).answerAsks k true else ask s true
  | 12 => s.pcxM fun x => { x with asks := x.asks.filter fun a => a.slot != k || !a.link }
  | 13 =>
    if v = 1 then s.slotM k fun x => { x with moving := true }
    else (s.slotM k fun x => { x with moving := false, told := none }).tellSlot k
  | _ => s

/-- Whether a hot-plug move of a slot's binding runs, as far as this device knows (R252). -/
def State.slotMoving (s : State) (k : Nat) : Bool :=
  (s.slot k).moving || (s.pcx.asks.any fun a => a.slot == k) ||
    (match s.pcx.hp with
     | h :: _ => h.step != 0 && ((h.oldFid == s.fid && h.oldSlot == k) || (h.toFid == s.fid && h.toSlot == k))
     | [] => false)

/-- A control of a bound slot's dock port is sent to the dock, and the host's write waits for the answer (R242). -/
def State.forwardControl (s : State) (l : TunCtx) (k field v : Nat) (hdr : Option (List (BitVec 8))) : State :=
  ((s.ctlM fun c => { c with nextReq := c.nextReq + 1 }).pcxM fun x =>
    { x with cfgWaits := x.cfgWaits ++ [{ id := s.ctl.nextReq, slot := k, hdr := hdr }] }).emit
    (.msg (.fid l.par.bFid) (.portCtl s.ctl.nextReq (l.par.epB % 4096) field v))

/-- A host's configuration write completes: with its completion TLP, where it came as a TLP and waits for nothing more. -/
def State.cfgDone (s : State) (k : Nat) (hdr : Option (List (BitVec 8))) : State :=
  match hdr with
  | none => s.emit (.pcie (.cfgDone k))
  | some h => if s.pcx.cfgWaits.any fun w => w.hdr == some h then s else s.emit (.tlp 4 (cplEnd h (37 + k) 0 4))

/-- A configuration write to a virtual port takes its local effect. -/
def State.cfgLocal (s : State) (k : Nat) (f : CfgField) (v w : Nat) : State :=
  match f with
  | .sbr =>
    let t := s.slotM k fun x => { x with sbr := v == 1 }
    if v = 1 then t.discardBufs (fun b => b.slot == k) 4 else t
  | .linkDisable => s.slotM k fun x => { x with linkDis := v == 1 }
  | .retrainLink => s
  | .targetSpeed => s.slotM k fun x => { x with speed := v }
  | .powerOff =>
    let t := s.putBit (F.PCX_SLOT_PCCOFF k) (v == 1)
    if v = 1 then t.answerAsks k false else t
  | .buses => s.slotM k fun x => { x with secBus := v, subBus := w }
  | .memWindow => s.slotM k fun x => { x with memBase := v, memLim := w }
  | .prefWindow => s.slotM k fun x => { x with prefBase := v, prefLim := w }
  | .errEnable => s.slotM k fun x => { x with errEn := v == 1 }
  | .busMaster => s.pcxM fun x => { x with bme := v == 1 }
  | .slotEnables => s.slotM k fun x => { x with sltCtl := v % 8192 - (v / 1024 % 2) * 1024 }
  | .slotStatus => s.slotM k fun x => { x with
      attention := x.attention && v % 2 == 0, pdc := x.pdc && v / 8 % 2 == 0, dllsc := x.dllsc && v / 256 % 2 == 0 }

/-- The dock control of a forwarded field (R242). -/
def cfgForwarded : CfgField → Option Nat
  | .sbr => some 0
  | .linkDisable => some 1
  | .retrainLink => some 2
  | .targetSpeed => some 3
  | .powerOff => some 4
  | _ => none

/-- A field of a virtual port is written (R242, R252): its local effect, and the message to the dock of a bound slot; whether it waits. -/
def State.portField (s : State) (k : Nat) (f : CfgField) (v w : Nat) (hdr : Option (List (BitVec 8))) : State × Bool :=
  let t := s.cfgLocal k f v w
  match cfgForwarded f, t.slotLeader k with
  | some n, some l =>
    if ((f = CfgField.sbr ∨ f = CfgField.linkDisable) ∧ s.slotMoving k) ∨ (f = CfgField.retrainLink ∧ v ≠ 1) then (t, false)
    else (t.forwardControl l k n v hdr, true)
  | _, _ => (t, false)

/-! ### PCX_HOTPLUG at the owner's host bridge -/

/-- Change the hot-plug command that runs. -/
def State.hotM (s : State) (g : HotPlug → HotPlug) : State :=
  s.pcxM fun x => match x.hp with | h :: t => { x with hp := g h :: t } | [] => x

/-- A control of a slot of a host bridge, this device among them. -/
def State.sendSlot (s : State) (fid k field v : Nat) : State :=
  let t := s.ctlM fun c => { c with nextReq := c.nextReq + 1 }
  if fid = s.fid then t.slotControl fid s.ctl.nextReq k field v
  else t.emit (.msg (.fid fid) (.portCtl s.ctl.nextReq k field v))

/-- The host bridges of a move that has begun learn that it is over (R252): the old slot, and the new one, perhaps still asked for its link. -/
def State.hotEnds (s : State) (h : HotPlug) : State :=
  if h.step = 0 then s
  else
    let t := if h.oldFid = 0 then s else s.sendSlot h.oldFid h.oldSlot 9 0
    let t := if h.step = 6 ∧ h.code.isNone ∧ h.toFid ≠ 0 then t.sendSlot h.toFid h.toSlot 12 0 else t
    if h.toFid = 0 then t else t.sendSlot h.toFid h.toSlot 13 0

/-- The hot-plug command that runs completes (Table 9-5). -/
def State.hotDone (s : State) (h : HotPlug) (code reason link : Nat) : State :=
  let t := (s.pcxM fun x => { x with hp := x.hp.drop 1 }).hotEnds h
  let t := t.finish h.ticket code (resultOf [(0x08, h.tid), (0x0A, reason), (0x0C, h.freed % 2 ^ 32), (0x10, link)])
  if code = 0 then t.raise 43 3 [h.dock, h.port, h.toFid, h.toSlot] else t

/-- The leader bound to a dock port. -/
def State.hotBound (s : State) (h : HotPlug) : Option TunPar :=
  (s.tun.map.find? fun x => x.par.typ == 0 && x.par.bFid == h.dock && x.par.epB == 4096 + h.port && x.stale == []).map (·.par)

/-- Whether a slot of a host bridge is bound. -/
def State.slotTaken (s : State) (fid k : Nat) : Bool :=
  s.tun.map.any fun x => x.par.typ == 0 && x.par.aFid == fid && x.par.epA == 4096 + k && x.stale == []

/-- The REASON of an operand PCX_HOTPLUG refuses (Table 9-5), in the table's order after the TARGET. -/
def State.hotCheck (s : State) (h : HotPlug) : Option Nat :=
  if s.roleOf h.dock ≠ some 1 then some 1
  else if h.toFid ≠ 0 ∧ (s.roleOf h.toFid ≠ some 0 ∨ s.slotTaken h.toFid h.toSlot) then some 2
  else if h.toFid = 0 ∧ (s.hotBound h).isNone then some 3
  else if h.tmo < 1 ∨ 60000 < h.tmo then some 4
  else none

/-- Step 2 of R251: the dock port's link is disabled. -/
def State.hotDisable (s : State) (h : HotPlug) : State :=
  if !(s.reachable h.dock) then s.hotDone h 0x07 0 0
  else
    ((s.hotM fun x => { x with step := 2, req := s.ctl.nextReq, code := none }).ctlM fun c => { c with nextReq := c.nextReq + 1 }).emit
      (.msg (.fid h.dock) (.portCtl s.ctl.nextReq h.port 8 1))

/-- The new slot of a move learns that it has begun. -/
def State.hotNew (s : State) (h : HotPlug) : State := if h.toFid = 0 then s else s.sendSlot h.toFid h.toSlot 13 1

/-- Step 1 of R251: the old host is asked, or shown a removal. -/
def State.hotStart (s : State) (h : HotPlug) : State :=
  match s.hotCheck h with
  | some r => s.hotDone h 0x03 r 0
  | none =>
    match s.hotBound h with
    | none => ((s.hotM fun _ => { h with step := 2 }).hotNew h).hotDisable { h with step := 2 }
    | some p =>
      let k := p.epA % 4096
      let h' := { h with tid := p.tid, oldFid := p.aFid, oldSlot := k }
      if h.force then (((s.hotM fun _ => { h' with step := 2 }).sendSlot p.aFid k 10 1).hotNew h).hotDisable { h' with step := 2 }
      else ((s.hotM fun _ => { h' with step := 1, req := s.ctl.nextReq, code := none }).sendSlot p.aFid k 9 1).hotNew h

/-- The operands of one member of a bundle that PCX_HOTPLUG opens. -/
def State.hotPar (s : State) (h : HotPlug) (typ lead : Nat) : TunPar :=
  { tid := 0, typ := typ, cls := typeClass typ 0, enc := Config.bundleFlags.toNat % 2 == 1, men := Config.bundleFlags.toNat / 2 % 2 == 1,
    policy := Config.bundleFlags.toNat / 4, fport := 0, aFid := h.toFid, bFid := h.dock, epA := 4096 + h.toSlot, epB := 4096 + h.port,
    meter := 0xFFFF, shaper := 0xFFFF, bundle := lead, grant := 0, dOut := 0, dIn := 0, cookie := 0, own := s.fid }

/-- The answer of a tunnel operation of the running hot-plug command: its code, and two bytes of RESULT at 0x08. -/
def State.hotAnswer (s : State) : Nat × Nat :=
  match s.pcx.hp with
  | h :: _ => (h.code.getD 0, h.res.toNat % 65536)
  | [] => (0, 0)

/-- A new bundle is opened, leader first; one that cannot be opened whole is removed. -/
def State.hotOpen (s : State) (h : HotPlug) : State :=
  let who := TunFor.hotPlug h.dock h.port
  let t := s.openWith who (s.hotPar h 0 0) h.ans
  let lead := t.hotAnswer.2
  if t.hotAnswer.1 ≠ 0 then t
  else
    let u := [1, 2, 3].foldl (fun u typ => if u.hotAnswer.1 = 0 then u.openWith who (s.hotPar h typ lead) h.ans else u) t
    if u.hotAnswer.1 = 0 then u.hotM fun x => { x with tid := lead }
    else (u.bundleTids lead).foldl (fun v k => (v.closeOne k h.ans).1) u

/-- Step 3 of R251: the bundle is moved, opened or closed. -/
def State.hotMove (s : State) (h : HotPlug) : State :=
  let who := TunFor.hotPlug h.dock h.port
  let t := s.hotM fun x => { x with step := 3, code := none, res := 0 }
  if h.toFid = 0 then t.doClose who 0 h.tid false h.ans
  else if h.tid = 0 then t.hotOpen h
  else t.doRetarget
    { who := who, tid := h.tid, kind := 1, force := h.force, endB := false, newFid := h.toFid, newEp := 4096 + h.toSlot, dOut := 0, dIn := 0 } 0 0

/-- Step 5 of R251: the dock port's link is enabled, and step 6 waits for the new slot. -/
def State.hotEnable (s : State) (h : HotPlug) : State :=
  let t := (s.ctlM fun c => { c with nextReq := c.nextReq + 1 }).emit (.msg (.fid h.dock) (.portCtl s.ctl.nextReq h.port 8 0))
  let t := t.hotM fun x => { x with step := 6, req := t.ctl.nextReq, code := none }
  if h.toFid = 0 then t else t.sendSlot h.toFid h.toSlot 11 1

/-- The step that runs has its answer. -/
def State.hotNext (s : State) (h : HotPlug) (c : Nat) : State :=
  match h.step with
  | 1 => if c = 0 then s.hotDisable h else s.hotDone h c 0 0
  | 2 => if c = 0 then s.hotMove h else s.hotDone h c (if c = 3 then 1 else 0) 0
  | 3 =>
    if c ≠ 0 then s.hotDone h c 0 0
    else
      let freed := if h.oldFid = 0 then 0 else h.res.toNat % 2 ^ 32
      let s := s.hotM fun x => { x with freed := freed }
      let h := { h with freed := freed }
      if h.toFid = 0 then s.hotEnable h
      else (s.hotM fun x => { x with step := 4, code := none }).doGrant (.hotPlug h.dock h.port) 0 h.tid (if h.toFid = s.fid then 0 else h.toFid) false
  | 4 => if c ≠ 0 then s.hotDone h c 0 0 else s.hotEnable h
  | _ => s.hotDone h 0 0 1

/-- Hot-plug commands go on, one at a time (R250). Where ownership has moved, the steps not reached complete OWN_LOST
(R252). -/
def State.hotRun : Nat → State → State
  | 0, s => s
  | n + 1, s =>
    match s.pcx.hp with
    | [] => s
    | h :: _ =>
      if s.get F.GLB_OWNER_STATE ≠ 3 then hotRun n (s.hotDone h 0x08 0 0)
      else if h.step = 0 then hotRun n (s.hotStart h)
      else match h.code with
        | none => s
        | some c => if h.step = 2 ∧ c = 0 ∧ s.tidBusy h.tid then s else hotRun n (s.hotNext h c)

/-- Let hot-plug commands go on as far as they can. -/
def State.hotPoll (s : State) : State := State.hotRun (8 * (s.pcx.hp.length + 1)) s

/-- The configuration write that waits for an answer. -/
def State.cfgWait (s : State) (id : Nat) : Option CfgWait := s.pcx.cfgWaits.find? fun w => w.id == id

/-- A configuration write waits no longer for one of its answers. -/
def State.endWait (s : State) (w : CfgWait) : State := (s.pcxM fun x => { x with cfgWaits := x.cfgWaits.erase w }).cfgDone w.slot w.hdr

/-- An answer to a port control arrives: a host's configuration write completes, or the running hot-plug command goes on. -/
def State.portAnswered (s : State) (id code : Nat) : State :=
  match s.cfgWait id with
  | some w => s.endWait w
  | none =>
    (s.pcxM fun x => { x with hp := updBy (fun h => h.req == id && (h.step == 1 || h.step == 2 || h.step == 6)) (fun h => { h with code := some code }) x.hp }).hotPoll

/-- A port control is left unanswered for 1 ms (R242): the host's write completes and the timeout is counted; a hot-plug
command that waits for a dock port completes TIMEOUT. -/
def State.portTimeout (s : State) (id : Nat) : State :=
  match s.cfgWait id with
  | some w => ((s.endWait w).bump F.PCX_MGMTTO).raise 44 0 [w.slot, 0, 0, 0]
  | none =>
    (s.pcxM fun x => { x with hp := updBy (fun h => h.req == id && h.step == 2) (fun h => { h with code := some 6 }) x.hp }).hotPoll

/-- A host ceases to be alive: the moves that wait for it go on (R251 step 1). -/
def State.hotHostLost (s : State) : State :=
  if s.hostAlive then s else ((s.pcx.asks.filter fun a => !a.link).foldl (fun t a => t.answerAsk a) s).hotPoll

/-! ### The rows -/

/-- VIRTUAL_PORT_CONFIG_WRITE (R242, R252): a host's write to a field of a virtual port. -/
def execVirtualPortConfigWrite (k : Nat) (f : CfgField) (v w : Nat) (s : State) : Host.Outcome State Fault Refusal :=
  .next (s.whenSerdes fun s => (if 16 ≤ k ∨ !s.isHost then s
    else
      let (t, waits) := s.portField k f v w none
      (if waits then t else t.cfgDone k none).hotPoll))

/-- PCX_HOTPLUG (R250, R251). `ans` is what the devices of the path set answer to its tunnel messages. -/
def execPcxHotplug (c : HostCmd) (ans : List DevAns) (s : State) : Host.Outcome State Fault Refusal :=
  .next (s.command 0x28 true [(0x08, 0, 6), (0x09, 0, 2), (0x0A, 0, 6), (0x0B, 0, 4), (0x0C, 0, 1), (0x10, 0, 32)] c fun t u =>
    if c.target ≠ 0 then u.finish t 0x03 (resultOf [(0x0A, 5)])
    else
      (u.pcxM fun x => { x with hp := x.hp ++ [{
        ticket := t, dock := opAt c 0x08 1, port := opAt c 0x09 1, toFid := opAt c 0x0A 1, toSlot := opAt c 0x0B 1,
        force := opAt c 0x0C 1 == 1, tmo := opAt c 0x10 4, ans := ans, step := 0, req := 0, code := none, res := 0, tid := 0,
        oldFid := 0, oldSlot := 0, freed := 0 }] }).hotPoll)

/-- HOTPLUG_TMO_EXPIRY (R251 step 1): the attention state is cleared and the command completes TIMEOUT. -/
def execHotplugTmoExpiry (s : State) : Host.Outcome State Fault Refusal :=
  .next (s.whenUp fun s => (match s.pcx.hp with
    | h :: _ => if h.step = 1 ∧ h.code.isNone then (s.hotDone h 0x06 0 0).hotPoll else s
    | [] => s))

/-- HOTPLUG_LINK_WAIT_EXPIRY (R251 step 6): 100 ms pass, and the command completes OK with LINKUP 0. -/
def execHotplugLinkWaitExpiry (s : State) : Host.Outcome State Fault Refusal :=
  .next (s.whenUp fun s => (match s.pcx.hp with
    | h :: _ =>
      if h.step = 6 ∧ h.code.isNone then (s.hotDone h 0 0 0).hotPoll
      else s
    | [] => s))

/-- DRAIN_COMPLETE (R192, R194): OUTST has reached 0 at both ends. -/
def execDrainComplete (tid : Nat) (ans : List DevAns) (s : State) : Host.Outcome State Fault Refusal :=
  .next (s.whenUp fun s => ((s.drainEnd tid true ans).hotPoll))

/-- DRAIN_TIMEOUT (R192, R194): DRAINTMO passes first. -/
def execDrainTimeout (tid : Nat) (ans : List DevAns) (s : State) : Host.Outcome State Fault Refusal :=
  .next (s.whenUp fun s => ((s.drainEnd tid false ans).hotPoll))

/-- HOST_ALIVE_GAINED (R103, R105). -/
def execHostAliveGained (cond : Nat) (s : State) : Host.Outcome State Fault Refusal := .next (s.whenUp fun s => (s.aliveChange cond true))

end Sys2Proof.Machine
end

