-- ==== Sys2Proof/Machine/Pcs.lean ====
section
/-! DEFINITION. Block coding of a lane (R118 to R120, R124): blocks, the scrambler, RS(544,528), PRBS31. -/

namespace Sys2Proof.Machine

/-! ### Blocks (R118, Table 5-3) -/

/-- A control block: its type and bytes 1 to 7. -/
def Block.control (typ : Nat) (rest : List (BitVec 8)) : Block :=
  { ctl := true, pay := BitVec.ofNat 64 (typ % 256 + 256 * leNat (rest.take 7)) }

/-- A data block of 8 bytes. -/
def Block.data (bytes : List (BitVec 8)) : Block := { ctl := false, pay := BitVec.ofNat 64 (leNat (bytes.take 8)) }

/-- Byte `n` of a block's payload. -/
def Block.byte (b : Block) (n : Nat) : Nat := b.pay.toNat / 256 ^ n % 256

/-- Bytes `n` to `n + k - 1` of a block's payload. -/
def Block.bytes (b : Block) (n k : Nat) : List (BitVec 8) := (List.range k).map fun i => BitVec.ofNat 8 (Block.byte b (n + i))

/-- The IDLE block. -/
def Block.idle : Block := Block.control 0x1E []

/-- The types TERM0 to TERM7. -/
def termTypes : List Nat := [0x87, 0x99, 0xAA, 0xB4, 0xCC, 0xD2, 0xE1, 0xFF]

/-- The bytes a TERM block carries, where it is one. -/
def termLen (typ : Nat) : Option Nat := termTypes.findIdx? (· == typ)

/-- Whether a control type is listed in Table 5-3. -/
def blockTypeOk (typ : Nat) : Bool := typ ∈ [0x1E, 0x78, 0x4B, 0x2D, 0x55, 0x66, 0x4E, 0x5A] ++ termTypes

/-- The data blocks and the TERM block of the bytes after START; `n` bounds their number. -/
def tailBlocks : Nat → List (BitVec 8) → List Block
  | 0, _ => []
  | n + 1, l =>
    if l.length < 8 then [Block.control (termTypes.getD l.length 0x87) l] else Block.data l :: tailBlocks n (l.drop 8)

/-- The blocks of a frame's bytes, from START to TERM. -/
def frameBlocks (l : List (BitVec 8)) : List Block :=
  Block.control 0x78 (l.take 7) :: tailBlocks (l.length / 8 + 1) (l.drop 7)

/-- A MARK block of lane `l` (R122). -/
def markBlock (l count : Nat) : Block := Block.control 0x55 (leBytes 1 l ++ leBytes 2 count)

/-- A TRAIN block (Table 5-3): logical lane, ONE, burst index. -/
def trainBlock (l : Nat) (one : Bool) (n : Nat) : Block := Block.control 0x66 (leBytes 1 (l + if one then 128 else 0) ++ leBytes 2 n)

/-! ### The scrambler (R119). The 58 bits held are the last ones on the lane, bit 57 the latest. -/

/-- The next `n` bits of a lane after its history, `n` at most 39; scrambled and descrambled payloads depend on the lane's bits alone. -/
def scrPart (h : Nat) (x n : Nat) : Nat := (x ^^^ (h / 2 ^ 19) ^^^ h) % 2 ^ n

/-- The history after `n` bits `y`. -/
def scrNext (h y n : Nat) : Nat := (h + y * 2 ^ 58) / 2 ^ n % 2 ^ 58

/-- Scramble a payload: the scrambled payload and the history after it. -/
def scramble (h : BitVec 58) (x : BitVec 64) : BitVec 64 × BitVec 58 :=
  let a := scrPart h.toNat (x.toNat % 2 ^ 39) 39
  let h1 := scrNext h.toNat a 39
  let b := scrPart h1 (x.toNat / 2 ^ 39) 25
  (BitVec.ofNat 64 (a + b * 2 ^ 39), BitVec.ofNat 58 (scrNext h1 b 25))

/-- Descramble a payload as received. -/
def descramble (h : BitVec 58) (y : BitVec 64) : BitVec 64 × BitVec 58 :=
  let a := y.toNat % 2 ^ 39
  let h1 := scrNext h.toNat a 39
  let b := y.toNat / 2 ^ 39
  (BitVec.ofNat 64 (scrPart h.toNat a 39 + scrPart h1 b 25 * 2 ^ 39), BitVec.ofNat 58 (scrNext h1 b 25))

/-- A block as 66 bits, bit 0 sent first: the sync header 01 or 10 in the order sent, then the payload (R118). -/
def Block.bits (b : Block) : Nat := (if b.ctl then 1 else 2) + 4 * b.pay.toNat

/-- The 66-bit blocks of a lane, scrambled, and the history after them. -/
def scrBlocks (h : BitVec 58) : List Block → List Nat × BitVec 58
  | [] => ([], h)
  | b :: t =>
    let (y, h1) := scramble h b.pay
    let (l, h2) := scrBlocks h1 t
    (Block.bits { b with pay := y } :: l, h2)

/-- Blocks of 66 bits as one number, the first in the lowest bits. -/
def joinBits (l : List Nat) : Nat := l.foldr (fun x a => x + 2 ^ 66 * a) 0

/-! ### RS(544,528) over GF(2^10), x^10 + x^3 + 1 (R120) -/

/-- Multiply by α. -/
def gfx (a : Nat) : Nat := if a < 512 then 2 * a else (2 * a) ^^^ 0x409

/-- The product of two elements, `n` bits of the second still to take. -/
def gfMulAux : Nat → Nat → Nat → Nat → Nat
  | 0, _, _, r => r
  | n + 1, a, b, r => gfMulAux n (gfx a) (b / 2) (if b % 2 = 1 then r ^^^ a else r)

/-- The product of two elements. -/
def gfMul (a b : Nat) : Nat := if a = 0 ∨ b = 0 then 0 else gfMulAux 10 a b 0

/-- A power of an element. -/
def gfPow (a : Nat) : Nat → Nat
  | 0 => 1
  | n + 1 => gfMul a (gfPow a n)

/-- The inverse of an element: its 1,022nd power. -/
def gfInv (a : Nat) : Nat :=
  let sq := fun x => gfMul x x
  let a2 := sq a; let a4 := sq a2; let a8 := sq a4; let a16 := sq a8; let a32 := sq a16
  let a64 := sq a32; let a128 := sq a64; let a256 := sq a128; let a512 := sq a256
  [a4, a8, a16, a32, a64, a128, a256, a512].foldl gfMul a2

/-- α to the `n`. -/
def gfAlpha (n : Nat) : Nat := gfPow 2 (n % 1023)

/-- A polynomial at `x`, highest coefficient first. -/
def polyEval (p : List Nat) (x : Nat) : Nat := p.foldl (fun a c => gfMul a x ^^^ c) 0

/-- The sum of two polynomials, lowest coefficient first. -/
def polyAdd : List Nat → List Nat → List Nat
  | [], q => q
  | p, [] => p
  | a :: p, b :: q => (a ^^^ b) :: polyAdd p q

/-- The generator polynomial without its leading 1, highest coefficient first: roots α^0 to α^15. -/
def rsGen : List Nat :=
  ((List.range 16).foldl (fun g i => polyAdd (0 :: g) (g.map (gfMul (gfAlpha i)))) [1]).reverse.drop 1

/-- The 16 parity symbols of the data symbols. -/
def rsParity (data : List Nat) : List Nat :=
  let g := rsGen
  data.foldl (fun r m =>
    let f := m ^^^ r.headD 0
    List.zipWith (· ^^^ ·) (r.drop 1 ++ [0]) (g.map (gfMul f))) (List.replicate 16 0)

/-- The symbols of a codeword: bit 0 of symbol 0 is the first bit sent. -/
def cwSyms (cw : BitVec 5440) : List Nat := (List.range 544).map fun i => cw.toNat / 2 ^ (10 * i) % 1024

/-- A codeword from its symbols. -/
def cwOf (syms : List Nat) : BitVec 5440 := BitVec.ofNat 5440 (syms.foldr (fun x a => x + 1024 * a) 0)

/-- A codeword of 80 blocks of 66 bits (R120). -/
def rsEncode (bits : Nat) : BitVec 5440 :=
  let data := (List.range 528).map fun i => bits / 2 ^ (10 * i) % 1024
  cwOf (data ++ rsParity data)

/-- The 16 syndromes of a codeword. -/
def rsSyndromes (syms : List Nat) : List Nat := (List.range 16).map fun j => polyEval syms (gfAlpha j)

/-- One round of the search for the error locator: locator, correction, length, gap and last discrepancy; lowest coefficient first. -/
def bmRound (syn : List Nat) (st : List Nat × List Nat × Nat × Nat × Nat) (n : Nat) : List Nat × List Nat × Nat × Nat × Nat :=
  let (c, b, l, m, d0) := st
  let d := (List.range (l + 1)).foldl (fun a i => a ^^^ gfMul (c.getD i 0) (if i ≤ n then syn.getD (n - i) 0 else 0)) 0
  if d = 0 then (c, b, l, m + 1, d0)
  else
    let k := gfMul d (gfInv d0)
    let c1 := polyAdd c (List.replicate m 0 ++ b.map (gfMul k))
    if 2 * l ≤ n then (c1, c, n + 1 - l, 1, d) else (c1, b, l, m + 1, d0)

/-- The error locator of the syndromes, lowest coefficient first, and its length. -/
def rsLocator (syn : List Nat) : List Nat × Nat :=
  let r := (List.range 16).foldl (bmRound syn) ([1], [1], 0, 1, 1)
  (r.1, r.2.2.1)

/-- The errors of a codeword (R121): symbol and value of each, none where more than 8 symbols are wrong. -/
def rsErrors (syms : List Nat) : Option (List (Nat × Nat)) :=
  let syn := rsSyndromes syms
  if syn.all (· == 0) then some []
  else
    let (c, l) := rsLocator syn
    let at_ := fun (p : List Nat) (x : Nat) => polyEval p.reverse x
    let roots := (List.range 544).filter fun i => at_ c (gfAlpha (1023 - (543 - i))) == 0
    if 8 < l ∨ roots.length ≠ l then none
    else
      let omega := (List.range 16).map fun n => (List.range (n + 1)).foldl (fun a i => a ^^^ gfMul (c.getD i 0) (syn.getD (n - i) 0)) 0
      let deriv := (c.zipIdx.drop 1).map fun e => if e.2 % 2 = 1 then e.1 else 0
      some (roots.map fun i =>
        let x := gfAlpha (543 - i)
        let y := gfAlpha (1023 - (543 - i))
        (i, gfMul x (gfMul (at_ omega y) (gfInv (at_ deriv y)))))

/-- The symbols of a codeword with its errors taken out. -/
def rsFix (syms : List Nat) (errs : List (Nat × Nat)) : List Nat :=
  syms.zipIdx.map fun e => e.1 ^^^ ((errs.find? fun x => x.1 == e.2).map (·.2)).getD 0

/-- What the decoder makes of a codeword (R121): symbols corrected and the 5,280 bits, none where it cannot correct it. -/
def rsDecode (cw : BitVec 5440) : Option (Nat × Nat) :=
  let syms := cwSyms cw
  match rsErrors syms with
  | none => none
  | some errs => some (errs.length, (cwOf (rsFix syms errs)).toNat % 2 ^ 5280)

/-- The message bits of a codeword as they came, uncorrected. -/
def cwMessage (cw : BitVec 5440) : Nat := cw.toNat % 2 ^ 5280

/-- A codeword of a lane whose polarity is turned round (R116). -/
def flipCw (turned : Bool) (cw : BitVec 5440) : BitVec 5440 := if turned then ~~~cw else cw

/-- The 80 blocks of 66 bits of a codeword's data. -/
def cwBlocks (bits : Nat) : List Nat := (List.range 80).map fun i => bits / 2 ^ (66 * i) % 2 ^ 66

/-- Whether a block's sync header is valid. -/
def headerValid (b : Nat) : Bool := b % 4 == 1 || b % 4 == 2

/-- The blocks of a codeword's data, descrambled: none for a block in error, of an invalid header or an unlisted type (R118). -/
def descrBlocks (h : BitVec 58) : List Nat → List (Option Block) × BitVec 58
  | [] => ([], h)
  | y :: t =>
    let (x, h1) := descramble h (BitVec.ofNat 64 (y / 4))
    let (l, h2) := descrBlocks h1 t
    let b : Block := { ctl := y % 4 == 1, pay := x }
    ((if headerValid y && (!b.ctl || blockTypeOk (Block.byte b 0)) then some b else none) :: l, h2)

/-! ### PRBS31 (R124) -/

/-- The next bit of PRBS31 and the register after it (x^31 + x^28 + 1). -/
def prbsStep (r : BitVec 31) : BitVec 31 :=
  let x := r.toNat
  BitVec.ofNat 31 (2 * x % 2 ^ 31 + (x / 2 ^ 30 + x / 2 ^ 27) % 2)

/-- `n` bits of PRBS31. -/
def prbsBits : Nat → BitVec 31 → List Bool
  | 0, _ => []
  | n + 1, r => r.getLsbD 30 :: prbsBits n (prbsStep r)

/-- `n` blocks whose payloads are PRBS31, the first bit sent lowest. -/
def prbsBlocks : Nat → BitVec 31 → List Block
  | 0, _ => []
  | n + 1, r =>
    { ctl := false, pay := BitVec.ofNat 64 ((prbsBits 64 r).foldr (fun b a => b.toNat + 2 * a) 0) } :: prbsBlocks n (Nat.repeat prbsStep 64 r)

/-- A training frame (R124): 4 TRAIN headers and 1,020 blocks of PRBS31; bytes 4 to 7 of the headers carry the requests, the status and READY. -/
def trainFrame (h : TrainHdr) (r : BitVec 31) : List Block :=
  ((List.range 4).map fun i => Block.control 0x66
    (leBytes 1 (h.lane + if h.one then 128 else 0) ++ leBytes 2 i ++ leBytes 4 (Config.trainTaps h).toNat)) ++ prbsBlocks 1020 r

/-- The bits of a training frame as sent: it is not scrambled (R119). -/
def trainBits (h : TrainHdr) (r : BitVec 31) : Nat := joinBits ((trainFrame h r).map Block.bits)

end Sys2Proof.Machine
end

