-- ==== Sys2Proof/Machine/Lanes.lean ====
section
/-! DEFINITION. The transmitter of a port's lanes (R118 to R122, R133, R137): what has been given to a port leaves in codewords,
one codeword time after another. -/

namespace Sys2Proof.Machine

/-- The duration of a codeword in ps (Table 5-2): 5,440 bits at the lane rate. -/
def cwPs (rate : Nat) : Nat := match rate with | 2 => 102400 | 1 => 204800 | _ => 527515

/-- The device's lane of a logical transmit lane. -/
def State.txPhys (s : State) (p l : Nat) : Nat := if (s.port p).txSwap then 1 - l else l

/-- The lanes of a mask. -/
def lanesOf (m : Nat) : List Nat := [0, 1].filter fun l => m / 2 ^ l % 2 == 1

/-- Blocks each to be sent on the lanes of `mask` of the lanes in use: IDLE stands beside one that goes on a single lane. -/
def laneBlocks (use mask n : Nat) (b : Nat → Block) : List Block :=
  (List.range n).flatMap fun _ => (lanesOf use).map fun l => if mask / 2 ^ l % 2 = 1 then b l else Block.idle

/-- Fill a stream of blocks with IDLE so that the next one goes to the lowest lane in use. -/
def alignBlocks (use : Nat) (tx : List Block) : List Block :=
  if use = 3 ∧ tx.length % 2 = 1 then tx ++ [Block.idle] else tx

/-- The control block of a LINK word with its check byte (Table 6-5a). -/
def linkBlock (w : LinkWord) : Block :=
  Block.control 0x4B (leBytes 1 w.kind ++ leBytes 5 w.arg.toNat ++ [linkCheck w.kind w.arg])

/-- The blocks an output adds to the stream of its port; none for one that acts at a codeword boundary. -/
def streamBlocks (c : PcsSt) : Out → Option (List Block)
  | .frame _ w => some (c.tx ++ frameBlocks (beBytes 16 w.hdr.toNat ++ w.body ++ (match w.tag with | some t => beBytes 16 t.toNat | none => [])))
  | .capability _ b => some (c.tx ++ frameBlocks b)
  | .link _ w => some (c.tx ++ [linkBlock w])
  | .sync _ _ m q => some (alignBlocks c.use c.tx ++ [Block.control 0x2D (leBytes 1 m ++ leBytes 2 q)])
  | .blocks _ 0x5A mask b1 b2 n => some (alignBlocks c.use c.tx ++ laneBlocks c.use mask n fun _ => Block.control 0x5A (leBytes 1 b1 ++ leBytes 1 b2))
  | _ => none

/-- The port an output to be coded belongs to. -/
def Out.linePort : Out → Option Nat
  | .frame p _ => some p
  | .capability p _ => some p
  | .link p _ => some p
  | .sync p _ _ _ => some p
  | .blocks p _ _ _ _ _ => some p
  | .lanes p _ _ => some p
  | .stream p _ _ _ => some p
  | .stripe p _ => some p
  | _ => none

/-- Change a port's coding. -/
def State.pcsM (s : State) (p : Nat) (g : PcsSt → PcsSt) : State := { s with pcs := s.pcs.modify p g }

/-- A port's coding. -/
def State.coding (s : State) (p : Nat) : PcsSt := s.pcs.getD p PcsSt.reset

/-- Send blocks of a logical lane, scrambled (R119): their bits, with the scrambler moved on. -/
def State.scrLane (s : State) (p l : Nat) (bs : List Block) : Nat × State :=
  let (bits, h) := scrBlocks ((s.coding p).scr.getD l 0) bs
  (joinBits bits, s.pcsM p fun c => { c with scr := c.scr.set l h })

/-- Send one codeword of a logical lane (R120). -/
def State.sendCodeword (s : State) (p l : Nat) (bs : List Block) : State :=
  let (bits, t) := s.scrLane p l bs
  t.emit (.codeword p (s.txPhys p l) (rsEncode bits))

/-- Send a row of codewords (R120, R122, R137): block 2j on lane 0 and 2j+1 on lane 1 where two are in use; IDLE on a lane that carries codewords
and is not in use; marker codewords on every lane as the 64th since LOCK and every 16,384th after it. -/
def State.sendRow (s : State) (p : Nat) (bs : List Block) : State :=
  let c := s.coding p
  let t := (lanesOf c.live).foldl (fun u l => u.sendCodeword p l (
    if c.use = 3 then (List.range 80).map fun i => bs.getD (2 * i + l) Block.idle
    else if c.use / 2 ^ l % 2 = 1 then (List.range 80).map fun i => bs.getD i Block.idle
    else List.replicate 80 Block.idle)) s
  t.pcsM p fun c => { c with sent := c.sent + 1, next := c.next.map (· + cwPs c.rate) }

/-- Send a row of marker codewords (R122). -/
def State.sendMarkers (s : State) (p : Nat) : State :=
  let c := s.coding p
  let t := (lanesOf c.live).foldl (fun u l => u.sendCodeword p l (List.replicate 80 (markBlock l (c.sent / 16384 % 65536)))) s
  t.pcsM p fun c => { c with sent := c.sent + 1, next := c.next.map (· + cwPs c.rate) }

/-- Whether the next codeword is a marker (R122): the 64th since LOCK and every 16,384th after it. -/
def PcsSt.markerDue (c : PcsSt) : Bool := (c.sent + 1) % 16384 == 64

/-- Blocks of one row of codewords. -/
def PcsSt.rowLen (c : PcsSt) : Nat := 80 * (lanesOf c.use).length

/-- Send the Dim-exit burst of each lane in use (R133). -/
def State.sendBurst (s : State) (p : Nat) (mask : Nat) (one : Bool) (n : Nat) : State :=
  (lanesOf mask).foldl (fun t l =>
    let (bits, u) := t.scrLane p l ((List.range n).map fun i => trainBlock l one i)
    u.emit (.burst p (s.txPhys p l) bits)) s

/-- An output that acts at a codeword boundary: the lanes start or stop, the stripe changes, DIM blocks end a codeword (a marker goes
first where one is due) and the lanes go idle,
the Dim-exit burst goes out and the first codeword follows it directly. -/
def State.lineAct (s : State) (p : Nat) (o : Out) : State :=
  match o with
  | .lanes _ _ _ => s.pcsM p fun c => { c with tx := [], next := none }
  | .stream _ rate use live => s.pcsM p fun c => { c with tx := [], rate := rate, use := use, live := live, next := some (1000 * s.uptime), sent := 0 }
  | .stripe _ mask => s.pcsM p fun c => { c with use := mask }
  | .blocks _ 0x4E mask _ _ n =>
    let s := if (s.coding p).markerDue then s.sendMarkers p else s
    let c := s.coding p
    (s.sendRow p (List.replicate (c.rowLen - n * (lanesOf c.use).length) Block.idle ++
      laneBlocks c.use mask n fun _ => Block.control 0x4E [])).pcsM p fun c => { c with next := none }
  | .blocks _ 0x66 mask b1 _ n => (s.sendBurst p mask (decide (128 ≤ b1)) n).pcsM p fun c => { c with next := some (1000 * s.uptime) }
  | _ => s

/-- What has been given to a port since the last tick enters its stream, up to an output that waits for the blocks before it to fill a codeword;
lanes that stop lose what waits. What remains is answered. -/
def State.takeLine (p : Nat) : List Out → State → State × List Out
  | [], s => (s, [])
  | o :: rest, s =>
    match streamBlocks (s.coding p) o with
    | some tx => State.takeLine p rest (s.pcsM p fun c => { c with tx := tx })
    | none =>
      match o with
      | .lanes _ _ _ => State.takeLine p rest (s.lineAct p o)
      | _ => if (s.coding p).tx = [] then State.takeLine p rest (s.lineAct p o) else (s, o :: rest)

/-- A codeword time of a port, where it has come: a marker, or the next blocks of its stream filled up with IDLE. -/
def State.codewordTime (s : State) (p : Nat) : State :=
  let c := s.coding p
  match c.next with
  | none => s
  | some a =>
    if 1000 * s.uptime < a then s
    else if c.markerDue then s.sendMarkers p
    else (s.sendRow p c.tx).pcsM p fun d => { d with tx := d.tx.drop d.rowLen }

/-- One port's lanes at a tick. -/
def State.lanesTick (s : State) (p : Nat) : State :=
  let (t, rest) := State.takeLine p (s.line.filter fun o => Out.linePort o == some p) s
  { t with line := t.line.filter (fun o => Out.linePort o != some p) ++ rest }.codewordTime p

/-- The lanes of the three ports at a tick. -/
def State.lanesTicks (s : State) : State := [0, 1, 2].foldl State.lanesTick s

end Sys2Proof.Machine
end

