-- ==== Sys2Proof/Machine/Adit.lean ====
section
/-! DEFINITION. Adit ports (chapter 5): mode entry, bring-up, capability exchange, Dim, lane sparing. Ports are 0 to 2. -/

namespace Sys2Proof.Machine

/-! ### Rates and lanes -/

/-- The highest rate of a set of rate bits. -/
def topRate (rates : Nat) : Nat := if rates / 4 % 2 = 1 then 2 else if rates / 2 % 2 = 1 then 1 else 0

/-- The rates of a port's own Mode VDO (Table 5-1) as of the last Discover Modes: RATEMAX 3 counts as 2. -/
def State.ownRates (s : State) (p : Nat) : Nat := 2 ^ (min 2 (s.port p).rateMax + 1) - 1

/-- Discover Modes takes RATEMAX as it stands (ADTn_CTRL). -/
def State.latchRates (s : State) (p : Nat) : State := s.portM p fun x => { x with rateMax := s.get (F.ADT_CTRL_RATEMAX p) }

/-- The Mode VDO a port reports (Table 5-1). -/
def State.modeVdo (s : State) (p : Nat) : Nat := s.ownRates p + 8 * s.role + 32

/-- Logical lanes of a bring-up: one with ONELANE at either end (R506). -/
def PortSt.lanes (x : PortSt) : Nat := if x.one then 1 else 3

/-- The device's lanes a bring-up transmits on. -/
def PortSt.drives (x : PortSt) : Nat := if x.one then (if x.txSwap then 2 else 1) else 3

/-- The failure cause of a lane. -/
def rxCause (p l : Nat) : Fld := if l = 0 then F.ADT_LANE_RXCAUSE0 p else F.ADT_LANE_RXCAUSE1 p

/-- The rejoin failures of a lane. -/
def flaps (p l : Nat) : Fld := if l = 0 then F.ADT_LANE_FLAPS0 p else F.ADT_LANE_FLAPS1 p

/-- Whether a lane is held spared. -/
def rxHold (p l : Nat) : Fld := if l = 0 then F.ADT_LANE_RXHOLD0 p else F.ADT_LANE_RXHOLD1 p

/-- Set the lanes transmitted on. -/
def State.setTx (s : State) (p m : Nat) : State := (s.put (F.ADT_LANE_TXUSE p) m).put (F.ADT_STAT_TXLANES p) m

/-- Set the lanes received on. -/
def State.setRx (s : State) (p m : Nat) : State := (s.put (F.ADT_LANE_RXUSE p) m).put (F.ADT_STAT_RXLANES p) m

/-- A LANECTL block (Table 5-3) on each lane of a mask: 1 SPARE, 2 JOIN, 3 STRIPE. -/
def State.laneCtl (s : State) (p mask kind arg : Nat) : State := (s.exitDim p).emit (.blocks p 0x5A mask kind arg 1)

/-- Whether codewords carry the port's blocks beyond LOCK: EXCHANGE, LIT, DIM. -/
def State.carrying (s : State) (p : Nat) : Bool := decide (p < 3) && decide (4 ≤ s.portState p) && decide (s.portState p ≤ 6)

/-- Change the receiver of a logical lane. -/
def State.rxM (s : State) (p l : Nat) (g : RxLane → RxLane) : State := s.pcsM p fun c => { c with rx := c.rx.modify l g }

/-- The receiver of a logical lane. -/
def State.rxLane (s : State) (p l : Nat) : RxLane := (s.coding p).rx.getD l (RxLane.fresh 0)

/-! ### Bring-up (R124 to R127) -/

/-- Whether a port may leave DARK (Table 5-4). -/
def State.mayDetect (s : State) (p : Nat) : Bool :=
  decide (p < 3) && s.portState p == 0 && s.bit (F.ADT_CTRL_EN p) && !(s.bit (F.ADT_CTRL_DARK p)) &&
    s.bit (F.ADT_ALT_ENTERED p) && !(s.port p).retry && !s.deepAsleep && s.serdesUp

/-- Enter DETECT; ONELANE acts from here on (R506). -/
def State.toDetect (s : State) (p : Nat) : State :=
  (s.put (F.ADT_STAT_STATE p) 1).portM p fun x =>
    { x with one := s.bit (F.ADT_CTRL_ONELANE p), ownOne := s.bit (F.ADT_CTRL_ONELANE p), det := 0, txSwap := false, rxSwap := false, inv := 0 }

/-- What a lane's training frames carry (R124, R506). -/
def State.trainHdr (s : State) (p l : Nat) : TrainHdr :=
  let x := s.port p
  { lane := l, one := x.ownOne, reqPre := x.wants.getD (2 * l) 0, reqPost := x.wants.getD (2 * l + 1) 0, stPre := x.status.getD (2 * l) 0,
    stPost := x.status.getD (2 * l + 1) 0, ready := x.rxReady / 2 ^ l % 2 == 1 }

/-- The training frames of a lane take new headers. -/
def State.trainLane (s : State) (p l : Nat) : State :=
  (s.portM p fun x => { x with frames := x.frames + 1 }).emit (.training p (s.txPhys p l) (s.trainHdr p l) (trainBits (s.trainHdr p l) (Config.prbsStart (s.port p).frames)))

/-- Enter TRAIN at the port's rate, the taps at their starting values (R124). -/
def State.toTrain (s : State) (p : Nat) : State :=
  let x := s.port p
  let t := ((s.put (F.ADT_STAT_STATE p) 2).put (F.ADT_STAT_RATE p) x.rate).wr (A.ADT_EQ p) 0x08040804
  let t := (t.portM p fun y => { y with idle := false, rxReady := 0, farReady := 0, locked := 0, status := [0, 0, 0, 0], wants := [0, 0, 0, 0] }).emit
    (.lanes p x.rate x.drives)
  (lanesOf x.lanes).foldl (fun u l => u.trainLane p l) t

/-- The receivers of a port start anew; no scrambler is reset (R119). -/
def State.freshRx (s : State) (p : Nat) : State := s.pcsM p fun c => { c with rx := c.rx.map fun r => RxLane.fresh r.scr, asm := none }

/-- Enter LOCK on the lanes that are READY each way; a lane not READY is failed with cause 6 (R127). -/
def State.toLock (s : State) (p rx tx : Nat) : State :=
  let t := ((s.put (F.ADT_STAT_STATE p) 3).setTx p tx).setRx p rx
  let t := ((t.portM p fun x => { x with locked := 0 }).freshRx p).emit (.stream p (s.get (F.ADT_STAT_RATE p)) tx (s.port p).lanes)
  if (s.port p).one then t
  else [0, 1].foldl (fun u l => if rx / 2 ^ l % 2 = 0 then u.put (rxCause p l) 6 else u) t

/-- A rate has failed (R127): electrical idle and the next lower rate, or DARK for 1 s where RATE 0 failed. -/
def State.rateFailed (s : State) (p cause : Nat) : State :=
  let t := s.put (F.ADT_STAT_LASTFAIL p) cause
  if (s.port p).rate = 0 then
    let t := t.bump (F.ADT_TRAINCNT_FAIL p)
    let t := (t.goDark p cause false).portM p fun x => { x with retry := true, rate := topRate x.shared }
    t.raise (12 + 4 * p) 5 [t.get (F.ADT_TRAINCNT_FAIL p) % 256]
  else
    let t := (t.put (F.ADT_STAT_STATE p) 2).portM p fun x => { x with rate := x.rate - 1, idle := true }
    (((t.wr (A.ADT_LANE p) 0).put (F.ADT_STAT_TXLANES p) 0).put (F.ADT_STAT_RXLANES p) 0).emit (.lanes p 3 0)

/-- ENTER_MODE (R114, R115): both Mode VDOs carry VERSION 1 and share a rate; the port enters DETECT where it may. -/
def execEnterMode (p : Nat) (dfp : Bool) (vdo : Nat) (s : State) : Host.Outcome State Fault Refusal :=
  .next (s.whenSerdes fun s => (
    let shared := (List.range 3).foldl (fun a k => if vdo / 2 ^ k % 2 = 1 ∧ s.ownRates p / 2 ^ k % 2 = 1 then a + 2 ^ k else a) 0
    if 3 ≤ p ∨ vdo / 32 % 8 ≠ 1 ∨ shared = 0 ∨ s.bit (F.ADT_ALT_ENTERED p) then s
    else
      let t := (s.put (F.ADT_ALT_ENTERED p) 1).putBit (F.ADT_ALT_DFP p) dfp
      let t := t.portM p fun x => { x with shared := shared, rate := topRate shared, retry := false }
      if t.mayDetect p then t.toDetect p else t))

/-- Leave the alternate mode for a cause: Exit Mode, hard reset or detach (R115, R129). -/
def State.leaveMode (s : State) (p cause : Nat) : State :=
  if 3 ≤ p then s
  else (((s.goDark p cause (s.lit p)).put (F.ADT_ALT_ENTERED p) 0).put (F.ADT_ALT_DFP p) 0).portM p fun x => { x with retry := false, shared := 0 }

/-- EXIT_MODE (R115, R129). -/
def execExitMode (p : Nat) (s : State) : Host.Outcome State Fault Refusal :=
  .next (s.whenSerdes fun s => (if s.bit (F.ADT_ALT_ENTERED p) then s.leaveMode p 7 else s))

/-- RETRAIN's effect (R129): DARK, then bring-up at the highest rate both VDOs share. -/
def State.retrain (s : State) (p : Nat) (fault : Bool) : State :=
  if 3 ≤ p then s
  else
    let t := (s.goDark p 10 fault).portM p fun x => { x with rate := topRate x.shared, retry := false }
    if t.mayDetect p then t.toDetect p else t

/-- A write of ADTn_CTRL: EN 0 or DARK 1 takes the port DARK, RETRAIN acts once (R129). -/
def State.writeAdtCtrl (s : State) (p : Nat) (v : Word) : State :=
  if 3 ≤ p then s
  else
    let t := s.wr (A.ADT_CTRL p) (v &&& 0x5F#32)
    if bitsOf v 0 1 = 0 ∨ bitsOf v 6 1 = 1 then (if t.portState p = 0 then t else t.goDark p 10 false)
    else if bitsOf v 5 1 = 1 then t.retrain p false
    else t

/-- PORT_DETECT_START (R125). -/
def execPortDetectStart (p : Nat) (s : State) : Host.Outcome State Fault Refusal :=
  .next (s.whenSerdes fun s => (if s.mayDetect p then s.toDetect p else s))

/-- RECEIVER_DETECT (R125): a far termination on one of the device's lanes takes the port to TRAIN. -/
def execReceiverDetect (p lanes : Nat) (s : State) : Host.Outcome State Fault Refusal :=
  .next (s.whenSerdes fun s => (
    let det := if (s.port p).one then lanes % 2 else lanes % 4
    if p < 3 ∧ s.portState p = 1 ∧ det ≠ 0 then (s.portM p fun x => { x with det := det }).toTrain p else s))

/-- A tap moved by a request (R124): 0 hold, 1 increment by 1/64, 2 decrement by 1/64; registers hold the negated value. -/
def tapMove (v req lim : Nat) : Nat := match req with | 1 => v - 1 | 2 => min lim (v + 1) | _ => v

/-- A tap of the own transmitter answers a request: its value and its status. -/
def tapAnswer (v req lim : Nat) : Nat × Nat :=
  let w := tapMove v req lim
  (w, if req ≠ 1 ∧ req ≠ 2 then 0 else if w = v then 2 else 1)

/-- The taps of a lane's transmitter answer a training frame (R124). -/
def State.moveTaps (s : State) (p l pre post : Nat) : State :=
  let a := if l = 0 then F.ADT_EQ_PRE0 p else F.ADT_EQ_PRE1 p
  let b := if l = 0 then F.ADT_EQ_POST0 p else F.ADT_EQ_POST1 p
  let x := tapAnswer (s.get a) pre 16
  let y := tapAnswer (s.get b) post 22
  ((s.put a x.1).put b y.1).portM p fun z => { z with status := (z.status.set (2 * l) x.2).set (2 * l + 1) y.2 }

/-- A TRAIN block with ONE has come in on one of the device's lanes (R506): the link is held to that lane, and to the lane on which this end
detected a far termination. -/
def State.learnOne (s : State) (p phys : Nat) : State :=
  if (s.port p).one then s
  else
    let t := s.portM p fun x => { x with one := true, rxSwap := phys == 1, txSwap := x.det == 2 || (x.det == 0 && phys == 1), rxReady := 0, farReady := 0 }
    (t.emit (.lanes p (t.port p).rate (t.port p).drives)).trainLane p 0

/-- TRAINING_FRAME_RECEIVE (R116, R124, R127, R506) on one of the device's lanes: the rate it came at, its headers, whether it came
inverted, whether this receiver's lane is READY, and what its equaliser asks of the far taps. -/
def execTrainingFrameReceive (p rate phys : Nat) (h : TrainHdr) (inverted ready : Bool) (pre post : Nat) (s : State) :
    Host.Outcome State Fault Refusal :=
  .next (s.whenSerdes fun s => (
    if 3 ≤ p ∨ 2 < rate ∨ 1 < phys ∨ 1 < h.lane ∨ (s.portState p ≠ 1 ∧ s.portState p ≠ 2) ∨ ((s.port p).ownOne ∧ phys = 1) then s
    else
      let t := if s.portState p = 1 then s.toTrain p else s
      let t := if rate < (t.port p).rate then (t.portM p fun x => { x with rate := rate }).toTrain p else t
      if (t.port p).rate < rate ∨ (t.port p).idle then t
      else
        let t := if h.one then t.learnOne p phys else t
        let l := if (t.port p).one then 0 else h.lane
        let t := t.portM p fun x => { x with
          rxSwap := phys != l,
          inv := if inverted = (x.inv / 2 ^ phys % 2 == 1) then x.inv else if inverted then x.inv + 2 ^ phys else x.inv - 2 ^ phys,
          wants := (x.wants.set (2 * l) pre).set (2 * l + 1) post,
          rxReady := if ready && x.rxReady / 2 ^ l % 2 == 0 then x.rxReady + 2 ^ l else x.rxReady,
          farReady := if h.ready && x.farReady / 2 ^ l % 2 == 0 then x.farReady + 2 ^ l else x.farReady }
        let t := (t.moveTaps p l h.reqPre h.reqPost).trainLane p l
        let x := t.port p
        if x.rxReady % (x.lanes + 1) = x.lanes ∧ x.farReady % (x.lanes + 1) = x.lanes then t.toLock p x.lanes x.lanes else t))

/-- TRAIN_TIMEOUT (R127). -/
def execTrainTimeout (p : Nat) (s : State) : Host.Outcome State Fault Refusal :=
  .next (s.whenSerdes fun s => (if p < 3 ∧ s.portState p = 2 ∧ !(s.port p).idle then
      if (s.port p).rxReady = 0 ∨ (s.port p).farReady = 0 then s.rateFailed p 1
      else s.toLock p (s.port p).rxReady (s.port p).farReady
    else s))

/-- FALLBACK_IDLE_END (R127): training at the next lower rate. -/
def execFallbackIdleEnd (p : Nat) (s : State) : Host.Outcome State Fault Refusal :=
  .next (s.whenSerdes fun s => (if p < 3 ∧ s.portState p = 2 ∧ (s.port p).idle then s.toTrain p else s))

/-- Whether a skew in UI exceeds 64 ns at a rate (R123). -/
def skewBad (rate : Nat) (ui : Int) : Bool :=
  decide (64000000 < ui.natAbs * (match rate with | 2 => 18824 | 1 => 37647 | _ => 96970))

/-- Ask the far end to spare a lane (R137 step 1), with the event and the LANE fault. -/
def State.askSpare (s : State) (p l cause : Nat) : State :=
  let t := (s.portM p fun x => { x with asking := x.asking + 2 ^ l }).laneCtl p (s.get (F.ADT_LANE_TXUSE p)) 1 l
  (t.raiseWith (8 * (12 + 4 * p) + 2) true 0 [l, 0, cause]).logFault 1 p (12 + 4 * p) true (l + 65536 * cause)

/-- Enter EXCHANGE with CAPCFG and FIDREQ as they stand now (R129). A lane that training or LOCK failed is treated as a failed lane now that
blocks pass (R123, R127): SPARE for one received on, the event for one transmitted on. -/
def State.toExchange (s : State) (p : Nat) : State :=
  let t := (s.put (F.ADT_STAT_STATE p) 4).portM p fun x =>
    { x with cap := (s.rd (A.ADT_CAPCFG p)).toNat, fidReq := if s.fid = 0 then s.strapFid else s.fid, peerCap := [], gotAck := false, ackSent := false }
  if (s.port p).one then t
  else
    let t := (lanesOf (3 - s.get (F.ADT_LANE_RXUSE p))).foldl (fun u l => u.askSpare p l (s.get (rxCause p l))) t
    (lanesOf (3 - s.get (F.ADT_LANE_TXUSE p))).foldl (fun u l => u.raiseWith (8 * (12 + 4 * p) + 2) true 0 [l, 1, 6]) t

/-- The port leaves LOCK once every lane in use is deskewed (Table 5-4). -/
def State.lockDone (s : State) (p : Nat) : State :=
  if (lanesOf (s.get (F.ADT_LANE_RXUSE p))).all fun l => (s.port p).locked / 2 ^ l % 2 == 1 then s.toExchange p else s

/-- LOCK_TIMEOUT (R127). -/
def execLockTimeout (p : Nat) (s : State) : Host.Outcome State Fault Refusal :=
  .next (s.whenSerdes fun s => (if p < 3 ∧ s.portState p = 3 then s.rateFailed p 2 else s))

/-! ### Lane sparing (R136 to R139) -/

/-- The lanes of the receive direction that work: in use and not asked to be spared. -/
def State.working (s : State) (p : Nat) : List Nat :=
  [0, 1].filter fun l => s.get (F.ADT_LANE_RXUSE p) / 2 ^ l % 2 == 1 && (s.port p).asking / 2 ^ l % 2 == 0

/-- The 60 s of a lane's first rejoin are over (R138): its failures no longer count. -/
def State.flapEnd (s : State) (p l : Nat) : State :=
  match (if l = 0 then (s.port p).firstJoin0 else (s.port p).firstJoin1) with
  | some a =>
    if a + 60000000000 < s.uptime then
      (s.put (flaps p l) 0).portM p fun x => if l = 0 then { x with firstJoin0 := none } else { x with firstJoin1 := none }
    else s
  | none => s

/-- A failure of a lane that had rejoined counts towards its hold (R138). -/
def State.flap (s : State) (p l : Nat) : State :=
  let s := s.flapEnd p l
  if (if l = 0 then (s.port p).firstJoin0 else (s.port p).firstJoin1).isNone then s
  else
    let t := s.put (flaps p l) (min 3 (s.get (flaps p l) + 1))
    if t.get (flaps p l) = 3 then (t.put (rxHold p l) 1).raise (12 + 4 * p) 7 [l] else t

/-- A lane's receiver has offended against what R138 judges; loss of signal or of sync headers also loses its lock. -/
def State.offend (s : State) (p l cause : Nat) : State :=
  s.rxM p l fun r => if cause = 1 ∨ cause = 2 then { r with bad := some s.uptime, lock := false, run := 0, zero := 0, window := [], since := none, fifo := [], seek := 0, skip := 0 }
    else { r with bad := some s.uptime }

/-- LANE_FAILURE's effect (R136, R137, R139): sparing, or DARK where the last working lane of the direction fails. In LOCK the direction goes
on without the lane, as R123 says of skew, and leaves LOCK where the lane was the last one not deskewed. -/
def State.laneFailed (s : State) (p l cause : Nat) : State :=
  let s := s.offend p l cause
  if s.portState p < 3 ∨ 6 < s.portState p ∨ !((s.working p).contains l) then s
  else
    let t := (s.put (rxCause p l) cause).portM p fun x => if l = 0 then { x with skewKept := s.get (F.ADT_SKEW_SKEW p) } else x
    if (s.working p).length = 1 then t.goDark p 8 true
    else if s.portState p = 3 then (t.setRx p (s.get (F.ADT_LANE_RXUSE p) - 2 ^ l)).lockDone p
    else (t.flap p l).askSpare p l cause

/-- LANE_FAILURE (R136): outside Dim, a receiver declares a lane failed. -/
def execLaneFailure (p lane cause : Nat) (s : State) : Host.Outcome State Fault Refusal :=
  .next (s.whenSerdes fun s => (if 3 ≤ p ∨ s.bit (F.ADT_STAT_RXDIM p) ∨ 2 ≤ lane then s else s.laneFailed p lane cause))

/-- SPARE_REPEAT (R137): SPARE again until STRIPE is seen. -/
def execSpareRepeat (p : Nat) (s : State) : Host.Outcome State Fault Refusal :=
  .next (s.whenSerdes fun s => (if s.carrying p then
      (lanesOf (s.port p).asking).foldl (fun t l => t.laneCtl p (t.get (F.ADT_LANE_TXUSE p)) 1 l) s
    else s))

/-- The transmitter stripes over the lanes of a mask from its next codeword boundary: STRIPE on the lanes of `on`, then the switch (R137). -/
def State.restripe (s : State) (p on mask : Nat) : State := (((s.laneCtl p on 3 mask).emit (.stripe p mask))).setTx p mask

/-- SPARE comes in (R137): the transmitter stripes on the surviving lane alone. -/
def State.hearSpare (s : State) (p lane : Nat) : State :=
  let use := s.get (F.ADT_LANE_TXUSE p)
  if !(s.carrying p) ∨ 2 ≤ lane then s
  else if use / 2 ^ lane % 2 = 0 then s.laneCtl p use 3 use
  else if use = 2 ^ lane then s
  else (s.restripe p (use - 2 ^ lane) (use - 2 ^ lane)).raiseWith (8 * (12 + 4 * p) + 2) true 0 [lane, 1]

/-- LANECTL_SPARE_RECEIVE (R137). -/
def execLanectlSpareReceive (p lane : Nat) (s : State) : Host.Outcome State Fault Refusal := .next (s.whenSerdes fun s => s.hearSpare p lane)

/-- A lane has rejoined: its cause clears, the event, and the first rejoin is marked (R138). -/
def State.laneBack (s : State) (p l : Nat) : State :=
  let t := (s.put (rxCause p l) 0).raise (12 + 4 * p) 3 [l]
  t.portM p fun x =>
    if l = 0 then { x with firstJoin0 := if x.firstJoin0.isNone then some s.uptime else x.firstJoin0 }
    else { x with firstJoin1 := if x.firstJoin1.isNone then some s.uptime else x.firstJoin1 }

/-- A lane that joins the stripe starts with the codeword that follows, counted from the markers, codeword `row` of a lane already in it
(R122, R123): those before it are dropped, or are still to come. -/
def RxLane.joinAt (r : RxLane) (row : Option Nat) : RxLane :=
  match r.since, row with
  | some a, some b =>
    let d := (a + 16384 - b % 16384) % 16384
    if d < 8192 then { r with fifo := r.fifo.drop (r.fifo.length - d), skip := 0 } else { r with fifo := [], skip := 16384 - d }
  | _, _ => { r with fifo := [], skip := 0 }

/-- The place, counted from the markers, of the codeword of a lane that has just been heard. -/
def RxLane.rowNow (r : RxLane) : Option Nat := r.since.map fun k => (k + 16384 - r.fifo.length % 16384) % 16384

/-- STRIPE comes in (R137, R138): the receiver takes the new mask from the next codeword on; a LANE fault's recovery is complete. -/
def State.hearStripe (s : State) (p mask : Nat) : State :=
  if !(s.carrying p) ∨ mask = 0 ∨ 4 ≤ mask then s
  else
    let old := s.get (F.ADT_LANE_RXUSE p)
    let t := (s.setRx p mask).portM p fun x => { x with asking := [0, 1].foldl (fun a l =>
      if x.asking / 2 ^ l % 2 = 1 ∧ mask / 2 ^ l % 2 = 1 then a + 2 ^ l else a) 0 }
    let row := ((lanesOf old).filterMap fun l => (s.rxLane p l).rowNow).head?
    let t := (lanesOf (mask &&& (3 - old))).foldl (fun u l => u.rxM p l fun r => r.joinAt row) t
    let t := (lanesOf mask).foldl (fun u l => if old / 2 ^ l % 2 = 0 then u.laneBack p l else u) t
    if (t.port p).asking = 0 then t.closeFaults fun o => o.cls == 1 && o.unit == p else t

/-- LANECTL_STRIPE_RECEIVE (R137, R138). -/
def execLanectlStripeReceive (p mask : Nat) (s : State) : Host.Outcome State Fault Refusal := .next (s.whenSerdes fun s => s.hearStripe p mask)

/-- JOIN comes in (R138): the transmitter stripes on both lanes again. -/
def State.hearJoin (s : State) (p lane : Nat) : State :=
  let use := s.get (F.ADT_LANE_TXUSE p)
  if !(s.carrying p) ∨ 2 ≤ lane ∨ (s.port p).one then s
  else if use = 3 then s.laneCtl p 3 3 3
  else (s.restripe p use 3).raise (12 + 4 * p) 3 [lane, 1]

/-- LANECTL_JOIN_RECEIVE (R138). -/
def execLanectlJoinReceive (p lane : Nat) (s : State) : Host.Outcome State Fault Refusal := .next (s.whenSerdes fun s => s.hearJoin p lane)

/-- Whether a lane passed the past second (R138): lock held, markers seen and nothing offended against it. -/
def State.lanePasses (s : State) (p l : Nat) : Bool :=
  (s.rxLane p l).lock && (s.rxLane p l).since.isSome && (match (s.rxLane p l).bad with | some a => decide (a + 1000000000 ≤ s.uptime) | none => true)

/-- SPARED_LANE_JUDGE (R138): a spared lane that passed the past second is asked to rejoin. Without a signal through that second (`sig`) it has
held no lock. -/
def execSparedLaneJudge (p lane : Nat) (sig : Bool) (s : State) : Host.Outcome State Fault Refusal :=
  .next (s.whenSerdes fun s => (
    if !(s.carrying p) ∨ 2 ≤ lane then s
    else
      let t := s.flapEnd p lane
      if t.get (F.ADT_LANE_RXUSE p) / 2 ^ lane % 2 == 0 && !(t.port p).one && !(t.bit (rxHold p lane)) && sig && t.lanePasses p lane then
        t.laneCtl p (t.get (F.ADT_LANE_TXUSE p)) 2 lane
      else t))

/-- MARKER_RECEIVE (R122, R123): the marker of a logical lane with lane 1's arrival relative to lane 0 in UI. In LOCK it deskews a lane that
holds block and codeword lock; later a skew beyond the bound is lane 1's failure, or an offence of lane 0 where that one is spared. -/
def execMarkerReceive (p lane : Nat) (skew : Int) (s : State) : Host.Outcome State Fault Refusal :=
  .next (s.whenSerdes fun s => (
    if 3 ≤ p ∨ 2 ≤ lane ∨ s.portState p < 3 ∨ 6 < s.portState p ∨ s.bit (F.ADT_STAT_RXDIM p) ∨ !(s.rxLane p lane).lock then s
    else
      let bad := skewBad (s.get (F.ADT_STAT_RATE p)) skew
      let t := (s.put (F.ADT_SKEW_SKEW p) (skew % 8192).toNat).rxM p lane fun r => { r with since := some 0, seek := 0 }
      if s.portState p = 3 then
        let t := if bad && lane == 1 && t.get (F.ADT_LANE_RXUSE p) == 3 then ((t.setRx p 1).put (F.ADT_LANE_RXCAUSE1 p) 5).offend p 1 5
          else t.portM p fun x => if x.locked / 2 ^ lane % 2 = 1 then x else { x with locked := x.locked + 2 ^ lane }
        t.lockDone p
      else if bad && lane == 1 then
        (if s.get (F.ADT_LANE_RXUSE p) = 2 then t.offend p 0 5 else t.laneFailed p 1 5)
      else t))

/-! ### FEC and downgrade (R121, R128) -/

/-- RATE_DOWNGRADE (R128): DARK, and the next bring-up at the next lower rate. -/
def State.downgrade (s : State) (p : Nat) : State :=
  let r := (s.port p).rate
  let t := (s.goDark p 9 true).bump (F.ADT_TRAINCNT_DEG p)
  let t := (t.portM p fun x => { x with rate := x.rate - 1 }).raise (12 + 4 * p) 4 [r, r - 1]
  if t.mayDetect p then t.toDetect p else t

/-! ### Capability exchange (R130, R131) -/

/-- The port's capability frame (Table 5-6), 64 bytes. -/
def State.capFrame (s : State) (p : Nat) : List (BitVec 8) :=
  let x := s.port p
  let flags := (if x.peerCap = [] then 0 else 1) + x.cap % 2 * 2 + 4 + x.cap / 2 % 2 * 8 + x.cap / 4 % 2 * 16
  [0x44#8, 0x5A#8, 0x43#8, 0x58#8] ++
    ([1, flags, s.role, p, s.get (F.ADT_STAT_TXLANES p) + 4 * s.get (F.ADT_STAT_RXLANES p), x.cap / 256 % 256,
      x.fidReq, 0].flatMap fun v => leBytes 1 v) ++
    leBytes 8 s.uid ++ leBytes 2 9344 ++ leBytes 2 125 ++ leBytes 4 (s.get F.GLB_BOOTVER_VERSION) ++ leBytes 36 0

/-- Start a key exchange (R171 step 1): a fresh random value and key, and KX_HELLO on the port; `answer`: it answers the
peer's rekey. A device in Quarantine exchanges NEIGHBOUR and RECORD alone (R368). -/
def State.startKx (s : State) (p : Nat) (rekey answer : Bool) : State :=
  if s.quarantined then s else
  let (r, t) := s.draw
  let (t, eph, pub) := t.ephemeral p
  ((t.keyM p fun y => { y with
      step := 1, rekey := rekey, started := !answer, phase := (if rekey then 1 - y.txPhase else 0), ownRand := r, eph := eph,
      peerPub := none, peerChain := [], failed := false, rdyGot := false }).put (F.ADT_KEYSTAT_KX p) (if rekey then 3 else 1)).emit
    (.msg (.port p) (.kxHello r pub rekey answer (if rekey then [] else Config.deviceChain)))

/-- The device's first Lit port (R365): it takes its FID from straps or NV memory, where they give one. -/
def State.firstLit (s : State) : State :=
  if s.fab.firstLit then s
  else
    let t := s.fabM fun f => { f with firstLit := true }
    if s.ownFid.1 = 0 then t else t.takeFid s.ownFid.1 s.ownFid.2

/-- The port enters LIT (R123, R131, R141, R160): settings of the exchange, of the transmit lanes those the peer receives on, credits from CRDCFG, CREDIT words, the link-up
event, NEIGHBOUR, and the key exchange on an encrypted link. -/
def State.toLit (s : State) (p : Nat) : State :=
  let x := s.port p
  let enc := x.cap % 2 == 1 || byteAt x.peerCap 5 / 2 % 2 == 1
  let cls := (List.range 8).foldl (fun a c => if x.cap / 2 ^ (8 + c) % 2 = 1 ∧ byteAt x.peerCap 9 / 2 ^ c % 2 = 1 then a + 2 ^ c else a) 0
  let tx := s.get (F.ADT_STAT_TXLANES p) &&& byteAt x.peerCap 8 / 4
  let t := (s.put (F.ADT_STAT_STATE p) 5).putBit (F.ADT_STAT_ENC p) enc
  let t := if tx = 0 ∨ tx = s.get (F.ADT_STAT_TXLANES p) then t else (t.emit (.stripe p tx)).setTx p tx
  let t := (List.range 16).foldl (fun u k => u.put (F.ADT_PEERCAP p k) (leNat (slice x.peerCap (4 * k) 4))) t
  let t := t.linkM p fun l => { LinkSt.reset with poolAt := l.poolAt, pool := s.get (F.ADT_CRDCFG_UNITS p 3), classes := if cls % 2 = 1 then cls else cls + 1, rxLimit := (List.range 8).map fun c => s.get (F.ADT_CRDCFG_UNITS p c) }
  let t := t.put (F.ADT_KEYSTAT_KX p) (if enc then 1 else 0)
  let t := (t.creditAll p).refreshPstates
  let t := t.raise (12 + 4 * p) 0 [s.get (F.ADT_STAT_RATE p), t.get (F.ADT_STAT_TXLANES p), t.get (F.ADT_STAT_RXLANES p), if enc then 1 else 0]
  let t := (t.sendNeighbour p).firstLit
  if enc then t.startKx p false false else t

/-- Whether each end has the other's frame with ACK set: the port is LIT then. -/
def State.tryLit (s : State) (p : Nat) : State := if (s.port p).gotAck && (s.port p).ackSent then s.toLit p else s

/-- CAPABILITY_SEND (R130). -/
def execCapabilitySend (p : Nat) (s : State) : Host.Outcome State Fault Refusal :=
  .next (s.whenSerdes fun s => (if p < 3 ∧ s.portState p = 4 then
      let b := s.capFrame p
      ((s.emit (.capability p (b ++ leBytes 4 (crc32 b).toNat))).portM p fun x => { x with ackSent := x.peerCap != [] }).tryLit p
    else s))

/-- HALT on a mismatch (R131, Table 5-8). -/
def State.halt (s : State) (p cause ver flags : Nat) : State :=
  let t := (((((s.wr (A.ADT_LANE p) 0).put (F.ADT_STAT_TXLANES p) 0).put (F.ADT_STAT_RXLANES p) 0).put (F.ADT_STAT_STATE p) 7).put
    (F.ADT_STAT_LASTFAIL p) cause).emit (.lanes p 3 0)
  t.raise (12 + 4 * p) 6 [cause, ver, flags]

/-- A capability frame comes in (R130, R131): 64 bytes and the CRC-32 that followed them. -/
def State.hearCapability (s : State) (p : Nat) (bytes : List (BitVec 8)) (crc : BitVec 32) : State :=
  if 3 ≤ p ∨ s.portState p ≠ 4 ∨ bytes.length ≠ 64 ∨ crc32 bytes ≠ crc ∨ leNat (slice bytes 0 4) ≠ 0x58435A44 then s
  else
    let own := (s.port p).cap % 2
    let flags := byteAt bytes 5
    if byteAt bytes 4 ≠ 1 then s.halt p 4 (byteAt bytes 4) flags
    else if own = 1 ∧ flags / 4 % 2 = 0 then s.halt p 5 (byteAt bytes 4) flags
    else (s.portM p fun x => { x with peerCap := bytes, gotAck := x.gotAck || flags % 2 == 1 }).tryLit p

/-- CAPABILITY_FRAME_RECEIVE (R130, R131). -/
def execCapabilityFrameReceive (p : Nat) (bytes : List (BitVec 8)) (crc : BitVec 32) (s : State) : Host.Outcome State Fault Refusal :=
  .next (s.whenSerdes fun s => s.hearCapability p bytes crc)

/-- EXCHANGE_TIMEOUT (R127): DARK, and a retry after 1 s at the same rate. -/
def execExchangeTimeout (p : Nat) (s : State) : Host.Outcome State Fault Refusal :=
  .next (s.whenSerdes fun s => (if p < 3 ∧ s.portState p = 4 then (s.goDark p 3 false).portM p fun x => { x with retry := true } else s))

/-- RETRY_DELAY_EXPIRY (R127): the retry delay has run out. -/
def execRetryDelayExpiry (p : Nat) (s : State) : Host.Outcome State Fault Refusal :=
  .next (s.whenSerdes fun s => (
    let t := s.portM p fun x => { x with retry := false }
    if t.mayDetect p then t.toDetect p else t))

/-! ### Dim (R132, R133) -/

/-- DIM_ENTRY (R132; in Sleep R427): with nothing queued or unacknowledged for IDLE, 16 DIM blocks and electrical idle. -/
def execDimEntry (p : Nat) (s : State) : Host.Outcome State Fault Refusal :=
  .next (s.whenSerdes fun s => (if s.lit p && (s.bit (F.ADT_CTRL_DIMEN p) || s.get F.PWR_STAT_CUR == 2) && !(s.bit (F.ADT_STAT_TXDIM p)) && (s.sch p).queue.isEmpty &&
      (s.link p).replay.isEmpty then
      let t := (s.emit (.blocks p 0x4E (s.get (F.ADT_LANE_TXUSE p)) 0 0 16)).put (F.ADT_STAT_TXDIM p) 1
      if t.bit (F.ADT_STAT_RXDIM p) then t.put (F.ADT_STAT_STATE p) 6 else t
    else s))

/-- DIM_RECEIVE (R132). -/
def execDimReceive (p : Nat) (s : State) : Host.Outcome State Fault Refusal :=
  .next (s.whenSerdes fun s => (if s.lit p then
      let t := s.put (F.ADT_STAT_RXDIM p) 1
      if t.bit (F.ADT_STAT_TXDIM p) then t.put (F.ADT_STAT_STATE p) 6 else t
    else s))

/-- DIM_EXIT (R133). -/
def execDimExit (p : Nat) (s : State) : Host.Outcome State Fault Refusal := .next (s.whenSerdes fun s => (if s.lit p then s.exitDim p else s))

/-- The descrambler of a lane after the 96 blocks of a burst (R119). -/
def descrBurst (h : BitVec 58) (bits : Nat) : BitVec 58 :=
  (List.range 96).foldl (fun h i => (descramble h (BitVec.ofNat 64 (bits / 2 ^ (66 * i + 2)))).2) h

/-- A burst of one of the device's lanes as its logical lane reads it (R116, R119): the descrambler resynchronises. -/
def State.hearBurst (s : State) (p l bits : Nat) : State :=
  let phys := if (s.port p).rxSwap then 1 - l else l
  s.rxM p l fun r => { r with scr := descrBurst r.scr (if (s.port p).inv / 2 ^ phys % 2 = 1 then 2 ^ 6336 - 1 - bits % 2 ^ 6336 else bits) }

/-- DIM_EXIT_BURST_RECEIVE (R119, R133, R136): the lanes in use descramble the burst; those that did not lock within it have failed, cause 1. -/
def execDimExitBurstReceive (p : Nat) (b : BurstIn) (s : State) : Host.Outcome State Fault Refusal :=
  .next (s.whenSerdes fun s => (if s.lit p && s.bit (F.ADT_STAT_RXDIM p) then
      let t := (s.put (F.ADT_STAT_RXDIM p) 0).put (F.ADT_STAT_STATE p) 5
      let t := (s.working p).foldl (fun u l => u.hearBurst p l (b.bits.getD (if (s.port p).rxSwap then 1 - l else l) 0)) t
      (s.working p).foldl (fun u l => if b.locked / 2 ^ l % 2 = 0 then u.laneFailed p l 1 else u) t
    else s))

end Sys2Proof.Machine
end

