-- ==== Sys2Proof/Machine/LinkLayer.lean ====
section
/-! DEFINITION. The link layer (chapter 6): the offer of frames to a port, receive checks, hop retry, credits, end-to-end
acknowledgements and link encryption. -/

namespace Sys2Proof.Machine

/-! ### Ingress (R17, R213) -/

/-- FOREIGN_FRAME_INGRESS (R17): an interface offers a whole frame at its endpoint, for a tunnel type. -/
def execForeignFrameIngress (ep typ kind : Nat) (bytes : List (BitVec 8)) (last yellow : Bool) (s : State) : Host.Outcome State Fault Refusal :=
  .next (s.whenUp fun s => (if kind ∈ typeKinds typ ∧ bytes ≠ [] then (s.ingress ep typ kind bytes last yellow).flushLoop else s))

/-- The event for a lossless frame that has been held red for more than 1 ms (Table 8-5), at most once per 1 ms. -/
def State.redEvent (s : State) : State :=
  match s.tun.ctxs.find? fun c => c.par.cls != 4 && c.first.red.any fun t => decide (t + 1000000 < s.uptime) with
  | some c => if s.due s.metHold 1000000 then { s with metHold := some s.uptime }.raise 29 5 [c.meter % 256, c.meter / 256, 0, 0] else s
  | none => s

/-- METER_RETEST (R213): the held frames are tested again. -/
def execMeterRetest (s : State) : Host.Outcome State Fault Refusal := .next (s.whenUp fun s => s.flushAllHeld.redEvent.flushLoop)

/-! ### Keys of a port -/

/-- The slot of a phase in a port's key list. -/
def slotOfPhase (l : List (Nat × Nat)) (ph : Nat) : Option Nat := (l.find? fun e => e.1 == ph).map (·.2)

/-- Key and salt of a slot (R479). -/
def State.linkKey (s : State) (slot : Nat) : List (BitVec 8) × List (BitVec 8) :=
  match (s.slotAt slot).key with
  | some v => (v.value.take 32, slice v.value 32 4)
  | none => ([], [])

/-- The GCM nonce of a frame (R170): salt and EXSEQ, big-endian. -/
def gcmNonce (salt : List (BitVec 8)) (ex : Nat) : BitVec 96 := BitVec.ofNat 96 (beNat (salt ++ beBytes 8 ex))

/-! ### Transmission (R154, R158, R169) -/

/-- A frame as it stands on a port's link with the next HSEQ (R147, R148, R152, R169, R170). -/
def State.wireOf (s : State) (p : Nat) (f : Frame) (stomp : Bool) : Wire :=
  let k := (s.link p).key
  let g : Frame := { f with
    hseq := s.get (F.ADT_LLSTAT_TXHSEQ p),
    flags := setFlag (setFlag f.flags 0 k.txOn) 1 (k.txOn && k.txPhase == 1) }
  let hdr := packHeader g
  let plain := f.payload ++ leBytes 4 (trailerOf f.payload stomp).toNat
  match (if k.txOn then slotOfPhase k.keyTx k.txPhase else none) with
  | none => { f := g, hdr := hdr, body := plain, tag := none }
  | some n =>
    let (key, salt) := s.linkKey n
    let (ct, tag) := Config.aesGcmSeal key (gcmNonce salt k.exTx) (beBytes 16 hdr.toNat) plain
    { f := g, hdr := hdr, body := ct, tag := some tag }

/-- Bytes of a wire frame (R143). -/
def wireSize (w : Wire) : Nat := frameSize w.f + if w.tag.isSome then 16 else 0

/-- Bytes in a port's replay buffer. -/
def State.replayBytes (s : State) (p : Nat) : Nat := ((s.link p).replay.map wireSize).sum

/-- Rekey overdue (R172): only KEYX frames until the switch, with its event. -/
def State.overdue (s : State) (p : Nat) : State :=
  if (s.link p).key.txOn && !(s.link p).key.overdue then
    (s.keyM p fun k => { k with overdue := true }).raise (13 + 4 * p) 3 [(s.link p).key.txPhase, 0, 0, 0]
  else s

/-- FRAME_TRANSMIT (R154): HSEQ, replay copy, trailer, encryption, credit; 2^31 frames under a key start a rekey (R172). -/
def State.transmit (s : State) (p : Nat) (f : Frame) (stomp : Bool) : State :=
  let w := s.wireOf p f stomp
  let u := unitsOf (wireSize w)
  let t := (if f.cls = 2 then s.reserve f else s).put (F.ADT_LLSTAT_TXHSEQ p) (w.f.hseq + 1)
  let t := t.linkM p fun l => { l with
    replay := l.replay ++ [w],
    txUsed := if f.cls = 3 then l.txUsed else l.txUsed.modify f.cls fun v => (v + u) % 65536 }
  let t := (t.keyM p fun k => if k.txOn then { k with exTx := k.exTx + 1 } else k).emit (.frame p w)
  let k := (t.link p).key
  if 2 ^ 32 ≤ k.exTx then t.overdue p
  else if 2 ^ 31 ≤ k.exTx ∧ t.get (F.ADT_KEYSTAT_KX p) = 2 then t.startKx p true false
  else t

/-- Whether a new frame may leave within the window and the replay buffer (R154). -/
def State.windowOk (s : State) (p : Nat) (f : Frame) : Bool :=
  decide ((s.link p).replay.length < 2048) && decide (s.replayBytes p + s.sizeOn p f ≤ 65536)

/-- A queued frame leaves the port: its queue, its tunnel's count, what it held on its way in. A frame that began to leave before it was found bad
ends with a stomped trailer (R18). -/
def State.sendQueued (s : State) (p : Nat) (q : QFrame) (stomp : Bool) : State :=
  let t := match q.queue with
    | some k => ((s.highWater p k).statM k fun x => { x with fwd := satAdd x.fwd 1 })
    | none => s
  (((t.schM p fun c => { c with queue := c.queue.erase q }).drainDone p t.now).transmit p q.f stomp).release q

/-- A fabric queue's head leaves (R201 step 1). -/
def State.sendFab (s : State) (p : Nat) (q : QFrame) (stomp : Bool) : State :=
  (s.chargeClass p q.f.cls (s.sizeOn p q.f)).sendQueued p q stomp

/-- A queue's head leaves under calendar credit (R206). -/
def State.sendCal (s : State) (p k : Nat) (q : QFrame) (stomp : Bool) : State :=
  let size := s.sizeOn p q.f
  let t := ((s.chargeClass p q.f.cls size).sendQueued p q stomp).schM p fun c =>
    { c with ccred := putBy (fun e => e.1 == k) (k, (assoc c.ccred k).getD 0 - (size : Nat)) c.ccred }
  t.schM p fun c => c.settle k

/-- A queue's head leaves under fair queueing (R209). -/
def State.sendWfq (s : State) (p : Nat) (tag : Tag) (q : QFrame) (stomp : Bool) : State :=
  let size := s.sizeOn p q.f
  (((((s.chargeClass p q.f.cls size).chargeQueue p tag.q size).sendQueued p q stomp).schM p fun c => c.settle tag.q)).advanceV p tag.q tag.fin

/-- The scheduler's offer (R201, R202). -/
def State.offer (s : State) (p : Nat) : State :=
  match [6, 0, 7].filterMap (fun c => match s.fabHead p c with
      | some q => if s.headOk p q then some q else none
      | none => none) with
  | q :: _ => if s.windowOk p q.f then s.sendFab p q false else s
  | [] =>
    match (s.sch p).grants.filterMap (fun k => match s.head p k with
        | some q => if 0 < (assoc (s.sch p).ccred k).getD 0 ∧ s.headOk p q then some (k, q) else none
        | none => none) with
    | (k, q) :: _ => if s.windowOk p q.f then s.sendCal p k q false else s
    | [] =>
      let t := s.retag p
      match (t.sch p).best with
      | none => t
      | some tag =>
        match t.head p tag.q with
        | some q => if t.windowOk p q.f then t.sendWfq p tag q false else t
        | none => t

/-- The first KEYX frame of a port's queues: while a rekey is overdue nothing else leaves (R172). -/
def State.offerKeyx (s : State) (p : Nat) : State :=
  match (s.sch p).queue.find? fun q => q.queue.isNone && q.f.kind == 0x07 with
  | some q => if s.headOk p q && s.windowOk p q.f then s.sendFab p q false else s
  | none => s

/-- What a port sends next: hop resends first, then the frame the scheduler chooses; no new one while a commit drains (R219). -/
def State.sendNext (s : State) (p : Nat) : State :=
  match (s.link p).resend with
  | w :: rest => (s.linkM p fun l => { l with resend := rest }).emit (.frame p w)
  | [] => if (s.sch p).draining.isSome then s else if (s.link p).key.overdue then s.offerKeyx p else s.offer p

/-- A Lit port looks for something to send; in Dim it leaves Dim where there is something (R133). -/
def State.sendTurn (s : State) (p : Nat) : State :=
  if !(s.lit p) then s
  else if s.bit (F.ADT_STAT_TXDIM p) then
    let t := s.exitDim p
    let u := t.sendNext p
    if u.outs.length = t.outs.length then s else u
  else s.sendNext p

/-- SCHEDULER_OFFER (R201): the device's own messages have joined their queues (R154). -/
def execSchedulerOffer (p : Nat) (s : State) : Host.Outcome State Fault Refusal := .next (s.whenSerdes fun s => s.postMail.sendTurn p)

/-! ### Hop retry (R155 to R157) -/

/-- The last HSEQ accepted in order. -/
def State.lastHseq (s : State) (p : Nat) : Nat := (s.get (F.ADT_LLSTAT_RXHSEQ p) + 4095) % 4096

/-- HOP_ACK_SEND. -/
def State.sendAck (s : State) (p : Nat) : State := s.sendLink p { kind := 1, arg := ackArg (s.lastHseq p) }

/-- NAK_SEND. -/
def State.sendNak (s : State) (p : Nat) : State :=
  ((s.put (F.ADT_LLSTAT_NAKOUT p) 1).bump (F.ADT_NAKTX p)).sendLink p { kind := 2, arg := ackArg (s.lastHseq p) }

/-- A frame has failed a check: NAK, where none is outstanding. -/
def State.nakOnce (s : State) (p : Nat) : State := if s.bit (F.ADT_LLSTAT_NAKOUT p) then s else s.sendNak p

/-- NAK_RESEND_TIMER (R155). -/
def execNakResendTimer (p : Nat) (s : State) : Host.Outcome State Fault Refusal :=
  .next (s.whenSerdes fun s => (if s.lit p ∧ s.bit (F.ADT_LLSTAT_NAKOUT p) then s.sendNak p else s))

/-- REPLIM as it acts. -/
def State.replim (s : State) (p : Nat) : Nat := max 1 (s.get (F.ADT_LLCTRL_REPLIM p))

/-- A replay of every outstanding frame (R156), or a retrain in its place (R157). -/
def State.replayAll (s : State) (p : Nat) : State :=
  match (s.link p).replay with
  | [] => s
  | w :: _ =>
    if s.replim p ≤ (s.link p).replays then
      (s.raise (13 + 4 * p) 0 [w.f.hseq % 256, w.f.hseq / 256, min (s.link p).replays 255, 0]).retrain p true
    else
      (s.bump (F.ADT_REPLAY p)).linkM p fun l => { l with replays := l.replays + 1, resend := l.replay }

/-- Free the copies an ACK or NAK covers (R156): none where its HSEQ is not outstanding. A NAK may name the one before the oldest, as one for
the oldest frame does (R155). -/
def State.ackTo (s : State) (p h : Nat) (nak : Bool) : Option State :=
  let l := s.link p
  match l.replay.findIdx? fun w => w.f.hseq == h with
  | some i => some (s.linkM p fun l => { l with
      replay := l.replay.drop (i + 1), replays := 0,
      resend := l.resend.filter fun w => !((l.replay.take (i + 1)).any fun x => x.f.hseq == w.f.hseq) })
  | none =>
    match l.replay with
    | w :: _ => if nak ∧ (h + 1) % 4096 = w.f.hseq then some s else none
    | [] => none

/-- What a LINK word does (R153): one of a wrong check byte or a reserved type is discarded and counted. -/
def State.linkWord (s : State) (p : Nat) (w : LinkWord) (chk : BitVec 8) (kind : Nat) (act : State → State) : State :=
  if !(s.lit p) then s
  else if linkCheck w.kind w.arg ≠ chk ∨ w.kind = 0 ∨ 4 < w.kind then s.bump (F.ADT_LINKERR p)
  else if w.kind = kind then act s else s

/-- An ACK word acts (R156). -/
def State.ackWord (s : State) (p : Nat) (w : LinkWord) : State := (s.ackTo p (w.arg.toNat % 4096) false).getD (s.bump (F.ADT_LINKERR p))

/-- A NAK word acts (R156). -/
def State.nakWord (s : State) (p : Nat) (w : LinkWord) : State :=
  let t := s.bump (F.ADT_NAKRX p)
  match t.ackTo p (w.arg.toNat % 4096) true with
  | some u => u.replayAll p
  | none => t.bump (F.ADT_LINKERR p)

/-- ACK_RECEIVE (R156). -/
def execAckReceive (p : Nat) (w : LinkWord) (chk : BitVec 8) (s : State) : Host.Outcome State Fault Refusal :=
  .next (s.whenSerdes fun s => (s.linkWord p w chk 1 fun t => t.ackWord p w))

/-- NAK_RECEIVE (R156). -/
def execNakReceive (p : Nat) (w : LinkWord) (chk : BitVec 8) (s : State) : Host.Outcome State Fault Refusal :=
  .next (s.whenSerdes fun s => (s.linkWord p w chk 2 fun t => t.nakWord p w))

/-- REPLAY_TIMEOUT (R156): 4 µs without progress. -/
def execReplayTimeout (p : Nat) (s : State) : Host.Outcome State Fault Refusal := .next (s.whenSerdes fun s => (if s.lit p then s.replayAll p else s))

/-! ### Credits (R158, R160) -/

/-- A CREDIT word sets its class's limit (R160). -/
def State.creditHeard (s : State) (p : Nat) (w : LinkWord) : State :=
  let c := w.arg.toNat % 8
  s.linkM p fun l => { l with
    txLimit := l.txLimit.set c (w.arg.toNat / 256 % 65536),
    txSeen := if l.txSeen / 2 ^ c % 2 = 1 then l.txSeen else l.txSeen + 2 ^ c }

/-- CREDIT_RECEIVE (R160). -/
def execCreditReceive (p : Nat) (w : LinkWord) (chk : BitVec 8) (s : State) : Host.Outcome State Fault Refusal :=
  .next (s.whenSerdes fun s => (s.linkWord p w chk 3 fun t => t.creditHeard p w))

/-- CREDIT_REFRESH (R160): CREDIT words for all classes, outside Dim. -/
def execCreditRefresh (p : Nat) (s : State) : Host.Outcome State Fault Refusal :=
  .next (s.whenSerdes fun s => (if s.lit p ∧ !(s.bit (F.ADT_STAT_TXDIM p)) then s.creditAll p else s))

/-! ### End-to-end acknowledgements (R166, R167) -/

/-- One entry of an E2E_ACK. -/
def OwedAck.entry (a : OwedAck) : List (BitVec 8) :=
  leBytes 4 (a.tid % 4096 + (if a.resend then 4096 else 0) + 65536 * (a.eseq % 65536))

/-- The E2E_ACK frames for one destination, 256 entries each at most. -/
def ackFrames (src dst : Nat) : Nat → List OwedAck → List Frame
  | 0, _ => []
  | _, [] => []
  | n + 1, l =>
    let body := (l.take 256).flatMap OwedAck.entry
    { dst := dst, src := src, tid := 0, cls := 0, kind := 1, len := body.length, hseq := 0, eseq := 0, ttl := 63, flags := 0,
      rsvd := 0, payload := body } :: ackFrames src dst n (l.drop 256)

/-- E2E_ACK_SEND (R166): what is owed to one device shares frames. -/
def execE2eAckSend (s : State) : Host.Outcome State Fault Refusal :=
  .next (s.whenUp fun s => (
    let owed := s.tun.owed
    (owed.map (·.dst)).eraseDups.foldl (fun t d =>
      (ackFrames s.fid d (owed.length / 256 + 1) (owed.filter fun a => a.dst == d)).foldl (fun u f => u.sendFabric f none none) t)
      (s.tunM fun t => { t with owed := [] })))

/-- E2ETMO of a port in nanoseconds. -/
def State.e2etmo (s : State) (p : Nat) : Nat := 1000 * max 10 (s.get (F.ADT_LLCTRL_E2ETMO p))

/-- One acknowledgement entry reaches its tunnel's ingress (R166, R167). -/
def State.hearAck (s : State) (tid : Nat) (resend : Bool) (eseq : Nat) : State :=
  match s.tun.ctxs.find? fun c => c.par.tid == tid && c.isEnd && !c.local_ with
  | none => s
  | some c =>
    let t := s.freeCopies c.idx eseq
    let again := match c.lastResend, c.copies with
      | some (e, a), k :: _ => e == eseq && decide (s.uptime < a + s.e2etmo k.port)
      | _, _ => false
    if !resend || again then t
    else (t.resend c.idx).ctxM c.idx fun d => { d with lastResend := some (eseq, s.uptime) }

/-- The entries of an E2E_ACK payload act in order. -/
def State.hearAcks : List (BitVec 8) → State → State
  | a :: b :: c :: d :: rest, s =>
    let w := leNat [a, b, c, d]
    hearAcks rest (s.hearAck (w % 4096) (w / 4096 % 2 == 1) (w / 65536))
  | _, s => s

/-- E2E_ACK_RECEIVE (R166). -/
def execE2eAckReceive (bytes : List (BitVec 8)) (s : State) : Host.Outcome State Fault Refusal :=
  .next (s.whenUp fun s => (State.hearAcks (bytes.take 1024) s))

/-- E2E_TIMEOUT (R167): no acknowledgement of a tunnel has advanced for E2ETMO. -/
def execE2eTimeout (tid : Nat) (s : State) : Host.Outcome State Fault Refusal :=
  .next (s.whenUp fun s => (match s.tun.ctxs.find? fun c => c.par.tid == tid && c.isEnd && !c.local_ && !c.copies.isEmpty with
    | some c => if c.paused = 0 then s.resend c.idx else s
    | none => s))

/-! ### Receive checks (R149 to R152) -/

/-- The EXSEQ of the frame expected under a key phase (R170): the first frame under a new key has 0. -/
def State.rxEx (s : State) (p ph : Nat) : Nat :=
  if (s.link p).key.rxOn ∧ s.get (F.ADT_KEYSTAT_RXKPH p) = ph then (s.link p).key.exRx else 0

/-- The check of ENC and the tag (Table 6-4, check 3): the plaintext of payload and trailer. -/
def State.decrypt (s : State) (p : Nat) (f : Frame) (hdr : BitVec 128) (body : List (BitVec 8)) (tag : Option (BitVec 128)) :
    Option (List (BitVec 8)) :=
  let k := (s.link p).key
  let ph := f.flags / 2 % 2
  let ex := s.rxEx p ph
  if flagOf f.flags 0 then
    if !(s.enc p) then none
    else
      match slotOfPhase k.keyRx ph, tag with
      | some n, some t =>
        Config.aesGcmOpen (s.linkKey n).1 (gcmNonce (s.linkKey n).2 ex) (beBytes 16 hdr.toNat) body t
      | _, _ => none
  else if k.rxOn then none else some body

/-- The bytes after the header as a port passes them on before the tag is checked (R152, R169): decrypted, where the frame is encrypted. -/
def State.clearBytes (s : State) (p : Nat) (f : Frame) (body : List (BitVec 8)) : List (BitVec 8) :=
  let k := (s.link p).key
  match (if flagOf f.flags 0 then slotOfPhase k.keyRx (f.flags / 2 % 2) else none) with
  | some n => Config.aesCtr (s.linkKey n).1 (gcmNonce (s.linkKey n).2 (s.rxEx p (f.flags / 2 % 2))) body
  | none => body

/-- Whether a frame is malformed (R150), from what a port knows of it. -/
def State.malformed (s : State) (p : Nat) (f : Frame) : Bool :=
  f.len == 0 || decide (lenMax f.cls < f.len) || !(s.carries p f.cls) ||
    (match kindRow f.kind with
     | none => true
     | some (cs, tid, _) => !(cs.contains f.cls) || (match tid with
       | some z => z != (f.tid == 0)
       | none => false)) ||
    (f.dst == 0 && !(hopOnly f)) || (f.dst == 63 && !(f.cls == 0 && f.tid == 0)) ||
    (f.tid != 0 && (match s.ctxOf f.tid with
      | some c => !((typeKinds c.par.typ).contains f.kind)
      | none => false)) ||
    (f.kind == 0x02 && (byteAt f.payload 0 == 0 || decide (3 < byteAt f.payload 0) || byteAt f.payload 1 != 1)) ||
    (f.kind == 0x0B && f.dst == s.fid && byteAt f.payload 0 != 1 && byteAt f.payload 0 != 2) ||
    (f.kind == 0x0F && (f.tid == 0 || f.dst == s.fid) && (byteAt f.payload 0 == 0 || decide (4 < byteAt f.payload 0)))

/-- Drop a completion's reservation when its LAST frame passes (R161). -/
def State.endRes (s : State) (f : Frame) : State :=
  if flagOf f.flags 3 then
    let k := tlpCplKey (tlpHeader f.payload)
    s.tunM fun t => { t with cplPool := t.cplPool.filter fun r => !(r.lead == s.leadOf f.tid && r.req == k.1 && r.tag == k.2) }
  else s

/-- Whether a class-3 frame has a reservation here. -/
def State.hasRes (s : State) (f : Frame) : Bool :=
  let k := tlpCplKey (tlpHeader f.payload)
  s.tun.cplPool.any fun r => r.lead == s.leadOf f.tid && r.req == k.1 && r.tag == k.2

/-- The units a frame from a port holds here, with what a class-3 frame takes of the pool (R161, R162): none where it finds
no room. -/
def State.holdOf (s : State) (p : Nat) (f : Frame) (u : Nat) : Option (State × (Nat × Nat)) :=
  if f.cls ≠ 3 then some (s, (p, u))
  else if s.hasRes f then some (s, (p, 0))
  else if u ≤ s.poolFree then some (s.tunM fun t => { t with cplLoose := t.cplLoose + u }, (p, u))
  else none

/-- TTL expired (R151). -/
def State.ttlDrop (s : State) (p : Nat) (f : Frame) : State :=
  (s.bump (F.ADT_TTLDROP p)).raise (13 + 4 * p) 5 [f.src, f.dst, f.tid % 256, f.tid / 256]

/-- The queues and ports by which a frame from a port goes on (R151, R374, R376): tunnel queue, or the fabric queue of its class. -/
def State.ways (s : State) (p : Nat) (f : Frame) : List (Option Nat × Nat) :=
  if hopOnly f ∨ (f.dst = s.fid ∧ f.dst ≠ 63) ∨ s.peerQuar p then []
  else if f.dst = 63 then
    if s.get F.FAB_TREE_PORTS / 2 ^ p % 2 = 1 then
      ([0, 1, 2].filter fun e => s.get F.FAB_TREE_PORTS / 2 ^ e % 2 == 1 && e != p && s.usable e f.cls).map fun e => (none, e)
    else []
  else if f.ttl ≤ 1 then []
  else if f.tid = 0 then (s.tableHop f.dst f.cls false false).toList.map fun e => (none, e)
  else
    match s.ctxOf f.tid with
    | some c => (s.tunHop c f.dst c.par.enc).toList.map fun e => (some c.idx, e)
    | none => []

/-- Whether a block belongs to a frame (R118): START, data, TERM. -/
def Block.ofFrame (b : Block) : Bool := !b.ctl || Block.byte b 0 == 0x78 || (termLen (Block.byte b 0)).isSome

/-- Whether a queue of a port has a frame on its lanes, or one not yet in codewords; LINK and SYNC blocks are none (R18). -/
def State.sending (s : State) (e : Nat) : Bool :=
  (s.coding e).tx.any Block.ofFrame || (s.line.any fun o => match o with | .frame q _ => q == e | _ => false) || !(s.link e).resend.isEmpty

/-- Whether a frame from a port cuts through by a way (R18): its egress queue is empty, the egress port is not sending, and runs at the ingress
port's rate and number of lanes. -/
def State.cuts (s : State) (p cls : Nat) (w : Option Nat × Nat) : Bool :=
  !((s.sch w.2).queue.any fun x => x.queue == w.1 && (w.1.isSome || x.f.cls == cls)) && !(s.sending w.2) &&
    s.get (F.ADT_STAT_RATE w.2) == s.get (F.ADT_STAT_RATE p) &&
    laneCount (s.get (F.ADT_STAT_TXLANES w.2)) == laneCount (s.get (F.ADT_STAT_RXLANES p))

/-- A well-formed frame accepted for the hop goes on its way (Table 1-3 steps 12 and 13, R151, R165, R186, R374). A completion's reservation
ends when its LAST frame passes (R161). -/
def State.forward (s : State) (p : Nat) (f : Frame) (from_ : Nat × Nat) : State :=
  let q : QFrame := { queue := none, f := f, at_ := s.now, from_ := some from_, fence := none }
  if s.peerQuar p ∧ f.kind ≠ 2 then (s.release q).bump F.FAB_NOROUTE
  else if hopOnly f then s.release q
  else if f.dst = 63 then
    if s.get F.FAB_TREE_PORTS / 2 ^ p % 2 = 1 then s.sendFabric f (some from_) (some p) else s.release q
  else if f.dst ≠ s.fid then
    if f.ttl ≤ 1 then (s.release q).ttlDrop p f
    else
      let g := { f with ttl := f.ttl - 1 }
      if f.tid = 0 then s.sendFabric g (some from_) none
      else
        match s.ctxOf f.tid with
        | some c => (if f.cls = 3 ∧ (s.tunHop c f.dst c.par.enc).isSome then s.endRes f else s).sendTransit c g (some from_) s.now
        | none => (s.release q).bump F.TUN_TRNOCTX
  else if f.tid = 0 then
    if f.kind = 1 then State.hearAcks f.payload (s.release q) else s.release q
  else
    match s.tun.ctxs.find? fun c => c.par.tid == f.tid && c.isEnd && !c.local_ with
    | some c =>
      if c.state = 1 ∨ c.state = 4 then (s.release q).bump (F.ADT_NOTUN p)
      else (if f.cls = 3 ∧ c.place f.eseq = 0 then s.endRes f else s).arrive p c q
    | none => (s.release q).bump (F.ADT_NOTUN p)

/-- The head of one egress queue of a port leaves, whatever the other queues hold, where its own conditions allow it. -/
def State.sendHead (s : State) (p : Nat) (w : Option Nat) (cls : Nat) (stomp : Bool) : State :=
  match w with
  | none =>
    (match s.fabHead p cls with
      | some q => if s.headOk p q && s.windowOk p q.f then s.sendFab p q stomp else s
      | none => s)
  | some k =>
    match s.head p k with
    | none => s
    | some q =>
      if !(s.headOk p q && s.windowOk p q.f) then s
      else if (s.sch p).grants.contains k && decide (0 < (assoc (s.sch p).ccred k).getD 0) then s.sendCal p k q stomp
      else
        let t := s.retag p
        match (t.sch p).tags.find? fun x => x.q == k && x.elig with
        | some tag => t.sendWfq p tag q stomp
        | none => t

/-- A frame that cuts through leaves by its way at once (R18), out of Dim where the port is in it; not while a commit drains or a rekey is
overdue. -/
def State.cutTurn (s : State) (cls : Nat) (stomp : Bool) (w : Option Nat × Nat) : State :=
  let p := w.2
  if !(s.lit p) ∨ (s.sch p).draining.isSome ∨ (s.link p).key.overdue then s
  else
    let t := s.exitDim p
    let u := t.sendHead p w.1 cls stomp
    if u.outs.length = t.outs.length then s else u

/-- The frame goes on; by a way that it cuts through it does not wait for the scheduler's next turn (R18). -/
def State.route (s : State) (p : Nat) (f : Frame) (from_ : Nat × Nat) : State :=
  ((s.ways p f).filter (s.cuts p f.cls)).foldl (fun t w => t.cutTurn f.cls false w) (s.forward p f from_)

/-- A frame that fails its check after the header: on each way it has cut through, the egress copy ends with a stomped trailer (R18, R152).
`pay` is the payload as the port forwarded it. A way on which it could not leave at once has not begun to send it, and sends nothing. -/
def State.stompForward (s : State) (p : Nat) (f : Frame) (pay : List (BitVec 8)) : State :=
  if s.malformed p f then s
  else
    let g := { f with ttl := if f.dst = 63 then f.ttl else f.ttl - 1, payload := pay.take f.len ++ List.replicate (f.len - pay.length) 0 }
    ((s.ways p f).filter (s.cuts p f.cls)).foldl (fun t w =>
      let q : QFrame := { queue := w.1, f := g, at_ := s.now, from_ := none, fence := none }
      let e := t.enqueue w.2 q
      let u := e.cutTurn g.cls true w
      if u.outs.length = e.outs.length then t else u) s

/-- Once a phase has taken over in both directions, the old keys are erased (R479). -/
def State.closeOld (s : State) (p : Nat) : State :=
  let k := (s.link p).key
  if k.txOn && k.rxOn && s.get (F.ADT_KEYSTAT_RXKPH p) == k.txPhase then
    (((k.keyTx ++ k.keyRx).filter fun e => e.1 != k.txPhase).map (·.2)).foldl (fun t n => t.eraseKey n)
      (s.keyM p fun y => { y with keyTx := y.keyTx.filter fun e => e.1 == k.txPhase, keyRx := y.keyRx.filter fun e => e.1 == k.txPhase })
  else s

/-- A frame is accepted for the hop (R155): E advances, an ACK goes out, the receive key moves on (R170, R172). -/
def State.acceptHop (s : State) (p : Nat) (f : Frame) : State :=
  let k := (s.link p).key
  let ph := f.flags / 2 % 2
  let t := if flagOf f.flags 0 then
      let same := k.rxOn ∧ s.get (F.ADT_KEYSTAT_RXKPH p) = ph
      ((s.put (F.ADT_KEYSTAT_RXKPH p) ph).keyM p fun y => { y with rxOn := true, exRx := (if same then y.exRx else 0) + 1 }).closeOld p
    else s
  ((t.put (F.ADT_LLSTAT_RXHSEQ p) (f.hseq + 1)).put (F.ADT_LLSTAT_NAKOUT p) 0).sendAck p

/-- Checks 3 to 6 of Table 6-4 on the frame expected. -/
def State.takeFrame (s : State) (p : Nat) (hdr : BitVec 128) (body : List (BitVec 8)) (tag : Option (BitVec 128)) (late : Bool) : State :=
  let raw := unpackHeader hdr body
  if late then ((s.bump (F.ADT_HCRCERR p)).stompForward p raw (s.clearBytes p raw body)).nakOnce p
  else
    match s.decrypt p raw hdr body tag with
    | none => ((s.bump (F.ADT_TAGERR p)).stompForward p raw (s.clearBytes p raw body)).nakOnce p
    | some plain =>
      let pay := plain.take raw.len
      let f := { raw with payload := pay }
      let crc := BitVec.ofNat 32 (leNat (plain.drop raw.len))
      let u := unitsOf (20 + f.len + if tag.isSome then 16 else 0)
      if plain.length ≠ raw.len + 4 ∨ (crc ≠ trailerOf pay false ∧ crc ≠ trailerOf pay true) then
        ((s.bump (F.ADT_CRCERR p)).stompForward p f pay).nakOnce p
      else
        let t := s.acceptHop p f
        let drop := fun (x : State) => if f.cls = 3 then x else x.freeRx p f.cls u
        if crc ≠ trailerOf pay false then drop ((t.bump (F.ADT_STOMP p)).stompForward p f pay)
        else if s.malformed p f then drop (t.bump (F.ADT_MALFORM p))
        else
          match t.holdOf p f u with
          | some (x, from_) => (x.route p f from_).flushLoop
          | none => (t.bump (F.ADT_CPLDROP p)).raise (13 + 4 * p) 6 [f.src, f.tid % 256, f.tid / 256, 0]

/-- A frame comes in (R149, R155). -/
def State.hearFrame (s : State) (p : Nat) (hdr : BitVec 128) (body : List (BitVec 8)) (tag : Option (BitVec 128)) (errored : Nat) : State :=
  let e := s.get (F.ADT_LLSTAT_RXHSEQ p)
  let h := (unpackHeader hdr []).hseq
  if !(s.lit p) then s
  else if !(headerOk hdr) ∨ errored = 1 then (s.bump (F.ADT_HCRCERR p)).nakOnce p
  else if h = e then s.takeFrame p hdr body tag (errored != 0)
  else if errored ≠ 0 then (s.bump (F.ADT_HCRCERR p)).nakOnce p
  else if s.bit (F.ADT_LLSTAT_NAKOUT p) then s
  else if (e + 4096 - h) % 4096 ≤ 2048 then s.sendAck p
  else s.sendNak p

/-- FRAME_RECEIVE (R149): header, the bytes after it but the tag, the tag; `errored` is 1 for an errored block in the
header, 2 for one after it. -/
def execFrameReceive (p : Nat) (hdr : BitVec 128) (body : List (BitVec 8)) (tag : Option (BitVec 128)) (errored : Nat) (s : State) :
    Host.Outcome State Fault Refusal :=
  .next (s.whenSerdes fun s => s.hearFrame p hdr body tag errored)

/-! ### Key exchange (R171 to R173) -/

/-- The peer's UID as its capability frame gives it. -/
def State.peerUid (s : State) (p : Nat) : Nat := leNat (slice (s.port p).peerCap 12 8)

/-- The bytes of a KX_HELLO (R171). -/
def helloBytes (rand : BitVec 256) (pub : BitVec 768) (chain : List (BitVec 8)) : List (BitVec 8) :=
  beBytes 32 rand.toNat ++ pubBytes pub ++ chain

/-- The digest both ends sign: the two KX_HELLO messages, the lower UID's first. -/
def State.kxDigest (s : State) (p : Nat) : BitVec 384 :=
  let k := (s.link p).key
  let pub := match (s.slotAt k.eph).key with | some v => Config.ecPublic v.scalar | none => 0
  let own := helloBytes k.ownRand pub Config.deviceChain
  let peer := helloBytes k.peerRand (k.peerPub.getD 0) k.peerChain
  Config.sha384 (if s.uid < s.peerUid p then own ++ peer else peer ++ own)

/-- A key exchange fails at a step (R171): KX reads 4, and class 0 alone is carried. -/
def State.kxFail (s : State) (p step : Nat) : State :=
  let t := ((s.dropLinkKeys p).put (F.ADT_KEYSTAT_KX p) 4).keyM p fun _ => { KeySt.reset with failed := true }
  t.raise (13 + 4 * p) 2 [step, 0, 0, 0]

/-- The transmitter takes the new keys (R171 step 4, R172): with the first ones, all negotiated classes are carried. -/
def State.goTx (s : State) (p : Nat) : State :=
  let k := (s.link p).key
  let t := ((s.keyM p fun y => { y with
    txOn := true, txPhase := k.phase, exTx := 0, since := s.uptime, life := k.lifeNew, step := 0, started := false, rdyGot := false, overdue := false,
    failed := false }).put (F.ADT_KEYSTAT_KX p) 2).put (F.ADT_KEYSTAT_TXKPH p) k.phase
  let t := (t.closeOld p).raise (13 + 4 * p) 1 [k.phase, if k.rekey then 1 else 0, 0, 0]
  if k.rekey then t else (t.creditAll p).refreshPause

/-- Steps 3 and 4 of R171: both directions' keys are derived and installed, REKEYMIN as it stands holds for them (R176), and KEYRDY goes out. -/
def State.installKeys (s : State) (p : Nat) : State :=
  let k := (s.link p).key
  let (t, x, y) := s.linkKeys p k.eph (k.peerPub.getD 0) (s.peerUid p) k.ownRand k.peerRand
  let t := (t.keyM p fun z => { z with step := 4, lifeNew := max 1 (min 10 (s.get (F.ADT_KEYCFG_REKEYMIN p))), keyTx := z.keyTx ++ [(k.phase, x)], keyRx := z.keyRx ++ [(k.phase, y)] }).bump
    (F.ADT_KEYSTAT_KEYS p)
  let t := t.sendLink p { kind := 4, arg := BitVec.ofNat 40 k.phase }
  if k.rdyGot then t.goTx p else t

/-- KX_HELLO of a first exchange (R171 step 2): the chain is checked and KX_FINISH sent. -/
def State.hearHello (s : State) (p : Nat) (rand : BitVec 256) (pub : BitVec 768) (chain : List (BitVec 8)) : State :=
  let s := if s.get (F.ADT_KEYSTAT_KX p) = 4 then s.startKx p false false else s
  if s.get (F.ADT_KEYSTAT_KX p) ≠ 1 ∨ (s.link p).key.step ≠ 1 then s
  else
    match s.verifyChain chain, (s.slotAt 1).key with
    | some leaf, some id =>
      let t := s.keyM p fun k => { k with step := 2, peerRand := rand, peerPub := some pub, peerKey := leaf, peerChain := chain }
      let (x, t) := t.draw
      t.emit (.msg (.port p) (.kxFinish (Config.ecdsaSign id.scalar (t.kxDigest p) x)))
    | _, _ => s.kxFail p 2

/-- KX_HELLO of a rekey (R172, R173): the lower UID's exchange stands where both have started one. -/
def State.hearRekey (s : State) (p : Nat) (rand : BitVec 256) (pub : BitVec 768) (answer : Bool) : State :=
  let kx := s.get (F.ADT_KEYSTAT_KX p)
  let own := kx = 3 ∧ (s.link p).key.started
  let go := fun (t : State) => (t.keyM p fun k => { k with peerRand := rand, peerPub := some pub }).installKeys p
  if own then
    if answer then go s
    else if s.uid < s.peerUid p then s
    else go ((s.eraseKey (s.link p).key.eph).startKx p true true)
  else if kx = 2 ∧ !answer then go (s.startKx p true true)
  else s

/-- KEYX_RECEIVE (R171, R172, R173): a whole KX_HELLO or KX_FINISH. -/
def execKeyxReceive (p : Nat) (m : Msg) (s : State) : Host.Outcome State Fault Refusal :=
  .next (s.whenSerdes fun s => (
    if !(s.lit p) ∨ !(s.enc p) ∨ s.quarantined then s
    else s.fromPeer p fun s =>
      match m with
      | .kxHello rand pub false _ chain => s.hearHello p rand pub chain
      | .kxHello rand pub true answer _ => s.hearRekey p rand pub answer
      | .kxFinish sig =>
        if s.get (F.ADT_KEYSTAT_KX p) ≠ 1 ∨ (s.link p).key.step ≠ 2 then s
        else if Config.ecdsaVerify (s.link p).key.peerKey (s.kxDigest p) sig then s.installKeys p
        else s.kxFail p 3
      | _ => s))

/-- A KEYRDY word acts (R171 step 4, R172). -/
def State.keyrdyWord (s : State) (p : Nat) (w : LinkWord) : State :=
  let k := (s.link p).key
  if !(s.enc p) ∨ k.step = 0 ∨ w.arg.toNat % 2 ≠ k.phase then s
  else if k.step = 4 then s.goTx p
  else s.keyM p fun y => { y with rdyGot := true }

/-- KEYRDY_RECEIVE (R171 step 4, R172). -/
def execKeyrdyReceive (p : Nat) (w : LinkWord) (chk : BitVec 8) (s : State) : Host.Outcome State Fault Refusal :=
  .next (s.whenSerdes fun s => (s.linkWord p w chk 4 fun t => t.keyrdyWord p w))

/-- KEY_EXCHANGE_TIMEOUT (R171): the exchange is not complete 15 ms after LIT. -/
def execKeyExchangeTimeout (p : Nat) (s : State) : Host.Outcome State Fault Refusal :=
  .next (s.whenSerdes fun s => (if s.lit p ∧ s.get (F.ADT_KEYSTAT_KX p) = 1 then s.kxFail p 5 else s))

/-- KEY_EXCHANGE_RETRY (R171): the exchange starts again. -/
def execKeyExchangeRetry (p : Nat) (s : State) : Host.Outcome State Fault Refusal :=
  .next (s.whenSerdes fun s => (if s.dutyRuns (6 + p) ∧ s.lit p ∧ s.get (F.ADT_KEYSTAT_KX p) = 4 then s.startKx p false false else s))

/-- Nanoseconds of a key's life left at which a rekey starts. -/
def rekeyEarly : Nat := 30000000000

/-- The key's age in ns, and its longest life. -/
def State.keyAge (s : State) (p : Nat) : Nat := s.uptime - (s.link p).key.since
def State.keyLife (s : State) (p : Nat) : Nat := 60000000000 * (s.link p).key.life

/-- REKEY_START (R172): at the key's age, or at its frame count. -/
def execRekeyStart (p : Nat) (s : State) : Host.Outcome State Fault Refusal :=
  .next (s.whenSerdes fun s => (
    if s.dutyRuns (6 + p) ∧ s.lit p ∧ s.enc p ∧ s.get (F.ADT_KEYSTAT_KX p) = 2 ∧ (s.keyLife p ≤ s.keyAge p + rekeyEarly ∨ 2 ^ 31 ≤ (s.link p).key.exTx) then
      s.startKx p true false
    else s))

/-- REKEY_OVERDUE (R172): the key reaches the end of its life, or 2^32 frames, before the switch. -/
def execRekeyOverdue (p : Nat) (s : State) : Host.Outcome State Fault Refusal :=
  .next (s.whenSerdes fun s => (
    if s.lit p ∧ s.enc p ∧ (s.keyLife p ≤ s.keyAge p ∨ 2 ^ 32 ≤ (s.link p).key.exTx) then s.overdue p else s))

end Sys2Proof.Machine
end

