-- ==== Sys2Proof/Machine/Image.lean ====
section
/-! DEFINITION. The boot directory and the check of firmware images (R70 to R73). -/

namespace Sys2Proof.Machine

/-! ### The boot directory (R70, Table 3-3) -/

/-- Whether a directory copy is valid. -/
def dirOk (d : List (BitVec 8)) : Bool :=
  d.length == 32 && leNat (slice d 0 4) == 0x44425A44 && (crc32 (d.take 28)).toNat == leNat (slice d 28 4)

/-- The copy the boot ROM uses: the valid one with the higher SEQ, the first where they are equal. -/
def pickDir (d0 d1 : List (BitVec 8)) : Option (List (BitVec 8)) :=
  match dirOk d0, dirOk d1 with
  | true, true => some (if leNat (slice d0 4 4) < leNat (slice d1 4 4) then d1 else d0)
  | true, false => some d0
  | false, true => some d1
  | false, false => none

/-- The slot PREF names: 0 A, 1 B. -/
def dirPref (d : List (BitVec 8)) : Nat := if byteAt d 0x10 = 1 then 1 else 0

/-- The flash offset of a slot's image header: A_OFF or B_OFF. -/
def dirOff (d : List (BitVec 8)) (k : Nat) : Nat := leNat (slice d (if k = 0 then 0x08 else 0x0C) 4)

/-- What the device keeps of the boot directory (R70, R401): the copy with the lower SEQ, or the one that is not valid, is rewritten next. -/
def bootDirOf (f : Flash) (d0 d1 d : List (BitVec 8)) : BootDir :=
  { aOff := dirOff d 0, bOff := dirOff d 1, seq := leNat (slice d 4 4), size := f.size,
    next := if dirOk d0 && (!(dirOk d1) || !(decide (leNat (slice d0 4 4) < leNat (slice d1 4 4)))) then 0x1000 else 0 }

/-- The flash offset of a slot. -/
def BootDir.off (d : BootDir) (k : Nat) : Nat := if k = 0 then d.aOff else d.bOff

/-- The bytes a slot has: up to the other slot's offset or the end of the flash, whichever comes first (R401). -/
def BootDir.room (d : BootDir) (k : Nat) : Nat :=
  (if d.off k < d.off (1 - k) then min (d.off (1 - k)) d.size else d.size) - d.off k

/-- The directory copy that names a slot as the preferred one (Table 3-3), with the next SEQ. -/
def BootDir.copy (d : BootDir) (k : Nat) : List (BitVec 8) :=
  let b := leBytes 4 0x44425A44 ++ leBytes 4 (d.seq + 1) ++ leBytes 4 d.aOff ++ leBytes 4 d.bOff ++ leBytes 1 k ++ leBytes 11 0
  b ++ leBytes 4 (crc32 b).toNat

/-- The fastest read mode of those a flash advertises (R69 step 3); 1-1-1 where it advertises none of them. -/
def flashMode (modes : Nat) : Nat :=
  if modes / 4 % 2 = 1 ∧ modes / 8 % 2 = 1 then 3 else if modes / 2 % 2 = 1 then 2 else if modes % 2 = 1 then 1 else 0

/-! ### Images (R71, R72, Table 3-4) -/

/-- One segment descriptor: DEST, OFFSET, LENGTH, FLAGS. -/
structure Segment where
  dest : Nat
  off : Nat
  len : Nat
  flags : Nat
deriving DecidableEq, Repr

/-- Segment `k` of a header. -/
def segmentAt (h : List (BitVec 8)) (k : Nat) : Segment :=
  let f := fun (i : Nat) => leNat (slice h (0x20 + 16 * k + 4 * i) 4)
  { dest := f 0, off := f 1, len := f 2, flags := f 3 }

/-- Whether a segment lies within its target; a user Hewer's excludes what belongs to the monitor (R450). -/
def Segment.fits (g : Segment) : Bool :=
  let n := g.dest / 2 ^ 23 % 32
  let o := g.dest % 2 ^ 23
  match g.dest / 2 ^ 28 with
  | 0 => decide (n < 24) && decide (o + g.len ≤ 0x10000) && (decide (n < 20) || decide (0x1000 ≤ o))
  | 1 => decide (n < 24) && decide (o + g.len ≤ if n < 20 then 0x10000 else 0xF000)
  | 2 => decide (g.dest % 2 ^ 28 + g.len ≤ 0x2000000)
  | 3 => decide (g.dest % 2 ^ 28 + g.len ≤ 2 ^ 32)
  | _ => false

/-- PAYLEN of a header. -/
def payLen (h : List (BitVec 8)) : Nat := leNat (slice h 0x18 4)

/-- ENTRY of a header: where HEW0 starts. -/
def entryOf (h : List (BitVec 8)) : Nat := leNat (slice h 0x14 4)

/-- The segments an image uses. -/
def segments (h : List (BitVec 8)) : List Segment := (List.range (leNat (slice h 0x10 4))).map (segmentAt h)

/-- The form R72 asks of a header: MAGIC, HDRLEN, NSEG, reserved fields, PAYLEN within its bound, segments. -/
def headerFits (h : List (BitVec 8)) (bound : Nat) : Bool :=
  leNat (slice h 0 4) == 0x4D495A44 && leNat (slice h 4 4) == 512 && decide (byteAt h 0x0D < 8) && leNat (slice h 0x0E 2) == 0 &&
    decide (1 ≤ leNat (slice h 0x10 4)) && decide (leNat (slice h 0x10 4) ≤ 16) && decide (payLen h ≤ bound) &&
    leNat (slice h 0x1C 4) == 0 && leNat (slice h 0x180 32) == 0 &&
    (segments h).all fun g => decide (g.off + g.len ≤ payLen h) && g.fits

/-- What the signature covers: header bytes 0x000 to 0x19F and the payload. -/
def signedPart (img : List (BitVec 8)) : List (BitVec 8) := img.take 0x1A0 ++ slice img 512 (payLen img)

/-- The firmware-key digest of the root in use (Table 19-1). -/
def State.fwDigest (s : State) : BitVec 384 :=
  match s.lcs with | 0 => Config.testFwKeyDigest | 3 => s.otpDigest 2 | _ => s.otpDigest 0

/-- IMAGE_CHECK (R72, R78, R473): whether the boot ROM accepts an image whose payload may have `bound` bytes. -/
def State.imageOk (s : State) (img : List (BitVec 8)) (bound : Nat) : Bool :=
  decide (512 ≤ img.length) && headerFits (img.take 512) bound && (slice img 512 (payLen img)).length == payLen img &&
    byteAt img 0x0D / 2 ^ s.role % 2 == 1 && !(s.keys.bad.contains 0) && !(s.keys.bad.contains 1) && decide (s.lcs < 4) &&
    Config.sha384 (slice img 0x120 96) == s.fwDigest &&
    Config.ecdsaVerify (BitVec.ofNat 768 (beNat (slice img 0x120 96))) (Config.sha384 (signedPart img)) (BitVec.ofNat 768 (beNat (slice img 0x1A0 96))) &&
    ((s.lcs != 1 && s.lcs != 2) || decide (s.get F.GLB_BOOT_SVNCTR ≤ byteAt img 0x0C))

/-- Payload bounds of an image from flash and of a download (Table 3-4). -/
def flashBound : Nat := 0x2000000
def downloadBound : Nat := 8388096

/-! ### Slots and the try record (R73) -/

/-- Whether the try record has a slot failed. -/
def State.slotFailed (s : State) (k : Nat) : Bool := if k = 0 then s.bit F.GLB_BOOT_AFAIL else s.bit F.GLB_BOOT_BFAIL

/-- Mark a slot failed. -/
def State.markFailed (s : State) (k : Nat) : State := if k = 0 then s.put F.GLB_BOOT_AFAIL 1 else s.put F.GLB_BOOT_BFAIL 1

/-- SLOT_SELECT (R73). -/
def State.pickSlot (s : State) (pref : Nat) : Option Nat :=
  match s.slotFailed 0, s.slotFailed 1 with
  | false, false => some pref
  | true, false => some 1
  | false, true => some 0
  | true, true => none

/-- The boot ROM tries slots until one holds an image it accepts: the slot, and the try record. -/
def State.trySlots (s : State) (pref : Nat) (ok : Nat → Bool) : State × Option Nat :=
  match s.pickSlot pref with
  | none => (s, none)
  | some k =>
    if ok k then (s, some k)
    else
      let t := s.markFailed k
      match t.pickSlot pref with
      | none => (t, none)
      | some j => if ok j then (t, some j) else (t.markFailed j, none)

/-- A segment is copied to its target (R69 step 7); FLAGS bit 0 adds copies for the spares. -/
def Segment.copies (g : Segment) (pay : List (BitVec 8)) : List Out :=
  let bytes := slice pay g.off g.len
  let n := g.dest / 2 ^ 23 % 32
  let o := g.dest % 2 ^ 23
  let hs := if g.flags % 2 = 1 then [n, 18, 19] else [n]
  match g.dest / 2 ^ 28 with
  | 0 => hs.map fun m => .hewerMem m o bytes
  | 1 => hs.map fun m => .hewerMem m (0x10000 + o) bytes
  | 2 => [.hewerMem 0 (0x10000000 + g.dest % 2 ^ 28) bytes]
  | _ => [.dram (g.dest % 2 ^ 28) bytes]

end Sys2Proof.Machine
end

