-- ==== Sys2Proof/Machine/Usb.lean ====
section
/-! DEFINITION. The USB 2.0 hub and Yalcel's firmware sessions (chapter 15). Downstream ports are 1 to 7; Yalcel is behind
port 7. -/

namespace Sys2Proof.Machine

/-! ### The choice of the upstream port (R390, R391) -/

/-- Change the hub's internal state. -/
def State.usbM (s : State) (g : UsbSt → UsbSt) : State := { s with usb := g s.usb }

/-- Whether the hub or the ROM's Yalcel may attach: dock role, firmware ready or the boot ROM waiting for a download
(R388, R402). -/
def State.usbOn (s : State) : Bool := s.role == 1 && (s.get F.GLB_BOOT_STAT == 3 || s.get F.GLB_BOOT_STAT == 4)

/-- ROM mode (R402). -/
def State.romMode (s : State) : Bool := s.role == 1 && s.get F.GLB_BOOT_STAT == 4

/-- Whether a PD port reports attach. -/
def State.pdAttached (s : State) (p : Nat) : Bool := s.get (F.PD_STAT_STATE p) == 2 || s.get (F.PD_STAT_STATE p) == 3

/-- Whether a port offers the hub its pair: attached, and since its last PD hard reset attached anew (R403). -/
def State.usbHas (s : State) (p : Nat) : Bool := s.pdAttached p && !(s.usb.gone.contains p)

/-- A candidate of AUTO (R390): attached, the dock UFP. -/
def State.usbCand (s : State) (p : Nat) : Bool := decide (p < 2) && s.usbHas p && !(s.bit (F.PD_STAT_DR p))

/-- AUTO's choice (R390), 3 none: the candidate it has for as long as it stays one, otherwise the other. -/
def State.usbAuto (s : State) : Nat :=
  if s.usbCand s.usb.cand then s.usb.cand else if s.usbCand 0 then 0 else if s.usbCand 1 then 1 else 3

/-- The upstream port now wanted, 3 none. -/
def State.usbWant (s : State) : Nat :=
  if !s.usbOn ∨ !(s.bit F.USB_CTRL_EN) then 3
  else if s.get F.USB_CTRL_UPSEL < 2 ∧ !s.romMode then (if s.usbHas (s.get F.USB_CTRL_UPSEL) then s.get F.USB_CTRL_UPSEL else 3)
  else s.usbAuto

/-- USB_CTLABORT counts an abandoned control transfer, with its event at most once per 1 ms (R399, R404). -/
def State.ctlAbort (s : State) (part : Option Nat) : State :=
  match part with
  | none => s
  | some b =>
    let t := s.bump F.USB_CTLABORT
    if t.due t.usb.abortAt 1000000 then (t.usbM fun u => { u with abortAt := some t.uptime }).raise 58 6 [b] else t

/-- A SETUP arrives at the hub (0) or Yalcel (1), or the device loses its host: a transfer that has not completed is abandoned (R399). -/
def State.usbSetup (s : State) (dev : Nat) : State :=
  match s.usb.parts.getD dev none with
  | none => s
  | some b => (s.ctlAbort (some b)).usbM fun u => { u with parts := u.parts.set dev none }

/-- A control transfer that its status stage has not ended. -/
def State.usbPart (s : State) (dev b : Nat) : State := s.usbM fun u => { u with parts := u.parts.set dev (some b) }

/-- A Yalcel request is refused (R400): STALL, count, event at most once per 1 ms. -/
def State.yalRefuse (s : State) (b : Nat) : State :=
  let t := (s.bump F.USB_YALREJ).emit (.usbStall 1)
  if t.due t.usb.rejAt 1000000 then (t.usbM fun u => { u with rejAt := some t.uptime }).raise 58 7 [b] else t

/-- A wake reason at a suspended hub (R397): it stays pending until delivered. -/
def State.usbReason (s : State) (r port : Nat) : State :=
  if s.get F.USB_STAT_USTATE = 5 ∧ !(s.bit F.USB_WAKE_PENDING) then
    ((s.put F.USB_WAKE_REASON r).put F.USB_WAKE_PORT port).put F.USB_WAKE_PENDING 1
  else s

/-- Whether the hub (0) or Yalcel (1) answers the host: Yalcel behind a powered port 7, or alone in ROM mode. -/
def State.usbAnswers (s : State) (dev : Nat) : Bool :=
  s.usbOn && decide (2 ≤ s.get F.USB_STAT_USTATE) && decide (s.get F.USB_STAT_USTATE ≤ 4) &&
    (if dev = 0 then !s.romMode else s.romMode || s.bit (F.USB_PORT_EN 7))

/-- EP2's status report (R398) goes out where one waits and the host polls a configured Yalcel: FWSTATE, FWERR, the wake reason `r`. -/
def State.yalReport (s : State) (r : Nat) : State :=
  if s.usb.report && s.usbAnswers 1 && s.bit F.USB_STAT_YCONF then
    (s.usbM fun u => { u with report := false }).emit
      (.usbData 1 (leBytes 1 (s.get F.USB_YALSTAT_FWSTATE) ++ leBytes 1 (s.get F.USB_YALSTAT_FWERR) ++ leBytes 1 r ++ leBytes 5 0))
  else s

/-- FWSTATE and FWERR change (R401): a status change of Yalcel. -/
def State.fwState (s : State) (st err : Nat) : State :=
  ((((s.put F.USB_YALSTAT_FWSTATE st).put F.USB_YALSTAT_FWERR err).usbM fun u => { u with report := true }).usbReason 4 7).yalReport 0

/-- A session ends (R401). -/
def State.fwEnd (s : State) (st err : Nat) : State :=
  match s.usb.session with
  | none => s
  | some x => ((s.fwState st err).usbM fun u => { u with session := none }).raise 59 1 [st, err, x.slot]

/-- One downstream port loses its power (R391, R393); of its change bits the hub class keeps C_PORT_OVER_CURRENT. -/
def State.usbPortOff (s : State) (k : Nat) : State :=
  let t := s.wr (A.USB_PORT k) (s.rd (A.USB_PORT k) &&& 0x8#32)
  let t := t.usbM fun u => { u with change := u.change.modify (k - 1) fun c => c / 8 % 2 * 8, test := u.test.set (k - 1) 0, tts := u.tts.set (k - 1) ([], []), selSusp := u.selSusp.filter (· != k) }
  if k = 7 then (t.put F.USB_STAT_YADDR 0).put F.USB_STAT_YCONF 0 else t.emit (.pin (.usbPpe k) false)

/-- The hub and Yalcel at address 0 with every port off and every TT empty (R391, R395); transfers are abandoned (R399) and a session
ends (R401). -/
def State.usbClear (s : State) (part : Option Nat) : State :=
  let t := [1, 2, 3, 4, 5, 6, 7].foldl (fun (u : State) k => u.usbPortOff k) (((s.ctlAbort part).usbSetup 0).usbSetup 1)
  let t := (((t.put F.USB_STAT_ADDR 0).put F.USB_STAT_RWEN 0).put F.USB_STAT_MTT 0).usbM fun u =>
    { u with drive := false, wakeEn := List.replicate 7 0, change := List.replicate 7 0 }
  t.fwEnd 4 4

/-- A wake in progress loses to a reset or disconnect (R397): the reason stays in USB_WAKE, undelivered. -/
def State.wakeLost (s : State) : State :=
  if s.bit F.USB_WAKE_PENDING then
    let t := (s.put F.USB_WAKE_PENDING 0).put F.USB_WAKE_OUTCOME 2
    t.raise 58 4 [2, t.get F.USB_WAKE_REASON, t.get F.USB_WAKE_PORT]
  else s

/-- A change of upstream begins (R391); `part` is a control transfer it abandons that no command began. -/
def State.usbSwitch (s : State) (w : Nat) (part : Option Nat) : State :=
  let old := s.get F.USB_STAT_UPSRC
  let t := (((s.wakeLost.put F.USB_STAT_USTATE 6).put F.USB_STAT_HS 0).usbClear part).usbM fun u => { u with to_ := w, fresh := true }
  if old = 3 then t else (t.emit (.usbPull old false)).raise 58 1 [old, w]

/-- The upstream choice is looked at again (R390): a change begins, or waits for the running one to end. -/
def State.usbMove (s : State) (part : Option Nat) : State :=
  let s := s.usbM fun u => { u with cand := s.usbAuto }
  if s.role ≠ 1 ∨ s.get F.USB_STAT_USTATE = 6 ∨ s.usbWant = s.get F.USB_STAT_UPSRC then s else s.usbSwitch s.usbWant part

def State.usbFollow (s : State) : State := s.usbMove none

/-- The selected Adit port has a PD hard reset (R391, R403): a disconnect, until the port attaches again. -/
def State.usbHardReset (s : State) (p : Nat) : State :=
  let sel := if s.get F.USB_STAT_USTATE = 6 then s.usb.to_ else s.get F.USB_STAT_UPSRC
  if s.role = 1 ∧ sel = p then (s.usbM fun u => { u with gone := p :: u.gone.filter (· != p) }).usbFollow else s

/-- An Adit port attaches, or has its VBUS again after a hard reset (R403). -/
def State.usbBack (s : State) (p : Nat) : State := (s.usbM fun u => { u with gone := u.gone.filter (· != p) }).usbFollow

/-- UPSTREAM_SWITCH (R391): the hub detaches for a change of upstream; `part` is a control transfer it abandons that no
command began. -/
def execUpstreamSwitch (part : Option Nat) (s : State) : Host.Outcome State Fault Refusal :=
  .next (s.whenUp fun s => s.usbMove part)

/-- UPSTREAM_SWITCH_COMPLETE (R391): 50 ms later the mux joins the new pair; a change asked for meanwhile starts. -/
def execUpstreamSwitchComplete (s : State) : Host.Outcome State Fault Refusal :=
  .next (s.whenUp fun s => (if s.get F.USB_STAT_USTATE ≠ 6 then s
    else
      let t := s.put F.USB_STAT_UPSRC s.usb.to_
      let t := if s.usb.to_ = 3 then t.put F.USB_STAT_USTATE 0 else (t.put F.USB_STAT_USTATE 1).emit (.usbPull s.usb.to_ true)
      t.usbFollow))

/-! ### Reset, suspend and wake (R395 to R397) -/

/-- USB_BUS_RESET (R395): an upstream reset, the host able to chirp or not; or (`disc`) a disconnect. `part` is a control
transfer it abandons that no command began. -/
def execUsbBusReset (disc chirp : Bool) (part : Option Nat) (s : State) : Host.Outcome State Fault Refusal :=
  .next (s.whenUp fun s => (if !s.usbOn ∨ s.get F.USB_STAT_USTATE = 0 ∨ s.get F.USB_STAT_USTATE = 6 then s
    else
      let t := (s.wakeLost.put F.USB_STAT_USTATE 2).usbClear part
      if disc then ((t.put F.USB_STAT_HS 0).usbM fun u => { u with fresh := true }).raise 58 1 [t.get F.USB_STAT_UPSRC, 3]
      else
        let hs := chirp && !(t.bit F.USB_CTRL_HSDIS)
        let t := t.putBit F.USB_STAT_HS hs
        let t := if t.usb.fresh then
            (t.usbM fun u => { u with fresh := false }).raise 58 0 [t.get F.USB_STAT_UPSRC, if hs then 1 else 0]
          else t
        t.raise 58 2 []))

/-- USB_SUSPEND (R396): 3 ms without activity suspend the hub and every enabled port beneath. -/
def execUsbSuspend (s : State) : Host.Outcome State Fault Refusal :=
  .next (s.whenUp fun s => (let st := s.get F.USB_STAT_USTATE
    if st = 0 ∨ 5 ≤ st then s
    else
      let ports := [1, 2, 3, 4, 5, 6, 7]
      let t := s.usbM fun u => { u with prev := st, drive := false, selSusp := ports.filter fun k => s.bit (F.USB_PORT_SUSP k) }
      let t := (ports.filter fun k => s.bit (F.USB_PORT_EN k)).foldl (fun u k => u.put (F.USB_PORT_SUSP k) 1) t
      (t.put F.USB_STAT_USTATE 5).raise 58 3 []))

/-- The hub resumes: every port that the host had not suspended itself resumes with it (R396), and the pending reason is delivered once (R397). -/
def State.usbDeliver (s : State) (outcome : Nat) : State :=
  let t := (s.put F.USB_STAT_USTATE s.usb.prev).usbM fun u => { u with drive := false, selSusp := [] }
  let t := ([1, 2, 3, 4, 5, 6, 7].filter fun k => !(s.usb.selSusp.contains k)).foldl (fun u k => u.put (F.USB_PORT_SUSP k) 0) t
  if t.bit F.USB_WAKE_PENDING then
    let r := t.get F.USB_WAKE_REASON
    let t := (t.put F.USB_WAKE_PENDING 0).put F.USB_WAKE_OUTCOME outcome
    let t := if r = 4 then t.yalReport r
      else t.emit (.usbData 0 (leBytes 1 (2 ^ t.get F.USB_WAKE_PORT % 256)))
    t.raise 58 4 [outcome, r, t.get F.USB_WAKE_PORT]
  else t.raise 58 4 [outcome, 0, 0]

/-- USB_RESUME (R397): the host resumes. `met`: its K began before or during the hub's own. -/
def execUsbResume (met : Bool) (s : State) : Host.Outcome State Fault Refusal :=
  .next (s.whenUp fun s => (if s.get F.USB_STAT_USTATE = 5 then s.usbDeliver (if s.usb.drive && !met then 0 else 1) else s))

/-- USB_REMOTE_WAKE (R397): 5 ms of suspend, a pending reason and the host's permission drive K upstream. -/
def execUsbRemoteWake (s : State) : Host.Outcome State Fault Refusal :=
  .next (s.whenUp fun s => (if s.get F.USB_STAT_USTATE = 5 ∧ s.bit F.USB_STAT_RWEN ∧ s.bit F.USB_WAKE_PENDING ∧ !s.usb.drive then
      (s.usbM fun u => { u with drive := true }).emit .usbK
    else s))

/-! ### Downstream ports (R393, R397) -/

/-- Set a change bit of a port: 0 connection, 1 enable, 2 suspend, 3 over-current, 4 reset. -/
def State.usbChange (s : State) (k b : Nat) : State :=
  s.usbM fun u => { u with change := u.change.modify (k - 1) fun c => c ||| 2 ^ b }

/-- Whether the host has enabled wake for a port's change: 0 connect, 1 disconnect, 2 over-current. -/
def State.usbWakes (s : State) (k b : Nat) : Bool := s.usb.wakeEn.getD (k - 1) 0 / 2 ^ b % 2 == 1

/-- A powered port shows the device there. -/
def State.usbShow (s : State) (k : Nat) : State :=
  match (if k = 7 then (if s.bit F.USB_CTRL_YALEN then some 2 else none) else s.usb.devs.getD (k - 1) none) with
  | some sp => (((s.put (F.USB_PORT_CONN k) 1).put (F.USB_PORT_SPEED k) sp).usbChange k 0)
  | none => s

/-- Port 7 follows USB_CTRL.YALEN (R393): Yalcel connects, or disconnects and its session ends (R401). -/
def State.yalFollow (s : State) : State :=
  let want := s.bit (F.USB_PORT_PWR 7) && s.bit F.USB_CTRL_YALEN
  if want = s.bit (F.USB_PORT_CONN 7) then s
  else if want then s.usbShow 7
  else
    let t := (((s.put (F.USB_PORT_CONN 7) 0).put (F.USB_PORT_EN 7) 0).put (F.USB_PORT_SUSP 7) 0).put (F.USB_PORT_SPEED 7) 0
    (((t.put F.USB_STAT_YADDR 0).put F.USB_STAT_YCONF 0).usbChange 7 0).fwEnd 4 4

/-- USB_OVER_CURRENT (R393): USB_OC_N[k] has been low for 1 ms, or has risen, which the hub class shows as a change too. -/
def execUsbOverCurrent (k : Nat) (low : Bool) (s : State) : Host.Outcome State Fault Refusal :=
  .next (s.whenUp fun s => (if k = 0 ∨ 6 < k ∨ s.role ≠ 1 then s
    else
      let t := s.usbM fun u => { u with ocLow := u.ocLow.set (k - 1) low }
      if !low then (if t.bit (F.USB_PORT_OC k) then (t.put (F.USB_PORT_OC k) 0).usbChange k 3 else t)
      else
        let t := ((t.usbPortOff k).put (F.USB_PORT_OC k) 1).usbChange k 3
        let t := (t.bump F.USB_OCCNT).raise 58 5 [k]
        if t.usbWakes k 2 then t.usbReason 3 k else t))

/-- DOWNSTREAM_PORT_CHANGE (R393, R397): a device connects (0), disconnects (1) or signals resume (2), or the hub class finds a port
error (3). -/
def execDownstreamPortChange (k kind speed : Nat) (s : State) : Host.Outcome State Fault Refusal :=
  .next (s.whenUp fun s => (if k = 0 ∨ 6 < k ∨ s.role ≠ 1 then s
    else
      let pwr := s.bit (F.USB_PORT_PWR k)
      match kind with
      | 0 =>
        let t := s.usbM fun u => { u with devs := u.devs.set (k - 1) (some (speed % 3)) }
        if pwr then (if t.usbWakes k 0 then (t.usbShow k).usbReason 2 k else t.usbShow k) else t
      | 1 =>
        let t := s.usbM fun u => { u with devs := u.devs.set (k - 1) none }
        if pwr ∧ s.bit (F.USB_PORT_CONN k) then
          let t := (((t.put (F.USB_PORT_CONN k) 0).put (F.USB_PORT_EN k) 0).put (F.USB_PORT_SUSP k) 0).put (F.USB_PORT_SPEED k) 0
          if t.usbWakes k 1 then (t.usbChange k 0).usbReason 2 k else t.usbChange k 0
        else t
      | 2 =>
        if s.bit (F.USB_PORT_EN k) then
          (if s.get F.USB_STAT_USTATE = 5 then
            (if s.usb.selSusp.contains k then (s.usbM fun u => { u with selSusp := u.selSusp.filter (· != k) }).usbChange k 2 else s).usbReason 1 k
          else if s.bit (F.USB_PORT_SUSP k) then (s.put (F.USB_PORT_SUSP k) 0).usbChange k 2 else s)
        else s
      | _ => if s.bit (F.USB_PORT_EN k) then ((s.put (F.USB_PORT_EN k) 0).put (F.USB_PORT_SUSP k) 0).usbChange k 1 else s))

/-- wPortStatus and wPortChange of a port, as the hub class lays them out. -/
def State.usbPortStatus (s : State) (k : Nat) : List (BitVec 8) :=
  let b := fun (f : Fld) (n : Nat) => if s.bit f then 2 ^ n else 0
  leBytes 2 (b (F.USB_PORT_CONN k) 0 + b (F.USB_PORT_EN k) 1 + b (F.USB_PORT_SUSP k) 2 + b (F.USB_PORT_OC k) 3 + b (F.USB_PORT_PWR k) 8 +
    (if s.bit (F.USB_PORT_CONN k) then (match s.get (F.USB_PORT_SPEED k) with | 0 => 512 | 2 => 1024 | _ => 0) else 0) + b (F.USB_PORT_TEST k) 11) ++
  leBytes 2 (s.usb.change.getD (k - 1) 0)

/-- The hub descriptor (R392): 7 ports, individual power and over-current, compound, TT think time 8, 20 ms, port 7 fixed. -/
def hubDescriptor : List (BitVec 8) := leBytes 1 9 ++ leBytes 1 0x29 ++ leBytes 1 7 ++ leBytes 2 0x000D ++ leBytes 1 10 ++ leBytes 1 0 ++ leBytes 1 0x80 ++ leBytes 1 0xFF

/-- A hub-class request carried out: none where it STALLs. -/
def State.hubRequest (s : State) : HubReq → Option State
  | .setPort f k sel =>
    if k = 0 ∨ 7 < k then none
    else match f with
    | 8 =>
      if s.usb.ocLow.getD (k - 1) false then some s
      else if s.bit (F.USB_PORT_PWR k) then some s
      else
        let t := (s.put (F.USB_PORT_PWR k) 1).put (F.USB_PORT_OC k) 0
        some ((if k = 7 then t else t.emit (.pin (.usbPpe k) true)).usbShow k)
    | 4 =>
      if s.bit (F.USB_PORT_CONN k) then
        let t := ((s.put (F.USB_PORT_EN k) 1).put (F.USB_PORT_SUSP k) 0).usbChange k 4
        some (if k = 7 then ((t.put F.USB_STAT_YADDR 0).put F.USB_STAT_YCONF 0).fwEnd 4 4 else t)
      else some s
    | 2 => some (if s.bit (F.USB_PORT_EN k) then s.put (F.USB_PORT_SUSP k) 1 else s)
    | 21 => if 1 ≤ sel ∧ sel ≤ 5 then some (((s.put (F.USB_PORT_TEST k) 1).usbM fun u => { u with test := u.test.set (k - 1) sel }).emit (.usbTest k sel)) else none
    | 27 => some (s.usbM fun u => { u with wakeEn := u.wakeEn.set (k - 1) (sel % 8) })
    | _ => none
  | .clearPort f k =>
    if k = 0 ∨ 7 < k then none
    else match f with
    | 8 => some (if k = 7 then (s.usbPortOff k).fwEnd 4 4 else s.usbPortOff k)
    | 1 => some ((s.put (F.USB_PORT_EN k) 0).put (F.USB_PORT_SUSP k) 0)
    | 2 => some (if s.bit (F.USB_PORT_SUSP k) then (s.put (F.USB_PORT_SUSP k) 0).usbChange k 2 else s)
    | 16 | 17 | 18 | 19 | 20 => some (s.usbM fun u => { u with change := u.change.modify (k - 1) fun c => c - c / 2 ^ (f - 16) % 2 * 2 ^ (f - 16) })
    | _ => none
  | .portStatus k => if k = 0 ∨ 7 < k then none else some (s.emit (.usbData 0 (s.usbPortStatus k)))
  | .hubStatus => some (s.emit (.usbData 0 (leBytes 4 0)))
  | .descriptor => some (s.emit (.usbData 0 hubDescriptor))
  | .clearTt k ep => if k = 0 ∨ 7 < k then none else
    some (s.usbM fun u => { u with tts := u.tts.modify ((if s.bit F.USB_STAT_MTT then k else 1) - 1) fun x => (x.1, x.2.erase ep) })
  | .resetTt k => if k = 0 ∨ 7 < k then none else
    some (s.usbM fun u => { u with tts := u.tts.set ((if s.bit F.USB_STAT_MTT then k else 1) - 1) ([], []) })
  | .ttState => none
  | .stopTt => none

/-- HUB_CLASS_REQUEST (R389, R393, R394), to a configured hub. -/
def execHubClassRequest (r : HubReq) (s : State) : Host.Outcome State Fault Refusal :=
  .next (s.whenUp fun s => (if s.role = 1 ∧ s.get F.USB_STAT_USTATE = 4 then
      (match (s.usbSetup 0).hubRequest r with | some t => t | none => (s.usbSetup 0).emit (.usbStall 0))
    else s))

/-- TT_SPLIT_TRANSACTION (R394): kind 0 bulk or control, 1 interrupt, 2 isochronous, of the device address and endpoint `ep`; a start-split
takes a buffer, its complete-split frees it. -/
def execTtSplitTransaction (k : Nat) (x : Split) (start : Bool) (s : State) : Host.Outcome State Fault Refusal :=
  let ep := x.ep
  .next (s.whenUp fun s => (if k = 0 ∨ 7 < k ∨ s.role ≠ 1 ∨ s.get F.USB_STAT_USTATE ≠ 4 then s
    else
      let i := (if s.bit F.USB_STAT_MTT then k else 1) - 1
      let (per, non) := s.usb.tts.getD i ([], [])
      let put := fun (v : List Nat × List Nat) => s.usbM fun u => { u with tts := u.tts.set i v }
      if x.kind = 0 then
        if start then (if non.length < 4 then (put (per, non ++ [ep])).emit (.usbHand 0 0) else (s.bump F.USB_TTOVF).emit (.usbHand 0 1))
        else put (per, non.erase ep)
      else if start then (if per.length < 16 then put (per ++ [ep], non) else s.bump F.USB_TTOVF)
      else if per.contains ep then put (per.erase ep, non)
      else s.emit (.usbHand 0 3)))

/-- The device descriptor of the hub (0) or Yalcel (1) (R392, R398). -/
def State.usbDevice (s : State) (dev : Nat) : List (BitVec 8) :=
  let pid := if dev = 0 then 0x0845 else if s.romMode then 0x0847 else 0x0846
  leBytes 1 18 ++ leBytes 1 1 ++ leBytes 2 0x0200 ++ leBytes 1 (if dev = 0 then 9 else 0) ++ leBytes 1 0 ++ leBytes 1 (if dev = 0 then 2 else 0) ++
    leBytes 1 64 ++ leBytes 2 (s.get F.PCX_ID_VID) ++ leBytes 2 pid ++ leBytes 2 0xA100 ++ leBytes 3 0 ++ leBytes 1 1

/-- A device qualifier: what the device descriptor would say at the other speed. -/
def State.usbQualifier (s : State) (dev : Nat) : List (BitVec 8) :=
  leBytes 1 10 ++ leBytes 1 6 ++ ((s.usbDevice dev).drop 2).take 6 ++ leBytes 1 1 ++ leBytes 1 0

/-- A configuration descriptor (type 2), or that of the other speed (7), with its interfaces' and endpoints' descriptors after it. -/
def usbConfig (typ attr : Nat) (rest : List (BitVec 8)) : List (BitVec 8) :=
  leBytes 1 9 ++ leBytes 1 typ ++ leBytes 2 (9 + rest.length) ++ leBytes 1 1 ++ leBytes 1 1 ++ leBytes 1 0 ++ leBytes 1 attr ++ leBytes 1 0 ++ rest

/-- An interface descriptor: alternate setting, endpoints, class, subclass, protocol. -/
def usbInterface (alt eps cls sub prot : Nat) : List (BitVec 8) :=
  leBytes 1 9 ++ leBytes 1 4 ++ leBytes 1 0 ++ leBytes 1 alt ++ leBytes 1 eps ++ leBytes 1 cls ++ leBytes 1 sub ++ leBytes 1 prot ++ leBytes 1 0

/-- An endpoint descriptor: address, type, largest packet, interval. -/
def usbEndpoint (ep typ size interval : Nat) : List (BitVec 8) :=
  leBytes 1 7 ++ leBytes 1 5 ++ leBytes 1 ep ++ leBytes 1 typ ++ leBytes 2 size ++ leBytes 1 interval

/-- The configuration of the hub (0) or Yalcel (1) at a speed (R392, R398): the hub's two alternate settings, Yalcel's two endpoints. -/
def usbConfiguration (dev typ : Nat) (hs : Bool) : List (BitVec 8) :=
  if dev = 0 then
    let ep := usbEndpoint 0x81 3 1 (if hs then 12 else 255)
    usbConfig typ 0xE0 (usbInterface 0 1 9 0 1 ++ ep ++ usbInterface 1 1 9 0 2 ++ ep)
  else
    usbConfig typ 0xC0 (usbInterface 0 2 0xFF 0x59 1 ++ usbEndpoint 1 2 (if hs then 512 else 64) 0 ++ usbEndpoint 0x82 3 8 (if hs then 4 else 1))

/-- A descriptor by its type: device, configuration, device qualifier, configuration at the other speed; none the device does not have
(a BOS among them, R389). -/
def State.usbDescriptor (s : State) (dev typ : Nat) : Option (List (BitVec 8)) :=
  let hs := s.bit F.USB_STAT_HS
  match typ with
  | 1 => some (s.usbDevice dev)
  | 2 => some (usbConfiguration dev 2 hs)
  | 6 => some (s.usbQualifier dev)
  | 7 => some (usbConfiguration dev 7 (!hs))
  | _ => none

/-- A standard request's bRequest. -/
def usbCode : UsbReq → Nat
  | .getStatus => 0
  | .remoteWake on => if on then 3 else 1
  | .setAddress _ => 5
  | .getDescriptor _ => 6
  | .getConfig => 8
  | .setConfig _ => 9
  | .getInterface => 10
  | .setInterface _ => 11
  | .other b => b

/-- A standard request to the hub or Yalcel carried out: none where it STALLs. -/
def State.usbStandard (s : State) (dev : Nat) : UsbReq → Option State
  | .setAddress a =>
    if 127 < a then none
    else if dev = 0 then some ((s.put F.USB_STAT_ADDR a).put F.USB_STAT_USTATE (if a = 0 then 2 else 3))
    else some (s.put F.USB_STAT_YADDR a)
  | .setConfig c =>
    if 1 < c then none
    else if dev = 0 then some (s.put F.USB_STAT_USTATE (if c = 1 then 4 else 3))
    else some ((s.put F.USB_STAT_YCONF c).yalReport 0)
  | .getConfig => some (s.emit (.usbData dev (leBytes 1 (if dev = 0 then (if s.get F.USB_STAT_USTATE = 4 then 1 else 0) else s.get F.USB_STAT_YCONF))))
  | .getStatus => some (s.emit (.usbData dev (leBytes 2 (if dev = 0 then 1 + 2 * s.get F.USB_STAT_RWEN else 1))))
  | .remoteWake on => if dev = 0 then some (s.putBit F.USB_STAT_RWEN on) else none
  | .setInterface alt => if dev = 0 ∧ alt < 2 then some (s.put F.USB_STAT_MTT alt) else if alt = 0 then some s else none
  | .getInterface => some (s.emit (.usbData dev (leBytes 1 (if dev = 0 then s.get F.USB_STAT_MTT else 0))))
  | .getDescriptor typ => (s.usbDescriptor dev typ).map fun b => s.emit (.usbData dev b)
  | .other _ => none

/-- USB_STANDARD_REQUEST (R389, R392, R395, R398): done once its status stage completes; one that does not
complete stands until it is abandoned (R399). -/
def execUsbStandardRequest (dev : Nat) (r : UsbReq) (done : Bool) (s : State) : Host.Outcome State Fault Refusal :=
  .next (s.whenUp fun s => (if dev < 2 ∧ s.usbAnswers dev then
      (if !done then (s.usbSetup dev).usbPart dev (usbCode r)
       else match (s.usbSetup dev).usbStandard dev r with | some t => t | none => (s.usbSetup dev).emit (.usbStall dev))
    else s))

/-! ### Yalcel's firmware sessions (R398 to R402) -/

/-- A Yalcel request in Run mode, or in ROM mode: standing before its status stage (R399), or given to `g`. -/
def State.yalRequest (s : State) (b : Nat) (rom done : Bool) (g : State → State) : State :=
  if !(s.usbAnswers 1) then s
  else if s.romMode ≠ rom then (s.usbSetup 1).yalRefuse b
  else if !done then (s.usbSetup 1).usbPart 1 b
  else g (s.usbSetup 1)

/-- The slot that does not run. -/
def State.otherSlot (s : State) : Nat := 1 - s.get F.GLB_BOOT_SLOT

/-- YALCEL_GET_INFO (R400). -/
def execYalcelGetInfo (s : State) : Host.Outcome State Fault Refusal :=
  .next (s.whenUp fun s => (if s.usbAnswers 1 then
      (s.usbSetup 1).emit (.usbData 1 (leBytes 8 s.uid ++ leBytes 1 s.role ++ leBytes 1 (s.get F.GLB_BOOT_STAT) ++ leBytes 1 (s.get F.GLB_OWNER_STATE) ++
        leBytes 1 s.fid ++ leBytes 4 (s.get F.GLB_BOOTVER_VERSION) ++ leBytes 1 (s.get F.GLB_BOOT_SLOT) ++ leBytes 1 (s.get F.GLB_BOOT_SVNCTR) ++ leBytes 14 0))
    else s))

/-- The bytes of the slot that does not run (R401); none without a boot directory. -/
def State.slotRoom (s : State) : Nat := s.boot.dir.elim 0 fun d => d.room s.otherSlot

/-- The bytes of a session's image whose sector is not done, and those of them still in staging. -/
def FwSession.unwritten (x : FwSession) : List (BitVec 8) := x.img.drop (65536 * x.sectors)
def FwSession.staged (x : FwSession) : List (BitVec 8) := x.unwritten.drop (256 * x.pages)

/-- The flash has programmed `k` pages of the sector it writes (R401): as many of them as staging held. -/
def FwSession.paged (x : FwSession) (k : Nat) : FwSession := { x with pages := max x.pages (min k (min 256 (x.unwritten.length / 256))) }

/-- The sectors that have received their first byte. -/
def FwSession.begun (x : FwSession) : Nat := (x.img.length + 65535) / 65536

/-- The flash offset of a session's sector. -/
def State.sectorAt (s : State) (x : FwSession) (k : Nat) : Nat := (s.boot.dir.elim 0 fun d => d.off x.slot) + 65536 * k

/-- YALCEL_FW_BEGIN (R401): the 4 reserved bytes of its data stage are not read. -/
def execYalcelFwBegin (len _rsvd : Nat) (done : Bool) (s : State) : Host.Outcome State Fault Refusal :=
  .next (s.whenUp fun s => (s.yalRequest 0x05 false done fun t =>
    if len = 0 ∨ t.slotRoom < len ∨ 0x2000000 < len then (t.fwState (t.get F.USB_YALSTAT_FWSTATE) 1).yalRefuse 0x05
    else
      let t := t.fwEnd 4 4
      ((t.usbM fun u => { u with session := some { slot := t.otherSlot, len := len, img := [], sectors := 0, pages := 0 } }).fwState 1 0).raise 59 0 [t.otherSlot]))

/-- Staging space of EP1 OUT (R398). -/
def stagingBytes : Nat := 65536

/-- YALCEL_IMAGE_DATA (R398, R401, R402): a bulk packet enters staging, or the ROM's download area, and a sector is erased as its first
byte arrives; bytes beyond the declared length are dropped. At high speed a PING asks whether 512 bytes of staging are free. -/
def execYalcelImageData (q : ImgPkt) (s : State) : Host.Outcome State Fault Refusal :=
  .next (s.whenUp fun s => (if !(s.usbAnswers 1) ∨ (q.ping ∧ !(s.bit F.USB_STAT_HS)) then s
    else if s.romMode then
      let d := if q.ping then s.usb.dlData else (s.usb.dlData ++ q.bytes).take s.usb.dlLen
      (s.usbM fun u => { u with dlData := d }).emit (.usbHand 1 0)
    else match s.usb.session with
    | some x =>
      if s.get F.USB_YALSTAT_FWSTATE ≠ 1 then s.emit (.usbHand 1 1)
      else
        let x := x.paged q.pages
        let t := s.usbM fun u => { u with session := some x }
        if stagingBytes < x.staged.length + (if q.ping then 512 else q.bytes.length) then t.emit (.usbHand 1 1)
        else if q.ping then t.emit (.usbHand 1 0)
        else
          let y := { x with img := (x.img ++ q.bytes).take x.len }
          let t := (t.usbM fun u => { u with session := some y }).emits
            ((List.range (y.begun - x.begun)).map fun i => .flashErase (s.sectorAt x (x.begun + i)))
          t.emit (.usbHand 1 (if s.bit F.USB_STAT_HS ∧ stagingBytes < y.staged.length + 512 then 2 else 0))
    | none => s.emit (.usbHand 1 1)))

/-- FLASH_SECTOR_DONE (R401): one 64 KiB sector of the image is erased and programmed from staging, or the flash fails. -/
def execFlashSectorDone (ok : Bool) (s : State) : Host.Outcome State Fault Refusal :=
  .next (s.whenUp fun s => (match s.usb.session with
    | some x =>
      if x.unwritten = [] then s
      else if !ok then s.fwEnd 4 2
      else if x.unwritten.length < 65536 ∧ x.img.length < x.len then s
      else
        let y := { x with sectors := x.sectors + 1, pages := 0 }
        (s.usbM fun u => { u with session := some y }).emit (.flash (s.sectorAt x x.sectors) (x.unwritten.take 65536))
    | none => s))

/-- YALCEL_FW_COMMIT (R401). -/
def execYalcelFwCommit (done : Bool) (s : State) : Host.Outcome State Fault Refusal :=
  .next (s.whenUp fun s => (s.yalRequest 0x06 false done fun t =>
    match t.usb.session with
    | some x =>
      if t.get F.USB_YALSTAT_FWSTATE ≠ 1 then t.yalRefuse 0x06
      else if x.img.length < x.len then (t.fwState 1 5).yalRefuse 0x06
      else t.fwState 2 0
    | none => t.yalRefuse 0x06))

/-- The directory copy with the lower SEQ is rewritten, and names a slot as the preferred one (R401). -/
def State.rewriteDir (s : State) (k : Nat) : State :=
  match s.boot.dir with
  | some d => (s.emit (.flash d.next (d.copy k))).bootM fun b => { b with dir := some { d with seq := (d.seq + 1) % 2 ^ 32, next := 0x1000 - d.next } }
  | none => s

/-- FW_CHECK_DONE (R401): `img` is what the flash gives back, none where it fails; an image that passes R72 has the directory rewritten. -/
def execFwCheckDone (img : Option (List (BitVec 8))) (s : State) : Host.Outcome State Fault Refusal :=
  .next (s.whenUp fun s => (match s.usb.session with
    | some x =>
      if s.get F.USB_YALSTAT_FWSTATE ≠ 2 ∨ x.unwritten ≠ [] then s
      else match img with
      | some b => if s.imageOk b flashBound then (s.rewriteDir x.slot).fwEnd 3 0 else s.fwEnd 4 3
      | none => s.fwEnd 4 2
    | none => s))

/-- YALCEL_FW_STATUS (R400). -/
def execYalcelFwStatus (s : State) : Host.Outcome State Fault Refusal :=
  .next (s.whenUp fun s => (if s.usbAnswers 1 then
      let (slot, got) := match s.usb.session with
        | some x => (x.slot, x.img.length)
        | none => (s.otherSlot, if s.romMode then s.usb.dlData.length else 0)
      (s.usbSetup 1).emit (.usbData 1 (leBytes 1 (s.get F.USB_YALSTAT_FWSTATE) ++ leBytes 1 (s.get F.USB_YALSTAT_FWERR) ++ leBytes 1 slot ++ leBytes 1 0 ++ leBytes 4 got))
    else s))

/-- YALCEL_DL_BEGIN (R402). -/
def execYalcelDlBegin (len : Nat) (done : Bool) (s : State) : Host.Outcome State Fault Refusal :=
  .next (s.whenUp fun s => (s.yalRequest 0x10 true done fun t =>
    if 0x800000 < len then t.yalRefuse 0x10 else t.usbM fun u => { u with dlLen := len, dlData := [] }))

/-- YALCEL_UNKNOWN_REQUEST (R400). -/
def execYalcelUnknownRequest (b : Nat) (s : State) : Host.Outcome State Fault Refusal :=
  .next (s.whenUp fun s => (if s.usbAnswers 1 then (s.usbSetup 1).yalRefuse b else s))

end Sys2Proof.Machine
end

