-- ==== Sys2Proof/Machine/Pd.lean ====
section
/-! DEFINITION. USB Power Delivery (chapter 16): attach, negotiation, swaps, hard resets, protection and moisture of the three
port controllers. Ports are 0 to 2; voltages in 50 mV and currents in 10 mA units unless said otherwise. -/

namespace Sys2Proof.Machine

/-! ### State of a port -/

/-- A PD port's internal state. -/
def State.pdp (s : State) (n : Nat) : PdSt := s.pds.getD n PdSt.reset

/-- Change a PD port's internal state. -/
def State.pdM (s : State) (n : Nat) (g : PdSt → PdSt) : State := { s with pds := s.pds.modify n g }

/-- A PD message leaves a port. -/
def State.pdSend (s : State) (n : Nat) (m : PdMsg) : State := s.emit (.pd n m)

/-- PDn_GATE; a thermal trip holds it low (R32, R410). -/
def State.pdGate (s : State) (n : Nat) (on : Bool) : State :=
  let on := on && !s.boot.portsOff
  (s.pdM n fun x => { x with gate := on }).emit (.pin (.pdGate n) on)

/-- PDn_DISCH. -/
def State.pdDisch (s : State) (n : Nat) (on : Bool) : State := (s.pdM n fun x => { x with disch := on }).emit (.pin (.pdDisch n) on)

/-- The port is attached and hears PD messages: in BIST Test Data it hears none but a hard reset. -/
def State.pdHears (s : State) (n : Nat) : Bool := s.pdAttached n && !(s.pdp n).bist

/-- The answer to a message Table 16-1 does not support; revision 2.0 has Reject for it. -/
def State.pdRefuse (s : State) (n : Nat) : State := s.pdSend n (if (s.pdp n).rev < 30 then .reject else .notSupported)

/-- The revision falls back to the partner's (R406). -/
def State.pdRev (s : State) (n rev : Nat) : State := s.pdM n fun x => { x with rev := min x.rev (if rev < 30 then 20 else rev) }

/-- A negotiation, swap or hard reset is in progress (R420). -/
def State.pdBusy (s : State) (n : Nat) : Bool := (s.pdp n).step != 0

/-- The port has answered ACK in the power entry that runs (R431, R437). -/
def State.pdAcked (s : State) (n : Nat) : Bool :=
  let ph := s.get F.PWR_STAT_PHASE
  (ph == 2 && decide (n + 1 < s.get F.PWR_STAT_STEP)) || ph == 3 || ph == 4

/-- PORTROLE, TRY and RPCUR of PDn_CTRL. -/
def State.pdPolicy (s : State) (n : Nat) : Nat := s.get (F.PD_CTRL_PORTROLE n) + 4 * s.get (F.PD_CTRL_TRY n) + 16 * s.get (F.PD_CTRL_RPCUR n)

/-- PORTROLE as it acts: 0 Sink, 1 Source, 2 DRP; PD0 is Sink-only until released (R57, R419). -/
def State.pdRole (s : State) (n : Nat) : Nat := if s.bit (F.PD_STAT_DBSINK n) then 0 else min 2 ((s.pdp n).policy % 4)

/-- TRY as it acts: 0 none, 1 Try.SRC, 2 Try.SNK. -/
def State.pdTry (s : State) (n : Nat) : Nat := let t := (s.pdp n).policy / 4 % 4; if t = 3 then 0 else t

/-- The code of this port's Rp: Default, 1.5 A or 3.0 A, as RPCUR acts. -/
def State.pdRp (s : State) (n : Nat) : Nat := 2 + min 2 ((s.pdp n).policy / 16 % 4)

/-- The terminations of an unattached port (R411); none from a thermal trip until PORST_N rises (R410). -/
def State.pdTerms (s : State) (n : Nat) : State :=
  if s.get (F.PD_STAT_STATE n) ≠ 1 ∨ s.boot.portsOff then s.emit (.cc n 0)
  else match s.pdRole n with
  | 0 => s.emit (.cc n 1)
  | 1 => s.emit (.cc n (s.pdRp n))
  | _ => s.emit (.cc n (if (s.pdp n).rp then s.pdRp n else 1))

/-- VCONN on or off, on the CC line that shows Ra: the one that does not carry the connection (R411). -/
def State.pdVconn (s : State) (n : Nat) (on : Bool) : State :=
  (s.putBit (F.PD_STAT_VCONN n) on).emit (.pin (.pdVconn n (2 - s.get (F.PD_STAT_ORIENT n))) on)

/-- The port becomes Unattached, or Disabled where EN is 0; its policy takes effect (R411), RELEASE where it leaves an attachment
(R419). -/
def State.pdUnattach (s : State) (n : Nat) : State :=
  let left := s.pdAttached n || s.get (F.PD_STAT_STATE n) == 5
  let t := s.pdM n fun x => { PdSt.reset with
    policy := s.pdPolicy n, rp := x.rp, released := x.released, gate := x.gate, disch := x.disch, skip := x.skip && !left }
  let t := if left ∧ t.bit (F.PD_STAT_DBSINK n) ∧ (s.pdp n).released then t.put (F.PD_STAT_DBSINK n) 0 else t
  let st := if t.bit (F.PD_CTRL_EN n) ∨ t.bit (F.PD_STAT_DBSINK n) then 1 else 0
  let t := (((((((t.put (F.PD_STAT_STATE n) st).put (F.PD_STAT_PR n) 0).put (F.PD_STAT_DR n) 0).put (F.PD_STAT_VCONN n) 0).put
    (F.PD_STAT_CONTRACT n) 0).put (F.PD_STAT_POS n) 0).put (F.PD_STAT_MISMATCH n) 0).wr (A.PD_CONTRACT n) 0
  (t.putAdt (F.ADT_ALT_ACTCBL n) 0).pdTerms n

/-- VBUS and VCONN are removed. -/
def State.pdOff (s : State) (n : Nat) : State := ((s.pdGate n false).pdDisch n true).pdVconn n false

/-! ### Tables (R407, R409) -/

/-- Entries of a table from a position, until the first 0. -/
def State.pdList (s : State) (src : Bool) (n from_ len : Nat) : List Word :=
  ((List.range len).map fun k => s.rd (if src then A.PD_SRCPDO n (from_ + k) else A.PD_SNKPDO n (from_ + k))).takeWhile (· != 0)

/-- A fixed PDO's voltage and current. -/
def pdoVolt (w : Word) : Nat := bitsOf w 10 10
def pdoCur (w : Word) : Nat := bitsOf w 0 10

/-- Whether a PDO is a fixed supply, or an SPR PPS APDO. -/
def pdoFixed (w : Word) : Bool := bitsOf w 30 2 == 0
def pdoPps (w : Word) : Bool := bitsOf w 28 4 == 0xC

/-- The first position of a table that breaks R407's rules. -/
def State.pdTableBad (s : State) (src : Bool) (n : Nat) : Option Nat :=
  let spr := s.pdList src n 0 7
  let epr := s.pdList src n 7 4
  if src && !(spr == [] && epr == []) && !(spr.headD 0 |> fun w => pdoFixed w && pdoVolt w == 100) then some 1
  else match spr.zipIdx.find? fun e => !(pdoFixed e.1 || (!src && pdoPps e.1)) with
  | some e => some (e.2 + 1)
  | none => (epr.zipIdx.find? fun e => !(pdoFixed e.1)).map fun e => e.2 + 8

/-- GPIOs of the voltage code (PDn_VSEL). -/
def State.vselWidth (s : State) (n : Nat) : Nat :=
  let w := min 4 (s.get (F.PD_VSEL_WIDTH n))
  if 8 < s.get (F.PD_VSEL_BASE n) + w then 0 else w

/-- The voltage code of a position on its GPIOs, most significant bit highest (R409). -/
def State.vsel (s : State) (n pos : Nat) : State :=
  s.emits ((List.range (s.vselWidth n)).map fun i => .pin (.gpio (s.get (F.PD_VSEL_BASE n) + i)) ((pos - 1) / 2 ^ i % 2 == 1))

/-- Whether a position's code fits (R409). -/
def State.codeFits (s : State) (n pos : Nat) : Bool := if s.vselWidth n = 0 then pos == 1 else decide (pos - 1 < 2 ^ s.vselWidth n)

/-- The highest EPR voltage advertised (PDn_EPRLIM.MAXV). -/
def State.eprMax (s : State) (n : Nat) : Nat := [0, 560, 720, 960].getD (s.get (F.PD_EPRLIM_MAXV n)) 0

/-- A source position as advertised: none above 3 A without a 5 A cable, none above the EPR limits, none whose code does not fit
(R407, R409). -/
def State.pdAdvert (s : State) (n pos : Nat) (w : Word) : Word :=
  if !(s.codeFits n pos) then 0
  else
    let lim := if (s.pdp n).cable5 then 500 else 300
    let c := min (pdoCur w) lim
    if pos < 8 then putBits w 0 10 c
    else if s.eprMax n < pdoVolt w then 0
    else putBits w 0 10 (min c (min 240 (s.get (F.PD_EPRLIM_PDP n)) * 2000 / max 1 (pdoVolt w)))

/-- A list of positions ends at the last one advertised. -/
def lastPos (l : List Word) : List Word := (l.reverse.dropWhile (· == 0)).reverse

/-- Source_Capabilities, or EPR_Source_Capabilities with unused SPR positions zero (R407, R409). -/
def State.sourceCaps (s : State) (n : Nat) (epr : Bool) : List Word :=
  if (s.pdTableBad true n).isSome then []
  else
    let spr := lastPos ((s.pdList true n 0 7).zipIdx.map fun e => s.pdAdvert n (e.2 + 1) e.1)
    if epr then
      lastPos (spr ++ List.replicate (7 - spr.length) 0 ++ (s.pdList true n 7 4).zipIdx.map fun e => s.pdAdvert n (e.2 + 8) e.1)
    else spr

/-- As Source, capabilities go out and a Request is awaited. -/
def State.pdCaps (s : State) (n : Nat) : State :=
  (s.pdM n fun x => { x with step := 1, dirty := false }).pdSend n (.sourceCaps (s.pdp n).epr (s.sourceCaps n (s.pdp n).epr))

/-! ### The sink's choice (R408) -/

/-- A source position a sink entry accepts: position, requested voltage, current, power, PPS. -/
def sinkAccepts (pos : Nat) (w e : Word) : Option (Nat × PdOffer) :=
  if w = 0 then none
  else if pdoFixed w then
    let v := pdoVolt w
    let ok := if pdoFixed e then v == pdoVolt e else decide (2 * bitsOf e 8 8 ≤ v) && decide (v ≤ 2 * bitsOf e 17 8)
    let need := if pdoFixed e then pdoCur e else 5 * bitsOf e 0 7
    if ok && decide (need ≤ pdoCur w) then some (v * pdoCur w, { pos := pos, volt := v, cur := need, epr := decide (8 ≤ pos), pps := false }) else none
  else if pdoPps w && pdoPps e then
    let v := min (bitsOf w 17 8) (bitsOf e 17 8)
    if bitsOf w 8 8 ≤ v ∧ bitsOf e 8 8 ≤ v ∧ bitsOf e 0 7 ≤ bitsOf w 0 7 then
      some (2 * v * (5 * bitsOf w 0 7), { pos := pos, volt := 2 * v, cur := 5 * bitsOf e 0 7, epr := false, pps := true })
    else none
  else none

/-- The better of two accepted positions: more power, then the lower voltage. -/
def sinkBetter (a b : Nat × PdOffer) : Nat × PdOffer :=
  if a.1 < b.1 ∨ (a.1 = b.1 ∧ b.2.volt < a.2.volt) then b else a

/-- The sink's entries: none where the table is broken. -/
def State.sinkTable (s : State) (n : Nat) : List Word :=
  if (s.pdTableBad false n).isSome then [] else s.pdList false n 0 7 ++ (if (s.pdp n).epr then s.pdList false n 7 4 else [])

/-- The sink's request: the position of the highest power above 5 V that an entry accepts, otherwise 5 V with Capability
Mismatch; a partner of revision 2.0 has no PPS. -/
def State.sinkChoice (s : State) (n : Nat) : PdOffer × Bool :=
  let es := s.sinkTable n
  let all := (s.pdp n).caps.zipIdx.flatMap fun w => es.filterMap fun e => sinkAccepts (w.2 + 1) w.1 e
  match all.filter fun a => decide (100 < a.2.volt) && (!a.2.pps || decide (30 ≤ (s.pdp n).rev)) with
  | a :: t => ((t.foldl sinkBetter a).2, false)
  | [] =>
    let e := es.headD 0
    ({ pos := 1, volt := 100, cur := if pdoFixed e then pdoCur e else 5 * bitsOf e 0 7, epr := (s.pdp n).epr, pps := false }, true)

/-- As Sink, a Request goes out. -/
def State.sinkRequest (s : State) (n : Nat) : State :=
  let (o, mis) := s.sinkChoice n
  ((s.pdM n fun x => { x with step := 3, offer := some o, dirty := false }).putBit (F.PD_STAT_MISMATCH n) mis).pdSend n (.request o.pos o.volt o.cur mis o.epr)

/-! ### Swaps asked for (R413) -/

/-- The swap the port wants and the partner has not refused: 1 PR, 2 DR, 0 none. -/
def State.pdWants (s : State) (n : Nat) : Nat :=
  let pr := s.get (F.PD_CTRL_PREFPR n)
  let dr := s.get (F.PD_CTRL_PREFDR n)
  let may := fun (k : Nat) => (s.pdp n).asked / 2 ^ k % 2 = 0
  if may 1 ∧ ((pr = 1 ∧ !(s.bit (F.PD_STAT_PR n)) ∧ !(s.bit (F.PD_STAT_DBSINK n))) ∨ (pr = 2 ∧ s.bit (F.PD_STAT_PR n))) then 1
  else if may 2 ∧ ((dr = 1 ∧ !(s.bit (F.PD_STAT_DR n))) ∨ (dr = 2 ∧ s.bit (F.PD_STAT_DR n))) ∧ !(s.bit (F.ADT_ALT_ENTERED n)) then 2
  else 0

/-- Ask for a swap: EPR Mode is left before a PR_Swap (R413), a Source then offers its SPR positions. -/
def State.askSwap (s : State) (n kind : Nat) : State :=
  if kind = 1 ∧ (s.pdp n).epr then
    let t := (s.pdM n fun x => { x with epr := false }).pdSend n (.eprMode 5)
    if s.bit (F.PD_STAT_PR n) then t.pdCaps n else t
  else (s.pdM n fun x => { x with step := 4, swap := kind }).pdSend n (.swap kind)

/-- Whether a Sink may enter EPR Mode (R408): EPREN, the source's offer, the cable, a partner that speaks 3.1. -/
def State.eprMay (s : State) (n : Nat) : Bool :=
  let x := s.pdp n
  s.bit (F.PD_CTRL_EPREN n) && bitsOf (x.caps.headD 0) 23 1 == 1 && x.cableEpr && x.cable5 && x.rev == 31

/-- A table written is offered, or asked by (R407). -/
def State.pdApply (s : State) (n : Nat) : State :=
  let t := s.pdM n fun y => { y with dirty := false }
  if s.bit (F.PD_STAT_PR n) then t.pdCaps n else t.pdSend n .getSourceCap

/-- A table written while the port was busy takes effect (R407, R414). -/
def State.pdCatch (s : State) (n : Nat) : State := if (s.pdp n).dirty ∧ s.get (F.PD_STAT_CONTRACT n) ≠ 0 then s.pdApply n else s

/-- After a contract or swap: a table written meanwhile, EPR Mode where R408 allows it, preferred swaps, then as DFP the alternate mode's
discovery (R114, R412 to R414). -/
def State.pdNext (s : State) (n : Nat) : State :=
  let x := s.pdp n
  let w := s.pdWants n
  if x.dirty then s.pdCatch n
  else if !(s.bit (F.PD_STAT_PR n)) && !x.epr && s.eprMay n && w != 1 then s.pdSend n (.eprMode 1)
  else if w ≠ 0 then s.askSwap n w
  else if s.bit (F.PD_STAT_DR n) ∧ !(s.bit (F.ADT_ALT_ENTERED n)) then s.pdSend n (.vdm false .discIdent)
  else s

/-- An explicit contract is in place (R412, R421). -/
def State.pdContract (s : State) (n : Nat) (o : PdOffer) : State :=
  let kind := if o.epr then 2 else 1
  let t := ((s.pdM n fun x => { x with step := 0, offer := none, pps := o.pps, hrRow := 0, hard := 0, hardRx := none, asked := if o.epr then x.asked else 0 }).put (F.PD_STAT_CONTRACT n) kind).put (F.PD_STAT_POS n) o.pos
  let t := (t.put (F.PD_CONTRACT_VOLT n) o.volt).put (F.PD_CONTRACT_CUR n) o.cur
  (t.raise (60 + n) 2 [o.pos, kind, o.volt / 2 % 256, o.volt / 2 / 256]).pdNext n

/-! ### Hard reset (R415, R416) -/

/-- PD_HARD_RESET's effect: modes end, roles return to those at attach, VBUS cycles; after three without a contract between
them, ErrorRecovery. One sent and one received together are one (R414): that is, until VBUS goes. -/
def State.pdHardReset (s : State) (n : Nat) (received : Bool) : State :=
  let x := s.pdp n
  if x.hard = 1 ∧ x.hardRx = some (!received) then (s.bump (F.PD_COLLCNT n)).pdM n fun y => { y with hardRx := none }
  else
    let st := s.get (F.PD_STAT_STATE n)
    let fed := s.bit (F.PD_STAT_PR n)
    let t := (s.bump (F.PD_HRSTCNT n)).raise (60 + n) 4 [if received then 1 else 0, st]
    let t := if received then t else t.pdSend n .hardReset
    let t := if t.bit (F.ADT_ALT_ENTERED n) then t.leaveMode n 7 else t
    let t := ((((t.putBit (F.PD_STAT_PR n) x.defPr).putBit (F.PD_STAT_DR n) x.defDr).put (F.PD_STAT_CONTRACT n) 0).put (F.PD_STAT_POS n) 0).wr (A.PD_CONTRACT n) 0
    let t := t.pdM n fun y => { y with
      step := 6, offer := none, swap := 0, retry := 0, asked := 0, hard := 1, hardBy := fed || (y.hard != 0 && y.hardBy), hardRx := some received,
      hrRow := y.hrRow + 1, epr := false, pps := false, dirty := false, bist := false }
    let t := t.put (F.PD_STAT_STATE n) (if x.defPr then 2 else 3)
    let t := t.usbHardReset n
    if x.hrRow + 1 < 3 then (if fed then t else t.pdGate n false)
    else
      let t := ((t.pdOff n).put (F.PD_STAT_STATE n) 5).pdM n fun y => { y with step := 0, hard := 0, hardRx := none, hrRow := 0 }
      (t.emit (.cc n 0)).raise (60 + n) 1 [1]

/-- PD_HARD_RESET (R415): sent or received, on an attached port. -/
def execPdHardReset (n : Nat) (received : Bool) (s : State) : Host.Outcome State Fault Refusal :=
  .next (if n < 3 ∧ s.pdAttached n then s.pdHardReset n received else s)

/-- A write of PDn_CTRL: policy, HARDRST and RELEASE (R411, R415, R419). -/
def State.writePdCtrl (s : State) (n : Nat) (v : Word) : State :=
  let was := s.bit (F.PD_CTRL_EN n)
  let t := s.wr (A.PD_CTRL n) (v &&& 0x7FFF#32)
  let att := s.pdAttached n
  let anew := !was || (s.pdp n).policy != t.pdPolicy n
  let t := if att then t else t.pdM n fun x => { x with policy := t.pdPolicy n }
  let t := if bitsOf v 16 1 = 0 then t
    else if n = 0 ∧ t.bit F.GLB_STRAP_DBRD then
      t.pdM 0 fun x => { x with released := true }
    else t.bump (F.PD_IGNWR n)
  let on := t.bit (F.PD_CTRL_EN n) || t.bit (F.PD_STAT_DBSINK n)
  let t := if on ∧ t.get (F.PD_STAT_STATE n) = 0 then (t.put (F.PD_STAT_STATE n) 1).pdTerms n
    else if !on ∧ t.get (F.PD_STAT_STATE n) ≠ 0 then
      let u := if t.bit (F.ADT_ALT_ENTERED n) then t.leaveMode n 6 else t
      ((if att then (u.pdOff n).raise (60 + n) 1 [0] else u).pdUnattach n).usbFollow
    else if anew ∧ t.get (F.PD_STAT_STATE n) = 1 then t.pdTerms n
    else t
  if bitsOf v 15 1 = 1 ∧ t.pdAttached n then t.pdHardReset n false else t

/-- HARD_RESET_COMMAND (R415): a control write of PDn_CTRL with HARDRST set. -/
def execHardResetCommand (r : Req) (n : Nat) (s : State) : Host.Outcome State Fault Refusal :=
  .next (if n < 3 then s.controlWrite r fun t => t.writePdCtrl n (t.rd (A.PD_CTRL n) ||| 0x8000#32) else s)

/-- PD_RELEASE (R419): a control write of PDn_CTRL with RELEASE set. -/
def execPdRelease (r : Req) (n : Nat) (s : State) : Host.Outcome State Fault Refusal :=
  .next (if n < 3 then s.controlWrite r fun t => t.writePdCtrl n (t.rd (A.PD_CTRL n) ||| 0x10000#32) else s)

/-- HARD_RESET_VBUS_OFF (R415 step 3): 30 ms on, a port that fed VBUS, or is to feed it, drops the gate and discharges VBUS. -/
def execHardResetVbusOff (n : Nat) (s : State) : Host.Outcome State Fault Refusal :=
  .next (if n < 3 ∧ (s.pdp n).hard = 1 ∧ (s.bit (F.PD_STAT_PR n) ∨ (s.pdp n).hardBy) then
      ((s.pdGate n false).pdDisch n true).pdM n fun x => { x with hard := 2, hardRx := none }
    else s)

/-- HARD_RESET_VBUS_RESTORE (R415 step 3): 700 ms after VBUS fell below 0.8 V the Source restores vSafe5V. -/
def execHardResetVbusRestore (n : Nat) (s : State) : Host.Outcome State Fault Refusal :=
  .next (if n < 3 ∧ (s.pdp n).hard = 3 then (s.pdM n fun x => { x with hard := 0, hardBy := false, step := 7 }).vsel n 1 else s)

/-- ERROR_RECOVERY_END (R416): 25 ms on, the port starts again from Unattached. -/
def execErrorRecoveryEnd (n : Nat) (s : State) : Host.Outcome State Fault Refusal :=
  .next (if n < 3 ∧ s.get (F.PD_STAT_STATE n) = 5 then (s.pdUnattach n).usbFollow else s)

/-! ### Moisture (R417, R418) -/

/-- A reading in 100 kΩ as the port takes it: 200 kΩ at least, 20 MΩ at most (R417). -/
def moistRead (z : Nat) : Nat := max 2 (min 200 z)

/-- Whether a reading is wet. -/
def State.isWet (s : State) (n z : Nat) : Bool := decide (moistRead z < max 2 (min 100 (s.get (F.PD_MOIST_THRESH n))))

/-- Enter Unattached-Wet (R418). -/
def State.pdWet (s : State) (n : Nat) : State :=
  let t := (((s.pdUnattach n).put (F.PD_STAT_STATE n) 4).put (F.PD_MOIST_DRY n) 0).bump (F.PD_WETCNT n)
  ((t.pdGate n false).emit (.cc n 0)).raise (60 + n) 5 [1, t.get (F.PD_MOIST_LAST n), 0]

/-- MOISTURE_CHECK (R417, R418): the lowest reading of the lines, in 100 kΩ. -/
def execMoistureCheck (n z : Nat) (s : State) : Host.Outcome State Fault Refusal :=
  .next (let st := s.get (F.PD_STAT_STATE n)
    if 3 ≤ n ∨ !(s.bit (F.PD_MOIST_EN n)) ∨ (st ≠ 1 ∧ st ≠ 4) ∨ (s.pdp n).skip then s
    else
      let t := s.put (F.PD_MOIST_LAST n) (moistRead z)
      if st = 1 then (if t.isWet n z then t.pdWet n else t)
      else if t.isWet n z then t.put (F.PD_MOIST_DRY n) 0
      else if t.get (F.PD_MOIST_DRY n) < 2 then t.put (F.PD_MOIST_DRY n) (t.get (F.PD_MOIST_DRY n) + 1)
      else
        let t := (t.put (F.PD_MOIST_DRY n) 0).raise (60 + n) 5 [0, moistRead z, 0]
        (t.put (F.PD_STAT_STATE n) 1).pdTerms n)

/-! ### Attach and detach (R411) -/

/-- Within 5 % of a voltage: a sense reading of 56.25 mV per LSB. -/
def within5 (reading volt : Nat) : Bool :=
  decide (950 * 5000 * volt ≤ reading * 5625 * 1000) && decide (reading * 5625 * 1000 ≤ 1050 * 5000 * volt)

/-- Whether an Unattached DRP port tries the other role before it attaches as this one (R406): Try.SRC as Sink, Try.SNK as Source. -/
def State.pdTries (s : State) (n : Nat) (src : Bool) : Bool :=
  s.get (F.PD_STAT_STATE n) == 1 && s.pdRole n == 2 && s.pdTry n == (if src then 2 else 1)

/-- PD_ATTACH (R32, R406, R411, R417): after debounce, as Source or Sink; orientation; the other CC line shows Ra; the moisture reading in
100 kΩ; PDn_SYS_SNS; a Sink, which then sees vSafe5V, asks the cable (R412). With TRY set, a DRP port first tries the other role; what it then meets attaches it. A thermal trip keeps the ports
Unattached while it lasts. -/
def execPdAttach (n : Nat) (src orient ra : Bool) (z sys : Nat) (s : State) : Host.Outcome State Fault Refusal :=
  .next (let role := s.pdRole n
    if 3 ≤ n ∨ s.boot.portsOff ∨ (s.get (F.PD_STAT_STATE n) ≠ 1 ∧ s.get (F.PD_STAT_STATE n) ≠ 6) ∨ (src ∧ role = 0) ∨ (!src ∧ role = 1) then s
    else if s.pdTries n src then (s.put (F.PD_STAT_STATE n) 6).emit (.cc n (if src then 1 else s.pdRp n))
    else
      let chk := s.bit (F.PD_MOIST_EN n) && !(s.pdp n).skip
      let s := if chk then s.put (F.PD_MOIST_LAST n) (moistRead z) else s
      if chk ∧ s.isWet n z then (s.bump (F.PD_COLLCNT n)).pdWet n
      else
        let t := (((s.put (F.PD_STAT_STATE n) (if src then 2 else 3)).putBit (F.PD_STAT_PR n) src).putBit (F.PD_STAT_DR n) src).putBit (F.PD_STAT_ORIENT n) orient
        let t := (t.putAdt (F.ADT_ALT_ORIENT n) (if orient then 1 else 0)).put (F.PD_VBUS_SYS n) (min sys 1023)
        let t := t.pdM n fun x => { x with defPr := src, defDr := src, step := if src then 7 else 0, hrRow := 0 }
        let b := fun (c : Bool) => if c then 1 else 0
        let t := t.raise (60 + n) 0 [b src, b src, b orient]
        let t := if src then
            let u := if ra then t.pdVconn n true else t
            let u := (u.pdDisch n false).vsel n 1
            if within5 sys 100 then u.pdGate n true else u
          else t.pdSend n (.vdm true .discIdent)
        t.usbBack n)

/-- PD_DETACH (R411, R414): VBUS removed, the Adit port DARK with cause DETACH. -/
def execPdDetach (n : Nat) (s : State) : Host.Outcome State Fault Refusal :=
  .next (let st := s.get (F.PD_STAT_STATE n)
    if 3 ≤ n ∨ !(s.pdAttached n ∨ 5 ≤ st) then s
    else if st = 6 then s.pdUnattach n
    else
      let t := if 4 ≤ (s.pdp n).step ∧ (s.pdp n).step ≤ 5 then s.bump (F.PD_COLLCNT n) else s
      let t := if t.bit (F.ADT_ALT_ENTERED n) then t.leaveMode n 6 else t
      (((t.pdOff n).raise (60 + n) 1 [0]).pdUnattach n).usbFollow)

/-- DRP_TOGGLE (R411). -/
def execDrpToggle (n : Nat) (s : State) : Host.Outcome State Fault Refusal :=
  .next (if n < 3 ∧ s.get (F.PD_STAT_STATE n) = 1 ∧ s.pdRole n = 2 ∧ !s.boot.portsOff then (s.pdM n fun x => { x with rp := !x.rp }).pdTerms n else s)

/-! ### Negotiation -/

/-- A capability table has been written (R407, R414): checked; under a contract the port offers, or asks, again at once, or when it is
no longer busy; during a swap the write is counted. -/
def State.tableNew (s : State) (n : Nat) (src : Bool) : State :=
  let t := match s.pdTableBad src n with
    | some pos => s.raise (60 + n) 7 [if src then 1 else 2, pos]
    | none => s
  if (t.pdp n).step = 4 ∨ (t.pdp n).step = 5 then (t.pdM n fun x => { x with dirty := true }).bump (F.PD_COLLCNT n)
  else if t.get (F.PD_STAT_CONTRACT n) = 0 ∨ t.bit (F.PD_STAT_PR n) ≠ src then t
  else if t.pdBusy n ∨ !(t.pdHears n) then t.pdM n fun x => { x with dirty := true }
  else t.pdApply n

/-- A write to an entry of a capability table (R407). -/
def State.writePdo (s : State) (n : Nat) (src : Bool) (k : Nat) (v : Word) : State :=
  (s.wr (if src then A.PD_SRCPDO n k else A.PD_SNKPDO n k) v).tableNew n src

/-- PD_TABLE_WRITE (R407): a control write of PDn_SRCPDOk or PDn_SNKPDOk. -/
def execPdTableWrite (r : Req) (n : Nat) (src : Bool) (k : Nat) (v : Word) (s : State) : Host.Outcome State Fault Refusal :=
  .next (if n < 3 ∧ k < 11 then s.controlWrite r fun t => t.writePdo n src k v else s)

/-- PD_SOURCE_CAPS_RECEIVE (R408): as Sink, the offers lead to a Request. -/
def execPdSourceCapsReceive (n : Nat) (k : CapsIn) (caps : List Word) (s : State) : Host.Outcome State Fault Refusal :=
  .next (if 3 ≤ n ∨ !(s.pdHears n) ∨ s.bit (F.PD_STAT_PR n) ∨ (k.epr ∧ !(s.pdp n).epr) ∨ (s.pdp n).step = 5 then s
    else
      let t := if s.usb.gone.contains n then s.usbBack n else s
      ((t.pdRev n k.rev).pdM n fun x => { x with caps := caps, hard := 0, hardRx := none, swap := 0 }).sinkRequest n)

/-- PD_REQUEST_RECEIVE (R409): as Source, a Request for a position offered, within its current, is accepted and the code set;
another is rejected. -/
def execPdRequestReceive (n pos : Nat) (q : PdReqIn) (s : State) : Host.Outcome State Fault Refusal :=
  .next (if 3 ≤ n ∨ !(s.pdHears n) ∨ !(s.bit (F.PD_STAT_PR n)) ∨ (s.pdp n).step ≠ 1 then s
    else
      let s := s.pdRev n q.rev
      let w := (s.sourceCaps n (s.pdp n).epr).getD (pos - 1) 0
      if pos = 0 ∨ w = 0 ∨ pdoCur w < q.cur then
        let t := s.pdSend n .reject
        if s.get (F.PD_STAT_CONTRACT n) = 0 then t else (t.pdM n fun x => { x with step := 0 }).pdCatch n
      else
        let o : PdOffer := { pos := pos, volt := pdoVolt w, cur := q.cur, epr := (s.pdp n).epr, pps := false }
        ((s.pdM n fun x => { x with step := 2, offer := some o }).pdSend n .accept).vsel n pos)

/-- VBUS below 0.8 V (56.25 mV per LSB). -/
def vSafe0 (vbus : Nat) : Bool := decide (vbus * 5625 < 80000)

/-- PDn_DISCH falls once VBUS is below 0.8 V (R415), but for a thermal trip (R32): a hard reset's cycle goes on, and as the old Source of
a PR_Swap PS_RDY goes out. -/
def State.pdDrained (s : State) (n vbus : Nat) : State :=
  let x := s.pdp n
  if !(vSafe0 vbus) ∨ !x.disch ∨ s.boot.portsOff then s
  else
    let t := s.pdDisch n false
    if x.hard = 2 then
      t.pdM n fun y => if s.bit (F.PD_STAT_PR n) then { y with hard := 3 } else { y with hard := 0, hardBy := false, step := 0 }
    else if x.step = 5 ∧ x.swap = 1 ∧ s.bit (F.PD_STAT_PR n) then t.pdSend n .psRdy
    else t

/-- As Source, the gate closes for a voltage once PDn_SYS_SNS is within 5 % of it (R409). -/
def State.pdClose (s : State) (n sys volt : Nat) : State := if within5 sys volt ∧ !(s.pdp n).gate then s.pdGate n true else s

/-- VBUS_SETTLED (R409, R412, R413, R415): the sense readings. The gate closes on PDn_SYS_SNS; VBUS, within 5 % of the new voltage for 1 ms
behind the closed gate, sends PS_RDY, or at vSafe5V asks the cable and offers capabilities. -/
def execVbusSettled (n vbus sys : Nat) (s : State) : Host.Outcome State Fault Refusal :=
  .next (if 3 ≤ n then s
    else
      let s := ((s.put (F.PD_VBUS_VBUS n) (min vbus 1023)).put (F.PD_VBUS_SYS n) (min sys 1023)).pdDrained n vbus
      let x := s.pdp n
      if !(s.pdAttached n) then s
      else match x.step with
      | 2 => match x.offer with
        | some o =>
          let t := s.pdClose n sys o.volt
          if within5 vbus o.volt ∧ (t.pdp n).gate then (t.pdSend n .psRdy).pdContract n o else t
        | none => s
      | 7 =>
        let t := s.pdClose n sys 100
        if within5 vbus 100 ∧ (t.pdp n).gate then ((t.usbBack n).pdSend n (.vdm true .discIdent)).pdCaps n else t
      | 5 =>
        if x.swap = 1 ∧ !(s.bit (F.PD_STAT_PR n)) then
          let t := s.pdClose n sys 100
          if within5 vbus 100 ∧ (t.pdp n).gate then
            let t := (t.pdSend n .psRdy).put (F.PD_STAT_PR n) 1
            (((t.put (F.PD_STAT_STATE n) 2).pdM n fun y => { y with swap := 0 }).raise (60 + n) 3 [1, 1]).pdCaps n
          else t
        else s
      | _ => s)

/-- VBUS_TRANSITION_TIMEOUT (R409): 275 ms pass first, and Hard Reset is sent. -/
def execVbusTransitionTimeout (n : Nat) (s : State) : Host.Outcome State Fault Refusal :=
  .next (if n < 3 ∧ s.pdAttached n ∧ ((s.pdp n).step = 2 ∨ (s.pdp n).step = 7 ∨ ((s.pdp n).step = 5 ∧ (s.pdp n).swap = 1 ∧ !(s.bit (F.PD_STAT_PR n)))) then s.pdHardReset n false else s)

/-- PD_PS_RDY_RECEIVE (R408, R413): the contract is in place, or a swap goes on. -/
def execPdPsRdyReceive (n : Nat) (s : State) : Host.Outcome State Fault Refusal :=
  .next (let x := s.pdp n
    if 3 ≤ n ∨ !(s.pdHears n) then s
    else if x.step = 3 then
      (match x.offer with | some o => (s.pdGate n true).pdContract n o | none => s)
    else if x.step = 5 ∧ x.swap = 1 then
      if s.bit (F.PD_STAT_PR n) then
        (((s.put (F.PD_STAT_PR n) 0).put (F.PD_STAT_STATE n) 3).pdM n fun y => { y with step := 0, swap := 0 }).raise (60 + n) 3 [1, 0]
      else (s.pdDisch n false).vsel n 1
    else if x.step = 5 ∧ x.swap = 3 then
      (((s.pdVconn n false).pdM n fun y => { y with step := 0, swap := 0 }).raise (60 + n) 3 [3, 0]).pdNext n
    else s)

/-- PD_EPR_MODE_RECEIVE (R406, R408): 1 Enter, 3 Enter Succeeded, 4 Enter Failed, 5 Exit. -/
def execPdEprModeReceive (n action : Nat) (s : State) : Host.Outcome State Fault Refusal :=
  .next (if 3 ≤ n ∨ !(s.pdHears n) ∨ s.get (F.PD_STAT_CONTRACT n) = 0 then s
    else
      let x := s.pdp n
      let src := s.bit (F.PD_STAT_PR n)
      match action with
      | 1 =>
        if !src then s
        else if s.bit (F.PD_CTRL_EPREN n) ∧ x.cableEpr ∧ x.cable5 ∧ x.rev = 31 then
          ((s.pdM n fun y => { y with epr := true }).pdSend n (.eprMode 3)).pdCaps n
        else s.pdSend n (.eprMode 4)
      | 3 => if src ∨ !(s.eprMay n) then s else s.pdM n fun y => { y with epr := true }
      | 5 =>
        let t := s.pdM n fun y => { y with epr := false }
        if src then t.pdCaps n else t
      | _ => s)

/-- PPS_RENEW (R408): every 8 s. -/
def execPpsRenew (n : Nat) (s : State) : Host.Outcome State Fault Refusal :=
  .next (if n < 3 ∧ s.pdHears n ∧ (s.pdp n).pps ∧ s.get (F.PD_STAT_CONTRACT n) ≠ 0 ∧ !(s.pdBusy n) then s.sinkRequest n else s)

/-! ### Swaps (R413, R414, R437) -/

/-- A swap both ends agree on begins. -/
def State.swapGo (s : State) (n kind : Nat) : State :=
  match kind with
  | 1 =>
    let t := ((s.pdM n fun x => { x with step := 5, swap := 1 }).put (F.PD_STAT_CONTRACT n) 0).put (F.PD_STAT_POS n) 0
    if s.bit (F.PD_STAT_PR n) then (t.pdGate n false).pdDisch n true else t.pdGate n false
  | 2 =>
    let d := !(s.bit (F.PD_STAT_DR n))
    let t := (((s.putBit (F.PD_STAT_DR n) d).pdM n fun x => { x with step := 0, swap := 0 }).raise (60 + n) 3 [2, if d then 1 else 0]).usbFollow
    t.pdNext n
  | _ =>
    if s.bit (F.PD_STAT_VCONN n) then s.pdM n fun x => { x with step := 5, swap := 3 }
    else
      let t := (s.pdVconn n true).pdSend n .psRdy
      ((t.pdM n fun x => { x with step := 0, swap := 0 }).raise (60 + n) 3 [3, 1]).pdNext n

/-- A swap request is judged where no collision stands; a Sink-only PD0 takes no PR_Swap (R57). -/
def State.swapJudge (s : State) (n kind : Nat) : State :=
  let acc := match kind with | 1 => s.bit (F.PD_CTRL_ACCPR n) | 2 => s.bit (F.PD_CTRL_ACCDR n) | _ => s.bit (F.PD_CTRL_ACCVC n)
  if kind = 2 ∧ s.bit (F.ADT_ALT_ENTERED n) then s.pdHardReset n false
  else if s.pdAcked n then s.pdSend n .wait
  else if !acc ∨ (kind = 1 ∧ ((s.pdp n).epr ∨ s.bit (F.PD_STAT_DBSINK n))) then s.pdSend n .reject
  else (s.pdSend n .accept).swapGo n kind

/-- PD_SWAP_REQUEST_RECEIVE (R413, R414): 1 PR, 2 DR, 3 VCONN. -/
def execPdSwapRequestReceive (n kind : Nat) (s : State) : Host.Outcome State Fault Refusal :=
  .next (let x := s.pdp n
    if 3 ≤ n ∨ !(s.pdHears n) ∨ kind = 0 ∨ 3 < kind then s
    else if x.step = 4 then
      let t := s.bump (F.PD_COLLCNT n)
      if s.bit (F.PD_STAT_PR n) then t else (t.pdM n fun y => { y with step := 0, swap := 0, retry := y.swap }).swapJudge n kind
    else if x.step = 5 then (s.bump (F.PD_COLLCNT n)).pdSend n .wait
    else if s.pdBusy n then s.pdSend n .wait
    else s.swapJudge n kind)

/-- PD_SWAP_RESPONSE_RECEIVE (R407, R413): the partner answers 0 Accept, 1 Reject, 2 Wait to a swap; to a Request a Reject or Wait
leaves the contract that stands. -/
def execPdSwapResponseReceive (n ans : Nat) (s : State) : Host.Outcome State Fault Refusal :=
  .next (let x := s.pdp n
    if 3 ≤ n ∨ !(s.pdHears n) then s
    else if x.step = 3 ∧ ans ≠ 0 ∧ s.get (F.PD_STAT_CONTRACT n) ≠ 0 then
      (s.pdM n fun y => { y with step := 0, offer := none }).pdCatch n
    else if x.step ≠ 4 then s
    else match ans with
    | 0 => s.swapGo n x.swap
    | 2 => (s.pdM n fun y => { y with step := 0, swap := 0, retry := y.swap }).pdCatch n
    | _ => (s.pdM n fun y => { y with step := 0, swap := 0, asked := y.asked ||| 2 ^ y.swap }).pdNext n)

/-- PD_SWAP_RETRY (R414): 100 ms on, the port asks again if it still wants the swap. -/
def execPdSwapRetry (n : Nat) (s : State) : Host.Outcome State Fault Refusal :=
  .next (let x := s.pdp n
    if 3 ≤ n ∨ x.retry = 0 ∨ s.pdBusy n ∨ !(s.pdHears n) then s
    else
      let t := s.pdM n fun y => { y with retry := 0 }
      if t.pdWants n = x.retry ∧ !(s.pdAcked n) then t.askSwap n x.retry else t)

/-! ### VDMs and protection -/

/-- A structured VDM (R114, R115, R408): discovery and mode requests are answered, answers carry discovery on, and the cable's
identity is kept; a Sink it allows EPR Mode then enters it. -/
def State.pdVdm (s : State) (n : Nat) (v : Vdm) : State :=
  match v with
  | .discIdent => s.pdSend n (.vdm false .identAck)
  | .discSvids => s.pdSend n (.vdm false (.svidsAck true))
  | .discModes => (s.latchRates n).pdSend n (.vdm false (.modesAck ((s.latchRates n).modeVdo n)))
  | .enter => s.pdSend n (.vdm false (if s.bit (F.PD_STAT_DR n) then .nak else .enterAck))
  | .exit => s.pdSend n (.vdm false .exitAck)
  | .identAck => if s.bit (F.PD_STAT_DR n) then s.pdSend n (.vdm false .discSvids) else s
  | .svidsAck p => if p ∧ s.bit (F.PD_STAT_DR n) then (s.latchRates n).pdSend n (.vdm false .discModes) else s
  | .modesAck vdo =>
    if s.bit (F.PD_STAT_DR n) ∧ vdo / 32 % 8 = 1 ∧ ((List.range 3).any fun k => vdo / 2 ^ k % 2 == 1 && s.ownRates n / 2 ^ k % 2 == 1) then
      s.pdSend n (.vdm false .enter)
    else s
  | .enterAck => s
  | .exitAck => s
  | .cable active epr amp5 =>
    let t := (s.putAdt (F.ADT_ALT_ACTCBL n) (if active then 1 else 0)).pdM n fun x => { x with cableEpr := epr, cable5 := amp5 }
    if s.get (F.PD_STAT_CONTRACT n) = 1 ∧ !(s.pdBusy n) ∧ !(s.bit (F.PD_STAT_PR n)) ∧ !(s.eprMay n) ∧ t.eprMay n then t.pdSend n (.eprMode 1) else t
  | .nak => s

/-- The voltage a port's VBUS is held against (R410), in 50 mV: the contract's, 5 V without one; the higher one while it changes. -/
def State.pdLevel (s : State) (n : Nat) : Nat :=
  max (if s.get (F.PD_STAT_CONTRACT n) = 0 then 100 else s.get (F.PD_CONTRACT_VOLT n)) ((s.pdp n).offer.elim 0 (·.volt))

/-- The highest power, in W, of the positions that Source_Capabilities offers. -/
def State.sprPdp (s : State) (n : Nat) : Nat := ((s.sourceCaps n false).map fun w => pdoVolt w * pdoCur w / 2000).foldl max 0

/-- PD_VDM_RECEIVE (R114, R406): a structured VDM; a message that asks for what the port tells of itself; BIST, at vSafe5V alone; what
Table 16-1 does not support is refused. -/
def execPdVdmReceive (n : Nat) (m : PdIn) (s : State) : Host.Outcome State Fault Refusal :=
  .next (if 3 ≤ n ∨ !(s.pdHears n) then s
    else
      let x := s.pdp n
      let src := s.bit (F.PD_STAT_PR n)
      match m with
      | .vdm v => s.pdVdm n v
      | .getSourceCap =>
        if src then (if s.pdBusy n then s else s.pdCaps n)
        else if s.pdRole n = 2 then s.pdSend n (.sourceCaps false (s.sourceCaps n false)) else s.pdRefuse n
      | .getSinkCap => if src && s.pdRole n != 2 then s.pdRefuse n else s.pdSend n (.sinkCaps (s.sinkTable n))
      | .getSourceCapExt =>
        if x.rev < 30 ∨ (!src ∧ s.pdRole n ≠ 2) then s.pdRefuse n
        else s.pdSend n (.sourceCapsExt (s.get F.PCX_ID_VID) (s.sprPdp n) (min 240 (s.get (F.PD_EPRLIM_PDP n))))
      | .getStatus => if x.rev < 30 then s.pdRefuse n else (s.pdSend n (.status x.trips)).pdM n fun y => { y with trips := 0 }
      | .bist mode =>
        if s.pdLevel n ≠ 100 then s
        else if mode = 5 then s.pdSend n .bistCarrier
        else if mode = 8 then s.pdM n fun y => { y with bist := true }
        else s.pdRefuse n
      | .unsupported => s.pdRefuse n)

/-- The row of Table 16-2 that readings of VBUS (56.25 mV) and of the current (7.03 mA) meet: 1 over-voltage, 2 over-current as Source, 3
under-voltage as Sink outside a transition. -/
def State.pdTripRow (s : State) (n vbus isns : Nat) : Option Nat :=
  let v := s.pdLevel n
  let src := s.bit (F.PD_STAT_PR n)
  let con := s.get (F.PD_STAT_CONTRACT n) ≠ 0
  if 5280000 < vbus * 5625 ∨ ((s.pdp n).hard = 0 ∧ v * 55000 < vbus * 56250) then some 1
  else if src ∧ con ∧ s.get (F.PD_CONTRACT_CUR n) * 5000 < isns * 2812 then some 2
  else if !src ∧ con ∧ !(s.pdBusy n) ∧ vbus * 562500 < v * 425000 then some 3
  else none

/-- A trip raises its event, counts, and sends Alert where a contract allows it (R410). -/
def State.pdTrip (s : State) (n row : Nat) : State :=
  let t := ((s.bump (F.PD_PROTCNT n)).raise (60 + n) 6 [row]).pdM n fun x => { x with trips := x.trips ||| 2 ^ row }
  if t.get (F.PD_STAT_CONTRACT n) = 0 ∨ (t.pdp n).rev < 30 then t else t.pdSend n (.alert row)

/-- VBUS_PROTECTION_TRIP (R410): the readings of VBUS and of its current that stood for as long as Table 16-2 asks. -/
def execVbusProtectionTrip (n : Nat) (x : VbusSense) (s : State) : Host.Outcome State Fault Refusal :=
  .next (if 3 ≤ n ∨ !(s.pdAttached n) then s
    else
      let s := s.put (F.PD_VBUS_VBUS n) (min x.vbus 1023)
      match s.pdTripRow n x.vbus x.isns with
      | none => s
      | some row =>
        let t := (s.pdGate n false).pdTrip n row
        let t := if row = 1 then t.pdDisch n true else t
        if row = 3 then t else t.pdHardReset n false)

/-- A thermal trip at the ports (R32, R410): VBUS goes, contracts are lost, every port is Unattached, with its CC lines open. -/
def State.pdThermTrip (s : State) : State := [0, 1, 2].foldl (fun u n => (u.pdOff n).pdUnattach n) s

/-- PORST_N rises after a thermal trip: the ports restart from Unattached (R410). -/
def State.pdRestart (s : State) : State :=
  if s.boot.portsOff then [0, 1, 2].foldl (fun u n => u.pdUnattach n) (s.bootM fun b => { b with portsOff := false }) else s

/-- The ports' part of the Lantern's start (R55, R57, R417): VBUS and VCONN off; PD0 is Sink-only where DBRD_EN is 1; a port that finds VBUS above
4.75 V skips the moisture check until its first detach. -/
def State.pdStart (s : State) (dbrd : Bool) (vbus : List Nat) : State :=
  let t := [0, 1, 2].foldl (fun u n =>
    let v := vbus.getD n 0
    ((u.pdOff n).put (F.PD_VBUS_VBUS n) (min v 1023)).pdM n fun x => { x with skip := decide (475000 < v * 5625) }) s
  if dbrd then (((t.put F.GLB_STRAP_DBRD 1).put (F.PD_STAT_DBSINK 0) 1).put (F.PD_STAT_STATE 0) 1).pdTerms 0 else t

end Sys2Proof.Machine
end

