-- ==== Sys2Proof/Machine/Hewers.lean ====
section
/-! DEFINITION. Hewers, Gallery SRAM and DRAM (chapter 18): custom instructions and monitor calls, checkpoints, takeovers, user
programs, memory errors. A Hewer's base instructions run outside the model: a command carries the values its instruction reads. -/

namespace Sys2Proof.Machine

/-! ### Hewers -/

/-- STATE of a Hewer. -/
def State.hwState (s : State) (n : Nat) : Nat := s.get (F.HWR_STAT_STATE n)

/-- Write integer register `rd` of a Hewer: x0 keeps 0. -/
def State.setX (s : State) (n rd : Nat) (v : Word) : State :=
  if rd = 0 then s else s.coreM n fun h => { h with x := h.x.set rd v }

/-- A negative result of a monitor call (R451). -/
def negWord (k : Nat) : Word := 0 - BitVec.ofNat 32 k

/-- A monitor call's result in a0 (R451). -/
def State.setA0 (s : State) (n : Nat) (v : Word) : State := s.setX n 10 v

/-- Whether a Hewer is one of the four that run user programs. -/
def isUser (n : Nat) : Bool := decide (20 ≤ n) && decide (n < 24)

/-- A user Hewer is halted for a cause (R454). -/
def State.userHalt (s : State) (n cause : Nat) : State :=
  ((((s.put (F.HWR_STAT_STATE n) 5).put (F.HWR_STAT_CAUSE n) cause).coreM n fun h => { h with wait := none })).raise 7 3 [n, cause]

/-- An instruction of a running Hewer that M-mode alone may execute: from U-mode it is illegal (R442, R443, R454). -/
def State.machineOnly (s : State) (n : Nat) (g : State → State) : State :=
  if 24 ≤ n ∨ s.hwState n ≠ 1 then s else if (s.core n).user then s.userHalt n 2 else g s

/-- An instruction either mode may execute. -/
def State.anyMode (s : State) (n : Nat) (g : State → State) : State := if 24 ≤ n ∨ s.hwState n ≠ 1 then s else g s

/-- FTIME (R442): rs1 0 samples the time and gives NS; 1 and 2 give SEC, of the time held for two reads. Other values of rs1
are given no result: a free value. -/
def execFtime (n rd sel : Nat) (s : State) : Host.Outcome State Fault Refusal :=
  .next (s.whenUp fun s => (s.anyMode n fun t =>
    let h := t.core n
    let sec := if 0 < h.heldReads then h.held else t.sec
    if sel = 0 then (t.coreM n fun x => { x with held := t.sec, heldReads := 2 }).setX n rd (BitVec.ofNat 32 t.ns)
    else
      let u := t.coreM n fun x => { x with heldReads := x.heldReads - 1 }
      u.setX n rd (BitVec.ofNat 32 (match sel with | 1 => sec | 2 => sec / 2 ^ 32 | _ => Config.pick [sel, t.now]))))

/-- CRC32 (R442): a byte folded into a running value with the polynomial of R148. -/
def execCrc32 (n rd : Nat) (acc : Word) (b : BitVec 8) (s : State) : Host.Outcome State Fault Refusal :=
  .next (s.whenUp fun s => (s.anyMode n fun t => t.setX n rd (crcStepsLsb 0xEDB88320#32 8 (acc ^^^ b.setWidth 32))))

/-! ### Duties, checkpoints and journals (R444 to R447) -/

/-- The duty a Hewer holds. -/
def State.dutyOf (s : State) (n : Nat) : Option Nat := if s.get (F.HWR_STAT_DUTY n) < 18 then some (s.get (F.HWR_STAT_DUTY n)) else none

/-- A duty's checkpoints and journal. -/
def State.duty (s : State) (d : Nat) : DutySt := s.hew.duties.getD d DutySt.reset

/-- Change a duty. -/
def State.dutyM (s : State) (d : Nat) (g : DutySt → DutySt) : State := s.hewM fun h => { h with duties := h.duties.modify d g }

/-- The newest complete checkpoint of a duty. -/
def DutySt.newest (d : DutySt) : CkSlot := if d.slot0.seq < d.slot1.seq then d.slot1 else d.slot0

/-- A checkpoint of a duty's context (R446): the slots in turn; the journal keeps the last two intervals (R447). -/
def DutySt.checkpoint (d : DutySt) (bytes : List (BitVec 8)) : DutySt :=
  let c : CkSlot := { seq := d.seq + 1, eff := d.next - 1, bytes := bytes }
  let prev := d.newest
  let d := { d with seq := d.seq + 1, journal := d.journal.filter fun e => decide (prev.eff < e.num) }
  if (d.seq + 1) % 2 = 0 then { d with slot0 := c } else { d with slot1 := c }

/-- CKPT (R442, R446): `bytes` are the low 32 KiB of the data TCM; rd takes the checkpoint's sequence number. -/
def execCkpt (n rd : Nat) (bytes : List (BitVec 8)) (s : State) : Host.Outcome State Fault Refusal :=
  .next (s.whenUp fun s => (s.machineOnly n fun t =>
    match t.dutyOf n with
    | some d =>
      let u := t.dutyM d fun x => x.checkpoint (bytes.take 32768)
      u.setX n rd (BitVec.ofNat 32 (u.duty d).seq)
    | none => t))

/-- EVR (R442, R452): an event with 12 DATA bytes. -/
def execEvr (n ev : Nat) (data : List (BitVec 8)) (s : State) : Host.Outcome State Fault Refusal :=
  .next (s.whenUp fun s => (s.machineOnly n fun t => t.raiseBytes (ev % 512) false 0 (data.take 12)))

/-- WAITEV (R442): with a source of the mask pending, rd takes the pending sources; otherwise the Hewer stalls where it is. -/
def execWaitev (n rd : Nat) (mask pend : Word) (s : State) : Host.Outcome State Fault Refusal :=
  .next (s.whenUp fun s => (s.machineOnly n fun t => if mask &&& pend = 0 then t else t.setX n rd (mask &&& pend)))

/-- HWMODE_WRITE (R443): the state the Hewer is ready for. -/
def execHwmodeWrite (n v : Nat) (s : State) : Host.Outcome State Fault Refusal :=
  .next (s.whenUp fun s => (s.machineOnly n fun t =>
    let u := t.put (F.HWR_STAT_MODE n) v
    if u.get F.PWR_STAT_PHASE = 1 ∧ v % 8 = u.pwr.entry then { u with pwr := { u.pwr with ready := n :: u.pwr.ready.filter (· != n) } } else u))

/-- HWKICK (R443): the watchdog restarts. -/
def execHwkick (n : Nat) (s : State) : Host.Outcome State Fault Refusal :=
  .next (s.whenUp fun s => (s.machineOnly n fun t => t.coreM n fun h => { h with kick := t.uptime }))

/-- Firmware starts (R444, R449, R69 step 7): the duties go to the Hewers of Table 18-3, HEW0 at `entry`, and the spares stand by. -/
def State.startHewers (s : State) (entry : Nat) : State :=
  let t := s.hewM fun _ => { cores := List.replicate 24 HewerSt.reset, duties := List.replicate 18 DutySt.reset, takes := [], spillAt := none, corAt := none }
  let t := (List.range 18).foldl (fun u n =>
    ((u.put (F.HWR_STAT_STATE n) 1).put (F.HWR_STAT_DUTY n) n).put (F.HWR_MAP_HEWER n) n |>.coreM n fun h =>
      { h with kick := s.uptime, entry := if n = 0 then entry else Config.hewerEntry n }) t
  (t.put (F.HWR_STAT_STATE 18) 3).put (F.HWR_STAT_STATE 19) 3

/-! ### Failures and takeovers (R445, R448, R449) -/

/-- The cause byte of Table 18-9 for a CAUSE code. -/
def failCause (c : Nat) : Nat := match c with | 14 => 1 | 13 => 2 | 15 => 3 | _ => 4

/-- The lowest spare in standby. -/
def State.spare (s : State) : Option Nat := [18, 19].find? fun n => s.hwState n == 3

/-- A duty Hewer fails: isolated, logged, its duty given to a spare, or stopped. -/
def State.dutyFails (s : State) (n d cause : Nat) : State :=
  let c := failCause cause
  let old := s.hew.takes.filter fun k => k.duty == d
  let t := ((s.put (F.HWR_STAT_STATE n) 4).put (F.HWR_STAT_CAUSE n) cause).put (F.HWR_STAT_DUTY n) 0x1F
  let t := t.hewM fun h => { h with takes := h.takes.filter fun k => k.duty != d }
  let q := t.get F.FLT_SEQ_NEXT
  match t.spare with
  | some m =>
    let t := t.logFault 3 n 7 true (d + 256 * m + 65536 * c)
    let t := ((t.put (F.HWR_MAP_HEWER d) m).put (F.HWR_STAT_STATE m) 0).put (F.HWR_STAT_DUTY m) d
    t.hewM fun h => { h with takes := h.takes ++
      [{ duty := d, old := n, new := m, cause := c, started := false, late := false, seqs := q :: old.flatMap (·.seqs) }] }
  | none => (t.logFault 3 n 7 false (d + 65280 + 65536 * c)).raise 7 1 [d, n, c]

/-- A Hewer fails with a CAUSE code: on duty, standing by, or with a user program. -/
def State.hewerFails (s : State) (n cause : Nat) : State :=
  if 24 ≤ n ∨ s.hwState n = 4 ∨ s.hwState n = 5 then s
  else if isUser n then (if s.hwState n = 1 ∨ s.hwState n = 2 then s.userHalt n cause else s)
  else match s.dutyOf n with
  | some d => s.dutyFails n d cause
  | none =>
    if s.hwState n = 3 then
      let c := failCause cause
      (((s.put (F.HWR_STAT_STATE n) 4).put (F.HWR_STAT_CAUSE n) cause).raiseWith (8 * 7 + 2) true 0 [n, c]).logFault 4 n 7 true (n + 256 * c)
    else s

/-- HEWER_WATCHDOG_EXPIRY (R445): a running duty Hewer has not kicked for HWRn_WDT.US. -/
def execHewerWatchdogExpiry (n : Nat) (s : State) : Host.Outcome State Fault Refusal := .next (s.whenUp fun s => (if isUser n ∨ s.hwState n ≠ 1 ∨ !(s.due (some (s.core n).kick) (1000 * max 2 (s.get (F.HWR_WDT_US n)))) then s else s.hewerFails n 14))

/-- HEWER_FAILURE (R445): a TCM ECC error (13), a lock-step mismatch on HEW0 to HEW3 (15), an M-mode exception's cause. -/
def execHewerFailure (n cause : Nat) (s : State) : Host.Outcome State Fault Refusal :=
  .next (s.whenUp fun s => (if cause = 15 ∧ 4 ≤ n then s else s.hewerFails n (cause % 16)))

/-- TAKEOVER_IMAGE_LOADED (R448, R463): the duty's image and newest complete checkpoint are loaded, and the spare starts.
`reloaded`: an uncorrectable error made duty 0 reload the image from flash. -/
def execTakeoverImageLoaded (d : Nat) (reloaded : Bool) (s : State) : Host.Outcome State Fault Refusal :=
  .next (s.whenUp fun s => (match s.hew.takes.find? fun k => k.duty == d && !k.started with
    | some k =>
      let c := (s.duty d).newest
      let t := (s.put (F.HWR_STAT_STATE k.new) 1).coreM k.new fun h => { h with kick := s.uptime }
      let t := (t.dutyM d fun x => { x with next := c.eff + 1 }).emit (.hewerMem k.new 0x10000 c.bytes)
      t.hewM fun h => { h with takes := updBy (fun j => j.duty == d) (fun j => { j with started := true, late := reloaded }) h.takes }
    | none => s))

/-- TAKEOVER_CATCHUP_DONE (R448): the takeover event, and the fault's recovery is complete (Table 20-1). -/
def execTakeoverCatchupDone (d : Nat) (s : State) : Host.Outcome State Fault Refusal :=
  .next (s.whenUp fun s => (match s.hew.takes.find? fun k => k.duty == d && k.started with
    | some k =>
      let t := (s.hewM fun h => { h with takes := h.takes.filter fun j => j.duty != d }).bump F.HWR_TAKEOVERS
      (t.raiseWith (8 * 7) (!k.late) 0 [d, k.old, k.new, k.cause]).closeFaults fun o => k.seqs.contains o.seq
    | none => s))

/-! ### User programs (R450 to R454) -/

/-- The Gallery window of a user Hewer in bytes of Gallery SRAM, where it has one (HWRn_GWIN). -/
def State.gwin (s : State) (n : Nat) : Option (Nat × Nat) :=
  let b := s.get (F.HWR_GWIN_BASE n)
  let z := s.get (F.HWR_GWIN_SIZE n)
  if z = 0 ∨ 256 < z ∨ 1024 < b + z then none else some (4096 * (Config.userPool + b), 4096 * z)

/-- Whether a buffer lies within the ranges PMP admits (R450). -/
def State.bufOk (s : State) (n addr len : Nat) : Bool :=
  (decide (0x1000 ≤ addr) && decide (addr + len ≤ 0x10000)) || (decide (0x10000 ≤ addr) && decide (addr + len ≤ 0x1F000)) ||
    (match s.gwin n with
     | some (b, z) => decide (0x10000000 + b ≤ addr) && decide (addr + len ≤ 0x10000000 + b + z)
     | none => false)

/-- A monitor call of a running user program (R451). -/
def State.monitor (s : State) (n : Nat) (g : State → State) : State :=
  if isUser n ∧ s.hwState n = 1 ∧ (s.core n).wait.isNone then g s else s

/-- The Hewer the local PTP path goes to (HWR_PTPSEL, R453). -/
def State.ptpTarget (s : State) : Nat := if isUser (s.get F.HWR_PTPSEL_TARGET) then s.get F.HWR_PTPSEL_TARGET else 9

/-- The MAC whose local path holds a frame for a user Hewer. -/
def State.ptpMac (s : State) (n : Nat) : Option Nat := if s.ptpTarget = n then [0, 1].find? fun m => (s.mac m).localRx != [] else none

/-- The sources of WAIT that are ready (R451). -/
def State.sources (s : State) (n : Nat) : Nat :=
  (if s.bit (F.HWR_MBCTL_INFULL n) then 1 else 0) + (if (s.core n).events = [] then 0 else 2) + (if (s.ptpMac n).isSome then 4 else 0)

/-- A WAIT ends when a source is ready, or with 0 at its timeout. -/
def State.waitPoll (s : State) : State :=
  [20, 21, 22, 23].foldl (fun t n =>
    match (t.core n).wait with
    | some (mask, end_) =>
      let r := BitVec.ofNat 32 mask &&& BitVec.ofNat 32 (t.sources n)
      if r ≠ 0 then (t.coreM n fun h => { h with wait := none }).setA0 n r
      else if end_.any (fun e => decide (e ≤ t.uptime)) then (t.coreM n fun h => { h with wait := none }).setA0 n 0
      else t
    | none => t) s

/-- Bytes of a mailbox. -/
def State.mailBytes (s : State) (n len : Nat) : List (BitVec 8) :=
  ((List.range 64).flatMap fun w => leBytes 4 (s.rd (A.HWR_MBIN n w)).toNat).take len

/-- MB_RECV (R451). -/
def execMbRecv (n buf cap : Nat) (s : State) : Host.Outcome State Fault Refusal :=
  .next (s.whenUp fun s => (s.monitor n fun t =>
    let msg := (t.core n).inbox
    if !(t.bit (F.HWR_MBCTL_INFULL n)) then t.setA0 n (negWord 1)
    else if cap < msg.length ∨ !(t.bufOk n buf msg.length) then t.setA0 n (negWord 3)
    else ((t.put (F.HWR_MBCTL_INFULL n) 0).emit (.hewerMem n buf msg)).setA0 n (BitVec.ofNat 32 msg.length)))

/-- MB_SEND (R451, R452): `bytes` stand in the buffer. -/
def execMbSend (n buf : Nat) (bytes : List (BitVec 8)) (s : State) : Host.Outcome State Fault Refusal :=
  .next (s.whenUp fun s => (s.monitor n fun t =>
    let len := bytes.length
    if len = 0 ∨ 256 < len ∨ !(t.bufOk n buf len) then t.setA0 n (negWord 3)
    else if (t.core n).unread then t.setA0 n (negWord 2)
    else
      let u := (List.range ((len + 3) / 4)).foldl (fun v w => v.wr (A.HWR_MBOUT n w) (BitVec.ofNat 32 (leNat (slice bytes (4 * w) 4)))) t
      (((u.put (F.HWR_MBCTL_OUTLEN n) len).coreM n fun h => { h with unread := true }).raise 7 4 [n, len]).setA0 n 0))

/-- EV_SUB (R451, R452). -/
def execEvSub (n ev on : Nat) (s : State) : Host.Outcome State Fault Refusal :=
  .next (s.whenUp fun s => (s.monitor n fun t =>
    if 511 < ev ∨ 1 < on then t.setA0 n (negWord 3)
    else (t.coreM n fun h => { h with subs := if on = 1 then ev :: h.subs.filter (· != ev) else h.subs.filter (· != ev) }).setA0 n 0))

/-- EV_NEXT (R451). -/
def execEvNext (n buf : Nat) (s : State) : Host.Outcome State Fault Refusal :=
  .next (s.whenUp fun s => (s.monitor n fun t =>
    match (t.core n).events with
    | [] => t.setA0 n (negWord 1)
    | r :: rest =>
      if !(t.bufOk n buf 32) then t.setA0 n (negWord 3)
      else ((t.coreM n fun h => { h with events := rest }).emit (.hewerRec n buf r)).setA0 n 0))

/-- WAIT (R451): a mask of sources and a timeout in µs, 0 for none. -/
def execWait (n mask tmo : Nat) (s : State) : Host.Outcome State Fault Refusal :=
  .next (s.whenUp fun s => (s.monitor n fun t =>
    (t.coreM n fun h => { h with wait := some (mask, if tmo = 0 then none else some (t.uptime + 1000 * tmo)) }).waitPoll))

/-- PTP_RECV (R451, R453). -/
def execPtpRecv (n buf cap : Nat) (s : State) : Host.Outcome State Fault Refusal :=
  .next (s.whenUp fun s => (s.monitor n fun t =>
    match t.ptpMac n with
    | none => t.setA0 n (negWord 1)
    | some m =>
      match (t.mac m).localRx with
      | [] => t.setA0 n (negWord 1)
      | (bytes, _) :: rest =>
        if cap < bytes.length ∨ !(t.bufOk n buf bytes.length) then t.setA0 n (negWord 3)
        else ((t.macM m fun x => { x with localRx := rest }).emit (.hewerMem n buf bytes)).setA0 n (BitVec.ofNat 32 bytes.length)))

/-- PTP_SEND (R451, R453): `bytes` stand in the buffer; a TSREQ frame asks for a Glint. -/
def execPtpSend (n buf mac tsid : Nat) (tsreq : Bool) (bytes : List (BitVec 8)) (s : State) : Host.Outcome State Fault Refusal :=
  .next (s.whenUp fun s => (s.monitor n fun t =>
    let used := (((t.mac mac).tx.filter (·.local_)).map (·.bytes.length)).sum
    if 1 < mac ∨ t.isHost ∨ bytes = [] ∨ !(t.bufOk n buf bytes.length) then t.setA0 n (negWord 3)
    else if Config.macLocalBytes < used + bytes.length then t.setA0 n (negWord 2)
    else (t.macM mac fun x => { x with tx := x.tx ++
      [{ bytes := bytes, time := false, yel := false, tsid := if tsreq then some (tsid % 256) else none, local_ := true }] }).setA0 n 0))

/-- EXIT (R451). -/
def execExit (n : Nat) (s : State) : Host.Outcome State Fault Refusal := .next (s.whenUp fun s => (s.monitor n fun t => t.put (F.HWR_STAT_STATE n) 6))

/-- A write of HWRn_CTRL (R450, R454): RUN starts a user program that does not run. -/
def State.writeHwrCtrl (s : State) (n : Nat) (v : Word) : State :=
  if !(isUser n) then s.bump F.HWR_IGNWR
  else
    let t := s.put (F.HWR_CTRL_RUN n) (bitsOf v 0 1)
    if bitsOf v 0 1 = 1 ∧ s.hwState n ≠ 1 ∧ s.hwState n ≠ 2 then
      ((t.put (F.HWR_STAT_STATE n) 1).coreM n fun h => { h with user := true, kick := s.uptime, wait := none, heldReads := 0, entry := 0x1000 }).emit (.hewerRun n 0x1000)
    else t

/-- A write of HWRn_GWIN: only while RUN is 0 (R463). -/
def State.writeGwin (s : State) (n : Nat) (v : Word) : State :=
  if !(isUser n) ∨ s.bit (F.HWR_CTRL_RUN n) then s.bump F.HWR_IGNWR else (s.put (F.HWR_GWIN_BASE n) (bitsOf v 0 10)).put (F.HWR_GWIN_SIZE n) (bitsOf v 16 9)

/-- A write of HWRn_MBCTL (R452, R463): SEND delivers the message unless one is unread. -/
def State.writeMbctl (s : State) (n : Nat) (v : Word) : State :=
  if !(isUser n) then s.bump F.HWR_IGNWR
  else if bitsOf v 9 1 = 0 then s.put (F.HWR_MBCTL_INLEN n) (bitsOf v 0 9)
  else if s.bit (F.HWR_MBCTL_INFULL n) ∨ bitsOf v 0 9 = 0 ∨ 256 < bitsOf v 0 9 then s.bump F.HWR_IGNWR
  else
    let t := s.coreM n fun h => { h with inbox := s.mailBytes n (bitsOf v 0 9) }
    ((t.put (F.HWR_MBCTL_INLEN n) (bitsOf v 0 9)).put (F.HWR_MBCTL_INFULL n) 1).waitPoll

/-- USER_HEWER_EXCEPTION (R454). -/
def execUserHewerException (n cause : Nat) (s : State) : Host.Outcome State Fault Refusal :=
  .next (s.whenUp fun s => (if isUser n ∧ (s.hwState n = 1 ∨ s.hwState n = 2) then s.userHalt n (cause % 16) else s))

/-! ### Gallery SRAM and DRAM (R455 to R459) -/

/-- An uncorrectable error in a region (R457): 1 frame data (the frame at place `i` of port `p`'s queue), 2 a checkpoint slot,
3 tables a duty re-derives, 4 the user pool, 5 event holding (of ring `p`). -/
def State.galleryRegion (s : State) (addr region p i : Nat) : State :=
  match region with
  | 1 =>
    match (s.sch p).queue[i]? with
    | some q =>
      let t := s.dropQueued p fun e => e == q
      match q.queue.bind s.ctx with
      | some c => if c.isEnd ∧ q.from_.isNone then t.resend c.idx else t
      | none => t
    | none => s
  | 2 =>
    s.dutyM (addr / 65536) fun d => if addr / 32768 % 2 = 0 then { d with slot0 := { d.slot0 with seq := 0 } } else { d with slot1 := { d.slot1 with seq := 0 } }
  | 4 =>
    [20, 21, 22, 23].foldl (fun t n =>
      match t.gwin n with
      | some (b, z) =>
        if b ≤ addr ∧ addr < b + z ∧ (t.hwState n = 1 ∨ t.hwState n = 2) then t.userHalt n (Config.pick [addr, n] % 16) else t
      | none => t) s
  | 5 => s.setRing { s.ring p with held := (s.ring p).held.drop 1, dropped := true }
  | _ => s

/-- GALLERY_ECC_ERROR (R457, R494): region 0 is a correctable error. -/
def execGalleryEccError (addr region p i : Nat) (s : State) : Host.Outcome State Fault Refusal :=
  .next (s.whenUp fun s => (let bank := addr / 524288
    if 64 ≤ bank ∨ 5 < region then s
    else if region = 0 then
      let t := s.bump F.MEM_GCOR
      let t := if t.due t.hew.corAt 1000000000 then (t.hewM fun h => { h with corAt := some t.uptime }).raiseWith (8 * 10) true 0 [bank] else t
      let last := (t.flt.gcor.find? fun e => e.1 == bank).map (·.2)
      if t.bit F.FLT_CTRL_GCORLOG ∧ t.due last 1000000000 then
        ({ t with flt := { t.flt with gcor := putBy (fun e => e.1 == bank) (bank, t.uptime) t.flt.gcor } }).logFault 5 bank 10 true bank
      else t
    else
      let masked := decide (region ≤ 2)
      let t := ((s.bump F.MEM_GUNC).put F.MEM_GERRADDR_ADDR (addr / 8 * 8)).galleryRegion addr region p i
      (t.raiseWith (8 * 10 + 1) masked 0 [region, bank]).logFault 6 bank 10 masked (region + 256 * bank)))

/-- DRAM_TEMPERATURE_CHANGE (R458): the die temperature in °C, two's complement, and the refresh rate at 85 °C. -/
def execDramTemperatureChange (temp : Nat) (s : State) : Host.Outcome State Fault Refusal :=
  .next (s.whenMem fun s => (let t := s.put F.MEM_DRAMSTAT_TEMP temp
    let on := decide (85 ≤ temp % 256) && decide (temp % 256 < 128)
    if t.bit F.MEM_DRAMSTAT_DOUBLE = on then t
    else (t.putBit F.MEM_DRAMSTAT_DOUBLE on).raise 10 3 [if on then 1 else 0, temp]))

end Sys2Proof.Machine
end

