-- ==== Sys2Proof/Machine/Schedule.lean ====
section
/-! DEFINITION. The scheduler's clocked rows and its commits (chapter 8). -/

namespace Sys2Proof.Machine

/-! ### Slots, shapers and meters -/

/-- CALENDAR_SLOT (R204, R205, R207): the next slot of a port begins, at the rate the port now has. One that begins while a
commit drains is the new rotation's, and granted at the swap (R220). -/
def execCalendarSlot (p : Nat) (s : State) : Host.Outcome State Fault Refusal :=
  .next (s.whenUp fun s => (if 3 ≤ p then s
    else if (s.sch p).draining.isSome then
      (s.setSlot p).schM p fun c => { c with draining := c.draining.map fun d => { d with slots := d.slots + 1 } }
    else (s.setSlot p).slotBegin p ((s.get (F.SCH_SLOT_POINTER p) + 1) % 1024)))

/-- The indices whose first word is listed in a table of two-word entries. -/
def State.listed (s : State) (base n : Nat) : List Nat :=
  (s.regs.filterMap fun e => if base ≤ e.1 ∧ e.1 < base + 8 * n then some ((e.1 - base) / 8) else none).eraseDups

/-- One microsecond of a port's shapers (R210). -/
def State.shaperTick (s : State) (p : Nat) : State :=
  let t := (s.listed (A.SCH_SHPA0 p 0) 1024).foldl (fun u k =>
    let r := u.get (F.SCH_SHPA0_RATE p k)
    if r = 0 then u
    else
      let v := fun (l : List (Nat × Int)) => putBy (fun e => e.1 == k) (k, shaperGain r (s.get (F.SCH_SHPA1_DEPTH p k)) ((assoc l k).getD 0)) l
      u.schM p fun c => { c with shTok := v c.shTok }) s
  let t := (List.range 8).foldl (fun u k =>
    let r := u.classRate p k
    if r = 0 then u
    else
      let v := fun (l : List (Nat × Int)) => putBy (fun e => e.1 == k) (k, shaperGain r (s.get (F.SCH_CSHA1_DEPTH p k)) ((assoc l k).getD 0)) l
      u.schM p fun c => { c with clTok := v c.clTok }) t
  t.retag p

/-- SHAPER_TICK (R210): at a whole microsecond, the shapers' tokens rise. -/
def execShaperTick (s : State) : Host.Outcome State Fault Refusal :=
  .next (s.whenUp fun s => ([0, 1, 2].foldl (fun t p => t.shaperTick p) s))

/-- METER_TICK (R212): at a whole microsecond, the meters' buckets gain tokens, up to their bursts. -/
def execMeterTick (s : State) : Host.Outcome State Fault Refusal :=
  .next (s.whenUp fun s => { s with meters := s.meters.map fun x =>
    let k := s.meterCfg x.m
    { x with c := min (x.c + min 100000 k.cir) k.cbs, p := min (x.p + min 100000 k.pir) k.pbs } })

/-! ### Epochs and commits (R217 to R221, R224) -/

/-- The epoch length of a port in ns, as it acts (SCHn_EPOCH). -/
def State.epochNs (s : State) (p : Nat) : Nat := 1000 * min 16000 (max 64 (s.get (F.SCH_EPOCHA_LEN p)))

/-- OBSERVATION_MODE_SELECT (R224). -/
def State.chooseMode (s : State) (p : Nat) : State :=
  let n := (s.sch p).activeQ.length
  let mode := if n ≤ 256 then 0 else 1
  let s := (s.sch p).queues.foldl (fun u q => u.highWater p q) s
  let t := (s.put (F.SCH_STAT_ACTQ p) n).put (F.SCH_STAT_MODE p) mode
  if s.get (F.SCH_STAT_MODE p) = mode then t else t.raise (29 + 2 * p) 2 [mode, n % 256, n / 256, 0]

/-- Whether a staged commit is applied at boundary `b`. -/
def stagedDue (g : Option Staged) (b : Nat) : Bool :=
  match g.bind (·.at_) with
  | some a => decide (a ≤ b)
  | none => false

/-- The meters' commit that a boundary of a port applies. -/
def State.metersDue (s : State) (p b : Nat) : Option Staged := if p = 0 ∧ stagedDue s.metStaged b then s.metStaged else none

/-- The scheduler's commit begins its drain; a port that sends nothing swaps at once (R219). -/
def State.beginDrain (s : State) (p b : Nat) (met : Option Staged) : State :=
  let u := (s.drainSettle p).schM p fun c => { c with draining := some { t0 := b, met := met, slots := 1 } }
  if !(u.lit p) ∨ u.bit (F.ADT_STAT_TXDIM p) then u.swap p else u

/-- A boundary of a port at fabric time `b`. -/
def State.epochAt (s : State) (p b : Nat) : State :=
  let t := (s.chooseMode p).schM p fun c => { c with activeQ := c.queues, missed := false, lastBound := b }
  let own := stagedDue (t.sch p).staged b && (t.sch p).draining.isNone
  match s.metersDue p b with
  | some g =>
    let u := t.swapMeters b g
    if own then u.beginDrain p b (some g) else (u.raise 29 0 [8, 0, 0, 0]).lateCommit 0 b g
  | none => if own then t.beginDrain p b none else t

/-- The latest boundary of a port, where it has not been taken: a step of the clock across several counts as one, a step
back repeats none (R217). -/
def State.epoch (s : State) (p : Nat) : State :=
  let b := s.now / s.epochNs p * s.epochNs p
  if (s.sch p).lastBound < b then s.epochAt p b else s

/-- EPOCH_BOUNDARY (R217, R219, R221, R224): with CORE not clocked it waits (R223). -/
def execEpochBoundary (p : Nat) (s : State) : Host.Outcome State Fault Refusal := .next (s.whenUp fun s => (if p < 3 ∧ s.coreClocked then s.epoch p else s))

/-- COMMIT_SWAP (R219, R220): the pipeline of a port that drains is empty. -/
def execCommitSwap (p : Nat) (s : State) : Host.Outcome State Fault Refusal := .next (s.whenUp fun s => (if p < 3 then s.swap p else s))

/-- The blocks a PORTS byte names: schedulers, and bit 3 the meters. -/
def blocksOf (m : Nat) : List Nat := [0, 1, 2, 3].filter fun b => m / 2 ^ b % 2 == 1

/-- Whether a block has a commit or a cart staged. -/
def State.blockStaged (s : State) (b : Nat) : Bool := if b = 3 then s.metStaged.isSome else (s.sch b).staged.isSome

/-- Stage a commit for a block: its shadow locks (R216). -/
def State.stageBlock (s : State) (b : Nat) (g : Staged) : State :=
  if b = 3 then ({ s with metStaged := some g }).put (F.SCH_STAT_METPEND 0) 1
  else ((s.schM b fun c => { c with staged := some g }).put (F.SCH_STAT_PEND b) 1).put (F.SCH_STAT_LOCK b) 1

/-- The staged commits of a cart are discarded: the shadows unlock. -/
def State.unstageCart (s : State) (cart : Nat) : State :=
  let t := [0, 1, 2].foldl (fun u p =>
    if (u.sch p).staged.any (fun g => g.cart == some cart) then
      ((u.schM p fun c => { c with staged := none }).put (F.SCH_STAT_PEND p) 0).put (F.SCH_STAT_LOCK p) 0
    else u) s
  if t.metStaged.any (fun g => g.cart == some cart) then ({ t with metStaged := none }).put (F.SCH_STAT_METPEND 0) 0 else t

/-- The operand bits of SCH_COMMIT (Table 8-3). -/
def schCommitBits : List (Nat × Nat × Nat) := [(0x08, 0, 4), (0x09, 0, 1), (0x10, 0, 48), (0x18, 0, 30)]

/-- SCH_COMMIT on this device (R218). -/
def State.schCommit (s : State) (r : Reply) (ops : BitVec 448) : State :=
  let o := fun (off size : Nat) => ops.toNat / 256 ^ (off - 8) % 256 ^ size
  let blocks := blocksOf (o 0x08 1)
  let at_ := o 0x09 1 % 2 == 1
  let when_ := o 0x10 6 * 1000000000 + o 0x18 4
  let fail := fun (n : Nat) => s.reply r 0x03 (resultOf [(0x14, n)])
  if blocks = [] then fail 1
  else if at_ && (blocks.any fun b => when_ % s.epochNs (b % 3) != 0) then fail 2
  else if (blocks.any fun b => s.blockStaged b) then fail 3
  else
    let soon := s.now + 10000
    let ok := at_ && decide (soon ≤ when_)
    let g : Staged := { at_ := some (if ok then when_ else soon), late := if at_ && !ok then some when_ else none, group := s.nextGroup, cart := none }
    let t := blocks.foldl (fun u b => u.stageBlock b g) s
    { t with nextGroup := s.nextGroup + 1, commits := t.commits ++ [{ group := s.nextGroup, reply := r, todo := (blocks.map (2 ^ ·)).sum, last := 0 }] }

/-- SCH_COMMIT (R218). -/
def execSchCommit (c : HostCmd) (s : State) : Host.Outcome State Fault Refusal :=
  .next (s.command 0x20 true schCommitBits c fun t u => u.onTarget t c fun v => v.schCommit (.host t) c.ops)

/-! ### Latency observation (R224 to R226) -/

/-- A latency sample travels like an event under R98 to R100; it sets no EVT_STAT bit and ignores EVT_MASK. -/
def State.sampleRecord (s : State) (ev grantee : Nat) (vals : List Nat) : State :=
  s.dispatch (s.eventOf ev false (evData ev vals)) grantee

/-- One queue is recorded (R225). -/
def State.sampleQueue (s : State) (p q : Nat) : State :=
  match s.head p q with
  | none => s
  | some h =>
    let g := match s.ctx q with | some c => c.par.grant | none => 0
    s.sampleRecord ((30 + 2 * p) * 8) g [q, h.f.tid, min ((s.sch p).depth q) 0xFFFFFFFF, min (s.now - h.at_) 0xFFFFFFFF]

/-- LATENCY_SAMPLE (R225): in sampling mode, up to 256 queues that hold a frame are recorded, and the rest counted. -/
def execLatencySample (p : Nat) (s : State) : Host.Outcome State Fault Refusal :=
  .next (s.whenUp fun s => (if 3 ≤ p ∨ s.get (F.SCH_STAT_MODE p) ≠ 0 ∨ s.get (F.SCH_CTRL_OBSEN p) ≠ 1 then s
    else
      let qs := (List.range 1024).filter fun q => s.holds p q
      let t := (qs.take 256).foldl (fun u q => u.sampleQueue p q) s
      (qs.drop 256).foldl (fun u _ => u.bump (F.SCH_OBSSKIP p)) t))

/-- Every high-water mark of a port is cleared (R226). -/
def State.clearHigh (s : State) (p : Nat) : State :=
  (s.regs.filter fun e => decide (A.SCH_HW0 p 0 ≤ e.1) && decide (e.1 < A.SCH_HW0 p 0 + 8192)).foldl (fun u e => u.wr e.1 0) s

/-- A write of SCHn_OBSCFG: INTERVAL, and HWCLR. -/
def State.writeObscfg (s : State) (p : Nat) (v : Word) : State :=
  let t := s.put (F.SCH_OBSCFG_INTERVAL p) (bitsOf v 0 10)
  if bitsOf v 16 1 = 1 then t.clearHigh p else t

/-- HIGH_WATER_CLEAR (R226): a write of SCHn_OBSCFG. -/
def execHighWaterClear (r : Req) (p : Nat) (v : Word) (s : State) : Host.Outcome State Fault Refusal :=
  .next (if p < 3 then s.controlWrite r fun t => t.writeObscfg p v else s)

end Sys2Proof.Machine
end

