-- ==== Sys2Proof/Machine/Power.lean ====
section
/-! DEFINITION. Power states, domains and wake (chapter 17): requests and their slots, entry and exit, wake sources, on-demand
wake, Penumbra and Thrift. -/

namespace Sys2Proof.Machine

/-! ### What each loss of power keeps -/

/-- Registers whose home is the Lantern or the OTP (R58, R66, R423, R469): LANT, the PD controllers, straps and causes of reset, the
unique ID, the OTP's words. -/
def lanternReg (a : Nat) : Bool :=
  (decide (0xC000 ≤ a) && decide (a < 0x10000)) || (decide (0x150000 ≤ a) && decide (a < 0x15C000)) ||
    (decide (A.KEY_OTP 0 ≤ a) && decide (a ≤ A.KEY_OTP 59)) || a ∈ [A.GLB_STRAP, A.GLB_RSTCAUSE, A.GLB_UIDLO, A.GLB_UIDHI, A.PCX_ID]

/-- An output after a reset: the monitor at it stays. -/
def OutSt.afterReset (o : OutSt) : OutSt := { OutSt.reset with monitor := o.monitor }

/-- The USB block after a loss of its state: the devices and over-currents outside stay, and AUTO's candidate, which follows the ports'
attachment in the Lantern (R390). -/
def UsbSt.afterReset (u : UsbSt) : UsbSt := { UsbSt.reset with devs := u.devs, ocLow := u.ocLow, cand := u.cand, gone := u.gone }

/-- A firmware session that a reset or a power loss ended (R401). -/
def State.fwLost (s old : State) : State :=
  if old.usb.session.isSome then (s.put F.USB_YALSTAT_FWSTATE 4).put F.USB_YALSTAT_FWERR 4 else s

/-- The device with everything outside the Lantern lost (R58, R425): the OTP and its counts, the slots' generations, the try record,
the queue of commands, what has gone out, and what stands outside the device (PCIE_PERST_N, monitors, USB devices) stay. -/
def State.lanternOnly (s : State) : State :=
  let t := { State.reset with regs := s.regs.filter (fun e => lanternReg e.1), uptime := s.uptime, boot := s.boot, smb := s.smb, ctl := { CtlSt.reset with mirror := s.regs.filter fun e => decide (0xC000 ≤ e.1) && decide (e.1 < 0x10000) }, pds := s.pds, draws := s.draws, outs := s.outs, pcs := s.pcs.map PcsSt.afterReset, pending := s.pending, own := { OwnSt.reset with perstHigh := s.own.perstHigh }, dispOuts := s.dispOuts.map OutSt.afterReset, usb := s.usb.afterReset, keys := { KeyStSt.reset with slots := s.keys.slots.map KeySlot.erase, cells := s.keys.cells, depRoot := s.keys.depRoot, rmaRoot := s.keys.rmaRoot, svnA := s.keys.svnA, svnB := s.keys.svnB } }
  let t := ((t.put F.GLB_BOOT_AFAIL (s.get F.GLB_BOOT_AFAIL)).put F.GLB_BOOT_BFAIL (s.get F.GLB_BOOT_BFAIL)).put F.GLB_BOOT_SVNCTR (s.get F.GLB_BOOT_SVNCTR)
  (((t.put F.KEY_LCS_CUR (s.get F.KEY_LCS_CUR)).put F.KEY_LCS_BURNT (s.get F.KEY_LCS_BURNT)).put F.KEY_LCS_PROGD (s.get F.KEY_LCS_PROGD)
    |>.put F.KEY_LCS_PARTIAL (s.get F.KEY_LCS_PARTIAL)).fwLost s

/-- How Deep sleep keeps a block's registers (R425, R426, R496): 2 whole (the Lantern's, the Lamp Room's, the fault log), 1 all but the
tallies (what firmware holds), 0 only what software sets up and the active scheduler tables. -/
def keptBlock : Blk → Nat
  | .lant | .pd | .flt | .key => 2
  | .pwr | .fab | .hwr | .glb => 1
  | _ => 0

/-- A word as Deep sleep leaves it: with the tables a scheduler keeps what it tells of staged commits and of its mode. -/
def retained (a : Nat) (w : Word) : Word :=
  match blockOf a, regAt a with
  | some (b, _, _), some d =>
    if keptBlock b = 2 ∨ a = A.TIM_STEPLO ∨ a = A.TIM_STEPHI then w
    else if a ∈ [0, 1, 2].map A.SCH_STAT then w &&& 0xF
    else
      d.fields.foldl (fun v f =>
        if f.acc ∈ [.rw, .rwS, .roA, .rwL] ∨ (keptBlock b = 1 ∧ f.acc = .ro) then putBits v f.lo f.width (bitsOf w f.lo f.width) else v) (regReset a)
  | _, _ => w

/-- A context as the retention region keeps it (R426): no copies, no held frames. -/
def TunCtx.slept (c : TunCtx) : TunCtx := { c with copies := [], held := [], waiting := [], lastResend := none, first := Offer.idle }

/-- What Deep sleep loses (R425, R426): queues, replay buffers, copies, reflection buffers, output maps, key slots, TCMs; frame stores
when DRAMKEEP is 0. Firmware's own state stays in the checkpoints. -/
def State.deepLoss (s : State) : State :=
  let t : State := { s with
    regs := (s.regs.map fun e => (e.1, retained e.1 e.2)).filter fun e => e.2 != regReset e.1
    ports := s.ports.map fun x => { PortSt.reset with shared := x.shared, rate := x.rate }
    links := List.replicate 3 LinkSt.reset
    schs := s.schs.map fun c => { SchSt.reset with staged := c.staged, lastBound := c.lastBound }
    tun := { s.tun with ctxs := s.tun.ctxs.map TunCtx.slept, owed := [], cplPool := [], cplLoose := 0, loop := [] }
    tim := { TimSt.reset with integ := s.tim.integ }
    macs := List.replicate 2 MacSt.reset
    nics := List.replicate 2 NicSt.reset
    srcs := List.replicate 6 SrcSt.reset
    dispOuts := s.dispOuts.map fun o => { OutSt.reset with monitor := o.monitor, mode := o.mode, flip := o.flip }
    store := if s.bit F.PWR_CFG_DRAMKEEP then s.store else { s.store with slots := [] }
    pcx := PcxSt.reset
    usb := s.usb.afterReset
    keys := { s.keys with slots := s.keys.slots.map KeySlot.erase, running := none, queue := [] }
    hew := { s.hew with cores := s.hew.cores.map fun h => { HewerSt.reset with inbox := h.inbox, unread := h.unread } }
    arb := ArbSt.reset
    drift := List.replicate 14 DriftOut.reset }
  t.fwLost s

/-! ### The pre-check and the handshake (R430, R431) -/

/-- A block's answer to a target: 0 ACK, 1 DENY, 2 DEFER (Table 17-4). Steps 1 to 8 are PD0, PD1, PD2, TIM, ADT0, ADT1, ADT2, MEM;
`busy`: DRAM requests are outstanding. -/
def State.pwrAnswer (s : State) (step st : Nat) (busy : Bool) : Nat :=
  match step with
  | 1 | 2 | 3 => if s.pdBusy (step - 1) then 2 else 0
  | 4 => if 3 ≤ st ∧ s.tim.self ∧ [0, 1, 2].any (fun p => s.pstate p == 1) then 1 else 0
  | 5 | 6 | 7 => if 3 ≤ st ∧ ((s.link (step - 5)).replay != [] ∨ 0 < s.e2eOcc (step - 5)) then 2 else 0
  | _ => if busy then 2 else 0

/-- The block code of a handshake step (PWR_REQ RESULT 0x0C). -/
def blockCode (step : Nat) : Nat := [0, 6, 7, 8, 4, 1, 2, 3, 5].getD step 0

/-- POWER_PRECHECK (R430): the block that refuses a target, 0 where none does. -/
def State.precheck (s : State) (st : Nat) : Nat :=
  if st < 2 then 0
  else match [1, 2, 3, 4, 5, 6, 7, 8].find? fun k => s.pwrAnswer k st false == 1 with
  | some k => blockCode k
  | none => if 3 ≤ st ∧ s.isHost ∧ s.own.perstHigh ∧ !s.pcx.l2 then 9 else 0

/-! ### Requests (R428 to R430) -/

/-- Change the power manager's internal state. -/
def State.pwrM (s : State) (g : PwrSt → PwrSt) : State := { s with pwr := g s.pwr }

/-- Hewers of a set leave WFI, their watchdogs starting again, or enter it. -/
def State.hewWfi (s : State) (ns : List Nat) (wfi : Bool) : State :=
  ns.foldl (fun t n =>
    if t.hwState n = (if wfi then 1 else 2) then
      (t.put (F.HWR_STAT_STATE n) (if wfi then 2 else 1)).coreM n fun h => if wfi then h else { h with kick := s.uptime }
    else t) s

/-- The pending slot takes a request, or is emptied; the event tells of one replaced or cleared (R429, Table 17-7). -/
def State.setPend (s : State) (p : Option Nat) : State :=
  let t := match p with
    | some st => (s.put F.PWR_STAT_PEND st).put F.PWR_STAT_PENDV 1
    | none => (s.put F.PWR_STAT_PEND 0).put F.PWR_STAT_PENDV 0
  if s.bit F.PWR_STAT_PENDV then t.raise 1 2 [s.get F.PWR_STAT_PEND, p.getD 0xFF, 0, 0] else t

/-- An exit to Run begins (R434, R436): PEND and SRC of LANT_WAKE are cleared, the count of a Deep sleep is fixed. -/
def State.beginExit (s : State) (tgt : Nat) : State :=
  let t := ((s.put F.PWR_STAT_TGT tgt).put F.PWR_STAT_PHASE 5).pwrM fun w => { w with at_ := s.uptime, wake := false }
  let t := (t.put F.LANT_WAKE_PEND 0).put F.LANT_WAKE_SRC 0
  if s.get F.PWR_STAT_CUR = 3 then
    let n := (s.uptime - s.pwr.dsAt) * 32768 / 1000000000
    (t.put F.LANT_DSTICKS_TICKS (n % 2 ^ 32)).put F.LANT_DSTICKSHI_TICKS (n / 2 ^ 32 % 65536)
  else t

/-- A request that has passed its pre-check becomes the target of a stable device: an entry or an exit begins (R429, R431). -/
def State.beginTarget (s : State) (st : Nat) : State :=
  if st < s.get F.PWR_STAT_CUR then s.beginExit st
  else
    (((s.put F.PWR_STAT_TGT st).put F.PWR_STAT_PHASE 1).pwrM fun w =>
      { w with entry := st, abort := false, at_ := s.uptime, ready := [] }).hewWfi (List.range 24) false

/-- A pre-check refusal, as PWR_LAST records it. -/
def State.refusedBy (s : State) (st blk : Nat) : State := ((s.put F.PWR_LAST_TGT st).put F.PWR_LAST_BLOCK blk).put F.PWR_LAST_CAUSE 3

/-- A request is placed (R429): DISP, and the block that refuses it at the pre-check (0 none). -/
def State.pwrRequest (s : State) (st : Nat) : State × Nat × Nat :=
  let cur := s.get F.PWR_STAT_CUR
  let ph := s.get F.PWR_STAT_PHASE
  let pend := (s.setPend (some st), if s.bit F.PWR_STAT_PENDV then 3 else 2, 0)
  if cur = 4 ∨ s.boot.held then (s, 0, 0)
  else if ph = 5 then pend
  else if ph = 0 then
    if st = cur then (s, 0, 0)
    else if cur < st ∧ s.precheck st ≠ 0 then (s.refusedBy st (s.precheck st), 0, s.precheck st)
    else (s.beginTarget st, 1, 0)
  else if st < s.get F.PWR_STAT_TGT then
    if cur < st ∧ s.precheck st ≠ 0 then (s.refusedBy st (s.precheck st), 0, s.precheck st)
    else
      let t := if s.bit F.PWR_STAT_PENDV then s.setPend none else s
      ((t.put F.PWR_STAT_TGT st).pwrM fun w => { w with abort := true }, 4, 0)
  else pend

/-- The pending slot's content as RESULT gives it. -/
def State.pendByte (s : State) : Nat := if s.bit F.PWR_STAT_PENDV then s.get F.PWR_STAT_PEND else 0xFF

/-- PWR_REQ's answer here: code and result. -/
def State.pwrReq (s : State) (ops : BitVec 448) : State × Nat × BitVec 448 :=
  let st := ops.toNat % 8
  if 4 < st then (s, 0x03, 0)
  else
    let r := s.pwrRequest st
    let t := r.1
    let res := [(0x08, r.2.1), (0x09, t.get F.PWR_STAT_CUR), (0x0A, t.get F.PWR_STAT_TGT), (0x0B, t.pendByte)]
    if r.2.2 = 0 then (t, 0, resultOf res) else (t, 0x38, resultOf (res ++ [(0x0C, r.2.2)]))

/-- The operand bits PWR_REQ uses. -/
def pwrReqBits : List (Nat × Nat × Nat) := [(0x08, 0, 3)]

/-- PWR_REQ (R428, R430). -/
def execPwrReq (c : HostCmd) (s : State) : Host.Outcome State Fault Refusal :=
  .next (s.command 0x50 true pwrReqBits c fun t u => u.onTarget t c fun v => State.answer t (v.pwrReq c.ops))

/-! ### Entry (R431, R432) -/

/-- A stable power manager goes on (R429, R435): a latched wake is replayed, or a pending request becomes the target. -/
def State.pwrSettle (s : State) : State :=
  let cur := s.get F.PWR_STAT_CUR
  if cur = 4 then s
  else if s.pwr.wake then
    let t := (if s.bit F.PWR_STAT_PENDV then s.setPend none else s).pwrM fun w => { w with wake := false }
    if cur = 0 then t else t.beginExit 0
  else if s.bit F.PWR_STAT_PENDV then
    let st := s.get F.PWR_STAT_PEND
    let t := (s.put F.PWR_STAT_PEND 0).put F.PWR_STAT_PENDV 0
    if st = cur then t
    else if cur < st ∧ t.precheck st ≠ 0 then t.refusedBy st (t.precheck st)
    else t.beginTarget st
  else s

/-- Undo what an entry has done: the phases are left, ports may come up again, Hewers of a device in Run resume. -/
def State.undoEntry (s : State) : State :=
  let deep := s.deepAsleep
  let dram := s.get F.PWR_STAT_PHASE = 3
  let t := (((s.put F.PWR_STAT_PHASE 0).put F.PWR_STAT_STEP 0).put F.PWR_STAT_DEFER 0).pwrM fun w => { w with abort := false, ready := [] }
  let t := t.hewWfi (List.range 24) (decide (0 < s.get F.PWR_STAT_CUR))
  let t := if dram ∧ s.get F.PWR_STAT_CUR < 2 then t.put F.MEM_DRAMSTAT_STATE 1 else t
  if deep then [0, 1, 2].foldl (fun u p => if u.mayDetect p then u.toDetect p else u) t else t

/-- A shallower request met the entry (R432): it is undone, and the new target follows, or Run where a wake was latched (R435). -/
def State.abortEntry (s : State) : State :=
  let t := s.undoEntry
  if t.pwr.wake then (t.put F.PWR_STAT_TGT (t.get F.PWR_STAT_CUR)).pwrSettle
  else if t.get F.PWR_STAT_TGT = t.get F.PWR_STAT_CUR then t.pwrSettle
  else t.beginTarget (t.get F.PWR_STAT_TGT)

/-- An entry is abandoned (R431): cause 1 DENY, 2 DEFER expired. -/
def State.abandon (s : State) (cause : Nat) : State :=
  let tgt := s.get F.PWR_STAT_TGT
  let blk := blockCode (s.get F.PWR_STAT_STEP)
  let t := (((s.put F.PWR_LAST_TGT tgt).put F.PWR_LAST_BLOCK blk).put F.PWR_LAST_CAUSE cause).bump F.PWR_ABANDON
  let t := (t.put F.PWR_STAT_TGT (s.get F.PWR_STAT_CUR)).undoEntry
  (t.raise 1 1 [tgt, blk, cause, 0]).pwrSettle

/-- 100 µs units since the transition began, as two bytes. -/
def State.pwrTime (s : State) : List Nat :=
  let n := min ((s.uptime - s.pwr.at_) / 100000) 0xFFFF
  [n % 256, n / 256]

/-- A state is entered (Table 17-3, Table 17-7); in Idle DRAM that no output reads is powered down (Table 17-2). -/
def State.enterState (s : State) (st : Nat) : State :=
  let old := s.get F.PWR_STAT_CUR
  let t := ((s.put F.PWR_STAT_CUR st).put F.PWR_STAT_PHASE 0).raise 1 0 ([old, st] ++ s.pwrTime)
  let t := if st = 1 ∧ !((List.range 4).any fun k => s.bit (F.DSO_OUT_CTRL_EN k)) then t.put F.MEM_DRAMSTAT_STATE 2 else t
  t.pwrM fun w => { w with abort := false, ready := [], woken := 0 }

/-- After a state is entered: a latched wake is replayed (R435), a request that came in the gate phase is reached by an exit (R432), or the next
one is taken. -/
def State.afterEntry (s : State) : State :=
  if s.get F.PWR_STAT_TGT < s.get F.PWR_STAT_CUR ∧ !s.pwr.wake then s.beginExit (s.get F.PWR_STAT_TGT) else s.pwrSettle

/-- HEWER_PHASE_DONE (R431, R432, R463): every duty Hewer has set HWMODE to the target, one that takes a duty over too; all execute WFI. -/
def execHewerPhaseDone (s : State) : Host.Outcome State Fault Refusal :=
  .next (if s.get F.PWR_STAT_PHASE ≠ 1 ∨ ((List.range 20).any fun n => decide (s.hwState n ≤ 1) && (s.dutyOf n).isSome && !(s.pwr.ready.contains n)) then s
    else
      let t := s.hewWfi (List.range 24) true
      if s.pwr.abort then t.abortEntry
      else if s.pwr.entry = 1 then (t.enterState 1).afterEntry
      else (t.put F.PWR_STAT_PHASE 2).put F.PWR_STAT_STEP 1)

/-- USER_HEWER_WFI_TIMEOUT (R431, R454). -/
def execUserHewerWfiTimeout (n : Nat) (s : State) : Host.Outcome State Fault Refusal :=
  .next (if s.get F.PWR_STAT_PHASE = 1 ∧ isUser n ∧ s.hwState n = 1 then ((s.userHalt n 10).bump F.PWR_HWFORCE).raise 1 3 [n, 0, 0, 0] else s)

/-- The prepare phase begins (Table 17-3, R427): scan-out stops, DRAM enters self-refresh or is switched off, for Deep sleep and Off
every port goes DARK. -/
def State.prepare (s : State) : State :=
  let t := ((s.put F.PWR_STAT_PHASE 3).put F.PWR_STAT_STEP 0).put F.PWR_STAT_DEFER 0
  let st := s.pwr.entry
  let t := if 3 ≤ st then [0, 1, 2].foldl (fun u p => u.goDark p 10 false) t else t
  t.put F.MEM_DRAMSTAT_STATE (if st = 2 ∨ (st = 3 ∧ s.bit F.PWR_CFG_DRAMKEEP) then 3 else 0)

/-- HANDSHAKE_ANSWER (R431, R432, R437): the block of the step answers; after the last ACK the prepare phase begins. -/
def execHandshakeAnswer (busy : Bool) (s : State) : Host.Outcome State Fault Refusal :=
  .next (if s.get F.PWR_STAT_PHASE ≠ 2 then s
    else
      let k := s.get F.PWR_STAT_STEP
      match s.pwrAnswer k s.pwr.entry busy with
      | 0 =>
        if s.pwr.abort then s.abortEntry
        else if k = 8 then s.prepare
        else (s.put F.PWR_STAT_STEP (k + 1)).put F.PWR_STAT_DEFER 0
      | 1 => if s.pwr.abort then s.abortEntry else s.abandon 1
      | _ => s.put F.PWR_STAT_DEFER 1)

/-- HANDSHAKE_DEFER_EXPIRY (R431). -/
def execHandshakeDeferExpiry (s : State) : Host.Outcome State Fault Refusal :=
  .next (if s.get F.PWR_STAT_PHASE = 2 ∧ s.bit F.PWR_STAT_DEFER then (if s.pwr.abort then s.abortEntry else s.abandon 2) else s)

/-- PREPARE_PHASE_DONE (R431, R432). -/
def execPreparePhaseDone (s : State) : Host.Outcome State Fault Refusal :=
  .next (if s.get F.PWR_STAT_PHASE = 3 then (if s.pwr.abort then s.abortEntry else s.put F.PWR_STAT_PHASE 4) else s)

/-- POWER_STATE_ENTERED (R424, R425, R429, R431, R435). -/
def execPowerStateEntered (s : State) : Host.Outcome State Fault Refusal :=
  .next (if s.get F.PWR_STAT_PHASE ≠ 4 then s
    else
      let st := s.pwr.entry
      let t := s.enterState st
      if st = 4 then ((t.lanternOnly.put F.PWR_STAT_CUR 4).put F.PWR_STAT_TGT 4).bootM fun b => { b with held := true, romDone := false }
      else if st = 3 then
        let u := (t.deepLoss.keyRegs).pwrM fun w => { w with dsAt := s.uptime }
        ([0, 1, 2].foldl (fun v p => v.put (F.ADT_STAT_LASTFAIL p) 10) u).afterEntry
      else t.afterEntry)

/-! ### Wake (R433 to R435) -/

/-- Whether source `j` of LANT_WAKESEL is selected and active: a WAKE pin at `level` against POL, PCIE_PERST_N in host role alone (R434). -/
def State.wakes (s : State) (j : Nat) (level : Bool) : Bool :=
  decide (j < 9) && bitsOf (s.rd A.LANT_WAKESEL) j 1 == 1 && (j != 8 || s.isHost) &&
    (j == 0 || decide (4 < j) || level == (s.get F.LANT_WAKESEL_POL / 2 ^ (j - 1) % 2 == 1))

/-- WAKE_SOURCE (R434, R435): source j of LANT_WAKESEL; `level` is the level of a WAKE pin. -/
def execWakeSource (x : WakeIn) (s : State) : Host.Outcome State Fault Refusal :=
  let j := x.j
  .next (if !(s.wakes j x.level) then s
    else
      let t := (s.put F.LANT_WAKE_PEND 1).put F.LANT_WAKE_SRC (s.get F.LANT_WAKE_SRC ||| 2 ^ j)
      let cur := s.get F.PWR_STAT_CUR
      let ph := s.get F.PWR_STAT_PHASE
      if cur = 4 ∨ ph = 5 ∨ (ph = 0 ∧ cur = 0) then t
      else if ph = 0 then
        ((if t.bit F.PWR_STAT_PENDV then t.setPend none else t).raise 3 0 [j + 1, 0, 0, 0]).beginExit 0
      else ((t.put F.LANT_WAKE_LATCHED 1).pwrM fun w => { w with wake := true }).raise 3 0 [j + 1, 1, 0, 0])

/-- The Hewers of domain HWA (10) or HWB (11). -/
def hewDomain (dom : Nat) : List Nat := if dom = 10 then List.range 12 else if dom = 11 then (List.range 12).map (· + 12) else []

/-- Domains whose clock a state stops and an access starts again (Table 17-2). -/
def stopped (st : Nat) : List Nat := match st with | 1 => [0, 10, 11] | 2 => [0, 1, 5, 7, 9, 10, 11] | _ => []

/-- CORE runs again: boundaries that passed meanwhile are taken (R223). -/
def State.coreRuns (s : State) : State := [0, 1, 2].foldl (fun t p => t.epoch p) s

/-- DOMAIN_WAKE (R15, R433): the first access to a stopped domain, by its number in PWR_DOM; one held off in the role does not wake. -/
def execDomainWake (dom : Nat) (s : State) : Host.Outcome State Fault Refusal :=
  .next (s.whenUp fun s => (if dom ∉ stopped (s.get F.PWR_STAT_CUR) ∨ !(s.domPowered dom) ∨ s.get F.PWR_STAT_PHASE = 5 ∨ s.pwr.woken / 2 ^ dom % 2 = 1 then s
    else
      let t := ((s.pwrM fun w => { w with woken := w.woken + 2 ^ dom, wokeAt := putBy (fun e => e.1 == dom) (dom, s.uptime) w.wokeAt }).bump F.PWR_DOMWAKE).hewWfi (hewDomain dom) false
      if dom = 0 then t.coreRuns else t))

/-- PWR_DOMIDLE.US: 0 counts as 1, above 1,000 as 1,000. -/
def State.domIdle (s : State) : Nat := max 1 (min 1000 (s.get F.PWR_DOMIDLE_US))

/-- DOMAIN_IDLE_STOP (R433): a woken domain has had no work for DOMIDLE microseconds, so that it woke no later than that. -/
def execDomainIdleStop (dom : Nat) (s : State) : Host.Outcome State Fault Refusal :=
  .next (s.whenUp fun s => (if s.pwr.woken / 2 ^ dom % 2 = 0 ∨ !(s.due (assoc s.pwr.wokeAt dom) (1000 * s.domIdle)) then s
    else (s.pwrM fun w => { w with woken := w.woken - 2 ^ dom }).hewWfi (hewDomain dom) true))

/-- Whether a moment is at most 200 ns ahead. -/
def State.soon (s : State) (x : Nat) : Bool := decide (s.now ≤ x) && decide (x ≤ s.now + 200)

/-- Whether CORE is needed within 200 ns (R433): in Idle for an epoch boundary, an armed flip or a cart's commit, in Sleep for a commit alone. -/
def State.coreSoon (s : State) : Bool :=
  (s.crt.slots.any fun c => s.soon c.t) || (s.get F.PWR_STAT_CUR == 1 &&
    (([0, 1, 2].any fun p => s.soon ((s.now + s.epochNs p - 1) / s.epochNs p * s.epochNs p)) ||
      s.dispOuts.any fun o => match o.flip with | some f => f.armed && s.soon f.when | none => false))

/-- CORE_PRESTART (R433): the time unit starts CORE 200 ns ahead of what it is needed for. -/
def execCorePrestart (s : State) : Host.Outcome State Fault Refusal :=
  .next (s.whenUp fun s => (
    if s.pwr.woken % 2 = 0 ∧ s.coreSoon ∧ (s.get F.PWR_STAT_CUR = 1 ∨ s.get F.PWR_STAT_CUR = 2) then
      (s.pwrM fun w => { w with woken := w.woken + 1, wokeAt := putBy (fun e => e.1 == 0) (0, s.uptime) w.wokeAt }).coreRuns
    else s))

/-! ### Exit (R436) -/

/-- Deep sleep is over: root key and identity in their slots, Hewers restored, user programs restarted, ports and outputs start. -/
def State.deepExit (s : State) : State :=
  let ticks := s.get F.LANT_DSTICKS_TICKS + 2 ^ 32 * s.get F.LANT_DSTICKSHI_TICKS
  let t := { s with clock := s.clock + ticks * 1000000000 * nsUnit / 32768 }.loadRoot
  let t := (List.range 24).foldl (fun u n => if u.hwState n ≠ 1 then u
    else if isUser n then (u.coreM n fun h => { h with kick := s.uptime, user := true, entry := 0x1000 }).emit (.hewerRun n 0x1000)
    else u.coreM n fun h => { h with kick := s.uptime }) t
  let t := [0, 1, 2].foldl (fun u p => if u.mayDetect p then u.toDetect p else u) t
  ([0, 1, 2, 3].foldl (fun u k => if u.hasOuts then ((u.outState k).sendRefresh k 2).startHdcp k else u) t).usbFollow

/-- POWER_EXIT_COMPLETE (R223, R306, R425, R426, R429, R436). -/
def execPowerExitComplete (s : State) : Host.Outcome State Fault Refusal :=
  .next (if s.get F.PWR_STAT_PHASE ≠ 5 then s
    else
      let old := s.get F.PWR_STAT_CUR
      let t := ((s.put F.PWR_STAT_CUR 0).put F.PWR_STAT_PHASE 0).pwrM fun w => { w with woken := 0 }
      let t := (t.hewWfi (List.range 24) false).put F.MEM_DRAMSTAT_STATE 1
      let t := if old = 3 then t.deepExit else t
      let t := if 2 ≤ old then t.missFlips else t
      let t := (t.coreRuns).raise 1 4 ([old, 0] ++ s.pwrTime)
      let tgt := t.get F.PWR_STAT_TGT
      if tgt = 0 then t.pwrSettle
      else if t.precheck tgt ≠ 0 then ((t.refusedBy tgt (t.precheck tgt)).put F.PWR_STAT_TGT 0).pwrSettle
      else t.beginTarget tgt)

/-! ### Penumbra and Thrift (R438) -/

/-- The Penumbra warning level in millivolts (R44): LEVEL steps of 5 mV above 0.670 V. -/
def State.warnLevel (s : State) : Nat := 670 + 5 * s.get F.PWR_WARN_LEVEL

/-- PENUMBRA_ENTRY (R44, R438, R112, R489): VDD_CORE is sampled at `mv` millivolts, below the warning level. -/
def execPenumbraEntry (mv : Nat) (s : State) : Host.Outcome State Fault Refusal :=
  .next (s.whenUp fun s => (if s.boot.thrift ∨ s.warnLevel ≤ mv then s
    else
      let t := (s.bootM fun b => { b with penumbra := true, thrift := true }).pwrM fun w => { w with thrAt := s.uptime, thrMin := mv }
      ((((t.bump F.PWR_THRIFTCNT).alert 2).raise 2 0 [mv % 256, mv / 256, 0, 0]).logFault 9 0 2 false mv)))

/-- THRIFT_LEAVE (R44, R438): `low` is the lowest sample since Thrift was entered. -/
def execThriftLeave (low : Nat) (s : State) : Host.Outcome State Fault Refusal :=
  .next (s.whenUp fun s => (if !s.boot.thrift then s
    else
      let mv := min low s.pwr.thrMin
      let us := (s.uptime - s.pwr.thrAt) / 1000
      let t := s.bootM fun b => { b with penumbra := false, thrift := false }
      let t := (t.put F.PWR_PEN_MINMV mv).put F.PWR_PEN_DURUS (min us (2 ^ 22 - 1))
      let d := min us 0xFFFF
      (t.raise 2 1 [mv % 256, mv / 256, d % 256, d / 256]).closeFaults fun o => o.cls == 9))

end Sys2Proof.Machine
end

