-- ==== Sys2Proof/Machine/Carts.lean ====
section
/-! DEFINITION. Carts (chapter 13): the coordinator's checks, votes and decision, the participant's slots, staging, commit and
abort, and the SEQS of moved ends. Times are nanoseconds of fabric time. -/

namespace Sys2Proof.Machine

/-! ### Slots and messages -/

/-- Change the cart unit. -/
def State.crtM (s : State) (g : CrtSt → CrtSt) : State := { s with crt := g s.crt }

/-- A cart coordinated here. -/
def State.cart (s : State) (id : Nat) : Option CartCo := s.crt.cos.find? fun c => c.id == id

/-- Change a cart coordinated here. -/
def State.cartM (s : State) (id : Nat) (g : CartCo → CartCo) : State := s.crtM fun x => { x with cos := updBy (fun c => c.id == id) g x.cos }

/-- A participant slot. -/
def State.cslot (s : State) (coord id : Nat) : Option CartSlot := s.crt.slots.find? fun c => c.coord == coord && c.id == id

/-- Change a participant slot. -/
def State.cslotM (s : State) (coord id : Nat) (g : CartSlot → CartSlot) : State :=
  s.crtM fun x => { x with slots := updBy (fun c => c.coord == coord && c.id == id) g x.slots }

/-- Put a slot back. -/
def State.putSlot (s : State) (c : CartSlot) : State := s.cslotM c.coord c.id fun _ => c

/-- A slot becomes FREE. -/
def State.dropSlot (s : State) (c : CartSlot) : State :=
  s.crtM fun x => { x with slots := x.slots.filter fun y => !(y.coord == c.coord && y.id == c.id) }

/-- The name of a cart in staged items. -/
def CartSlot.key (c : CartSlot) : Nat := c.coord * 65536 + c.id

/-- The STATE a coordinator without a part of its own shows (R357, R360). -/
def CartCo.shown (c : CartCo) : Nat := if c.dec = 0 then 1 else 5

/-- The actions of a cart that a device holds: each record once (R359, R360). -/
def actCount (acts : List CartAct) : Nat := (acts.map (·.idx)).eraseDups.length

/-- Carts in flight on this device (R355): each counted once. -/
def State.cartKeys (s : State) : List (Nat × Nat) :=
  ((s.crt.cos.map fun c => (s.fid, c.id)) ++ s.crt.slots.map fun c => (c.coord, c.id)).eraseDups

/-- The CRT_SLOT a cart takes: the one it has as coordinator, or the lowest free. -/
def State.cartPlace (s : State) (coord id : Nat) : Nat :=
  match (if coord = s.fid then s.cart id else none) with
  | some c => c.k
  | none => ((List.range 17).find? fun k => !(s.crt.cos.any fun c => c.k == k) && !(s.crt.slots.any fun c => c.k == k)).getD 16

/-- A cart message to a device: one to this device itself waits its turn. -/
def State.cartSend (s : State) (fid coord id t : Nat) (b : CartBody) : State :=
  if fid = s.fid then s.crtM fun x => { x with loop := x.loop ++ [(coord, id, t, b)] } else s.emit (.msg (.fid fid) (.cart coord id t b))

/-- A message by the primary and by the alternate port (R351). -/
def State.cartTwice (s : State) (fid coord id t : Nat) (b : CartBody) : State :=
  let u := s.cartSend fid coord id t b
  if fid ≠ s.fid ∧ s.bit (F.FAB_RT_ALTV fid) then u.emit (.msg (.fidAlt fid) (.cart coord id t b)) else u

/-- A cart event (R359): DATA begins with CART_ID and the coordinator's FID. -/
def State.cartEvent (s : State) (bit coord id : Nat) (data : List Nat) : State := s.raise 38 bit ([id, coord] ++ data)

/-! ### The action list (R343, R344) -/

/-- A 32-byte action record. -/
def readAct (w : BitVec 256) : CartRaw :=
  { typ := w.toNat % 256, fid := w.toNat / 256 % 256, flags := w.toNat / 65536 % 256, prm := w.toNat / 2 ^ 32 }

/-- Parameter bytes of an action, by their offset. -/
def prmAt (r : CartRaw) (off size : Nat) : Nat := r.prm / 256 ^ off % 256 ^ size

/-- The parameters where TUN_OPEN's and TIM_ARM's operands stand: from offset 0x08. -/
def prmOps (r : CartRaw) : BitVec 448 := BitVec.ofNat 448 r.prm

/-- The parameter bits of a TYPE (Table 13-2), as operand bits from offset 0x08. -/
def prmBits (r : CartRaw) : List (Nat × Nat × Nat) :=
  match r.typ with
  | 1 | 6 => [(0x08, 0, 4)]
  | 2 => openBits (prmOps r)
  | 3 => [(0x08, 0, 16)]
  | 4 => [(0x08, 0, 16), (0x0A, 0, 8), (0x0B, 0, 8), (0x0C, 0, 16), (0x0E, 0, 8), (0x0F, 0, 8)]
  | 5 => [(0x08, 0, 16), (0x0A, 0, 8)]
  | 7 => [(0x08, 0, 4), (0x0C, 0, 32), (0x10, 0, 48), (0x18, 0, 30), (0x1C, 0, 32)]
  | 8 => [(0x08, 0, 3)]
  | _ => [(0x08, 0, 8)]

/-- The TYPE is known and the reserved bits are 0 (REASON 4). -/
def actClean (w : BitVec 256) : Bool :=
  let r := readAct w
  decide (1 ≤ r.typ) && decide (r.typ ≤ 9) && decide (r.fid < 64) && decide (r.flags < (if r.typ = 3 ∨ r.typ = 4 then 2 else 1)) &&
    w.toNat / 2 ^ 24 % 256 == 0 && opsClean (prmOps r) (prmBits r)

/-- The parameters are in range (REASON 4). -/
def actRange (r : CartRaw) : Bool :=
  let one := fun (f : Nat) => decide (1 ≤ f) && decide (f ≤ 62)
  (if r.typ ∈ [1, 6, 7, 8] then one r.fid else r.fid == 0) &&
  match r.typ with
  | 1 | 6 => prmAt r 0 1 != 0
  | 2 =>
    let f := prmAt r 3 1
    decide (prmAt r 2 1 % 16 ≤ 8) && f / 4 % 4 != 3 && !(f / 4 % 4 == 2 && f / 16 % 4 == 3) && indexOk (prmAt r 10 2) && indexOk (prmAt r 12 2) &&
      decide (prmAt r 4 1 ≤ 62) && decide (prmAt r 5 1 ≤ 62) && decide (prmAt r 16 1 ≤ 62)
  | 3 => decide (prmAt r 0 2 < 4096)
  | 4 => decide (prmAt r 0 2 < 4096) && decide (prmAt r 2 1 < 2) && one (prmAt r 3 1)
  | 5 => decide (prmAt r 0 2 < 4096) && decide (prmAt r 2 1 ≤ 62)
  | 7 =>
    let w := prmAt r 4 4
    let p := prmAt r 20 4
    prmAt r 0 1 != 0 && decide (10 ≤ w) && decide (w ≤ 999999999) && (p == 0 || decide (w + 10 ≤ p)) && decide (prmAt r 16 4 < 1000000000)
  | 8 => decide (prmAt r 0 1 ≤ 4)
  | 9 => one (prmAt r 0 1)
  | _ => true

/-- The TIDs an action of the map moves with a TID: a leader's whole bundle. -/
def bundleOf (m : List TunPar) (tid : Nat) : List TunPar := m.filter fun p => p.tid == tid || (p.bundle == tid && tid != 0)

/-- What an action touches: TIDs (a CLOSE or RETARGET of a leader its whole bundle's), a scheduler block, an output, a trigger, a device's power. -/
def State.actItems (s : State) (r : CartRaw) : List (Nat × Nat × Nat) :=
  let bits := [0, 1, 2, 3].filter fun b => prmAt r 0 1 / 2 ^ b % 2 == 1
  match r.typ with
  | 1 => bits.map fun b => (1, r.fid, b)
  | 6 => bits.map fun b => (2, r.fid, b)
  | 7 => bits.map fun b => (3, r.fid, b)
  | 8 => [(4, r.fid, 0)]
  | 9 => []
  | 3 | 4 => (0, prmAt r 0 2, 0) :: (bundleOf (s.tun.map.map (·.par)) (prmAt r 0 2)).map fun p => (0, p.tid, 0)
  | _ => [(0, prmAt r 0 2, 0)]

/-- The first action that clashes (REASON 5). -/
def State.actClash (s : State) (l : List CartRaw) : Option Nat :=
  (List.range l.length).find? fun i =>
    match l[i]? with
    | some r =>
      if r.typ = 9 then i + 1 != l.length
      else (l.take i).any fun q => (s.actItems q).any fun x => (s.actItems r).contains x
    | none => false

/-! ### The plan (R345): what each device of a cart does -/

/-- A map after an action. -/
def State.mapAfter (s : State) (m : List TunPar) (r : CartRaw) : List TunPar :=
  let tid := prmAt r 0 2
  match r.typ with
  | 2 => m ++ [s.openPar (prmOps r)]
  | 3 => m.filter fun p => !(p.tid == tid || (p.bundle == tid && tid != 0))
  | 4 => m.map fun p => if p.tid = tid ∨ (p.bundle = tid ∧ tid ≠ 0) then movedTo p (prmAt r 2 1 == 1) (prmAt r 3 1) (prmAt r 4 2) (prmAt r 6 1) (prmAt r 7 1) else p
  | 5 => m.map fun p => if p.tid = tid then { p with grant := prmAt r 2 1 } else p
  | _ => m

/-- The operands held for a TID, with their path set. -/
def State.heldPath (s : State) (tid : Nat) : List Nat := match s.heldTid tid with | some h => s.pathHeld h | none => []

/-- The actions one record makes at the devices it concerns: (FID, action). -/
def State.spreadAct (s : State) (i : Nat) (r : CartRaw) : List (Nat × CartAct) :=
  let act := fun (k : ActKind) => ({ idx := i, kind := k, bad := none, busy := false, raw := r } : CartAct)
  let tid := prmAt r 0 2
  let held := (bundleOf (s.tun.map.map (·.par)) tid)
  match r.typ with
  | 1 => [(r.fid, act (.sched (prmAt r 0 1 % 16)))]
  | 2 =>
    let p := s.openPar (prmOps r)
    (s.pathOf p).map fun f => (f, act (.open_ p))
  | 3 => held.flatMap fun p => (s.heldPath p.tid).map fun f => (f, act (.close p.tid (r.flags == 1)))
  | 4 =>
    held.flatMap fun p =>
      let q := movedTo p (prmAt r 2 1 == 1) (prmAt r 3 1) (prmAt r 4 2) (prmAt r 6 1) (prmAt r 7 1)
      let new := s.pathOf q
      ((s.heldPath p.tid) ++ new).eraseDups.map fun f => (f, act (.retarget p q (prmAt r 2 1 == 1) (r.flags == 1) (new.contains f)))
  | 5 => (s.heldPath tid).map fun f => (f, act (.grant tid (prmAt r 2 1)))
  | 6 => [(r.fid, act (.flip (prmAt r 0 1 % 16)))]
  | 7 => [(r.fid, act (.trig (prmAt r 0 1 % 16) (prmAt r 8 6 * 1000000000 + prmAt r 16 4) (prmAt r 4 4) (prmAt r 20 4)))]
  | 8 => [(r.fid, act (.power (prmAt r 0 1 % 8)))]
  | 9 => [prmAt r 0 1, s.fid].eraseDups.map fun f => (f, act (.yield (prmAt r 0 1)))
  | _ => []

/-- The devices an action names or needs. -/
def State.actFids (s : State) (i : Nat) (r : CartRaw) : List Nat :=
  let named := match r.typ with
    | 2 => let p := s.openPar (prmOps r); [p.aFid, p.bFid] ++ (if p.grant = 0 then [] else [p.grant])
    | 4 => [prmAt r 3 1]
    | 5 => if prmAt r 2 1 = 0 then [] else [prmAt r 2 1]
    | _ => []
  named ++ (s.spreadAct i r).map (·.1)

/-- The device a cart cannot reach: absent from the graph, or with no path for an OPEN or RETARGET. -/
def State.actLost (s : State) (i : Nat) (r : CartRaw) : Option Nat :=
  match (s.actFids i r).find? fun f => (s.roleOf f).isNone with
  | some f => some f
  | none =>
    match r.typ with
    | 2 => let p := s.openPar (prmOps r); if s.pathOf p = [] then some p.bFid else none
    | 4 =>
      match s.heldTid (prmAt r 0 2) with
      | some h =>
        let q := movedTo h.par (prmAt r 2 1 == 1) (prmAt r 3 1) (prmAt r 4 2) (prmAt r 6 1) (prmAt r 7 1)
        if s.pathOf q = [] then some (prmAt r 3 1) else none
      | none => none
    | _ => none

/-- What Table 7-6 finds wrong with a tunnel action beside the map `m` after every action of the cart (cause 1): device and
SUBREASON. -/
def State.actBad (s : State) (m : List TunPar) (r : CartRaw) : Option (Nat × Nat) :=
  let tid := prmAt r 0 2
  let judge := fun (p : TunPar) =>
    match s.checkTunOn (m.filter fun q => q.tid != p.tid) p p.policy p.fport (fun _ => true) with
    | some (_, reason, f) => some (if f = 0 then p.aFid else f, reason)
    | none => none
  match r.typ with
  | 2 => judge (s.openPar (prmOps r))
  | 3 | 4 =>
    match s.heldTid tid with
    | some h =>
      if h.par.bundle ≠ 0 then some (h.par.aFid, 10)
      else if r.typ = 4 then (m.find? fun p => p.tid == tid).bind judge else none
    | none => none
  | 5 =>
    let to_ := prmAt r 2 1
    if to_ ≠ 0 ∧ s.roleOf to_ ≠ some 0 then (s.heldTid tid).map fun h => (h.par.aFid, 7) else none
  | _ => none

/-- The whole plan in list order, each bad action marked on one of its devices. -/
def State.cartPlan (s : State) (l : List CartRaw) : List (Nat × CartAct) :=
  let m := l.foldl s.mapAfter (s.tun.map.map (·.par))
  l.zipIdx.flatMap fun e =>
    let as := s.spreadAct e.2 e.1
    match s.actBad m e.1 with
    | none => as
    | some (f, reason) =>
      let at_ := if as.any (fun a => a.1 == f) then f else (as.head?.map (·.1)).getD 0
      as.map fun a => if a.1 = at_ then (a.1, { a.2 with bad := some reason }) else a

/-! ### Staging at a participant (R345, R348) -/

/-- Contexts of a TID here. -/
def State.ctxCount (s : State) (tid : Nat) : Nat := (s.tun.ctxs.filter fun c => c.par.tid == tid).length

/-- Contexts an action needs here. -/
def State.actNeeds (s : State) : ActKind → Nat
  | .open_ p => (s.positions p).length
  | .retarget o n _ _ on => if on then (s.positions n).length - s.ctxCount o.tid else 0
  | _ => 0

/-- Contexts an action frees here at T. -/
def State.actFrees (s : State) : ActKind → Nat
  | .close t _ => s.ctxCount t
  | .retarget o n _ _ on => if on then s.ctxCount o.tid - (s.positions n).length else s.ctxCount o.tid
  | _ => 0

/-- The sequences of a tunnel's ends quiesced by DRAIN: the ends here admits nothing new. -/
def State.stageDrain (s : State) (c : CartSlot) (tid : Nat) (drain : Bool) : State × CartSlot :=
  if drain then (s.quiesceTid tid, { c with quies := c.quies ++ [tid] }) else (s, c)

/-- Take the contexts a tunnel action needs: installed where the tunnel is new here, else reserved; cause 2 without room. -/
def State.stageRoom (s : State) (c : CartSlot) (a : CartAct) : State × CartSlot × Option (Nat × Nat) :=
  let need := s.actNeeds a.kind
  let budget := (c.acts.map fun x => s.actFrees x.kind).sum - (c.acts.map fun x => match ActKind.tid? x.kind with
    | some t => if c.resv.contains t then s.actNeeds x.kind else 0
    | none => 0).sum
  let (tid, p) := match a.kind with
    | .open_ p => (p.tid, some p)
    | .retarget _ n _ _ _ => (n.tid, some n)
    | _ => (0, none)
  if need = 0 then (s, c, none)
  else if s.tun.ctxs.length + need ≤ 1024 ∧ s.ctxCount tid = 0 then
    match p with
    | some p => ((s.installHere p none none false).1, { c with made := c.made ++ [tid] }, none)
    | none => (s, c, none)
  else if s.tun.ctxs.length + need ≤ 1024 ∨ need ≤ budget then (s, { c with resv := c.resv ++ [tid] }, none)
  else (s, c, some (2, 0))

/-- Whether another cart has staged a TID here and has no outcome yet (R348 cause 3). -/
def State.tidStaged (s : State) (c : CartSlot) (tid : Nat) : Bool :=
  s.crt.slots.any fun x => x.key != c.key && x.out == 0 && x.acts.any fun a => ActKind.tid? a.kind == some tid

/-- Stage one tunnel action (R348 causes 1 to 4). -/
def State.stageTun (s : State) (c : CartSlot) (a : CartAct) : State × CartSlot × Option (Nat × Nat) :=
  let absent := match a.kind with
    | .open_ p => s.absent p
    | .retarget _ n _ _ on => on && s.absent n
    | _ => false
  match a.bad with
  | some r => (s, c, some (1, r))
  | none =>
    let ringed := match a.kind with
      | .open_ p => s.ownRings p
      | .retarget _ n _ _ _ => s.ownRings n
      | _ => true
    if absent then (s, c, some (1, 3))
    else if !ringed then (s, c, some (1, 5))
    else
      let (t, c, bad) := s.stageRoom c a
      if bad.isSome then (t, c, bad)
      else if (ActKind.tid? a.kind).any fun k => s.tidStaged c k then (t, c, some (3, 0))
      else if a.busy then (t, c, some (4, 0))
      else match a.kind with
      | .close tid d => let r := t.stageDrain c tid d; (r.1, r.2, none)
      | .retarget o _ _ d _ => let r := t.stageDrain c o.tid d; (r.1, r.2, none)
      | _ => (t, c, none)

/-- Bits of a mask of four. -/
def bits4 (m : Nat) : List Nat := [0, 1, 2, 3].filter fun b => m / 2 ^ b % 2 == 1

/-- Stage one action: the new state and slot, and the refuse cause with SUBREASON (Table 13-5). -/
def State.stageAct (s : State) (c : CartSlot) (a : CartAct) : State × CartSlot × Option (Nat × Nat) :=
  match a.kind with
  | .sched m =>
    if (blocksOf m).any s.blockStaged then (s, c, some (3, 0))
    else
      let g : Staged := { at_ := none, late := none, group := s.nextGroup, cart := some c.key }
      ({ (blocksOf m).foldl (fun t b => t.stageBlock b g) s with nextGroup := s.nextGroup + 1 }, c, none)
  | .flip m =>
    if s.hasOuts ∧ (bits4 m).any (fun k => (s.dout k).flip.isSome) then (s, c, some (3, 0))
    else if !s.hasOuts ∨ (bits4 m).any (fun k => !(s.heldNow k)) then (s, c, some (9, 0))
    else
      let f : FlipArm := { when := c.t, cart := some c.key, armed := false, dueAt := none }
      ((bits4 m).foldl (fun t k => (t.doutM k fun x => { x with flip := some f }).outBits k) s, c, none)
  | .trig m w _ _ =>
    if (bits4 m).any (fun k => s.bit (F.TIM_TRIG_STAGED k) || s.bit (F.TIM_TRIG_ARMED k)) then (s, c, some (3, 0))
    else if w < c.t then (s, c, some (8, 0))
    else ((bits4 m).foldl (fun t k => t.put (F.TIM_TRIG_STAGED k) 1) s, { c with trigs := c.trigs ||| m }, none)
  | .power _ => (s, c, none)
  | .yield to_ => (s, c, if to_ = s.fid ∧ !s.hostAlive then some (7, 0) else none)
  | _ => s.stageTun c a

/-- Tunnels quiesced by DRAIN return to OPEN, and what their interfaces held back flows on. -/
def State.unquiesce (s : State) (tid : Nat) : State :=
  (s.tun.ctxs.filter fun c => c.par.tid == tid && c.isEnd && c.state == 3).foldl (fun t c =>
    ((t.ctxM c.idx fun d => { d with state := 2 }).pauseOne c.idx).flushHeld c.held.length c.idx) s

/-- What a participant staged is undone (R354). -/
def State.undoCart (s : State) (c : CartSlot) : State :=
  let t := c.made.foldl (fun u k => u.removeTid k) s
  let t := (c.quies.foldl (fun u k => u.unquiesce k) t).unstageCart c.key
  let t := [0, 1, 2, 3].foldl (fun u k =>
    if (u.dout k).flip.any (fun f => f.cart == some c.key) then (u.doutM k fun x => { x with flip := none }).outBits k else u) t
  (bits4 c.trigs).foldl (fun u k => u.put (F.TIM_TRIG_STAGED k) 0) t

/-- A participant votes REFUSE (R348): its staged state is dropped at once. -/
def State.refuse (s : State) (c : CartSlot) (cause idx sub : Nat) : State :=
  let t := ((((s.undoCart c).dropSlot c).bump F.CRT_REFUSED).bump F.CRT_ABORTS).cartEvent 4 c.coord c.id [cause, idx]
  (t.cartEvent 2 c.coord c.id [cause]).cartSend c.coord c.coord c.id c.t (.vote false cause idx sub)

/-- Whether the ends a DRAIN quiesced here still hold copies. -/
def State.draining (s : State) (c : CartSlot) : Bool := c.quies.any fun k => s.copiesOf k != 0

/-- QUERY goes out (R352): to the coordinator, and from T + 1 ms to every other participant. -/
def State.cartAsk (s : State) (c : CartSlot) : State :=
  let t := s.cartSend c.coord c.coord c.id c.t .query
  if c.t + 1000000 ≤ s.now then
    (c.parts.filter fun f => f != s.fid && f != c.coord).foldl (fun u f => u.cartSend f c.coord c.id c.t .query) t
  else t

/-- T passes with no decision. -/
def State.cartHold (s : State) (c : CartSlot) : State := let d := { c with st := 4 }; (s.putSlot d).cartAsk d

/-- READY is sent (R349). -/
def State.voteReady (s : State) (c : CartSlot) : State :=
  let d := { c with st := 2 }
  let t := (s.putSlot d).cartSend c.coord c.coord c.id c.t (.vote true 0 0 0)
  if c.t ≤ s.now then t.cartHold d else t

/-- The refusal of lowest cause among those found, the first action where they tie. -/
def worstOf (l : List (Nat × Nat × Nat)) : Option (Nat × Nat × Nat) :=
  l.foldl (fun b x => match b with
    | some y => if x.1 < y.1 then some x else some y
    | none => some x) none

/-- A participant stages a cart and votes (R345, R348). -/
def State.hearPrepare (s : State) (coord id t : Nat) (parts : List Nat) (acts : List CartAct) : State :=
  if (s.cslot coord id).isSome then s
  else
    let c : CartSlot :=
      { coord := coord, id := id, t := t, k := s.cartPlace coord id, st := 1, dec := 0, acts := acts, parts := parts,
        answers := [], relayed := false, out := 0, late := 0, freed := 0, wait := [], made := [], resv := [], quies := [], trigs := 0,
        seqs := [], early := [], acked := false }
    let u := s.crtM fun x => { x with slots := x.slots ++ [c] }
    let full := if 16 ≤ (s.cartKeys.filter (· != (coord, id))).length then [(5, 0, 0)] else []
    let r := acts.foldl (fun (x : State × CartSlot × List (Nat × Nat × Nat)) a =>
      let (v, d, bad) := x.1.stageAct x.2.1 a
      (v, d, match bad with | some (cause, sub) => x.2.2 ++ [(cause, a.idx, sub)] | none => x.2.2)) (u, c, full)
    match worstOf r.2.2 with
    | some (cause, idx, sub) => r.1.refuse r.2.1 cause idx sub
    | none =>
      let v := r.1.putSlot r.2.1
      if v.draining r.2.1 then v else v.voteReady r.2.1

/-! ### Commit (R350, R509) -/

/-- A retarget takes effect here at T: the slot gains the SEQS it sends or waits for, and the copies freed (R194 steps 3 to 5). -/
def State.commitRetarget (s : State) (c : CartSlot) (n : TunPar) (endB on : Bool) : State × CartSlot :=
  let copies := s.copiesOf n.tid
  let stayFid := if endB then n.aFid else n.bFid
  let mvFid := if endB then n.bFid else n.aFid
  let stayPos := if endB then 1 else 2
  let mvPos := if endB then 2 else 1
  let put := fun (t : State) (qs qm : Option Seqs) => (t.installHere n (if endB then qs else qm) (if endB then qm else qs) true).1
  if !on then (s.removeTid n.tid, { c with freed := c.freed + copies })
  else if stayFid = s.fid then
    let (tx, rx) := match s.tun.ctxs.find? fun x => x.par.tid == n.tid && x.pos == stayPos with
      | some x => (x.tx, x.rx)
      | none => (0, 0)
    let (qs, qm) := retargetSeqs tx rx
    let t := (put s (some qs) (if mvFid = s.fid then some qm else none)).activateTid n.tid false
    let d := { c with freed := c.freed + copies }
    if mvFid = s.fid then (t, d)
    else (t.cartTwice mvFid c.coord c.id c.t (.seqs n.tid endB rx tx), { d with seqs := d.seqs ++ [{ fid := mvFid, tid := n.tid, endB := endB, rx := rx, tx := tx }] })
  else if mvFid = s.fid then
    match c.early.find? fun e => e.1 == n.tid with
    | some (_, rx, tx) => ((put s none (some (retargetSeqs tx rx).2)).activateTid n.tid false, { c with freed := c.freed + copies })
    | none =>
      let t := put s none none
      let t := t.tunM fun u => { u with ctxs := updBy (fun x => x.par.tid == n.tid && x.pos == mvPos) (fun x => { x with state := 1, await := true }) u.ctxs }
      (t.activateTid n.tid false, { c with wait := c.wait ++ [n.tid] })
  else ((put s none none).activateTid n.tid false, { c with freed := c.freed + copies })

/-- One action takes effect at a time `t` (Table 13-2). -/
def State.commitAct (s : State) (c : CartSlot) (t : Nat) (a : CartAct) : State × CartSlot :=
  match a.kind with
  | .sched m =>
    let go := fun (g : Staged) => if g.cart = some c.key then { g with at_ := some t } else g
    let u := (blocksOf m).foldl (fun v b => if b = 3 then { v with metStaged := v.metStaged.map go } else v.schM b fun x => { x with staged := x.staged.map go }) s
    (u, c)
  | .open_ p => ((if s.ctxCount p.tid = 0 then (s.installHere p none none false).1 else s).activateTid p.tid true, c)
  | .close tid _ => ((s.closeTid tid).removeTid tid, { c with freed := c.freed + s.copiesOf tid })
  | .retarget _ n endB _ on => s.commitRetarget c n endB on
  | .grant tid to_ => (s.grantTid tid to_, c)
  | .flip m =>
    let f : FlipArm := { when := t, cart := some c.key, armed := true, dueAt := none }
    ((bits4 m).foldl (fun u k => (u.doutM k fun x => { x with flip := some f }).outBits k) s, c)
  | .trig m w wd p => ((bits4 m).foldl (fun u k => (u.put (F.TIM_TRIG_STAGED k) 0).setTrig k (some (u.newTrig w wd p))) s, { c with trigs := 0 })
  | .power st => ((s.pwrRequest st).1, c)
  | .yield to_ =>
    let u := if s.fid = c.coord ∧ to_ ≠ s.fid then s.setOwner 1 to_ (s.get F.GLB_OWNER_GEN) none else s
    (if to_ ≠ s.fid then u
     else if u.hostAlive then u.become ((u.get F.GLB_OWNER_GEN + 1) % 65536)
     else (u.emit (.msg .broadcast .release)).elect true, c)

/-- Whether an action's reserved contexts have room now. -/
def State.roomNow (s : State) (a : CartAct) : Bool := decide (s.tun.ctxs.length + s.actNeeds a.kind ≤ 1024)

/-- Run the reserved actions that have room, in order. -/
def State.commitWaiting (s : State) (c : CartSlot) (t : Nat) (l : List CartAct) : State × CartSlot × List CartAct :=
  l.foldl (fun (x : State × CartSlot × List CartAct) a =>
    if x.1.roomNow a then let r := x.1.commitAct x.2.1 t a; (r.1, r.2, x.2.2) else (x.1, x.2.1, x.2.2 ++ [a])) (s, c, [])

/-- Every action takes effect, in list order; those whose contexts are reserved directly after a freeing one has. -/
def State.commitAll (s : State) (c : CartSlot) (t : Nat) : State × CartSlot :=
  let r := c.acts.foldl (fun (x : State × CartSlot × List CartAct) a =>
    let held := (ActKind.tid? a.kind).any fun k => c.resv.contains k
    if held then x.1.commitWaiting x.2.1 t (x.2.2 ++ [a])
    else
      let r := x.1.commitAct x.2.1 t a
      r.1.commitWaiting r.2 t x.2.2) (s, c, [])
  let r2 := r.2.2.foldl (fun (x : State × CartSlot) a => x.1.commitAct x.2 t a) (r.1, r.2.1)
  (r2.1, { r2.2 with resv := [], made := [], quies := [] })

/-- DONE is sent (Table 13-3). -/
def State.sendDone (s : State) (c : CartSlot) : State := s.cartSend c.coord c.coord c.id c.t (.done c.out c.late c.freed)

/-- The outcome is applied: the slot is DONE. -/
def State.cartFinish (s : State) (c : CartSlot) : State := let d := { c with st := 5 }; (s.putSlot d).sendDone d

/-- The outcome takes effect (R350, R352, R354). -/
def State.cartApply (s : State) (c : CartSlot) (go : Bool) : State :=
  let late := if c.st = 4 then s.now - c.t else 0
  let l32 := min late 0xFFFFFFFF
  let r := if go then s.commitAll c (if c.st = 4 then s.now else c.t) else (s.undoCart c, { c with made := [], resv := [], quies := [], trigs := 0 })
  let d : CartSlot := { r.2 with st := 3, dec := if go then 1 else 2, out := if go then 1 else 2, late := late }
  let t := r.1.bump (if go then F.CRT_COMMITS else F.CRT_ABORTS)
  let t := match go, decide (late = 0) with
    | true, true => t.cartEvent 0 c.coord c.id [actCount c.acts]
    | true, false => t.cartEvent 1 c.coord c.id [l32]
    | false, true => t.cartEvent 2 c.coord c.id [0]
    | false, false => t.cartEvent 3 c.coord c.id [l32]
  let t := if late = 0 then t else (t.bump F.CRT_LATE).put F.CRT_LASTLATE_NS l32
  if d.wait = [] then t.cartFinish d else t.putSlot d

/-- A decision reaches a participant (R349): GO before T arms it. -/
def State.cartResolve (s : State) (c : CartSlot) (go : Bool) : State :=
  if go ∧ c.st = 2 ∧ s.now < c.t then s.putSlot { c with st := 3, dec := 1 }
  else if c.st = 2 ∨ c.st = 4 ∨ (c.st = 1 ∧ !go) then s.cartApply c go
  else s

/-- GO or ABORT arrives from a device (R346, R351): the first copy is acted on and relayed to every other participant; the
coordinator's resend is answered with DONE again, UNKNOWN where there is no slot. -/
def State.hearDecision (s : State) (src coord id t : Nat) (go : Bool) : State :=
  match s.cslot coord id with
  | none => if src = coord then s.cartSend coord coord id t (.done 3 0 0) else s
  | some c =>
    let d := { c with relayed := true }
    let u := if c.relayed then s
      else ((c.parts.filter (· != s.fid)).foldl (fun v f => v.cartSend f coord id t (if go then .go else .abort)) s).putSlot d
    if c.out ≠ 0 then (if src = coord ∧ c.st = 5 then u.sendDone d else u) else u.cartResolve d go

/-- QUERY arrives (R352): answered from the decision record. -/
def State.hearQuery (s : State) (src coord id t : Nat) : State :=
  let dec := match (if coord = s.fid then s.cart id else none), s.cslot coord id with
    | some c, _ => some c.dec
    | none, some c => some c.dec
    | none, none => none
  s.cartSend src coord id t (.answer (match dec with | some 0 => 3 | some d => d | none => 4))

/-- ANSWER arrives (R352). -/
def State.hearAnswer (s : State) (src coord id a : Nat) : State :=
  match s.cslot coord id with
  | none => s
  | some c =>
    if c.st ≠ 4 then s
    else
      let d := { c with answers := putBy (fun e => e.1 == src) (src, a) c.answers }
      let u := s.putSlot d
      let others := c.parts.filter fun f => f != s.fid && f != coord
      if d.answers.any (fun e => e.2 == 1) then u.cartResolve d true
      else if d.answers.any (fun e => e.2 == 2) then u.cartResolve d false
      else if assoc d.answers coord = some 4 ∧ others.all (fun f => assoc d.answers f == some 3) then u.cartResolve d false
      else u

/-- SEQS arrives (R509): the moved end sets its sequences, frees its copies and becomes OPEN. -/
def State.hearSeqs (s : State) (coord id tid : Nat) (endB : Bool) (rx tx : Nat) : State :=
  match s.cslot coord id with
  | none => s
  | some c =>
    if c.out = 0 then (if c.early.any (fun e => e.1 == tid) then s else s.putSlot { c with early := c.early ++ [(tid, rx, tx)] })
    else if !(c.wait.contains tid) then s
    else
      let n := s.copiesOf tid
      let q := (retargetSeqs tx rx).2
      let t := match s.tun.ctxs.find? fun x => x.par.tid == tid && x.pos == (if endB then 2 else 1) with
        | some x => (s.rewriteCtx x x.pos x.par (some q)).activateTid tid false
        | none => s
      let d := { c with wait := c.wait.filter (· != tid), freed := c.freed + n }
      if d.wait = [] then t.cartFinish d else t.putSlot d

/-! ### The coordinator (R347, R355, R356) -/

/-- The decision goes to each participant without DONE. -/
def State.sendDecisions (s : State) (c : CartCo) : State :=
  (c.parts.filter fun f => !(c.dones.any fun d => d.1 == f)).foldl (fun t f => t.cartTwice f s.fid c.id c.t (if c.dec = 1 then .go else .abort)) s

/-- RSTCNT of a device, as its RECORD shows it; none of one that is not in the graph. -/
def State.rstOf (s : State) (f : Nat) : Option Nat := ((members s.recs s.uid).find? fun r => r.fid == f).map (·.rstCnt)

/-- Whether a participant has been reset since it voted READY, or before its vote since the cart was submitted. -/
def State.wasReset (s : State) (c : CartCo) (f : Nat) : Bool :=
  f != s.fid && (assoc c.rst f).any fun n => (s.rstOf f).any fun m => n != m

/-- The TID map takes the cart's outcome (R345): the ends and grants set, the TIDs released. -/
def State.cartMap (s : State) (c : CartCo) : State :=
  let missing := fun (fids : List Nat) => fids.filter fun f => c.parts.contains f && !(c.dones.any fun d => d.1 == f)
  let kinds := ((c.acts.flatMap (·.2)).map (·.kind)).eraseDups
  kinds.foldl (fun t k => match k with
    | .open_ p => if c.dec = 1 then t else t.releaseTid p.tid (missing (t.heldPath p.tid))
    | .close tid _ => if c.dec = 1 then t.releaseTid tid (missing (t.heldPath tid)) else t
    | .retarget o n _ _ on =>
      if c.dec = 1 ∧ on ∧ (t.heldTid o.tid).any (fun h => h.par != n) then
        let path := t.pathOf n
        (t.tunM fun u => { u with map := updBy (fun x => x.par.tid == n.tid) (fun x => { par := { n with grant := x.par.grant }, path := path ++ (missing x.path).filter (fun f => !(path.contains f)), stale := [] }) u.map }).mirrorTid n.tid
      else t
    | .grant tid to_ =>
      if c.dec = 1 then
        (t.tunM fun u => { u with map := updBy (fun x => x.par.tid == tid) (fun x => { x with par := { x.par with grant := to_ } }) u.map }).mirrorTid tid
      else t
    | _ => t) s

/-- A DONE that was missing when the completion was written comes late (R345, R354): of the TIDs the cart's outcome releases, its device confirms
what it had not. -/
def State.cartLate (s : State) (c : CartCo) (src : Nat) : State :=
  let kinds := ((c.acts.flatMap (·.2)).map (·.kind)).eraseDups
  let tids := kinds.filterMap fun k => match k with
    | .open_ p => if c.dec = 1 then none else some p.tid
    | .close tid _ => if c.dec = 1 then some tid else none
    | _ => none
  tids.foldl (fun t k => match t.heldTid k with
    | some h => if h.stale.contains src then t.releaseTid k (h.stale.filter (· != src)) else t
    | none => t) s

/-- The completion of a cart (Table 13-1, R356). -/
def State.cartComplete (s : State) (c : CartCo) : State :=
  match c.ticket with
  | none => s
  | some tk =>
    let lates := c.dones.map fun d => d.2.2.1
    let lost := c.parts.find? fun f => c.votes.contains f && s.wasReset c f
    let (code, reason, fid, idx, sub) := if c.dec = 1 then (match lost with | some f => (0x09, 0, f, 0, 0) | none => (0, 0, 0, 0, 0))
      else (c.code, c.reason, c.rfid, c.actidx, c.sub)
    let res := resultOf [(0x08, c.t / 1000000000 % 2 ^ 48), (0x10, c.t % 1000000000), (0x14, reason), (0x15, fid), (0x16, idx), (0x18, sub), (0x19, c.parts.length),
      (0x1A, (lates.filter (· != 0)).length), (0x1B, c.parts.length - c.dones.length), (0x1C, min (lates.foldl max 0) 0xFFFFFFFF),
      (0x20, min (c.dones.map fun d => d.2.2.2).sum 0xFFFFFFFF)]
    let t := ((s.cartMap c).cartM c.id fun x => { x with ticket := none }).finish tk code res
    State.tunResume t.tun.next.length t

/-- The completion is written once every DONE has come, or `late` at T + 10 ms; the ID is free again once it is written and every participant
has sent DONE or been reset (R355). -/
def State.cartSettle (s : State) (id : Nat) (late : Bool) : State :=
  match s.cart id with
  | none => s
  | some c =>
    if c.dec = 0 then s
    else
      let done := fun (f : Nat) => c.dones.any fun d => d.1 == f
      let all := c.parts.all done
      let t := if all ∨ late then s.cartComplete c else s
      if all ∨ ((late ∨ c.ticket.isNone) ∧ c.parts.all (fun f => done f || s.wasReset c f)) then
        t.crtM fun x => { x with cos := x.cos.filter fun y => y.id != id }
      else t

/-- The coordinator decides (R347). -/
def State.cartDecide (s : State) (id dec code reason fid idx sub : Nat) : State :=
  match s.cart id with
  | none => s
  | some c =>
    let d := { c with dec := dec, code := code, reason := reason, rfid := fid, actidx := idx, sub := sub }
    ((s.cartM id fun _ => d).sendDecisions d).cartSettle id false

/-- Whether this device may still decide GO. -/
def State.isOwner (s : State) : Bool := s.get F.GLB_OWNER_STATE == 3

/-- VOTE arrives (R347): the first REFUSE aborts at once; a refuser is done. Voting closes at T − 15 µs. -/
def State.hearVote (s : State) (src id : Nat) (ready : Bool) (cause idx sub : Nat) : State :=
  match s.cart id with
  | none => s
  | some c =>
    if c.dec ≠ 0 ∨ !(c.parts.contains src) ∨ c.t ≤ s.now + 15000 then s
    else if !ready then
      (s.cartM id fun x => { x with dones := x.dones ++ [(src, 2, 0, 0)] }).cartDecide id 2 (if cause = 5 then 0x21 else 0x22) cause src idx sub
    else
      let vs := if c.votes.contains src then c.votes else c.votes ++ [src]
      let t := s.cartM id fun x => { x with votes := vs, rst := match s.rstOf src with | some n => putBy (fun e => e.1 == src) (src, n) x.rst | none => x.rst }
      if vs.length = c.parts.length then (if s.isOwner then t.cartDecide id 1 0 0 0 0 0 else t.cartDecide id 2 0x08 0 0 0 0) else t

/-- DONE arrives (R346, R347, R356, Table 13-7): of a cart in flight here it is acknowledged; one from a participant that was reset raises the
event. -/
def State.hearDone (s : State) (src id t out late freed : Nat) : State :=
  match s.cart id with
  | none => s
  | some c =>
    let u := s.cartSend src s.fid id t .doneack
    if !(c.parts.contains src) ∨ c.dones.any (fun d => d.1 == src) then u
    else
      let v := u.cartM id fun x => { x with dones := x.dones ++ [(src, out, late, freed)] }
      let v := if out = 3 ∧ c.sent ∧ s.wasReset c src then v.cartEvent 6 s.fid id [src, 1] else v
      let v := if c.ticket.isNone then v.cartLate c src else v
      v.cartSettle id false

/-- DONEACK arrives (R349). -/
def State.hearDoneack (s : State) (coord id : Nat) : State := s.cslotM coord id fun c => if c.st = 5 then { c with acked := true } else c

/-- A cart message of any type. -/
def State.hearCart (s : State) (src coord id t : Nat) : CartBody → State
  | .prepare parts acts => s.hearPrepare coord id t parts acts
  | .vote r c i u => s.hearVote src id r c i u
  | .go => s.hearDecision src coord id t true
  | .abort => s.hearDecision src coord id t false
  | .query => s.hearQuery src coord id t
  | .answer a => s.hearAnswer src coord id a
  | .done o l f => s.hearDone src id t o l f
  | .doneack => s.hearDoneack coord id
  | .seqs tid e rx tx => s.hearSeqs coord id tid e rx tx

/-- Messages of this device to itself are taken, in order. -/
def State.cartRun : Nat → State → State
  | 0, s => s
  | n + 1, s =>
    match s.crt.loop with
    | [] => s
    | (coord, id, t, b) :: rest => cartRun n ((s.crtM fun x => { x with loop := rest }).hearCart s.fid coord id t b)

/-- A device that is not OWNER decides no more (R106, R347): its undecided carts abort, the tunnel and hot-plug commands that wait
complete OWN_LOST. -/
def State.ownCheck (s : State) : State :=
  if s.isOwner then s
  else
    let t := (s.crt.cos.filter fun c => c.dec == 0).foldl (fun u c => u.cartDecide c.id 2 0x08 0 0 0 0) s
    let t := t.tun.next.foldl (fun u x => u.finish x.t 0x08 0) (t.tunM fun u => { u with next := [] })
    t.pcx.hp.foldl (fun u h => u.hotDone h 0x08 0 0) t

/-- The same, as far as a decision can lead: PREPARE, VOTE, GO, relays, DONE, DONEACK of each cart in flight. -/
def State.cartFlush (s : State) : State :=
  let n := 64 * (s.crt.loop.length + s.crt.cos.length + 1)
  (State.cartRun n (State.cartRun n s).ownCheck).flushLoop

/-! ### The coordinator's commands and clocks -/

/-- The operand bits of CART_SUBMIT. -/
def cartBits : List (Nat × Nat × Nat) := [(0x08, 0, 16), (0x0A, 0, 1), (0x0C, 0, 16), (0x10, 0, 64), (0x18, 0, 48), (0x20, 0, 30)]

/-- A failed check of R344. -/
def State.cartFail (s : State) (t : InFlight) (code reason fid idx sub : Nat) : State :=
  s.finish t code (resultOf [(0x14, reason), (0x15, fid), (0x16, idx), (0x18, sub)])

/-- The cart is in flight (R347): OPEN actions hold their TIDs. -/
def State.cartStart (s : State) (tk : InFlight) (id t : Nat) (l : List CartRaw) : State :=
  let plan := s.cartPlan l
  let parts := (plan.map (·.1)).eraseDups.mergeSort (· ≤ ·)
  let acts := parts.map fun f => (f, (plan.filter fun a => a.1 == f).map (·.2))
  let u := l.foldl (fun v r =>
    if r.typ = 2 then
      let p := s.openPar (prmOps r)
      (v.tunM fun x => { x with map := x.map ++ [{ par := p, path := s.pathOf p, stale := [] }] }).mirrorTid p.tid
    else v) s
  u.crtM fun x => { x with cos := x.cos ++ [{ id := id, t := t, ticket := some tk, parts := parts, acts := acts, sent := false, votes := [], dec := 0, code := 0, reason := 0, rfid := 0, actidx := 0, sub := 0, dones := [], rst := parts.filterMap fun f => (s.rstOf f).map fun n => (f, n), k := s.cartPlace s.fid id }] }

/-- The checks of R344 after the action list has been read: the first that fails. -/
def State.cartCheck (s : State) (id : Nat) (ws : List (BitVec 256)) : Option (Nat × Nat × Nat × Nat × Nat) :=
  let l := ws.map readAct
  let ix := List.range l.length
  let actAt := fun (i : Nat) => l.getD i { typ := 0, fid := 0, flags := 0, prm := 0 }
  match ix.find? fun i => !(actClean (ws.getD i 0)) || !(actRange (actAt i)) with
  | some i => some (3, 4, 0, i, 0)
  | none =>
  match s.actClash l with
  | some i => some (3, 5, 0, i, 0)
  | none =>
  match ix.find? fun i => (actAt i).typ == 2 && prmAt (actAt i) 0 2 == 0 with
  | some i => some (3, 6, 0, i, 0)
  | none =>
  if (s.cart id).isSome then some (0x20, 0, 0, 0, 0)
  else if 16 ≤ s.cartKeys.length then some (0x21, 0, 0, 0, 0)
  else match ix.find? fun i => (s.actLost i (actAt i)).isSome with
  | some i => some (7, 0, (s.actLost i (actAt i)).getD 0, i, 0)
  | none =>
  match ix.find? fun i => (actAt i).typ == 2 && (s.heldTid (prmAt (actAt i) 0 2)).isSome with
  | some i => some (0x12, 0, 0, i, 0)
  | none =>
  match ix.find? fun i => decide (3 ≤ (actAt i).typ) && decide ((actAt i).typ ≤ 5) && (s.heldTid (prmAt (actAt i) 0 2)).isNone with
  | some i => some (3, 7, 0, i, 8)
  | none => none

/-- CART_SUBMIT (R342 to R344): `list` is what host memory holds at LIST, none where it cannot be read. -/
def execCartSubmit (c : HostCmd) (list : Option (List (BitVec 256))) (s : State) : Host.Outcome State Fault Refusal :=
  .next (s.command 0x40 true cartBits c fun tk u =>
    let n := opAt c 0x0C 2
    let ws := (list.getD []).take n
    let at_ := opAt c 0x0A 1 % 2 == 1
    let when_ := opAt c 0x18 6 * 1000000000 + opAt c 0x20 4
    let t := if at_ then when_ else u.now + 1000 * min 1000 (max 100 (u.get F.CRT_CFG_MINLEAD))
    if c.target ≠ 0 then u.cartFail tk 3 1 0 0 0
    else if n = 0 ∨ 256 < n ∨ opAt c 0x10 8 % 32 ≠ 0 ∨ ws.length < n then u.cartFail tk 3 2 0 0 0
    else if at_ ∧ (when_ < u.now + 100000 ∨ u.now + 60000000000 < when_) then u.cartFail tk 3 3 0 0 0
    else match u.cartCheck (opAt c 0x08 2) ws with
    | some (code, reason, fid, idx, sub) => u.cartFail tk code reason fid idx sub
    | none => (u.emit (.hostRead (opAt c 0x10 8) (32 * n))).cartStart tk (opAt c 0x08 2) t (ws.map readAct))

/-- CART_QUERY's answer on this device (R357) to a host bridge. -/
def State.cartQuery (s : State) (who : Nat) (ops : BitVec 448) : State × Nat × BitVec 448 :=
  let id := ops.toNat % 65536
  let coord := if ops.toNat / 65536 % 256 = 0 then who else ops.toNat / 65536 % 256
  let ans := fun (st dec t : Nat) => (s, 0, resultOf [(0x08, st), (0x09, dec), (0x10, t / 1000000000 % 2 ^ 48), (0x18, t % 1000000000)])
  match s.cslot coord id, (if coord = s.fid then s.cart id else none) with
  | some c, _ => ans c.st c.dec c.t
  | none, some c => ans c.shown c.dec c.t
  | none, none => (s, 0x03, resultOf [(0x0A, 8)])

/-- The operand bits of CART_QUERY. -/
def cartQueryBits : List (Nat × Nat × Nat) := [(0x08, 0, 16), (0x0A, 0, 8)]

/-- CART_QUERY (R357). -/
def execCartQuery (c : HostCmd) (s : State) : Host.Outcome State Fault Refusal :=
  .next (s.command 0x41 false cartQueryBits c fun t u => u.onTarget t c fun v => State.answer t (v.cartQuery v.fid c.ops))

/-- CART_ABORT (R357): before the decision. -/
def execCartAbort (c : HostCmd) (s : State) : Host.Outcome State Fault Refusal :=
  .next ((s.command 0x42 true [(0x08, 0, 16)] c fun t u =>
    match u.cart (opAt c 0x08 2) with
    | none => u.finish t 0x03 (resultOf [(0x0A, 8)])
    | some x => if x.dec ≠ 0 then u.finish t 0x03 (resultOf [(0x0A, 9)]) else (u.finish t 0 0).cartDecide x.id 2 0x23 0 0 0 0).cartFlush)

/-- CART_PREPARE_SEND (R347): from T − LEAD on. A tunnel command that runs on a TID is told to its devices (R348 cause 4). -/
def execCartPrepareSend (id : Nat) (s : State) : Host.Outcome State Fault Refusal :=
  .next (s.whenDuty 3 fun s => (match s.cart id with
    | some c =>
      if c.sent ∨ c.dec ≠ 0 ∨ s.now + 1000000 * min 8 (max 1 (s.get F.CRT_CFG_LEAD)) < c.t then s
      else
        let mark := fun (a : CartAct) => { a with busy := (ActKind.tid? a.kind).any s.tunRuns }
        let t := s.cartM id fun x => { x with sent := true }
        (c.acts.foldl (fun u e => u.cartSend e.1 s.fid id c.t (.prepare c.parts (e.2.map mark))) t).cartFlush
    | none => s))

/-- CART_PREPARE_RECEIVE (R345, R348, R349). -/
def execCartPrepareReceive (coord id t : Nat) (parts : List Nat) (acts : List CartAct) (s : State) : Host.Outcome State Fault Refusal :=
  .next (s.whenUp fun s => (if s.get F.PWR_STAT_CUR = 4 then s else (s.hearPrepare coord id t parts acts).cartFlush))

/-- CART_DRAIN_READY (R348). -/
def execCartDrainReady (coord id : Nat) (s : State) : Host.Outcome State Fault Refusal :=
  .next (s.whenUp fun s => (match s.cslot coord id with
    | some c => if c.st = 1 ∧ !(s.draining c) then (s.voteReady c).cartFlush else s
    | none => s))

/-- CART_DRAIN_DEADLINE (R348 cause 6): at T − 20 µs. -/
def execCartDrainDeadline (coord id : Nat) (s : State) : Host.Outcome State Fault Refusal :=
  .next (s.whenUp fun s => (match s.cslot coord id with
    | some c =>
      if c.st = 1 ∧ s.draining c ∧ c.t ≤ s.now + 20000 then
        let idx := ((c.acts.find? fun a => (ActKind.tid? a.kind).any fun k => c.quies.contains k && s.copiesOf k != 0).map (·.idx)).getD 0
        (s.refuse c 6 idx 0).cartFlush
      else s
    | none => s))

/-- CART_VOTE_RECEIVE (R347). -/
def execCartVoteReceive (src id : Nat) (ready : Bool) (cause actidx sub : Nat) (s : State) : Host.Outcome State Fault Refusal :=
  .next (s.whenUp fun s => (s.hearVote src id ready cause actidx sub).cartFlush)

/-- CART_VOTE_DEADLINE (R347): voting closes at T − 15 µs. -/
def execCartVoteDeadline (id : Nat) (s : State) : Host.Outcome State Fault Refusal :=
  .next (s.whenUp fun s => (match s.cart id with
    | some c =>
      if c.dec ≠ 0 ∨ s.now + 15000 < c.t then s
      else
        let miss := (c.parts.find? fun f => !(c.votes.contains f)).getD 0
        (if s.isOwner then s.cartDecide id 2 0x06 0 miss 0 0 else s.cartDecide id 2 0x08 0 0 0 0).cartFlush
    | none => s))

/-- CART_GO_RECEIVE (R351). -/
def execCartGoReceive (src coord id t : Nat) (s : State) : Host.Outcome State Fault Refusal := .next (s.whenUp fun s => (s.hearDecision src coord id t true).cartFlush)

/-- CART_ABORT_RECEIVE (R351, R354). -/
def execCartAbortReceive (src coord id t : Nat) (s : State) : Host.Outcome State Fault Refusal := .next (s.whenUp fun s => (s.hearDecision src coord id t false).cartFlush)

/-- CART_DECISION_RESEND (R347): 1 ms after the decision was last sent. -/
def execCartDecisionResend (id : Nat) (s : State) : Host.Outcome State Fault Refusal :=
  .next (s.whenDuty 3 fun s => (match s.cart id with
    | some c => if c.dec = 0 then s else ((s.sendDecisions c).cartSettle id false).cartFlush
    | none => s))

/-- CART_QUERY_SEND (R352). -/
def execCartQuerySend (coord id : Nat) (s : State) : Host.Outcome State Fault Refusal :=
  .next (s.whenDuty 3 fun s => (match s.cslot coord id with
    | some c => if c.st = 4 then (s.cartAsk c).cartFlush else s
    | none => s))

/-- CART_QUERY_RECEIVE (R352). -/
def execCartQueryReceive (src coord id t : Nat) (s : State) : Host.Outcome State Fault Refusal := .next (s.whenUp fun s => (s.hearQuery src coord id t).cartFlush)

/-- CART_ANSWER_RECEIVE (R352). -/
def execCartAnswerReceive (src coord id a : Nat) (s : State) : Host.Outcome State Fault Refusal := .next (s.whenUp fun s => (s.hearAnswer src coord id a).cartFlush)

/-- CART_SEQS_RECEIVE (R509). -/
def execCartSeqsReceive (coord id tid : Nat) (endB : Bool) (rx tx : Nat) (s : State) : Host.Outcome State Fault Refusal :=
  .next (s.whenUp fun s => (s.hearSeqs coord id tid endB (rx % 65536) (tx % 65536)).cartFlush)

/-- CART_SEQS_RESEND (R509): until T + 1 ms. -/
def execCartSeqsResend (coord id : Nat) (s : State) : Host.Outcome State Fault Refusal :=
  .next (s.whenDuty 3 fun s => (match s.cslot coord id with
    | some c => if s.now ≤ c.t + 1000000 then c.seqs.foldl (fun t q => t.cartTwice q.fid coord id c.t (.seqs q.tid q.endB q.rx q.tx)) s else s
    | none => s))

/-- CART_SEQS_DEADLINE (R509): at T + 10 ms a moved end without SEQS reports UNKNOWN. -/
def execCartSeqsDeadline (coord id : Nat) (s : State) : Host.Outcome State Fault Refusal :=
  .next (s.whenUp fun s => (match s.cslot coord id with
    | some c => if c.wait ≠ [] ∧ c.out ≠ 0 ∧ c.t + 10000000 ≤ s.now then (s.cartFinish { c with out := 3, wait := [] }).cartFlush else s
    | none => s))

/-- CART_DONE_RECEIVE (R347). -/
def execCartDoneReceive (src id t out late freed : Nat) (s : State) : Host.Outcome State Fault Refusal :=
  .next (s.whenUp fun s => (s.hearDone src id t out late freed).cartFlush)

/-- CART_DONEACK_RECEIVE (R349). -/
def execCartDoneackReceive (coord id : Nat) (s : State) : Host.Outcome State Fault Refusal := .next (s.whenUp fun s => (s.hearDoneack coord id))

/-- CART_COMPLETION_TIMEOUT (R347, Table 13-7): at T + 10 ms, with each missing DONE told. -/
def execCartCompletionTimeout (id : Nat) (s : State) : Host.Outcome State Fault Refusal :=
  .next (s.whenUp fun s => (match s.cart id with
    | some c =>
      if c.dec = 0 ∨ c.ticket.isNone ∨ s.now < c.t + 10000000 then s
      else
        let t := (c.parts.filter fun f => !(c.dones.any fun d => d.1 == f)).foldl (fun u f => u.cartEvent 6 s.fid id [f, 2]) s
        (t.cartSettle id true).cartFlush
    | none => s))

/-- CART_COMMIT_TIME (R349, R350): at T. -/
def execCartCommitTime (coord id : Nat) (s : State) : Host.Outcome State Fault Refusal :=
  .next (s.whenUp fun s => (match s.cslot coord id with
    | some c =>
      if s.now < c.t then s
      else if c.st = 3 ∧ c.out = 0 then (s.cartApply c true).cartFlush
      else if c.st = 2 then (s.cartHold c).cartFlush
      else s
    | none => s))

/-- CART_HOLD_ALARM (R353). -/
def execCartHoldAlarm (coord id : Nat) (s : State) : Host.Outcome State Fault Refusal :=
  .next (s.whenUp fun s => (match s.cslot coord id with
    | some c => if c.st = 4 ∧ c.t + 10000000 ≤ s.now then s.cartEvent 5 coord id [0] else s
    | none => s))

/-- CART_SLOT_RELEASE (R349): 1 s after DONEACK. -/
def execCartSlotRelease (coord id : Nat) (s : State) : Host.Outcome State Fault Refusal :=
  .next (s.whenUp fun s => (match s.cslot coord id with
    | some c => if c.acked then s.dropSlot c else s
    | none => s))

end Sys2Proof.Machine
end

