-- ==== Sys2Proof/Machine/Reset.lean ====
section
/-! DEFINITION. Resets, the strap latch, boot, and the host's PCIe reset and link (chapter 3). Rails are numbered 0 VDD_CORE, 1 VDD_SRAM,
2 VDD_IO, 3 VDDA_SD, 4 VDDH_SD, 5 VDD2H, 6 VDD2L, 7 VDDQ, 8 VDD1. -/

namespace Sys2Proof.Machine

/-! ### Core and warm resets (R58, R60 to R63) -/

/-- Whether the domains outside the Lantern are held in reset. -/
def State.reHold (s : State) : State :=
  s.bootM fun b => { b with held := b.porstLow || b.strapsDue || b.thermTrip || b.strapFault || b.railsLow.any (· < 3) }

/-- PCX_STAT.HRST shows PCIE_PERST_N in host role. -/
def State.showPerst (s : State) : State := s.putBit F.PCX_STAT_HRST (s.isHost && !s.own.perstHigh)

/-- A core reset (R58, R60, R62, R63): all outside the Lantern is lost, every link goes DARK with cause 11, RSTCNT advances
(Table 14-2); a firmware session ends (R401, R403). -/
def State.coreReset (s : State) (cause : Fld) : State :=
  let dark := [0, 1, 2].filter fun p => s.portState p != 0
  let t := s.lanternOnly.bootM fun b =>
    { b with rstCnt := (b.rstCnt + 1) % 65536, romDone := false, wdt := false, pers := 0, startSlot := 0, penumbra := false, thrift := false, late := false, flashMode := 0, dir := none }
  let t := dark.foldl (fun u p => (u.put (F.ADT_STAT_LASTFAIL p) 11).emit (.lanes p 3 0)) t
  let t := ((t.put cause 1).emit (.pin .rstoutN false)).showPerst
  let t := if s.role = 1 then (t.bootM fun b => { b with perstOut := false }).emit (.pin .pciePerstN false) else t
  if 1 ≤ s.get F.USB_STAT_USTATE ∧ s.get F.USB_STAT_USTATE ≤ 5 then t.emit (.usbPull (s.get F.USB_STAT_UPSRC) false) else t

/-- The fault log's registers (R496): entries, FLT_SEQ, FLT_HEAD, FLT_RDSEQ, FLT_OPEN. -/
def logReg (a : Nat) : Bool :=
  a ∈ [A.FLT_SEQ, A.FLT_HEAD, A.FLT_RDSEQ, A.FLT_OPEN] || (decide (A.FLT_ENT0 0 ≤ a) && decide (a < A.FLT_ENT0 256))

/-- A download window's word, which lies in DRAM (R75). -/
def windowReg (a : Nat) : Bool := decide (0x800000 ≤ a) && decide (a < 0x1000000)

/-- Set again the registers of a state that pass a test. -/
def State.restore (s : State) (old : State) (keep : Nat → Bool) : State :=
  (old.regs.filter fun e => keep e.1).foldl (fun t e => t.wr e.1 e.2) s

/-- A warm reset (R58): also the fault log, the checkpoint slots and DRAM are kept; JTAG stays as unlocked until a core reset (R484). -/
def State.warmReset (s : State) (cause : Fld) : State :=
  let t := ((s.coreReset cause).restore s fun a => logReg a || windowReg a).bootM fun b => { b with warmAt := s.uptime }
  let t := (t.put F.KEY_LCS_JTAGUNL (s.get F.KEY_LCS_JTAGUNL)).put F.MEM_DRAMSTAT_STATE 3
  { t with flt := s.flt, store := { t.store with slots := s.store.slots },
           hew := { t.hew with duties := s.hew.duties.map fun d => { d with journal := [] } } }

/-- A reset that is not itself a control write, while the device is in a state that a reset can change. -/
def State.notOff (s : State) (g : State → State) : State := if s.get F.PWR_STAT_CUR = 4 then s else g s

/-- A GLB_RST write (R80): KEY 0xD5 and exactly one of WARM and CORE act; any other write is ignored and tallied. -/
def State.writeRst (s : State) (r : Req) (v : Word) : State :=
  s.glbWrite r fun t =>
    if bitsOf v 0 8 ≠ 0xD5 ∨ bitsOf v 8 1 = bitsOf v 9 1 then t.tally F.GLB_IGNWR
    else if bitsOf v 9 1 = 1 then t.coreReset F.GLB_RSTCAUSE_SWCORE else t.warmReset F.GLB_RSTCAUSE_SWWARM

/-- SOFTWARE_CORE_RESET (R58, R80). -/
def execSoftwareCoreReset (r : Req) (s : State) : Host.Outcome State Fault Refusal := .next (s.writeRst r 0x2D5)

/-- SOFTWARE_WARM_RESET (R58, R80). -/
def execSoftwareWarmReset (r : Req) (s : State) : Host.Outcome State Fault Refusal := .next (s.writeRst r 0x1D5)

/-- POWER_ON_RESET (R43, R57, R58): the OTP alone is kept; RSTCNT starts from a random value; PORST_N is low (R41). `vbus` is
what the three ports' PDn_VBUS_SNS read. -/
def execPowerOnReset (x : PowerUp) (s : State) : Host.Outcome State Fault Refusal :=
  .next (
    let (r, d) := s.draw
    let k := s.lanternOnly
    let t := { State.reset with
      regs := k.regs.filter fun e => (decide (A.KEY_OTP 0 ≤ e.1) && decide (e.1 ≤ A.KEY_OTP 59)) || e.1 ∈ [A.GLB_UIDLO, A.GLB_UIDHI, A.PCX_ID]
      uptime := s.uptime, draws := d.draws, outs := s.outs, pending := s.pending, keys := k.keys, usb := { k.usb with cand := 3, gone := [] }, dispOuts := k.dispOuts
      own := k.own, pcs := k.pcs, line := k.line, boot := { BootSt.reset with rstCnt := r.toNat % 65536, warmLow := s.boot.warmLow, railsLow := s.boot.railsLow } }
    let t := ((t.put F.GLB_BOOT_SVNCTR (s.get F.GLB_BOOT_SVNCTR)).restore k fun a => a == A.KEY_LCS).emit (.pin .rstoutN false)
    (t.fwLost s).pdStart x.dbrd x.vbus)

/-- PORST_N_ASSERT (R58, R64, R32): a core reset, which ends a thermal trip. -/
def execPorstNAssert (s : State) : Host.Outcome State Fault Refusal :=
  .next (if s.boot.porstLow then s
    else
      let t := if s.boot.thermTrip then s.emit (.pin .thermtripN true) else s
      ((t.coreReset F.GLB_RSTCAUSE_PORST).bootM fun b => { b with porstLow := true, strapsDue := false, thermTrip := false }).reHold)

/-- PORST_N_RELEASE (R65, R410): the straps are sampled 100 µs later; ports that a thermal trip stopped restart. -/
def execPorstNRelease (s : State) : Host.Outcome State Fault Refusal :=
  .next (if s.boot.porstLow then (s.bootM fun b => { b with porstLow := false, strapsDue := true }).reHold.pdRestart else s)

/-- STRAP_SAMPLE (R4, R5, R65 to R67, R388): ROLE and SMBA at the first sample after a Lantern power-on reset, the others at each. -/
def execStrapSample (role boot smba fids lanes : Nat) (s : State) : Host.Outcome State Fault Refusal :=
  .next (if !s.boot.strapsDue then s
    else
      let t := ((s.put F.GLB_STRAP_BOOT boot).put F.GLB_STRAP_FIDS fids).put F.GLB_STRAP_PCIEBIF lanes
      let t := if s.boot.roleLatched then t
        else
          let u := (((t.put F.GLB_STRAP_ROLE role).put F.GLB_STRAP_SMBA smba).bootM fun b => { b with roleLatched := true, strapFault := role % 4 == 3 }).emit
            (.pin .usbSwitch (role % 4 == 0))
          if role % 4 = 3 then u.alert 0 else u
      (t.bootM fun b => { b with strapsDue := false }).reHold.showPerst)

/-- WARMRST_N_ASSERT (R58, R64): a warm reset, unless the domains are held in reset anyway. -/
def execWarmrstNAssert (s : State) : Host.Outcome State Fault Refusal :=
  .next (if s.boot.warmLow then s
    else (if s.boot.held then s else s.warmReset F.GLB_RSTCAUSE_WARMPIN).bootM fun b => { b with warmLow := true })

/-- WARMRST_N_RELEASE (R64): the boot ROM may start. -/
def execWarmrstNRelease (s : State) : Host.Outcome State Fault Refusal := .next (s.bootM fun b => { b with warmLow := false })

/-- THERMAL_TRIP (R32, R58, R112, R410): the attached ports trip, THERMTRIP_N falls, VBUS goes, contracts are lost, the ports are Unattached, the rest is held in reset. -/
def execThermalTrip (s : State) : Host.Outcome State Fault Refusal :=
  .next (if s.boot.thermTrip then s
    else
      let s := ([0, 1, 2].filter s.pdAttached).foldl (fun u n => u.pdTrip n 4) s
      let t := ((s.coreReset F.GLB_RSTCAUSE_THERM).bootM fun b => { b with thermTrip := true, portsOff := true }).reHold.emit (.pin .thermtripN false)
      t.pdThermTrip.alert 1)

/-! ### Domain resets (R43, R61) -/

/-- Registers of the PCX domain and its functions; PCX_ID is OTP and identity. -/
def pcxReg (a : Nat) : Bool := (decide (0x100000 ≤ a) && decide (a < 0x110000) && a != A.PCX_ID) || decide (0x1000000 ≤ a)

/-- Registers that a SerDes rail resets: ADT0 to ADT2, PCX, DISP, NET. -/
def serdesReg (a : Nat) : Bool :=
  pcxReg a || (decide (0x40000 ≤ a) && decide (a < 0x70000)) || (decide (0x110000 ≤ a) && decide (a < 0x140000))

/-- Registers of the MEM domain, and DRAM's download window. -/
def memReg (a : Nat) : Bool := (decide (0x30000 ≤ a) && decide (a < 0x40000)) || windowReg a

/-- Registers that pass a test return to their reset values. -/
def State.clearRegs (s : State) (f : Nat → Bool) : State := { s with regs := s.regs.filter fun e => !(f e.1) }

/-- Virtual ports lose what the host wrote; hot-plug's own state stays. -/
def SlotSt.clear (x : SlotSt) : SlotSt := { SlotSt.reset with attention := x.attention, moving := x.moving, removed := x.removed, told := x.told }

/-- The virtual ports' fields that reach dock ports return to their reset values, and the dock ports follow (R234, R242). -/
def State.portsReset (s : State) : State :=
  let t := (List.range 16).foldl (fun u k => u.untellSlot k) s
  (List.range 16).foldl (fun u k => u.put (F.PCX_SLOT_PCCOFF k) 0) t

/-- Functions 0 to 4 and the virtual ports lose their configuration; the subsystem IDs follow PCX_SSID (R254). -/
def State.funcReset (s : State) : State :=
  (s.aliveChange 2 false).portsReset.pcxM fun x => { x with
    bme := false, slots := x.slots.map SlotSt.clear, up := SlotSt.reset, cfg := [], ssid := s.rd A.PCX_SSID }

/-- The PCX block is reset (R61); the driver of PCIE_WAKE_N with the summaries it follows (R249), and the moves of hot-plug, stay. -/
def State.pcxBlockReset (s : State) : State :=
  let t := (s.portsReset.clearRegs pcxReg).showPerst
  let x := t.pcx
  { t with
    pcx := { PcxSt.reset with slots := x.slots.map SlotSt.clear, sums := x.sums, sumSeq := x.sumSeq, bufs := x.bufs, noteAt := x.noteAt, ins := x.ins, ssid := s.rd A.PCX_SSID,
                              wakeLow := x.wakeLow, asks := x.asks, hp := x.hp, cfgWaits := x.cfgWaits }
    nics := List.replicate 2 NicSt.reset
    srcs := t.srcs.mapIdx fun k y => if k < 2 then y else SrcSt.reset }

/-- The personality PCIe presents (R76, R77): before firmware is ready the boot personality, where the 900 ms have passed or the ROM has been
in STAT 4 (whose download has set DLOAD). -/
def State.present (s : State) : State :=
  let st := s.get F.GLB_BOOT_STAT
  let p := if !s.isHost ∨ !s.own.perstHigh then 0 else if st = 3 then 2 else if 4 ≤ st ∨ s.boot.late ∨ s.bit F.GLB_BOOT_DLOAD then 1 else 0
  (s.bootM fun b => { b with pers := p }).putBit F.GLB_BOOT_PERS (p == 2)

/-- A personality is presented where only Retry Status has been (R76). -/
def State.presentFirst (s : State) : State := if s.boot.pers = 0 then s.present else s

/-- What the loss of the host's link leads to (R61, R244, R252). -/
def State.hostGone (s : State) : State := s.hotHostLost.pcieHostLost.pcxRefresh.nicRefresh.cartFlush

/-- PCIE_PERST_ASSERT (R61, R103, R244, R249). -/
def execPciePerstAssert (s : State) : Host.Outcome State Fault Refusal :=
  .next (if !s.isHost ∨ !s.own.perstHigh then s
    else (((s.aliveChange 0 false).setAlive 1 false).setAlive 2 false).pcxBlockReset.present.hostGone)

/-- PCIE_PERST_RELEASE (R76, R77, R103). -/
def execPciePerstRelease (s : State) : Host.Outcome State Fault Refusal :=
  .next (if !s.isHost ∨ s.own.perstHigh then s
    else
      let t := (s.aliveChange 0 true).bootM fun b => { b with late := false }
      if s.boot.held then t else t.showPerst.present.refreshWake)

/-- Speeds and widths of the host's link (R50, Table 9-2): 2.5 GT/s to PCX_CTRL.MAXSPEED, x4 or narrower. -/
def State.pcieFits (s : State) (speed width : Nat) : Bool := decide (1 ≤ speed) && decide (speed ≤ s.pcieMax) && decide (width ∈ [1, 2, 4])

/-- PCIE_UPSTREAM_LINK_CHANGE (R50, R77, R103, Table 9-6): the link comes up (0) at a speed code and width, goes down (1), receives a hot
reset (2), or enters L2 (3). -/
def execPcieUpstreamLinkChange (kind speed width : Nat) (s : State) : Host.Outcome State Fault Refusal :=
  .next (if !s.isHost ∨ !s.serdesUp ∨ !s.own.perstHigh ∨ (kind = 0 ∧ !(s.pcieFits speed width)) then s
    else
      let down := ((((s.put F.PCX_STAT_LINKUP 0).put F.PCX_STAT_SPEED 0).put F.PCX_STAT_WIDTH 0).raise 43 1 [0, 0, 0, 0]).aliveChange 1 false
      match kind with
      | 0 =>
        let t := (((s.put F.PCX_STAT_LINKUP 1).put F.PCX_STAT_SPEED speed).put F.PCX_STAT_WIDTH width).pcxM fun x => { x with l2 := false }
        ((t.raise 43 0 [0, speed, width, 0]).aliveChange 1 true).refreshWake
      | 1 => (if s.bit F.PCX_STAT_LINKUP then down else s).funcReset.present.hostGone
      | 2 => s.funcReset.present.hostGone
      | _ => if s.bit F.PCX_STAT_LINKUP then (down.pcxM fun x => { x with l2 := true }).hostGone else s.pcxM fun x => { x with l2 := true })

/-- A SerDes rail falls (Table 2-11): ADT0 to ADT2, PCX, DISP and NET are reset, the links go DARK; outputs whose tunnels
stand ask for REFRESH (R292). -/
def State.serdesReset (s : State) : State :=
  let dark := [0, 1, 2].filter fun p => s.portState p != 0
  let t := [0, 1, 2].foldl (fun u p => u.goDark p 11 false) s
  let t := (t.aliveChange 1 false).pcxBlockReset.clearRegs serdesReg
  let t : State := {
    t with
    ports := List.replicate 3 PortSt.reset
    srcs := List.replicate 6 SrcSt.reset
    dispOuts := t.dispOuts.map OutSt.afterReset
    macs := List.replicate 2 MacSt.reset
    links := t.links.map fun (l : LinkSt) => ({ LinkSt.reset with poolAt := l.poolAt } : LinkSt)
    pcs := t.pcs.map PcsSt.afterReset }
  let t := (dark.foldl (fun u p => u.put (F.ADT_STAT_LASTFAIL p) 11) t).showPerst.present.hostGone
  [0, 1, 2, 3].foldl (fun u k => u.sendRefresh k 2) t

/-- A DRAM rail falls (Table 2-11): MEM is reset and DRAM's contents are lost; the outputs ask for REFRESH (R292). -/
def State.memReset (s : State) : State :=
  let t := ([0, 1, 2].foldl (fun u p => u.dropQueued p (·.dram)) s).clearRegs memReg
  [0, 1, 2, 3].foldl (fun u k => u.sendRefresh k 2) { t with store := { t.store with slots := [] }, arb := ArbSt.reset }

/-- RAIL_BELOW_RESET_LEVEL (R43, R44): the domains of Table 2-11 are reset. -/
def execRailBelowResetLevel (rail : Nat) (s : State) : Host.Outcome State Fault Refusal :=
  .next (if 9 ≤ rail ∨ rail ∈ s.boot.railsLow then s
    else
      let t := (s.bootM fun b => { b with railsLow := rail :: b.railsLow }).notOff fun u =>
        if rail < 3 then u.coreReset F.GLB_RSTCAUSE_RAIL else if rail < 5 then u.serdesReset else u.memReset
      t.reHold)

/-- RAIL_VALID (R43): the domains leave reset once no rail of theirs is low; in Off the device stays held until PORST_N (R42). -/
def execRailValid (rail : Nat) (s : State) : Host.Outcome State Fault Refusal :=
  .next (
    let t := s.bootM fun b => { b with railsLow := b.railsLow.filter (· != rail) }
    if s.get F.PWR_STAT_CUR = 4 then t else t.reHold)

/-! ### Boot (R68 to R78) -/

/-- The state that the transition fields give (R469). -/
def lcOf (cells : List Nat) : Nat := ((List.range 4).filter fun k => decide (48 ≤ cells.getD k 0)).foldl (fun a k => max a (k + 1)) 0

/-- Whether a state needs a partition of Table 19-3, of DIGESTS the digest `d` (R473). -/
def needsOtp (st row d : Nat) : Bool :=
  match row with
  | 2 => true
  | 4 => if st = 3 then decide (2 ≤ d) else (st == 1 && decide (d < 2)) || (st == 2 && (decide (d < 2) || d == 4))
  | 5 => st == 1 || st == 2
  | 6 => st == 3
  | 7 => decide (1 ≤ st) && decide (st ≤ 3)
  | _ => false

/-- What an uncorrectable word makes unusable: 0 the root, 1 the firmware-key digest, 2 the device-CA digest. -/
def otpSpoils (row d : Nat) : List Nat :=
  match row with
  | 4 => if d = 0 ∨ d = 2 then [1] else if d = 1 ∨ d = 3 then [2] else []
  | 5 | 6 | 7 => [0]
  | _ => []

/-- Step 1 of R69 (R467, R469, R473, R474): the life-cycle state, errors of the OTP, and slots 0 to 2. -/
def State.lampStart (s : State) (otp : List (Nat × Nat)) : State :=
  let st := lcOf s.keys.cells
  let errs := otp.filter fun e => needsOtp st e.1 e.2
  let t := (((s.put F.KEY_LCS_CUR st).put F.KEY_LCS_BURNT st).put F.KEY_LCS_ROOT ([0, 1, 1, 2, 3].getD st 3)).putBit F.KEY_LCS_OTPERR (errs != [])
  let t := t.ksM fun k => { k with bad := errs.flatMap fun e => otpSpoils e.1 e.2 }
  ((errs.map (·.1)).eraseDups.foldl (fun u row => u.raise 4 3 [row, 0, 0, 0]) t).loadRoot

/-- The boot ROM stops with a STAT of 4 or above; a host sees the boot personality (R76). -/
def State.bootStop (s : State) (st : Nat) : State := (s.put F.GLB_BOOT_STAT st).presentFirst

/-- Step 7 of R69 with an accepted image (R74, R449, R482). -/
def State.startImage (s : State) (img : List (BitVec 8)) : State :=
  let t := (s.put F.GLB_BOOT_STAT 2).put F.GLB_BOOTVER_VERSION (leNat (slice img 8 4))
  let t := t.ksM fun k => { k with measure := Config.sha384 (signedPart img), runSvn := byteAt img 0x0C }
  let t := (t.bootM fun b => { b with wdt := true }).startHewers (entryOf img)
  t.emits ((segments (img.take 512)).flatMap fun g => g.copies (slice img 512 (payLen img)))

/-- Both slots have failed (R68): download, or halt. -/
def State.noImage (s : State) : State :=
  if s.get F.GLB_STRAP_BOOT = 0 ∨ s.role = 2 then s.bootStop 5 else s.bootStop 4

/-- Steps 5 and 6 of R69: the directory at flash offsets 0 and 0x1000, the slots at the offsets it names, the image. -/
def State.bootFlash (s : State) (f : Flash) : State :=
  let d0 := (f.from_ 0).take 32
  let d1 := (f.from_ 0x1000).take 32
  match pickDir d0 d1 with
  | none => s.noImage
  | some d =>
    let s := s.bootM fun x => { x with dir := some (bootDirOf f d0 d1 d) }
    let img := fun (k : Nat) => f.from_ (dirOff d k)
    match s.trySlots (dirPref d) fun k => s.imageOk (img k) flashBound with
    | (t, some k) => ((t.put F.GLB_BOOT_SLOT k).bootM fun x => { x with startSlot := k }).startImage (img k)
    | (t, none) => t.noImage

/-- BOOT_ROM_START (R63, R64, R68 to R73, R78): the boot ROM runs. `otp` lists the OTP's uncorrectable words, `dram` whether DRAM
trains, `flash` the flash that answers. -/
def execBootRomStart (otp : List (Nat × Nat)) (dram found : Bool) (modes : Nat) (dqs : Bool) (size : Nat)
    (runs : List (Nat × List (BitVec 8))) (s : State) : Host.Outcome State Fault Refusal :=
  .next (if s.boot.held ∨ s.boot.warmLow ∨ s.boot.romDone then s
    else
      let t := ((s.bootM fun b => { b with romDone := true }).putBit F.GLB_BOOT_BSTRAP (s.get F.GLB_STRAP_BOOT == 3)).lampStart otp
      if t.lcs = 4 then t.bootStop 7
      else
        let t := (t.emit (.pin .rstoutN true)).emit (.pulse .spiResetN false 10000)
        let t := t.bootM fun b => { b with flashMode := if found then flashMode (modes % 8 + (if dqs then 8 else 0)) else 0 }
        if !dram then (t.put F.MEM_DRAMSTAT_STATE 0).bootStop 8
        else
          let t := t.put F.MEM_DRAMSTAT_STATE 1
          if s.get F.GLB_STRAP_BOOT = 2 then (if s.role = 2 then t.bootStop 6 else t.bootStop 4)
          else if found then t.bootFlash { modes := modes % 8 + (if dqs then 8 else 0), size := size, runs := runs }
          else t.noImage)

/-- A downloaded image is checked (R75, R402): it runs, or STAT stays 4 and DLFAIL is set. -/
def State.downloadCheck (s : State) (img : List (BitVec 8)) : State :=
  if s.imageOk img downloadBound then ((s.put F.GLB_BOOT_DLOAD 1).put F.GLB_BOOT_DLFAIL 0).startImage img
  else s.put F.GLB_BOOT_DLFAIL 1

/-- The first bytes of the download window. -/
def State.window (s : State) (n : Nat) : List (BitVec 8) :=
  (List.range n).map fun i => BitVec.ofNat 8 (bitsOf (s.rd (0x800000 + i / 4 * 4)) (8 * (i % 4)) 8)

/-- A GLB_DLEN write (R75): while STAT is 4 in host role the host starts the check of what it has put into the window; at any other time,
or above 8 MiB, the write is ignored and tallied. -/
def State.writeDlen (s : State) (r : Req) (v : Word) : State :=
  let n := bitsOf v 0 24
  if r = .host ∧ s.isHost ∧ s.get F.GLB_BOOT_STAT = 4 then
    if 0x800000 < n then s.tally F.GLB_IGNWR else (s.put F.GLB_DLEN_LEN n).downloadCheck (s.window n)
  else s.glbWrite r fun t => t.tally F.GLB_IGNWR

/-- DOWNLOAD_LENGTH_WRITE (R75). -/
def execDownloadLengthWrite (r : Req) (len : Word) (s : State) : Host.Outcome State Fault Refusal :=
  .next (if s.boot.held then s else s.writeDlen r len)

/-- The entries that a warm reset left open close, with the time from detection to the reset (R449, R496). -/
def State.closeWarm (s : State) : State :=
  let o := s.flt.opens.filter fun x => decide (x.at_ ≤ s.boot.warmAt)
  o.foldl (fun t x => t.closeFault { x with at_ := s.uptime - (s.boot.warmAt - x.at_) }) s

/-- Firmware releases PCIE_PERST_N of the dock ports, once after a reset (R62, R234): the model has it do so as it signals ready. -/
def State.releasePerst (s : State) : State :=
  if s.role = 1 then (s.bootM fun b => { b with perstOut := true }).emit (.pin .pciePerstN true) else s

/-- FIRMWARE_READY (R62, R69 step 8, R73, R76, R77, R449): firmware of slot `slot` signals ready. The record is cleared; a slot started that is
not the one that is ready stays marked. -/
def execFirmwareReady (slot : Nat) (s : State) : Host.Outcome State Fault Refusal :=
  .next (if s.get F.GLB_BOOT_STAT ≠ 2 then s
    else
      let t := ((((s.put F.GLB_BOOT_STAT 3).put F.GLB_BOOT_READY 1).put F.GLB_BOOT_AFAIL 0).put F.GLB_BOOT_BFAIL 0).bootM fun b =>
        { b with wdt := false }
      let t := if s.bit F.GLB_BOOT_DLOAD ∨ slot % 2 = s.boot.startSlot then t else (t.markFailed s.boot.startSlot).put F.GLB_BOOT_SLOT slot
      t.closeWarm.presentFirst.releasePerst.usbFollow)

/-- BOOT_WATCHDOG_EXPIRY (R58, R73, R74). -/
def execBootWatchdogExpiry (s : State) : Host.Outcome State Fault Refusal :=
  .next (if s.boot.wdt then
      (if s.bit F.GLB_BOOT_DLOAD then s else s.markFailed s.boot.startSlot).coreReset F.GLB_RSTCAUSE_BOOTWDT
    else s)

/-- BOOT_PERSONALITY_TIMEOUT (R76): 900 ms without a personality. -/
def execBootPersonalityTimeout (s : State) : Host.Outcome State Fault Refusal :=
  .next (if s.isHost ∧ s.own.perstHigh ∧ s.boot.romDone ∧ s.boot.pers = 0 ∧ s.get F.GLB_BOOT_STAT < 3 then
      (s.bootM fun b => { b with pers := 1, late := true }).put F.GLB_BOOT_LATE 1
    else s)

end Sys2Proof.Machine
end

