-- ==== Sys2Proof/Machine/KeyStore.lean ====
section
/-! DEFINITION. The Lamp Room: engine operations, life-cycle transitions, nonce (chapter 19). A requester that is a Hewer is duty
firmware at its own channel: its command carries the arguments. A host's arguments are in KEY_BUF. `dram` is what an operation reads
from DRAM. -/

namespace Sys2Proof.Machine

/-! ### Arguments and results (R477) -/

/-- KEY_BUF's 256 bytes. -/
def State.keyBuf (s : State) : List (BitVec 8) := (List.range 64).flatMap fun w => leBytes 4 (s.get (F.KEY_BUF w))

/-- Put result bytes into KEY_BUF from its start. -/
def State.putKeyBuf (s : State) (bs : List (BitVec 8)) : State :=
  let new := bs ++ s.keyBuf.drop bs.length
  if bs = [] then s else (List.range 64).foldl (fun t w => t.put (F.KEY_BUF w) (leNat (slice new (4 * w) 4))) s

/-- A handle argument. -/
def KeyOp.handle (o : KeyOp) : Nat := leNat (slice o.args 0 2)

/-- The slot a handle names, with its key: BADHANDLE (2) for another generation or an empty slot, POLICY (3) for a host where the slot
is 1 to 27 or lacks HOST (R474, R478). -/
def State.keySlot (s : State) (fw : Bool) (h : Nat) : Except Nat (Nat × KeyVal) :=
  let n := h % 64
  match (s.slotAt n).key with
  | none => .error 2
  | some v =>
    if (s.slotAt n).gen ≠ h / 64 then .error 2
    else if !fw && ((decide (1 ≤ n) && decide (n ≤ 27)) || !(polBit v.policy 5)) then .error 3
    else .ok (n, v)

/-- The same, for a key whose policy must hold a bit (R475). -/
def State.keyWith (s : State) (fw : Bool) (h b : Nat) : Except Nat KeyVal :=
  match s.keySlot fw h with
  | .error e => .error e
  | .ok (_, v) => if polBit v.policy b then .ok v else .error 3

/-- What an operation answers: state, CODE, HANDLE, result bytes. -/
structure KeyAns where
  s : State
  code : Nat
  handle : Nat
  bytes : List (BitVec 8)
deriving DecidableEq, Repr

/-- A failed operation. -/
def State.keyFail (s : State) (code : Nat) : KeyAns := { s := s, code := code, handle := 0, bytes := [] }

/-- An operation that ends well. -/
def State.keyOk (s : State) (bytes : List (BitVec 8)) : KeyAns := { s := s, code := 0, handle := 0, bytes := bytes }

/-- A new key goes into the first free slot of a list, with HOST where a host made it (R478); NOSLOT where none is free. -/
def State.newKey (s : State) (fw : Bool) (slots : List Nat) (v : KeyVal) (bytes : List (BitVec 8)) : KeyAns :=
  match s.freeSlot slots with
  | none => s.keyFail 4
  | some n =>
    let t := s.setKey n { v with policy := if fw then v.policy else polWith v.policy 5 }
    { s := t, code := 0, handle := t.handleOf n, bytes := bytes }

/-- The general slots. -/
def generalSlots : List Nat := (List.range 36).map (· + 28)

/-! ### The operations of Table 19-5 -/

/-- DERIVE (R476). -/
def State.opDerive (s : State) (o : KeyOp) : KeyAns :=
  let pol := byteAt o.args 2
  let len := byteAt o.args 3
  match s.keyWith o.fw o.handle 0 with
  | .error e => s.keyFail e
  | .ok v =>
    if len ∉ [32, 36, 48] then s.keyFail 1
    else if !(polWithin pol v.policy) ∨ 128 ≤ pol then s.keyFail 3
    else if 8 ≤ v.depth then s.keyFail 6
    else s.newKey o.fw generalSlots { kind := 0, policy := pol, depth := v.depth + 1, value := derive v.value (slice o.args 0x20 32) len } []

/-- KEYGEN. -/
def State.opKeygen (s : State) (o : KeyOp) : KeyAns :=
  let kind := byteAt o.args 0
  if kind ≠ 1 ∧ kind ≠ 2 then s.keyFail 1
  else
    let (x, t) := s.draw
    let k := Config.ecKeyGen x
    t.newKey o.fw generalSlots { kind := kind, policy := if kind = 1 then 0x40 else 0x08, depth := 0, value := scalarBytes k } (pubBytes (Config.ecPublic k))

/-- AGREE: the shared secret has DERIVE and LINK (R479). -/
def State.opAgree (s : State) (o : KeyOp) : KeyAns :=
  match s.keyWith o.fw o.handle 6 with
  | .error e => s.keyFail e
  | .ok v => s.newKey o.fw generalSlots
      { kind := 0, policy := 3, depth := 0, value := scalarBytes (Config.ecdh v.scalar (readPub (slice o.args 0x20 97))) } []

/-- SIGN. -/
def State.opSign (s : State) (o : KeyOp) : KeyAns :=
  match s.keyWith o.fw o.handle 3 with
  | .error e => s.keyFail e
  | .ok v =>
    let (x, t) := s.draw
    t.keyOk (beBytes 96 (Config.ecdsaSign v.scalar (BitVec.ofNat 384 (beNat (slice o.args 0x20 48))) x).toNat)

/-- PUBKEY of a SIGN or AGREE key. -/
def State.opPubkey (s : State) (o : KeyOp) : KeyAns :=
  match s.keySlot o.fw o.handle with
  | .error e => s.keyFail e
  | .ok (_, v) => if polBit v.policy 3 ∨ polBit v.policy 6 then s.keyOk (pubBytes (Config.ecPublic v.scalar)) else s.keyFail 3

/-- VERIFY. -/
def State.opVerify (s : State) (o : KeyOp) : KeyAns :=
  if Config.ecdsaVerify (readPub (slice o.args 0 97)) (BitVec.ofNat 384 (beNat (slice o.args 0x64 48))) (BitVec.ofNat 768 (beNat (slice o.args 0x94 96))) then
    s.keyOk []
  else s.keyFail 7

/-- Whether a port or output uses a slot (R485). -/
def State.slotInUse (s : State) (n : Nat) : Bool :=
  ([0, 1, 2].any fun p =>
    let k := (s.link p).key
    (k.step != 0 && k.eph == n && n != 0) || ((k.keyTx ++ k.keyRx).any fun e => e.2 == n)) ||
  (n == 2 && s.dispOuts.any fun o => (o.p ++ o.q.getD [] ++ o.b.getD []).any fun e => e.2.prot) ||
  (decide (18 ≤ n) && decide (n ≤ 27) && (([0, 1, 2, 3].any fun k => s.get (F.DSO_OUT_STAT_HDCP k) != 0) || ([0, 1].any fun k => s.bit (F.DSC_IN_STAT_HDCPAUTH k))))

/-- ERASE (R474, R485). -/
def State.opErase (s : State) (o : KeyOp) : KeyAns :=
  match s.keySlot o.fw o.handle with
  | .error e => s.keyFail e
  | .ok (n, _) => if s.slotInUse n then s.keyFail 10 else (s.eraseKey n).keyOk []

/-- The attestation report (R482, Table 19-6). -/
def State.report (s : State) (nonce : List (BitVec 8)) : List (BitVec 8) :=
  leBytes 4 0x54415A44 ++ leBytes 1 1 ++ leBytes 1 s.lcs ++ leBytes 1 (s.get F.GLB_BOOT_SVNCTR) ++ leBytes 1 s.role ++ leBytes 8 s.uid ++
    leBytes 4 (s.get F.GLB_BOOTVER_VERSION) ++ leBytes 4 (bitsOf (s.rd A.GLB_BOOT) 0 13) ++ leBytes 6 s.sec ++ leBytes 2 0 ++ leBytes 4 s.ns ++
    leBytes 12 0 ++ beBytes 48 s.keys.measure.toNat ++ nonce

/-- ATTEST (R482). -/
def State.opAttest (s : State) (o : KeyOp) : KeyAns :=
  match (s.slotAt 1).key with
  | none => s.keyFail 2
  | some v =>
    let rep := s.report (slice o.args 0 32)
    let (x, t) := s.draw
    t.keyOk (rep ++ beBytes 96 (Config.ecdsaSign v.scalar (Config.sha384 rep) x).toNat)

/-- UNWRAP (R480): a blob that fails its check is VERIFY. -/
def State.opUnwrap (s : State) (o : KeyOp) : KeyAns :=
  let len := leNat (slice o.args 8 2)
  match s.keyWith o.fw o.handle 4 with
  | .error e => s.keyFail e
  | .ok v =>
    if !(polBit v.policy 2) then s.keyFail 3
    else if 2048 < len then s.keyFail 1
    else match Config.aesKeyUnwrap v.value (o.dram.take len) with
      | none => s.keyFail 7
      | some k => s.newKey o.fw ((List.range 10).map (· + 18)) { kind := 0, policy := 4, depth := 0, value := k } []

/-- WRAP (R480): the blob goes to DRAM. -/
def State.opWrap (s : State) (o : KeyOp) : KeyAns :=
  let len := leNat (slice o.args 8 2)
  match s.keyWith o.fw o.handle 4 with
  | .error e => s.keyFail e
  | .ok v =>
    if 2048 < len then s.keyFail 1
    else (s.emit (.dram (leNat (slice o.args 0x0C 4)) (Config.aesKeyWrap v.value (o.dram.take len)))).keyOk []

/-- Whether a partition of GENROOT and PROGRAM (1 to 7) is written. -/
def State.progd (s : State) (p : Nat) : Bool := s.get F.KEY_LCS_PROGD / 2 ^ (p - 1) % 2 == 1

/-- A partition is written. -/
def State.setProgd (s : State) (p : Nat) : State := s.put F.KEY_LCS_PROGD (s.get F.KEY_LCS_PROGD ||| 2 ^ (p - 1))

/-- GENROOT (R471, R472). -/
def State.opGenroot (s : State) (o : KeyOp) (ok : Bool) : KeyAns :=
  let p := byteAt o.args 0
  if p ≠ 1 ∧ p ≠ 2 then s.keyFail 1
  else if 1 < s.lcs ∨ (p = 1 ∧ s.lcs = 1) then s.keyFail 5
  else if s.progd p then s.keyFail 8
  else if !ok then s.keyFail 9
  else
    let (x, t) := s.draw
    ((if p = 1 then t.ksM fun k => { k with depRoot := some x } else t.ksM fun k => { k with rmaRoot := some x }).setProgd p).keyOk []

/-- PROGRAM (R471). -/
def State.opProgram (s : State) (o : KeyOp) (ok : Bool) : KeyAns :=
  let p := byteAt o.args 0
  if p < 3 ∨ 7 < p then s.keyFail 1
  else if 1 < s.lcs then s.keyFail 5
  else if s.progd p then s.keyFail 8
  else if !ok then s.keyFail 9
  else
    (((List.range 12).foldl (fun t w => t.put (F.KEY_OTP (12 * (p - 3) + w)) (leNat (slice o.args (4 + 4 * w) 4))) s).setProgd p).keyOk []

/-- ADVANCE (R483). -/
def State.opAdvance (s : State) (ok : Bool) : KeyAns :=
  let old := s.get F.GLB_BOOT_SVNCTR
  let new := max (min 64 s.keys.runSvn) (max s.keys.svnA s.keys.svnB)
  if s.lcs ≠ 1 ∧ s.lcs ≠ 2 then s.keyFail 5
  else if !ok then s.keyFail 9
  else
    let t := (s.ksM fun k => { k with svnA := new, svnB := new }).put F.GLB_BOOT_SVNCTR new
    (if old < new then t.raise 4 4 [old, new, 0, 0] else t).keyOk []

/-- The current nonce. -/
def State.nonce (s : State) : List (BitVec 8) := (List.range 8).flatMap fun w => leBytes 4 (s.get (F.KEY_NONCE w))

/-- The nonce is consumed. -/
def State.useNonce (s : State) : State := (List.range 8).foldl (fun t w => t.put (F.KEY_NONCE w) 0) (s.put F.KEY_NONCECTL_VALID 0)

/-- Whether a token verifies (R484): its public key and signature stand at 0x00 and 0x64. -/
def State.tokenOk (s : State) (pre : String) (bs : List (BitVec 8)) : Bool :=
  let msg := (pre.toList.map fun c => BitVec.ofNat 8 c.toNat) ++ leBytes 8 s.uid ++ s.nonce
  s.bit F.KEY_NONCECTL_VALID && Config.sha384 (slice bs 0 97) == s.otpDigest 4 &&
    Config.ecdsaVerify (readPub (slice bs 0 97)) (Config.sha384 msg) (BitVec.ofNat 768 (beNat (slice bs 0x64 96)))

/-- DBGUNLOCK (R484). -/
def State.opUnlock (s : State) (o : KeyOp) : KeyAns :=
  if s.lcs ≠ 3 then s.keyFail 5
  else if s.tokenOk "DZDBG" o.args then ((s.useNonce.put F.KEY_LCS_JTAGUNL 1).raise 4 5 [0, 0, 0, 0]).keyOk []
  else s.useNonce.keyFail 7

/-- An operation's effect, where the state and the issuer allow it (Table 19-5); `ok`: the OTP took what was programmed. -/
def State.keyDo (s : State) (o : KeyOp) (ok : Bool) : KeyAns :=
  if s.lcs = 4 ∧ (o.op ≤ 5 ∨ o.op = 8) then s.keyFail (if o.op = 0 then 1 else 5)
  else match o.op with
  | 1 => s.opDerive o
  | 2 => s.opKeygen o
  | 3 => s.opAgree o
  | 4 => s.opSign o
  | 5 => s.opPubkey o
  | 6 => s.opVerify o
  | 7 => s.opErase o
  | 8 => s.opAttest o
  | 9 => if o.fw ∧ (s.lcs = 1 ∨ s.lcs = 2) then s.opUnwrap o else s.keyFail 5
  | 10 => if s.lcs ≤ 1 then s.opWrap o else s.keyFail 5
  | 11 => s.opGenroot o ok
  | 12 => s.opProgram o ok
  | 13 => if o.fw then s.opAdvance ok else s.keyFail 5
  | 14 => s.opUnlock o
  | _ => s.keyFail 1

/-! ### Starting and ending an operation (R477, R485) -/

/-- The next operation starts where none runs and no burn waits: firmware's go first. -/
def State.keyNext (s : State) : State :=
  if s.keys.running.isSome ∨ s.keys.burning.isSome then s.keyRegs
  else
    match s.keys.queue.filter (·.fw) ++ s.keys.queue.filter (fun o => !o.fw) with
    | [] => s.keyRegs
    | o :: rest => (s.ksM fun k => { k with running := some o, queue := rest }).keyRegs

/-- An operation enters the engine's queue. -/
def State.keyQueue (s : State) (o : KeyOp) : State := (s.ksM fun k => { k with queue := k.queue ++ [o] }).keyNext

/-- An operation is issued: by firmware, or by GO, which is ignored and tallied while BUSY is 1. -/
def State.keyIssue (s : State) (r : Req) (op : Nat) (args dram : List (BitVec 8)) : State :=
  match r with
  | .hewer _ => if !s.up then s else s.keyQueue { fw := true, op := op, args := args, dram := dram }
  | _ => s.controlWrite r fun t =>
    if t.bit F.KEY_CMD_BUSY then t.tally F.KEY_IGNWR
    else (t.put F.KEY_CMD_OP op).keyQueue { fw := false, op := op, args := t.keyBuf, dram := dram }

/-- A failed operation is counted, with its event at most once per 1 ms (R478, R486). -/
def State.keyError (s : State) (o : KeyOp) (code : Nat) : State :=
  let t := s.tally F.KEY_OPERR
  if t.due t.keys.errAt 1000000 then
    (t.ksM fun k => { k with errAt := some t.uptime }).raise 4 2 [o.op, code, if o.fw then 0 else 1, 0]
  else t

/-- KEY_OPERATION_DONE (R477, R478, R485): the running operation ends; `otpOk`: the OTP took what it programmed. -/
def execKeyOperationDone (otpOk : Bool) (s : State) : Host.Outcome State Fault Refusal :=
  .next (s.whenUp fun s => (match s.keys.running with
    | none => s
    | some o =>
      let a := s.keyDo o otpOk
      let t := if a.code = 0 then a.s else a.s.keyError o a.code
      let t := if o.fw then t.emit (.keyResult o.op a.code a.handle a.bytes)
        else ((t.put F.KEY_RES_CODE a.code).put F.KEY_RES_HANDLE a.handle).putKeyBuf a.bytes
      (t.ksM fun k => { k with running := none }).keyNext))

/-- KEY_DERIVE (R475, R476, R478) is issued. -/
def execKeyDerive (r : Req) (args dram : List (BitVec 8)) (s : State) : Host.Outcome State Fault Refusal := .next (s.keyIssue r 1 args dram)

/-- KEY_KEYGEN (R477, R478) is issued. -/
def execKeyKeygen (r : Req) (args dram : List (BitVec 8)) (s : State) : Host.Outcome State Fault Refusal := .next (s.keyIssue r 2 args dram)

/-- KEY_AGREE (R475, R477, R478) is issued. -/
def execKeyAgree (r : Req) (args dram : List (BitVec 8)) (s : State) : Host.Outcome State Fault Refusal := .next (s.keyIssue r 3 args dram)

/-- KEY_SIGN (R475, R477, R478) is issued. -/
def execKeySign (r : Req) (args dram : List (BitVec 8)) (s : State) : Host.Outcome State Fault Refusal := .next (s.keyIssue r 4 args dram)

/-- KEY_PUBKEY (R477, R481) is issued. -/
def execKeyPubkey (r : Req) (args dram : List (BitVec 8)) (s : State) : Host.Outcome State Fault Refusal := .next (s.keyIssue r 5 args dram)

/-- KEY_VERIFY (R477) is issued. -/
def execKeyVerify (r : Req) (args dram : List (BitVec 8)) (s : State) : Host.Outcome State Fault Refusal := .next (s.keyIssue r 6 args dram)

/-- KEY_ERASE (R474, R477, R478, R485) is issued. -/
def execKeyErase (r : Req) (args dram : List (BitVec 8)) (s : State) : Host.Outcome State Fault Refusal := .next (s.keyIssue r 7 args dram)

/-- KEY_ATTEST (R477, R482) is issued. -/
def execKeyAttest (r : Req) (args dram : List (BitVec 8)) (s : State) : Host.Outcome State Fault Refusal := .next (s.keyIssue r 8 args dram)

/-- KEY_UNWRAP (R475, R477, R480) is issued. -/
def execKeyUnwrap (r : Req) (args dram : List (BitVec 8)) (s : State) : Host.Outcome State Fault Refusal := .next (s.keyIssue r 9 args dram)

/-- KEY_WRAP (R475, R477, R480) is issued. -/
def execKeyWrap (r : Req) (args dram : List (BitVec 8)) (s : State) : Host.Outcome State Fault Refusal := .next (s.keyIssue r 10 args dram)

/-- KEY_GENROOT (R471, R472, R477) is issued. -/
def execKeyGenroot (r : Req) (args dram : List (BitVec 8)) (s : State) : Host.Outcome State Fault Refusal := .next (s.keyIssue r 11 args dram)

/-- KEY_PROGRAM (R471, R477) is issued. -/
def execKeyProgram (r : Req) (args dram : List (BitVec 8)) (s : State) : Host.Outcome State Fault Refusal := .next (s.keyIssue r 12 args dram)

/-- KEY_ADVANCE (R477, R483) is issued. -/
def execKeyAdvance (r : Req) (args dram : List (BitVec 8)) (s : State) : Host.Outcome State Fault Refusal := .next (s.keyIssue r 13 args dram)

/-- KEY_DBGUNLOCK (R477, R484) is issued. -/
def execKeyDbgunlock (r : Req) (args dram : List (BitVec 8)) (s : State) : Host.Outcome State Fault Refusal := .next (s.keyIssue r 14 args dram)

/-! ### Life-cycle (R468 to R470) -/

/-- Whether a field's condition of Table 19-2 holds, tokens apart. -/
def State.lcReady (s : State) (tgt : Nat) : Bool :=
  match tgt with
  | 1 => s.progd 1 && s.progd 3 && s.progd 4
  | 2 => s.progd 2 && s.progd 5 && s.progd 6 && s.progd 7
  | _ => true

/-- A transition is refused (R468): cause 1 not listed, 2 unmet condition, 3 bad token. -/
def State.lcRefuse (s : State) (tgt cause : Nat) : State := s.raise 4 1 [tgt, cause, 0, 0]

/-- A transition is requested (R468, R484). -/
def State.lcRequest (s : State) (tgt : Nat) : State :=
  let cur := s.lcs
  if cur = 4 ∨ (tgt ≠ 4 ∧ tgt ≠ cur + 1) then s.lcRefuse tgt 1
  else if !(s.lcReady tgt) then s.lcRefuse tgt 2
  else
    let burn := fun (t : State) => t.ksM fun k => { k with burning := some tgt }
    if tgt = 3 then (if s.tokenOk "DZRMA" s.keyBuf then burn s.useNonce else s.useNonce.lcRefuse tgt 3)
    else burn s

/-- A KEY_LCREQ write (R485, R487). -/
def State.writeLcreq (s : State) (r : Req) (v : Word) : State :=
  s.controlWrite r fun t =>
    if bitsOf v 8 8 ≠ 0x4C ∨ t.keys.burning.isSome then t.tally F.KEY_IGNWR else t.lcRequest (bitsOf v 0 3)

/-- LIFECYCLE_REQUEST (R468, R484, R485). -/
def execLifecycleRequest (r : Req) (target : Nat) (s : State) : Host.Outcome State Fault Refusal :=
  .next (s.writeLcreq r (BitVec.ofNat 32 (0x4C00 + target % 8)))

/-- LIFECYCLE_BURN_DONE (R469, R470): the programming pass ends and `cells` cells of the field read 1. -/
def execLifecycleBurnDone (cells : Nat) (s : State) : Host.Outcome State Fault Refusal :=
  .next (s.whenUp fun s => (match s.keys.burning with
    | none => s
    | some tgt =>
      if s.keys.running.isSome then s
      else
        let t := s.ksM fun k => { k with burning := none, cells := k.cells.modify (tgt - 1) fun c => max c (min cells 64) }
        let t := (t.put F.KEY_LCS_BURNT (lcOf t.keys.cells)).putBit F.KEY_LCS_PARTIAL (t.keys.cells.any fun c => decide (1 ≤ c) && decide (c < 48))
        if 48 ≤ t.keys.cells.getD (tgt - 1) 0 then
          ((t.raise 4 0 [s.lcs, lcOf t.keys.cells, 0, 0]).loseSlots).coreReset F.GLB_RSTCAUSE_SWCORE
        else t.keyNext))

/-- A KEY_NONCECTL write (R484): GEN draws a fresh nonce. -/
def State.writeNonce (s : State) (r : Req) (v : Word) : State :=
  s.controlWrite r fun t =>
    if bitsOf v 0 1 = 0 then t
    else
      let (x, u) := t.draw
      (List.range 8).foldl (fun w k => w.put (F.KEY_NONCE k) (x.toNat / 2 ^ (32 * k))) (u.put F.KEY_NONCECTL_VALID 1)

/-- NONCE_GENERATE (R484). -/
def execNonceGenerate (r : Req) (s : State) : Host.Outcome State Fault Refusal := .next (s.writeNonce r 1)

end Sys2Proof.Machine
end

