-- ==== Sys2Proof/Machine/BusAccess.lean ====
section
/-! DEFINITION. The register bus (chapters 0, 1 and 22): which register an access meets, who may write it, what a write and a read do, the
snapshot, the holding registers of wide counters, and the mirror of the Lantern's registers. -/

namespace Sys2Proof.Machine

/-! ### Blocks on the bus -/

/-- Whether a block is Off in the latched role (R15, Table 1-1); functions 1 to 3 exist in host role. -/
def State.offBlock (s : State) (b : Blk) : Bool :=
  match b with
  | .pcx => s.role == 2
  | .dso | .eth => s.role == 0
  | .usb => s.role != 1
  | .nic | .push | .msix => s.role != 0
  | _ => false

/-- The ignored-write tally of a block (R12); EVT and the windows of functions 1 to 3 count in GLB_IGNWR. -/
def blockTally (b : Blk) (n : Nat) : Fld :=
  match b with
  | .pwr => F.PWR_IGNWR | .lant => F.LANT_IGNWR | .key => F.KEY_IGNWR | .flt => F.FLT_IGNWR | .hwr => F.HWR_IGNWR | .mem => F.MEM_IGNWR
  | .adt => F.ADT_IGNWR n | .drf => F.DRF_IGNWR | .tun => F.TUN_IGNWR | .sch => F.SCH_IGNWR n | .fab => F.FAB_IGNWR | .crt => F.CRT_IGNWR
  | .tim => F.TIM_IGNWR | .pcx => F.PCX_IGNWR | .dsc => F.DSC_IGNWR | .dso => F.DSO_IGNWR | .eth => F.ETH_IGNWR n | .usb => F.USB_IGNWR
  | .pd => F.PD_IGNWR n
  | .glb | .evt | .nic | .push | .msix => F.GLB_IGNWR

/-- A write at an address is ignored and counted (R12, R15, R504). -/
def State.ignored (s : State) (a : Nat) : State :=
  match blockOf a with
  | some (b, n, _) => if s.offBlock b then s.tally F.GLB_IGNWR else s.tally (blockTally b n)
  | none => s.tally F.GLB_IGNWR

/-- Whether a register's block answers, and with what description: in dock and relay roles DSC has only its IGNWR and DECERR (R281); an
MSI-X table ends with its function's vectors. -/
def State.regHere (s : State) (a : Nat) : Option RegDesc :=
  match blockOf a with
  | some (b, n, o) =>
    if s.offBlock b ∨ (b = .dsc ∧ s.role ≠ 0 ∧ a ≠ A.DSC_IGNWR ∧ a ≠ A.DSC_DECERR) ∨ (b = .msix ∧ o < 0x2000 ∧ 16 * msixVectors n ≤ o) then none
    else regAt a
  | none => none

/-- Blocks whose registers lie outside the Core domain (Table 1-8). -/
def crossDomain (b : Blk) : Bool := b ∈ [.drf, .hwr, .adt, .mem, .tim, .pcx, .eth, .usb, .lant]

/-- The power domain a register sits in, by its bit of PWR_DOM (Table 17-1); none for the Lantern's. -/
def domainOf (b : Blk) (n o : Nat) : Option Nat :=
  match b with
  | .lant | .pd => none
  | .drf => some 1
  | .adt => some (2 + n)
  | .pcx | .nic | .push | .msix => some 5
  | .dsc | .dso => some 6
  | .eth => some 7
  | .usb => some 8
  | .mem => some 9
  | .hwr => some (if o < 12 * 1024 then 10 else 11)
  | _ => some 0

/-- Whether a switched domain's clock runs (Table 17-2, R433). -/
def State.domClocked (s : State) (d : Nat) : Bool :=
  s.domPowered d && (!(decide (d ∈ stopped (s.get F.PWR_STAT_CUR))) || s.pwr.woken / 2 ^ d % 2 == 1)

/-! ### Who may write (R109) -/

/-- The host-local registers of a host bridge (R109). -/
def hostLocal (a : Nat) : Bool :=
  (decide (0x4C ≤ a) && decide (a ≤ 0x5C)) || a == A.GLB_OWNPRIO || a == A.GLB_ALIVE || (decide (0x1000 ≤ a) && decide (a < 0x2000)) ||
    (decide (0x4000 ≤ a) && decide (a < 0x8000)) || decide (0x1000000 ≤ a)

/-- Registers that any party may write: GLB_SNAP, and what the chapters except (R281, R303, R422, R440, R441). -/
def openWrite (a : Nat) : Bool :=
  a ∈ [A.GLB_SNAP, A.LANT_WAKE, A.LANT_IGNWR] ||
    (decide (0x110010 ≤ a) && decide (a ≤ 0x110020)) || (decide (0x120000 ≤ a) && decide (a ≤ 0x12000C)) ||
    (decide (0x8040 ≤ a) && decide (a ≤ 0x8050)) || [0, 1, 2].any fun n => decide (A.PD_IGNWR n ≤ a) && decide (a ≤ A.PD_PROTCNT n)

/-- Registers whose own operation judges the writer. -/
def selfJudged (a : Nat) : Bool := a ∈ [A.GLB_RST, A.GLB_DLEN, A.KEY_LCREQ, A.KEY_NONCECTL, A.KEY_CMD]

/-- Whether a party's write to a register is a control write (R109): to a host its own bridge's host-local registers are free. -/
def State.isControl (s : State) (r : Req) (a : Nat) : Bool :=
  if openWrite a then false
  else match r with
    | .host => !(hostLocal a)
    | .mgmt f => !(hostLocal a && s.isHost && f == s.fid)
    | _ => true

/-! ### Live words -/

/-- Word `w` of a context (Table 7-3). -/
def State.ctxWord (s : State) (k w : Nat) : Word :=
  match s.ctx k with
  | none => 0
  | some c =>
    let p := c.par
    let e := c.isEnd
    BitVec.ofNat 32 (match w with
      | 0 => p.tid % 4096 + 2 ^ 16 * (c.state % 8) + 2 ^ 24 * (p.cls % 8)
      | 1 => c.pos % 4 + 2 ^ 8 * (p.typ % 16) + 2 ^ 16 * ((if p.enc then 1 else 0) + (if p.men then 2 else 0) + (if c.paused = 0 then 0 else 4)) +
          2 ^ 24 * (p.policy % 4 + 4 * (p.fport % 4))
      | 2 => p.aFid + 2 ^ 8 * p.bFid + 2 ^ 16 * p.epA
      | 3 => p.epB + 2 ^ 16 * p.own + 2 ^ 24 * p.grant
      | 4 => c.meter % 1024 + 2 ^ 16 * ((if p.shaper = 0xFFFF then c.idx else p.shaper) % 1024)
      | 5 => p.bundle
      | 6 => if e then c.tx + 2 ^ 16 * c.ack else 0
      | 7 => if e then c.rx + 2 ^ 16 * c.copies.length else 0
      | 8 => if e && p.typ == 8 then p.dOut + 2 ^ 8 * p.dIn else 0
      | 9 => p.cookie
      | 10 => c.openAt / 1000000000 % 2 ^ 32
      | 11 => c.openAt % 1000000000
      | 12 => if e then (match s.egressOf c with | some q => q + 128 | none => 0) else 0
      | _ => 0)

/-- Word `w` of cart slot `k` (R360). A coordinator without a part of its own shows STAGING until it decides, then DONE. -/
def State.cartWord (s : State) (k w : Nat) : Word :=
  let co := s.crt.cos.find? fun c => c.k == k
  let sl := s.crt.slots.find? fun c => c.k == k
  let word (coord id isCo st dec n t : Nat) : Word := BitVec.ofNat 32 (match w with
    | 0 => id + 2 ^ 16 * coord + 2 ^ 22 * isCo + 2 ^ 24 * st + 2 ^ 27 * dec
    | 1 => n
    | 2 => t / 1000000000 % 2 ^ 32
    | _ => t % 1000000000)
  match sl, co with
  | some c, o => word c.coord c.id (if o.isSome then 1 else 0) c.st c.dec (actCount c.acts) c.t
  | none, some o => word s.fid o.id 1 o.shown o.dec 0 o.t
  | none, none => 0

/-- Bits of the domains that pass a test. -/
def domBits (g : Nat → Bool) : Nat := ((List.range 12).map fun d => if g d then 2 ^ d else 0).sum

/-- A word of the PCX block in a role (R254): fields that apply to one role only read 0 in the others. -/
def pcxRole (role o : Nat) (w : Word) : Word :=
  if role = 0 then (if o = 0x18 ∨ (0x20 ≤ o ∧ o < 0x30) then 0 else w)
  else if o = 0 ∨ o = 4 ∨ o = 0xC ∨ (0x40 ≤ o ∧ o < 0x80) then 0
  else if o = 8 then w &&& 0x1F#32
  else w

/-- The value a register has at this moment, with the fields that report other state. PDn_ISNS is a conversion of an analogue input: a
free value. -/
def State.liveWord (s : State) (a : Nat) : Word :=
  let w := s.rd a
  match blockOf a with
  | none => 0
  | some (b, n, o) =>
    if (s.regHere a).isNone ∧ b ≠ .tun then 0
    else match b, o with
      | .glb, 0 => putBits w 8 2 s.role
      | .tun, o =>
        if 0x10000 ≤ o then s.ctxWord ((o - 0x10000) / 64) ((o - 0x10000) % 64 / 4)
        else if o = 4 then putBits (putBits w 0 11 s.tun.ctxs.length) 16 12 (if s.isHost && s.bit F.TUN_STAT_MAPVALID then 4095 - s.tun.map.length else 0)
        else w
      | .pcx, o => pcxRole s.role o w
      | .sch, o =>
        if 0x9000 ≤ o ∧ o < 0xB000 ∧ s.bit (F.SCH_STAT_MODE n) then
          BitVec.ofNat 32 (let m := s.highNow n ((o - 0x9000) / 8); if o % 8 = 0 then m.1 else m.2)
        else w
      | .fab, o => if o = 0x100 ∨ o = 0x1FC then 0 else w
      | .adt, 0x108 => BitVec.ofNat 32 (s.replayBytes n + 2 ^ 17 * (s.link n).replay.length)
      | .adt, 0x10C => BitVec.ofNat 32 (s.e2eOcc n)
      | .tim, 0x8 => BitVec.ofNat 32 s.ns
      | .tim, 0xC => BitVec.ofNat 32 (s.clock % nsUnit / 2 ^ 24)
      | .tim, 0x10 => BitVec.ofNat 32 s.sec
      | .tim, 0x14 => BitVec.ofNat 32 (s.sec / 2 ^ 32)
      | .tim, 0x70 => putBits w 31 1 (if s.due s.tim.ppsInAt 3000000000 then 0 else 1)
      | .dso, o => if 0x100 ≤ o ∧ o % 64 = 4 then putBits w 8 1 (if (s.dout ((o - 0x100) / 64)).monitor.isSome then 1 else 0) else w
      | .eth, 0x4 => putBits w 4 1 (if s.uptime < (s.mac n).pauseEnd then 1 else 0)
      | .crt, 0x4 => BitVec.ofNat 32 (s.cartKeys.length + 2 ^ 8 * s.crt.cos.length + 2 ^ 16 * (s.crt.slots.filter fun c => c.st == 4).length)
      | .crt, o => if 0x100 ≤ o ∧ o < 0x200 then s.cartWord ((o - 0x100) / 16) (o % 16 / 4) else w
      | .pwr, 0xC => BitVec.ofNat 32 (domBits s.domPowered + 2 ^ 16 * domBits s.domClocked)
      | .mem, 0xC => BitVec.ofNat 32 (s.spillBytes / 1024)
      | .pd, 0xC => BitVec.ofNat 32 ((Config.freeRandom s.draws).toNat % 1024)
      | .adt, o => if 0x130 ≤ o ∧ o < 0x150 then BitVec.ofNat 32 (s.txAvail n ((o - 0x130) / 4)) else w
      | _, _ => w

/-! ### The snapshot (R26 to R28) -/

/-- The bits of the read-only fields of a register: RO and RO-A. -/
def RegDesc.roMask (d : RegDesc) : Word :=
  d.fields.foldl (fun m f => if f.acc = .ro ∨ f.acc = .roA then putBits m f.lo f.width (2 ^ f.width - 1) else m) 0

/-- Whether the snapshot covers an address (R27): offsets below 0x1000 of every block but TUN, HWR and KEY; not GLB_SNAP, its SEC and NS. -/
def snapCovers (a : Nat) : Bool :=
  match blockOf a with
  | some (b, _, o) => decide (o < 0x1000) && !(decide (b ∈ [.tun, .hwr, .key, .nic, .push, .msix])) && a ∉ [A.GLB_SNAP, A.GLB_SNAP_SEC, A.GLB_SNAP_NS]
  | none => false

/-- The addresses of a register's instances. -/
def RegDesc.addrs (d : RegDesc) (base : Nat) : List Nat :=
  (List.range d.c1).flatMap fun i => (List.range d.c2).map fun j => base + d.off + d.s1 * i + d.s2 * j

/-- The registers with read-only fields that the snapshot covers. -/
def snapAddrs : List Nat :=
  (blockTable.flatMap fun e => (List.range e.2.2.1).flatMap fun n =>
    ((blockRegs e.1 n).filter fun d => d.roMask != 0).flatMap fun d => d.addrs (e.2.1 + n * e.2.2.2.1)).filter snapCovers

/-- The word of the Lantern's mirror (R25). -/
def State.mirrorWord (s : State) (a : Nat) : Word := RegFile.get s.ctl.mirror a

/-- Whether an address lies in LANT. -/
def isLant (a : Nat) : Bool := decide (0xC000 ≤ a) && decide (a < 0x10000)

/-- LANT as it stands. -/
def State.lantNow (s : State) : List (Nat × Word) := s.regs.filter fun e => isLant e.1

/-- The mirror takes the Lantern's registers. -/
def State.mirrorAll (s : State) : State := s.ctlM fun k => { k with mirror := s.lantNow }

/-- What a capture takes of a register. -/
def State.captureWord (s : State) (a : Nat) : Word := if isLant a then s.mirrorWord a else s.liveWord a

/-- The FID of the device whose requester this is (R28). -/
def State.reqFid (s : State) : Req → Nat
  | .mgmt f => f
  | _ => s.fid

/-- A GLB_SNAP write (R26, R28): VIEW is set, TAKE captures unless a capture runs. -/
def State.writeSnap (s : State) (r : Req) (v : Word) : State :=
  let t := s.put F.GLB_SNAP_VIEW (bitsOf v 1 1)
  if bitsOf v 0 1 = 0 then t
  else if s.bit F.GLB_SNAP_BUSY then t.tally F.GLB_IGNWR
  else
    let words := (snapAddrs.map fun a => (a, s.captureWord a)).filter fun e => e.2 != regReset e.1
    let u := { t with draws := t.draws + 1 }.ctlM fun k => { k with snap := words, snapTaker := s.reqFid r }
    ((u.put F.GLB_SNAP_BUSY 1).put F.GLB_SNAP_SEC_SEC s.sec).put F.GLB_SNAP_NS_NS s.ns

/-- SNAP_TAKE (R26): a write of GLB_SNAP with TAKE set, and VIEW as given. -/
def execSnapTake (r : Req) (view : Bool) (s : State) : Host.Outcome State Fault Refusal :=
  .next (if !(s.busOpen r) ∨ r = .smbus then s else s.writeSnap r (if view then 3 else 1))

/-- SNAP_CAPTURE_DONE (R28). -/
def execSnapCaptureDone (s : State) : Host.Outcome State Fault Refusal :=
  .next (s.whenUp fun s => (if s.bit F.GLB_SNAP_BUSY then
      ((s.put F.GLB_SNAP_BUSY 0).put F.GLB_SNAP_SEQ (s.get F.GLB_SNAP_SEQ + 1)).put F.GLB_SNAP_TAKER s.ctl.snapTaker
    else s))

/-- LANTERN_MIRROR_UPDATE (R25). -/
def execLanternMirrorUpdate (s : State) : Host.Outcome State Fault Refusal := .next (s.whenUp fun s => s.mirrorAll)

/-! ### What a write does (R10 to R12) -/

/-- One field of a write (R10); RW-L takes it while the life cycle is Blank or Provisioned. -/
def FieldDesc.write (lc : Nat) (v : Word) (w : Word) (f : FieldDesc) : Word :=
  let x := bitsOf v f.lo f.width
  match f.acc with
  | .rw | .rwS => putBits w f.lo f.width x
  | .rwL => if lc ≤ 1 then putBits w f.lo f.width x else w
  | .w1c => putBits w f.lo f.width (bitsOf (w &&& ~~~v) f.lo f.width)
  | .w1cAll => if x = 0 then w else putBits w f.lo f.width 0
  | .ro | .roA | .wo => w

/-- Whether a write can act on a field now. -/
def FieldDesc.writable (lc : Nat) (f : FieldDesc) : Bool :=
  match f.acc with
  | .rw | .rwS | .w1c | .w1cAll | .wo => true
  | .rwL => decide (lc ≤ 1)
  | .ro | .roA => false

/-- A write to a register that has no behaviour but its access codes: with no writable field it is ignored and counted (R12). -/
def State.plainWrite (s : State) (a : Nat) (d : RegDesc) (v : Word) : State :=
  if d.fields.any (FieldDesc.writable s.lcs) then s.wr a (d.fields.foldl (FieldDesc.write s.lcs v) (s.rd a)) else s.ignored a

/-- A GLB_ALIVE write (R103): a KICK, or TMO 0, ends EXPIRED. -/
def State.writeAlive (s : State) (v : Word) : State :=
  let t := s.put F.GLB_ALIVE_TMO (bitsOf v 0 10)
  if bitsOf v 16 1 = 1 ∨ bitsOf v 0 10 = 0 then t.aliveChange 3 true else t

/-- Lower limits of the receive credits of the classes (Table 6-5). -/
def crdMin (c : Nat) : Nat := [17, 147, 9, 147, 147, 147, 5, 147].getD c 0

/-- A CRDCFG write (R159): ignored below the class's minimum, and where the port's sum would pass 2,048. -/
def State.writeCrdcfg (s : State) (p c : Nat) (v : Word) : State :=
  let x := bitsOf v 0 12
  let others := (((List.range 8).filter fun k => k != c).map fun k => s.get (F.ADT_CRDCFG_UNITS p k)).sum
  if x < crdMin c ∨ 2048 < others + x then s.tally (F.ADT_IGNWR p) else s.put (F.ADT_CRDCFG_UNITS p c) x

/-- Whether an offset of a scheduler is a shadow register whose commit is staged (R216). -/
def State.shadowLocked (s : State) (p o : Nat) : Bool :=
  let sch := o == 4 || (decide (0x100 ≤ o) && decide (o < 0x140)) || (decide (0x1000 ≤ o) && decide (o < 0x2000)) ||
    (decide (0x3000 ≤ o) && decide (o < 0x4000)) || (decide (0x5000 ≤ o) && decide (o < 0x7000))
  (sch && s.bit (F.SCH_STAT_LOCK p)) || (p == 0 && decide (0xB000 ≤ o) && decide (o < 0xD000) && s.bit (F.SCH_STAT_METPEND 0))

/-- Whether a write to an output register is refused (R296, R303): the timing while EN or AUTOTIM is 1, FS and the genlock registers
while EN is 1. -/
def State.outLocked (s : State) (k w : Nat) : Bool :=
  let en := s.bit (F.DSO_OUT_CTRL_EN k)
  match w with
  | 3 | 4 | 5 | 6 | 7 => en || s.bit (F.DSO_OUT_CTRL_AUTOTIM k)
  | 2 | 8 | 9 => en
  | _ => false

/-- Slot power of the dock ports follows PCX_PORTCFG (R234). -/
def State.portPower (s : State) : State := if s.role ≠ 1 then s else [0, 1, 2, 3].foldl (fun t k => t.slotPower k) s

/-- A write to the ring table (R83, R86). -/
def State.writeRingReg (s : State) (a : Nat) (d : RegDesc) (v : Word) : State :=
  let n := (a - 0x1000) / 16
  match (a - 0x1000) % 16 / 4 with
  | 0 | 1 => if s.get (F.GLB_RCFG_TYPE n) = 0 then s.plainWrite a d v else s.tally F.GLB_IGNWR
  | 2 => s.writeRcfg n v
  | _ => s.tally F.GLB_IGNWR

/-- A write to a Hewer's registers (R450, R452, R463). -/
def State.writeHewerReg (s : State) (n o a : Nat) (d : RegDesc) (v : Word) : State :=
  match o with
  | 0 => s.writeHwrCtrl n v
  | 0xC => s.writeGwin n v
  | 0x10 => s.writeMbctl n v
  | _ => if 0x100 ≤ o ∧ o < 0x200 ∧ !(isUser n) then s.tally F.HWR_IGNWR else s.plainWrite a d v

/-- A write to a push page (R265). -/
def State.writePushReg (s : State) (k o a : Nat) (d : RegDesc) (v : Word) : State :=
  match o with
  | 0 | 4 => if s.get (F.PUSH_CFG_EN k) = 1 then s.tally F.GLB_IGNWR else s.plainWrite a d v
  | 8 => s.writePushCfg k v
  | 0xC => s.pushDoorbell k v
  | _ => s.plainWrite a d v

/-- A write to a NIC function's registers (R341). A doorbell written here posts no buffers: NIC_DOORBELL carries them. -/
def State.writeNicReg (s : State) (f o a : Nat) (d : RegDesc) (v : Word) : State :=
  if o < 0x1000 then s.plainWrite a d v
  else
    let tx := decide (o < 0x2000)
    let q := o % 0x1000 / 32
    match o % 32 with
    | 0 | 4 => if s.get (nicFld f tx q 8 0 1) = 1 then s.tally F.GLB_IGNWR else s.plainWrite a d v
    | 8 => s.writeNicCfg f tx q v
    | 0xC => s.nicDoorbell f tx q v []
    | _ => s.plainWrite a d v

/-- A LANT_WAKE write: SRC is cleared with PEND (R441). -/
def State.writeWake (s : State) (d : RegDesc) (v : Word) : State :=
  let t := s.plainWrite A.LANT_WAKE d v
  if s.bit F.LANT_WAKE_PEND ∧ !(t.bit F.LANT_WAKE_PEND) then t.put F.LANT_WAKE_SRC 0 else t

/-- A write to an MSI-X table (R81): an entry that is unmasked while its vector is pending sends its message. -/
def State.writeMsix (s : State) (fn o a : Nat) (d : RegDesc) (v : Word) : State :=
  let t := s.plainWrite a d v
  let k := o / 16
  if o < 0x2000 ∧ !(t.bit (F.MSIX_CTRL_MASK fn k)) ∧ t.bit (pbaBit fn k) then (t.put (pbaBit fn k) 0).msix fn k else t

/-- A plain write whose field is stored clamped to its range. -/
def State.clampWrite (s : State) (a : Nat) (d : RegDesc) (v : Word) (f : Fld) (lo hi : Nat) : State :=
  let t := s.plainWrite a d v
  t.put f (max lo (min hi (t.get f)))

/-- The effect of a write, by a party that may make it, on the register `d` at offset `o` of instance `n` of a block (R12). -/
def State.regWrite (s : State) (r : Req) (b : Blk) (n o a : Nat) (d : RegDesc) (v : Word) : State :=
  match b with
  | .glb =>
    if a = A.GLB_RST then s.writeRst r v
    else if a = A.GLB_DLEN then s.writeDlen r v
    else if a = A.GLB_SNAP then s.writeSnap r v
    else if a = A.GLB_ALIVE then s.writeAlive v
    else if 0x1000 ≤ a then s.writeRingReg a d v
    else s.plainWrite a d v
  | .key =>
    if a = A.KEY_LCREQ then s.writeLcreq r v
    else if a = A.KEY_NONCECTL then s.writeNonce r v
    else if a = A.KEY_CMD then
      (if bitsOf v 31 1 = 1 then s.keyIssue r (bitsOf v 0 4) [] [] else s.controlWrite r fun t => t.put F.KEY_CMD_OP (bitsOf v 0 4))
    else s.plainWrite a d v
  | .hwr => if o < 0x6000 then s.writeHewerReg (o / 1024) (o % 1024) a d v else s.plainWrite a d v
  | .mem =>
    if o < 8 ∧ 0 < s.spillBytes then s.tally F.MEM_IGNWR
    else if a = A.MEM_SCRUB then s.clampWrite a d v F.MEM_SCRUB_MS 100 60000
    else s.plainWrite a d v
  | .adt =>
    if o = 0 then s.writeAdtCtrl n v
    else if o = 0x80 then s.plainWrite a d (v ||| 0x100#32)
    else if 0x110 ≤ o ∧ o < 0x130 then s.writeCrdcfg n ((o - 0x110) / 4) v
    else s.plainWrite a d v
  | .sch => if s.shadowLocked n o then s.tally (F.SCH_IGNWR n) else if o = 0x18 then s.writeObscfg n v else s.plainWrite a d v
  | .tim =>
    if a = A.TIM_CTRL then s.writeTimCtrl v
    else if a = A.TIM_EXTOFF then s.writeExtoff v
    else if a = A.TIM_SETNS then s.writeSetns v
    else if a = A.TIM_PROBE then s.writeProbe v
    else if a = A.TIM_LSYNC then s.clampWrite a d v F.TIM_LSYNC_US 125 1000000
    else s.plainWrite a d v
  | .pcx => if a = A.PCX_PORTCFG then (s.plainWrite a d v).portPower else s.plainWrite a d v
  | .dsc =>
    if 0x100 ≤ o ∧ o < 0x180 then
      (match (o - 0x100) % 64 with
        | 0 => s.writeDscCtrl ((o - 0x100) / 64) v
        | 0x1C => s.writeInval ((o - 0x100) / 64) v
        | _ => s.plainWrite a d v)
    else if 0x1000 ≤ o then (s.plainWrite a d v).showEdid ((o - 0x1000) / 0x200) (s.edidOf ((o - 0x1000) / 0x200))
    else s.plainWrite a d v
  | .dso =>
    if 0x100 ≤ o then
      let k := (o - 0x100) / 64
      let w := (o - 0x100) % 64 / 4
      if w = 0 then s.writeOutCtrl k v none else if s.outLocked k w then s.tally F.DSO_IGNWR else s.plainWrite a d v
    else s.plainWrite a d v
  | .eth => if o = 0 then s.writeEthCtrl n v else if a = A.ETH_MDIO then s.writeMdio v else s.plainWrite a d v
  | .usb => if o = 0 then (s.plainWrite a d v).usbFollow.yalFollow else s.plainWrite a d v
  | .pd =>
    if o = 0 then s.writePdCtrl n v
    else if 0x40 ≤ o ∧ o < 0x6C then s.writePdo n true ((o - 0x40) / 4) v
    else if 0x80 ≤ o ∧ o < 0xAC then s.writePdo n false ((o - 0x80) / 4) v
    else if o = 0xC0 then (s.plainWrite a d v).tableNew n true
    else if o = 0xD0 then s.clampWrite a d v (F.PD_MOIST_THRESH n) 2 100
    else s.plainWrite a d v
  | .lant => if a = A.LANT_WAKE then s.writeWake d v else s.plainWrite a d v
  | .nic => s.writeNicReg n o a d v
  | .push => s.writePushReg n o a d v
  | .msix => s.writeMsix n o a d v
  | .drf => if o = 0x38 ∨ o = 0x3C then s.tally F.DRF_IGNWR else s.plainWrite a d v
  | .crt => if a = A.CRT_CFG then s.clampWrite a d v F.CRT_CFG_MINLEAD 100 1000 else s.plainWrite a d v
  | .evt | .pwr | .flt | .tun | .fab => s.plainWrite a d v

/-- Whether a low rail holds a block in reset (R43, Table 2-11). -/
def State.blkHeld (s : State) (b : Blk) : Bool :=
  if b ∈ [.adt, .pcx, .dsc, .dso, .eth, .nic, .push, .msix] then !s.serdesUp else b == .mem && !s.memUp

/-- A write takes effect (R12, R504), unless its block is held in reset (R43); one to the Lantern reaches the mirror (R25). -/
def State.applyWrite (s : State) (r : Req) (a : Nat) (v : Word) : State :=
  match blockOf a, s.regHere a with
  | some (b, n, o), some d => if s.blkHeld b then s else let t := s.regWrite r b n o a d v; if b = .lant then t.mirrorAll else t
  | _, _ => s.ignored a

/-! ### Writes on the bus (R15, R23, R109, R504) -/

/-- The boot personality offers a host GLB and the download window alone (R75). -/
def State.shut (s : State) (r : Req) (a : Nat) : Bool := r == .host && s.boot.pers == 1 && decide (0x4000 ≤ a)

/-- Whether an address lies in the download window a host sees (R75). -/
def State.inWindow (s : State) (r : Req) (a : Nat) : Bool :=
  r == .host && s.isHost && s.get F.GLB_BOOT_STAT == 4 && decide (0x800000 ≤ a) && decide (a < 0x1000000)

/-- Whether an address lies in BAR2 of function 0 (R81, R87): 256 pages of 4 KiB (assumption 6). -/
def inBar2 (a : Nat) : Bool := decide (0x2000000 ≤ a) && decide (a < 0x2100000)

/-- A 32-bit write to BAR2: a doorbell at a page's first word (R87); no rule gives the rest of a page an effect. -/
def State.bar2Write (s : State) (a : Nat) (v : Word) : State :=
  if (a - 0x2000000) % 4096 = 0 then s.doorbell ((a - 0x2000000) / 4096) v [] else s

/-- A write arrives and is judged (R107, R109): `g` is done for a party that may make it. -/
def State.judged (s : State) (r : Req) (a : Nat) (g : State → State) : State :=
  if s.isControl r a ∧ !(selfJudged a) ∧ !(s.mayControl r) then s.tally F.GLB_NOWNWR else g s

/-- One 32-bit register write on the bus: in the Core domain it takes effect now, elsewhere it is posted (R23). -/
def State.busWrite (s : State) (r : Req) (a : Nat) (v : Word) : State :=
  if r = .smbus ∨ !(s.busOpen r) then s
  else if s.inWindow r a then s.wr a v
  else if inBar2 a then (if r = .host then s.bar2Write a v else s)
  else if s.shut r a then s.tally F.GLB_IGNWR
  else s.judged r a fun t =>
    match blockOf a with
    | some (b, _, _) =>
      if crossDomain b ∧ !(t.offBlock b) then t.ctlM fun k => { k with posted := k.posted ++ [{ req := r, addr := a, data := v }] }
      else t.applyWrite r a v
    | none => t.ignored a

/-- The block of a posted write. -/
def PostedWrite.blk (p : PostedWrite) : Option Blk := (blockOf p.addr).map (·.1)

/-- The posted writes of a requester to a domain take effect, in order (R23). -/
def State.flushPosted (s : State) (r : Req) (b : Option Blk) : State :=
  let mine := s.ctl.posted.filter fun p => p.req == r && p.blk == b
  mine.foldl (fun t p => t.applyWrite p.req p.addr p.data) (s.ctlM fun k => { k with posted := k.posted.filter fun p => !(p.req == r && p.blk == b) })

/-- What a requester posted to a block takes effect, before a write that follows it (R23). -/
def State.inOrder (s : State) (r : Req) (b : Blk) : State := s.flushPosted r (some b)

/-- One register write that is complete only once it has taken effect (R94), after what its requester posted to the block before. -/
def State.writeNow (s : State) (r : Req) (a : Nat) (v : Word) : State :=
  if !(s.busOpen r) then s
  else s.judged r a fun t => (match blockOf a with | some (b, _, _) => t.inOrder r b | none => t).applyWrite r a v

/-- The words an access touches, with the bytes of each: word address, first byte, end. -/
def wordsOf (a size : Nat) : List (Nat × Nat × Nat) :=
  if size = 0 then []
  else (List.range ((a + size - 1) / 4 - a / 4 + 1)).map fun i =>
    let w := (a / 4 + i) * 4
    (w, max a w, min (a + size) (w + 4))

/-- A write of 1 to 8 bytes (R504): each whole word acts, a part of one is ignored and counted. -/
def State.writeBytes (s : State) (r : Req) (a size : Nat) (v : BitVec 64) : State :=
  (wordsOf a (min size 8)).foldl (fun t (w, lo, hi) =>
    if hi - lo = 4 then t.busWrite r w (BitVec.ofNat 32 (v.toNat / 256 ^ (lo - a)))
    else if r = .smbus ∨ !(t.busOpen r) ∨ inBar2 w then t
    else if t.shut r w then t.tally F.GLB_IGNWR else t.ignored w) s

/-- WRITE_REGISTER (R10 to R12, R15, R23, R109, R504). -/
def execWriteRegister (r : Req) (a size : Nat) (v : BitVec 64) (s : State) : Host.Outcome State Fault Refusal :=
  .next (s.writeBytes r a size v)

/-- CROSS_DOMAIN_WRITE_EFFECT (R23, R25): the posted write at place `k` takes effect, unless an earlier one of its requester to its
domain still waits. -/
def execCrossDomainWriteEffect (k : Nat) (s : State) : Host.Outcome State Fault Refusal :=
  .next (s.whenUp fun s => (match s.ctl.posted[k]? with
    | some p =>
      if (s.ctl.posted.take k).any fun q => q.req == p.req && q.blk == p.blk then s
      else (s.ctlM fun c => { c with posted := c.posted.eraseIdx k }).applyWrite p.req p.addr p.data
    | none => s))

/-! ### Reads (R22 to R27, R305, R331, R504) -/

/-- The high words that a read of a low word latches (R24, R305, R441). -/
def highWords (a : Nat) : List Nat :=
  if a = A.LANT_DSTICKS then [A.LANT_DSTICKSHI]
  else if a = A.TIM_NOWNS then [A.TIM_NOWFRAC, A.TIM_NOWSECLO, A.TIM_NOWSECHI]
  else if a = A.TIM_STEPLO then [A.TIM_STEPHI]
  else []

/-- The word a requester sees at an address: LANT through the mirror but for SMBus, covered fields as captured while VIEW is 1. -/
def State.readWord (s : State) (r : Req) (a : Nat) : Word :=
  let live := if isLant a ∧ r ≠ .smbus then s.mirrorWord a else s.liveWord a
  if s.bit F.GLB_SNAP_VIEW ∧ snapCovers a then
    match s.regHere a with
    | some d => (live &&& ~~~d.roMask) ||| (RegFile.get s.ctl.snap a &&& d.roMask)
    | none => live
  else live

/-- The effects a read has on the device: Glint words pop, and the last word of an outbound message frees the mailbox. -/
def State.readActs (s : State) (a : Nat) : State :=
  match blockOf a with
  | some (.eth, n, 0x10) => if s.offBlock .eth then s else s.popMac n
  | some (.nic, n, 0x10) => if s.offBlock .nic then s else s.popNic n
  | some (.pd, _, 0xC) => { s with draws := s.draws + 1 }
  | some (.hwr, _, o) =>
    let n := o / 1024
    if o < 0x6000 ∧ 0x200 ≤ o % 1024 ∧ o % 1024 < 0x300 ∧ (s.get (F.HWR_MBCTL_OUTLEN n) + 3) / 4 = (o % 1024 - 0x200) / 4 + 1 then
      s.coreM n fun h => { h with unread := false }
    else s
  | _ => s

/-- The value a read returns, after its pop. -/
def State.readValue (s : State) (r : Req) (a : Nat) : Word :=
  match blockOf a with
  | some (.pd, _, 0xC) => s.readWord r a
  | _ => (s.readActs a).readWord r a

/-- A high word latched for a requester path. -/
def State.heldHigh (s : State) (r : Req) (a : Nat) : Option Word :=
  (s.ctl.holds.find? fun h => h.req == r && h.addr == a).map (·.data)

/-- The holding registers of a path after a read: a low word replaces what they hold, a high word takes it. -/
def State.latch (s : State) (r : Req) (a : Nat) : State :=
  let hs := highWords a
  if hs ≠ [] then
    s.ctlM fun k => { k with holds := (k.holds.filter fun h => h.req != r) ++ hs.map fun x => { req := r, addr := x, data := s.readWord r x } }
  else s.ctlM fun k => { k with holds := k.holds.filter fun h => !(h.req == r && h.addr == a) }

/-- One 32-bit register read by a requester (R15, R23, R24): its own posted write to the register has taken effect. SMBus reaches what is
powered (R111). -/
def State.readBus (s : State) (r : Req) (a : Nat) : State × Word :=
  let b := (blockOf a).map (·.1)
  if r = .smbus then
    (let dark := match blockOf a with
      | some (b, n, o) => (match domainOf b n o with | some d => !(s.domPowered d) | none => false)
      | none => false
     if dark then (s.smbM fun x => { x with unavail := true }, 0)
     else
      let t := s.smbM fun x => { x with unavail := false }
      ((t.readActs a).latch r a, (t.heldHigh r a).getD (t.readValue r a)))
  else if !(s.busOpen r) then (s, 0)
  else if s.inWindow r a then (s, s.rd a)
  else if s.shut r a then (s, 0)
  else
    let t := if s.ctl.posted.any fun p => p.req == r && p.addr == a then s.flushPosted r b else s
    ((t.readActs a).latch r a, (t.heldHigh r a).getD (t.readValue r a))

/-- A read of 1 to 8 bytes (R504): each word touched has its full read's effects, lower address first. -/
def State.readBytes (s : State) (r : Req) (a size : Nat) : State × List Nat :=
  (wordsOf a (min size 8)).foldl (fun (t, l) (w, lo, hi) =>
    let (u, x) := t.readBus r w
    (u, l ++ (List.range (hi - lo)).map fun i => bitsOf x (8 * (lo - w + i)) 8)) (s, [])

/-- WIDE_COUNTER_LOW_READ (R22, R24, R504): a register read, which latches the high word where it is of a wide counter's low word. -/
def execWideCounterLowRead (r : Req) (a size : Nat) (s : State) : Host.Outcome State Fault Refusal :=
  .next (let (t, l) := s.readBytes r a size; t.emit (.readData r l))

/-- GLINT_POP (R27, R331): a read of GLINT word 0 of a MAC, or with `nic` of a NIC function. -/
def execGlintPop (r : Req) (nic : Bool) (n : Nat) (s : State) : Host.Outcome State Fault Refusal :=
  .next (s.whenSerdes fun s => (if 2 ≤ n then s
    else let (t, l) := s.readBytes r (if nic then A.NIC_GLINT0 n else A.ETH_GLINT0 n) 4; t.emit (.readData r l)))

/-- CLOCK_READ (R305): a read of TIM_NOWNS. -/
def execClockRead (r : Req) (s : State) : Host.Outcome State Fault Refusal :=
  .next (let (t, l) := s.readBytes r A.TIM_NOWNS 4; t.emit (.readData r l))

end Sys2Proof.Machine
end

