-- ==== Sys2Proof/Machine/Fabric.lean ====
section
/-! DEFINITION. Fabric discovery, FIDs, Quarantine and routing (chapter 14). -/

namespace Sys2Proof.Machine

/-! ### Joins and resets of other devices -/

/-- The owner's host bridge sends a full copy of the map to each host bridge that has joined since `before` (R188). -/
def State.greet (s : State) (before : Graph) : State :=
  if s.get F.GLB_OWNER_STATE = 3 then
    (s.otherHosts.filter fun h => !(before.nodes.contains h)).foldl (fun t h => t.fullCopy h) s
  else s

/-- Free every context this device holds (R367). -/
def State.freeAll (s : State) : State := s.tun.ctxs.foldl (fun t c => t.freeCtxOf c) s

/-- A device is recognised to have been reset (R363): ends toward it pause (R196), commands it was to answer complete RESET
(Table 4-6), requests on its bundles are aborted (R241), stale TIDs it held are released (R189). -/
def State.farReset (s : State) (fid : Nat) : State :=
  let t := s.pauseFar fid 3
  let t := (t.ctl.inflight.filter fun k => k.req.isSome && k.dst == fid).foldl (fun u k => u.finish k 0x09 0) t
  let t := (t.tun.ctxs.filter fun c => c.isEnd && c.far == fid && !c.local_ && c.par.typ == 0 && c.ep / 4096 == 1).foldl
    (fun u c => u.abortBundle c.par.tid) t
  t.staleReset fid

/-- The owner's host bridge closes every tunnel with an end on a FID its device has lost (R367). -/
def State.closeLost (s : State) (fid : Nat) (ans : List DevAns) : State :=
  (s.tun.map.filter fun h => h.par.aFid == fid || h.par.bFid == fid).foldl (fun t h => (t.closeOne h.par.tid ans).1) s

/-! ### FIDs and Quarantine of this device (R365 to R368) -/

/-- The device loses its FID to another (R367): an automatic one goes back to 0, a configured one brings Quarantine; the owner's host bridge
closes the tunnels that end on it first. -/
def State.loseFid (s : State) (ans : List DevAns) : State :=
  let t := s.raise 35 7 [s.fid]
  let t := if s.get F.FAB_ID_STATE = 1 ∧ s.isHost ∧ s.get F.GLB_OWNER_STATE = 3 then t.closeLost s.fid ans else t
  let t := if s.get F.FAB_ID_STATE = 1 then t.freeAll else t
  if s.get F.FAB_ID_SRC = 4 then
    let u := ((t.put F.FAB_ID_FID 0).put F.FAB_ID_SRC 0).setFabState 0 0
    u.litPorts.foldl (fun v p => v.sendNeighbour p) u
  else t.setFabState 2 2

/-- The device judges its own FID and Quarantine from the RECORDs it holds (R367, R368); `ans` is what devices answer to the closes of
R367. -/
def State.judgeWith (s : State) (ans : List DevAns) : State :=
  if s.fid = 0 then s
  else if s.fidTaken then (if s.get F.FAB_ID_STATE = 2 ∧ s.get F.FAB_ID_QCAUSE = 2 then s else s.loseFid ans)
  else s.judgeRank

/-- The same where no device answers. -/
def State.judgeSelf (s : State) : State := s.judgeWith []

/-- The lowest FID that no RECORD of the graph holds and no binding reserves; 0 where none is free (R366). -/
def State.freeFid (s : State) (uid : Nat) : Nat :=
  ((List.range 63).find? fun f => f != 0 && !(s.fab.live.nodes.contains f) && !(s.tun.binds.any fun b => b.fid == f && b.uid != uid)).getD 0

/-! ### Hello (R361 to R364) -/

/-- NEIGHBOUR_SEND (R361). -/
def execNeighbourSend (p : Nat) (s : State) : Host.Outcome State Fault Refusal := .next (s.whenDuty 4 fun s => (if s.lit p then s.sendNeighbour p else s))

/-- NEIGHBOUR_RECEIVE (R361 to R363): the port's peer is current; the first one since LIT brings every RECORD held. -/
def execNeighbourReceive (p : Nat) (n : Neigh) (s : State) : Host.Outcome State Fault Refusal :=
  .next (s.whenUp fun s => (if !(s.lit p) then s
    else
      let was := s.portUp p
      let t := s.fabM fun f => { f with neigh := putBy (fun e => e.1 == p) (p, n) f.neigh }
      let t := if (s.port p).met then t
        else (t.portM p fun x => { x with met := true }).emits (s.recs.map fun r => Out.msg (.port p) (.record r))
      if was then t else (t.originate.judgeSelf).greet s.fab.live))

/-- HELLO_TIMEOUT (R364, R377): no NEIGHBOUR for 30 ms; the port is no longer UP. -/
def execHelloTimeout (p : Nat) (s : State) : Host.Outcome State Fault Refusal :=
  .next (s.whenUp fun s => (if s.portUp p then
      ((s.fabM fun f => { f with neigh := f.neigh.filter fun e => e.1 != p }).raise 36 1 [p]).leaveUp p true
    else s))

/-- This device's RECORD again with the next SEQ and the same CHG (R362). -/
def State.refreshRecord (s : State) (seq : Nat) : State :=
  let t := s.fabM fun f => { f with seq := seq % 65536 }
  ((t.holdRec t.ownRec).emit (.msg (.ports t.litPorts) (.record t.ownRec))).graphNote s.recs s.fab.chg

/-- RECORD_REFRESH (R362). -/
def execRecordRefresh (s : State) : Host.Outcome State Fault Refusal := .next (s.whenDuty 4 fun s => (s.refreshRecord (s.fab.seq + 1)))

/-- Whether a RECORD is newer than the one held of its UID (R363). -/
def recNewer (r h : Rec) : Bool := r.rstCnt != h.rstCnt || (decide (1 ≤ idxDiff r.seq h.seq) && decide (idxDiff r.seq h.seq ≤ 32767))

/-- The links a RECORD shows going from UP to not UP, by their index (R375, R378). -/
def downLinks (recs : List Rec) (h r : Rec) : List Nat :=
  let f := if r.fid = 0 then h.fid else r.fid
  h.ports.zipIdx.filterMap fun e =>
    match recs.find? fun o => o.uid == e.1.peer with
    | some o =>
      if e.1.up && !((r.ports[e.2]?).elim false (·.up)) && f != 0 && o.fid != 0 then
        some (if f < o.fid then (f - 1) * 3 + e.2 else (o.fid - 1) * 3 + e.1.pport)
      else none
    | none => none

/-- The route set of a destination (FAB_RSETd). -/
def State.routeSetOf (s : State) (d : Nat) : Nat := ((List.range 6).map fun w => s.get (⟨A.FAB_RSET0 d + 4 * w, 0, 32⟩) * 2 ^ (32 * w)).sum

/-- The destinations whose installed route crosses a link. -/
def State.routesOver (s : State) (link : Nat) : List Nat :=
  (List.range 63).filter fun d => d != 0 && s.routeSetOf d / 2 ^ link % 2 == 1

/-- A bound device under another FID is noted by the RSTCNT it was first seen with: one that joins later, or shows another RSTCNT, joins under
its binding now (R369). -/
def State.noteRejoin (s : State) (r : Rec) : State :=
  let other := r.fid != 0 && s.tun.binds.any fun b => b.uid == r.uid && b.fid != r.fid
  let owed := match s.fab.rejoin.find? fun e => e.1 == r.uid with
    | some e => e.2.2 || e.2.1 != r.rstCnt
    | none => true
  if !other then s.fabM fun f => { f with rejoin := f.rejoin.filter fun e => e.1 != r.uid }
  else s.fabM fun f => { f with rejoin := putBy (fun e => e.1 == r.uid) (r.uid, r.rstCnt, owed) f.rejoin }

/-- A newer RECORD of another device is stored and sent on (R363), with what follows from it. -/
def State.takeRecord (s : State) (p : Nat) (r : Rec) (ans : List DevAns) : State :=
  let held := s.recs.find? fun h => h.uid == r.uid
  let t := (s.holdRec r).emit (.msg (.ports (s.litPorts.filter (· != p))) (.record r))
  let t := match held with
    | some h =>
      let u := (downLinks s.recs h r).foldl (fun (v : State) l => v.resendFor (v.routesOver l) l) t
      let fid := if r.fid = 0 then h.fid else r.fid
      if h.rstCnt ≠ r.rstCnt ∧ fid ≠ 0 then u.farReset fid else u
    | none => t
  let t := t.graphNote s.recs r.chg
  let t := if s.isHost ∧ s.get F.GLB_OWNER_STATE = 3 then
      let t := if r.quar && (held.elim true fun h => !h.quar || h.qcause != r.qcause) then t.raise 35 3 [r.uid, r.qcause] else t
      match held with
      | some h =>
        if h.fid ≠ 0 ∧ h.rstCnt = r.rstCnt ∧ (r.fid ≠ h.fid ∨ (r.quar && !h.quar && r.qcause == 2) = true) then t.closeLost h.fid ans else t
      | none => t
    else t
  (((t.noteRejoin r).judgeWith ans).greet s.fab.live).flushLoop

/-- RECORD_RECEIVE (R363, R364, R367, R378): `ans` is what devices answer to the closes of R367. -/
def execRecordReceive (p : Nat) (r : Rec) (ans : List DevAns) (s : State) : Host.Outcome State Fault Refusal :=
  .next (s.whenUp fun s => (if !(s.lit p) then s
    else if r.uid = s.uid then
      if r.rstCnt = s.boot.rstCnt ∧ recNewer r { s.ownRec with rstCnt := r.rstCnt } then s.refreshRecord (r.seq + 1) else s
    else match s.recs.find? fun h => h.uid == r.uid with
      | some h => if recNewer r h then s.takeRecord p r ans else s
      | none => s.takeRecord p r ans))

/-- RECORD_EXPIRY (R364): a RECORD whose device the graph does not reach is deleted. -/
def execRecordExpiry (uid : Nat) (s : State) : Host.Outcome State Fault Refusal :=
  .next (s.whenUp fun s => (match s.recs.find? fun r => r.uid == uid with
    | some r =>
      if uid = s.uid ∨ ((members s.recs s.uid).contains r && s.fab.live.nodes.contains r.fid) = true ∨
          (s.fab.recs.any fun h => h.r.uid == uid && !(s.due (some h.at_) 3000000000)) = true then s
      else ((s.fabM fun f => { f with recs := f.recs.filter fun h => h.r.uid != uid }).graphNote s.recs s.fab.chg).judgeSelf
    | none => s))

/-! ### ASSIGN (R366, R369) -/

/-- The FID an ASSIGN gives a device, and whether by a binding; none where the owner sends it none. -/
def State.assignFor (s : State) (r : Rec) : Option (Nat × Bool) :=
  match s.tun.binds.find? fun b => b.uid == r.uid with
  | some b => some (b.fid, true)
  | none =>
    let f := s.freeFid r.uid
    if s.get F.FAB_CFG_AUTOFID = 0 ∨ r.fid ≠ 0 then none
    else if !r.quar ∨ r.qcause = 4 then some (f, false)
    else if r.qcause = 1 ∧ f ≠ 0 ∧ !(s.recs.any fun o => o.quar && o.qcause == 1 && o.fid == 0 && decide (o.uid < r.uid)) then some (f, false)
    else none

/-- Send an ASSIGN with the next TRY of its target. -/
def State.sendAssign (s : State) (uid fid : Nat) (bound : Bool) : State :=
  let n := match s.fab.tries.find? fun e => e.1 == uid with | some e => (e.2.1 + 1) % 256 | none => 0
  (s.fabM fun f => { f with tries := putBy (fun e => e.1 == uid) (uid, n, fid) f.tries, relayed := f.relayed ++ [(uid, s.get F.GLB_OWNER_GEN, n)] }).emit
    (.msg (.ports s.litPorts) (.assign { uid := uid, fid := fid, owner := s.fid, gen := s.get F.GLB_OWNER_GEN, try_ := n, bound := bound }))

/-- ASSIGN_SEND (R366, R369): the owner's host bridge assigns a FID to a device that has none, or that its binding names and
that is in Quarantine, or that has joined under another FID since it was bound. -/
def execAssignSend (uid : Nat) (s : State) : Host.Outcome State Fault Refusal :=
  .next (s.whenDuty 4 fun s => (if s.get F.GLB_OWNER_STATE ≠ 3 ∨ uid = s.uid then s
    else match s.recs.find? fun r => r.uid == uid with
      | none => s
      | some r =>
        match s.assignFor r with
        | some (f, bound) => if r.fid ≠ 0 ∧ !r.quar ∧ (r.fid = f ∨ !(s.fab.rejoin.any fun e => e.1 == uid && e.2.2)) then s else s.sendAssign uid f bound
        | none => s))

/-- Whether an ASSIGN's owner is the one this device follows, or it follows none (R366). -/
def State.assignOk (s : State) (a : Assign) : Bool :=
  if s.get F.GLB_OWNER_STATE = 1 ∨ s.get F.GLB_OWNER_STATE = 3 then a.owner == s.ownerFid && a.gen == s.get F.GLB_OWNER_GEN else true

/-- This device accepts an ASSIGN: it follows its owner, and takes the FID, or enters Quarantine with cause 1. -/
def State.acceptAssign (s : State) (a : Assign) : State :=
  let t := if s.get F.GLB_OWNER_STATE = 1 ∨ s.get F.GLB_OWNER_STATE = 3 then s else s.setOwner 1 a.owner a.gen none
  let src := if a.bound then 3 else 4
  if a.fid = 0 then (if s.fid = 0 then t.setFabState 2 1 else t)
  else if 62 < a.fid ∨ (s.fid = a.fid ∧ s.get F.FAB_ID_STATE = 1) then t
  else
    let t := if s.fid ≠ 0 ∧ s.get F.FAB_ID_STATE = 1 then (t.raise 35 7 [s.fid]).freeAll else t
    (t.takeFid a.fid src).judgeSelf

/-- ASSIGN_RECEIVE (R363, R366): relayed once, though not by a device in Quarantine (R368), or judged by its target. -/
def execAssignReceive (p : Nat) (a : Assign) (s : State) : Host.Outcome State Fault Refusal :=
  .next (s.whenUp fun s => (if !(s.lit p) ∨ s.fab.relayed.contains (a.uid, a.gen, a.try_) then s
    else
      let t := s.fabM fun f => { f with relayed := f.relayed ++ [(a.uid, a.gen, a.try_)] }
      if a.uid ≠ s.uid then if s.quarantined then t else t.emit (.msg (.ports (s.litPorts.filter (· != p))) (.assign a))
      else if s.assignOk a then t.acceptAssign a
      else t))

/-- The FID a host bridge that finds no owner picks, with its source (R366): its binding's, else the lowest free one. -/
def State.pickFid (s : State) : Nat × Nat :=
  match s.tun.binds.find? fun b => b.uid == s.uid with
  | some b => (b.fid, 3)
  | none => (s.freeFid s.uid, 4)

/-- AUTO_FID_TIMEOUT (R366): a host bridge that has found no owner takes a FID by the owner's rule. -/
def execAutoFidTimeout (s : State) : Host.Outcome State Fault Refusal :=
  .next (s.whenDuty 4 fun s => (if s.fab.firstLit && s.isHost && s.fid == 0 && s.get F.FAB_ID_STATE == 0 && s.get F.GLB_OWNER_STATE != 1 && s.pickFid.1 != 0 then
      ((s.takeFid s.pickFid.1 s.pickFid.2).judgeSelf).greet s.fab.live
    else s))

/-- QUARANTINE_TIMEOUT (R368, cause 4). -/
def execQuarantineTimeout (s : State) : Host.Outcome State Fault Refusal :=
  .next (s.whenUp fun s => (if s.fab.firstLit && s.fid == 0 && s.get F.FAB_ID_STATE == 0 then s.setFabState 2 4 else s))

/-! ### Route tables (R370 to R375, R378 to R380) -/

/-- ROUTE_COMPUTE (R379): the tables of the graph as it stands are ready. -/
def execRouteCompute (s : State) : Host.Outcome State Fault Refusal :=
  .next (s.whenDuty 5 fun s => (if s.fab.tinst.isSome then s.fabM fun f => { f with computed := true } else s))

/-- The alternate of an entry as FAB_RTd shows it: none where NOALT is set (R382). -/
def State.altOf (s : State) (g : Graph) (rs : List RouteEnt) (d : Nat) : Option Nat :=
  if s.bit (F.FAB_RT_NOALT d) then none else g.alternate rs s.fid

/-- Install the entry for one destination: FAB_RTd and FAB_RSETd. CMASK and NOALT persist. -/
def State.installEntry (s : State) (g : Graph) (d : Nat) : State :=
  let on := s.get F.FAB_ID_STATE == 1 && g.nodes.contains s.fid && g.nodes.contains d
  let rs := if on then g.routes d else []
  let e := rs.find? fun r => r.x == s.fid
  let self := on && d == s.fid
  let alt := if on && !self then s.altOf g rs d else none
  let t := (((s.put (F.FAB_RT_PRI d) (e.elim 0 (·.port))).putBit (F.FAB_RT_PRIV d) (e.isSome && !self)).put (F.FAB_RT_ALT d) (alt.getD 0)).putBit
    (F.FAB_RT_ALTV d) alt.isSome
  let t := ((t.putBit (F.FAB_RT_UP d) (e.elim false (·.up) && !self)).put (F.FAB_RT_PRIDOWN d) 0).putBit (F.FAB_RT_SELF d) self
  let set := if on then g.routeSet rs s.fid else 0
  (List.range 6).foldl (fun u w => u.put (⟨A.FAB_RSET0 d + 4 * w, 0, 32⟩) (set / 2 ^ (32 * w))) t

/-- Install the broadcast tree and the root (R370, R374). -/
def State.installTree (s : State) (g : Graph) : State :=
  let on := s.get F.FAB_ID_STATE == 1 && g.nodes.contains s.fid
  let par := if on then g.parent s.fid else none
  let ports := if on then (g.treePorts s.fid).eraseDups else []
  (((s.put F.FAB_TREE_PORTS ((ports.map (2 ^ ·)).sum)).put F.FAB_TREE_PARENT (par.elim 0 (·.1))).putBit F.FAB_TREE_PARENTV par.isSome).put
    F.FAB_ID_ROOT (if on then g.root else 0)

/-- Whether an end's route to its far device changed at an install (R378): another route set, or back from the alternate. -/
def routeChanged (old new : State) (d : Nat) : Bool :=
  old.routeSetOf d != new.routeSetOf d ||
    (old.bit (F.FAB_RT_PRIDOWN d) && old.bit (F.FAB_RT_ALTV d) && new.bit (F.FAB_RT_PRIV d))

/-- Every end whose route changed at an install resends; what was sent for a failed link is forgotten (R378). -/
def State.resendChanged (s old : State) : State :=
  s.tun.ctxs.foldl (fun t c =>
    let t := t.ctxM c.idx fun d => { d with links := [] }
    if c.isEnd && routeChanged old s c.far then t.resend c.idx else t) s

/-- ROUTE_INSTALL (R379): entries, alternates, tree, route sets and orientation, all at once. -/
def State.installRoutes (s : State) (late : Bool) : State :=
  let g := s.fab.live
  let n := (s.get F.FAB_DBGEN + 1) % 2 ^ 32
  let t := ((List.range 63).filter (· != 0)).foldl (fun u d => u.installEntry g d) s
  let t := t.installTree g
  let t := [0, 1, 2].foldl (fun u p => u.portM p fun x => { x with inRoute := s.portUp p && (g.hops s.fid).any fun e => e.1 == p }) t
  let t := t.fabM fun f => { f with graph := g, tinst := none, computed := false, instAt := s.now, dropDue := true }
  let t := ((t.put F.FAB_DBGEN n).put F.FAB_INSTSEC s.sec).put F.FAB_INSTNS s.ns
  let t := if late then t.bump F.FAB_LATEINST else t
  let t := if s.get F.FAB_ID_ROOT = t.get F.FAB_ID_ROOT then t else t.raise 36 0 [t.get F.FAB_ID_ROOT]
  let t := t.raise 35 6 [n, if late then 1 else 0]
  let t := t.closeFaults fun o => o.cls == 2 && o.aff.all fun d => t.bit (F.FAB_RT_PRIV d)
  ((t.resendChanged s).refreshPause).flushLoop

/-- ROUTE_INSTALL (R379): at T_inst, or as soon as computed where the last RECORD came later than 1 ms before it, which counts it late. -/
def execRouteInstall (s : State) : Host.Outcome State Fault Refusal :=
  .next (s.whenUp fun s => (match s.fab.tinst with
    | some t =>
      let late := decide (t < s.fab.arr + 1000000)
      if s.fab.computed ∧ (t ≤ s.now ∨ late) then s.installRoutes late else s
    | none => s))

/-- Whether a frame of a port's queues still waits for hop credit from before the last install. -/
def State.starved (s : State) (p : Nat) (q : QFrame) : Bool :=
  decide (q.at_ < s.fab.instAt) && decide (s.txAvail p q.f.cls < unitsOf (s.sizeOn p q.f))

/-- Discard the heads of a queue that wait for credit (R380): how many. -/
def State.dropHeads (p : Nat) (k : Option Nat) (cls : Nat) : Nat → State → State × Nat
  | 0, s => (s, 0)
  | n + 1, s =>
    match (s.sch p).queue.find? fun e => e.queue == k && (k.isSome || e.f.cls == cls) with
    | some q =>
      if s.starved p q then
        let (t, m) := dropHeads p k cls n (((s.schM p fun c => (match k with | some x => SchSt.settle { c with queue := c.queue.erase q } x | none => { c with queue := c.queue.erase q })).release q))
        (t, m + 1)
      else (s, 0)
    | none => (s, 0)

/-- INSTALL_WAIT_DROP (R380): 1 ms after an install, frames of before it that still wait for hop credit are discarded. -/
def execInstallWaitDrop (s : State) : Host.Outcome State Fault Refusal :=
  .next (s.whenUp fun s => (if !s.fab.dropDue then s
    else
      let (t, n) := [0, 1, 2].foldl (fun (u, n) p =>
        let keys := ((List.range 8).map fun c => ((none : Option Nat), c)) ++ (u.sch p).queues.map fun q => (some q, 0)
        keys.foldl (fun (v, m) k => let (w, x) := State.dropHeads p k.1 k.2 (v.sch p).queue.length v; (w, m + x)) (u, n)) (s.fabM fun f => { f with dropDue := false }, 0)
      let t := (List.range n).foldl (fun u _ => u.bump F.FAB_INSTDROP) t
      if n ≠ 0 ∧ s.due s.fab.dropAt 1000000 then (t.fabM fun f => { f with dropAt := some s.uptime }).raise 36 2 [n] else t))

/-! ### Commands (R369, R382, R383) -/

/-- FAB_ASSIGN (R369): a binding is added, replaced or removed. -/
def State.bindUid (s : State) (t : InFlight) (uid fid : Nat) (unbind : Bool) : State :=
  let fail := fun (n : Nat) => s.finish t 0x03 (resultOf [(0x08, n)])
  let done := fun (u : State) (n : Nat) => u.finish t 0x00 (resultOf [(0x09, n)])
  if fid = 0 ∨ fid = 63 then fail 1
  else if unbind then
    match s.tun.binds.find? fun b => b.uid == uid with
    | none => fail 3
    | some b => done ((s.tunM fun x => { x with binds := x.binds.filter fun y => y.uid != uid }).mirrorBind { b with unbind := true }) 0
  else if (s.tun.binds.any fun b => b.fid == fid && b.uid != uid) || (s.recs.any fun r => r.fid == fid && r.uid != uid && configuredSrc r.src) then fail 2
  else
    let b : Binding := { uid := uid, fid := fid, unbind := false }
    let u := ((s.tunM fun x => { x with binds := putBy (fun y => y.uid == uid) b x.binds }).fabM fun x => { x with rejoin := (x.rejoin.filter fun e => e.1 != uid) ++
      ((s.recs.filter fun r => r.uid == uid && r.fid != 0 && r.fid != fid).map fun r => (uid, r.rstCnt, false)) }).mirrorBind b
    match s.recs.find? fun r => r.uid == uid with
    | none => done u 0
    | some r =>
      done (if uid ≠ s.uid ∧ (r.fid = 0 ∨ r.quar) then u.sendAssign uid fid true else u) (if r.fid = fid ∨ r.fid = 0 then 0 else 1)

/-- FAB_ASSIGN (R369). -/
def execFabAssign (c : HostCmd) (s : State) : Host.Outcome State Fault Refusal :=
  .next (s.command 0x48 true [(0x08, 0, 64), (0x10, 0, 8), (0x11, 0, 1)] c fun t u =>
    if c.target ≠ 0 then u.finish t 0x03 (resultOf [(0x08, 4)])
    else if 63 < opAt c 0x10 1 then u.finish t 0x03 (resultOf [(0x08, 1)])
    else u.bindUid t (opAt c 0x08 8) (opAt c 0x10 1) (opAt c 0x11 1 == 1))

/-- The operand bits of FAB_ROUTE. -/
def fabRouteBits : List (Nat × Nat × Nat) := [(0x08, 0, 6), (0x09, 0, 2), (0x0A, 0, 8)]

/-- FAB_ROUTE on one entry. -/
def State.setRouteCfg (s : State) (d mask : Nat) (noAlt : Bool) : State :=
  let t := (s.put (F.FAB_RT_CMASK d) mask).putBit (F.FAB_RT_NOALT d) noAlt
  let g := s.fab.graph
  let on := s.get F.FAB_ID_STATE == 1 && g.nodes.contains s.fid && g.nodes.contains d && d != s.fid
  let alt := if on then t.altOf g (g.routes d) d else none
  (t.put (F.FAB_RT_ALT d) (alt.getD 0)).putBit (F.FAB_RT_ALTV d) alt.isSome

/-- FAB_ROUTE on this device (R382): code and result. -/
def State.fabRoute (s : State) (ops : BitVec 448) : State × Nat × BitVec 448 :=
  let d := ops.toNat % 64
  let fl := ops.toNat / 256 % 4
  if d = 63 then (s, 0x03, resultOf [(0x08, 1)])
  else if fl = 3 then (s, 0x03, resultOf [(0x08, 2)])
  else
    let mask := if 2 ≤ fl then 0xFF else ops.toNat / 65536 % 256
    let ds := if d = 0 then (List.range 63).filter (· != 0) else [d]
    ((ds.foldl (fun t k => t.setRouteCfg k mask (fl == 1)) s).refreshPause, 0x00, 0)

/-- FAB_ROUTE (R382). -/
def execFabRoute (c : HostCmd) (s : State) : Host.Outcome State Fault Refusal :=
  .next (s.command 0x49 true fabRouteBits c fun t u => u.onTarget t c fun v => State.answer t (v.fabRoute c.ops))

/-- One port of FAB_TOPO's result, as an 8-byte number. -/
def State.topoPort (s : State) (p : Nat) : Nat :=
  let n := (s.fab.neigh.find? fun e => e.1 == p).map (·.2)
  let hop := (s.fab.graph.hops s.fid).find? fun e => e.1 == p
  let fl := (if s.enc p then 1 else 0) + (if hop.elim false (fun e => hopUp s.fab.graph.dists s.fid e.2.1) then 2 else 0) +
    (if s.get F.FAB_TREE_PORTS / 2 ^ p % 2 = 1 then 4 else 0) + (if hop.isSome then 8 else 0)
  n.elim 0 (·.fid) + 2 ^ 8 * n.elim 0 (·.port) + 2 ^ 16 * s.portState p +
    2 ^ 24 * (s.get (F.ADT_STAT_RATE p) + 4 * s.get (F.ADT_STAT_TXLANES p)) + 2 ^ 32 * fl

/-- The operand bits of FAB_TOPO. -/
def fabTopoBits : List (Nat × Nat × Nat) := [(0x08, 0, 16)]

/-- FAB_TOPO on this device (R383): code and result. -/
def State.fabTopo (s : State) (ops : BitVec 448) : State × Nat × BitVec 448 :=
  let tid := ops.toNat % 65536
  let idx := if tid = 0 then 0xFFFF else (s.ctxOf tid).elim 0xFFFF (·.idx)
  (s, 0x00, resultOf [(0x08, s.uid), (0x10, s.fid), (0x11, s.role), (0x12, s.get F.FAB_ID_STATE), (0x13, s.get F.FAB_ID_QCAUSE),
    (0x14, s.get F.FAB_ID_ROOT), (0x15, s.get F.FAB_STAT_NDEV), (0x16, s.get F.FAB_STAT_NHOST), (0x18, s.tun.ctxs.length), (0x1A, idx),
    (0x1C, s.get F.FAB_DBGEN), (0x20, s.topoPort 0), (0x28, s.topoPort 1), (0x30, s.topoPort 2)])

/-- FAB_TOPO (R383). -/
def execFabTopo (c : HostCmd) (s : State) : Host.Outcome State Fault Refusal :=
  .next (s.command 0x4A false fabTopoBits c fun t u => u.onTarget t c fun v => State.answer t (v.fabTopo c.ops))

end Sys2Proof.Machine
end

