-- ==== Sys2Proof/Machine/Mgmt.lean ====
section
/-! DEFINITION. The management agent: remote register access, requests and answers between devices (R93, R94, R242), and the steps that can
take ownership from this device (R103 to R108), after which its carts and waiting commands end. -/

namespace Sys2Proof.Machine

/-! ### Remote register access (R93, R94) -/

/-- Operand bits of REG_READ and REG_WRITE (Table 4-7). -/
def regReadBits : List (Nat × Nat × Nat) := [(0x08, 0, 24), (0x0C, 0, 8)]
def regWriteBits : List (Nat × Nat × Nat) := regReadBits ++ [(0x10, 0, 256)]

/-- ADDR and COUNT of the operands. -/
def regAddr (ops : BitVec 448) : Nat := ops.toNat % 2 ^ 24
def regCount (ops : BitVec 448) : Nat := ops.toNat / 2 ^ 32 % 256

/-- Whether ADDR and COUNT are in range (R93). -/
def regRange (ops : BitVec 448) : Bool :=
  decide (regAddr ops % 4 = 0) && decide (1 ≤ regCount ops) && decide (regCount ops ≤ 8) && decide (regAddr ops + 4 * regCount ops ≤ 0x1000000)

/-- Word `i` of DATA. -/
def regData (ops : BitVec 448) (i : Nat) : Word := BitVec.ofNat 32 (ops.toNat / 2 ^ (64 + 32 * i))

/-- REG_READ on this device, for a source FID: the words in address order, consecutively (R24, R94). -/
def State.regRead (s : State) (f : Nat) (ops : BitVec 448) : State × Nat × BitVec 448 :=
  if !(regRange ops) then (s, 0x03, 0)
  else
    let r := (List.range (regCount ops)).foldl (fun (t, l) i =>
      let (u, w) := State.readBus t (.mgmt f) (regAddr ops + 4 * i)
      (u, l ++ [(8 + 4 * i, w.toNat)])) (s, ([] : List (Nat × Nat)))
    (r.1, 0, resultOf r.2)

/-- REG_WRITE on this device, for a source FID that may make control writes here or not: refused whole, or every word has taken effect (R94). -/
def State.regWriteWords (s : State) (f : Nat) (may : Bool) (ops : BitVec 448) : State × Nat × BitVec 448 :=
  if !(regRange ops) then (s, 0x03, 0)
  else
    let as := (List.range (regCount ops)).map fun i => regAddr ops + 4 * i
    if !may && as.any (fun a => s.isControl (.mgmt f) a) then (s.tally F.GLB_NOWNWR, 0x04, 0)
    else ((List.range (regCount ops)).foldl (fun t i => State.writeNow t (.mgmt f) (regAddr ops + 4 * i) (regData ops i)) s, 0, 0)

/-- REG_READ (R93, R94). -/
def execRegRead (c : HostCmd) (s : State) : Host.Outcome State Fault Refusal :=
  .next (s.command 0x01 false regReadBits c fun t u =>
    if !(regRange c.ops) then u.finish t 0x03 0
    else u.onTarget t c fun v => State.answer t (v.regRead v.fid c.ops))

/-- REG_WRITE (R93, R94, R109). A host that yields gives no control write to another device (R108 step 1). -/
def execRegWrite (c : HostCmd) (s : State) : Host.Outcome State Fault Refusal :=
  .next (s.command 0x02 false regWriteBits c fun t u =>
    let remote := decide (c.target.toNat ≠ 0) && decide (c.target.toNat ≠ u.fid)
    if !(regRange c.ops) then u.finish t 0x03 0
    else if remote && u.own.yielding.isSome && (List.range (regCount c.ops)).any (fun i => !(openWrite (regAddr c.ops + 4 * i))) then
      (u.tally F.GLB_NOWNCMD).finish t 0x04 0
    else u.onTarget t c fun v => State.answer t (v.regWriteWords v.fid v.hostControls c.ops))

/-! ### Requests that arrive -/

/-- A management request (R94) is executed here for the host bridge `f`, and answered. Control commands are taken from the owner followed
now (R107). -/
def State.mgmtExec (s : State) (f id op : Nat) (ops : BitVec 448) : State :=
  let own := f == s.ownerFid && f != 0
  let reply := fun (a : State × Nat × BitVec 448) => a.1.reply (.mgmt f id) a.2.1 a.2.2
  let control := fun (g : State → State) => if own then g s else s.reply (.mgmt f id) 0x04 0
  match op with
  | 0x01 => reply (s.regRead f ops)
  | 0x02 => reply (s.regWriteWords f own ops)
  | 0x15 => reply (s.tunStats f ops)
  | 0x20 => control fun t => t.schCommit (.mgmt f id) ops
  | 0x30 => control fun t => reply (t.dsoFlip ops)
  | 0x38 => control fun t => reply (t.timArm ops)
  | 0x41 => reply (s.cartQuery f ops)
  | 0x49 => control fun t => reply (t.fabRoute ops)
  | 0x4A => reply (s.fabTopo ops)
  | 0x50 => control fun t => reply (t.pwrReq ops)
  | _ => s.reply (.mgmt f id) 0x01 0

/-- Whether a dock port takes a control from a host bridge (R242, R251): its disabling by hot-plug from the owner, the rest from the host
at end A of its bundle. -/
def State.dockTakes (s : State) (f k field : Nat) : Bool :=
  if field = 8 then f == s.ownerFid && f != 0
  else s.tun.ctxs.any fun c => c.pos == 2 && c.par.epB == 4096 + k && c.par.aFid == f

/-- A port control arrives (R242, R251). -/
def State.hearPortCtl (s : State) (f id k field v : Nat) : State :=
  if field < 9 then
    if s.role ≠ 1 ∨ s.dockPorts ≤ k then s.emit (.msg (.fid f) (.portRsp id 2))
    else if s.dockTakes f k field then (s.dockControl k field v).emit (.msg (.fid f) (.portRsp id 0))
    else s
  else if (f = s.ownerFid ∧ f ≠ 0) ∨ (v = 0 ∧ (field = 9 ∨ field = 12)) then s.slotControl f id k field v
  else s

/-- MGMT_REQ_RECEIVE (R94, R107, R242): nothing reaches the management agent of a device held in reset or without CORE. -/
def execMgmtReqReceive (f : Nat) (m : Msg) (s : State) : Host.Outcome State Fault Refusal :=
  .next (if s.boot.held ∨ 3 ≤ s.get F.PWR_STAT_CUR then s
    else match m with
    | .mgmtReq id op ops => (s.mgmtExec f id op ops).cartFlush
    | .portCtl id k field v => (s.hearPortCtl f id k field v).hotPoll
    | _ => s)

/-! ### Answers and timeouts -/

/-- A management response (R94): a command whose target found the host no longer the owner, because ownership moved, completes OWN_LOST
(R106). -/
def State.hearRsp (s : State) (id code : Nat) (result : BitVec 448) : State :=
  match s.waiting id with
  | some t => s.finish t (if code = 0x04 ∧ s.get F.GLB_OWNER_STATE ≠ 3 ∧ t.own then 0x08 else code) result
  | none => s

/-- MGMT_RSP_RECEIVE (R94, R242, R508). -/
def execMgmtRspReceive (f : Nat) (m : Msg) (s : State) : Host.Outcome State Fault Refusal :=
  .next (s.whenUp fun s => (match m with
    | .mgmtRsp id code result => s.hearRsp id code result
    | .mapRsp _ seq status => s.mapAnswered f seq status
    | .portRsp id status => s.portAnswered id (if status = 0 then 0 else 3)
    | _ => s))

/-- MANAGEMENT_TIMEOUT (R94, R242): 1 ms without an answer. -/
def execManagementTimeout (id : Nat) (s : State) : Host.Outcome State Fault Refusal :=
  .next (s.whenUp fun s => (match s.waiting id with
    | some t => s.finish t 0x06 0
    | none => s.portTimeout id))

/-! ### Steps that can take ownership from this device -/

/-- HEARTBEAT_RECEIVE (R104 to R108, R347). -/
def execHeartbeatReceive (f : Nat) (rank : Rank) (gen : Nat) (s : State) : Host.Outcome State Fault Refusal :=
  .next (s.whenUp fun s => (s.hearHeartbeat f rank gen).cartFlush)

/-- Opcodes of Table 4-5 that are no control commands. -/
def readOps : List Nat := [0x00, 0x01, 0x15, 0x41, 0x4A]

/-- YIELD_COMMANDS_DRAINED (R108): no other control command is in progress, and YIELD or RELEASE goes out. -/
def execYieldCommandsDrained (s : State) : Host.Outcome State Fault Refusal :=
  .next (s.whenUp fun s => (match s.own.yielding with
    | some y =>
      if y.sent ∨ (s.ctl.inflight.any fun t => !(t.same y.ticket) && !(readOps.contains t.opcode)) ∨ s.get F.GLB_OWNER_STATE ≠ 3 then s
      else
        let t := s.ownM fun o => { o with yielding := some { y with sent := true } }
        if y.tofid = 0 then ((t.emit (.msg .broadcast .release)).elect true).cartFlush
        else t.emit (.msg (.fid y.tofid) (.yield y.tofid ((s.get F.GLB_OWNER_GEN + 1) % 65536)))
    | none => s))

/-- RELEASE_RECEIVE (R108): the device enters ELECTING. -/
def execReleaseReceive (s : State) : Host.Outcome State Fault Refusal := .next (s.whenUp fun s => (s.elect false).cartFlush)

/-- KEEPALIVE_EXPIRY (R103): EXPIRED is set where TMO is not 0; what follows from a host that is lost follows. -/
def execKeepaliveExpiry (s : State) : Host.Outcome State Fault Refusal :=
  .next (s.whenUp fun s => (if s.get F.GLB_ALIVE_TMO = 0 then s else (s.aliveChange 3 false).hotHostLost.cartFlush))

/-- HOST_ALIVE_LOST (R103, R105): a condition of R103 ends; hot-plug moves that wait for this host go on. While the device does
not run, PCIE_PERST_N alone can change. -/
def execHostAliveLost (cond : Nat) (s : State) : Host.Outcome State Fault Refusal :=
  .next (if s.up then (s.aliveChange cond false).hotHostLost.cartFlush else if cond = 0 then s.setAlive 0 false else s)

end Sys2Proof.Machine
end

