-- ==== Sys2Proof/Machine/Access.lean ====
section
/-! DEFINITION. The other ways to the registers: the SMBus target (R110 to R112), Yalcel's requests (R400, R402), and the Hewers (R447,
R451). -/

namespace Sys2Proof.Machine

/-! ### SMBus (R110 to R112, Table 4-13) -/

/-- The target's address, with the bus's write bit 0 (R110). -/
def State.smbAddr (s : State) : Nat := 2 * (0x60 + s.get F.GLB_STRAP_SMBA)

/-- SMBus answers with bytes after those of `pre` on the bus, and with the PEC over them all (R110). -/
def State.smbAnswer (s : State) (pre l : List Nat) : State :=
  s.emit (.readData .smbus (l ++ [(crc8 ((pre ++ l).map (BitVec.ofNat 8))).toNat]))

/-- SMBus answers a Block Read command: the count, the bytes, the PEC. -/
def State.smbBlock (s : State) (code : Nat) (l : List Nat) : State := s.smbAnswer [s.smbAddr, code, s.smbAddr + 1] (l.length :: l)

/-- An SMBus command is NACKed (R110, R111). -/
def State.smbNack (s : State) : State := s.emit (.nack .smbus)

/-- SMB_ALERT_N is released for the causes that wait; a strap fault keeps it low (R67, R112). -/
def State.alertRelease (s : State) : State :=
  let t := s.smbM fun b => { b with causes := b.causes % 2 }
  if s.smb.causes % 2 = 1 ∨ s.smb.causes = 0 then t else t.emit (.pin .smbAlertN true)

/-- SMBUS_STATUS_READ (R111): `temp` is the die temperature in degrees Celsius, two's complement. -/
def execSmbusStatusRead (temp : BitVec 8) (s : State) : Host.Outcome State Fault Refusal :=
  .next (s.smbBlock 0x00 [
    s.get F.GLB_STRAP_ROLE + (if s.boot.strapFault then 4 else 0), s.get F.GLB_BOOT_STAT, s.get F.PWR_STAT_CUR, s.get F.PWR_STAT_TGT,
    temp.toNat, s.ownerFid, s.fid,
    (if s.boot.thermTrip then 1 else 0) + (if s.boot.penumbra then 2 else 0) + (if s.smb.causes = 0 then 0 else 4) + (if s.smb.unavail then 8 else 0)])

/-- SMBUS_ADDR_WRITE (R110, R111): `pec` is false where the PEC is wrong. -/
def execSmbusAddrWrite (a : Nat) (pec : Bool) (s : State) : Host.Outcome State Fault Refusal :=
  .next (if !pec ∨ a % 4 ≠ 0 ∨ 2 ^ 24 ≤ a then s.smbNack else s.smbM fun b => { b with addr := a })

/-- SMBUS_DATA_READ (R24, R111): the register at ADDR, which advances by 4, from the last word to 0 (assumption 18). -/
def execSmbusDataRead (s : State) : Host.Outcome State Fault Refusal :=
  .next (let (t, w) := s.readBus .smbus s.smb.addr
    (t.smbM fun b => { b with addr := (s.smb.addr + 4) % 2 ^ 24 }).smbBlock 0x02 ((leBytes 4 w.toNat).map (·.toNat)))

/-- SMBUS_PWRREQ (R110 to R112): outside the owner rules, into the pending slot on the terms of R429. -/
def execSmbusPwrreq (v : Nat) (pec : Bool) (s : State) : Host.Outcome State Fault Refusal :=
  .next (if !pec ∨ 4 < v then s.smbNack else (s.pwrRequest v).1)

/-- SMBUS_ALERTCLR (R110 to R112). -/
def execSmbusAlertclr (v : Nat) (pec : Bool) (s : State) : Host.Outcome State Fault Refusal :=
  .next (if !pec ∨ v ≠ 1 then s.smbNack else s.alertRelease)

/-- SMBUS_ALERT_RESPONSE (R112): the target answers with its address, 0x60 + SMBA, where its alert waits. -/
def execSmbusAlertResponse (s : State) : Host.Outcome State Fault Refusal :=
  .next (if s.smb.causes = 0 then s.smbNack else (s.smbAnswer [0x19] [s.smbAddr]).alertRelease)

/-! ### Yalcel (R399, R400, R402) -/

/-- A length or address that REG_READ and REG_WRITE take (Table 15-2). -/
def yalRange (a len : Nat) : Bool :=
  decide (a % 4 = 0) && decide (a < 2 ^ 24) && decide (len % 4 = 0) && decide (4 ≤ len) && decide (len ≤ 32) && decide (a + len ≤ 2 ^ 24)

/-- YALCEL_REG_READ (R24, R400). -/
def execYalcelRegRead (a len : Nat) (done : Bool) (s : State) : Host.Outcome State Fault Refusal :=
  .next (s.whenUp fun s => (s.yalRequest 0x02 false done fun t =>
    if !(yalRange a len) then t.yalRefuse 0x02
    else
      let r := (List.range (len / 4)).foldl (fun (u, l) i =>
        let (v, w) := State.readBus u .yalcel (a + 4 * i)
        (v, l ++ leBytes 4 w.toNat)) (t, ([] : List (BitVec 8)))
      r.1.emit (.usbData 1 r.2)))

/-- YALCEL_REG_WRITE (R109, R400): judged as it takes effect, at its status stage. -/
def execYalcelRegWrite (a : Nat) (bytes : List (BitVec 8)) (done : Bool) (s : State) : Host.Outcome State Fault Refusal :=
  .next (s.whenUp fun s => (s.yalRequest 0x03 false done fun t =>
    if !(yalRange a bytes.length) ∨ t.get F.GLB_OWNER_STATE ≠ 0 then t.yalRefuse 0x03
    else (List.range (bytes.length / 4)).foldl (fun u i => u.busWrite .yalcel (a + 4 * i) (BitVec.ofNat 32 (leNat (slice bytes (4 * i) 4)))) t))

/-- YALCEL_PWR_REQ (R109, R400). -/
def execYalcelPwrReq (v : Nat) (done : Bool) (s : State) : Host.Outcome State Fault Refusal :=
  .next (s.whenUp fun s => (s.yalRequest 0x04 false done fun t =>
    if 4 < v ∨ t.get F.GLB_OWNER_STATE ≠ 0 then t.yalRefuse 0x04 else (t.pwrRequest v).1))

/-- YALCEL_RESET (R109, R400): a core reset, as GLB_RST.CORE takes one. -/
def execYalcelReset (v : Nat) (done : Bool) (s : State) : Host.Outcome State Fault Refusal :=
  .next (s.whenUp fun s => (s.yalRequest 0x08 false done fun t =>
    if v ≠ 0xD5 ∨ t.get F.GLB_OWNER_STATE ≠ 0 then t.yalRefuse 0x08 else t.coreReset F.GLB_RSTCAUSE_SWCORE))

/-- YALCEL_DL_GO (R75, R402): the downloaded image is checked, at the length DL_BEGIN gave. -/
def execYalcelDlGo (done : Bool) (s : State) : Host.Outcome State Fault Refusal :=
  .next (s.whenUp fun s => (s.yalRequest 0x11 true done fun t => (t.put F.GLB_DLEN_LEN t.usb.dlLen).downloadCheck (if t.usb.dlData.length < t.usb.dlLen then [] else t.usb.dlData)))

/-! ### The Hewers (R447, R451) -/

/-- An effect of a duty is performed. -/
def State.performs (s : State) (n : Nat) : DutyEffect → State
  | .reg a v => s.busWrite (.hewer n) a v
  | .host a bytes => s.emit (.hostWrite a bytes)
  | .send d m => s.emit (.msg d m)
  | .event ev data => s.raiseBytes (ev % 512) false 0 (data.take 12)

/-- JRNL (R442, R447, R448): the effect `e`, with its code and the address of its record, takes the duty's next number; one whose number
the journal already holds is suppressed. -/
def execJrnl (n code addr : Nat) (e : DutyEffect) (s : State) : Host.Outcome State Fault Refusal :=
  .next (s.whenUp fun s => (s.machineOnly n fun t =>
    match t.dutyOf n with
    | some d =>
      let x := t.duty d
      let u := t.dutyM d fun y => { y with next := (y.next + 1) % 2 ^ 32 }
      if x.journal.any fun j => j.num == x.next then u
      else (u.dutyM d fun y => { y with journal := y.journal ++ [{ num := x.next, code := code, addr := addr }] }).performs n e
    | none => t))

/-- HEWER_REG_READ (R24, R27, R331, R451): REG_READ of a user program. The value a0 takes for a bad offset is not stated: a free value. -/
def execHewerRegRead (n a : Nat) (s : State) : Host.Outcome State Fault Refusal :=
  .next (s.whenUp fun s => (s.monitor n fun t =>
    if a % 4 ≠ 0 ∨ 2 ^ 24 ≤ a then (t.setX n 11 (negWord 3)).setA0 n (BitVec.ofNat 32 (Config.pick [a, t.now]))
    else
      let (u, w) := t.readBus (.hewer n) a
      (u.setX n 11 0).setA0 n w))

end Sys2Proof.Machine
end

