-- ==== Sys2Proof/Machine/Arbiter.lean ====
section
/-! DEFINITION. The DRAM arbiter (R460, R461) and the Drift's arbitration (R16, R462). Which requesters ask in which round is
free (Config); who is granted, what the counters hold and what software sees of them is fixed by the rules. -/

namespace Sys2Proof.Machine

/-- The first of `req` after `last` in the rotation of 16 numbers. -/
def rotate (last : Nat) (req : List Nat) : Option Nat :=
  match (List.range 16).find? fun k => req.contains ((last + 1 + k) % 16) with
  | some k => some ((last + 1 + k) % 16)
  | none => none

/-- The lowest-numbered requester whose wait counter has reached its limit; 0 counts as 1 (R461 rule 1, R462 rule 1). -/
def overdue (limit : Nat → Nat) (wait : List Nat) (req : List Nat) : Option Nat :=
  req.find? fun r => decide (max 1 (limit r) ≤ wait.getD r 0)

/-- Wait counters after a decision: a grant clears its own; one at its limit stays there until granted. -/
def waited (limit : Nat → Nat) (wait req : List Nat) (won : Option Nat) : List Nat :=
  wait.zipIdx.map fun e =>
    if won = some e.2 then 0
    else if req.contains e.2 then (if max 1 (limit e.2) ≤ e.1 then e.1 else e.1 + 1)
    else e.1

/-! ### The DRAM arbiter -/

/-- The requester a round is granted to (R461): one at its limit; the owner the grant is parked on; the highest PRIO, in
rotation. -/
def ArbSt.winner (a : ArbSt) (prio limit : Nat → Nat) (req : List Nat) : Option Nat :=
  match overdue limit a.wait req with
  | some r => some r
  | none =>
    if req = [a.owner] then some a.owner
    else
      let top := (req.map prio).foldl max 0
      rotate (a.last.getD top 15) (req.filter fun r => prio r == top)

/-- One round. -/
def ArbSt.round (a : ArbSt) (prio limit : Nat → Nat) (req : List Nat) : ArbSt :=
  match a.winner prio limit req with
  | some r => { wait := waited limit a.wait req (some r), owner := r, last := a.last.set (prio r) r }
  | none => a

/-- MEM_ARBr.MAXWAIT holds the longest wait since it was cleared. -/
def State.maxWaits (s : State) : State :=
  (List.range 16).foldl (fun t r => t.put (F.MEM_ARB_MAXWAIT r) (max (t.get (F.MEM_ARB_MAXWAIT r)) (t.arb.wait.getD r 0))) s

/-- DRAM_ROUND (R460, R461): one round of 3.75 ns; requester 15 never requests. -/
def State.dramRound (s : State) (k : Nat) : State :=
  let req := (List.range 15).filter fun r => Config.dramRequest k r
  ({ s with arb := s.arb.round (fun r => s.get (F.MEM_ARB_PRIO r)) (fun r => s.get (F.MEM_ARB_LIMIT r)) req }).maxWaits

/-! ### The Drift -/

/-- The input granted at one output (R462), and whether rule 1 forced it. -/
def DriftOut.winner (d : DriftOut) (limit : Nat → Nat) (req : List Nat) : Option (Nat × Bool) :=
  match overdue limit d.wait req with
  | some i => some (i, true)
  | none => (rotate d.last req).map fun i => (i, false)

/-- One cycle at one output: a forced win is counted, the first since its counter was cleared raises the event. -/
def State.driftPort (s : State) (k o : Nat) : State :=
  let d := s.drift.getD o DriftOut.reset
  let limit := fun i => s.get (F.DRF_WAITLIM_LIMIT i)
  let req := (List.range 14).filter fun i => Config.driftRequest k o i
  match d.winner limit req with
  | none => s
  | some (i, forced) =>
    let t := { s with drift := s.drift.set o { wait := waited limit d.wait req (some i), last := i } }
    if forced then
      let u := t.bump (F.DRF_FORCED i)
      if s.get (F.DRF_FORCED i) = 0 then u.raise 24 0 [i, o, 0, 0] else u
    else t

/-- One cycle of the Drift: every connected output decides (R16). -/
def State.driftCycle (s : State) (k : Nat) : State := (List.range 14).foldl (fun t o => t.driftPort k o) s

/-- What the arbiters do in one nanosecond: one Drift cycle, and a DRAM round each 3.75 ns, while their clocks run (Table 17-2) and no
DRAM rail is low (R43). -/
def State.arbitrate (s : State) : State :=
  if 2 ≤ s.get F.PWR_STAT_CUR then s
  else
    let t := s.driftCycle s.uptime
    if s.uptime * 4 / 15 < (s.uptime + 1) * 4 / 15 ∧ s.memUp then t.dramRound (s.uptime * 4 / 15) else t

end Sys2Proof.Machine
end

