-- ==== Sys2Proof/Machine/BusRows.lean ====
section
/-! DEFINITION. Rows that are a register write outside the Core domain: what the requester posted to that domain before takes effect
first (R23). -/

namespace Sys2Proof.Machine

/-- EXTERNAL_OFFSET_WRITE (R314). -/
def execExternalOffsetWrite (r : Req) (v : Word) (s : State) : Host.Outcome State Fault Refusal :=
  .next ((s.inOrder r .tim).controlWrite r fun t => t.writeExtoff v)

/-- TIME_SET (R315). -/
def execTimeSet (r : Req) (v : Word) (s : State) : Host.Outcome State Fault Refusal :=
  .next ((s.inOrder r .tim).controlWrite r fun t => t.writeSetns v)

/-- PROBE_START (R324): a control write of TIM_PROBE. -/
def execProbeStart (r : Req) (v : Word) (s : State) : Host.Outcome State Fault Refusal :=
  .next ((s.inOrder r .tim).controlWrite r fun t => t.writeProbe v)

/-- USER_HEWER_RUN (R450): a control write of HWRn_CTRL. -/
def execUserHewerRun (r : Req) (n : Nat) (v : Word) (s : State) : Host.Outcome State Fault Refusal :=
  .next (if n < 24 then (s.inOrder r .hwr).controlWrite r fun t => t.writeHwrCtrl n v else s)

/-- MAILBOX_SEND (R452): a control write of HWRn_MBCTL. -/
def execMailboxSend (r : Req) (n : Nat) (v : Word) (s : State) : Host.Outcome State Fault Refusal :=
  .next (if n < 24 then (s.inOrder r .hwr).controlWrite r fun t => t.writeMbctl n v else s)

/-- MDIO_FRAME_START (R340): a control write of ETH0_MDIO. -/
def execMdioFrameStart (r : Req) (v : Word) (s : State) : Host.Outcome State Fault Refusal :=
  .next (if s.isHost then s.offWrite r else (s.inOrder r .eth).controlWrite r fun t => t.whenSerdes fun u => u.writeMdio v)

/-- RETRAIN (R129): a control write of ADTn_CTRL with RETRAIN set. -/
def execRetrain (r : Req) (p : Nat) (s : State) : Host.Outcome State Fault Refusal :=
  .next (if 3 ≤ p then s else (s.inOrder r .adt).controlWrite r fun t => t.whenSerdes fun u => u.writeAdtCtrl p (u.rd (A.ADT_CTRL p) ||| 0x20#32))

/-- DARK_COMMAND (R129): a control write of ADTn_CTRL with DARK set. -/
def execDarkCommand (r : Req) (p : Nat) (s : State) : Host.Outcome State Fault Refusal :=
  .next (if 3 ≤ p then s else (s.inOrder r .adt).controlWrite r fun t => t.whenSerdes fun u => u.writeAdtCtrl p (u.rd (A.ADT_CTRL p) ||| 0x40#32))

end Sys2Proof.Machine
end

