-- ==== Sys2Proof/Machine/CfgSpace.lean ====
section
/-! DEFINITION. The configuration space of functions 0 to 4 and of the virtual ports (R76, R229 to R232, R235, R242), and TLPs from the
PCIe links (R230, R236). The layout within a function is the PCI Express Base Specification's. Functions 0 to 4 stand here as 0 to 4, virtual
port k as 5 + k. -/

namespace Sys2Proof.Machine

/-! ### Identity (Table 9-1) -/

/-- Whether a function has a Type 1 header. -/
def cfgBridge (fn : Nat) : Bool := decide (4 ≤ fn)

/-- Whether the boot personality is presented (R76): function 0 alone. -/
def State.bootPers (s : State) : Bool := s.boot.pers == 1

/-- Device ID of a function (R76, R229, R230). -/
def State.cfgDevice (s : State) (fn : Nat) : Nat :=
  if s.bootPers then 0x084F else [0x0840, 0x0841, 0x0841, 0x0842, 0x0843].getD fn 0x0844

/-- Class code of a function. -/
def State.cfgClass (s : State) (fn : Nat) : Nat :=
  if s.bootPers then 0xFF0000 else [0x088000, 0x020000, 0x020000, 0x038000].getD fn 0x060400

/-- The size of a function's BAR as a power of two, 0 where it has none (Tables 4-1, 9-1). -/
def State.barLog (s : State) (fn bar : Nat) : Nat :=
  if s.bootPers then (if bar = 0 then 24 else 0)
  else match fn, bar with
    | 0, 0 => 24 | 0, 2 => 20 | 0, 4 => 14
    | 1, 0 => 17 | 2, 0 => 17 | 3, 0 => 16
    | 1, 4 => 14 | 2, 4 => 14 | 3, 4 => 14
    | _, _ => 0

/-- The Type 1 header of function 4 or of a virtual port. -/
def State.bridgeOf (s : State) (fn : Nat) : SlotSt := if fn = 4 then s.pcx.up else s.slot (fn - 5)

/-- Change it. -/
def State.bridgeM (s : State) (fn : Nat) (g : SlotSt → SlotSt) : State :=
  if fn = 4 then s.pcxM fun x => { x with up := g x.up } else s.slotM (fn - 5) g

/-! ### Reading -/

/-- A Bool as a bit at a place. -/
def bitAt (b : Bool) (i : Nat) : Nat := if b then 2 ^ i else 0

/-- Offsets 0x10 to 0x24: BARs, or the buses and windows of a bridge. -/
def State.cfgHead (s : State) (fn o : Nat) : Nat :=
  if cfgBridge fn then
    let x := s.bridgeOf fn
    match o with
    | 0x18 => x.priBus % 256 + 2 ^ 8 * (x.secBus % 256) + 2 ^ 16 * (x.subBus % 256)
    | 0x20 => x.memBase / 2 ^ 20 % 4096 * 16 + 2 ^ 20 * (x.memLim / 2 ^ 20 % 4096)
    | 0x24 => x.prefBase / 2 ^ 20 % 4096 * 16 + 1 + 2 ^ 20 * (x.prefLim / 2 ^ 20 % 4096) + 2 ^ 16
    | 0x28 => x.prefBase / 2 ^ 32 % 2 ^ 32
    | 0x2C => x.prefLim / 2 ^ 32 % 2 ^ 32
    | _ => 0
  else
    let bar := (o - 0x10) / 4
    let n := s.barLog fn (bar / 2 * 2)
    if o = 0x2C then s.pcx.ssid.toNat
    else if 0x28 ≤ o ∨ n = 0 then 0
    else if bar % 2 = 0 then s.cfgStored fn o / 2 ^ n * 2 ^ n + 4 else s.cfgStored fn o

/-- Offsets 0x40 to 0x70: the PCI Express capability. -/
def State.cfgExpress (s : State) (fn o : Nat) : Nat :=
  let slot := decide (5 ≤ fn)
  let k := fn - 5
  let x := s.slot k
  match o with
  | 0x40 => 0x10 + 2 ^ 8 * 0x80 + 2 ^ 16 * (2 + 16 * (if fn < 4 then 0 else if fn = 4 then 5 else 6) + bitAt slot 8)
  | 0x44 => 2 + 2 ^ 5 + 2 ^ 15
  | 0x48 => s.cfgStored fn 0x48
  | 0x4C => 5 + 16 * 4 + 2 ^ 11 + (if slot then 2 ^ 19 + 2 ^ 20 + 2 ^ 24 * k else 0)
  | 0x50 => s.cfgStored fn 0x50 + bitAt (slot && x.linkDis) 4 +
      2 ^ 16 * (if slot then 5 + 16 * 4 + bitAt (s.bit (F.PCX_SLOT_DLLA k)) 13 else s.get F.PCX_STAT_SPEED + 16 * s.get F.PCX_STAT_WIDTH)
  | 0x54 => if slot then 2 ^ 0 + 2 ^ 1 + 2 ^ 3 + 2 ^ 4 + 2 ^ 5 + 2 ^ 6 + 2 ^ 19 * (16 * s.fid + k) else 0
  | 0x58 => if slot then x.sltCtl + bitAt (s.bit (F.PCX_SLOT_PCCOFF k)) 10 +
      2 ^ 16 * (bitAt x.attention 0 + bitAt x.pdc 3 + bitAt (s.bit (F.PCX_SLOT_PRSNT k)) 6 + bitAt x.dllsc 8) else 0
  | 0x64 => 2 ^ 4 + 2 ^ 16 + 2 ^ 17 + 2 ^ 21
  | 0x68 => s.cfgStored fn 0x68
  | 0x6C => 0x3E
  | 0x70 => if slot then (if x.speed = 0 then 5 else x.speed % 16) else 5
  | _ => 0

/-- A word of a function's configuration space. -/
def State.cfgWord (s : State) (fn o : Nat) : Nat :=
  match o with
  | 0x00 => s.get F.PCX_ID_VID + 2 ^ 16 * s.cfgDevice fn
  | 0x04 => s.cfgStored fn 4 + 2 ^ 20
  | 0x08 => Config.pcieRevision.toNat + 2 ^ 8 * s.cfgClass fn
  | 0x0C => s.cfgStored fn 0x0C + 2 ^ 16 * (bitAt (cfgBridge fn) 0 + bitAt (decide (fn < 5) && !s.bootPers) 7)
  | 0x34 => 0x40
  | 0x3C => s.cfgStored fn 0x3C + (if cfgBridge fn then bitAt (s.bridgeOf fn).sbr 22 else 0)
  | 0x80 => 1 + 2 ^ 8 * (if fn = 4 then 0xA0 else if s.bootPers then 0 else 0x90) + 2 ^ 16 * 3
  | 0x84 => s.cfgStored fn 0x84
  | 0x90 => if s.bootPers ∨ fn = 4 then 0
      else if fn < 4 then 0x11 + 2 ^ 16 * (msixVectors fn - 1) + s.cfgStored fn 0x90 else 5 + 2 ^ 8 * 0xA0 + 2 ^ 23 + s.cfgStored fn 0x90
  | 0x94 => if fn < 4 then (if s.bootPers then 0 else 4) else s.cfgStored fn 0x94
  | 0x98 => if fn < 4 then (if s.bootPers then 0 else 0x2000 + 4) else s.cfgStored fn 0x98
  | 0x9C => if 5 ≤ fn then s.cfgStored fn 0x9C else 0
  | 0xA0 => if cfgBridge fn then 0x0D else 0
  | 0xA4 => if cfgBridge fn then s.pcx.ssid.toNat else 0
  | 0x100 => 1 + 2 ^ 17 + (if 5 ≤ fn then 2 ^ 20 * 0x148 else 0)
  | 0x104 => if 5 ≤ fn then (s.slot (fn - 5)).aer else s.cfgStored fn 0x104
  | 0x108 => s.cfgStored fn 0x108
  | 0x10C => s.cfgStored fn 0x10C
  | 0x110 => s.cfgStored fn 0x110
  | 0x114 => s.cfgStored fn 0x114
  | 0x148 => if 5 ≤ fn then 0x0D + 2 ^ 16 else 0
  | 0x14C => if 5 ≤ fn then 0x1D + s.cfgStored fn 0x14C else 0
  | _ =>
    if 0x10 ≤ o ∧ o < 0x30 then s.cfgHead fn o
    else if 0x40 ≤ o ∧ o < 0x74 then s.cfgExpress fn o
    else if 0x11C ≤ o ∧ o < 0x12C then (if 5 ≤ fn then beNat (slice (s.slot (fn - 5)).hdrLog (o - 0x11C) 4) else s.cfgStored fn o)
    else 0

/-! ### Writing -/

/-- The bits of a word that the host writes and the configuration space holds as they are. -/
def State.cfgMask (s : State) (fn o : Nat) : Nat :=
  match o with
  | 0x04 => 0x0546
  | 0x0C => 0xFF
  | 0x3C => if cfgBridge fn then 0x000300FF else 0xFF
  | 0x48 => 0x79FF
  | 0x50 => 0x00C2
  | 0x68 => 0x101F
  | 0x84 => 0x0103
  | 0x90 => if s.bootPers ∨ fn = 4 then 0 else if fn < 4 then 0xC0000000 else 0x00010000
  | 0x94 => if 5 ≤ fn then 0xFFFFFFFC else 0
  | 0x98 => if 5 ≤ fn then 0xFFFFFFFF else 0
  | 0x9C => if 5 ≤ fn then 0xFFFF else 0
  | 0x108 => 0x007FF030
  | 0x10C => if 5 ≤ fn then 0x006BF010 else 0x007FF030
  | 0x114 => 0xF1C1
  | 0x14C => if 5 ≤ fn then 0x001D0000 else 0
  | _ => if !(cfgBridge fn) ∧ 0x10 ≤ o ∧ o < 0x28 ∧ s.barLog fn ((o - 0x10) / 8 * 2) ≠ 0 then 0xFFFFFFFF else 0

/-- The status bits of a word that a written 1 clears, where the configuration space holds them. -/
def cfgClears (fn o : Nat) : Nat := match o with | 0x48 => 0x000F0000 | 0x104 => if fn < 5 then 0xFFFFFFFF else 0 | 0x110 => 0xF1C1 | _ => 0

/-- A number's bits under a mask. -/
def under (v m : Nat) : Nat := (BitVec.ofNat 32 v &&& BitVec.ofNat 32 m).toNat

/-- What a word holds after the host writes `v` to it. -/
def State.cfgStore (s : State) (fn o v : Nat) : State :=
  let m := s.cfgMask fn o
  let c := cfgClears fn o
  if m = 0 ∧ c = 0 then s
  else
    let old := s.cfgStored fn o
    s.cfgPut fn o ((BitVec.ofNat 32 old &&& ~~~(BitVec.ofNat 32 m ||| (BitVec.ofNat 32 c &&& BitVec.ofNat 32 v))).toNat + under v m)

/-- Buses and windows of a bridge. -/
def State.cfgWindow (s : State) (fn o v : Nat) : State :=
  let base := fun (w : Nat) => w / 16 % 4096 * 2 ^ 20
  let lim := fun (w : Nat) => w / 2 ^ 20 % 4096 * 2 ^ 20 + 0xFFFFF
  match o with
  | 0x18 => s.bridgeM fn fun x => { x with priBus := v % 256, secBus := v / 2 ^ 8 % 256, subBus := v / 2 ^ 16 % 256 }
  | 0x20 => s.bridgeM fn fun x => { x with memBase := base v, memLim := lim v }
  | 0x24 => s.bridgeM fn fun x => { x with prefBase := x.prefBase / 2 ^ 32 * 2 ^ 32 + base v, prefLim := x.prefLim / 2 ^ 32 * 2 ^ 32 + lim v }
  | 0x28 => s.bridgeM fn fun x => { x with prefBase := v % 2 ^ 32 * 2 ^ 32 + x.prefBase % 2 ^ 32 }
  | 0x2C => s.bridgeM fn fun x => { x with prefLim := v % 2 ^ 32 * 2 ^ 32 + x.prefLim % 2 ^ 32 }
  | _ => s

/-- The fields of a virtual port that a write to a word writes (R242), by the byte enables `be`: whether or not their values change. -/
def State.cfgFields (s : State) (k o v be : Nat) : List (CfgField × Nat) :=
  let b := fun (i : Nat) (f : CfgField) (n : Nat) => if be / 2 ^ i % 2 = 1 then [(f, n)] else []
  match o with
  | 0x3C => b 2 .sbr (v / 2 ^ 22 % 2)
  | 0x48 => [(.errEnable, if v / 2 % 2 = 1 ∨ s.cfgStored (5 + k) 4 / 256 % 2 = 1 then 1 else 0)]
  | 0x04 => [(.errEnable, if v / 256 % 2 = 1 ∨ s.cfgStored (5 + k) 0x48 / 2 % 2 = 1 then 1 else 0)]
  | 0x50 => b 0 .linkDisable (v / 16 % 2) ++ (if v / 32 % 2 = 1 then b 0 .retrainLink 1 else [])
  | 0x58 => [(.slotEnables, v % 65536)] ++ (if 4 ≤ be then [(.slotStatus, v / 65536)] else []) ++ b 1 .powerOff (v / 1024 % 2)
  | 0x70 => b 0 .targetSpeed (v % 16)
  | _ => []

/-- A word is written: `v` is what it then has in the bytes written and had in the others, `be` the byte enables. True where the host's write waits
for the dock (R242). -/
def State.cfgWrite (s : State) (fn o v be : Nat) (hdr : List (BitVec 8)) : State × Bool :=
  let t := s.cfgStore fn o v
  let t := if cfgBridge fn then t.cfgWindow fn o v else t
  if fn = 0 ∧ o = 4 then (t.aliveChange 2 (v / 4 % 2 == 1), false)
  else if fn = 4 ∧ o = 4 then (t.cfgLocal 0 .busMaster (v / 4 % 2) 0, false)
  else if fn = 4 ∧ o = 0x3C then (t.bridgeM 4 fun x => { x with sbr := v / 2 ^ 22 % 2 == 1 }, false)
  else if 5 ≤ fn then
    let t := if o = 0x104 then t.slotM (fn - 5) fun x => { x with aer := (BitVec.ofNat 32 x.aer &&& ~~~(BitVec.ofNat 32 v)).toNat } else t
    (t.cfgFields (fn - 5) o v be).foldl (fun (u, w) e => let (u', w') := u.portField (fn - 5) e.1 e.2 0 (some hdr); (u', w || w')) (t, false)
  else (t, false)

/-! ### Configuration requests -/

/-- Whether a TLP is a configuration request. -/
def tlpCfg (h : List (BitVec 8)) : Bool := byteAt h 0 % 32 == 4 || byteAt h 0 % 32 == 5

/-- The function a configuration request from the host names, if it is the device's own (R229, R230). -/
def State.cfgTarget (s : State) (h : List (BitVec 8)) : Option Nat :=
  let f := byteAt h 9 % 8
  if byteAt h 0 % 32 = 4 then (if f < (if s.bootPers then 1 else 5) then some f else none)
  else if !s.bootPers ∧ 0 < s.pcx.up.secBus ∧ byteAt h 8 = s.pcx.up.secBus ∧ f = 0 ∧ byteAt h 9 / 8 < 16 then some (5 + byteAt h 9 / 8)
  else none

/-- A configuration request reaches a function: a read is completed with its word, a write once it has taken effect. Status bits of bytes not
written are not written. -/
def State.cfgRequest (s : State) (fn : Nat) (bytes : List (BitVec 8)) : State :=
  let h := tlpHeader bytes
  let o := byteAt h 10 % 16 * 256 + byteAt h 11 / 4 * 4
  if byteAt h 0 < 64 then s.emit (.tlp 4 (cplHeader h (32 + fn) 0 4 1 0 ++ leBytes 4 (s.cfgWord fn o)))
  else
    let be := byteAt h 7 % 16
    let data := slice h (tlpHdrLen h) 4
    let keep := s.cfgWord fn o - under (s.cfgWord fn o) (if o = 0x58 then 0xFFFF0000 else cfgClears fn o)
    let v := leNat ((List.range 4).map fun i => if be / 2 ^ i % 2 = 1 then data.getD i 0 else BitVec.ofNat 8 (keep / 256 ^ i))
    let (t, waits) := s.cfgWrite fn o v be (h.take 16)
    (if waits then t else t.emit (.tlp 4 (cplEnd h (32 + fn) 0 4))).hotPoll

/-! ### TLPs from the PCIe links -/

/-- A TLP from the host (R76, R229, R230, R236): Retry Status while no personality is presented, the device's own configuration space, the slots of
the full personality. -/
def State.hostTlp (s : State) (bytes : List (BitVec 8)) : State :=
  let h := tlpHeader bytes
  if tlpCfg h ∧ s.boot.pers = 0 then s.emit (.tlp 4 (cplEnd h 36 2 4))
  else
    match (if tlpCfg h then s.cfgTarget h else none) with
    | some fn => s.cfgRequest fn bytes
    | none =>
      match (if s.boot.pers = 2 then (s.slotsFor h).filterMap s.slotLeader else []) with
      | [] => s.refuseTlp 4 h
      | c :: cs => if byteAt h 0 % 32 = 0x13 then (c :: cs).foldl (fun t d => t.tlpToBundle d bytes) s else s.tlpToBundle c bytes

/-- PCIE_TLP_RECEIVE (R230, R236): a TLP from the upstream link (4) or a dock port. -/
def execPcieTlpReceive (link : Nat) (bytes : List (BitVec 8)) (s : State) : Host.Outcome State Fault Refusal :=
  .next (s.whenSerdes fun s => (
    if tlpDropped (tlpHeader bytes) then s
    else if link = 4 ∧ s.isHost then s.hostTlp bytes
    else if link < 4 ∧ s.role = 1 then
      match s.portLeader link with
      | some c => s.tlpToBundle c bytes
      | none => s.refuseTlp link (tlpHeader bytes)
    else s))

end Sys2Proof.Machine
end

