-- ==== Sys2Proof/Machine/PcsRx.lean ====
section
/-! DEFINITION. The receiver of a port's lanes (R118 to R123, R136): codewords are decoded, their blocks put in order, and the frames and
control words in them act. -/

namespace Sys2Proof.Machine

/-! ### Blocks of a port in order -/

/-- The word of a LINK block and its check byte (Table 6-5a). -/
def linkOf (b : Block) : LinkWord × BitVec 8 :=
  ({ kind := Block.byte b 1, arg := BitVec.ofNat 40 (leNat (Block.bytes b 2 5)) }, BitVec.ofNat 8 (Block.byte b 7))

/-- What the words of LINK blocks do (Table 6-5a). -/
def State.wordActs (s : State) (p : Nat) (w : LinkWord) : State :=
  match w.kind with
  | 1 => s.ackWord p w
  | 2 => s.nakWord p w
  | 3 => s.creditHeard p w
  | 4 => s.keyrdyWord p w
  | _ => s

/-- A frame's bytes are complete (R143): a capability frame in EXCHANGE, a Pelfer frame on a Lit port. -/
def State.hearBytes (s : State) (p : Nat) (f : RxFrame) : State :=
  if s.portState p = 4 then
    (if f.errored = 0 ∧ f.bytes.length = 68 then s.hearCapability p (f.bytes.take 64) (BitVec.ofNat 32 (leNat (f.bytes.drop 64))) else s)
  else
    let hdr := BitVec.ofNat 128 (beNat (f.bytes.take 16))
    let rest := f.bytes.drop 16
    let err := if f.bytes.length < 16 then 1 else f.errored
    if flagOf (unpackHeader hdr []).flags 0 then
      s.hearFrame p hdr (rest.take (rest.length - 16)) (some (BitVec.ofNat 128 (beNat (rest.drop (rest.length - 16))))) err
    else s.hearFrame p hdr rest none err

/-- The frame that is being received ends. -/
def State.endFrame (s : State) (p : Nat) (last : List (BitVec 8)) : State :=
  match (s.coding p).asm with
  | some f => (s.pcsM p fun c => { c with asm := none }).hearBytes p { f with bytes := f.bytes ++ last }
  | none => s

/-- A block in error within a frame: among the header's blocks, or after them. -/
def RxFrame.spoil (f : RxFrame) : RxFrame :=
  { bytes := f.bytes ++ List.replicate 8 0, errored := if f.errored = 1 ∨ f.bytes.length < 16 then 1 else 2 }

/-- A frame some of whose blocks are missing ends in error. -/
def State.cutFrame (s : State) (p : Nat) : State := (s.pcsM p fun c => { c with asm := c.asm.map RxFrame.spoil }).endFrame p []

/-- Bytes of a frame come in; those that no START opened belong to a frame whose header is lost. -/
def State.frameBytes (s : State) (p : Nat) (bytes : List (BitVec 8)) : State :=
  s.pcsM p fun c => { c with asm := some (match c.asm with
    | some f => { f with bytes := f.bytes ++ bytes }
    | none => { bytes := bytes, errored := 1 }) }

/-- One block of a port's stream (R118), its first UI stamped `at_`: LINK and SYNC act wherever they stand; what never stands inside a frame ends
one in error. -/
def State.hearBlock (s : State) (p : Nat) (at_ : Int) (b : Option Block) : State :=
  match b with
  | none => s.pcsM p fun c => { c with asm := c.asm.map RxFrame.spoil }
  | some b =>
    if !b.ctl then s.frameBytes p (Block.bytes b 0 8)
    else
      match Block.byte b 0 with
      | 0x78 => ((s.cutFrame p).pcsM p fun c => { c with asm := some { bytes := Block.bytes b 1 7, errored := 0 } })
      | 0x4B => s.linkWord p (linkOf b).1 (linkOf b).2 (linkOf b).1.kind fun t => t.wordActs p (linkOf b).1
      | 0x2D =>
        (match Block.byte b 1 % 16 with
          | 1 => s.hearSyncM p (leNat (Block.bytes b 2 2)) (s.toLane0 p at_) 0
          | 2 => s.hearSyncS p (leNat (Block.bytes b 2 2)) (s.toLane0 p at_)
          | _ => s)
      | 0x5A =>
        (let t := s.cutFrame p
         match Block.byte b 1 with
          | 1 => t.hearSpare p (Block.byte b 2)
          | 2 => t.hearJoin p (Block.byte b 2)
          | 3 => t.hearStripe p (Block.byte b 2)
          | _ => t)
      | k =>
        (match termLen k with
          | some n => (s.frameBytes p (Block.bytes b 1 n)).endFrame p []
          | none => s.cutFrame p)

/-- Blocks of the lanes in use that stand side by side, put in order (R120): block 2j of lane 0, then 2j+1 of lane 1, where two are in use. -/
def State.rowBlocks (rows : List (List (Int × Option Block))) : List (Int × Option Block) :=
  match rows with
  | [a, b] => (a.zip b).flatMap fun e => [e.1, e.2]
  | [a] => a
  | _ => []

/-- Whether a block is a MARK block. -/
def isMark (b : Option Block) : Bool := match b with | some x => x.ctl && Block.byte x 0 == 0x55 | none => false

/-- Whether a lane in use brings nothing (R137): it has lost its lock and is asked to be spared. -/
def State.laneLost (s : State) (p l : Nat) : Bool := (s.port p).asking / 2 ^ l % 2 == 1 && !(s.rxLane p l).lock

/-- The blocks of a lane's codeword that stands first, each with the stamp of its own first UI; of a lost lane, blocks in error. -/
def State.laneRow (s : State) (p l : Nat) : List (Int × Option Block) :=
  match (s.rxLane p l).fifo with
  | [] => List.replicate 80 (0, none)
  | c :: _ => c.2.zipIdx.map fun e => (c.1 + s.uis p (66 * e.2), e.1)

/-- The codewords that wait, as far as every lane in use that has not been lost has one; `n` bounds them. A codeword of MARK blocks is taken
out (R122). -/
def State.hearRows : Nat → Nat → State → State
  | 0, _, s => s
  | n + 1, p, s =>
    let use := lanesOf (s.get (F.ADT_LANE_RXUSE p))
    let due := use.filter fun l => !(s.laneLost p l)
    if due = [] ∨ due.any (fun l => (s.rxLane p l).fifo.isEmpty) then s
    else
      let t := use.foldl (fun u l => u.rxM p l fun r => { r with fifo := r.fifo.drop 1 }) s
      let bs := (State.rowBlocks (use.map (s.laneRow p))).filter fun b => !(isMark b.2)
      hearRows n p (bs.foldl (fun u b => u.hearBlock p b.1 b.2) t)

/-! ### Codewords (R121, R128, R136) -/

/-- The headers of a codeword's blocks as received: the run of valid ones, and how the last 64 were. -/
def RxLane.headers (r : RxLane) (bits : Nat) : RxLane :=
  (cwBlocks bits).foldl (fun r b => { r with
    run := if headerValid b then min 64 (r.run + 1) else 0,
    window := (r.window ++ [headerValid b]).drop (r.window.length - 63) }) r

/-- Whether 16 sync headers are invalid within 64 blocks of a lane: those before a codeword, and its own. -/
def RxLane.headersBad (old : RxLane) (bits : Nat) : Bool :=
  let w := old.window ++ (cwBlocks bits).map headerValid
  (List.range (w.length - 63)).any fun i => decide (16 ≤ (((w.drop i).take 64).filter (! ·)).length)

/-- Whether a codeword stands where a marker must (R122). -/
def RxLane.markerDue (r : RxLane) : Bool := r.since == some 16383

/-- A codeword's effect on its lane's receiver: headers, lock (64 valid headers in a row, three codewords of zero syndrome in a row),
descrambled blocks, the place among the markers; `at_` stamps its first UI. -/
def RxLane.take (r : RxLane) (raw : Nat) (dec : Option (Nat × Nat)) (now : Nat) (at_ : Int) : RxLane :=
  let r := r.headers raw
  let run0 := match dec with | some (0, _) => min 3 (r.zero + 1) | _ => 0
  let lock := r.lock || (decide (64 ≤ r.run) && decide (3 ≤ run0))
  let (bs, h) := descrBlocks r.scr (cwBlocks ((dec.map (·.2)).getD raw))
  let bs := if dec.isSome then bs else bs.map fun _ => none
  { r with
    scr := h, zero := run0, lock := lock, row := if dec.isSome then 0 else r.row + 1,
    bad := if (lock && !r.lock) || dec.isNone then some now else r.bad,
    since := r.since.map fun k => if k = 16383 ∨ bs.all isMark then 0 else k + 1,
    seek := if lock && r.since.isNone then r.seek + 1 else 0,
    skip := if lock && r.since.isSome then r.skip - 1 else r.skip,
    fifo := if lock && r.since.isSome && r.skip == 0 then r.fifo ++ [(at_, bs)] else r.fifo }

/-- What the decoder found is counted (R121): codewords corrected, codewords it could not correct and when. -/
def State.fecCount (s : State) (p l : Nat) (errs : Option Nat) : State :=
  match errs with
  | some 0 => s
  | some (_ + 1) => s.bump (if l = 0 then F.ADT_FECCOR0 p else F.ADT_FECCOR1 p)
  | none => (s.bump (if l = 0 then F.ADT_FECUNC0 p else F.ADT_FECUNC1 p)).portM p fun x =>
      { x with uncs := (x.uncs.filter fun u => decide (s.uptime < u + 1000000000)) ++ [s.uptime] }

/-- What a lane fails on at a codeword, once it has lock (R136): its headers, uncorrectable codewords in a row, a marker missing. A lane to whose
lock no marker has followed for a marker period offends against R138. -/
def State.judgeLane (s : State) (p l : Nat) (old : RxLane) (raw : Nat) (mark : Bool) : State :=
  let r := s.rxLane p l
  if !old.lock then s
  else if old.headersBad raw then s.laneFailed p l 2
  else if 3 ≤ r.row then s.laneFailed p l 3
  else if old.markerDue && !mark then s.laneFailed p l 4
  else if 16384 < r.seek then (s.offend p l 4).rxM p l fun r => { r with seek := 0 }
  else s

/-- What has been heard of a lane not in use is kept as far as it may stand before its rejoin. -/
def State.trimLane (s : State) (p l : Nat) : State :=
  if s.get (F.ADT_LANE_RXUSE p) / 2 ^ l % 2 = 1 then s else s.rxM p l fun r => { r with fifo := r.fifo.drop (r.fifo.length - 4) }

/-- The blocks of a codeword as a lane's receiver reads them. -/
def RxLane.reads (r : RxLane) (raw : Nat) (dec : Option (Nat × Nat)) : List (Option Block) :=
  let bs := (descrBlocks r.scr (cwBlocks ((dec.map (·.2)).getD raw))).1
  if dec.isSome then bs else bs.map fun _ => none

/-- A codeword comes in on one of the device's lanes (R116, R121): polarity and logical lane as found in Train. -/
def State.hearCodeword (s : State) (p phys : Nat) (cw : BitVec 5440) : State :=
  let l := if (s.port p).rxSwap then 1 - phys else phys
  let cw := flipCw ((s.port p).inv / 2 ^ phys % 2 == 1) cw
  let dec := rsDecode cw
  let old := s.rxLane p l
  let t := (s.rxM p l fun r => r.take (cwMessage cw) dec s.uptime s.stamp).fecCount p l (dec.map (·.1))
  let thr := t.get (F.ADT_DEGCFG_THR p)
  if t.lit p ∧ thr ≠ 0 ∧ thr < (t.port p).uncs.length then t.downgrade p
  else
    let u := (t.judgeLane p l old (cwMessage cw) ((old.reads (cwMessage cw) dec).all isMark)).trimLane p l
    u.hearRows ((u.rxLane p 0).fifo.length + (u.rxLane p 1).fifo.length) p

/-- CODEWORD_RECEIVE (R121, R128, R136): from LOCK on, outside Dim. -/
def execCodewordReceive (p phys : Nat) (cw : BitVec 5440) (s : State) : Host.Outcome State Fault Refusal :=
  .next (s.whenSerdes fun s => (
    if 3 ≤ p ∨ 2 ≤ phys ∨ s.portState p < 3 ∨ s.portState p = 7 ∨ s.bit (F.ADT_STAT_RXDIM p) then s else s.hearCodeword p phys cw))

end Sys2Proof.Machine
end

