-- ==== Sys2Proof/Machine/Scanout.lean ====
section
/-! DEFINITION. Frame boundaries of the outputs (R294 to R298), and the rows that bring one frame to an output (R290 to R293). -/

namespace Sys2Proof.Machine

/-! ### Frames at an output -/

/-- The output whose DISPLAY tunnel has a TID. -/
def State.outOf (s : State) (tid : Nat) : Option Nat :=
  [0, 1, 2, 3].find? fun k => match s.endAt (0x3000 + k) 4 with | some c => c.par.tid == tid | none => false

/-- A frame of a DISPLAY tunnel comes to its output (R17 step 13): behind those that wait there, and waiting itself where R290 or R291
holds it back. -/
def State.outFrame (s : State) (tid kind : Nat) (bytes : List (BitVec 8)) (last : Bool) : State :=
  match (s.outOf tid).bind fun k => s.endAt (0x3000 + k) 4 with
  | none => s
  | some c =>
    s.deliver c { queue := none, at_ := s.now, from_ := none, fence := none, f :=
      { dst := s.fid, src := c.far, tid := tid, cls := c.par.cls, kind := kind, len := bytes.length, hseq := 0, eseq := c.rx, ttl := 0,
        flags := if last then 8 else 0, rsvd := 0, payload := bytes } }

/-- TILE_FRAGMENT_RECEIVE (R290): a fragment reaches an output. -/
def execTileFragmentReceive (tid : Nat) (bytes : List (BitVec 8)) (last : Bool) (s : State) : Host.Outcome State Fault Refusal :=
  .next (s.whenSerdes fun s => s.outFrame tid 0x0D bytes last)

/-- A record of one TYPE arrives on a DISPLAY tunnel at its output. -/
def State.outTyped (s : State) (tid type : Nat) (bytes : List (BitVec 8)) : State :=
  if byteAt bytes 0 = type then s.outFrame tid 0x0E bytes false else s

/-- MODE_RECORD (R293). -/
def execModeRecord (tid : Nat) (bytes : List (BitVec 8)) (s : State) : Host.Outcome State Fault Refusal :=
  .next (s.whenSerdes fun s => s.outTyped tid 1 bytes)

/-- FRAME_END_RECORD (R291). -/
def execFrameEndRecord (tid : Nat) (bytes : List (BitVec 8)) (s : State) : Host.Outcome State Fault Refusal :=
  .next (s.whenSerdes fun s => s.outTyped tid 2 bytes)

/-- METADATA_RECORD (R292). -/
def execMetadataRecord (tid : Nat) (bytes : List (BitVec 8)) (s : State) : Host.Outcome State Fault Refusal :=
  .next (s.whenSerdes fun s => s.outTyped tid 3 bytes)

/-- PPS_RECORD (R292). -/
def execPpsRecord (tid : Nat) (bytes : List (BitVec 8)) (s : State) : Host.Outcome State Fault Refusal :=
  .next (s.whenSerdes fun s => s.outTyped tid 4 bytes)

/-! ### Boundaries -/

/-- The flip a boundary takes, with the retiming of a new mode (R293, R298). -/
def State.takeFlip (s : State) (k : Nat) (timing : Option OutTiming) : State :=
  if s.flipDue k && (s.dout k).remode && s.bit (F.DSO_OUT_CTRL_AUTOTIM k) && s.bit (F.DSO_OUT_CTRL_EN k) then s.retimeFlip k timing else s.boundaryFlip k

/-- What an enabled output's generator does at a boundary: the frame it has sent, FRAMECNT, genlock, and encryption once the monitor has
authenticated (R294, R295, R296, R300). -/
def State.frameDone (s : State) (k : Nat) (dry : List (Nat × Nat)) : State :=
  let t := (s.scanOut k dry).bumpBy F.DSO_UNDERRUN (dry.map (·.1)).eraseDups.length
  let t := (t.put (F.DSO_OUT_FRAMECNT k) (s.get (F.DSO_OUT_FRAMECNT k) + 1)).genlock k
  if t.get (F.DSO_OUT_STAT_HDCP k) = 1 then (t.setHdcp k 2).emit (.streamType k (t.linkType k)) else t

/-- FRAME_BOUNDARY (R294, R298): the frame is over and a due flip is taken, which lets frames that waited for it go on (R290, R291); asleep,
scan-out has stopped (R299, R301), and a genlocked generator has its own time for it (R295). `timing` is what firmware sets where AUTOTIM is 1 and the flip shows a new mode; `dry` lists the
lines whose FIFO ran dry, each with the pixel from which it is black (R296). -/
def execFrameBoundary (k : Nat) (dry : List (Nat × Nat)) (timing : Option OutTiming) (s : State) : Host.Outcome State Fault Refusal :=
  .next (s.whenSerdes fun s => (
    if !s.hasOuts ∨ 4 ≤ k ∨ s.asleep ∨ !(s.genDue k) then s
    else ((if s.bit (F.DSO_OUT_CTRL_EN k) then s.frameDone k dry else s).takeFlip k timing).flushAllWaiting))

end Sys2Proof.Machine
end

