-- ==== Sys2Proof/Machine/Tick.lean ====
section
/-! DEFINITION. One tick of the clocks, which passes while no command waits (log entry 2). -/

namespace Sys2Proof.Machine

/-- Whether the time unit runs: in Run, Idle and Sleep (R306), out of reset. -/
def State.timeRuns (s : State) : Bool := !s.boot.held && decide (s.get F.PWR_STAT_CUR < 3)

/-- The three ports at a tick: their lanes, the end of the 60 s in which a lane's failures count (R138), and the spill area (R456). -/
def State.portsTick (s : State) : State :=
  if s.serdesUp then [0, 1, 2].foldl (fun t p => ((t.flapEnd p 0).flapEnd p 1).spillTurn p) s.lanesTicks else s

/-- What the MACs ask of their link partners follows their receive buffers (R326). -/
def State.macsTick (s : State) : State := if s.isHost then s else (s.pauseCheck 0).pauseCheck 1

/-- One nanosecond: uptime advances; the clock of the time unit takes one STEP (R304); the arbiters
decide (R461, R462); the ports' lanes carry what has been given to them (R118 to R122); frames between ends of this device, waits of user programs, hot-plug moves and carts go on as far as they can, and PAUSE follows the MACs' buffers. Everything the chapters time is a command of its own. -/
def State.tick (s : State) : State :=
  let t := { s with uptime := s.uptime + 1 }
  if s.timeRuns then (({ t with clock := t.clock + t.stepVal }.arbitrate.waitPoll.hotPoll.flushLoop).cartFlush).portsTick.macsTick else t

end Sys2Proof.Machine
end

