-- ==== Sys2Proof/Machine/Dispatch.lean ====
section
/-! DEFINITION. One arm per command, each one direct call of its meaning. -/

namespace Sys2Proof.Machine

/-- The effect of a command on everything but the queue. -/
def exec (i : Instr) (s : State) : Host.Outcome State Fault Refusal :=
  match i with
  | .powerOnReset x => Sys2Proof.Machine.execPowerOnReset x s
  | .porstNAssert => Sys2Proof.Machine.execPorstNAssert s
  | .porstNRelease => Sys2Proof.Machine.execPorstNRelease s
  | .strapSample role boot smba fids lanes => Sys2Proof.Machine.execStrapSample role boot smba fids lanes s
  | .warmrstNAssert => Sys2Proof.Machine.execWarmrstNAssert s
  | .softwareCoreReset r => Sys2Proof.Machine.execSoftwareCoreReset r s
  | .softwareWarmReset r => Sys2Proof.Machine.execSoftwareWarmReset r s
  | .thermalTrip => Sys2Proof.Machine.execThermalTrip s
  | .railBelowResetLevel rail => Sys2Proof.Machine.execRailBelowResetLevel rail s
  | .railValid rail => Sys2Proof.Machine.execRailValid rail s
  | .penumbraEntry mv => Sys2Proof.Machine.execPenumbraEntry mv s
  | .thriftLeave low => Sys2Proof.Machine.execThriftLeave low s
  | .bootRomStart otp dram found modes dqs size runs => Sys2Proof.Machine.execBootRomStart otp dram found modes dqs size runs s
  | .firmwareReady slot => Sys2Proof.Machine.execFirmwareReady slot s
  | .bootWatchdogExpiry => Sys2Proof.Machine.execBootWatchdogExpiry s
  | .downloadLengthWrite r len => Sys2Proof.Machine.execDownloadLengthWrite r len s
  | .bootPersonalityTimeout => Sys2Proof.Machine.execBootPersonalityTimeout s
  | .pciePerstAssert => Sys2Proof.Machine.execPciePerstAssert s
  | .pciePerstRelease => Sys2Proof.Machine.execPciePerstRelease s
  | .writeRegister r a size v => Sys2Proof.Machine.execWriteRegister r a size v s
  | .crossDomainWriteEffect k => Sys2Proof.Machine.execCrossDomainWriteEffect k s
  | .wideCounterLowRead r a size => Sys2Proof.Machine.execWideCounterLowRead r a size s
  | .snapTake r view => Sys2Proof.Machine.execSnapTake r view s
  | .snapCaptureDone => Sys2Proof.Machine.execSnapCaptureDone s
  | .ringEnable n v => Sys2Proof.Machine.execRingEnable n v s
  | .ringDisable n v => Sys2Proof.Machine.execRingDisable n v s
  | .ringVectorChange n v => Sys2Proof.Machine.execRingVectorChange n v s
  | .doorbell n v bufs => Sys2Proof.Machine.execDoorbell n v bufs s
  | .nop c => Sys2Proof.Machine.execNop c s
  | .unknownOpcode op c => Sys2Proof.Machine.execUnknownOpcode op c s
  | .regRead c => Sys2Proof.Machine.execRegRead c s
  | .regWrite c => Sys2Proof.Machine.execRegWrite c s
  | .mgmtReqReceive f m => Sys2Proof.Machine.execMgmtReqReceive f m s
  | .mgmtRspReceive f m => Sys2Proof.Machine.execMgmtRspReceive f m s
  | .managementTimeout id => Sys2Proof.Machine.execManagementTimeout id s
  | .dataOutDescriptor n d => Sys2Proof.Machine.execDataOutDescriptor n d s
  | .holdoffExpiry v => Sys2Proof.Machine.execHoldoffExpiry v s
  | .eventFrameReceive r => Sys2Proof.Machine.execEventFrameReceive r s
  | .eventRecordFlush n => Sys2Proof.Machine.execEventRecordFlush n s
  | .ownYield c => Sys2Proof.Machine.execOwnYield c s
  | .yieldCommandsDrained => Sys2Proof.Machine.execYieldCommandsDrained s
  | .yieldReceive tofid gen rank => Sys2Proof.Machine.execYieldReceive tofid gen rank s
  | .yieldTimeout => Sys2Proof.Machine.execYieldTimeout s
  | .releaseReceive => Sys2Proof.Machine.execReleaseReceive s
  | .heartbeatSend => Sys2Proof.Machine.execHeartbeatSend s
  | .heartbeatReceive f rank gen => Sys2Proof.Machine.execHeartbeatReceive f rank gen s
  | .ownerTimerExpiry => Sys2Proof.Machine.execOwnerTimerExpiry s
  | .claimSend => Sys2Proof.Machine.execClaimSend s
  | .claimReceive fid rank gen => Sys2Proof.Machine.execClaimReceive fid rank gen s
  | .electionClose => Sys2Proof.Machine.execElectionClose s
  | .hostAliveLost cond => Sys2Proof.Machine.execHostAliveLost cond s
  | .hostAliveGained cond => Sys2Proof.Machine.execHostAliveGained cond s
  | .aliveKick => Sys2Proof.Machine.execAliveKick s
  | .keepaliveExpiry => Sys2Proof.Machine.execKeepaliveExpiry s
  | .smbusStatusRead temp => Sys2Proof.Machine.execSmbusStatusRead temp s
  | .smbusAddrWrite a pec => Sys2Proof.Machine.execSmbusAddrWrite a pec s
  | .smbusDataRead => Sys2Proof.Machine.execSmbusDataRead s
  | .smbusPwrreq v pec => Sys2Proof.Machine.execSmbusPwrreq v pec s
  | .smbusAlertclr v pec => Sys2Proof.Machine.execSmbusAlertclr v pec s
  | .smbusAlertResponse => Sys2Proof.Machine.execSmbusAlertResponse s
  | .enterMode p dfp vdo => Sys2Proof.Machine.execEnterMode p dfp vdo s
  | .exitMode p => Sys2Proof.Machine.execExitMode p s
  | .retrain r p => Sys2Proof.Machine.execRetrain r p s
  | .darkCommand r p => Sys2Proof.Machine.execDarkCommand r p s
  | .portDetectStart p => Sys2Proof.Machine.execPortDetectStart p s
  | .receiverDetect p lanes => Sys2Proof.Machine.execReceiverDetect p lanes s
  | .trainingFrameReceive p rate phys h inverted ready pre post => Sys2Proof.Machine.execTrainingFrameReceive p rate phys h inverted ready pre post s
  | .trainTimeout p => Sys2Proof.Machine.execTrainTimeout p s
  | .fallbackIdleEnd p => Sys2Proof.Machine.execFallbackIdleEnd p s
  | .markerReceive p lane skew => Sys2Proof.Machine.execMarkerReceive p lane skew s
  | .lockTimeout p => Sys2Proof.Machine.execLockTimeout p s
  | .capabilitySend p => Sys2Proof.Machine.execCapabilitySend p s
  | .capabilityFrameReceive p bytes crc => Sys2Proof.Machine.execCapabilityFrameReceive p bytes crc s
  | .exchangeTimeout p => Sys2Proof.Machine.execExchangeTimeout p s
  | .retryDelayExpiry p => Sys2Proof.Machine.execRetryDelayExpiry p s
  | .codewordReceive p phys cw => Sys2Proof.Machine.execCodewordReceive p phys cw s
  | .dimEntry p => Sys2Proof.Machine.execDimEntry p s
  | .dimReceive p => Sys2Proof.Machine.execDimReceive p s
  | .dimExit p => Sys2Proof.Machine.execDimExit p s
  | .dimExitBurstReceive p b => Sys2Proof.Machine.execDimExitBurstReceive p b s
  | .laneFailure p lane cause => Sys2Proof.Machine.execLaneFailure p lane cause s
  | .spareRepeat p => Sys2Proof.Machine.execSpareRepeat p s
  | .lanectlSpareReceive p lane => Sys2Proof.Machine.execLanectlSpareReceive p lane s
  | .lanectlStripeReceive p mask => Sys2Proof.Machine.execLanectlStripeReceive p mask s
  | .lanectlJoinReceive p lane => Sys2Proof.Machine.execLanectlJoinReceive p lane s
  | .sparedLaneJudge p lane sig => Sys2Proof.Machine.execSparedLaneJudge p lane sig s
  | .foreignFrameIngress ep typ kind bytes last yellow => Sys2Proof.Machine.execForeignFrameIngress ep typ kind bytes last yellow s
  | .meterRetest => Sys2Proof.Machine.execMeterRetest s
  | .schedulerOffer p => Sys2Proof.Machine.execSchedulerOffer p s
  | .frameReceive p hdr body tag errored => Sys2Proof.Machine.execFrameReceive p hdr body tag errored s
  | .nakResendTimer p => Sys2Proof.Machine.execNakResendTimer p s
  | .ackReceive p w chk => Sys2Proof.Machine.execAckReceive p w chk s
  | .nakReceive p w chk => Sys2Proof.Machine.execNakReceive p w chk s
  | .replayTimeout p => Sys2Proof.Machine.execReplayTimeout p s
  | .creditReceive p w chk => Sys2Proof.Machine.execCreditReceive p w chk s
  | .creditRefresh p => Sys2Proof.Machine.execCreditRefresh p s
  | .e2eAckSend => Sys2Proof.Machine.execE2eAckSend s
  | .e2eAckReceive bytes => Sys2Proof.Machine.execE2eAckReceive bytes s
  | .e2eTimeout tid => Sys2Proof.Machine.execE2eTimeout tid s
  | .keyxReceive p m => Sys2Proof.Machine.execKeyxReceive p m s
  | .keyrdyReceive p w chk => Sys2Proof.Machine.execKeyrdyReceive p w chk s
  | .keyExchangeTimeout p => Sys2Proof.Machine.execKeyExchangeTimeout p s
  | .keyExchangeRetry p => Sys2Proof.Machine.execKeyExchangeRetry p s
  | .rekeyStart p => Sys2Proof.Machine.execRekeyStart p s
  | .tunOpen c ans => Sys2Proof.Machine.execTunOpen c ans s
  | .tunClose c ans => Sys2Proof.Machine.execTunClose c ans s
  | .tunRetarget c => Sys2Proof.Machine.execTunRetarget c s
  | .tunGrant c => Sys2Proof.Machine.execTunGrant c s
  | .tunRevoke c => Sys2Proof.Machine.execTunRevoke c s
  | .tunStats c => Sys2Proof.Machine.execTunStats c s
  | .tunnelInstall fid p qa qb => Sys2Proof.Machine.execTunnelInstall fid p qa qb s
  | .tunnelActivate fid tid fresh => Sys2Proof.Machine.execTunnelActivate fid tid fresh s
  | .tunnelRemove fid tid => Sys2Proof.Machine.execTunnelRemove fid tid s
  | .tunnelQuiesce fid tid => Sys2Proof.Machine.execTunnelQuiesce fid tid s
  | .tunnelCloseMessage fid tid => Sys2Proof.Machine.execTunnelCloseMessage fid tid s
  | .grantSet fid tid to_ => Sys2Proof.Machine.execGrantSet fid tid to_ s
  | .drainComplete tid ans => Sys2Proof.Machine.execDrainComplete tid ans s
  | .drainTimeout tid ans => Sys2Proof.Machine.execDrainTimeout tid ans s
  | .openingTimeout idx => Sys2Proof.Machine.execOpeningTimeout idx s
  | .mapUpdateReceive fid m => Sys2Proof.Machine.execMapUpdateReceive fid m s
  | .mapUpdateRetry fid seq => Sys2Proof.Machine.execMapUpdateRetry fid seq s
  | .reinstallContexts fid ans => Sys2Proof.Machine.execReinstallContexts fid ans s
  | .schCommit c => Sys2Proof.Machine.execSchCommit c s
  | .calendarSlot p => Sys2Proof.Machine.execCalendarSlot p s
  | .shaperTick => Sys2Proof.Machine.execShaperTick s
  | .meterTick => Sys2Proof.Machine.execMeterTick s
  | .epochBoundary p => Sys2Proof.Machine.execEpochBoundary p s
  | .commitSwap p => Sys2Proof.Machine.execCommitSwap p s
  | .latencySample p => Sys2Proof.Machine.execLatencySample p s
  | .highWaterClear r p v => Sys2Proof.Machine.execHighWaterClear r p v s
  | .pcieTlpReceive link bytes => Sys2Proof.Machine.execPcieTlpReceive link bytes s
  | .completionTimeout lead req tag => Sys2Proof.Machine.execCompletionTimeout lead req tag s
  | .readaheadExpiry slot addr => Sys2Proof.Machine.execReadaheadExpiry slot addr s
  | .sidebandSummarySend tid pins => Sys2Proof.Machine.execSidebandSummarySend tid pins s
  | .sidebandSummaryReceive tid bytes => Sys2Proof.Machine.execSidebandSummaryReceive tid bytes s
  | .postedErrorNoticeReceive tid bytes => Sys2Proof.Machine.execPostedErrorNoticeReceive tid bytes s
  | .virtualPortConfigWrite k f v w => Sys2Proof.Machine.execVirtualPortConfigWrite k f v w s
  | .pcxHotplug c ans => Sys2Proof.Machine.execPcxHotplug c ans s
  | .hotplugTmoExpiry => Sys2Proof.Machine.execHotplugTmoExpiry s
  | .hotplugLinkWaitExpiry => Sys2Proof.Machine.execHotplugLinkWaitExpiry s
  | .dockPortLinkChange k up speed width => Sys2Proof.Machine.execDockPortLinkChange k up speed width s
  | .dpInputTrain k up rate lanes => Sys2Proof.Machine.execDpInputTrain k up rate lanes s
  | .dpInputModeChange k m => Sys2Proof.Machine.execDpInputModeChange k m s
  | .irqHpdPulse r k => Sys2Proof.Machine.execIrqHpdPulse r k s
  | .reflectionClear r k => Sys2Proof.Machine.execReflectionClear r k s
  | .captureFrameStart k enc period => Sys2Proof.Machine.execCaptureFrameStart k enc period s
  | .captureBandEnd k j aud d => Sys2Proof.Machine.execCaptureBandEnd k j aud d s
  | .tileAdmission k => Sys2Proof.Machine.execTileAdmission k s
  | .pushRingEnable k v => Sys2Proof.Machine.execPushRingEnable k v s
  | .pushDoorbell k v => Sys2Proof.Machine.execPushDoorbell k v s
  | .pushDescriptor k d => Sys2Proof.Machine.execPushDescriptor k d s
  | .tileFragmentReceive tid bytes last => Sys2Proof.Machine.execTileFragmentReceive tid bytes last s
  | .modeRecord tid bytes => Sys2Proof.Machine.execModeRecord tid bytes s
  | .frameEndRecord tid bytes => Sys2Proof.Machine.execFrameEndRecord tid bytes s
  | .metadataRecord tid bytes => Sys2Proof.Machine.execMetadataRecord tid bytes s
  | .ppsRecord tid bytes => Sys2Proof.Machine.execPpsRecord tid bytes s
  | .refreshRecord tid bytes => Sys2Proof.Machine.execRefreshRecord tid bytes s
  | .sinkRecord tid bytes => Sys2Proof.Machine.execSinkRecord tid bytes s
  | .hdcpRxidRecord tid bytes => Sys2Proof.Machine.execHdcpRxidRecord tid bytes s
  | .frameBoundary k dry timing => Sys2Proof.Machine.execFrameBoundary k dry timing s
  | .dsoFlip c => Sys2Proof.Machine.execDsoFlip c s
  | .outputEnable r k timing => Sys2Proof.Machine.execOutputEnable r k timing s
  | .outputRefreshRequest r k => Sys2Proof.Machine.execOutputRefreshRequest r k s
  | .monitorHotplug k m => Sys2Proof.Machine.execMonitorHotplug k m s
  | .linkSyncSend x => Sys2Proof.Machine.execLinkSyncSend x s
  | .syncMReceive p x => Sys2Proof.Machine.execSyncMReceive p x s
  | .syncSReceive p x => Sys2Proof.Machine.execSyncSReceive p x s
  | .followReceive p seq us t1 t4 => Sys2Proof.Machine.execFollowReceive p seq us t1 t4 s
  | .announceSend => Sys2Proof.Machine.execAnnounceSend s
  | .announceReceive p a => Sys2Proof.Machine.execAnnounceReceive p a s
  | .announceTimeout p => Sys2Proof.Machine.execAnnounceTimeout p s
  | .holdoverTimeout => Sys2Proof.Machine.execHoldoverTimeout s
  | .externalOffsetWrite r v => Sys2Proof.Machine.execExternalOffsetWrite r v s
  | .ppsInEdge => Sys2Proof.Machine.execPpsInEdge s
  | .sourceLost pps => Sys2Proof.Machine.execSourceLost pps s
  | .timeSet r v => Sys2Proof.Machine.execTimeSet r v s
  | .clockRead r => Sys2Proof.Machine.execClockRead r s
  | .ppsOutPulse => Sys2Proof.Machine.execPpsOutPulse s
  | .timArm c => Sys2Proof.Machine.execTimArm c s
  | .triggerEdge k => Sys2Proof.Machine.execTriggerEdge k s
  | .probeStart r v => Sys2Proof.Machine.execProbeStart r v s
  | .probeReceive tid bytes => Sys2Proof.Machine.execProbeReceive tid bytes s
  | .probeReplyReceive tid bytes => Sys2Proof.Machine.execProbeReplyReceive tid bytes s
  | .ethernetFrameReceive n bytes => Sys2Proof.Machine.execEthernetFrameReceive n bytes s
  | .ethernetFrameTransmit n => Sys2Proof.Machine.execEthernetFrameTransmit n s
  | .ethernetLinkChange n up speed => Sys2Proof.Machine.execEthernetLinkChange n up speed s
  | .glintPop r nic n => Sys2Proof.Machine.execGlintPop r nic n s
  | .mdioFrameStart r v => Sys2Proof.Machine.execMdioFrameStart r v s
  | .mdioFrameDone data => Sys2Proof.Machine.execMdioFrameDone data s
  | .nicQueueEnable f tx q v => Sys2Proof.Machine.execNicQueueEnable f tx q v s
  | .nicDoorbell f tx q v bufs => Sys2Proof.Machine.execNicDoorbell f tx q v bufs s
  | .nicTxDescriptor f q d => Sys2Proof.Machine.execNicTxDescriptor f q d s
  | .cartSubmit c list => Sys2Proof.Machine.execCartSubmit c list s
  | .cartQuery c => Sys2Proof.Machine.execCartQuery c s
  | .cartAbort c => Sys2Proof.Machine.execCartAbort c s
  | .cartPrepareSend id => Sys2Proof.Machine.execCartPrepareSend id s
  | .cartPrepareReceive coord id t parts acts => Sys2Proof.Machine.execCartPrepareReceive coord id t parts acts s
  | .cartDrainReady coord id => Sys2Proof.Machine.execCartDrainReady coord id s
  | .cartDrainDeadline coord id => Sys2Proof.Machine.execCartDrainDeadline coord id s
  | .cartVoteReceive src id ready cause actidx sub => Sys2Proof.Machine.execCartVoteReceive src id ready cause actidx sub s
  | .cartVoteDeadline id => Sys2Proof.Machine.execCartVoteDeadline id s
  | .cartGoReceive src coord id t => Sys2Proof.Machine.execCartGoReceive src coord id t s
  | .cartAbortReceive src coord id t => Sys2Proof.Machine.execCartAbortReceive src coord id t s
  | .cartCommitTime coord id => Sys2Proof.Machine.execCartCommitTime coord id s
  | .cartDecisionResend id => Sys2Proof.Machine.execCartDecisionResend id s
  | .cartQuerySend coord id => Sys2Proof.Machine.execCartQuerySend coord id s
  | .cartQueryReceive src coord id t => Sys2Proof.Machine.execCartQueryReceive src coord id t s
  | .cartAnswerReceive src coord id a => Sys2Proof.Machine.execCartAnswerReceive src coord id a s
  | .cartSeqsReceive coord id tid endB rx tx => Sys2Proof.Machine.execCartSeqsReceive coord id tid endB rx tx s
  | .cartSeqsResend coord id => Sys2Proof.Machine.execCartSeqsResend coord id s
  | .cartSeqsDeadline coord id => Sys2Proof.Machine.execCartSeqsDeadline coord id s
  | .cartDoneReceive src id t out late freed => Sys2Proof.Machine.execCartDoneReceive src id t out late freed s
  | .cartDoneackReceive coord id => Sys2Proof.Machine.execCartDoneackReceive coord id s
  | .cartCompletionTimeout id => Sys2Proof.Machine.execCartCompletionTimeout id s
  | .cartHoldAlarm coord id => Sys2Proof.Machine.execCartHoldAlarm coord id s
  | .cartSlotRelease coord id => Sys2Proof.Machine.execCartSlotRelease coord id s
  | .neighbourSend p => Sys2Proof.Machine.execNeighbourSend p s
  | .neighbourReceive p n => Sys2Proof.Machine.execNeighbourReceive p n s
  | .helloTimeout p => Sys2Proof.Machine.execHelloTimeout p s
  | .recordRefresh => Sys2Proof.Machine.execRecordRefresh s
  | .recordReceive p r ans => Sys2Proof.Machine.execRecordReceive p r ans s
  | .recordExpiry uid => Sys2Proof.Machine.execRecordExpiry uid s
  | .assignSend uid => Sys2Proof.Machine.execAssignSend uid s
  | .assignReceive p a => Sys2Proof.Machine.execAssignReceive p a s
  | .autoFidTimeout => Sys2Proof.Machine.execAutoFidTimeout s
  | .quarantineTimeout => Sys2Proof.Machine.execQuarantineTimeout s
  | .routeCompute => Sys2Proof.Machine.execRouteCompute s
  | .routeInstall => Sys2Proof.Machine.execRouteInstall s
  | .installWaitDrop => Sys2Proof.Machine.execInstallWaitDrop s
  | .fabAssign c => Sys2Proof.Machine.execFabAssign c s
  | .fabRoute c => Sys2Proof.Machine.execFabRoute c s
  | .fabTopo c => Sys2Proof.Machine.execFabTopo c s
  | .upstreamSwitch part => Sys2Proof.Machine.execUpstreamSwitch part s
  | .upstreamSwitchComplete => Sys2Proof.Machine.execUpstreamSwitchComplete s
  | .usbBusReset disc chirp part => Sys2Proof.Machine.execUsbBusReset disc chirp part s
  | .usbSuspend => Sys2Proof.Machine.execUsbSuspend s
  | .usbResume met => Sys2Proof.Machine.execUsbResume met s
  | .usbRemoteWake => Sys2Proof.Machine.execUsbRemoteWake s
  | .usbOverCurrent k low => Sys2Proof.Machine.execUsbOverCurrent k low s
  | .hubClassRequest r => Sys2Proof.Machine.execHubClassRequest r s
  | .ttSplitTransaction k x start => Sys2Proof.Machine.execTtSplitTransaction k x start s
  | .yalcelGetInfo => Sys2Proof.Machine.execYalcelGetInfo s
  | .yalcelRegRead a len done => Sys2Proof.Machine.execYalcelRegRead a len done s
  | .yalcelRegWrite a bytes done => Sys2Proof.Machine.execYalcelRegWrite a bytes done s
  | .yalcelPwrReq v done => Sys2Proof.Machine.execYalcelPwrReq v done s
  | .yalcelFwBegin len rsvd done => Sys2Proof.Machine.execYalcelFwBegin len rsvd done s
  | .yalcelImageData q => Sys2Proof.Machine.execYalcelImageData q s
  | .flashSectorDone ok => Sys2Proof.Machine.execFlashSectorDone ok s
  | .yalcelFwCommit done => Sys2Proof.Machine.execYalcelFwCommit done s
  | .fwCheckDone img => Sys2Proof.Machine.execFwCheckDone img s
  | .yalcelFwStatus => Sys2Proof.Machine.execYalcelFwStatus s
  | .yalcelReset v done => Sys2Proof.Machine.execYalcelReset v done s
  | .yalcelDlBegin len done => Sys2Proof.Machine.execYalcelDlBegin len done s
  | .yalcelDlGo done => Sys2Proof.Machine.execYalcelDlGo done s
  | .yalcelUnknownRequest b => Sys2Proof.Machine.execYalcelUnknownRequest b s
  | .pdAttach n src orient ra z sys => Sys2Proof.Machine.execPdAttach n src orient ra z sys s
  | .pdDetach n => Sys2Proof.Machine.execPdDetach n s
  | .drpToggle n => Sys2Proof.Machine.execDrpToggle n s
  | .pdTableWrite r n src k v => Sys2Proof.Machine.execPdTableWrite r n src k v s
  | .pdSourceCapsReceive n k caps => Sys2Proof.Machine.execPdSourceCapsReceive n k caps s
  | .pdRequestReceive n pos q => Sys2Proof.Machine.execPdRequestReceive n pos q s
  | .pdPsRdyReceive n => Sys2Proof.Machine.execPdPsRdyReceive n s
  | .pdSwapRequestReceive n kind => Sys2Proof.Machine.execPdSwapRequestReceive n kind s
  | .pdEprModeReceive n action => Sys2Proof.Machine.execPdEprModeReceive n action s
  | .pdVdmReceive n m => Sys2Proof.Machine.execPdVdmReceive n m s
  | .vbusSettled n vbus sys => Sys2Proof.Machine.execVbusSettled n vbus sys s
  | .vbusTransitionTimeout n => Sys2Proof.Machine.execVbusTransitionTimeout n s
  | .vbusProtectionTrip n x => Sys2Proof.Machine.execVbusProtectionTrip n x s
  | .ppsRenew n => Sys2Proof.Machine.execPpsRenew n s
  | .hardResetCommand r n => Sys2Proof.Machine.execHardResetCommand r n s
  | .pdHardReset n received => Sys2Proof.Machine.execPdHardReset n received s
  | .hardResetVbusOff n => Sys2Proof.Machine.execHardResetVbusOff n s
  | .hardResetVbusRestore n => Sys2Proof.Machine.execHardResetVbusRestore n s
  | .errorRecoveryEnd n => Sys2Proof.Machine.execErrorRecoveryEnd n s
  | .pdRelease r n => Sys2Proof.Machine.execPdRelease r n s
  | .moistureCheck n z => Sys2Proof.Machine.execMoistureCheck n z s
  | .pwrReq c => Sys2Proof.Machine.execPwrReq c s
  | .hewerPhaseDone => Sys2Proof.Machine.execHewerPhaseDone s
  | .userHewerWfiTimeout n => Sys2Proof.Machine.execUserHewerWfiTimeout n s
  | .handshakeAnswer busy => Sys2Proof.Machine.execHandshakeAnswer busy s
  | .handshakeDeferExpiry => Sys2Proof.Machine.execHandshakeDeferExpiry s
  | .preparePhaseDone => Sys2Proof.Machine.execPreparePhaseDone s
  | .powerStateEntered => Sys2Proof.Machine.execPowerStateEntered s
  | .wakeSource x => Sys2Proof.Machine.execWakeSource x s
  | .powerExitComplete => Sys2Proof.Machine.execPowerExitComplete s
  | .domainWake dom => Sys2Proof.Machine.execDomainWake dom s
  | .domainIdleStop dom => Sys2Proof.Machine.execDomainIdleStop dom s
  | .corePrestart => Sys2Proof.Machine.execCorePrestart s
  | .ftime n rd sel => Sys2Proof.Machine.execFtime n rd sel s
  | .crc32 n rd acc b => Sys2Proof.Machine.execCrc32 n rd acc b s
  | .ckpt n rd bytes => Sys2Proof.Machine.execCkpt n rd bytes s
  | .jrnl n code addr e => Sys2Proof.Machine.execJrnl n code addr e s
  | .evr n ev data => Sys2Proof.Machine.execEvr n ev data s
  | .waitev n rd mask pend => Sys2Proof.Machine.execWaitev n rd mask pend s
  | .hwmodeWrite n v => Sys2Proof.Machine.execHwmodeWrite n v s
  | .hwkick n => Sys2Proof.Machine.execHwkick n s
  | .mbRecv n buf cap => Sys2Proof.Machine.execMbRecv n buf cap s
  | .mbSend n buf bytes => Sys2Proof.Machine.execMbSend n buf bytes s
  | .evSub n ev on => Sys2Proof.Machine.execEvSub n ev on s
  | .evNext n buf => Sys2Proof.Machine.execEvNext n buf s
  | .wait n mask tmo => Sys2Proof.Machine.execWait n mask tmo s
  | .hewerRegRead n a => Sys2Proof.Machine.execHewerRegRead n a s
  | .ptpRecv n buf cap => Sys2Proof.Machine.execPtpRecv n buf cap s
  | .ptpSend n buf mac tsid tsreq bytes => Sys2Proof.Machine.execPtpSend n buf mac tsid tsreq bytes s
  | .exit n => Sys2Proof.Machine.execExit n s
  | .userHewerRun r n v => Sys2Proof.Machine.execUserHewerRun r n v s
  | .mailboxSend r n v => Sys2Proof.Machine.execMailboxSend r n v s
  | .userHewerException n cause => Sys2Proof.Machine.execUserHewerException n cause s
  | .hewerWatchdogExpiry n => Sys2Proof.Machine.execHewerWatchdogExpiry n s
  | .hewerFailure n cause => Sys2Proof.Machine.execHewerFailure n cause s
  | .takeoverImageLoaded d reloaded => Sys2Proof.Machine.execTakeoverImageLoaded d reloaded s
  | .takeoverCatchupDone d => Sys2Proof.Machine.execTakeoverCatchupDone d s
  | .galleryEccError addr region p place => Sys2Proof.Machine.execGalleryEccError addr region p place s
  | .dramTemperatureChange temp => Sys2Proof.Machine.execDramTemperatureChange temp s
  | .lifecycleRequest r target => Sys2Proof.Machine.execLifecycleRequest r target s
  | .lifecycleBurnDone cells => Sys2Proof.Machine.execLifecycleBurnDone cells s
  | .nonceGenerate r => Sys2Proof.Machine.execNonceGenerate r s
  | .keyDerive r args dram => Sys2Proof.Machine.execKeyDerive r args dram s
  | .keyKeygen r args dram => Sys2Proof.Machine.execKeyKeygen r args dram s
  | .keyAgree r args dram => Sys2Proof.Machine.execKeyAgree r args dram s
  | .keySign r args dram => Sys2Proof.Machine.execKeySign r args dram s
  | .keyPubkey r args dram => Sys2Proof.Machine.execKeyPubkey r args dram s
  | .keyVerify r args dram => Sys2Proof.Machine.execKeyVerify r args dram s
  | .keyErase r args dram => Sys2Proof.Machine.execKeyErase r args dram s
  | .keyAttest r args dram => Sys2Proof.Machine.execKeyAttest r args dram s
  | .keyUnwrap r args dram => Sys2Proof.Machine.execKeyUnwrap r args dram s
  | .keyWrap r args dram => Sys2Proof.Machine.execKeyWrap r args dram s
  | .keyGenroot r args dram => Sys2Proof.Machine.execKeyGenroot r args dram s
  | .keyProgram r args dram => Sys2Proof.Machine.execKeyProgram r args dram s
  | .keyAdvance r args dram => Sys2Proof.Machine.execKeyAdvance r args dram s
  | .keyDbgunlock r args dram => Sys2Proof.Machine.execKeyDbgunlock r args dram s
  | .keyOperationDone otpOk => Sys2Proof.Machine.execKeyOperationDone otpOk s
  | .faultRecoveryComplete seq => Sys2Proof.Machine.execFaultRecoveryComplete seq s
  | .warmrstNRelease => Sys2Proof.Machine.execWarmrstNRelease s
  | .pcieUpstreamLinkChange kind speed width => Sys2Proof.Machine.execPcieUpstreamLinkChange kind speed width s
  | .lanternMirrorUpdate => Sys2Proof.Machine.execLanternMirrorUpdate s
  | .downstreamPortChange k kind speed => Sys2Proof.Machine.execDownstreamPortChange k kind speed s
  | .usbStandardRequest dev r done => Sys2Proof.Machine.execUsbStandardRequest dev r done s
  | .pdSwapResponseReceive n ans => Sys2Proof.Machine.execPdSwapResponseReceive n ans s
  | .pdSwapRetry n => Sys2Proof.Machine.execPdSwapRetry n s
  | .rekeyOverdue p => Sys2Proof.Machine.execRekeyOverdue p s

end Sys2Proof.Machine
end

