-- ==== Sys2Proof/Safety.lean ====
section
/-! DEFINITION. The terms in which the claims are put. -/

namespace Sys2Proof

open Sys2Proof.Machine

/-- The command completes: the machine answers a next state. -/
def Completes (c : Instr) (s : State) : Prop := ∃ t, exec c s = .next t

/-- The command completes in a next state of which `q` holds. -/
def Does (c : Instr) (s : State) (q : State → Prop) : Prop := ∃ t, exec c s = .next t ∧ q t

/-- A step that neither faults nor refuses. -/
def StepsOn (s : State) : Prop := ∃ t, step s = .next t

/-- The register file is in its canonical form: addresses strictly rising, no entry equal to its reset value. -/
abbrev RegsCanonical (s : State) : Prop := RegFile.wf s.regs = true

/-- No register outside a set of addresses differs. -/
def RegsAgreeOff (p : Nat → Prop) (s t : State) : Prop := ∀ a, ¬ p a → t.rd a = s.rd a

/-- The registers that raising an event may change: EVT_STAT, EVT_DROP, the ring indices, the overflow mark of a user Hewer and function 0's
pending bits. -/
def EventReg (a : Nat) : Prop :=
  (∃ k, k < 16 ∧ a = A.EVT_STAT k) ∨ a = F.EVT_DROP.addr ∨ (∃ n, n < 256 ∧ a = A.GLB_RIDX n) ∨
    (∃ n, 20 ≤ n ∧ n < 24 ∧ a = (F.HWR_EVOVF n).addr) ∨ (∃ w, w < 2 ∧ a = A.MSIX_PBA 0 w)

/-- What the command has sent out, from `s` to `t`, with nothing sent before taken back: `o` is among it. -/
abbrev Sends (s t : State) (o : Out) : Prop := s.outs <+: t.outs ∧ o ∈ t.outs.drop s.outs.length

/-- What stands on a command ring is taken next: the ring can give a command, its reserved bits are 0 (R89, R90), and no duty has
stopped (R449). -/
abbrev Takes (s : State) (c : HostCmd) (used : List (Nat × Nat × Nat)) : Prop :=
  c.ring < 256 ∧ s.canTake c = true ∧ cmdClean c used = true ∧ s.manned = true

/-- The completion of the command at the head of `c.ring`: opcode, code, result. -/
abbrev cplOf (s : State) (c : HostCmd) (op code : Nat) (result : BitVec 448) : Cpl :=
  { pair := s.get (F.GLB_RCFG_PAIR c.ring), opcode := op, code := code, tag := c.tag, cmdRing := c.ring, cmdIdx := s.get (F.GLB_RIDX_DEVIDX c.ring), result := result }

/-- A completion is written at the next place of the paired completion ring (R89). -/
abbrev Answers (s t : State) (c : HostCmd) (op code : Nat) (result : BitVec 448) : Prop :=
  Sends s t (.completion (s.get (F.GLB_RCFG_PAIR c.ring)) (s.get (F.GLB_RIDX_DEVIDX (s.get (F.GLB_RCFG_PAIR c.ring))))
    (s.ringPhase (s.get (F.GLB_RCFG_PAIR c.ring))) (cplOf s c op code result))

/-- Nothing of another command is under way that this one's end could set going: no cart, no hot-plug move, no tunnel
command that waits, no frame inside the Drift. -/
abbrev Quiet (s : State) : Prop :=
  s.crt.loop = [] ∧ s.crt.cos = [] ∧ s.tun.next = [] ∧ s.pcx.hp = [] ∧ s.pcx.asks = [] ∧ s.tun.loop = []

/-- An end of this device that is open, holds nothing back and has a way out by port `p` with room for a frame of `len` bytes:
what it is given is admitted (R17, R185). -/
abbrev OpenWay (s : State) (c : TunCtx) (len p : Nat) : Prop :=
  s.endAt c.ep c.par.typ = some c ∧ s.ctx c.idx = some c ∧ c.state = 2 ∧ c.paused = 0 ∧ c.held = [] ∧ c.par.men = false ∧
    c.local_ = false ∧ len ≤ lenMax c.par.cls ∧ s.egressOf c = some p ∧ p < s.schs.length ∧ s.poolFull c p len = false ∧
    s.spillFull p (20 + len) = false

/-- The end has taken one frame: its next ESEQ and its copies (R17). -/
abbrev TookIn (t : State) (c : TunCtx) : Prop :=
  (t.ctx c.idx).map (fun d => (d.tx, d.copies.length)) = some ((c.tx + 1) % 65536, c.copies.length + 1)

/-- The parts of the machine's state, one for each field of `State`; `outs` is what has gone out, or waits to go. -/
inductive Part where
  | regs | clock | uptime | ctl | own | boot | smb | ports | pcs | links
  | schs | meters | metStaged | metHold | commits | nextGroup | tun | fab | tim
  | macs | nics | srcs | dispOuts | store | pcx | flt | keys | usb
  | pds | pwr | hew | crt | arb | drift | draws | outs | pending
deriving DecidableEq, Repr

/-- A part is the same in two states. -/
def Part.kept (s t : State) : Part → Prop
  | .regs => t.regs = s.regs
  | .clock => t.clock = s.clock
  | .uptime => t.uptime = s.uptime
  | .ctl => t.ctl = s.ctl
  | .own => t.own = s.own
  | .boot => t.boot = s.boot
  | .smb => t.smb = s.smb
  | .ports => t.ports = s.ports
  | .pcs => t.pcs = s.pcs
  | .links => t.links = s.links
  | .schs => t.schs = s.schs
  | .meters => t.meters = s.meters
  | .metStaged => t.metStaged = s.metStaged
  | .metHold => t.metHold = s.metHold
  | .commits => t.commits = s.commits
  | .nextGroup => t.nextGroup = s.nextGroup
  | .tun => t.tun = s.tun
  | .fab => t.fab = s.fab
  | .tim => t.tim = s.tim
  | .macs => t.macs = s.macs
  | .nics => t.nics = s.nics
  | .srcs => t.srcs = s.srcs
  | .dispOuts => t.dispOuts = s.dispOuts
  | .store => t.store = s.store
  | .pcx => t.pcx = s.pcx
  | .flt => t.flt = s.flt
  | .keys => t.keys = s.keys
  | .usb => t.usb = s.usb
  | .pds => t.pds = s.pds
  | .pwr => t.pwr = s.pwr
  | .hew => t.hew = s.hew
  | .crt => t.crt = s.crt
  | .arb => t.arb = s.arb
  | .drift => t.drift = s.drift
  | .draws => t.draws = s.draws
  | .outs => t.outs = s.outs ∧ t.line = s.line ∧ t.mail = s.mail
  | .pending => t.pending = s.pending

/-- From `s` to `t` nothing but the listed parts changes. -/
def Leaves (changed : List Part) (s t : State) : Prop := ∀ p : Part, p ∉ changed → p.kept s t

/-- A command is not executed: its completion carries `code`, `tally` counts it, and nothing changes but the rings, what events
do, and that tally. -/
abbrev TurnedAway (s t : State) (c : HostCmd) (op code : Nat) (tally : Fld) : Prop :=
  Answers s t c op code 0 ∧ t.get tally = min (s.get tally + 1) (2 ^ 32 - 1) ∧
    RegsAgreeOff (fun a => a = tally.addr ∨ EventReg a) s t ∧ Leaves [.regs, .ctl, .hew, .outs] s t

end Sys2Proof
end

