-- ==== Sys2Proof/Certificates/Slice0/Obligations.lean ====
section
/-! DEFINITION. The statements for the provers, one proposition each. -/

section

open Sys2Proof Sys2Proof.Machine

/-- Rings, doorbells, event records and data-out descriptors. RING_ENABLE sets the configuration and both indices (R86);
RING_DISABLE discards what has not started; RING_VECTOR_CHANGE changes that register alone; a valid doorbell sets the host index
(R87), where no frame waits for a buffer. The writable bits are those of the field table of GLB_RCFG. A doorbell that names a
disabled ring leaves the host index and the configuration and is counted in GLB_DBIGN; one while PCIe memory is not open has no
effect. A vector whose holdoff ends sends its one pending message as its table entry says, or marks it pending where the entry
is masked (R98); a remote event is recorded with REMOTE set (R99); held records are written when entries free (R100). A good
descriptor of an open HOSTDATA end that its host may use is written back with status 0 and its LEN; one on a ring without an
open end is written back CLOSED (0x07). Each of these commands completes: ringEnable, ringDisable, ringVectorChange, doorbell,
holdoffExpiry, eventFrameReceive, eventRecordFlush, dataOutDescriptor; under the stated conditions on the state and the operands
alone, exec answers a next state, with the effect stated. -/
def Obligations.RingAndEventRows : Prop :=
  (∀ (s : State) (n : Nat) (v : Word), n < 256 → s.busOpen .host = true → s.get (F.GLB_RCFG_TYPE n) = 0 → 1 ≤ bitsOf v 0 3 →
   bitsOf v 0 3 ≤ 5 → 4 ≤ bitsOf v 8 5 → bitsOf v 8 5 ≤ 16 → s.ctl.heldCpl = [] → Does (.ringEnable n v) s fun t =>
     t.rd (A.GLB_RCFG n) = v &&& 0xFF7F1F07#32 ∧ t.rd (A.GLB_RIDX n) = 0 ∧ (t.ring n).total = 0 ∧ (t.ring n).held = [] ∧
     t.outs = s.outs ∧ RegsAgreeOff (fun a => a = A.GLB_RCFG n ∨ a = A.GLB_RIDX n) s t) ∧
  (∀ (s : State) (n : Nat) (v : Word), n < 256 → s.busOpen .host = true → 1 ≤ s.get (F.GLB_RCFG_TYPE n) → bitsOf v 0 3 = 0 →
   Does (.ringDisable n v) s fun t =>
     t.rd (A.GLB_RCFG n) = v &&& 0xFF7F1F07#32 ∧ (t.ring n).held = [] ∧ (t.ring n).posted = [] ∧ t.outs = s.outs ∧
     RegsAgreeOff (fun a => a = A.GLB_RCFG n ∨ a = A.EVT_DROP) s t) ∧
  (∀ (s : State) (n : Nat) (v : Word), n < 256 → s.busOpen .host = true → 1 ≤ s.get (F.GLB_RCFG_TYPE n) →
   s.rd (A.GLB_RCFG n) &&& 0xFF001F07#32 = v &&& 0xFF001F07#32 → s.rd (A.GLB_RCFG n) ≠ v &&& 0xFF7F1F07#32 →
   Does (.ringVectorChange n v) s fun t =>
     t = s.wr (A.GLB_RCFG n) (v &&& 0xFF7F1F07#32)) ∧
  (∀ (s : State) (n : Nat) (v : Word) (bufs : List PostedBuf), n < 256 → s.fnOpen = true → s.doorbellOk n v = true →
   (∀ c ∈ s.tun.ctxs, c.waiting = []) → Does (.doorbell n v bufs) s fun t =>
     t.get (F.GLB_RIDX_HOSTIDX n) = bitsOf v 0 16) ∧
  (∀ (s : State) (n : Nat) (v : Word) (bufs : List PostedBuf), n < 256 → s.fnOpen = true → s.get (F.GLB_RCFG_TYPE n) = 0 →
   Does (.doorbell n v bufs) s fun t =>
     t.get F.GLB_DBIGN = min (s.get F.GLB_DBIGN + 1) (2 ^ 32 - 1) ∧
     t.get (F.GLB_RIDX_HOSTIDX n) = s.get (F.GLB_RIDX_HOSTIDX n) ∧ t.rd (A.GLB_RCFG n) = s.rd (A.GLB_RCFG n)) ∧
  (∀ (s : State) (n : Nat) (v : Word) (bufs : List PostedBuf), s.fnOpen = false →
     exec (.doorbell n v bufs) s = .next s) ∧
  (∀ (s : State) (v : Nat), s.up = true → (s.ctl.vecs.find? (fun e => e.1 == v) = some (v, true)) →
   s.bit (F.MSIX_CTRL_MASK 0 v) = false → Does (.holdoffExpiry v) s fun t =>
     t.outs = s.outs ++ [.msix 0 v (s.get (F.MSIX_ADDRLO_ADDR 0 v) * 4 + s.get (F.MSIX_ADDRHI_ADDR 0 v) * 2 ^ 32) (s.rd
       (A.MSIX_DATA 0 v))] ∧
     t.regs = s.regs) ∧
  (∀ (s : State) (v : Nat), s.up = true → (s.ctl.vecs.find? (fun e => e.1 == v) = some (v, true)) →
   s.bit (F.MSIX_CTRL_MASK 0 v) = true → Does (.holdoffExpiry v) s fun t =>
     t.outs = s.outs ∧ t.regs = (s.put (pbaBit 0 v) 1).regs) ∧
  (∀ (s : State) (r : EvRec), s.up = true → s.isHost = true → r.evnum < 512 → s.get (F.EVT_GMAP_EN (r.evnum / 8)) = 1 →
   s.get (F.GLB_RCFG_TYPE (s.get (F.EVT_GMAP_RING (r.evnum / 8)))) = 3 →
   (s.ring (s.get (F.EVT_GMAP_RING (r.evnum / 8)))).held = [] → 0 < s.ringFree (s.get (F.EVT_GMAP_RING (r.evnum / 8))) →
   Does (.eventFrameReceive r) s fun t =>
     Sends s t (.record (s.get (F.EVT_GMAP_RING (r.evnum / 8))) (s.get (F.GLB_RIDX_DEVIDX (s.get (F.EVT_GMAP_RING (r.evnum /
       8))))) (((s.ring (s.get (F.EVT_GMAP_RING (r.evnum / 8)))).seq + 1) % 65536) (s.ringPhase (s.get (F.EVT_GMAP_RING (r.evnum
       / 8)))) (s.ring (s.get (F.EVT_GMAP_RING (r.evnum / 8)))).dropped { r with remote := true })) ∧
  (∀ (s : State) (n : Nat) (r : EvRec) (rest : List EvRec), s.up = true → n < 256 → s.get (F.GLB_RCFG_TYPE n) = 3 →
   (s.ring n).held = r :: rest → 0 < s.ringFree n → Does (.eventRecordFlush n) s fun t =>
     Sends s t (.record n (s.get (F.GLB_RIDX_DEVIDX n)) (((s.ring n).seq + 1) % 65536) (s.ringPhase n) (s.ring n).dropped r)) ∧
  (∀ (s : State) (n : Nat) (d : DataOut) (c : TunCtx), s.up = true → n < 256 → s.isHost = true → s.get (F.GLB_RCFG_TYPE n) = 4 →
   s.ringWaiting n ≠ 0 → s.dataEnd n = some c → c.state ≠ 4 → s.mayUse c = true → d.opcode = 1 → d.clean = true → 1 ≤ d.nseg →
   d.nseg ≤ 4 → 1 ≤ d.len → d.len ≤ 9344 → d.len ≤ lenMax c.par.cls → (d.segs.map (·.2)).sum = d.len → d.bytes.length = d.len →
   (s.offerRing n c.ep 8 d.len false).2 ≠ 1 → Does (.dataOutDescriptor n d) s fun t =>
     Sends s t (.writeback n (s.get (F.GLB_RIDX_DEVIDX n)) (s.ringPhase n) 0x00 d.len)) ∧
  (∀ (s : State) (n : Nat) (d : DataOut), s.up = true → n < 256 → s.isHost = true → s.get (F.GLB_RCFG_TYPE n) = 4 →
   s.ringWaiting n ≠ 0 → s.dataEnd n = none → Does (.dataOutDescriptor n d) s fun t =>
     Sends s t (.writeback n (s.get (F.GLB_RIDX_DEVIDX n)) (s.ringPhase n) 0x07 0))

/-- NOP, an unknown opcode, register commands and the management agent. NOP completes OK (R91); an unlisted opcode completes
BAD_OPCODE and is counted (R90); a REG_READ whose range is not allowed completes BAD_OPERAND; REG_READ and REG_WRITE of another
device leave as a management request (R93, R94). MGMT_REQ_RECEIVE executes a REG_READ for its sender and answers it; a response
completes the command that waits for it with its code and result; 1 ms without an answer completes TIMEOUT (0x06). Each of these
commands completes: nop, unknownOpcode, regRead, regWrite, mgmtReqReceive, mgmtRspReceive, managementTimeout; under the stated
conditions on the state and the operands alone, exec answers a next state, with the effect stated. -/
def Obligations.CommandRows : Prop :=
  (∀ (s : State) (c : HostCmd), Takes s c [] → Does (.nop c) s fun t => Answers s t c 0x00 0x00 0) ∧
  (∀ (s : State) (op : Nat) (c : HostCmd), op < 256 → op ∉ opcodes → c.ring < 256 → s.canTake c = true →
   Does (.unknownOpcode op c) s fun t =>
     Answers s t c op 0x01 0 ∧ t.get F.GLB_CMDIGN = min (s.get F.GLB_CMDIGN + 1) (2 ^ 32 - 1)) ∧
  (∀ (s : State) (c : HostCmd), Takes s c regReadBits → regRange c.ops = true → c.target.toNat ≠ 0 → c.target.toNat ≠ s.fid →
   s.reachable c.target.toNat = true → Does (.regRead c) s fun t =>
     Sends s t (.msg (.fid c.target.toNat) (.mgmtReq s.ctl.nextReq 0x01 c.ops))) ∧
  (∀ (s : State) (c : HostCmd), Takes s c regReadBits → regRange c.ops = false → Does (.regRead c) s fun t =>
     Answers s t c 0x01 0x03 0) ∧
  (∀ (s : State) (c : HostCmd), Takes s c regWriteBits → regRange c.ops = true → c.target.toNat ≠ 0 → c.target.toNat ≠ s.fid →
   s.reachable c.target.toNat = true → s.own.yielding = none → Does (.regWrite c) s fun t =>
     Sends s t (.msg (.fid c.target.toNat) (.mgmtReq s.ctl.nextReq 0x02 c.ops))) ∧
  (∀ (s : State) (f id : Nat) (ops : BitVec 448), s.boot.held = false → s.get F.PWR_STAT_CUR < 3 → regRange ops = true →
   Does (.mgmtReqReceive f (.mgmtReq id 0x01 ops)) s fun t =>
     Sends s t (.msg (.fid f) (.mgmtRsp id 0x00 (s.regRead f ops).2.2))) ∧
  (∀ (s : State) (f id : Nat) (ops : BitVec 448), s.boot.held = false → s.get F.PWR_STAT_CUR < 3 → f ≠ s.ownerFid →
   Does (.mgmtReqReceive f (.mgmtReq id 0x50 ops)) s fun t =>
     Sends s t (.msg (.fid f) (.mgmtRsp id 0x04 0))) ∧
  (∀ (s : State) (f id code : Nat) (result : BitVec 448) (k : InFlight), s.up = true → s.waiting id = some k → code ≠ 0x04 →
   s.cplReady k.pair = true → Does (.mgmtRspReceive f (.mgmtRsp id code result)) s fun t =>
     Sends s t (.completion k.pair (s.get (F.GLB_RIDX_DEVIDX k.pair)) (s.ringPhase k.pair) (k.cpl code result))) ∧
  (∀ (s : State) (id : Nat) (k : InFlight), s.up = true → s.waiting id = some k → s.cplReady k.pair = true →
   Does (.managementTimeout id) s fun t =>
     Sends s t (.completion k.pair (s.get (F.GLB_RIDX_DEVIDX k.pair)) (s.ringPhase k.pair) (k.cpl 0x06 0)))

/-- Handing the fabric over, and the conditions of a live host. OWN_YIELD to a host bridge of the fabric starts a yield; when
the started control commands have ended YIELD, or RELEASE, goes out; the target becomes OWNER with the GEN named and a
heartbeat; 1 ms without that heartbeat completes YIELD_REFUSED (0x30). R103: an owner whose host ceases to be alive becomes
FOLLOWER; a bridge in NONE whose host becomes alive starts an election; KICK clears EXPIRED; the keepalive timer sets it. Each
of these commands completes: ownYield, yieldCommandsDrained, yieldReceive, yieldTimeout, releaseReceive, hostAliveLost,
hostAliveGained, aliveKick, keepaliveExpiry; under the stated conditions on the state and the operands alone, exec answers a
next state, with the effect stated. -/
def Obligations.YieldAndAliveRows : Prop :=
  (∀ (s : State) (c : HostCmd), Takes s c [(8, 0, 6)] → s.hostControls = true → opAt c 8 1 ≠ 0 → opAt c 8 1 ≠ s.fid →
   s.hostInGraph (opAt c 8 1) = true → Does (.ownYield c) s fun t =>
     t.own.yielding = some { ticket := s.ticket 0x08 c, tofid := opAt c 8 1, sent := false }) ∧
  (∀ (s : State) (y : YieldSt), s.up = true → s.own.yielding = some y → y.sent = false → y.tofid ≠ 0 →
   s.get F.GLB_OWNER_STATE = 3 → s.ctl.inflight = [] → Does (.yieldCommandsDrained) s fun t =>
     Sends s t (.msg (.fid y.tofid) (.yield y.tofid ((s.get F.GLB_OWNER_GEN + 1) % 65536))) ∧
     t.own.yielding = some { y with sent := true } ∧ t.regs = s.regs) ∧
  (∀ (s : State) (y : YieldSt), s.up = true → s.own.yielding = some y → y.sent = false → y.tofid = 0 →
   s.get F.GLB_OWNER_STATE = 3 → s.ctl.inflight = [] → Does (.yieldCommandsDrained) s fun t =>
     Sends s t (.msg .broadcast .release)) ∧
  (∀ (s : State) (gen : Nat) (rank : Rank), s.up = true → s.hostAlive = true → s.own.yielding = none → s.own.yieldFrom = none →
   gen < 65536 → Does (.yieldReceive s.fid gen rank) s fun t =>
     t.get F.GLB_OWNER_STATE = 3 ∧ t.get F.GLB_OWNER_OWNFID = s.fid ∧ t.get F.GLB_OWNER_GEN = gen ∧
     t.get F.TUN_STAT_MAPVALID = 1 ∧ Sends s t (.msg .broadcast (.heartbeat s.fid s.rank gen))) ∧
  (∀ (s : State) (y : YieldSt), s.up = true → s.own.yielding = some y → y.sent = true → y.tofid ≠ 0 →
   s.cplReady y.ticket.pair = true → Does (.yieldTimeout) s fun t =>
     t.own.yielding = none ∧
     Sends s t (.completion y.ticket.pair (s.get (F.GLB_RIDX_DEVIDX y.ticket.pair)) (s.ringPhase y.ticket.pair) (y.ticket.cpl
       0x30 0))) ∧
  (∀ (s : State), s.up = true → Quiet s → Does (.releaseReceive) s fun t =>
     t.get F.GLB_OWNER_STATE = 2 ∧ t.get F.GLB_OWNER_OWNFID = 0) ∧
  (∀ (s : State) (cond : Nat), s.up = true → cond < 4 → s.hostAlive = true → s.get F.GLB_OWNER_STATE = 3 →
   s.own.yielding = none → Quiet s → Does (.hostAliveLost cond) s fun t =>
     t.get F.GLB_OWNER_STATE = 1 ∧ t.hostAlive = false) ∧
  (∀ (s : State) (cond : Nat), s.up = false → cond ≠ 0 →
     exec (.hostAliveLost cond) s = .next s) ∧
  (∀ (s : State) (cond : Nat), s.up = true → s.hostAlive = false → (s.setAlive cond true).hostAlive = true →
   s.get F.GLB_OWNER_STATE = 0 → Does (.hostAliveGained cond) s fun t =>
     t.get F.GLB_OWNER_STATE = 2) ∧
  (∀ (s : State), s.up = true → Does (.aliveKick) s fun t => t.bit F.GLB_ALIVE_EXPIRED = false) ∧
  (∀ (s : State), s.up = true → s.get F.GLB_ALIVE_TMO ≠ 0 → Quiet s → Does (.keepaliveExpiry) s fun t =>
     t.bit F.GLB_ALIVE_EXPIRED = true)

/-- Heartbeats, claims and elections. Table 4-11: the owner broadcasts heartbeats; a heartbeat of a higher GEN is followed; the
timer and the election window move the state; claims go out and the best is kept. Each of these commands completes:
heartbeatSend, heartbeatReceive, ownerTimerExpiry, claimSend, claimReceive, electionClose; under the stated conditions on the
state and the operands alone, exec answers a next state, with the effect stated. -/
def Obligations.ElectionRows : Prop :=
  (∀ (s : State), s.up = true → s.dutyRuns 0 = true → s.get F.GLB_OWNER_STATE = 3 → s.hostAlive = true →
   Does (.heartbeatSend) s fun t =>
     t = s.emit (.msg .broadcast (.heartbeat s.fid (s.own.ownerRank.getD s.rank) (s.get F.GLB_OWNER_GEN)))) ∧
  (∀ (s : State) (f : Nat) (rank : Rank) (gen : Nat), s.up = true → (s.get F.GLB_OWNER_STATE = 0 ∨ s.get F.GLB_OWNER_STATE = 2) →
   f ≠ s.fid → f < 64 → gen < 65536 → genHigher gen (s.get F.GLB_OWNER_GEN) = true → s.own.yielding = none → Quiet s →
   Does (.heartbeatReceive f rank gen) s fun t =>
     t.get F.GLB_OWNER_STATE = 1 ∧ t.get F.GLB_OWNER_OWNFID = f ∧ t.get F.GLB_OWNER_GEN = gen ∧ t.own.ownerRank = some rank) ∧
  (∀ (s : State), s.up = true → s.dutyRuns 0 = true → s.get F.GLB_OWNER_STATE = 1 → Does (.ownerTimerExpiry) s fun t =>
     t.get F.GLB_OWNER_STATE = 2 ∧ t.get F.GLB_OWNER_OWNFID = 0) ∧
  (∀ (s : State), s.up = true → s.dutyRuns 0 = true → s.get F.GLB_OWNER_STATE = 2 → s.hostAlive = true → s.own.noClaim = false →
   Does (.claimSend) s fun t =>
     t.own.ownClaim = true ∧ t.regs = s.regs ∧
     t.outs = s.outs ++ [.msg .broadcast (.claim s.fid s.rank ((s.get F.GLB_OWNER_GEN + 1) % 65536))]) ∧
  (∀ (s : State) (f : Nat) (rank : Rank) (gen : Nat), s.up = true → s.get F.GLB_OWNER_STATE = 2 → s.own.best = none →
   Does (.claimReceive f rank gen) s fun t =>
     t.own.best = some (f, rank, gen) ∧ t.regs = s.regs ∧ t.outs = s.outs) ∧
  (∀ (s : State) (f : Nat) (rank : Rank) (gen : Nat) (b : Nat × Rank × Nat), s.up = true → s.get F.GLB_OWNER_STATE = 2 →
   s.own.best = some b → Does (.claimReceive f rank gen) s fun t =>
     t.own.best = (if Rank.higher b.2.1 rank then some b else some (f, rank, gen))) ∧
  (∀ (s : State), s.up = true → s.dutyRuns 0 = true → s.get F.GLB_OWNER_STATE = 2 → s.own.best = none →
   Does (.electionClose) s fun t =>
     t.get F.GLB_OWNER_STATE = 0) ∧
  (∀ (s : State) (rank : Rank) (gen : Nat), s.up = true → s.dutyRuns 0 = true → s.get F.GLB_OWNER_STATE = 2 →
   s.own.best = some (s.fid, rank, gen) → s.hostAlive = false → Does (.electionClose) s fun t =>
     t.get F.GLB_OWNER_STATE = 2) ∧
  (∀ (s : State) (rank : Rank) (gen high : Nat), s.up = true → s.dutyRuns 0 = true → s.get F.GLB_OWNER_STATE = 2 →
   s.own.best = some (s.fid, rank, gen) → s.own.ownClaim = true → s.hostAlive = true → s.own.highClaim = some high →
   high < 65536 → Does (.electionClose) s fun t =>
     t.get F.GLB_OWNER_STATE = 3 ∧ t.get F.GLB_OWNER_OWNFID = s.fid ∧ t.get F.GLB_OWNER_GEN = high)

/-- Power-on, core and warm resets: their cause bits, what is held and what is kept. R58 and R80: each reset sets its bit of
GLB_RSTCAUSE; what lies outside the Lantern returns to its reset values (stated, after a power-on reset, of the registers at
0x60000 to 0xFFFFF); a warm reset keeps the fault log. The value RSTCNT starts from is free (log entry 7). Each of these
commands completes: powerOnReset, porstNAssert, porstNRelease, strapSample, warmrstNAssert, warmrstNRelease, softwareCoreReset,
softwareWarmReset; under the stated conditions on the state and the operands alone, exec answers a next state, with the effect
stated. -/
def Obligations.ResetRows : Prop :=
  (∀ (s : State) (x : PowerUp), Does (.powerOnReset x) s fun t =>
     t.boot.held = true ∧ t.bit F.GLB_RSTCAUSE_POR = true ∧ t.get F.GLB_BOOT_STAT = 0 ∧ t.tun = TunSt.reset ∧
     Sends s t (.pin .rstoutN false) ∧ RegsAgreeOff (fun a => ¬(0x60000 ≤ a ∧ a < 0x100000)) State.reset t) ∧
  (∀ (s : State), s.boot.porstLow = false → Does (.porstNAssert) s fun t =>
     t.boot.held = true ∧ t.boot.porstLow = true ∧ t.bit F.GLB_RSTCAUSE_PORST = true ∧ t.role = s.role ∧ t.tun = TunSt.reset ∧
     Sends s t (.pin .rstoutN false) ∧ t.boot.rstCnt = (s.boot.rstCnt + 1) % 65536) ∧
  (∀ (s : State), s.boot.porstLow = true → s.boot.portsOff = false → Does (.porstNRelease) s fun t =>
     t.boot.porstLow = false ∧ t.boot.strapsDue = true ∧ t.boot.held = true ∧ t.regs = s.regs ∧ t.outs = s.outs) ∧
  (∀ (s : State), s.boot.porstLow = true → Does (.porstNRelease) s fun t =>
     t.boot.porstLow = false ∧ t.boot.strapsDue = true ∧ t.boot.held = true ∧ t.boot.portsOff = false) ∧
  (∀ (s : State) (role boot smba fids lanes : Nat), role < 4 → boot < 4 → smba < 8 → fids < 64 → lanes < 4 →
   s.boot.strapsDue = true → s.boot.roleLatched = false → Does (.strapSample role boot smba fids lanes) s fun t =>
     t.role = role ∧ t.get F.GLB_STRAP_SMBA = smba ∧ t.get F.GLB_STRAP_BOOT = boot ∧ t.get F.GLB_STRAP_FIDS = fids ∧
     t.get F.GLB_STRAP_PCIEBIF = lanes ∧ t.boot.roleLatched = true ∧ t.boot.strapsDue = false ∧
     t.boot.strapFault = (role == 3) ∧ (role = 3 → t.boot.held = true)) ∧
  (∀ (s : State) (role boot smba fids lanes : Nat), s.boot.strapsDue = true → s.boot.roleLatched = true →
   Does (.strapSample role boot smba fids lanes) s fun t =>
     t.role = s.role ∧ t.get F.GLB_STRAP_SMBA = s.get F.GLB_STRAP_SMBA ∧ t.get F.GLB_STRAP_BOOT = boot % 4) ∧
  (∀ (s : State), s.boot.warmLow = false → s.boot.held = false → RegsCanonical s → Does (.warmrstNAssert) s fun t =>
     t.boot.warmLow = true ∧ t.bit F.GLB_RSTCAUSE_WARMPIN = true ∧ t.flt = s.flt ∧
     RegsAgreeOff (fun a => ¬(logReg a = true)) s t ∧ t.tun = TunSt.reset) ∧
  (∀ (s : State), Does (.warmrstNRelease) s fun t => t = s.bootM fun b => { b with warmLow := false }) ∧
  (∀ (s : State) (r : Req), s.busOpen r = true → r ≠ .smbus → s.mayControl r = true → Does (.softwareCoreReset r) s fun t =>
     t.bit F.GLB_RSTCAUSE_SWCORE = true ∧ t.role = s.role ∧ t.get F.GLB_BOOT_STAT = 0 ∧ t.tun = TunSt.reset ∧
     t.flt = State.reset.flt ∧ t.boot.rstCnt = (s.boot.rstCnt + 1) % 65536) ∧
  (∀ (s : State) (r : Req), s.busOpen r = true → r ≠ .smbus → s.mayControl r = true → RegsCanonical s →
   Does (.softwareWarmReset r) s fun t =>
     t.bit F.GLB_RSTCAUSE_SWWARM = true ∧ t.role = s.role ∧ t.get F.GLB_BOOT_STAT = 0 ∧ t.tun = TunSt.reset ∧ t.flt = s.flt ∧
     RegsAgreeOff (fun a => ¬(logReg a = true)) s t)

/-- Supplies, boot, and the host's PCIe reset and link. R32 and R43: a trip drives THERMTRIP_N low and holds the device; a core
rail below its level resets and holds it, a DRAM rail loses the frame stores; it leaves reset when the last rail is valid. R69
to R76: the ROM ends in a state of GLB_BOOT.STAT (DRAM that does not train 8, the download strap 4); ready sets STAT 3 and READY
and clears the try record; the watchdog resets the core and marks the slot; GLB_DLEN takes the length while STAT is 4; 900 ms
without ready present the boot personality and set LATE. Image checks rest on uninterpreted cryptography (log entry 8). R61 and
R76: PERST low ends the personality and the host; its rise presents the personality GLB_BOOT.STAT allows; the link coming up
shows in PCX_STAT and makes a condition of R103 true. Each of these commands completes: thermalTrip, railBelowResetLevel,
railValid, bootRomStart, firmwareReady, bootWatchdogExpiry, downloadLengthWrite, bootPersonalityTimeout, pciePerstAssert,
pciePerstRelease, pcieUpstreamLinkChange; under the stated conditions on the state and the operands alone, exec answers a next
state, with the effect stated. -/
def Obligations.BootSupplyRows : Prop :=
  (∀ (s : State), s.boot.thermTrip = false → Does (.thermalTrip) s fun t =>
     t.boot.thermTrip = true ∧ t.boot.held = true ∧ t.bit F.GLB_RSTCAUSE_THERM = true ∧ Sends s t (.pin .thermtripN false)) ∧
  (∀ (s : State) (rail : Nat), rail < 3 → rail ∉ s.boot.railsLow → s.get F.PWR_STAT_CUR ≠ 4 →
   Does (.railBelowResetLevel rail) s fun t =>
     t.boot.held = true ∧ rail ∈ t.boot.railsLow ∧ t.bit F.GLB_RSTCAUSE_RAIL = true ∧ t.tun = TunSt.reset) ∧
  (∀ (s : State) (rail : Nat), 5 ≤ rail → rail < 9 → rail ∉ s.boot.railsLow → s.get F.PWR_STAT_CUR ≠ 4 →
   Does (.railBelowResetLevel rail) s fun t =>
     rail ∈ t.boot.railsLow ∧ t.store.slots = [] ∧ t.boot.rstCnt = s.boot.rstCnt ∧ t.role = s.role) ∧
  (∀ (s : State) (rail : Nat), s.boot.railsLow = [rail] → s.boot.porstLow = false → s.boot.strapsDue = false →
   s.boot.thermTrip = false → s.boot.strapFault = false → s.get F.PWR_STAT_CUR ≠ 4 → Does (.railValid rail) s fun t =>
     t.boot.held = false ∧ t.boot.railsLow = [] ∧ t.regs = s.regs) ∧
  (∀ (s : State) (otp : List (Nat × Nat)) (found : Bool) (modes : Nat) (dqs : Bool) (size : Nat) (runs : List (Nat × List (BitVec
     8))),
   s.boot.held = false → s.boot.warmLow = false → s.boot.romDone = false → lcOf s.keys.cells < 4 →
   Does (.bootRomStart otp false found modes dqs size runs) s fun t =>
     t.get F.GLB_BOOT_STAT = 8 ∧ t.boot.romDone = true ∧ t.get F.KEY_LCS_CUR = lcOf s.keys.cells ∧
     Sends s t (.pin .rstoutN true)) ∧
  (∀ (s : State) (otp : List (Nat × Nat)) (found : Bool) (modes : Nat) (dqs : Bool) (size : Nat) (runs : List (Nat × List (BitVec
     8))),
   s.boot.held = false → s.boot.warmLow = false → s.boot.romDone = false → lcOf s.keys.cells < 4 → s.get F.GLB_STRAP_BOOT = 2 →
   s.role ≠ 2 → Does (.bootRomStart otp true found modes dqs size runs) s fun t =>
     t.get F.GLB_BOOT_STAT = 4 ∧ t.get F.MEM_DRAMSTAT_STATE = 1 ∧ t.boot.romDone = true) ∧
  (∀ (s : State) (slot : Nat), s.get F.GLB_BOOT_STAT = 2 → slot % 2 = s.boot.startSlot → Does (.firmwareReady slot) s fun t =>
     t.get F.GLB_BOOT_STAT = 3 ∧ t.get F.GLB_BOOT_READY = 1 ∧ t.get F.GLB_BOOT_AFAIL = 0 ∧ t.get F.GLB_BOOT_BFAIL = 0 ∧
     t.boot.wdt = false) ∧
  (∀ (s : State), s.boot.wdt = true → s.bit F.GLB_BOOT_DLOAD = false → s.boot.startSlot = 0 →
   Does (.bootWatchdogExpiry) s fun t =>
     t.bit F.GLB_RSTCAUSE_BOOTWDT = true ∧ t.boot.wdt = false ∧ t.get F.GLB_BOOT_AFAIL = 1 ∧ t.get F.GLB_BOOT_STAT = 0) ∧
  (∀ (s : State) (len : BitVec 32), s.boot.held = false → s.isHost = true → s.get F.GLB_BOOT_STAT = 4 →
   bitsOf len 0 24 ≤ 0x800000 → Does (.downloadLengthWrite .host len) s fun t =>
     t.get F.GLB_DLEN_LEN = bitsOf len 0 24) ∧
  (∀ (s : State), s.isHost = true → s.own.perstHigh = true → s.boot.romDone = true → s.boot.pers = 0 →
   s.get F.GLB_BOOT_STAT < 3 → Does (.bootPersonalityTimeout) s fun t =>
     t.boot.pers = 1 ∧ t.get F.GLB_BOOT_LATE = 1 ∧ RegsAgreeOff (fun a => a = A.GLB_BOOT) s t ∧ t.outs = s.outs) ∧
  (∀ (s : State), s.isHost = true → s.own.perstHigh = true → Quiet s → Does (.pciePerstAssert) s fun t =>
     t.own.perstHigh = false ∧ t.own.linkUp = false ∧ t.own.bme = false ∧ t.boot.pers = 0) ∧
  (∀ (s : State), s.isHost = true → s.own.perstHigh = false → s.boot.held = false → Does (.pciePerstRelease) s fun t =>
     t.own.perstHigh = true ∧
     t.boot.pers = (if s.get F.GLB_BOOT_STAT = 3 then 2 else if 4 ≤ s.get F.GLB_BOOT_STAT ∨ s.bit F.GLB_BOOT_DLOAD = true then 1
       else 0)) ∧
  (∀ (s : State) (speed width : Nat), s.isHost = true → s.own.perstHigh = true → s.serdesUp = true →
   s.pcieFits speed width = true → Does (.pcieUpstreamLinkChange 0 speed width) s fun t =>
     t.bit F.PCX_STAT_LINKUP = true ∧ t.get F.PCX_STAT_SPEED = speed ∧ t.get F.PCX_STAT_WIDTH = width ∧ t.own.linkUp = true)

/-- Register writes and reads, posted writes, wide counters and the snapshot. An owner's write to GLB_OWNPRIO sets it and
nothing else; one to a read-only register leaves it and is counted (R12); a write to another clock domain is posted and takes
effect later (R23); a low-word read returns the word and latches the high word for its path (R24); TAKE captures, and the end of
the capture clears BUSY, advances SEQ and records TAKER (R26, R28). Each of these commands completes: writeRegister,
crossDomainWriteEffect, wideCounterLowRead, snapTake, snapCaptureDone, lanternMirrorUpdate; under the stated conditions on the
state and the operands alone, exec answers a next state, with the effect stated. -/
def Obligations.RegisterRows : Prop :=
  (∀ (s : State) (v : BitVec 32), s.busOpen .host = true → s.boot.pers = 2 → s.mayControl .host = true →
   Does (.writeRegister .host A.GLB_OWNPRIO 4 (BitVec.ofNat 64 v.toNat)) s fun t =>
     t.get F.GLB_OWNPRIO_PRIO = bitsOf v 0 8 ∧ RegsAgreeOff (fun a => a = A.GLB_OWNPRIO) s t ∧ t.outs = s.outs) ∧
  (∀ (s : State) (v : BitVec 32), s.busOpen .host = true → s.boot.pers = 2 → s.mayControl .host = true →
   Does (.writeRegister .host A.GLB_ID 4 (BitVec.ofNat 64 v.toNat)) s fun t =>
     t.rd A.GLB_ID = s.rd A.GLB_ID ∧ t.get F.GLB_IGNWR = min (s.get F.GLB_IGNWR + 1) (2 ^ 32 - 1)) ∧
  (∀ (s : State) (v : BitVec 32), s.busOpen .host = true → s.boot.pers = 2 → s.mayControl .host = true →
   Does (.writeRegister .host A.TIM_CTRL 4 (BitVec.ofNat 64 v.toNat)) s fun t =>
     t = s.ctlM fun k => { k with posted := k.posted ++ [{ req := .host, addr := A.TIM_CTRL, data := v }] }) ∧
  (∀ (s : State) (k : Nat) (p : PostedWrite), s.up = true → s.ctl.posted[k]? = some p →
   (∀ q ∈ s.ctl.posted.take k, q.req ≠ p.req ∨ q.blk ≠ p.blk) → Does (.crossDomainWriteEffect k) s fun t =>
     t = State.applyWrite (s.ctlM fun c => { c with posted := c.posted.eraseIdx k }) p.req p.addr p.data) ∧
  (∀ (s : State), s.busOpen .host = true → s.boot.pers = 2 → s.ctl.posted = [] → s.bit F.GLB_SNAP_VIEW = false →
   s.heldHigh .host A.LANT_DSTICKS = none → Does (.wideCounterLowRead .host A.LANT_DSTICKS 4) s fun t =>
     t.heldHigh .host A.LANT_DSTICKSHI = some (s.mirrorWord A.LANT_DSTICKSHI) ∧ t.regs = s.regs ∧
     t.outs = s.outs ++ [.readData .host ((List.range 4).map fun i => bitsOf (s.mirrorWord A.LANT_DSTICKS) (8 * i) 8)]) ∧
  (∀ (s : State) (r : Req) (view : Bool), s.busOpen r = true → r ≠ .smbus → s.bit F.GLB_SNAP_BUSY = false →
   Does (.snapTake r view) s fun t =>
     t.bit F.GLB_SNAP_BUSY = true ∧ t.bit F.GLB_SNAP_VIEW = view ∧ t.get F.GLB_SNAP_SEC_SEC = s.sec % 2 ^ 32 ∧
     t.get F.GLB_SNAP_NS_NS = s.ns ∧ t.ctl.snapTaker = s.reqFid r ∧
     RegsAgreeOff (fun a => a = A.GLB_SNAP ∨ a = A.GLB_SNAP_SEC ∨ a = A.GLB_SNAP_NS) s t) ∧
  (∀ (s : State) (r : Req) (view : Bool), s.busOpen r = false →
     exec (.snapTake r view) s = .next s) ∧
  (∀ (s : State), s.up = true → s.bit F.GLB_SNAP_BUSY = true → Does (.snapCaptureDone) s fun t =>
     t.bit F.GLB_SNAP_BUSY = false ∧ t.get F.GLB_SNAP_SEQ = (s.get F.GLB_SNAP_SEQ + 1) % 256 ∧
     t.get F.GLB_SNAP_TAKER = s.ctl.snapTaker % 64 ∧ t.bit F.GLB_SNAP_VIEW = s.bit F.GLB_SNAP_VIEW ∧
     RegsAgreeOff (fun a => a = A.GLB_SNAP) s t ∧ t.outs = s.outs) ∧
  (∀ (s : State), s.up = true → Does (.lanternMirrorUpdate) s fun t =>
     t = s.ctlM fun k => { k with mirror := s.lantNow })

/-- The SMBus target. STATUS returns the count 8, its eight bytes and the PEC over all the bus carried (R110); ADDR is set and
DATA advances it by 4 (R111); a power request goes to the pending slot while the chip is on its way to a state (R112, R429);
ALERTCLR and the Alert Response release the alert but for a strap fault, and the Alert Response answers with the address and its
PEC. Each of these commands completes: smbusStatusRead, smbusAddrWrite, smbusDataRead, smbusPwrreq, smbusAlertclr,
smbusAlertResponse; under the stated conditions on the state and the operands alone, exec answers a next state, with the effect
stated. -/
def Obligations.SmbusRows : Prop :=
  (∀ (s : State) (temp : BitVec 8), Does (.smbusStatusRead temp) s fun t =>
     t = s.smbBlock 0x00 [s.role + (if s.boot.strapFault then 4 else 0), s.get F.GLB_BOOT_STAT, s.get F.PWR_STAT_CUR, s.get
       F.PWR_STAT_TGT, temp.toNat, s.ownerFid, s.fid, (if s.boot.thermTrip then 1 else 0) + (if s.boot.penumbra then 2 else 0) +
       (if s.smb.causes = 0 then 0 else 4) + (if s.smb.unavail then 8 else 0)]) ∧
  (∀ (s : State) (a : Nat), a % 4 = 0 → a < 2 ^ 24 → Does (.smbusAddrWrite a true) s fun t =>
     t = s.smbM fun b => { b with addr := a }) ∧
  (∀ (s : State), Does (.smbusDataRead) s fun t =>
     t.smb.addr = (s.smb.addr + 4) % 2 ^ 24 ∧
     t.outs = (s.smbBlock 0x02 ((leBytes 4 (s.readBus .smbus s.smb.addr).2.toNat).map (·.toNat))).outs) ∧
  (∀ (s : State) (v : Nat), v ≤ 4 → s.get F.PWR_STAT_CUR ≠ 4 → s.boot.held = false → s.get F.PWR_STAT_PHASE = 5 →
   Does (.smbusPwrreq v true) s fun t =>
     t.get F.PWR_STAT_PEND = v ∧ t.bit F.PWR_STAT_PENDV = true ∧ t.get F.PWR_STAT_CUR = s.get F.PWR_STAT_CUR) ∧
  (∀ (s : State), s.smb.causes % 2 = 0 → s.smb.causes ≠ 0 → Does (.smbusAlertclr 1 true) s fun t =>
     t = (s.smbM fun b => { b with causes := 0 }).emit (.pin .smbAlertN true)) ∧
  (∀ (s : State), s.smb.causes ≠ 0 → Does (.smbusAlertResponse) s fun t =>
     Sends s t (.readData .smbus [2 * (0x60 + s.get F.GLB_STRAP_SMBA), (crc8 ([0x19, 2 * (0x60 + s.get F.GLB_STRAP_SMBA)].map
       (BitVec.ofNat 8))).toNat]) ∧
     t.smb.causes = s.smb.causes % 2 ∧ t.regs = s.regs)

/-- Entering and leaving the alternate mode, and the control bits of an Adit port. R115 and R129: Enter Mode takes an enabled
DARK port to DETECT; Exit Mode, DARK and RETRAIN take a port DARK with the cause of Table 5-4 and its lanes to electrical idle;
RETRAIN and a retry delay that ends bring it up again. The register facts are of a port that is not Lit; the lanes go idle in
every state. Each of these commands completes: enterMode, exitMode, retrain, darkCommand, portDetectStart, retryDelayExpiry,
exchangeTimeout; under the stated conditions on the state and the operands alone, exec answers a next state, with the effect
stated. -/
def Obligations.AditModeRows : Prop :=
  (∀ (s : State) (p : Nat) (dfp : Bool) (vdo : Nat), s.serdesUp = true → p < 3 → vdo / 32 % 8 = 1 → vdo % 2 = 1 →
   s.bit (F.ADT_ALT_ENTERED p) = false → s.bit (F.ADT_CTRL_EN p) = true → s.bit (F.ADT_CTRL_DARK p) = false → s.portState p = 0 →
   s.deepAsleep = false → Does (.enterMode p dfp vdo) s fun t =>
     t.bit (F.ADT_ALT_ENTERED p) = true ∧ t.bit (F.ADT_ALT_DFP p) = dfp ∧ t.portState p = 1 ∧ t.outs = s.outs ∧
     RegsAgreeOff (fun a => a = A.ADT_ALT p ∨ a = A.ADT_STAT p) s t) ∧
  (∀ (s : State) (p : Nat), s.serdesUp = true → p < 3 → s.bit (F.ADT_ALT_ENTERED p) = true → s.portState p ≠ 0 →
   s.lit p = false → Does (.exitMode p) s fun t =>
     t.bit (F.ADT_ALT_ENTERED p) = false ∧ t.portState p = 0 ∧ t.get (F.ADT_STAT_LASTFAIL p) = 7 ∧ Sends s t (.lanes p 3 0)) ∧
  (∀ (s : State) (p : Nat), s.serdesUp = true → p < 3 → s.bit (F.ADT_ALT_ENTERED p) = true → s.lit p = true →
   Does (.exitMode p) s fun t =>
     Sends s t (.lanes p 3 0)) ∧
  (∀ (s : State) (r : Req) (p : Nat), s.serdesUp = true → s.ctl.posted = [] → p < 3 → s.busOpen r = true → r ≠ .smbus →
   s.boot.pers ≠ 1 → s.mayControl r = true → s.bit (F.ADT_CTRL_EN p) = true → s.bit (F.ADT_CTRL_DARK p) = false →
   s.bit (F.ADT_ALT_ENTERED p) = true → s.deepAsleep = false → s.portState p ≠ 0 → s.lit p = false →
   Does (.retrain r p) s fun t =>
     t.portState p = 1 ∧ t.get (F.ADT_STAT_LASTFAIL p) = 10 ∧ Sends s t (.lanes p 3 0)) ∧
  (∀ (s : State) (r : Req) (p : Nat), s.serdesUp = true → s.ctl.posted = [] → p < 3 → s.busOpen r = true → r ≠ .smbus →
   s.boot.pers ≠ 1 → s.mayControl r = true → s.portState p ≠ 0 → s.lit p = false → Does (.darkCommand r p) s fun t =>
     t.portState p = 0 ∧ t.get (F.ADT_STAT_LASTFAIL p) = 10 ∧ t.bit (F.ADT_CTRL_DARK p) = true ∧ Sends s t (.lanes p 3 0)) ∧
  (∀ (s : State) (r : Req) (p : Nat), s.serdesUp = true → s.ctl.posted = [] → p < 3 → s.busOpen r = true → r ≠ .smbus →
   s.boot.pers ≠ 1 → s.mayControl r = true → s.lit p = true → Does (.darkCommand r p) s fun t =>
     Sends s t (.lanes p 3 0)) ∧
  (∀ (s : State) (p : Nat), s.serdesUp = true → s.mayDetect p = true → Does (.portDetectStart p) s fun t =>
     t.portState p = 1 ∧ t.outs = s.outs ∧ RegsAgreeOff (fun a => a = A.ADT_STAT p) s t) ∧
  (∀ (s : State) (p : Nat), s.serdesUp = true → p < 3 → s.portState p = 0 → s.bit (F.ADT_CTRL_EN p) = true →
   s.bit (F.ADT_CTRL_DARK p) = false → s.bit (F.ADT_ALT_ENTERED p) = true → s.deepAsleep = false →
   Does (.retryDelayExpiry p) s fun t =>
     t.portState p = 1 ∧ (t.port p).retry = false ∧ RegsAgreeOff (fun a => a = A.ADT_STAT p) s t) ∧
  (∀ (s : State) (p : Nat), s.serdesUp = true → p < s.ports.length → p < 3 → s.portState p = 4 →
   Does (.exchangeTimeout p) s fun t =>
     t.portState p = 0 ∧ t.get (F.ADT_STAT_LASTFAIL p) = 3 ∧ (t.port p).retry = true ∧ Sends s t (.lanes p 3 0))

/-- Receiver detection, training and lock. R124 to R127: a termination starts TRAIN at the port's rate; training frames move the
taps and the last READY takes the port to LOCK; a rate that fails falls back; the last lane's lock takes it to EXCHANGE. Each of
these commands completes: receiverDetect, trainingFrameReceive, trainTimeout, fallbackIdleEnd, markerReceive, lockTimeout; under
the stated conditions on the state and the operands alone, exec answers a next state, with the effect stated. -/
def Obligations.TrainingRows : Prop :=
  (∀ (s : State) (p lanes : Nat), s.serdesUp = true → p < 3 → s.portState p = 1 → (s.port p).one = false → lanes % 4 ≠ 0 →
   Does (.receiverDetect p lanes) s fun t =>
     t.portState p = 2 ∧ t.get (F.ADT_STAT_RATE p) = (s.port p).rate % 4 ∧ Sends s t (.lanes p (s.port p).rate 3) ∧
     RegsAgreeOff (fun a => a = A.ADT_STAT p ∨ a = A.ADT_EQ p) s t) ∧
  (∀ (s : State) (p : Nat) (h : TrainHdr) (pre post : Nat), s.serdesUp = true → p < 3 → h.lane = 0 → h.one = false →
   h.ready = false → s.portState p = 2 → (s.port p).idle = false → (s.port p).rate < 3 → (s.port p).rxReady = 0 →
   (s.port p).farReady = 0 → (s.port p).one = false → (s.port p).ownOne = false →
   Does (.trainingFrameReceive p (s.port p).rate 0 h false false pre post) s fun t =>
     t.get (F.ADT_EQ_PRE0 p) = tapMove (s.get (F.ADT_EQ_PRE0 p)) h.reqPre 16 ∧
     t.get (F.ADT_EQ_POST0 p) = tapMove (s.get (F.ADT_EQ_POST0 p)) h.reqPost 22 ∧ t.portState p = 2 ∧
     RegsAgreeOff (fun a => a = A.ADT_EQ p) s t) ∧
  (∀ (s : State) (p : Nat) (h : TrainHdr) (pre post : Nat), s.serdesUp = true → p < 3 → p < s.ports.length → h.lane = 1 →
   h.one = false → h.ready = true → s.portState p = 2 → (s.port p).idle = false → (s.port p).rate < 3 → (s.port p).rxReady = 1 →
   (s.port p).farReady = 1 → (s.port p).one = false → (s.port p).ownOne = false →
   Does (.trainingFrameReceive p (s.port p).rate 1 h false true pre post) s fun t =>
     t.portState p = 3 ∧ t.get (F.ADT_STAT_TXLANES p) = 3 ∧ t.get (F.ADT_STAT_RXLANES p) = 3) ∧
  (∀ (s : State) (p : Nat), s.serdesUp = true → p < 3 → s.portState p = 2 → (s.port p).idle = false → (s.port p).rxReady = 1 →
   (s.port p).farReady = 1 → (s.port p).one = false → Does (.trainTimeout p) s fun t =>
     t.portState p = 3 ∧ t.get (F.ADT_STAT_TXLANES p) = 1 ∧ t.get (F.ADT_STAT_RXLANES p) = 1 ∧ t.get (F.ADT_LANE_RXCAUSE1 p) = 6) ∧
  (∀ (s : State) (p : Nat), s.serdesUp = true → p < 3 → s.portState p = 2 → (s.port p).idle = false → (s.port p).rxReady = 0 →
   (s.port p).rate ≠ 0 → Does (.trainTimeout p) s fun t =>
     t.portState p = 2 ∧ t.get (F.ADT_STAT_LASTFAIL p) = 1 ∧ (t.port p).rate = (s.port p).rate - 1 ∧ (t.port p).idle = true ∧
     t.outs = s.outs ++ [.lanes p 3 0]) ∧
  (∀ (s : State) (p : Nat), s.serdesUp = true → p < 3 → s.portState p = 2 → (s.port p).idle = true →
   Does (.fallbackIdleEnd p) s fun t =>
     t.portState p = 2 ∧ (t.port p).idle = false ∧ t.get (F.ADT_STAT_RATE p) = (s.port p).rate % 4 ∧
     Sends s t (.lanes p (s.port p).rate (s.port p).drives)) ∧
  (∀ (s : State) (p : Nat) (skew : Int), s.serdesUp = true → p < 3 → p < s.ports.length → s.portState p = 3 →
   s.bit (F.ADT_STAT_RXDIM p) = false → (s.rxLane p 0).lock = true → s.get (F.ADT_LANE_RXUSE p) = 1 →
   Does (.markerReceive p 0 skew) s fun t =>
     t.portState p = 4 ∧ t.get (F.ADT_SKEW_SKEW p) = (skew % 8192).toNat ∧ (t.port p).peerCap = []) ∧
  (∀ (s : State) (p : Nat), s.serdesUp = true → p < 3 → s.portState p = 3 → (s.port p).rate ≠ 0 →
   Does (.lockTimeout p) s fun t =>
     t.portState p = 2 ∧ t.get (F.ADT_STAT_LASTFAIL p) = 2 ∧ (t.port p).rate = (s.port p).rate - 1 ∧
     t.outs = s.outs ++ [.lanes p 3 0])

/-- The capability exchange and codewords; dim. R130 and R131: the capability frame goes out with its CRC-32; a good one whose
ACK is set, once ours has carried ACK, takes the port to LIT, encrypted where either end asks; another version halts the port
with cause 4. R121: a codeword decoded with symbols in error, and one that cannot be decoded, are counted on a lane not yet
locked, and nothing else of the registers changes. R132 and R133: an idle transmitter sends 16 DIM blocks; a direction that dims
and returns shows in ADTn_STAT; the exit burst is 96 TRAIN blocks on the lanes in use. Each of these commands completes:
capabilitySend, capabilityFrameReceive, codewordReceive, dimEntry, dimReceive, dimExit, dimExitBurstReceive; under the stated
conditions on the state and the operands alone, exec answers a next state, with the effect stated. -/
def Obligations.ExchangeDimRows : Prop :=
  (∀ (s : State) (p : Nat), s.serdesUp = true → p < 3 → s.portState p = 4 → Does (.capabilitySend p) s fun t =>
     Sends s t (.capability p (s.capFrame p ++ leBytes 4 (crc32 (s.capFrame p)).toNat))) ∧
  (∀ (s : State) (p : Nat) (bytes : List (BitVec 8)), s.serdesUp = true → p < 3 → p < s.ports.length → s.portState p = 4 →
   bytes.length = 64 → leNat (slice bytes 0 4) = 0x58435A44 → byteAt bytes 4 = 1 → byteAt bytes 5 / 4 % 2 = 1 →
   byteAt bytes 5 % 2 = 1 → (s.port p).ackSent = true → Does (.capabilityFrameReceive p bytes (crc32 bytes)) s fun t =>
     t.portState p = 5 ∧ t.enc p = ((s.port p).cap % 2 == 1 || byteAt bytes 5 / 2 % 2 == 1)) ∧
  (∀ (s : State) (p : Nat) (bytes : List (BitVec 8)), s.serdesUp = true → p < 3 → s.portState p = 4 → bytes.length = 64 →
   leNat (slice bytes 0 4) = 0x58435A44 → byteAt bytes 4 ≠ 1 → Does (.capabilityFrameReceive p bytes (crc32 bytes)) s fun t =>
     t.portState p = 7 ∧ t.get (F.ADT_STAT_LASTFAIL p) = 4 ∧ Sends s t (.lanes p 3 0)) ∧
  (∀ (s : State) (p errs msg : Nat) (cw : BitVec 5440), s.serdesUp = true → p < 3 → 3 ≤ s.portState p → s.portState p ≠ 7 →
   s.bit (F.ADT_STAT_RXDIM p) = false → (s.port p).rxSwap = false → (s.port p).inv = 0 → rsDecode cw = some (errs + 1, msg) →
   s.get (F.ADT_DEGCFG_THR p) = 0 → s.get (F.ADT_LANE_RXUSE p) % 2 = 1 → (s.rxLane p 0).lock = false →
   (s.rxLane p 0).since = none → (s.rxLane p 0).fifo = [] → Does (.codewordReceive p 0 cw) s fun t =>
     t.get (F.ADT_FECCOR0 p) = min (s.get (F.ADT_FECCOR0 p) + 1) (2 ^ 32 - 1) ∧
     RegsAgreeOff (fun a => a = A.ADT_FECCOR0 p) s t ∧ t.outs = s.outs) ∧
  (∀ (s : State) (p : Nat) (cw : BitVec 5440), s.serdesUp = true → p < 3 → 3 ≤ s.portState p → s.portState p ≠ 7 →
   s.bit (F.ADT_STAT_RXDIM p) = false → (s.port p).rxSwap = false → (s.port p).inv = 0 → rsDecode cw = none →
   s.get (F.ADT_DEGCFG_THR p) = 0 → s.get (F.ADT_LANE_RXUSE p) / 2 = 1 → (s.rxLane p 1).lock = false →
   (s.rxLane p 1).since = none → (s.rxLane p 1).fifo = [] → Does (.codewordReceive p 1 cw) s fun t =>
     t.get (F.ADT_FECUNC1 p) = min (s.get (F.ADT_FECUNC1 p) + 1) (2 ^ 32 - 1) ∧
     RegsAgreeOff (fun a => a = A.ADT_FECUNC1 p) s t ∧ t.outs = s.outs) ∧
  (∀ (s : State) (p : Nat), s.serdesUp = true → s.lit p = true → s.bit (F.ADT_CTRL_DIMEN p) = true →
   s.bit (F.ADT_STAT_TXDIM p) = false → (s.sch p).queue = [] → (s.link p).replay = [] → Does (.dimEntry p) s fun t =>
     t.bit (F.ADT_STAT_TXDIM p) = true ∧ (s.bit (F.ADT_STAT_RXDIM p) = true → t.portState p = 6) ∧
     t.outs = s.outs ++ [.blocks p 0x4E (s.get (F.ADT_LANE_TXUSE p)) 0 0 16] ∧ RegsAgreeOff (fun a => a = A.ADT_STAT p) s t) ∧
  (∀ (s : State) (p : Nat), s.serdesUp = true → s.lit p = true → Does (.dimReceive p) s fun t =>
     t.bit (F.ADT_STAT_RXDIM p) = true ∧ (s.bit (F.ADT_STAT_TXDIM p) = true → t.portState p = 6) ∧ t.outs = s.outs ∧
     RegsAgreeOff (fun a => a = A.ADT_STAT p) s t) ∧
  (∀ (s : State) (p : Nat), s.serdesUp = true → s.lit p = true → s.bit (F.ADT_STAT_TXDIM p) = true → Does (.dimExit p) s fun t =>
     t.bit (F.ADT_STAT_TXDIM p) = false ∧ t.portState p = 5 ∧
     Sends s t (.blocks p 0x66 (s.get (F.ADT_LANE_TXUSE p)) (if (s.port p).one then 128 else 0) 0 96) ∧
     RegsAgreeOff (fun a => a = A.ADT_STAT p) s t) ∧
  (∀ (s : State) (p : Nat) (bits : List Nat), s.serdesUp = true → s.lit p = true → s.bit (F.ADT_STAT_RXDIM p) = true →
   Does (.dimExitBurstReceive p { locked := 3, bits := bits }) s fun t =>
     t.bit (F.ADT_STAT_RXDIM p) = false ∧ t.portState p = 5 ∧ t.outs = s.outs)

/-- Lane sparing. R136 to R138: a failed lane of two asks with LANECTL SPARE, which is repeated; the far transmitter answers
STRIPE and stripes on the survivor; STRIPE sets the lanes received on; JOIN sets both lanes again; a spared lane that passed its
second is asked to join. Each of these commands completes: laneFailure, spareRepeat, lanectlSpareReceive, lanectlStripeReceive,
lanectlJoinReceive, sparedLaneJudge; under the stated conditions on the state and the operands alone, exec answers a next state,
with the effect stated. -/
def Obligations.SparingRows : Prop :=
  (∀ (s : State) (p lane cause : Nat), s.serdesUp = true → s.lit p = true → lane < 2 → cause < 16 →
   s.bit (F.ADT_STAT_RXDIM p) = false → s.working p = [0, 1] → Does (.laneFailure p lane cause) s fun t =>
     t.get (rxCause p lane) = cause ∧ Sends s t (.blocks p 0x5A (s.get (F.ADT_LANE_TXUSE p)) 1 lane 1)) ∧
  (∀ (s : State) (p lane : Nat), s.serdesUp = true → s.lit p = true → lane < 2 → (s.port p).asking = 2 ^ lane →
   Does (.spareRepeat p) s fun t =>
     Sends s t (.blocks p 0x5A (s.get (F.ADT_LANE_TXUSE p)) 1 lane 1)) ∧
  (∀ (s : State) (p lane : Nat), s.serdesUp = true → s.lit p = true → lane < 2 → s.get (F.ADT_LANE_TXUSE p) = 3 →
   Does (.lanectlSpareReceive p lane) s fun t =>
     t.get (F.ADT_LANE_TXUSE p) = 3 - 2 ^ lane ∧ t.get (F.ADT_STAT_TXLANES p) = 3 - 2 ^ lane ∧
     Sends s t (.blocks p 0x5A (3 - 2 ^ lane) 3 (3 - 2 ^ lane) 1) ∧ Sends s t (.stripe p (3 - 2 ^ lane))) ∧
  (∀ (s : State) (p mask : Nat), s.serdesUp = true → s.lit p = true → 1 ≤ mask → mask < 4 →
   Does (.lanectlStripeReceive p mask) s fun t =>
     t.get (F.ADT_LANE_RXUSE p) = mask ∧ t.get (F.ADT_STAT_RXLANES p) = mask) ∧
  (∀ (s : State) (p lane : Nat), s.serdesUp = true → s.lit p = true → lane < 2 → (s.port p).one = false →
   s.get (F.ADT_LANE_TXUSE p) ≠ 3 → Does (.lanectlJoinReceive p lane) s fun t =>
     t.get (F.ADT_LANE_TXUSE p) = 3 ∧ t.get (F.ADT_STAT_TXLANES p) = 3 ∧
     Sends s t (.blocks p 0x5A (s.get (F.ADT_LANE_TXUSE p)) 3 3 1) ∧ Sends s t (.stripe p 3)) ∧
  (∀ (s : State) (p lane : Nat), s.serdesUp = true → s.lit p = true → lane < 2 → s.get (F.ADT_LANE_RXUSE p) / 2 ^ lane % 2 = 0 →
   (s.port p).one = false → s.bit (rxHold p lane) = false → s.lanePasses p lane = true →
   Does (.sparedLaneJudge p lane true) s fun t =>
     Sends s t (.blocks p 0x5A (s.get (F.ADT_LANE_TXUSE p)) 2 lane 1))

/-- The scheduler's offer, hop resends and the replay buffer; A foreign frame is admitted, and held frames are tested again.
R201: resends leave first, then the head of fabric class 6, under the next HSEQ (R154). R156: an ACK frees the copies up to its
HSEQ; a NAK also replays the rest; 4 µs without progress replay all. R17: a frame that its tunnel admits takes the end's TXESEQ,
is copied, and joins the egress queue; R213: a held frame that passes is admitted and leaves the interface. Each of these
commands completes: schedulerOffer, ackReceive, nakReceive, replayTimeout, nakResendTimer, foreignFrameIngress, meterRetest;
under the stated conditions on the state and the operands alone, exec answers a next state, with the effect stated. -/
def Obligations.TransmitIngressRows : Prop :=
  (∀ (s : State) (p : Nat) (w : Wire) (rest : List Wire), s.serdesUp = true → s.mail = [] → s.lit p = true →
   s.bit (F.ADT_STAT_TXDIM p) = false → (s.link p).resend = w :: rest → Does (.schedulerOffer p) s fun t =>
     (t.link p).resend = rest ∧ t.outs = s.outs ++ [.frame p w] ∧ t.regs = s.regs) ∧
  (∀ (s : State) (p : Nat) (q : QFrame), s.serdesUp = true → s.mail = [] → s.lit p = true → p < s.links.length →
   s.bit (F.ADT_STAT_TXDIM p) = false → (s.link p).resend = [] → (s.sch p).draining = none → (s.link p).key.overdue = false →
   s.fabHead p 6 = some q → s.headOk p q = true → s.windowOk p q.f = true → Does (.schedulerOffer p) s fun t =>
     Sends s t (.frame p (s.wireOf p q.f false)) ∧ t.get (F.ADT_LLSTAT_TXHSEQ p) = (s.get (F.ADT_LLSTAT_TXHSEQ p) + 1) % 4096) ∧
  (∀ (s : State) (p i : Nat) (w : LinkWord), s.serdesUp = true → s.lit p = true → w.kind = 1 →
   ((s.link p).replay.findIdx? (fun x => x.f.hseq == w.arg.toNat % 4096) = some i) →
   Does (.ackReceive p w (linkCheck w.kind w.arg)) s fun t =>
     (t.link p).replay = (s.link p).replay.drop (i + 1) ∧ (t.link p).replays = 0 ∧ t.regs = s.regs ∧ t.outs = s.outs) ∧
  (∀ (s : State) (p i : Nat) (w : LinkWord), s.serdesUp = true → s.lit p = true → p < 3 → w.kind = 2 →
   ((s.link p).replay.findIdx? (fun x => x.f.hseq == w.arg.toNat % 4096) = some i) → (s.link p).replay.drop (i + 1) ≠ [] →
   Does (.nakReceive p w (linkCheck w.kind w.arg)) s fun t =>
     (t.link p).replay = (s.link p).replay.drop (i + 1) ∧ (t.link p).resend = (s.link p).replay.drop (i + 1) ∧
     t.get (F.ADT_NAKRX p) = min (s.get (F.ADT_NAKRX p) + 1) (2 ^ 32 - 1) ∧
     t.get (F.ADT_REPLAY p) = min (s.get (F.ADT_REPLAY p) + 1) (2 ^ 32 - 1)) ∧
  (∀ (s : State) (p : Nat), s.serdesUp = true → s.lit p = true → (s.link p).replay ≠ [] → (s.link p).replays < s.replim p →
   Does (.replayTimeout p) s fun t =>
     (t.link p).resend = (s.link p).replay ∧ (t.link p).replays = (s.link p).replays + 1 ∧
     t.get (F.ADT_REPLAY p) = min (s.get (F.ADT_REPLAY p) + 1) (2 ^ 32 - 1) ∧ t.outs = s.outs) ∧
  (∀ (s : State) (p : Nat), s.serdesUp = true → s.lit p = true → s.bit (F.ADT_LLSTAT_NAKOUT p) = true →
   Does (.nakResendTimer p) s fun t =>
     Sends s t (.link p { kind := 2, arg := ackArg (s.lastHseq p) }) ∧
     t.get (F.ADT_NAKTX p) = min (s.get (F.ADT_NAKTX p) + 1) (2 ^ 32 - 1)) ∧
  (∀ (s : State) (ep typ kind p : Nat) (bytes : List (BitVec 8)) (last : Bool) (c : TunCtx), s.up = true → kind ∈ typeKinds typ →
   bytes ≠ [] → s.endAt ep typ = some c → s.ctx c.idx = some c → c.state = 2 → c.paused = 0 → c.held = [] →
   c.first.pend = false → c.first.paid = none → c.par.men = false → c.local_ = false → bytes.length ≤ lenMax c.par.cls →
   s.egressOf c = some p → p < s.schs.length → s.poolFull c p bytes.length = false → s.spillFull p (20 + bytes.length) = false →
   s.fenceOf c kind bytes = none → s.tun.loop = [] → Does (.foreignFrameIngress ep typ kind bytes last false) s fun t =>
     (t.ctx c.idx).map (fun d => d.tx) = some ((c.tx + 1) % 65536) ∧
     (t.sch p).queue.map (fun q => (q.queue, q.f)) = (s.sch p).queue.map (fun q => (q.queue, q.f)) ++ [(some c.idx,
       { dst := c.far, src := s.fid, tid := c.par.tid, cls := c.par.cls, kind := kind, len := bytes.length, hseq := 0, eseq := c.tx, ttl := 63, flags := (if last ∧ (kind = 0x0A ∨ kind = 0x0D) then 8 else 0), rsvd := 0, payload := bytes })]
       ∧
     t.outs = s.outs) ∧
  (∀ (s : State) (c : TunCtx) (h : HeldFrame), s.up = true → s.tun.ctxs = [c] → c.held = [h] → c.state = 2 →
   c.first.ring = none → (s.admTest c none h.bytes.length h.yellow).2 = .pass 0 → c.local_ = false → c.par.men = false →
   s.tun.loop = [] → Does (.meterRetest) s fun t =>
     (t.ctx c.idx).map (fun d => d.held) = some [] ∧ (t.ctx c.idx).map (fun d => d.tx) = some ((c.tx + 1) % 65536))

/-- A frame that passes the receive checks is acknowledged; a bad header is answered NAK; credits; end-to-end acknowledgements.
R149 and R155, of an unencrypted link: the expected HSEQ with a good header, length and trailer is accepted and an ACK that
names it goes out; a header that fails its check is counted, and a NAK goes out where none is outstanding. R160: a CREDIT word
sets the limit of its class; the refresh sends a CREDIT word for every class carried but class 3. R166: what is owed leaves in
an E2E_ACK toward its device; an acknowledgement frees the copies up to its ESEQ; R167: E2ETMO without progress sends every copy
again, counted. Each of these commands completes: frameReceive, creditReceive, creditRefresh, e2eAckSend, e2eAckReceive,
e2eTimeout; under the stated conditions on the state and the operands alone, exec answers a next state, with the effect stated.
-/
def Obligations.ReceiveCreditRows : Prop :=
  (∀ (s : State) (p : Nat) (hdr : BitVec 128) (body : List (BitVec 8)), s.serdesUp = true → s.lit p = true →
   headerOk hdr = true → (unpackHeader hdr []).hseq = s.get (F.ADT_LLSTAT_RXHSEQ p) →
   flagOf (unpackHeader hdr []).flags 0 = false → (s.link p).key.rxOn = false → body.length = (unpackHeader hdr []).len + 4 →
   BitVec.ofNat 32 (leNat (body.drop (unpackHeader hdr []).len)) = trailerOf (body.take (unpackHeader hdr []).len) false →
   Does (.frameReceive p hdr body none 0) s fun t =>
     Sends s t (.link p { kind := 1, arg := ackArg (unpackHeader hdr []).hseq })) ∧
  (∀ (s : State) (p : Nat) (hdr : BitVec 128) (body : List (BitVec 8)) (tag : Option (BitVec 128)), s.serdesUp = true →
   s.lit p = true → headerOk hdr = false → s.bit (F.ADT_LLSTAT_NAKOUT p) = false →
   Does (.frameReceive p hdr body tag 0) s fun t =>
     t.bit (F.ADT_LLSTAT_NAKOUT p) = true ∧ t.get (F.ADT_HCRCERR p) = min (s.get (F.ADT_HCRCERR p) + 1) (2 ^ 32 - 1) ∧
     Sends s t (.link p { kind := 2, arg := ackArg (s.lastHseq p) })) ∧
  (∀ (s : State) (p : Nat) (w : LinkWord), s.serdesUp = true → s.lit p = true → w.kind = 3 → p < s.links.length →
   (s.link p).txLimit.length = 8 → Does (.creditReceive p w (linkCheck w.kind w.arg)) s fun t =>
     (t.link p).txLimit.getD (w.arg.toNat % 8) 0 = w.arg.toNat / 256 % 65536 ∧
     (t.link p).txSeen / 2 ^ (w.arg.toNat % 8) % 2 = 1 ∧ t.regs = s.regs ∧ t.outs = s.outs) ∧
  (∀ (s : State) (p : Nat), s.serdesUp = true → s.lit p = true → s.bit (F.ADT_STAT_TXDIM p) = false →
   Does (.creditRefresh p) s fun t =>
     t = s.emits ((s.creditClasses p).map fun c => .link p (s.creditWord p c))) ∧
  (∀ (s : State) (a : OwedAck) (p : Nat), s.up = true → s.tun.owed = [a] → a.dst ≠ 63 → s.tableHop a.dst 0 false false = some p →
   p < s.schs.length → Does (.e2eAckSend) s fun t =>
     t.tun.owed = [] ∧
     (t.sch p).queue.map (fun e => e.f) = (s.sch p).queue.map (fun e => e.f) ++
       [{ dst := a.dst, src := s.fid, tid := 0, cls := 0, kind := 1, len := 4, hseq := 0, eseq := 0, ttl := 63, flags := 0, rsvd := 0, payload := a.entry }]) ∧
  (∀ (s : State) (tid eseq i : Nat) (c : TunCtx), s.up = true → tid < 4096 → eseq < 65536 →
   (s.tun.ctxs.find? (fun c => c.par.tid == tid && c.isEnd && !c.local_) = some c) → s.ctx c.idx = some c →
   (c.copies.findIdx? (fun k => k.f.eseq == eseq) = some i) → (∀ d ∈ s.tun.ctxs, d.held = []) →
   Does (.e2eAckReceive (leBytes 4 (tid + 65536 * eseq))) s fun t =>
     t.ctx c.idx = some { c with copies := c.copies.drop (i + 1), ack := eseq } ∧ t.regs = s.regs ∧ t.outs = s.outs) ∧
  (∀ (s : State) (tid : Nat) (c : TunCtx), s.up = true →
   (s.tun.ctxs.find? (fun c => c.par.tid == tid && c.isEnd && !c.local_ && !c.copies.isEmpty) = some c) → s.ctx c.idx = some c →
   c.paused = 0 → Does (.e2eTimeout tid) s fun t =>
     (t.ctx c.idx).map (fun d => d.stat.resend) = some (satAdd c.stat.resend c.copies.length) ∧
     (t.ctx c.idx).map (fun d => d.lastResend) = some none)

/-- Link key exchange and rekeys. R171 and R172: a peer's rekey is answered and its keys are installed with KEYRDY; the peer's
KEYRDY lets the transmitter use them; an exchange not complete in time leaves KX 4, a retry starts again (1), a rekey shows 3;
an overdue one holds new frames back. The verification of a chain is uninterpreted (log entry 8). Each of these commands
completes: keyxReceive, keyrdyReceive, keyExchangeTimeout, keyExchangeRetry, rekeyStart, rekeyOverdue; under the stated
conditions on the state and the operands alone, exec answers a next state, with the effect stated. -/
def Obligations.KeyExchangeRows : Prop :=
  (∀ (s : State) (p : Nat) (rand : BitVec 256) (pub : BitVec 768) (chain : List (BitVec 8)), s.serdesUp = true → s.lit p = true →
   s.quarantined = false → p < s.links.length → s.enc p = true → s.get (F.ADT_KEYSTAT_KX p) = 2 →
   Does (.keyxReceive p (.kxHello rand pub true false chain)) s fun t =>
     Sends s t (.link p { kind := 4, arg := BitVec.ofNat 40 (1 - (s.link p).key.txPhase) })) ∧
  (∀ (s : State) (p : Nat) (m : Msg), s.serdesUp = true → s.quarantined = true →
     exec (.keyxReceive p m) s = .next s) ∧
  (∀ (s : State) (p : Nat) (w : LinkWord), s.serdesUp = true → s.lit p = true → w.kind = 4 → s.enc p = true →
   (s.link p).key.step = 4 → (s.link p).key.rekey = true → w.arg.toNat % 2 = (s.link p).key.phase →
   Does (.keyrdyReceive p w (linkCheck w.kind w.arg)) s fun t =>
     (t.link p).key.txOn = true ∧ (t.link p).key.txPhase = (s.link p).key.phase ∧ t.get (F.ADT_KEYSTAT_KX p) = 2 ∧
     t.get (F.ADT_KEYSTAT_TXKPH p) = (s.link p).key.phase) ∧
  (∀ (s : State) (p : Nat), s.serdesUp = true → s.lit p = true → s.get (F.ADT_KEYSTAT_KX p) = 1 →
   Does (.keyExchangeTimeout p) s fun t =>
     t.get (F.ADT_KEYSTAT_KX p) = 4) ∧
  (∀ (s : State) (p : Nat), s.serdesUp = true → s.dutyRuns (6 + p) = true → s.lit p = true → s.quarantined = false →
   s.get (F.ADT_KEYSTAT_KX p) = 4 → Does (.keyExchangeRetry p) s fun t =>
     t.get (F.ADT_KEYSTAT_KX p) = 1) ∧
  (∀ (s : State) (p : Nat), s.serdesUp = true → s.dutyRuns (6 + p) = true → s.lit p = true → s.quarantined = false →
   s.enc p = true → s.get (F.ADT_KEYSTAT_KX p) = 2 → (s.keyLife p ≤ s.keyAge p + rekeyEarly ∨ 2 ^ 31 ≤ (s.link p).key.exTx) →
   Does (.rekeyStart p) s fun t =>
     t.get (F.ADT_KEYSTAT_KX p) = 3) ∧
  (∀ (s : State) (p : Nat), s.serdesUp = true → s.lit p = true → s.enc p = true → (s.link p).key.txOn = true →
   (s.link p).key.overdue = false → (s.keyLife p ≤ s.keyAge p ∨ 2 ^ 32 ≤ (s.link p).key.exTx) → Does (.rekeyOverdue p) s fun t =>
     (t.link p).key.overdue = true)

/-- What the messages of a host bridge do to a device's contexts. INSTALL takes the lowest free context, in OPENING; ACTIVATE
makes a context OPEN; QUIESCE makes an end DRAINING and answers the copies held; CLOSE makes an end CLOSING and discards its
copies; REMOVE frees every context of the TID; 10 ms in OPENING free a context. Each message is answered. Each of these commands
completes: tunnelInstall, tunnelActivate, tunnelRemove, tunnelQuiesce, tunnelCloseMessage, grantSet, openingTimeout; under the
stated conditions on the state and the operands alone, exec answers a next state, with the effect stated. -/
def Obligations.ContextRows : Prop :=
  (∀ (s : State) (fid k : Nat) (p : TunPar), s.up = true → (∀ c ∈ s.tun.ctxs, c.par.tid ≠ p.tid) → s.absent p = false →
   s.freeCtx = some k → s.positions p = [3] → Does (.tunnelInstall fid p none none) s fun t =>
     t = (s.tunM fun u => { u with ctxs := u.ctxs ++ [newCtx k 3 p none] }).emit (.msg (.fid fid) (.installRsp p.tid 0 k k 0))) ∧
  (∀ (s : State) (fid : Nat) (c : TunCtx), s.up = true → s.role = 2 → s.pcx.wakeLow = false → s.tun.ctxs = [c] → c.state = 1 →
   c.pos = 3 → c.await = false → c.held = [] → s.tun.loop = [] → Does (.tunnelActivate fid c.par.tid true) s fun t =>
     (t.ctx c.idx).map (fun d => (d.state, d.openAt, d.par)) = some (2, s.now, c.par) ∧
     Sends s t (.msg (.fid fid) (.tunRsp c.par.tid 0 0))) ∧
  (∀ (s : State) (fid tid : Nat), s.up = true → s.role = 2 → s.pcx.wakeLow = false →
   (∀ c ∈ s.tun.ctxs, c.par.tid = tid → c.pos = 3) → (s.sch 0).queue = [] → (s.sch 1).queue = [] → (s.sch 2).queue = [] →
   s.tun.loop = [] → (∀ c ∈ s.tun.ctxs, c.waiting = []) → Does (.tunnelRemove fid tid) s fun t =>
     (∀ d ∈ t.tun.ctxs, d.par.tid ≠ tid) ∧ t.regs = s.regs ∧ t.outs = s.outs ++ [.msg (.fid fid) (.tunRsp tid 0 0)]) ∧
  (∀ (s : State) (fid tid : Nat), s.up = true → Does (.tunnelQuiesce fid tid) s fun t =>
     (∀ d ∈ t.tun.ctxs, d.par.tid = tid → d.isEnd = true → d.state ≠ 2) ∧
     Sends s t (.msg (.fid fid) (.tunRsp tid 0 (s.copiesOf tid)))) ∧
  (∀ (s : State) (fid tid : Nat), s.up = true → s.isHost = false → s.pcx.wakeLow = false →
   Does (.tunnelQuiesce fid tid) s fun t =>
     (∀ d ∈ t.tun.ctxs, d.par.tid = tid → d.isEnd = true → d.state ≠ 2) ∧ t.regs = s.regs ∧
     t.outs = s.outs ++ [.msg (.fid fid) (.tunRsp tid 0 (s.copiesOf tid))]) ∧
  (∀ (s : State) (fid : Nat) (c : TunCtx), s.up = true → s.role = 2 → s.pcx.wakeLow = false → s.tun.ctxs = [c] → c.isEnd = true →
   c.state ≠ 4 → c.held = [] → c.ep / 4096 = 4 → Does (.tunnelCloseMessage fid c.par.tid) s fun t =>
     (t.ctx c.idx).map (fun d => (d.state, d.copies)) = some (4, []) ∧
     Sends s t (.msg (.fid fid) (.tunRsp c.par.tid 0 (s.copiesOf c.par.tid)))) ∧
  (∀ (s : State) (fid tid to_ : Nat), s.up = true → Does (.grantSet fid tid to_) s fun t =>
     (∀ d ∈ t.tun.ctxs, d.par.tid = tid → d.par.grant = to_) ∧ Sends s t (.msg (.fid fid) (.tunRsp tid 0 0))) ∧
  (∀ (s : State) (k : Nat) (c : TunCtx), s.up = true → s.role = 2 → s.pcx.wakeLow = false → s.ctx k = some c → c.idx = k →
   c.state = 1 → c.pos = 3 → c.await = false → s.crt.slots = [] → (s.sch 0).queue = [] → (s.sch 1).queue = [] →
   (s.sch 2).queue = [] → c.waiting = [] → Does (.openingTimeout k) s fun t =>
     t.ctx k = none ∧ t.regs = s.regs ∧ t.outs = s.outs)

/-- Opening, closing and moving tunnels, drains, and the mirrors of the TID map. The checks of R191 step 1 pass, the TID named
is free, and every device of the path set (none of them this one) answers INSTALL with OK and ACTIVATE: the map holds the TID
with its operands and the command completes OK with the TID, the indices and the number of devices. Of a tunnel between two
other devices: CLOSE without DRAIN frees its TID once both have confirmed, and completes OK with the copies discarded; RETARGET
quiesces and waits for its drain; GRANT and REVOKE set the grantee and complete OK; STATS answers the counters. A TID that is
not held fails with REASON 8. R192 and R194: when OUTST is 0, the close that waited frees its TID and completes OK; a retarget
whose drain times out without FORCE resumes both ends and completes TIMEOUT. R196: a device of a held TID that has reset is sent
its context again. R508: another host bridge applies the owner's map messages in the order of SEQ and answers; a gap is answered
as one and clears MAPVALID; an unanswered message is sent again as it was. Each of these commands completes: tunOpen, tunClose,
tunRetarget, tunGrant, tunRevoke, tunStats, drainComplete, drainTimeout, reinstallContexts, mapUpdateReceive, mapUpdateRetry;
under the stated conditions on the state and the operands alone, exec answers a next state, with the effect stated. -/
def Obligations.TunnelRows : Prop :=
  (∀ (s : State) (c : HostCmd) (ans : List DevAns) (p : TunPar) (x y : DevAns), s.up = true → Takes s c (openBits c.ops) →
   s.hostControls = true → c.target.toNat = 0 → s.tun.waits = [] → s.tun.next = [] → s.crt.cos = [] → s.tun.loop = [] →
   s.openPar c.ops = p → p.tid ≠ 0 → s.heldTid p.tid = none → s.checkTun { p with tid := 0 } p.policy p.fport ans = none →
   s.pathOf p ≠ [] → s.fid ∉ s.pathOf p →
   (∀ d ∈ s.pathOf p, (ansOf ans p.tid d).map (fun a => (a.inst, a.act)) = some (0, true)) → p.aFid ∈ s.pathOf p →
   p.bFid ∈ s.pathOf p → ansOf ans p.tid p.aFid = some x → ansOf ans p.tid p.bFid = some y → Does (.tunOpen c ans) s fun t =>
     (t.heldTid p.tid).map (fun h => (h.par, h.path)) = some (p, s.pathOf p) ∧
     Answers s t c 0x10 0x00 (resultOf [(0x08, p.tid), (0x0A, 0), (0x0B, 0), (0x0C, x.idxA), (0x0E, y.idxB), (0x10, (s.pathOf
       p).length)])) ∧
  (∀ (s : State) (c : HostCmd) (ans : List DevAns) (h : HeldTid), s.up = true → Takes s c [(0x08, 0, 16), (0x0A, 0, 1)] →
   s.hostControls = true → c.target.toNat = 0 → s.tun.waits = [] → s.tun.next = [] → s.crt.cos = [] → s.tun.loop = [] →
   opAt c 0x08 2 = h.par.tid → opAt c 0x0A 1 = 0 → h.par.tid < 4096 → h.par.tid ≠ 0 → s.tun.map = [h] → h.par.bundle = 0 →
   h.par.aFid ≠ h.par.bFid → s.fid ∉ s.pathHeld h → h.par.aFid ≠ s.fid → h.par.bFid ≠ s.fid →
   (∀ d ∈ s.pathHeld h, (ansOf ans h.par.tid d).map (fun a => a.rem) = some true) → Does (.tunClose c ans) s fun t =>
     t.heldTid h.par.tid = none ∧ Sends s t (.msg (.fid h.par.aFid) (.close h.par.tid)) ∧
     Sends s t (.msg (.fid h.par.bFid) (.close h.par.tid)) ∧
     Answers s t c 0x11 0x00 (resultOf [(0x08, (((ansOf ans h.par.tid h.par.aFid).elim 0 (fun a => a.copies)) + ((ansOf ans
       h.par.tid h.par.bFid).elim 0 (fun a => a.copies))) % 2 ^ 32)])) ∧
  (∀ (s : State) (c : HostCmd) (h : HeldTid), s.up = true →
   Takes s c [(0x08, 0, 16), (0x0A, 0, 8), (0x0B, 0, 8), (0x0C, 0, 16), (0x0E, 0, 1), (0x0F, 0, 8), (0x10, 0, 8)] →
   s.hostControls = true → c.target.toNat = 0 → s.tun.waits = [] → s.tun.next = [] → s.crt.cos = [] → s.tun.loop = [] →
   opAt c 0x08 2 = h.par.tid → opAt c 0x0A 1 ≤ 1 → h.par.tid < 4096 → h.par.tid ≠ 0 → s.tun.map = [h] → h.par.bundle = 0 →
   h.par.aFid ≠ h.par.bFid → h.par.aFid ≠ s.fid → h.par.bFid ≠ s.fid →
   s.checkTun (movedTo h.par (opAt c 0x0A 1 == 1) (opAt c 0x0B 1) (opAt c 0x0C 2) (opAt c 0x0F 1) (opAt c 0x10 1)) h.par.policy
     h.par.fport [] = none →
   Does (.tunRetarget c) s fun t =>
     t.tun.waits.map (fun w => (w.tid, w.kind, w.newFid, w.newEp)) = [(h.par.tid, 1, opAt c 0x0B 1, opAt c 0x0C 2)] ∧
     Sends s t (.msg (.fid h.par.aFid) (.quiesce h.par.tid)) ∧ Sends s t (.msg (.fid h.par.bFid) (.quiesce h.par.tid)) ∧
     (t.outs.drop s.outs.length).all (fun o => match o with | .completion .. => false | _ => true) = true) ∧
  (∀ (s : State) (c : HostCmd) (h : HeldTid), s.up = true → Takes s c [(0x08, 0, 16), (0x0A, 0, 8)] → s.hostControls = true →
   c.target.toNat = 0 → s.tun.waits = [] → s.tun.next = [] → s.crt.cos = [] → s.tun.loop = [] → opAt c 0x08 2 = h.par.tid →
   h.par.tid < 4096 → h.par.tid ≠ 0 → s.tun.map = [h] → s.fid ∉ s.pathHeld h → s.roleOf (opAt c 0x0A 1) = some 0 →
   Does (.tunGrant c) s fun t =>
     (t.heldTid h.par.tid).map (fun x => x.par) = some { h.par with grant := opAt c 0x0A 1 } ∧ Answers s t c 0x13 0x00 0) ∧
  (∀ (s : State) (c : HostCmd) (h : HeldTid), s.up = true → Takes s c [(0x08, 0, 16)] → s.hostControls = true →
   c.target.toNat = 0 → s.tun.waits = [] → s.tun.next = [] → s.crt.cos = [] → s.tun.loop = [] → opAt c 0x08 2 = h.par.tid →
   h.par.tid < 4096 → h.par.tid ≠ 0 → s.tun.map = [h] → s.fid ∉ s.pathHeld h → Does (.tunRevoke c) s fun t =>
     (t.heldTid h.par.tid).map (fun x => x.par) = some { h.par with grant := 0 } ∧ Answers s t c 0x14 0x00 0) ∧
  (∀ (s : State) (c : HostCmd) (x : TunCtx), Takes s c tunStatsBits → c.target.toNat = 0 → opAt c 0x08 2 < 4096 →
   opAt c 0x0A 1 = 0 → s.ctxOf (opAt c 0x08 2) = some x → s.fid = s.ownerFid → Does (.tunStats c) s fun t =>
     Answers s t c 0x15 0x00 x.stat.result ∧ t.tun = s.tun) ∧
  (∀ (s : State) (c : HostCmd), s.up = true → Takes s c [(0x08, 0, 16)] → s.hostControls = true → c.target.toNat = 0 →
   s.tun.waits = [] → s.tun.next = [] → s.crt.cos = [] → s.tun.loop = [] → opAt c 0x08 2 < 4096 → opAt c 0x08 2 ≠ 0 →
   s.heldTid (opAt c 0x08 2) = none → Does (.tunRevoke c) s fun t =>
     Answers s t c 0x14 0x03 (resultOf [(0x0A, 8)])) ∧
  (∀ (s : State) (ans : List DevAns) (h : HeldTid) (w : TunWait) (k : InFlight), s.up = true → s.get F.GLB_OWNER_STATE = 3 →
   s.tun.waits = [w] → w.who = .cmd k → w.kind = 0 → w.tid = h.par.tid → s.tun.map = [h] → h.par.bundle = 0 → s.tun.next = [] →
   s.tun.loop = [] → s.fid ∉ s.pathHeld h → h.par.aFid ≠ s.fid → h.par.bFid ≠ s.fid →
   (∀ d ∈ s.pathHeld h, (ansOf ans h.par.tid d).map (fun a => a.rem) = some true) → k ∈ s.ctl.inflight →
   Does (.drainComplete h.par.tid ans) s fun t =>
     t.heldTid h.par.tid = none ∧ t.tun.waits = [] ∧ k ∉ t.ctl.inflight) ∧
  (∀ (s : State) (ans : List DevAns) (h : HeldTid) (w : TunWait) (k : InFlight), s.up = true → s.get F.GLB_OWNER_STATE = 3 →
   s.tun.waits = [w] → w.who = .cmd k → w.kind = 1 → w.force = false → w.tid = h.par.tid → s.tun.map = [h] → h.par.bundle = 0 →
   s.tun.next = [] → s.tun.loop = [] → h.par.aFid ≠ h.par.bFid → h.par.aFid ≠ s.fid → h.par.bFid ≠ s.fid →
   s.cplReady k.pair = true → Does (.drainTimeout h.par.tid ans) s fun t =>
     t.tun.waits = [] ∧ t.tun.map = [h] ∧ Sends s t (.msg (.fid h.par.aFid) (.activate h.par.tid false)) ∧
     Sends s t (.msg (.fid h.par.bFid) (.activate h.par.tid false)) ∧
     Sends s t (.completion k.pair (s.get (F.GLB_RIDX_DEVIDX k.pair)) (s.ringPhase k.pair) (k.cpl 0x06 0))) ∧
  (∀ (s : State) (fid : Nat) (ans : List DevAns) (h : HeldTid), s.up = true → s.hostControls = true → fid ≠ s.fid →
   fid ∈ s.fab.live.nodes → s.tun.map = [h] → h.stale = [] → fid ∈ s.pathHeld h → h.par.aFid ≠ h.par.bFid → h.par.aFid ≠ fid →
   h.par.bFid ≠ fid → s.tun.loop = [] → Does (.reinstallContexts fid ans) s fun t =>
     Sends s t (.msg (.fid fid) (.install h.par none none)) ∧ Sends s t (.msg (.fid fid) (.activate h.par.tid false))) ∧
  (∀ (s : State) (fid : Nat) (m : MapMsg), s.up = true → s.isHost = true → fid = s.ownerFid → fid ≠ s.fid → m.full = false →
   idxDiff m.seq s.tun.mapSeq = 1 → s.tun.copyIn = .idle → Does (.mapUpdateReceive fid m) s fun t =>
     t.tun.mapSeq = m.seq ∧ t.tun.map = m.tids.foldl mapWith s.tun.map ∧ t.tun.binds = m.binds.foldl bindWith s.tun.binds ∧
     t.regs = s.regs ∧ t.outs = s.outs ++ [.msg (.fid fid) (.mapRsp (MapMsg.typ m) m.seq 0)]) ∧
  (∀ (s : State) (fid : Nat) (m : MapMsg), s.up = true → s.isHost = true → fid = s.ownerFid → fid ≠ s.fid → m.full = false →
   2 ≤ idxDiff m.seq s.tun.mapSeq → idxDiff m.seq s.tun.mapSeq < 32768 → Does (.mapUpdateReceive fid m) s fun t =>
     t.get F.TUN_STAT_MAPVALID = 0 ∧ t.tun.map = s.tun.map ∧
     t.outs = s.outs ++ [.msg (.fid fid) (.mapRsp (MapMsg.typ m) m.seq 1)]) ∧
  (∀ (s : State) (fid seq : Nat) (m : MapMsg), s.up = true →
   (s.tun.unanswered.find? (fun e => e.1 == fid && e.2.seq == seq) = some (fid, m)) → Does (.mapUpdateRetry fid seq) s fun t =>
     t = s.emit (.msg (.fid fid) (.map m)))

/-- Calendar slots, shapers, meters and epochs. R205 and R206: the slot that begins grants the credit of its entry to a queue of
class 4 or 6 that holds a frame, to at most 18,760 bytes; an idle entry moves the pointer alone. R210: a class shaper gains its
RATE, at most 100,000, up to its burst. R212: a meter's buckets gain their rates up to their bursts. R217: a boundary is taken
once, for the latest multiple of the epoch. Each of these commands completes: calendarSlot, shaperTick, meterTick,
epochBoundary; under the stated conditions on the state and the operands alone, exec answers a next state, with the effect
stated. -/
def Obligations.ClockedRows : Prop :=
  (∀ (s : State) (p q : Nat) (c : TunCtx), s.up = true → p < 3 → p < s.schs.length → (s.sch p).draining = none →
   s.get (F.ADT_STAT_RATE p) = 1 → s.get (F.ADT_STAT_TXLANES p) = 3 → s.get (F.SCH_SLOT_SLOTPS p) = 168000 →
   s.get (F.SCH_CALA_KIND p ((s.get (F.SCH_SLOT_POINTER p) + 1) % 1024)) = 1 →
   s.get (F.SCH_CALA_INDEX p ((s.get (F.SCH_SLOT_POINTER p) + 1) % 1024)) = q → s.holds p q = true → s.ctx q = some c →
   c.par.cls = 4 → Does (.calendarSlot p) s fun t =>
     t.get (F.SCH_SLOT_POINTER p) = (s.get (F.SCH_SLOT_POINTER p) + 1) % 1024 ∧
     assoc (t.sch p).ccred q = some (min 18760 ((assoc (s.sch p).ccred q).getD 0 + 1050)) ∧ t.outs = s.outs ∧
     RegsAgreeOff (fun a => a = A.SCH_SLOT p) s t) ∧
  (∀ (s : State) (p : Nat), s.up = true → p < 3 → (s.sch p).draining = none → s.get (F.ADT_STAT_RATE p) = 1 →
   s.get (F.ADT_STAT_TXLANES p) = 3 → s.get (F.SCH_SLOT_SLOTPS p) = 168000 →
   s.get (F.SCH_CALA_KIND p ((s.get (F.SCH_SLOT_POINTER p) + 1) % 1024)) = 0 → Does (.calendarSlot p) s fun t =>
     t = s.put (F.SCH_SLOT_POINTER p) ((s.get (F.SCH_SLOT_POINTER p) + 1) % 1024)) ∧
  (∀ (s : State) (p k : Nat), s.up = true → p < 3 → p < s.schs.length → k < 8 → s.classRate p k ≠ 0 →
   Does (.shaperTick) s fun t =>
     assoc (t.sch p).clTok k = some (min ((assoc (s.sch p).clTok k).getD 0 + min 100000 (s.classRate p k)) (512 * max 16 (s.get
       (F.SCH_CSHA1_DEPTH p k)) : Nat)) ∧
     t.regs = s.regs ∧ t.outs = s.outs) ∧
  (∀ (s : State) (x : MeterSt), s.up = true → x ∈ s.meters → Does (.meterTick) s fun t =>
     { m := x.m, c := min (x.c + min 100000 (s.meterCfg x.m).cir) (s.meterCfg x.m).cbs, p := min (x.p + min 100000 (s.meterCfg x.m).pir) (s.meterCfg x.m).pbs }
       ∈ t.meters ∧
     t.meters.length = s.meters.length ∧ t.regs = s.regs ∧ t.outs = s.outs) ∧
  (∀ (s : State) (p : Nat), s.up = true → p < 3 → p < s.schs.length → s.coreClocked = true →
   (s.sch p).lastBound < s.now / s.epochNs p * s.epochNs p → (s.sch p).staged = none → s.metStaged = none →
   s.get (F.SCH_STAT_MODE p) = 0 → (s.sch p).activeQ.length ≤ 256 → Does (.epochBoundary p) s fun t =>
     (t.sch p).lastBound = s.now / s.epochNs p * s.epochNs p ∧ (t.sch p).activeQ = (s.sch p).queues ∧
     t.get (F.SCH_STAT_ACTQ p) = (s.sch p).activeQ.length ∧ t.outs = s.outs ∧ RegsAgreeOff (fun a => a = A.SCH_STAT p) s t) ∧
  (∀ (s : State) (p : Nat), s.up = true → p < 3 → s.now / s.epochNs p * s.epochNs p ≤ (s.sch p).lastBound →
     exec (.epochBoundary p) s = .next s)

/-- A commit is staged, and becomes active on an empty port; latency samples and high-water marks. R218: SCH_COMMIT for one
scheduler stages it 10 µs ahead, sets PEND and locks the shadow; with no block named it fails with REASON 1. R219 and R220: the
swap clears PEND, LOCK and the drain, counts the commit and, where no frame is ready to start, gives the drain time. R225: a
queue that holds a frame is recorded with its depth and the age of its head, toward the owner; R226: HWCLR clears every mark of
the port. Each of these commands completes: schCommit, commitSwap, latencySample, highWaterClear; under the stated conditions on
the state and the operands alone, exec answers a next state, with the effect stated. -/
def Obligations.CommitObservationRows : Prop :=
  (∀ (s : State) (c : HostCmd) (p : Nat), Takes s c schCommitBits → s.hostControls = true → c.target.toNat = 0 → p < 3 →
   p < s.schs.length → opAt c 0x08 1 = 2 ^ p → opAt c 0x09 1 = 0 → (s.sch p).staged = none → Does (.schCommit c) s fun t =>
     (t.sch p).staged = some { at_ := some (s.now + 10000), late := none, group := s.nextGroup, cart := none } ∧
     t.get (F.SCH_STAT_PEND p) = 1 ∧ t.get (F.SCH_STAT_LOCK p) = 1 ∧ t.nextGroup = s.nextGroup + 1 ∧ t.outs = s.outs) ∧
  (∀ (s : State) (c : HostCmd), Takes s c schCommitBits → s.hostControls = true → c.target.toNat = 0 → opAt c 0x08 1 = 0 →
   Does (.schCommit c) s fun t =>
     Answers s t c 0x20 0x03 (resultOf [(0x14, 1)])) ∧
  (∀ (s : State) (p : Nat) (d : Drain) (g : Staged), s.up = true → p < 3 → (s.sch p).draining = some d →
   (s.sch p).staged = some g → (s.sch p).queue = [] → Does (.commitSwap p) s fun t =>
     (t.sch p).draining = none ∧ (t.sch p).staged = none ∧ t.get (F.SCH_STAT_PEND p) = 0 ∧ t.get (F.SCH_STAT_LOCK p) = 0 ∧
     t.get (F.SCH_COMMITS p) = (s.get (F.SCH_COMMITS p) + 1) % 2 ^ 32 ∧ t.get (F.SCH_DRAIN_LAST p) = min (s.now - d.t0) 0xFFFF) ∧
  (∀ (s : State) (p q : Nat) (h : QFrame), s.up = true → p < 3 → s.get (F.SCH_STAT_MODE p) = 0 → s.get (F.SCH_CTRL_OBSEN p) = 1 →
   ((List.range 1024).filter (fun k => s.holds p k) = [q]) → s.head p q = some h → s.isHost = false → s.ownerFid ≠ 0 →
   Does (.latencySample p) s fun t =>
     Sends s t (.msg (.fid s.ownerFid) (.event
       { evnum := (30 + 2 * p) * 8, masked := false, remote := false, src := s.fid, sec := s.sec, ns := s.ns, data := evData ((30 + 2 * p) * 8) [q, h.f.tid, min ((s.sch p).depth q) 0xFFFFFFFF, min (s.now - h.at_) 0xFFFFFFFF] }))
       ∧
     t.regs = s.regs ∧ t.tun = s.tun) ∧
  (∀ (s : State) (r : Req) (p a : Nat) (v : Word), p < 3 → s.busOpen r = true → r ≠ .smbus → s.boot.pers ≠ 1 →
   s.mayControl r = true → bitsOf v 16 1 = 1 → A.SCH_HW0 p 0 ≤ a → a < A.SCH_HW0 p 0 + 8192 → (a ∈ s.regs.map (fun e => e.1)) →
   Does (.highWaterClear r p v) s fun t =>
     t.rd a = 0 ∧ t.get (F.SCH_OBSCFG_INTERVAL p) = bitsOf v 0 10 ∧ t.outs = s.outs ∧
     RegsAgreeOff (fun b => b = A.SCH_OBSCFG p ∨ (A.SCH_HW0 p 0 ≤ b ∧ b < A.SCH_HW0 p 0 + 8192)) s t)

/-- TLPs into a bundle, requests that time out, read-ahead. R236: a posted TLP of a dock port enters the posted tunnel of the
port's bundle; R230: a request that finds no bundle is answered Unsupported Request on its link. R240: a request not completed
in PCX_CTO is completed for its requester, and counted. R243 and R244: a host read that a buffer holds is completed from it;
bytes unclaimed for 10 µs are discarded, logged and counted. Each of these commands completes: pcieTlpReceive,
completionTimeout, readaheadExpiry; under the stated conditions on the state and the operands alone, exec answers a next state,
with the effect stated. -/
def Obligations.TlpRows : Prop :=
  (∀ (s : State) (k p : Nat) (bytes : List (BitVec 8)) (c : TunCtx), s.serdesUp = true → k < 4 → s.role = 1 →
   tlpDropped (tlpHeader bytes) = false → tlpClass (tlpHeader bytes) = 0 → s.portLeader k = some c → OpenWay s c bytes.length p →
   Does (.pcieTlpReceive k bytes) s fun t =>
     TookIn t c ∧ t.outs = s.outs) ∧
  (∀ (s : State) (k : Nat) (bytes : List (BitVec 8)), s.serdesUp = true → k < 4 → s.role = 1 →
   tlpDropped (tlpHeader bytes) = false → tlpClass (tlpHeader bytes) = 1 → s.portLeader k = none →
   Does (.pcieTlpReceive k bytes) s fun t =>
     t = s.emit (.tlp k (cplEnd (tlpHeader bytes) k 1 (tlpCount (tlpHeader bytes))))) ∧
  (∀ (s : State) (c : TunCtx) (bytes : List (BitVec 8)) (b : RaBuf), s.serdesUp = true → s.isHost = true → s.boot.pers = 2 →
   tlpDropped (tlpHeader bytes) = false → tlpRead (tlpHeader bytes) = true →
   (s.slotsFor (tlpHeader bytes)).filterMap s.slotLeader = [c] →
   s.bufFor c.unit (tlpFirst (tlpHeader bytes)) (tlpCount (tlpHeader bytes)) = some b → c.pos = 1 →
   Does (.pcieTlpReceive 4 bytes) s fun t =>
     t.regs = s.regs ∧ t.tun = s.tun ∧
     t.outs = s.outs ++ [.tlp 4 (cplHeader (tlpHeader bytes) b.slot 0 (tlpCount (tlpHeader bytes)) (tlpLen (tlpHeader bytes))
       (tlpFirst (tlpHeader bytes)) ++ (List.replicate (tlpFirst (tlpHeader bytes) % 4) 0 ++ (slice b.bytes (tlpFirst (tlpHeader
       bytes) - b.addr) (tlpCount (tlpHeader bytes))).map (fun x => x.getD 0) ++ List.replicate (tlpTrail (tlpHeader bytes))
       0))]) ∧
  (∀ (s : State) (lead req tag p : Nat) (x : ReqIn) (c m : TunCtx), s.serdesUp = true →
   (s.pcx.ins.find? (fun i => i.lead == lead && i.req == req && i.tag == tag) = some x) →
   (s.tun.ctxs.find? (fun c => c.par.tid == lead && c.isEnd) = some c) → s.bundle lead c.pos 2 = some m → OpenWay s m 12 p →
   s.due (some x.at_) (1000000 * max 1 (min 1000 (s.get F.PCX_CTO_MS))) = true →
   Does (.completionTimeout lead req tag) s fun t =>
     t.pcx.ins = s.pcx.ins.filter (fun i => i != x) ∧ TookIn t m ∧
     t.get F.PCX_CPLSYN = min (s.get F.PCX_CPLSYN + 1) (2 ^ 32 - 1)) ∧
  (∀ (s : State) (slot addr j : Nat) (b : RaBuf), s.serdesUp = true → slot < 16 →
   (s.pcx.bufs.filter (fun x => x.slot == slot && x.addr == addr) = [b]) → (b.bytes.findIdx? (fun x => x.isSome) = some j) →
   Does (.readaheadExpiry slot addr) s fun t =>
     t.pcx.bufs = s.pcx.bufs.filter (fun x => !(x.slot == slot && x.addr == addr)) ∧
     t.get F.PCX_PDCNT = min (s.get F.PCX_PDCNT + 1) (2 ^ 32 - 1) ∧ t.get (F.PCX_PDL2_SLOT (s.get F.PCX_PDLHEAD_NEXT)) = slot ∧
     t.get (F.PCX_PDL2_CAUSE (s.get F.PCX_PDLHEAD_NEXT)) = 1 ∧ t.get F.PCX_PDLHEAD_NEXT = (s.get F.PCX_PDLHEAD_NEXT + 1) % 32)

/-- Writes to a virtual port and hot-plug moves; side-band summaries, posted-error notices and dock port links. R242: a host's
write of bus numbers takes effect and completes; one of the target link speed is sent to the bound dock and waits. R251: a
removal asks the old host first; its time-out completes TIMEOUT; the wait for the new link that ends completes OK. R248: a
summary leaves with the next SEQ; one that arrives is kept where it is newer. R246: a notice is held at its slot with the TLP's
header. R234: a dock port whose link comes up shows its speed and width. Each of these commands completes:
virtualPortConfigWrite, pcxHotplug, hotplugTmoExpiry, hotplugLinkWaitExpiry, sidebandSummarySend, sidebandSummaryReceive,
postedErrorNoticeReceive, dockPortLinkChange; under the stated conditions on the state and the operands alone, exec answers a
next state, with the effect stated. -/
def Obligations.HotPlugSidebandRows : Prop :=
  (∀ (s : State) (k v w : Nat), s.serdesUp = true → k < 16 → k < s.pcx.slots.length → s.isHost = true → s.pcx.hp = [] →
   Does (.virtualPortConfigWrite k .buses v w) s fun t =>
     (t.slot k).secBus = v ∧ (t.slot k).subBus = w ∧ t.regs = s.regs ∧ t.outs = s.outs ++ [.pcie (.cfgDone k)]) ∧
  (∀ (s : State) (k v w : Nat) (l : TunCtx), s.serdesUp = true → k < 16 → k < s.pcx.slots.length → s.isHost = true →
   s.pcx.hp = [] → s.slotLeader k = some l → Does (.virtualPortConfigWrite k .targetSpeed v w) s fun t =>
     (t.slot k).speed = v ∧ t.pcx.cfgWaits = s.pcx.cfgWaits ++ [{ id := s.ctl.nextReq, slot := k, hdr := none }] ∧
     t.outs = s.outs ++ [.msg (.fid l.par.bFid) (.portCtl s.ctl.nextReq (l.par.epB % 4096) 3 v)]) ∧
  (∀ (s : State) (c : HostCmd) (ans : List DevAns) (p : TunPar),
   Takes s c [(0x08, 0, 6), (0x09, 0, 2), (0x0A, 0, 6), (0x0B, 0, 4), (0x0C, 0, 1), (0x10, 0, 32)] → s.hostControls = true →
   c.target = 0 → s.pcx.hp = [] → s.pcx.asks = [] → s.roleOf (opAt c 0x08 1) = some 1 → opAt c 0x0A 1 = 0 → opAt c 0x0C 1 = 0 →
   1 ≤ opAt c 0x10 4 → opAt c 0x10 4 ≤ 60000 →
   ((s.tun.map.find? (fun x => x.par.typ == 0 && x.par.bFid == opAt c 0x08 1 && x.par.epB == 4096 + opAt c 0x09 1 && x.stale ==
     [])).map (fun x => x.par) = some p) →
   p.aFid ≠ s.fid → Does (.pcxHotplug c ans) s fun t =>
     Sends s t (.msg (.fid p.aFid) (.portCtl s.ctl.nextReq (p.epA % 4096) 9 1)) ∧
     t.pcx.hp.map (fun h => (h.step, h.tid, h.req)) = [(1, p.tid, s.ctl.nextReq)]) ∧
  (∀ (s : State) (h : HotPlug), s.up = true → s.pcx.hp = [h] → h.step = 1 → h.code = none → h.oldFid ≠ s.fid →
   s.cplReady h.ticket.pair = true → Does (.hotplugTmoExpiry) s fun t =>
     t.pcx.hp = [] ∧ Sends s t (.msg (.fid h.oldFid) (.portCtl s.ctl.nextReq h.oldSlot 9 0)) ∧
     Sends s t (.completion (h.ticket.pair) (s.get (F.GLB_RIDX_DEVIDX (h.ticket.pair))) (s.ringPhase (h.ticket.pair))
       (h.ticket.cpl 0x06 (resultOf [(0x08, h.tid), (0x0A, 0), (0x0C, h.freed % 2 ^ 32), (0x10, 0)])))) ∧
  (∀ (s : State) (h : HotPlug), s.up = true → s.pcx.hp = [h] → h.step = 6 → h.code = none → s.cplReady h.ticket.pair = true →
   Does (.hotplugLinkWaitExpiry) s fun t =>
     t.pcx.hp = [] ∧
     Sends s t (.completion (h.ticket.pair) (s.get (F.GLB_RIDX_DEVIDX (h.ticket.pair))) (s.ringPhase (h.ticket.pair))
       (h.ticket.cpl 0x00 (resultOf [(0x08, h.tid), (0x0A, 0), (0x0C, h.freed % 2 ^ 32), (0x10, 0)])))) ∧
  (∀ (s : State) (tid p : Nat) (pins : SidePins) (c : TunCtx), s.serdesUp = true → s.role ≠ 1 →
   (s.tun.ctxs.find? (fun c => c.par.tid == tid && c.isEnd && c.par.typ == 3 && c.state == 2) = some c) → OpenWay s c 16 p →
   Does (.sidebandSummarySend tid pins) s fun t =>
     assoc t.pcx.sumSeq tid = some (((assoc s.pcx.sumSeq tid).getD 0 + 1) % 65536) ∧ TookIn t c) ∧
  (∀ (s : State) (tid : Nat) (bytes : List (BitVec 8)) (c : TunCtx), s.serdesUp = true → s.role = 1 →
   (s.tun.ctxs.find? (fun c => c.par.tid == tid && c.isEnd && c.par.typ == 3) = some c) → byteAt bytes 0 = 1 →
   byteAt bytes 1 / 4 % 2 = 0 → (s.pcx.sums.find? (fun e => e.tid == c.par.tid) = none) →
   Does (.sidebandSummaryReceive tid bytes) s fun t =>
     t.pcx.sums = s.pcx.sums ++ [{ tid := c.par.tid, seq := leNat (slice bytes 8 2), bytes := bytes }] ∧ t.regs = s.regs ∧
     t.outs = s.outs) ∧
  (∀ (s : State) (tid : Nat) (bytes : List (BitVec 8)) (c : TunCtx), s.serdesUp = true →
   (s.tun.ctxs.find? (fun c => c.par.tid == tid && c.isEnd && c.par.typ == 3) = some c) → byteAt bytes 0 = 2 → c.pos = 1 →
   c.unit < s.pcx.slots.length → Does (.postedErrorNoticeReceive tid bytes) s fun t =>
     (t.slot c.unit).hdrLog = slice bytes 32 16 ∧ t.tun = s.tun ∧ RegsAgreeOff EventReg s t) ∧
  (∀ (s : State) (k speed width : Nat), s.serdesUp = true → k < 4 → s.role = 1 → k < s.dockPorts →
   s.bit (F.PCX_PORTSTAT_DISABLED k) = false → s.boot.perstOut = true → width = s.dockLanes → 1 ≤ speed → speed ≤ s.pcieMax →
   speed ≤ (s.dport k).speed → Does (.dockPortLinkChange k true speed width) s fun t =>
     t.get (F.PCX_PORTSTAT_LINKUP k) = 1 ∧ t.get (F.PCX_PORTSTAT_SPEED k) = speed ∧ t.get (F.PCX_PORTSTAT_WIDTH k) = width ∧
     RegsAgreeOff (fun a => a = A.PCX_PORTSTAT k ∨ EventReg a) s t) ∧
  (∀ (s : State) (k speed width : Nat), s.serdesUp = true → k < 4 → s.role = 1 → k < s.dockPorts →
   s.bit (F.PCX_PORTSTAT_LINKUP k) = true → Does (.dockPortLinkChange k false speed width) s fun t =>
     t.get (F.PCX_PORTSTAT_LINKUP k) = 0 ∧ t.get (F.PCX_PORTSTAT_SPEED k) = 0 ∧ t.get (F.PCX_PORTSTAT_WIDTH k) = 0 ∧
     (∀ o ∈ t.pcx.outs, o.unit ≠ k))

/-- The inputs: training, modes, HPD, reflection buffers, captured frames and bands. Of a host bridge: an enabled input that
trains shows rate and lanes and its reflection buffer is due a clear (R263); a new mode shows its size; IRQ pulses DP_HPD low
for 750 µs (R257); a frame start takes the pending clear and the sweep; the damaged tiles of a band, and no others, join the
queue in order (R260). Each of these commands completes: dpInputTrain, dpInputModeChange, irqHpdPulse, reflectionClear,
captureFrameStart, captureBandEnd; under the stated conditions on the state and the operands alone, exec answers a next state,
with the effect stated. -/
def Obligations.InputRows : Prop :=
  (∀ (s : State) (k rate lanes : Nat), s.serdesUp = true → k < 2 → k < s.srcs.length → s.isHost = true →
   s.bit (F.DSC_IN_CTRL_EN k) = true → (s.src k).live = false → rate ≤ s.inRate k → lanes ∈ [1, 2, 4] → lanes ≤ s.inLanes k →
   Does (.dpInputTrain k true rate lanes) s fun t =>
     t.get (F.DSC_IN_STAT_TRAINED k) = 1 ∧ t.get (F.DSC_IN_STAT_RATE k) = rate ∧ t.get (F.DSC_IN_STAT_LANES k) = lanes ∧
     (t.src k).clear = true ∧ RegsAgreeOff (fun a => a = A.DSC_IN_STAT k ∨ EventReg a) s t) ∧
  (∀ (s : State) (k : Nat) (m : InMode), s.serdesUp = true → k < 2 → k < s.srcs.length → s.isHost = true →
   s.bit (F.DSC_IN_STAT_TRAINED k) = true → (s.src k).live = false → s.inTakes k m = true → m.video = true →
   m.w ≠ (s.src k).mode.w → m.hdcp = 0 → (s.src k).mode.hdcp = 0 → Does (.dpInputModeChange k m) s fun t =>
     (t.src k).mode = m ∧ 0 ∈ (t.src k).due ∧ (t.src k).clear = true ∧ t.get (F.DSC_IN_MODE_HACT k) = m.w ∧
     t.get (F.DSC_IN_MODE_VACT k) = m.h ∧ RegsAgreeOff (fun a => a = A.DSC_IN_STAT k ∨ a = A.DSC_IN_MODE k ∨ EventReg a) s t) ∧
  (∀ (s : State) (r : Req) (k : Nat), s.serdesUp = true → k < 2 → s.isHost = true → s.busOpen r = true → r ≠ .smbus →
   s.boot.pers ≠ 1 → s.mayControl r = true → (s.bit (F.DSC_IN_CTRL_HDCPEN k) = true ∨ (s.src k).mode.hdcp = 0) →
   Does (.irqHpdPulse r k) s fun t =>
     t.rd (A.DSC_IN_CTRL k) = s.rd (A.DSC_IN_CTRL k) &&& 0x7FB#32 ∧ t.outs = s.outs ++ [.pulse (.dpHpd k) false 750000] ∧
     RegsAgreeOff (fun a => a = A.DSC_IN_CTRL k) s t) ∧
  (∀ (s : State) (r : Req) (k : Nat), s.serdesUp = true → k < 2 → s.isHost = true → s.busOpen r = true → r ≠ .smbus →
   s.boot.pers ≠ 1 → s.mayControl r = true → Does (.reflectionClear r k) s fun t =>
     t = s.srcM k (fun x => { x with clear := true })) ∧
  (∀ (s : State) (k period : Nat) (enc : Bool), s.serdesUp = true → k < 2 → k < s.srcs.length → s.isHost = true →
   s.bit (F.DSC_IN_STAT_TRAINED k) = true → s.bit (F.DSC_IN_STAT_VIDEO k) = true → (s.src k).clear = true → period < 2 ^ 26 →
   (enc = true → s.bit (F.DSC_IN_STAT_HDCPAUTH k) = true) → Does (.captureFrameStart k enc period) s fun t =>
     (t.src k).refl = [] ∧ (t.src k).clear = false ∧ (t.src k).live = true ∧ (t.src k).enc = enc ∧
     t.get (F.DSC_IN_PERIOD_NS k) = period ∧ t.bit (F.DSC_IN_STAT_HDCPENC k) = enc ∧ t.outs = s.outs) ∧
  (∀ (s : State) (k j aud : Nat) (d : Band) (c : TunCtx), s.serdesUp = true → k < 2 → k < s.srcs.length → s.isHost = true →
   (s.src k).live = true → (s.src k).enc = false → (s.src k).items = [] → j + 1 < (s.src k).grid.2 → s.srcEnd k = some c →
   c.state = 3 → c.par.cls = 4 → Does (.captureBandEnd k j aud d) s fun t =>
     (t.src k).items.filterMap (fun x => match x with | .tile n _ _ _ _ _ => some n | _ => none) = (((s.src k).units j d).filter
       (fun u => (s.src k).swept u.1 || !((s.src k).refl.any fun e => e.1 == u.1 && e.2 == u.2.1))).map (fun u => u.1) ∧
     (t.src k).band = (s.src k).band + 1 ∧ t.get F.DSC_AUDDROP = min (s.get F.DSC_AUDDROP + aud) (2 ^ 32 - 1) ∧ t.outs = s.outs)

/-- The push path and the admission of tiles; records that reach a source. R265: enabling a push ring starts it at index 0; a
valid doorbell sets the host index. R267: a descriptor reads the rectangles of host memory its tiles cover, queues the tiles,
its own end, and with EOF then its FRAME_END; it is not written back before its tiles have gone. R261: what waits is admitted as
its tunnel takes it. REFRESH clears the reflection buffer of an input (R263); SINK and HDCP_RXID are held for the input's source
(R292). Each of these commands completes: pushRingEnable, pushDoorbell, pushDescriptor, tileAdmission, refreshRecord,
sinkRecord, hdcpRxidRecord; under the stated conditions on the state and the operands alone, exec answers a next state, with the
effect stated. -/
def Obligations.PushSourceRows : Prop :=
  (∀ (s : State) (k : Nat) (v : Word), s.serdesUp = true → k < 4 → s.fnOpen = true → bitsOf v 0 1 = 1 → 4 ≤ bitsOf v 8 5 →
   bitsOf v 8 5 ≤ 16 → s.get (F.PUSH_CFG_EN k) = 0 → Does (.pushRingEnable k v) s fun t =>
     t.rd (A.PUSH_CFG k) = v &&& 0x00471F01#32 ∧ t.rd (A.PUSH_IDX k) = 0 ∧ t.outs = s.outs ∧
     RegsAgreeOff (fun a => a = A.PUSH_CFG k ∨ a = A.PUSH_IDX k) s t) ∧
  (∀ (s : State) (k : Nat) (v : Word), s.serdesUp = true → k < 4 → s.fnOpen = true → s.get (F.PUSH_CFG_EN k) = 1 →
   bitsOf v 16 16 = 0 → idxDiff (bitsOf v 0 16) (s.get (F.PUSH_IDX_DEVIDX k)) ≤ s.pushCap k → Does (.pushDoorbell k v) s fun t =>
     t.get (F.PUSH_IDX_HOSTIDX k) = bitsOf v 0 16 ∧ t.get (F.PUSH_IDX_DEVIDX k) = s.get (F.PUSH_IDX_DEVIDX k) ∧ t.outs = s.outs) ∧
  (∀ (s : State) (k : Nat) (d : PushDesc) (c : TunCtx), s.serdesUp = true → k < 4 → k + 2 < s.srcs.length → s.isHost = true →
   s.get (F.PUSH_CFG_EN k) = 1 → (s.src (k + 2)).items = [] →
   idxDiff (s.get (F.PUSH_IDX_HOSTIDX k)) (s.get (F.PUSH_IDX_DEVIDX k)) ≠ 0 → s.srcEnd (k + 2) = some c → c.state = 2 →
   c.paused = 0 → c.held ≠ [] → c.par.men = false → s.mayUse c = true → d.opcode = 1 → d.clean = true → pushOk d = true →
   d.full = true → Does (.pushDescriptor k d) s fun t =>
     (pushTiles d (s.get (frameReg (k + 2))) ++ [.pushEnd d.eof] ++ (if d.eof then [.frameEnd (s.get (frameReg (k + 2)))] else
       [])) <:+ (t.src (k + 2)).items ∧
     (t.src (k + 2)).mode.w = d.w ∧ (t.src (k + 2)).mode.h = d.h ∧ t.regs = s.regs ∧ t.outs = s.outs ++ pushReads d) ∧
  (∀ (s : State) (k p : Nat) (b : List (BitVec 8)) (c : TunCtx), s.serdesUp = true → k < 6 → k < s.srcs.length →
   (s.src k).items = [.record b] → c.ep = srcEp k → c.par.typ = 4 → OpenWay s c b.length p → Does (.tileAdmission k) s fun t =>
     (t.src k).items = [] ∧ TookIn t c ∧ t.outs = s.outs) ∧
  (∀ (s : State) (tid k : Nat) (bytes b : List (BitVec 8)), s.serdesUp = true → s.srcOf tid = some k → k < 2 →
   k < s.srcs.length → readRecord bytes = some (0x10, b) → b.length = 4 → byteAt bytes 0 = 0x10 →
   Does (.refreshRecord tid bytes) s fun t =>
     (t.src k).clear = true ∧ t.tun = s.tun ∧ RegsAgreeOff EventReg s t) ∧
  (∀ (s : State) (tid k : Nat) (bytes b : List (BitVec 8)), s.serdesUp = true → s.srcOf tid = some k → k < s.srcs.length →
   readRecord bytes = some (0x11, b) → b.length = 19 + leNat (slice b 17 2) → b.length ≤ 531 → byteAt bytes 0 = 0x11 →
   Does (.sinkRecord tid bytes) s fun t =>
     (t.src k).sink = b ∧ t.tun = s.tun ∧
     RegsAgreeOff (fun a => k < 2 ∧ byteAt b 0 = 1 ∧ A.DSC_EDID k 0 ≤ a ∧ a ≤ A.DSC_EDID k 127) s t) ∧
  (∀ (s : State) (tid k : Nat) (bytes b : List (BitVec 8)), s.serdesUp = true → s.srcOf tid = some k → k < s.srcs.length →
   readRecord bytes = some (0x12, b) → b.length = 7 → byteAt bytes 0 = 0x12 → Does (.hdcpRxidRecord tid bytes) s fun t =>
     (t.src k).rxids = b ∧ t.regs = s.regs ∧ t.tun = s.tun)

/-- Tiles and records at an output. A whole tile is decoded into the one free buffer of the building map and its frame store
(R290); a new mode takes Q and B and asks for REFRESH (R293); FRAME_END makes the building map Q (R291); METADATA and PPS are
held (R292). Each of these commands completes: tileFragmentReceive, modeRecord, frameEndRecord, metadataRecord, ppsRecord; under
the stated conditions on the state and the operands alone, exec answers a next state, with the effect stated. -/
def Obligations.OutputRecordRows : Prop :=
  (∀ (s : State) (tid k buf : Nat) (b : List (BitVec 8)) (ls : List (List Word)) (c : TunCtx), s.serdesUp = true →
   s.outOf tid = some k → s.endAt (0x3000 + k) 4 = some c → c.waiting = [] → k < s.dispOuts.length → (s.dout k).refused = false →
   (s.dout k).asm = none → (s.dout k).mode.dsc = false → fragOk none b true = true → byteAt b 1 = 0 →
   leNat (slice b 8 2) < (gridOf (s.dout k).mode.w (s.dout k).mode.h false (s.dout k).pps).1 →
   leNat (slice b 10 2) < (gridOf (s.dout k).mode.w (s.dout k).mode.h false (s.dout k).pps).2 →
   byteAt b 12 % 64 + 1 = min 64 ((s.dout k).mode.w - 64 * leNat (slice b 8 2)) →
   byteAt b 13 % 64 + 1 = min 64 ((s.dout k).mode.h - 64 * leNat (slice b 10 2)) →
   decodeTile (min 64 ((s.dout k).mode.w - 64 * leNat (slice b 8 2))) (min 64 ((s.dout k).mode.h - 64 * leNat (slice b 10 2)))
     none (b.drop 16) = some ls →
   s.freeBufs k (leNat (slice b 10 2) * (gridOf (s.dout k).mode.w (s.dout k).mode.h false (s.dout k).pps).1 + leNat (slice b 8
     2)) = [buf] →
   Does (.tileFragmentReceive tid b true) s fun t =>
     ((t.dout k).b.bind fun m => assoc m (leNat (slice b 10 2) * (gridOf (s.dout k).mode.w (s.dout k).mode.h false (s.dout
       k).pps).1 + leNat (slice b 8 2))) = some { buf := buf, prot := false } ∧
     assoc t.store.slots (s.slotOf k buf (leNat (slice b 10 2) * (gridOf (s.dout k).mode.w (s.dout k).mode.h false (s.dout
       k).pps).1 + leNat (slice b 8 2))) = some (strideLines ls) ∧
     (t.dout k).bFrame = leNat (slice b 4 4) ∧ t.outs = s.outs) ∧
  (∀ (s : State) (tid k p : Nat) (bytes b : List (BitVec 8)) (c : TunCtx), s.serdesUp = true → s.outOf tid = some k →
   k < s.dispOuts.length → k < 4 → readRecord bytes = some (1, b) → byteAt bytes 0 = 1 → b.length = 12 →
   (readMode b).dsc = false → (s.dout k).mode.w ≠ (readMode b).w → s.fits k (readMode b) (s.dout k).pps = true →
   c.ep = 0x3000 + k → c.par.typ = 4 → c.waiting = [] → OpenWay s c 8 p → Does (.modeRecord tid bytes) s fun t =>
     (t.dout k).mode = readMode b ∧ (t.dout k).q = none ∧ (t.dout k).b = none ∧ TookIn t c ∧ t.outs = s.outs) ∧
  (∀ (s : State) (tid k : Nat) (bytes b : List (BitVec 8)) (m : List (Nat × MapTile)) (c : TunCtx), s.serdesUp = true →
   s.outOf tid = some k → s.endAt (0x3000 + k) 4 = some c → c.waiting = [] → k < s.dispOuts.length → k < 4 →
   readRecord bytes = some (2, b) → byteAt bytes 0 = 2 → b.length = 12 → (s.dout k).refused = false →
   s.bit (F.DSO_OUT_CTRL_HELD k) = false → (s.dout k).b = some m → (s.dout k).bFrame = leNat (slice b 0 4) → byteAt b 8 % 2 = 0 →
   Does (.frameEndRecord tid bytes) s fun t =>
     (t.dout k).q = some m ∧ (t.dout k).b = none ∧ (t.dout k).qFrame = leNat (slice b 0 4) ∧ t.get (F.DSO_OUT_STAT_PEND k) = 1 ∧
     t.get (F.DSO_OUT_STAT_BUILD k) = 0 ∧ t.outs = s.outs ∧
     RegsAgreeOff (fun a => a = A.DSO_OUT_STAT k ∨ a = A.DSO_SUPERSEDE) s t) ∧
  (∀ (s : State) (tid k : Nat) (bytes b : List (BitVec 8)) (c : TunCtx), s.serdesUp = true → s.outOf tid = some k →
   s.endAt (0x3000 + k) 4 = some c → c.waiting = [] → k < s.dispOuts.length → readRecord bytes = some (3, b) →
   byteAt bytes 0 = 3 → b.length ≤ 64 → Does (.metadataRecord tid bytes) s fun t =>
     (t.dout k).mdata = b ∧ t.regs = s.regs ∧ t.outs = s.outs) ∧
  (∀ (s : State) (tid k : Nat) (bytes b : List (BitVec 8)) (c : TunCtx), s.serdesUp = true → s.outOf tid = some k →
   s.endAt (0x3000 + k) 4 = some c → c.waiting = [] → k < s.dispOuts.length → readRecord bytes = some (4, b) →
   byteAt bytes 0 = 4 → b.length = 128 → (s.dout k).mode.dsc = false → Does (.ppsRecord tid bytes) s fun t =>
     (t.dout k).pps = b ∧ t.regs = s.regs ∧ t.outs = s.outs)

/-- Boundaries, flips, enables and monitors. R294 and R298: a boundary counts the frame, and of an output not HELD shows Q;
R299: DSO_FLIP is carried to its device, which arms the outputs it names; R296: an output that its checks allow is enabled; a
monitor shows in HPD. Each of these commands completes: frameBoundary, dsoFlip, mgmtReqReceive, outputEnable,
outputRefreshRequest, monitorHotplug; under the stated conditions on the state and the operands alone, exec answers a next
state, with the effect stated. -/
def Obligations.OutputRows : Prop :=
  (∀ (s : State) (k : Nat) (q : List (Nat × MapTile)), s.serdesUp = true → s.hasOuts = true →
   ((s.tun.ctxs.all fun c => c.waiting.isEmpty) = true) → k < 4 → k < s.dispOuts.length → s.asleep = false →
   s.bit (F.DSO_OUT_CTRL_EN k) = true → s.bit (F.DSO_OUT_CTRL_HELD k) = false → s.bit (F.DSO_OUT_CTRL_GENLOCK k) = false →
   s.get (F.DSO_OUT_STAT_HDCP k) = 0 → (s.dout k).q = some q → Does (.frameBoundary k [] none) s fun t =>
     (t.dout k).p = q ∧ (t.dout k).q = none ∧ t.get (F.DSO_OUT_FRAMECNT k) = (s.get (F.DSO_OUT_FRAMECNT k) + 1) % 2 ^ 32 ∧
     t.get (F.DSO_OUT_SHOWN k) = (s.dout k).qFrame % 2 ^ 32 ∧ t.get (F.DSO_OUT_FLIPNS_NS k) = s.ns) ∧
  (∀ (s : State) (c : HostCmd), Takes s c dsoFlipBits → s.hostControls = true → c.target.toNat ≠ 0 → c.target.toNat ≠ s.fid →
   s.reachable c.target.toNat = true → Does (.dsoFlip c) s fun t =>
     Sends s t (.msg (.fid c.target.toNat) (.mgmtReq s.ctl.nextReq 0x30 c.ops)) ∧ t.dispOuts = s.dispOuts) ∧
  (∀ (s : State) (f id k : Nat) (ops : BitVec 448), s.boot.held = false → s.get F.PWR_STAT_CUR < 3 → f = s.ownerFid → f ≠ 0 →
   s.crt.loop = [] → s.crt.cos = [] → s.hasOuts = true → k < 4 → k < s.dispOuts.length → ops.toNat % 65536 = 2 ^ k →
   s.bit (F.DSO_OUT_CTRL_HELD k) = true → (s.dout k).flip = none → Does (.mgmtReqReceive f (.mgmtReq id 0x30 ops)) s fun t =>
     (t.dout k).flip = some { when := s.now + 10000, cart := none, armed := true, dueAt := none } ∧
     t.get (F.DSO_OUT_STAT_ARMED k) = 1 ∧ Sends s t (.msg (.fid f) (.mgmtRsp id 0x00 (resultOf [(0x09, 0)])))) ∧
  (∀ (s : State) (r : Req) (k : Nat), s.serdesUp = true → s.hasOuts = true → k < 4 → s.busOpen r = true → r ≠ .smbus →
   s.boot.pers ≠ 1 → s.mayControl r = true → s.rd (A.DSO_OUT_CTRL k) = 0 → s.enableErr k 1 = 0 → (s.dout k).monitor = none →
   s.endAt (0x3000 + k) 4 = none → Does (.outputEnable r k none) s fun t =>
     t.rd (A.DSO_OUT_CTRL k) = 1 ∧ t.get (F.DSO_OUT_STAT_ERR k) = 0 ∧ t.get (F.DSO_OUT_STAT_STATE k) = 1) ∧
  (∀ (s : State) (r : Req) (k p : Nat) (c : TunCtx), s.serdesUp = true → s.hasOuts = true → k < 4 → s.busOpen r = true →
   r ≠ .smbus → s.boot.pers ≠ 1 → s.mayControl r = true → s.bit (F.DSO_OUT_CTRL_EN k) = true → c.ep = 0x3000 + k →
   c.par.typ = 4 → OpenWay s c 8 p → Does (.outputRefreshRequest r k) s fun t =>
     TookIn t c ∧ t.outs = s.outs) ∧
  (∀ (s : State) (k : Nat) (m : Monitor), s.serdesUp = true → s.hasOuts = true → k < 4 → k < s.dispOuts.length →
   (s.dout k).monitor = none → m.rate ≤ 6 → m.lanes ∈ [0, 1, 2, 4] → s.bit (F.DSO_OUT_CTRL_EN k) = false →
   s.bit (F.DSO_OUT_CTRL_HDCPEN k) = false → s.endAt (0x3000 + k) 4 = none → Does (.monitorHotplug k (some m)) s fun t =>
     (t.dout k).monitor = some m ∧ t.get (F.DSO_OUT_STAT_HPD k) = 1)

/-- Link sync: the four messages of a sample; announces and holdover. R308: a MASTER port sends SYNC_M with the next SEQ; a
SLAVE port answers SYNC_S of the same SEQ; the master sends FOLLOW with its corrected t1 and t4. R310: offset and delay come
from the four stamps; of an accepted sample they show in TIM_OFFSET and TIM_DELAY. R316: the servo sets STEP from its
integrator. R312: every Lit port sends the announcement; one received is kept, one that lapses is gone; R318: without a sample
for three intervals the device is in HOLDOVER. Each of these commands completes: linkSyncSend, syncMReceive, syncSReceive,
followReceive, announceSend, announceReceive, announceTimeout, holdoverTimeout; under the stated conditions on the state and the
operands alone, exec answers a next state, with the effect stated. -/
def Obligations.SyncGrandmasterRows : Prop :=
  (∀ (s : State) (p ui : Nat), s.serdesUp = true → p < s.tim.ports.length → s.syncs p = true → s.pstate p = 1 →
   s.bit (F.ADT_STAT_TXDIM p) = false → Does (.linkSyncSend { p := p, ui := ui }) s fun t =>
     (t.tport p).seq = ((s.tport p).seq + 1) % 65536 ∧
     (t.tport p).m = some (((s.tport p).seq + 1) % 65536, s.lineStamp p ui + s.txCor p) ∧ t.regs = s.regs ∧
     t.outs = s.outs ++ [.sync p (s.syncLane p) 1 (((s.tport p).seq + 1) % 65536)]) ∧
  (∀ (s : State) (p seq ui uiTx : Nat), s.serdesUp = true → p < s.tim.ports.length → s.syncs p = true → s.pstate p = 2 →
   s.bit (F.ADT_STAT_TXDIM p) = false → Does (.syncMReceive p { seq := seq, ui := ui, uiTx := uiTx }) s fun t =>
     (t.tport p).sl = some (seq, s.rxStamp p ui - s.rxCor p, s.lineStamp p uiTx + s.txCor p) ∧ t.regs = s.regs ∧
     t.outs = s.outs ++ [.sync p (s.syncLane p) 2 seq]) ∧
  (∀ (s : State) (p seq ui : Nat) (t1 : Int), s.serdesUp = true → s.syncs p = true → s.pstate p = 1 →
   (s.tport p).m = some (seq, t1) → Does (.syncSReceive p { seq := seq, ui := ui }) s fun t =>
     t = s.emit (.msg (.port p) (.follow seq (s.syncUs p) t1 (s.rxStamp p ui - s.rxCor p)))) ∧
  (∀ (s : State) (p seq us : Nat) (t1 t2 t3 t4 : Int), s.up = true → s.syncs p = true → s.pstate p = 2 →
   (s.tport p).sl = some (seq, t2, t3) → 0 ≤ ((t2 - t1) + (t4 - t3)) / 2 → s.get F.TIM_SERVO_DLIM = 0 →
   s.get F.TIM_STAT_STATE = 2 → s.get F.TIM_ALARM_NS = 0 → s.bit F.TIM_CTRL_SERVOEN = false →
   Does (.followReceive p seq us t1 t4) s fun t =>
     t.get F.TIM_OFFSET = toOffset (((t2 - t1) - (t4 - t3)) / 2) ∧ t.get F.TIM_DELAY = toOffset (((t2 - t1) + (t4 - t3)) / 2) ∧
     t.tim.lastD = some (((t2 - t1) + (t4 - t3)) / 2) ∧ t.clock = s.clock ∧ t.outs = s.outs ∧
     RegsAgreeOff (fun a => a = A.TIM_OFFSET ∨ a = A.TIM_DELAY) s t) ∧
  (∀ (s : State) (p seq us : Nat) (t1 t2 t3 t4 : Int), s.up = true → s.syncs p = true → s.pstate p = 2 →
   (s.tport p).sl = some (seq, t2, t3) → 0 ≤ ((t2 - t1) + (t4 - t3)) / 2 → s.get F.TIM_SERVO_DLIM = 0 →
   s.get F.TIM_STAT_STATE = 2 → s.get F.TIM_ALARM_NS = 0 → s.bit F.TIM_CTRL_SERVOEN = true →
   (((t2 - t1) - (t4 - t3)) / 2).natAbs ≤ 65536000 → Does (.followReceive p seq us t1 t4) s fun t =>
     t.stepVal = stepOf (-((((((t2 - t1) - (t4 - t3)) / 2 : Int) : Rat) / 65536 / (us * 1000 : Nat)) / 2 ^ s.get F.TIM_SERVO_KP)
       - (s.tim.integ + (((((t2 - t1) - (t4 - t3)) / 2 : Int) : Rat) / 65536 / (us * 1000 : Nat)) / 2 ^ s.get F.TIM_SERVO_KI)) ∧
     t.clock = s.clock ∧ t.outs = s.outs) ∧
  (∀ (s : State), s.up = true → s.dutyRuns 9 = true → s.quarantined = false → Does (.announceSend) s fun t =>
     t = s.emits (s.litPorts.map fun p => .msg (.port p) (.announce s.announcement))) ∧
  (∀ (s : State) (p : Nat) (a : Announce), s.up = true → p < s.tim.ports.length → s.quarantined = false → s.lit p = true →
   a.gm ≠ s.uid → Does (.announceReceive p a) s fun t =>
     (t.tport p).ann = some a ∧ t.clock = s.clock ∧ t.tun = s.tun) ∧
  (∀ (s : State) (p : Nat), s.up = true → p < 3 → p < s.tim.ports.length → Does (.announceTimeout p) s fun t =>
     (t.tport p).ann = none ∧ t.clock = s.clock ∧ t.tun = s.tun) ∧
  (∀ (s : State), s.up = true → s.get F.TIM_STAT_STATE = 2 → Does (.holdoverTimeout) s fun t =>
     t.get F.TIM_STAT_STATE = 3 ∧ t.tim.holdAt = some s.uptime ∧ t.clock = s.clock ∧ t.tun = s.tun)

/-- External sources, setting the clock and reading it. R314: a write of TIM_EXTOFF with EXTSRC 1 is a sample of a live source;
an edge on PPS_IN is stamped; a source without samples is lost. R315: on the grandmaster GO sets the clock. R305: a read of
TIM_NOWNS gives the nanoseconds and holds the seconds with them. Each of these commands completes: externalOffsetWrite,
ppsInEdge, sourceLost, timeSet, clockRead; under the stated conditions on the state and the operands alone, exec answers a next
state, with the effect stated. -/
def Obligations.SourceRows : Prop :=
  (∀ (s : State) (r : Req) (v : Word), s.ctl.posted = [] → s.busOpen r = true → r ≠ .smbus → s.boot.pers ≠ 1 →
   s.mayControl r = true → s.get F.TIM_CTRL_EXTSRC = 1 → Does (.externalOffsetWrite r v) s fun t =>
     t.rd A.TIM_EXTOFF = v ∧ t.tim.srcLive = true ∧ t.tun = s.tun) ∧
  (∀ (s : State) (r : Req) (v : Word), s.ctl.posted = [] → s.busOpen r = true → r ≠ .smbus → s.boot.pers ≠ 1 →
   s.mayControl r = true → s.get F.TIM_CTRL_EXTSRC = 0 → Does (.externalOffsetWrite r v) s fun t =>
     t = (if s.follows = true then (s.wr A.TIM_EXTOFF v).bump F.TIM_IGNWR else s.wr A.TIM_EXTOFF v)) ∧
  (∀ (s : State), s.up = true → s.get F.TIM_CTRL_EXTSRC ≠ 2 → Does (.ppsInEdge) s fun t =>
     t.get F.TIM_PPSINNS_NS = s.ns ∧ t.get F.TIM_PPSINNS_VALID = 1 ∧ t.outs = s.outs ∧
     RegsAgreeOff (fun a => a = A.TIM_PPSINNS) s t) ∧
  (∀ (s : State), s.up = true → s.bit F.TIM_PPSINNS_VALID = true → s.tim.srcLive = false → Does (.sourceLost true) s fun t =>
     t.get F.TIM_PPSINNS_VALID = 0 ∧ t.tim = s.tim ∧ RegsAgreeOff (fun a => a = A.TIM_PPSINNS ∨ EventReg a) s t) ∧
  (∀ (s : State), s.up = true → s.tim.srcLive = true → s.get F.TIM_CTRL_EXTSRC = 1 → Does (.sourceLost false) s fun t =>
     t.tim.srcLive = false ∧ t.tim.srcLost = s.tim.self ∧ t.clock = s.clock) ∧
  (∀ (s : State) (r : Req) (v : Word), s.ctl.posted = [] → s.busOpen r = true → r ≠ .smbus → s.boot.pers ≠ 1 →
   s.mayControl r = true → bitsOf v 31 1 = 1 → s.tim.self = true → Does (.timeSet r v) s fun t =>
     t.clock = ((s.get F.TIM_SETSECLO_SEC + 2 ^ 32 * s.get F.TIM_SETSECHI_SEC) * 1000000000 + bitsOf v 0 30) * nsUnit ∧
     RegsAgreeOff (fun a => a = A.TIM_SETNS ∨ EventReg a) s t) ∧
  (∀ (s : State), s.busOpen .host = true → s.boot.pers = 2 → s.ctl.posted = [] → s.bit F.GLB_SNAP_VIEW = false →
   s.heldHigh .host A.TIM_NOWNS = none → Does (.clockRead .host) s fun t =>
     t.regs = s.regs ∧ t.heldHigh .host A.TIM_NOWSECLO = some (BitVec.ofNat 32 s.sec) ∧
     t.outs = s.outs ++ [.readData .host ((List.range 4).map fun j => s.ns / 256 ^ j % 256)])

/-- PPS_OUT, triggers and probes. R321: one pulse of the width for each whole second; R322 and R323: TIM_ARM arms the triggers
it names, and a due edge fires once, counted. R324: a probe leaves with its stamp, is answered, and its reply ends it with an
event. Each of these commands completes: ppsOutPulse, timArm, triggerEdge, probeStart, probeReceive, probeReplyReceive; under
the stated conditions on the state and the operands alone, exec answers a next state, with the effect stated. -/
def Obligations.PinAndProbeRows : Prop :=
  (∀ (s : State), s.up = true → s.bit F.TIM_CTRL_PPSOUTEN = true → s.tim.ppsSec ≤ s.sec → Does (.ppsOutPulse) s fun t =>
     t.tim.ppsSec = s.sec + 1 ∧ t.regs = s.regs ∧ t.outs = s.outs ++ [.pulse .ppsOut true (s.get F.TIM_PPSOUT_WIDTH)]) ∧
  (∀ (s : State) (c : HostCmd) (k : Nat), Takes s c timArmBits → s.hostControls = true → c.target.toNat = 0 → k < 4 →
   k < s.tim.trigs.length → opAt c 0x08 2 = 2 ^ k → s.bit (F.TIM_TRIG_STAGED k) = false → s.bit (F.TIM_TRIG_ARMED k) = false →
   10 ≤ opAt c 0x0C 4 → opAt c 0x0C 4 ≤ 999999999 → opAt c 0x1C 4 = 0 →
   s.now + 10000 ≤ opAt c 0x10 6 * 1000000000 + opAt c 0x18 4 → Does (.timArm c) s fun t =>
     t.trig k = some
       { when := opAt c 0x10 6 * 1000000000 + opAt c 0x18 4, next := opAt c 0x10 6 * 1000000000 + opAt c 0x18 4, period := 0, width := opAt c 0x0C 4, late := false, due := opAt c 0x10 6 * 1000000000 + opAt c 0x18 4 }
       ∧
     t.get (F.TIM_TRIG_ARMED k) = 1 ∧ Answers s t c 0x38 0x00 (resultOf [(0x09, 0)])) ∧
  (∀ (s : State) (k : Nat) (x : Trig), s.up = true → k < 4 → k < s.tim.trigs.length → s.trig k = some x → x.next ≤ s.now →
   x.period = 0 → x.late = false → Does (.triggerEdge k) s fun t =>
     t.trig k = none ∧ t.get (F.TIM_TRIG_FIRED k) = (s.get (F.TIM_TRIG_FIRED k) + 1) % 65536 ∧ t.get (F.TIM_TRIG_ARMED k) = 0 ∧
     t.get (F.TIM_TRIG_LATE k) = 0 ∧ t.outs = s.outs ++ [.pulse (.trig k) true x.width] ∧
     RegsAgreeOff (fun a => a = A.TIM_TRIG k) s t) ∧
  (∀ (s : State) (r : Req) (v : Word) (p : Nat) (c : TunCtx), s.ctl.posted = [] → s.busOpen r = true → r ≠ .smbus →
   s.boot.pers ≠ 1 → s.mayControl r = true → bitsOf v 31 1 = 1 → s.timeEnd (bitsOf v 0 12) = some c → s.tim.probe = none →
   c.par.typ = 7 → OpenWay s c 16 p → Does (.probeStart r v) s fun t =>
     t.tim.probe = some (c.par.tid, (s.tim.probeSeq + 1) % 65536, s.stamp) ∧ TookIn t c ∧ t.outs = s.outs) ∧
  (∀ (s : State) (tid p : Nat) (bytes : List (BitVec 8)) (c : TunCtx), s.up = true → s.timeEnd tid = some c →
   byteAt bytes 0 = 3 → bytes.length = 16 → c.par.typ = 7 → OpenWay s c 40 p → Does (.probeReceive tid bytes) s fun t =>
     TookIn t c ∧ t.outs = s.outs ∧ t.tim = s.tim) ∧
  (∀ (s : State) (tid seq : Nat) (t1 : Int) (bytes : List (BitVec 8)) (c : TunCtx), s.up = true → s.timeEnd tid = some c →
   byteAt bytes 0 = 4 → s.tim.probe = some (c.par.tid, seq, t1) → leNat (slice bytes 2 2) = seq →
   Does (.probeReplyReceive tid bytes) s fun t =>
     t.tim.probe = none ∧ t.tun = s.tun ∧ RegsAgreeOff EventReg s t)

/-- MACs: frames in and out, the link, Glints, MDIO; NIC queues. R327: a good frame that is not PTP enters the ETHERNET tunnel
of its MAC; R328: the oldest frame of the transmit buffer leaves. R331: a read of GLINT word 0 takes the oldest Glint. R340: an
MDIO frame starts with BUSY and ends with its data. R341: enabling a queue starts it at index 0; its doorbell sets the host
index; R333: a transmit descriptor whose tunnel takes the frame is written back OK. R335: a link event of the far MAC sets LINK
and SPEED. Each of these commands completes: ethernetFrameReceive, ethernetFrameTransmit, ethernetLinkChange, glintPop,
mdioFrameStart, mdioFrameDone, eventFrameReceive, nicQueueEnable, nicDoorbell, nicTxDescriptor; under the stated conditions on
the state and the operands alone, exec answers a next state, with the effect stated. -/
def Obligations.EthernetNicRows : Prop :=
  (∀ (s : State) (n p : Nat) (bytes : List (BitVec 8)) (c : TunCtx), s.serdesUp = true → n < 2 → s.isHost = false →
   s.get (F.ETH_CTRL_MODE n) ≠ 0 → s.bit (F.ETH_STAT_LINK n) = true → 64 ≤ bytes.length → bytes.length ≤ 9216 →
   fcsOk bytes = true → be16 bytes 12 ≠ 0x8808 → s.macHeld n + bytes.length ≤ 131072 → ptpOff bytes = none →
   s.bit (F.ETH_CTRL_PAUSETX n) = false → (s.mac n).asked = false → c.ep = 0x4000 + n → c.par.typ = 5 →
   OpenWay s c bytes.length p → Does (.ethernetFrameReceive n bytes) s fun t =>
     TookIn t c ∧ t.outs = s.outs) ∧
  (∀ (s : State) (n : Nat) (x : MacTx) (rest : List MacTx), s.serdesUp = true → n < s.macs.length → s.isHost = false →
   (s.mac n).tx = x :: rest → s.get (F.ETH_CTRL_MODE n) ≠ 0 → s.bit (F.ETH_STAT_LINK n) = true → (s.mac n).pauseEnd ≤ s.uptime →
   x.time = false → x.yel = false → x.tsid = none → Does (.ethernetFrameTransmit n) s fun t =>
     (t.mac n).tx = rest ∧ t.regs = s.regs ∧ t.outs = s.outs ++ [.eth n x.bytes]) ∧
  (∀ (s : State) (n speed : Nat), s.serdesUp = true → n < 2 → s.isHost = false → s.get (F.ETH_CTRL_MODE n) ≠ 0 →
   s.bit (F.ETH_STAT_LINK n) = false → speed ∈ modeSpeeds (s.get (F.ETH_CTRL_MODE n)) →
   Does (.ethernetLinkChange n true speed) s fun t =>
     t.get (F.ETH_STAT_LINK n) = 1 ∧ t.get (F.ETH_STAT_SPEED n) = speed ∧ t.tun = s.tun ∧
     RegsAgreeOff (fun a => a = A.ETH_STAT n ∨ EventReg a) s t) ∧
  (∀ (s : State) (r : Req) (n id : Nat) (st : Int) (rest : List (Nat × Int)), s.serdesUp = true → s.isHost = false →
   s.busOpen r = true → r ≠ .smbus → s.boot.pers ≠ 1 → s.ctl.posted = [] → s.bit F.GLB_SNAP_VIEW = false → n < 2 →
   n < s.macs.length → (s.mac n).glints = (id, st) :: rest → rest.length < 64 → Does (.glintPop r false n) s fun t =>
     (t.mac n).glints = rest ∧ t.get (F.ETH_GLSTAT_COUNT n) = rest.length ∧ t.get (F.ETH_GLINT0_VALID n) = 1 ∧
     t.rd (A.ETH_GLINT1 n) = BitVec.ofNat 32 (st.toNat / 65536 % 1000000000) ∧ t.outs.length = s.outs.length + 1) ∧
  (∀ (s : State) (r : Req) (v : Word), s.serdesUp = true → s.ctl.posted = [] → s.isHost = false → s.busOpen r = true →
   r ≠ .smbus → s.boot.pers ≠ 1 → s.mayControl r = true → bitsOf v 31 1 = 1 → bitsOf v 26 1 = 1 → s.bit F.ETH_MDIO_BUSY = false →
   Does (.mdioFrameStart r v) s fun t =>
     t.bit F.ETH_MDIO_BUSY = true ∧
     t.outs = s.outs ++ [.mdio true (bitsOf v 27 2) (bitsOf v 21 5) (bitsOf v 16 5) (bitsOf v 0 16)] ∧
     RegsAgreeOff (fun a => a = A.ETH_MDIO) s t) ∧
  (∀ (s : State) (data : Nat), s.serdesUp = true → s.bit F.ETH_MDIO_BUSY = true → 2 ≤ s.get F.ETH_MDIO_OP → data < 65536 →
   Does (.mdioFrameDone data) s fun t =>
     t.bit F.ETH_MDIO_BUSY = false ∧ t.get F.ETH_MDIO_DATA = data ∧ t.outs = s.outs ∧ RegsAgreeOff (fun a => a = A.ETH_MDIO) s t) ∧
  (∀ (s : State) (r : EvRec) (f : Nat), s.up = true → s.isHost = true → f < 2 → s.nics.length = 2 →
   s.openEnd (0x5001 + f) 5 = true → (r.evnum = 432 ∨ r.evnum = 448) →
   (s.ethTid (0x5001 + f)).1 = byteAt r.data 0 + 256 * byteAt r.data 1 → (f = 0 ∨ (s.ethTid 0x5001).1 ≠ (s.ethTid 0x5002).1) →
   Does (.eventFrameReceive r) s fun t =>
     t.bit (F.NIC_STAT_LINK f) = true ∧ t.bit (F.NIC_STAT_ETUN f) = true ∧ t.get (F.NIC_STAT_SPEED f) = byteAt r.data 2 % 8 ∧
     t.tun = s.tun) ∧
  (∀ (s : State) (f q : Nat) (tx : Bool) (v : Word), s.serdesUp = true → f < 2 → q < 16 → s.fnOpen = true → 4 ≤ bitsOf v 8 5 →
   bitsOf v 8 5 ≤ 16 → bitsOf v 0 1 = 1 → s.get (nicFld f tx q 8 0 1) = 0 → Does (.nicQueueEnable f tx q v) s fun t =>
     t.rd (nicBase f tx q + 8) = v &&& 0x00401F01#32 ∧ t.rd (nicBase f tx q + 0x10) = 0 ∧ t.outs = s.outs ∧
     RegsAgreeOff (fun a => a = nicBase f tx q + 8 ∨ a = nicBase f tx q + 0x10) s t) ∧
  (∀ (s : State) (f q : Nat) (v : Word) (bufs : List NicBuf), s.serdesUp = true → f < 2 → q < 16 → s.fnOpen = true →
   s.get (nicFld f true q 8 0 1) = 1 → bitsOf v 16 16 = 0 →
   idxDiff (bitsOf v 0 16) (s.get (nicFld f true q 0x10 0 16)) ≤ s.nicCap f true q → (∀ c ∈ s.tun.ctxs, c.waiting = []) →
   Does (.nicDoorbell f true q v bufs) s fun t =>
     t.get (nicFld f true q 0x10 16 16) = bitsOf v 0 16 ∧ t.outs = s.outs ∧
     RegsAgreeOff (fun a => a = nicBase f true q + 0x10) s t) ∧
  (∀ (s : State) (f q p : Nat) (d : NicTx) (c : TunCtx), s.serdesUp = true → f < 2 → q < 16 → s.isHost = true →
   s.bit (F.NIC_CTRL_EN f) = true → s.get (nicFld f true q 8 0 1) = 1 →
   idxDiff (s.get (nicFld f true q 0x10 16 16)) (s.get (nicFld f true q 0x10 0 16)) ≠ 0 → 60 ≤ d.len → d.len ≤ 9212 →
   d.tsreq = false → ptpOff (NicTx.frame d ++ fcsOf (NicTx.frame d)) = none → c.ep = 0x5001 + f → c.par.typ = 5 →
   OpenWay s c (d.len + 4) p → Does (.nicTxDescriptor f q d) s fun t =>
     TookIn t c ∧ t.get (nicFld f true q 0x10 0 16) = (s.get (nicFld f true q 0x10 0 16) + 1) % 65536 ∧
     Sends s t (.nicWriteback (f + 1) true q (s.get (nicFld f true q 0x10 0 16)) (((s.nicQ f true q).total / s.nicCap f true q +
       1) % 2) 0 0 0 0 0))

/-- The coordinator's votes, decisions and dones; SEQS of a moved end; the commands of the coordinator. R347: PREPARE goes to
each participant from T − LEAD on; the last READY decides GO, a vote missing 15 µs before T decides ABORT with code TIMEOUT
(0x06), and the decision goes, and goes again, to every participant without DONE. A DONE is acknowledged and kept; at T + 10 ms
the command completes. R509: SEQS that come before T are kept; until T + 1 ms they are sent again; a moved end without them at T
+ 10 ms reports UNKNOWN (outcome 3). R344 and R347: a cart that its checks pass is in flight, undecided, with PREPARE not yet
sent; its time without AT is MINLEAD ahead. R357: CART_QUERY answers the state and decision of the slot here; CART_ABORT
completes OK and sends ABORT to every participant. Each of these commands completes: cartPrepareSend, cartVoteReceive,
cartVoteDeadline, cartDecisionResend, cartDoneReceive, cartCompletionTimeout, cartSeqsReceive, cartSeqsResend, cartSeqsDeadline,
cartSubmit, cartQuery, cartAbort; under the stated conditions on the state and the operands alone, exec answers a next state,
with the effect stated. -/
def Obligations.CartCoordinatorRows : Prop :=
  (∀ (s : State) (id : Nat) (c : CartCo), s.up = true → s.dutyRuns 3 = true → s.crt.cos = [c] → s.crt.loop = [] →
   s.tun.loop = [] → c.id = id → s.isOwner = true → s.fid ∉ c.parts → c.sent = false → c.dec = 0 → c.t ≤ s.now + 1000000 →
   (∀ e ∈ c.acts, e.1 ≠ s.fid) → Does (.cartPrepareSend id) s fun t =>
     (t.cart id).map (fun y => y.sent) = some true ∧
     (∀ e ∈ c.acts, Sends s t (.msg (.fid e.1) (.cart s.fid id c.t (.prepare c.parts (e.2.map fun a =>
       { a with busy := (ActKind.tid? a.kind).any s.tunRuns })))))) ∧
  (∀ (s : State) (id src : Nat) (c : CartCo), s.up = true → s.crt.cos = [c] → s.crt.loop = [] → s.tun.loop = [] → c.id = id →
   s.isOwner = true → s.fid ∉ c.parts → c.dec = 0 → src ∈ c.parts → src ∉ c.votes → c.votes.length + 1 = c.parts.length →
   c.dones = [] → Does (.cartVoteReceive src id true 0 0 0) s fun t =>
     (t.cart id).map (fun y => y.dec) = some 1 ∧ (∀ f ∈ c.parts, Sends s t (.msg (.fid f) (.cart s.fid id c.t .go)))) ∧
  (∀ (s : State) (id : Nat) (c : CartCo), s.up = true → s.crt.cos = [c] → s.crt.loop = [] → s.tun.loop = [] → c.id = id →
   s.isOwner = true → s.fid ∉ c.parts → c.dec = 0 → c.t ≤ s.now + 15000 → c.dones = [] → c.parts ≠ [] →
   Does (.cartVoteDeadline id) s fun t =>
     (t.cart id).map (fun y => (y.dec, y.code)) = some (2, 0x06) ∧
     (∀ f ∈ c.parts, Sends s t (.msg (.fid f) (.cart s.fid id c.t .abort)))) ∧
  (∀ (s : State) (id : Nat) (c : CartCo), s.up = true → s.dutyRuns 3 = true → s.crt.cos = [c] → s.crt.loop = [] →
   s.tun.loop = [] → c.id = id → s.isOwner = true → s.fid ∉ c.parts → c.dec = 1 → c.dones = [] →
   Does (.cartDecisionResend id) s fun t =>
     t.crt = s.crt ∧ (∀ f ∈ c.parts, Sends s t (.msg (.fid f) (.cart s.fid id c.t .go)))) ∧
  (∀ (s : State) (id src out late freed : Nat) (c : CartCo), s.up = true → s.crt.cos = [c] → s.crt.loop = [] → s.tun.loop = [] →
   c.id = id → s.isOwner = true → s.fid ∉ c.parts → c.dec = 1 → c.dones = [] → src ∈ c.parts → c.parts.length = 2 →
   c.parts.Nodup → out ≠ 3 → Does (.cartDoneReceive src id c.t out late freed) s fun t =>
     (t.cart id).map (fun y => y.dones) = some [(src, out, late, freed)] ∧
     t.outs = s.outs ++ [.msg (.fid src) (.cart s.fid id c.t .doneack)]) ∧
  (∀ (s : State) (id : Nat) (c : CartCo) (k : InFlight), s.up = true → s.crt.cos = [c] → s.crt.loop = [] → s.tun.loop = [] →
   c.id = id → s.isOwner = true → s.fid ∉ c.parts → c.dec = 1 → c.ticket = some k → c.dones = [] → c.parts ≠ [] → c.acts = [] →
   c.t + 10000000 ≤ s.now → s.tun.next = [] → Does (.cartCompletionTimeout id) s fun t =>
     (t.cart id).map (fun y => y.ticket) = some none ∧ k ∉ t.ctl.inflight) ∧
  (∀ (s : State) (c : CartSlot) (tid rx tx : Nat) (endB : Bool), s.up = true → s.crt.slots = [c] → Quiet s → c.coord ≠ s.fid →
   c.out = 0 → c.early = [] → Does (.cartSeqsReceive c.coord c.id tid endB rx tx) s fun t =>
     t.cslot c.coord c.id = some { c with early := [(tid, rx % 65536, tx % 65536)] } ∧ t.regs = s.regs ∧ t.outs = s.outs) ∧
  (∀ (s : State) (c : CartSlot), s.up = true → s.dutyRuns 3 = true → s.crt.slots = [c] → Quiet s → c.coord ≠ s.fid →
   s.now ≤ c.t + 1000000 → (∀ q ∈ c.seqs, q.fid ≠ s.fid) → Does (.cartSeqsResend c.coord c.id) s fun t =>
     t.crt = s.crt ∧ (∀ q ∈ c.seqs, Sends s t (.msg (.fid q.fid) (.cart c.coord c.id c.t (.seqs q.tid q.endB q.rx q.tx))))) ∧
  (∀ (s : State) (c : CartSlot), s.up = true → s.crt.slots = [c] → Quiet s → c.coord ≠ s.fid → c.wait ≠ [] → c.out ≠ 0 →
   c.t + 10000000 ≤ s.now → Does (.cartSeqsDeadline c.coord c.id) s fun t =>
     t.cslot c.coord c.id = some { c with out := 3, wait := [], st := 5 } ∧ t.regs = s.regs ∧
     t.outs = s.outs ++ [.msg (.fid c.coord) (.cart c.coord c.id c.t (.done 3 c.late c.freed))]) ∧
  (∀ (s : State) (c : HostCmd) (ws : List (BitVec 256)), Takes s c cartBits → s.hostControls = true → c.target = 0 →
   opAt c 0x0A 1 = 0 → opAt c 0x0C 2 = ws.length → ws ≠ [] → ws.length ≤ 256 → opAt c 0x10 8 % 32 = 0 →
   s.cartCheck (opAt c 0x08 2) ws = none → ((ws.all fun w => (readAct w).typ != 2) = true) →
   Does (.cartSubmit c (some ws)) s fun t =>
     (t.cart (opAt c 0x08 2)).map (fun x => (x.dec, x.sent, x.t)) = some (0, false, s.now + 1000 * min 1000 (max 100 (s.get
       F.CRT_CFG_MINLEAD))) ∧
     t.outs = s.outs ++ [.hostRead (opAt c 0x10 8) (32 * ws.length)] ∧ t.tun = s.tun) ∧
  (∀ (s : State) (c : HostCmd) (x : CartSlot), Takes s c cartQueryBits → c.target.toNat = 0 → opAt c 0x0A 1 ≠ 0 →
   s.cslot (opAt c 0x0A 1) (opAt c 0x08 2) = some x → Does (.cartQuery c) s fun t =>
     Answers s t c 0x41 0x00 (resultOf [(0x08, x.st), (0x09, x.dec), (0x10, x.t / 1000000000 % 2 ^ 48), (0x18, x.t %
       1000000000)]) ∧
     t.crt = s.crt) ∧
  (∀ (s : State) (c : HostCmd) (x : CartCo), Takes s c [(0x08, 0, 16)] → s.hostControls = true → s.crt.cos = [x] →
   s.crt.loop = [] → s.tun.loop = [] → opAt c 0x08 2 = x.id → x.dec = 0 → x.dones = [] → x.parts ≠ [] → s.fid ∉ x.parts →
   Does (.cartAbort c) s fun t =>
     (t.cart x.id).map (fun y => (y.dec, y.code)) = some (2, 0x23) ∧ Answers s t c 0x42 0x00 0 ∧
     (∀ f ∈ x.parts, Sends s t (.msg (.fid f) (.cart s.fid x.id x.t .abort))))

/-- A participant: staging, votes, commit and hold. R348 and R349: a cart that can be staged is READY and votes; a drain that
has not ended 20 µs before T refuses with cause 6 and drops the slot. R349 to R351: GO before T is relayed and arms the slot,
and at T its actions take effect; without a decision at T the slot is held (state 4) and asks. R352 to R354: an answer that says
ABORT, or an ABORT, undoes it. Each of these commands completes: cartPrepareReceive, cartDrainReady, cartDrainDeadline,
cartGoReceive, cartAbortReceive, cartCommitTime, cartQuerySend, cartQueryReceive, cartAnswerReceive, cartHoldAlarm,
cartDoneackReceive, cartSlotRelease; under the stated conditions on the state and the operands alone, exec answers a next state,
with the effect stated. -/
def Obligations.ParticipantRows : Prop :=
  (∀ (s : State) (coord id tt st : Nat) (parts : List Nat) (a : CartAct), s.up = true → s.get F.PWR_STAT_CUR ≠ 4 →
   s.crt.slots = [] → Quiet s → coord ≠ s.fid → a.kind = .power st → s.now < tt →
   Does (.cartPrepareReceive coord id tt parts [a]) s fun t =>
     (t.cslot coord id).map (fun y => (y.st, y.t, y.parts)) = some (2, tt, parts) ∧
     t.outs = s.outs ++ [.msg (.fid coord) (.cart coord id tt (.vote true 0 0 0))]) ∧
  (∀ (s : State) (c : CartSlot), s.up = true → s.crt.slots = [c] → Quiet s → c.coord ≠ s.fid → c.st = 1 → c.quies = [] →
   s.now < c.t → Does (.cartDrainReady c.coord c.id) s fun t =>
     t.cslot c.coord c.id = some { c with st := 2 } ∧ t.regs = s.regs ∧
     t.outs = s.outs ++ [.msg (.fid c.coord) (.cart c.coord c.id c.t (.vote true 0 0 0))]) ∧
  (∀ (s : State) (c : CartSlot) (a : CartAct) (x : TunCtx), s.up = true → s.crt.slots = [c] → Quiet s → c.coord ≠ s.fid →
   c.st = 1 → c.acts = [a] → a.kind = .close x.par.tid true → c.quies = [x.par.tid] → c.made = [] → s.tun.ctxs = [x] →
   x.isEnd = true → x.state = 3 → x.paused = 0 → x.held = [] → x.copies ≠ [] → x.local_ = false → (s.egressOf x).isSome = true →
   c.t ≤ s.now + 20000 → Does (.cartDrainDeadline c.coord c.id) s fun t =>
     t.cslot c.coord c.id = none ∧ (t.ctx x.idx).map (fun y => y.state) = some 2 ∧
     Sends s t (.msg (.fid c.coord) (.cart c.coord c.id c.t (.vote false 6 a.idx 0)))) ∧
  (∀ (s : State) (src : Nat) (c : CartSlot), s.up = true → s.crt.slots = [c] → Quiet s → c.coord ≠ s.fid → c.st = 2 → c.out = 0 →
   c.relayed = false → s.now < c.t → Does (.cartGoReceive src c.coord c.id c.t) s fun t =>
     t.cslot c.coord c.id = some { c with st := 3, dec := 1, relayed := true } ∧ t.regs = s.regs ∧
     t.outs = s.outs ++ (c.parts.filter (fun f => f != s.fid)).map (fun f => .msg (.fid f) (.cart c.coord c.id c.t .go))) ∧
  (∀ (s : State) (src : Nat) (c : CartSlot), s.up = true → s.crt.slots = [c] → Quiet s → c.coord ≠ s.fid → c.st = 2 → c.out = 0 →
   c.made = [] → c.quies = [] → Does (.cartAbortReceive src c.coord c.id c.t) s fun t =>
     (t.cslot c.coord c.id).map (fun y => (y.st, y.dec, y.out)) = some (5, 2, 2) ∧
     t.get F.CRT_ABORTS = min (s.get F.CRT_ABORTS + 1) (2 ^ 32 - 1) ∧
     Sends s t (.msg (.fid c.coord) (.cart c.coord c.id c.t (.done 2 0 c.freed)))) ∧
  (∀ (s : State) (c : CartSlot) (a : CartAct) (k w wd p : Nat), s.up = true → s.crt.slots = [c] → Quiet s → c.coord ≠ s.fid →
   c.st = 3 → c.out = 0 → c.resv = [] → c.wait = [] → c.acts = [a] → k < 4 → k < s.tim.trigs.length →
   a.kind = .trig (2 ^ k) w wd p → c.t ≤ s.now → Does (.cartCommitTime c.coord c.id) s fun t =>
     (t.cslot c.coord c.id).map (fun y => (y.st, y.dec, y.out)) = some (5, 1, 1) ∧ t.trig k = some (s.newTrig w wd p) ∧
     t.get (F.TIM_TRIG_STAGED k) = 0 ∧ t.get F.CRT_COMMITS = min (s.get F.CRT_COMMITS + 1) (2 ^ 32 - 1) ∧
     Sends s t (.msg (.fid c.coord) (.cart c.coord c.id c.t (.done 1 0 c.freed)))) ∧
  (∀ (s : State) (c : CartSlot), s.up = true → s.crt.slots = [c] → Quiet s → c.coord ≠ s.fid → c.st = 2 → c.t ≤ s.now →
   s.now < c.t + 1000000 → Does (.cartCommitTime c.coord c.id) s fun t =>
     t.cslot c.coord c.id = some { c with st := 4 } ∧ t.outs = s.outs ++ [.msg (.fid c.coord) (.cart c.coord c.id c.t .query)]) ∧
  (∀ (s : State) (c : CartSlot), s.up = true → s.dutyRuns 3 = true → s.crt.slots = [c] → Quiet s → c.coord ≠ s.fid → c.st = 4 →
   s.now < c.t + 1000000 → Does (.cartQuerySend c.coord c.id) s fun t =>
     t = s.emit (.msg (.fid c.coord) (.cart c.coord c.id c.t .query))) ∧
  (∀ (s : State) (src tt : Nat) (c : CartSlot), s.up = true → s.crt.slots = [c] → Quiet s → c.coord ≠ s.fid → c.dec = 0 →
   src ≠ s.fid → Does (.cartQueryReceive src c.coord c.id tt) s fun t =>
     t = s.emit (.msg (.fid src) (.cart c.coord c.id tt (.answer 3)))) ∧
  (∀ (s : State) (c : CartSlot), s.up = true → s.crt.slots = [c] → Quiet s → c.coord ≠ s.fid → c.st = 4 → c.answers = [] →
   c.made = [] → c.quies = [] → Does (.cartAnswerReceive c.coord c.coord c.id 2) s fun t =>
     (t.cslot c.coord c.id).map (fun y => (y.st, y.dec, y.out)) = some (5, 2, 2) ∧
     Sends s t (.msg (.fid c.coord) (.cart c.coord c.id c.t (.done 2 (s.now - c.t) c.freed)))) ∧
  (∀ (s : State) (c : CartSlot), s.up = true → s.crt.slots = [c] → Quiet s → c.coord ≠ s.fid → c.st = 4 →
   c.t + 10000000 ≤ s.now → Does (.cartHoldAlarm c.coord c.id) s fun t =>
     t.get ⟨A.EVT_STAT 9, 21, 1⟩ = 1 ∧ t.crt = s.crt ∧ RegsAgreeOff EventReg s t) ∧
  (∀ (s : State) (c : CartSlot), s.up = true → s.crt.slots = [c] → Quiet s → c.coord ≠ s.fid → c.st = 5 →
   Does (.cartDoneackReceive c.coord c.id) s fun t =>
     t.cslot c.coord c.id = some { c with acked := true } ∧ t.regs = s.regs ∧ t.outs = s.outs) ∧
  (∀ (s : State) (c : CartSlot), s.up = true → s.crt.slots = [c] → Quiet s → c.coord ≠ s.fid → c.acked = true →
   Does (.cartSlotRelease c.coord c.id) s fun t =>
     t.crt.slots = [] ∧ t.regs = s.regs ∧ t.outs = s.outs)

/-- NEIGHBOUR, RECORD and ASSIGN, sent, received and timed out. R361: a Lit port sends NEIGHBOUR, and what it receives is its
peer. R362: a repeat of the own RECORD has the next SEQ and the same CHG and moves no install. R363: a newer RECORD is stored
and sent on by every other Lit port, one that is not newer changes nothing. R364: a NEIGHBOUR timeout ends UP, and a RECORD the
graph does not reach is deleted. R366 and R369: the owner assigns the FID of a binding; an ASSIGN for another device is sent on
once, one with FID 0 brings Quarantine with cause 1. Each of these commands completes: neighbourSend, neighbourReceive,
helloTimeout, recordRefresh, recordReceive, recordExpiry, assignSend, assignReceive; under the stated conditions on the state
and the operands alone, exec answers a next state, with the effect stated. -/
def Obligations.HelloRows : Prop :=
  (∀ (s : State) (p : Nat), s.up = true → s.dutyRuns 4 = true → s.lit p = true → Does (.neighbourSend p) s fun t =>
     t = s.emit (.msg (.port p) (.neighbour
       { uid := s.uid, fid := s.fid, src := s.get F.FAB_ID_SRC, role := s.role, port := p, rstCnt := s.boot.rstCnt }))) ∧
  (∀ (s : State) (p : Nat) (n : Neigh), s.up = true → s.portUp p = true → (s.port p).met = true →
   Does (.neighbourReceive p n) s fun t =>
     t.fab.neigh.find? (fun e => e.1 == p) = some (p, n) ∧ t.regs = s.regs ∧ t.outs = s.outs) ∧
  (∀ (s : State) (p : Nat), s.up = true → s.portUp p = true → s.entriesOn p = [] → s.tun.ctxs = [] → (s.sch p).queue = [] →
   p < s.ports.length → Does (.helloTimeout p) s fun t =>
     t.fab.neigh = s.fab.neigh.filter (fun e => e.1 != p) ∧ (t.port p).inRoute = false ∧ t.get ⟨A.EVT_STAT 9, 1, 1⟩ = 1) ∧
  (∀ (s : State), s.up = true → s.dutyRuns 4 = true →
   (buildGraph (s.fabM fun f =>
     { f with recs := putBy (fun h => h.r.uid == ({ s.ownRec with seq := (s.fab.seq + 1) % 65536 }).uid) { r := { s.ownRec with seq := (s.fab.seq + 1) % 65536 }, at_ := s.uptime } f.recs }).recs
     s.uid = s.fab.live) →
   Does (.recordRefresh) s fun t =>
     t.outs = s.outs ++ [.msg (.ports s.litPorts) (.record { s.ownRec with seq := (s.fab.seq + 1) % 65536 })] ∧
     t.fab.seq = (s.fab.seq + 1) % 65536 ∧ t.fab.chg = s.fab.chg ∧ t.fab.tinst = s.fab.tinst) ∧
  (∀ (s : State) (p : Nat) (r : Rec) (ans : List DevAns), s.up = true → s.lit p = true → r.uid ≠ s.uid →
   ((s.recs.find? fun h => h.uid == r.uid) = none) →
   (buildGraph (s.fabM fun f => { f with recs := putBy (fun h => h.r.uid == (r).uid) { r := r, at_ := s.uptime } f.recs }).recs
     s.uid = s.fab.live) →
   s.fid = 0 → s.get F.GLB_OWNER_STATE ≠ 3 → s.tun.loop = [] → Does (.recordReceive p r ans) s fun t =>
     t.recs.find? (fun h => h.uid == r.uid) = some r ∧
     t.outs = s.outs ++ [.msg (.ports (s.litPorts.filter (· != p))) (.record r)] ∧ t.fab.tinst = s.fab.tinst) ∧
  (∀ (s : State) (p : Nat) (r h : Rec) (ans : List DevAns), s.up = true → r.uid ≠ s.uid →
   ((s.recs.find? fun h => h.uid == r.uid) = some h) → h.rstCnt = r.rstCnt → h.seq = r.seq →
     exec (.recordReceive p r ans) s = .next s) ∧
  (∀ (s : State) (uid : Nat) (r : Rec), s.up = true → ((s.recs.find? fun h => h.uid == uid) = some r) → uid ≠ s.uid →
   s.fab.live.nodes = [] → ((s.fab.recs.any fun h => h.r.uid == uid && !(s.due (some h.at_) 3000000000)) = false) →
   (buildGraph (s.fabM fun f => { f with recs := f.recs.filter fun h => h.r.uid != uid }).recs s.uid = s.fab.live) → s.fid = 0 →
   Does (.recordExpiry uid) s fun t =>
     t.fab.recs = s.fab.recs.filter (fun h => h.r.uid != uid) ∧ t.outs = s.outs) ∧
  (∀ (s : State) (uid : Nat) (r : Rec) (b : Binding), s.up = true → s.dutyRuns 4 = true → s.get F.GLB_OWNER_STATE = 3 →
   uid ≠ s.uid → r.uid = uid → ((s.recs.find? fun h => h.uid == uid) = some r) →
   ((s.tun.binds.find? fun x => x.uid == uid) = some b) → r.quar = true → ((s.fab.tries.find? fun e => e.1 == uid) = none) →
   Does (.assignSend uid) s fun t =>
     t.outs = s.outs ++ [.msg (.ports s.litPorts) (.assign
       { uid := uid, fid := b.fid, owner := s.fid, gen := s.get F.GLB_OWNER_GEN, try_ := 0, bound := true })] ∧
     t.regs = s.regs) ∧
  (∀ (s : State) (p : Nat) (a : Assign), s.up = true → s.lit p = true → s.quarantined = false →
   s.fab.relayed.contains (a.uid, a.gen, a.try_) = false → a.uid ≠ s.uid → Does (.assignReceive p a) s fun t =>
     t.outs = s.outs ++ [.msg (.ports (s.litPorts.filter (· != p))) (.assign a)] ∧
     t.fab.relayed = s.fab.relayed ++ [(a.uid, a.gen, a.try_)] ∧ t.regs = s.regs) ∧
  (∀ (s : State) (p : Nat) (a : Assign), s.up = true → s.lit p = true → s.fab.relayed.contains (a.uid, a.gen, a.try_) = false →
   a.uid = s.uid → a.fid = 0 → s.fid = 0 → s.get F.FAB_ID_STATE = 0 → s.get F.GLB_OWNER_STATE = 1 → a.owner = s.ownerFid →
   a.gen = s.get F.GLB_OWNER_GEN → s.tun.ctxs = [] → Does (.assignReceive p a) s fun t =>
     t.get F.FAB_ID_STATE = 2 ∧ t.get F.FAB_ID_QCAUSE = 1 ∧ t.fid = 0)

/-- An automatic FID, Quarantine without an owner, and the install of new tables; FAB_ASSIGN, FAB_ROUTE and FAB_TOPO. R366: a
host bridge without an owner takes the lowest free FID as automatic (SRC 4). R368: 100 ms without one is Quarantine with cause
4. R379: at T_inst what has been computed is installed, and FAB_DBGEN counts it. R380: a frame from before the install that
waits for credit 1 ms later is discarded and counted. R369: FAB_ASSIGN adds the binding of a UID; another TARGET, and FID 0 or
63, complete BAD_OPERAND. R382: FAB_ROUTE sets CMASK of the entry it names. R383: FAB_TOPO answers with this device's own view.
Each of these commands completes: autoFidTimeout, quarantineTimeout, routeCompute, routeInstall, installWaitDrop, fabAssign,
fabRoute, fabTopo; under the stated conditions on the state and the operands alone, exec answers a next state, with the effect
stated. -/
def Obligations.FidFabricRows : Prop :=
  (∀ (s : State), s.up = true → s.dutyRuns 4 = true → s.fab.firstLit = true → s.isHost = true → s.fid = 0 →
   s.get F.FAB_ID_STATE = 0 → s.get F.GLB_OWNER_STATE = 0 → s.freeFid s.uid ≠ 0 → s.tun.ctxs = [] →
   Does (.autoFidTimeout) s fun t =>
     t.fid = s.freeFid s.uid ∧ t.get F.FAB_ID_SRC = 4) ∧
  (∀ (s : State), s.up = true → s.fab.firstLit = true → s.fid = 0 → s.get F.FAB_ID_STATE = 0 → s.tun.ctxs = [] →
   Does (.quarantineTimeout) s fun t =>
     t.get F.FAB_ID_STATE = 2 ∧ t.get F.FAB_ID_QCAUSE = 4 ∧ t.fid = 0) ∧
  (∀ (s : State), s.up = true → s.dutyRuns 5 = true → s.fab.tinst.isSome = true → Does (.routeCompute) s fun t =>
     t = s.fabM fun f => { f with computed := true }) ∧
  (∀ (s : State) (x : Nat), s.up = true → s.fab.tinst = some x → s.fab.computed = true → x ≤ s.now → s.tun.ctxs = [] →
   s.tun.loop = [] → s.flt.opens = [] → Does (.routeInstall) s fun t =>
     t.fab.graph = s.fab.live ∧ t.fab.tinst = none ∧ t.fab.dropDue = true ∧ t.get F.FAB_DBGEN = (s.get F.FAB_DBGEN + 1) % 2 ^ 32) ∧
  (∀ (s : State) (q : QFrame), s.up = true → s.fab.dropDue = true → (s.sch 0).queue = [q] → (s.sch 1).queue = [] →
   (s.sch 2).queue = [] → 0 < s.schs.length → q.queue = none → q.from_ = none → q.f.cls < 8 → s.starved 0 q = true →
   Does (.installWaitDrop) s fun t =>
     (t.sch 0).queue = [] ∧ t.fab.dropDue = false ∧ t.get F.FAB_INSTDROP = min (s.get F.FAB_INSTDROP + 1) (2 ^ 32 - 1)) ∧
  (∀ (s : State) (c : HostCmd), Takes s c [(0x08, 0, 64), (0x10, 0, 8), (0x11, 0, 1)] → s.hostControls = true → c.target = 0 →
   1 ≤ opAt c 0x10 1 → opAt c 0x10 1 ≤ 62 → opAt c 0x11 1 = 0 →
   ((s.tun.binds.any fun b => b.fid == opAt c 0x10 1 && b.uid != opAt c 0x08 8) = false) →
   ((s.recs.any fun r => r.fid == opAt c 0x10 1 && r.uid != opAt c 0x08 8 && configuredSrc r.src) = false) →
   ((s.recs.find? fun r => r.uid == opAt c 0x08 8) = none) → Does (.fabAssign c) s fun t =>
     Answers s t c 0x48 0x00 0 ∧
     t.tun.binds.find? (fun b => b.uid == opAt c 0x08 8) = some { uid := opAt c 0x08 8, fid := opAt c 0x10 1, unbind := false }) ∧
  (∀ (s : State) (c : HostCmd), Takes s c [(0x08, 0, 64), (0x10, 0, 8), (0x11, 0, 1)] → s.hostControls = true → c.target ≠ 0 →
   Does (.fabAssign c) s fun t =>
     Answers s t c 0x48 0x03 (resultOf [(0x08, 4)]) ∧ t.tun.binds = s.tun.binds) ∧
  (∀ (s : State) (c : HostCmd), Takes s c fabRouteBits → s.hostControls = true → c.target.toNat = 0 → 1 ≤ opAt c 0x08 1 % 64 →
   opAt c 0x08 1 % 64 ≤ 62 → opAt c 0x09 1 % 4 = 0 → s.tun.ctxs = [] → Does (.fabRoute c) s fun t =>
     Answers s t c 0x49 0x00 0 ∧ t.get (F.FAB_RT_CMASK (opAt c 0x08 1 % 64)) = opAt c 0x0A 1) ∧
  (∀ (s : State) (c : HostCmd), Takes s c fabTopoBits → c.target.toNat = 0 → opAt c 0x08 2 = 0 → Does (.fabTopo c) s fun t =>
     Answers s t c 0x4A 0x00 (resultOf [(0x08, s.uid), (0x10, s.fid), (0x11, s.role), (0x12, s.get F.FAB_ID_STATE), (0x13, s.get
       F.FAB_ID_QCAUSE), (0x14, s.get F.FAB_ID_ROOT), (0x15, s.get F.FAB_STAT_NDEV), (0x16, s.get F.FAB_STAT_NHOST), (0x18,
       s.tun.ctxs.length), (0x1A, 0xFFFF), (0x1C, s.get F.FAB_DBGEN), (0x20, s.topoPort 0), (0x28, s.topoPort 1), (0x30,
       s.topoPort 2)]))

/-- The USB hub, its downstream ports and requests. R391: a change of upstream detaches the hub (state 6) from the old port, and
when it ends the hub attaches at the one named. R395: a reset, or a disconnect, leaves it at address 0 in the Default state with
every port off, at high speed where the host of a reset chirps and HSDIS is 0; R399: a control transfer that has not completed
is abandoned and counted. R396: suspend keeps the state it comes back to. R397: a pending reason, the host's permission and a
suspend drive K; a resume delivers the reason once. R393: over-current takes a port's power and is counted, and its end is a
change of the port; a device that connects to a powered port shows there. The hub answers its class and standard requests, and
STALLs what it does not support; one that the host does not complete stands until it is abandoned (R399). R394: a start-split
takes one of 4 non-periodic buffers, or is refused and counted. Each of these commands completes: upstreamSwitch,
upstreamSwitchComplete, usbBusReset, usbSuspend, usbResume, usbRemoteWake, usbOverCurrent, downstreamPortChange,
hubClassRequest, ttSplitTransaction, usbStandardRequest; under the stated conditions on the state and the operands alone, exec
answers a next state, with the effect stated. -/
def Obligations.HubAndPortRows : Prop :=
  (∀ (s : State), s.up = true → s.role = 1 → s.get F.USB_STAT_USTATE ≠ 6 → s.usbWant ≠ s.get F.USB_STAT_UPSRC →
   s.get F.USB_STAT_UPSRC ≠ 3 → Does (.upstreamSwitch none) s fun t =>
     t.get F.USB_STAT_USTATE = 6 ∧ t.get F.USB_STAT_HS = 0 ∧ t.get F.USB_STAT_ADDR = 0 ∧ t.usb.to_ = s.usbWant ∧
     t.usb.session = none ∧ Sends s t (.usbPull (s.get F.USB_STAT_UPSRC) false)) ∧
  (∀ (s : State), s.up = true → s.get F.USB_STAT_USTATE = 6 → s.usb.to_ = s.usbWant → s.usb.to_ < 3 →
   Does (.upstreamSwitchComplete) s fun t =>
     t.get F.USB_STAT_UPSRC = s.usb.to_ ∧ t.get F.USB_STAT_USTATE = 1 ∧ t.usb = { s.usb with cand := s.usbAuto } ∧
     t.outs = s.outs ++ [.usbPull s.usb.to_ true] ∧ RegsAgreeOff (fun a => a = A.USB_STAT) s t) ∧
  (∀ (s : State) (chirp : Bool) (part : Option Nat), s.up = true → s.usbOn = true → 1 ≤ s.get F.USB_STAT_USTATE →
   s.get F.USB_STAT_USTATE ≤ 5 → Does (.usbBusReset true chirp part) s fun t =>
     t.get F.USB_STAT_USTATE = 2 ∧ t.bit F.USB_STAT_HS = false ∧ t.get F.USB_STAT_ADDR = 0 ∧
     ((List.range 7).all fun k => t.get (F.USB_PORT_PWR (k + 1)) == 0) = true ∧ t.usb.session = none ∧
     t.get ⟨A.EVT_STAT 14, 17, 1⟩ = 1) ∧
  (∀ (s : State) (chirp : Bool), s.up = true → s.usbOn = true → 1 ≤ s.get F.USB_STAT_USTATE → s.get F.USB_STAT_USTATE ≤ 5 →
   Does (.usbBusReset false chirp none) s fun t =>
     t.get F.USB_STAT_USTATE = 2 ∧ t.bit F.USB_STAT_HS = (chirp && !s.bit F.USB_CTRL_HSDIS) ∧ t.get F.USB_STAT_ADDR = 0 ∧
     t.get F.USB_STAT_RWEN = 0 ∧ ((List.range 7).all fun k => t.get (F.USB_PORT_PWR (k + 1)) == 0) = true ∧ t.usb.session = none) ∧
  (∀ (s : State) (b : Nat), s.up = true → s.usbOn = true → 1 ≤ s.get F.USB_STAT_USTATE → s.get F.USB_STAT_USTATE ≤ 5 →
   s.usb.parts = [some b, none] → Does (.usbBusReset false true none) s fun t =>
     t.usb.parts = [none, none] ∧ t.get F.USB_CTLABORT = min (s.get F.USB_CTLABORT + 1) (2 ^ 32 - 1)) ∧
  (∀ (s : State), s.up = true → 1 ≤ s.get F.USB_STAT_USTATE → s.get F.USB_STAT_USTATE ≤ 4 → Does (.usbSuspend) s fun t =>
     t.get F.USB_STAT_USTATE = 5 ∧
     ((List.range 7).all fun k => t.bit (F.USB_PORT_SUSP (k + 1)) == (s.bit (F.USB_PORT_SUSP (k + 1)) || s.bit (F.USB_PORT_EN (k
       + 1)))) = true ∧
     t.usb =
       { s.usb with prev := s.get F.USB_STAT_USTATE, drive := false, selSusp := [1, 2, 3, 4, 5, 6, 7].filter fun k => s.bit (F.USB_PORT_SUSP k) }
       ∧
     t.get ⟨A.EVT_STAT 14, 19, 1⟩ = 1 ∧
     RegsAgreeOff (fun a => a = A.USB_STAT ∨ (A.USB_PORT 1 ≤ a ∧ a ≤ A.USB_PORT 7) ∨ EventReg a) s t) ∧
  (∀ (s : State) (met : Bool), s.up = true → s.get F.USB_STAT_USTATE = 5 → s.usb.prev < 8 → s.bit F.USB_WAKE_PENDING = true →
   s.get F.USB_WAKE_REASON < 4 → Does (.usbResume met) s fun t =>
     t.get F.USB_STAT_USTATE = s.usb.prev ∧ t.bit F.USB_WAKE_PENDING = false ∧
     t.get F.USB_WAKE_OUTCOME = (if s.usb.drive = true ∧ met = false then 0 else 1) ∧
     t.usb = { s.usb with drive := false, selSusp := [] } ∧ Sends s t (.usbData 0 (leBytes 1 (2 ^ s.get F.USB_WAKE_PORT % 256)))) ∧
  (∀ (s : State), s.up = true → s.get F.USB_STAT_USTATE = 5 → s.bit F.USB_STAT_RWEN = true → s.bit F.USB_WAKE_PENDING = true →
   s.usb.drive = false → Does (.usbRemoteWake) s fun t =>
     t = (s.usbM fun u => { u with drive := true }).emit .usbK) ∧
  (∀ (s : State) (k : Nat), s.up = true → s.role = 1 → 1 ≤ k → k ≤ 6 → s.usbWakes k 2 = false →
   Does (.usbOverCurrent k true) s fun t =>
     t.get (F.USB_PORT_OC k) = 1 ∧ t.get (F.USB_PORT_PWR k) = 0 ∧ t.get F.USB_OCCNT = min (s.get F.USB_OCCNT + 1) (2 ^ 32 - 1) ∧
     Sends s t (.pin (.usbPpe k) false)) ∧
  (∀ (s : State) (k speed : Nat), s.up = true → s.role = 1 → 1 ≤ k → k ≤ 6 → k ≤ s.usb.devs.length →
   s.bit (F.USB_PORT_PWR k) = true → s.usbWakes k 0 = false → Does (.downstreamPortChange k 0 speed) s fun t =>
     t.get (F.USB_PORT_CONN k) = 1 ∧ t.get (F.USB_PORT_SPEED k) = speed % 3 ∧
     t.usb.devs = s.usb.devs.set (k - 1) (some (speed % 3)) ∧ t.outs = s.outs ∧ RegsAgreeOff (fun a => a = A.USB_PORT k) s t) ∧
  (∀ (s : State) (k : Nat), s.up = true → s.role = 1 → s.get F.USB_STAT_USTATE = 4 → 1 ≤ k → k ≤ 6 →
   s.usb.ocLow.getD (k - 1) false = false → s.bit (F.USB_PORT_PWR k) = false → s.usb.devs.getD (k - 1) none = none →
   Does (.hubClassRequest (.setPort 8 k 0)) s fun t =>
     t.bit (F.USB_PORT_PWR k) = true ∧ t.get (F.USB_PORT_OC k) = 0 ∧ t.outs = s.outs ++ [.pin (.usbPpe k) true] ∧
     RegsAgreeOff (fun a => a = A.USB_PORT k) (s.usbSetup 0) t) ∧
  (∀ (s : State), s.up = true → s.role = 1 → s.get F.USB_STAT_USTATE = 4 → Does (.hubClassRequest .ttState) s fun t =>
     t = (s.usbSetup 0).emit (.usbStall 0)) ∧
  (∀ (s : State) (k ep : Nat), s.up = true → s.role = 1 → s.get F.USB_STAT_USTATE = 4 → 1 ≤ k → k ≤ 7 →
   s.bit F.USB_STAT_MTT = true → k ≤ s.usb.tts.length → (s.usb.tts.getD (k - 1) ([], [])).2.length < 4 →
   Does (.ttSplitTransaction k { kind := 0, ep := ep } true) s fun t =>
     t.usb.tts.getD (k - 1) ([], []) = ((s.usb.tts.getD (k - 1) ([], [])).1, (s.usb.tts.getD (k - 1) ([], [])).2 ++ [ep]) ∧
     t.outs = s.outs ++ [.usbHand 0 0] ∧ t.regs = s.regs) ∧
  (∀ (s : State) (k ep : Nat), s.up = true → s.role = 1 → s.get F.USB_STAT_USTATE = 4 → 1 ≤ k → k ≤ 7 →
   s.bit F.USB_STAT_MTT = true → 4 ≤ (s.usb.tts.getD (k - 1) ([], [])).2.length →
   Does (.ttSplitTransaction k { kind := 0, ep := ep } true) s fun t =>
     t = (s.bump F.USB_TTOVF).emit (.usbHand 0 1)) ∧
  (∀ (s : State) (a : Nat), s.up = true → s.usbAnswers 0 = true → 1 ≤ a → a ≤ 127 →
   Does (.usbStandardRequest 0 (.setAddress a) true) s fun t =>
     t.get F.USB_STAT_ADDR = a ∧ t.get F.USB_STAT_USTATE = 3 ∧ t.outs = s.outs ∧
     RegsAgreeOff (fun a => a = A.USB_STAT) (s.usbSetup 0) t) ∧
  (∀ (s : State) (dev : Nat) (r : UsbReq), s.up = true → dev < 2 → s.usbAnswers dev = true →
   Does (.usbStandardRequest dev r false) s fun t =>
     t = (s.usbSetup dev).usbM fun u => { u with parts := u.parts.set dev (some (usbCode r)) }) ∧
  (∀ (s : State) (k sel : Nat), s.up = true → s.role = 1 → s.get F.USB_STAT_USTATE = 4 → 1 ≤ k → k ≤ 7 → 1 ≤ sel → sel ≤ 5 →
   Does (.hubClassRequest (.setPort 21 k sel)) s fun t =>
     t.bit (F.USB_PORT_TEST k) = true ∧ t.usb.test = s.usb.test.set (k - 1) sel ∧ t.outs = s.outs ++ [.usbTest k sel]) ∧
  (∀ (s : State) (k : Nat), s.up = true → s.role = 1 → 1 ≤ k → k ≤ 6 → k ≤ s.usb.change.length → s.bit (F.USB_PORT_OC k) = true →
   Does (.usbOverCurrent k false) s fun t =>
     t.get (F.USB_PORT_OC k) = 0 ∧ t.usb.change.getD (k - 1) 0 / 8 % 2 = 1 ∧ t.outs = s.outs ∧
     RegsAgreeOff (fun a => a = A.USB_PORT k) s t)

/-- Yalcel's requests; yalcel's firmware sessions. R400: GET_INFO and FW_STATUS answer; a request Yalcel does not have STALLs
and is counted. R109: registers are read at any time and written, power asked for and the core reset only while no owner is
known. R402: the boot ROM's Yalcel takes a length, and GO checks an image of it. R401: BEGIN opens a session for the slot that
does not run; packets are staged (R398); each 64 KiB, and the rest at the end, is programmed as the session's next sector;
COMMIT of a whole image starts the check; an image that passes R72 has the boot directory rewritten and ends the session in
state 3, one that fails in state 4 with error 3, a flash error with error 2; R398: a PING is answered by the staging that is
free. Each of these commands completes: yalcelGetInfo, yalcelRegRead, yalcelRegWrite, yalcelPwrReq, yalcelReset, yalcelFwStatus,
yalcelUnknownRequest, yalcelDlBegin, yalcelDlGo, yalcelFwBegin, yalcelImageData, flashSectorDone, yalcelFwCommit, fwCheckDone;
under the stated conditions on the state and the operands alone, exec answers a next state, with the effect stated. -/
def Obligations.YalcelFirmwareRows : Prop :=
  (∀ (s : State), s.up = true → s.usbAnswers 1 = true → Does (.yalcelGetInfo) s fun t =>
     t = (s.usbSetup 1).emit (.usbData 1 (leBytes 8 s.uid ++ leBytes 1 s.role ++ leBytes 1 (s.get F.GLB_BOOT_STAT) ++ leBytes 1
       (s.get F.GLB_OWNER_STATE) ++ leBytes 1 s.fid ++ leBytes 4 (s.get F.GLB_BOOTVER_VERSION) ++ leBytes 1 (s.get
       F.GLB_BOOT_SLOT) ++ leBytes 1 (s.get F.GLB_BOOT_SVNCTR) ++ leBytes 14 0))) ∧
  (∀ (s : State) (a : Nat), s.up = true → s.usbAnswers 1 = true → s.romMode = false → a % 4 = 0 → a < 2 ^ 24 →
   Does (.yalcelRegRead a 4 true) s fun t =>
     Sends s t (.usbData 1 (leBytes 4 ((s.usbSetup 1).readBus .yalcel a).2.toNat))) ∧
  (∀ (s : State) (a : Nat) (bytes : List (BitVec 8)), s.up = true → s.usbAnswers 1 = true → s.romMode = false → a % 4 = 0 →
   a < 2 ^ 24 → bytes.length = 4 → s.get F.GLB_OWNER_STATE = 0 → Does (.yalcelRegWrite a bytes true) s fun t =>
     t = (s.usbSetup 1).busWrite .yalcel a (BitVec.ofNat 32 (leNat bytes))) ∧
  (∀ (s : State) (v : Nat), s.up = true → s.usbAnswers 1 = true → s.romMode = false → v ≤ 4 → s.get F.GLB_OWNER_STATE = 0 →
   s.get F.PWR_STAT_CUR ≠ 4 → s.boot.held = false → s.get F.PWR_STAT_PHASE = 5 → Does (.yalcelPwrReq v true) s fun t =>
     t.get F.PWR_STAT_PEND = v ∧ t.bit F.PWR_STAT_PENDV = true ∧ t.get F.PWR_STAT_CUR = s.get F.PWR_STAT_CUR) ∧
  (∀ (s : State), s.up = true → s.usbAnswers 1 = true → s.romMode = false → s.get F.GLB_OWNER_STATE = 0 →
   Does (.yalcelReset 0xD5 true) s fun t =>
     t.bit F.GLB_RSTCAUSE_SWCORE = true ∧ t.role = s.role ∧ t.get F.GLB_BOOT_STAT = 0 ∧ t.tun = TunSt.reset ∧
     t.boot.rstCnt = (s.boot.rstCnt + 1) % 65536) ∧
  (∀ (s : State), s.up = true → s.usbAnswers 1 = true → Does (.yalcelFwStatus) s fun t =>
     t = (s.usbSetup 1).emit (.usbData 1 (leBytes 1 (s.get F.USB_YALSTAT_FWSTATE) ++ leBytes 1 (s.get F.USB_YALSTAT_FWERR) ++
       leBytes 1 ((s.usb.session.map (·.slot)).getD s.otherSlot) ++ leBytes 1 0 ++ leBytes 4 ((s.usb.session.map
       (·.img.length)).getD (if s.romMode then s.usb.dlData.length else 0))))) ∧
  (∀ (s : State) (b : Nat), s.up = true → s.usbAnswers 1 = true → Does (.yalcelUnknownRequest b) s fun t =>
     t.get F.USB_YALREJ = min (s.get F.USB_YALREJ + 1) (2 ^ 32 - 1) ∧ Sends s t (.usbStall 1)) ∧
  (∀ (s : State) (len : Nat), s.up = true → s.usbAnswers 1 = true → s.romMode = true → len ≤ 0x800000 →
   Does (.yalcelDlBegin len true) s fun t =>
     t = (s.usbSetup 1).usbM fun u => { u with dlLen := len, dlData := [] }) ∧
  (∀ (s : State), s.up = true → s.usbAnswers 1 = true → s.romMode = true → s.usb.dlData = [] → s.usb.dlLen < 2 ^ 24 →
   Does (.yalcelDlGo true) s fun t =>
     t.get F.GLB_DLEN_LEN = s.usb.dlLen ∧ t.get F.GLB_BOOT_DLFAIL = 1 ∧ t.get F.GLB_BOOT_STAT = 4) ∧
  (∀ (s : State) (len rsvd : Nat), s.up = true → s.usbAnswers 1 = true → s.romMode = false → 1 ≤ len → len ≤ s.slotRoom →
   len ≤ 0x2000000 → Does (.yalcelFwBegin len rsvd true) s fun t =>
     t.usb.session = some { slot := s.otherSlot, len := len, img := [], sectors := 0, pages := 0 } ∧
     t.get F.USB_YALSTAT_FWSTATE = 1 ∧ t.get F.USB_YALSTAT_FWERR = 0) ∧
  (∀ (s : State) (x : FwSession) (k : Nat) (bytes : List (BitVec 8)), s.up = true → s.usbAnswers 1 = true → s.romMode = false →
   s.usb.session = some x → s.get F.USB_YALSTAT_FWSTATE = 1 → (x.paged k).staged.length + bytes.length ≤ stagingBytes →
   x.img.length + bytes.length ≤ x.len → s.bit F.USB_STAT_HS = false →
   Does (.yalcelImageData { ping := false, pages := k, bytes := bytes }) s fun t =>
     t.usb = { s.usb with session := some { (x.paged k) with img := x.img ++ bytes } } ∧ t.regs = s.regs ∧
     t.outs = s.outs ++ (List.range ((x.img.length + bytes.length + 65535) / 65536 - x.begun)).map (fun i => Out.flashErase
       (s.sectorAt x (x.begun + i))) ++ [.usbHand 1 0]) ∧
  (∀ (s : State) (x : FwSession) (k : Nat) (bytes : List (BitVec 8)), s.up = true → s.usbAnswers 1 = true → s.romMode = false →
   s.usb.session = some x → s.get F.USB_YALSTAT_FWSTATE = 1 → s.bit F.USB_STAT_HS = true →
   Does (.yalcelImageData { ping := true, pages := k, bytes := bytes }) s fun t =>
     t = (s.usbM fun u => { u with session := some (x.paged k) }).emit (.usbHand 1 (if (x.paged k).staged.length + 512 ≤
       stagingBytes then 0 else 1))) ∧
  (∀ (s : State) (x : FwSession) (d : BootDir), s.up = true → s.usb.session = some x → s.boot.dir = some d → x.unwritten ≠ [] →
   x.len ≤ x.img.length → Does (.flashSectorDone true) s fun t =>
     t = (s.usbM fun u => { u with session := some { x with sectors := x.sectors + 1, pages := 0 } }).emit (.flash (d.off x.slot
       + 65536 * x.sectors) (x.unwritten.take 65536))) ∧
  (∀ (s : State) (x : FwSession), s.up = true → s.usbAnswers 1 = true → s.romMode = false → s.usb.session = some x →
   s.get F.USB_YALSTAT_FWSTATE = 1 → x.len ≤ x.img.length → Does (.yalcelFwCommit true) s fun t =>
     t.get F.USB_YALSTAT_FWSTATE = 2 ∧ t.get F.USB_YALSTAT_FWERR = 0 ∧ t.usb.session = some x ∧ t.outs = s.outs) ∧
  (∀ (s : State) (x : FwSession), s.up = true → s.usb.session = some x → x.unwritten ≠ [] →
   Does (.flashSectorDone false) s fun t =>
     t.usb.session = none ∧ t.get F.USB_YALSTAT_FWSTATE = 4 ∧ t.get F.USB_YALSTAT_FWERR = 2) ∧
  (∀ (s : State) (x : FwSession) (d : BootDir) (b : List (BitVec 8)), s.up = true → s.usb.session = some x → x.unwritten = [] →
   s.boot.dir = some d → s.get F.USB_YALSTAT_FWSTATE = 2 → Does (.fwCheckDone (some b)) s fun t =>
     t.usb.session = none ∧ t.get F.USB_YALSTAT_FWSTATE = (if s.imageOk b flashBound = true then 3 else 4) ∧
     t.get F.USB_YALSTAT_FWERR = (if s.imageOk b flashBound = true then 0 else 3) ∧
     (s.imageOk b flashBound = true → Sends s t (.flash d.next (d.copy x.slot)))) ∧
  (∀ (s : State) (x : FwSession), s.up = true → s.usb.session = some x → x.unwritten = [] → s.get F.USB_YALSTAT_FWSTATE = 2 →
   Does (.fwCheckDone none) s fun t =>
     t.usb.session = none ∧ t.get F.USB_YALSTAT_FWSTATE = 4 ∧ t.get F.USB_YALSTAT_FWERR = 2)

/-- Attach, detach and what an unattached port does. R411: a debounced attach gives the port its roles; detach removes VBUS and
leaves it Unattached; a DRP changes between Rp and Rd. R416: after ErrorRecovery it starts again from Unattached. R417 and R418:
a reading below the threshold is Unattached-Wet, and the third dry one in a row ends it. R419: RELEASE of PD0 is held until the
next detach. Each of these commands completes: pdAttach, pdDetach, drpToggle, errorRecoveryEnd, moistureCheck, pdRelease; under
the stated conditions on the state and the operands alone, exec answers a next state, with the effect stated. -/
def Obligations.PdAttachRows : Prop :=
  (∀ (s : State) (n sys : Nat) (orient : Bool), n < 3 → n < s.pds.length → s.role ≠ 1 → s.get (F.PD_STAT_STATE n) = 1 →
   s.pdRole n ≠ 1 → s.pdTries n false = false → s.boot.portsOff = false → s.bit (F.PD_MOIST_EN n) = false → sys ≤ 1023 →
   Does (.pdAttach n false orient false 0 sys) s fun t =>
     t.get (F.PD_STAT_STATE n) = 3 ∧ t.bit (F.PD_STAT_PR n) = false ∧ t.bit (F.PD_STAT_DR n) = false ∧
     t.bit (F.PD_STAT_ORIENT n) = orient ∧ t.get (F.PD_VBUS_SYS n) = sys ∧ (t.pdp n).step = 0 ∧
     Sends s t (.pd n (.vdm true .discIdent))) ∧
  (∀ (s : State) (n : Nat), n < 3 → n < s.pds.length → s.pdAttached n = true → s.role ≠ 1 → s.bit (F.ADT_ALT_ENTERED n) = false →
   s.bit (F.PD_CTRL_EN n) = true → Does (.pdDetach n) s fun t =>
     t.get (F.PD_STAT_STATE n) = 1 ∧ t.get (F.PD_STAT_CONTRACT n) = 0 ∧ (t.pdp n).gate = false ∧
     Sends s t (.pin (.pdGate n) false) ∧ Sends s t (.pin (.pdDisch n) true)) ∧
  (∀ (s : State) (n : Nat), n < 3 → n < s.pds.length → s.get (F.PD_STAT_STATE n) = 1 → s.pdRole n = 2 → s.boot.portsOff = false →
   Does (.drpToggle n) s fun t =>
     (t.pdp n).rp = !(s.pdp n).rp ∧ t.outs = s.outs ++ [.cc n (if (s.pdp n).rp then 1 else s.pdRp n)] ∧ t.regs = s.regs) ∧
  (∀ (s : State) (n : Nat), n < 3 → n < s.pds.length → s.role ≠ 1 → s.get (F.PD_STAT_STATE n) = 5 →
   s.bit (F.PD_CTRL_EN n) = true → Does (.errorRecoveryEnd n) s fun t =>
     t.get (F.PD_STAT_STATE n) = 1 ∧ (t.pdp n).step = 0 ∧ (t.pdp n).policy = s.pdPolicy n) ∧
  (∀ (s : State) (n z : Nat), n < 3 → n < s.pds.length → s.get (F.PD_STAT_STATE n) = 1 → s.bit (F.PD_MOIST_EN n) = true →
   (s.pdp n).skip = false → s.isWet n z = true → s.boot.held = false → Does (.moistureCheck n z) s fun t =>
     t.get (F.PD_STAT_STATE n) = 4 ∧ t.get (F.PD_MOIST_LAST n) = max 2 (min 200 z) ∧
     t.bit (F.PD_STAT_DBSINK n) = s.bit (F.PD_STAT_DBSINK n) ∧ t.get (F.PD_MOIST_DRY n) = 0 ∧
     t.get (F.PD_WETCNT n) = min (s.get (F.PD_WETCNT n) + 1) (2 ^ 32 - 1) ∧ Sends s t (.cc n 0)) ∧
  (∀ (s : State) (n z : Nat), n < 3 → n < s.pds.length → s.get (F.PD_STAT_STATE n) = 4 → s.bit (F.PD_MOIST_EN n) = true →
   (s.pdp n).skip = false → s.isWet n z = false → s.get (F.PD_MOIST_DRY n) = 2 → Does (.moistureCheck n z) s fun t =>
     t.get (F.PD_STAT_STATE n) = 1 ∧ t.get (F.PD_MOIST_DRY n) = 0) ∧
  (∀ (s : State) (r : Req), s.busOpen r = true → r ≠ .smbus → s.boot.pers ≠ 1 → s.mayControl r = true →
   s.bit F.GLB_STRAP_DBRD = true → s.bit (F.PD_STAT_DBSINK 0) = true → s.get (F.PD_STAT_STATE 0) ≠ 0 → 0 < s.pds.length →
   s.get (F.PD_CTRL_HARDRST 0) = 0 → (s.rd (A.PD_CTRL 0)) &&& 0xFFFF8000#32 = 0#32 → Does (.pdRelease r 0) s fun t =>
     (t.pdp 0).released = true ∧ t.rd (A.PD_CTRL 0) = s.rd (A.PD_CTRL 0) ∧ t.bit (F.PD_STAT_DBSINK 0) = true)

/-- Capabilities, requests, contracts and EPR. R407: a capability table of a port without a contract takes the word written.
R408: offers lead to a Request, PS_RDY to the contract, a PPS contract is renewed. R409: a Request for a position offered,
within its current, is accepted; the gate closes on PDn_SYS_SNS, and PS_RDY and the contract follow once VBUS has settled behind
it. R414: a table written during a swap is counted and waits. R406: a message that Table 16-1 does not support is refused. R114:
discovery is answered; a DFP refuses to be entered. Each of these commands completes: pdTableWrite, pdSourceCapsReceive,
pdRequestReceive, pdPsRdyReceive, pdEprModeReceive, pdVdmReceive, vbusSettled, ppsRenew; under the stated conditions on the
state and the operands alone, exec answers a next state, with the effect stated. -/
def Obligations.PdContractRows : Prop :=
  (∀ (s : State) (r : Req) (n k : Nat) (v : Word), s.busOpen r = true → r ≠ .smbus → s.boot.pers ≠ 1 → s.mayControl r = true →
   n < 3 → n < s.pds.length → k < 11 → s.get (F.PD_STAT_CONTRACT n) = 0 → (s.pdp n).step ≠ 4 → (s.pdp n).step ≠ 5 →
   Does (.pdTableWrite r n true k v) s fun t =>
     t.rd (A.PD_SRCPDO n k) = v ∧ t.pds = s.pds ∧ RegsAgreeOff (fun a => a = A.PD_SRCPDO n k ∨ EventReg a) s t) ∧
  (∀ (s : State) (r : Req) (n k : Nat) (src : Bool) (v : Word), s.busOpen r = true → r ≠ .smbus → s.boot.pers ≠ 1 →
   s.mayControl r = true → n < 3 → n < s.pds.length → k < 11 → ((s.pdp n).step = 4 ∨ (s.pdp n).step = 5) →
   Does (.pdTableWrite r n src k v) s fun t =>
     t.rd (if src = true then A.PD_SRCPDO n k else A.PD_SNKPDO n k) = v ∧ (t.pdp n).dirty = true ∧
     (t.pdp n).step = (s.pdp n).step ∧ t.get (F.PD_COLLCNT n) = min (s.get (F.PD_COLLCNT n) + 1) (2 ^ 32 - 1)) ∧
  (∀ (s : State) (n : Nat) (k : CapsIn) (caps : List Word), n < 3 → n < s.pds.length → s.pdHears n = true →
   s.bit (F.PD_STAT_PR n) = false → (k.epr = true → (s.pdp n).epr = true) → (s.pdp n).step ≠ 5 → s.usb.gone.contains n = false →
   Does (.pdSourceCapsReceive n k caps) s fun t =>
     (t.pdp n).caps = caps ∧ (t.pdp n).step = 3 ∧
     (t.pdp n).offer = some ((s.pdM n fun x =>
       { x with caps := caps, rev := min x.rev (if k.rev < 30 then 20 else k.rev) }).sinkChoice n).1 ∧
     t.bit (F.PD_STAT_MISMATCH n) = ((s.pdM n fun x =>
       { x with caps := caps, rev := min x.rev (if k.rev < 30 then 20 else k.rev) }).sinkChoice n).2 ∧
     t.outs = s.outs ++ [.pd n (.request ((s.pdM n fun x =>
       { x with caps := caps, rev := min x.rev (if k.rev < 30 then 20 else k.rev) }).sinkChoice n).1.pos ((s.pdM n fun x =>
       { x with caps := caps, rev := min x.rev (if k.rev < 30 then 20 else k.rev) }).sinkChoice n).1.volt ((s.pdM n fun x =>
       { x with caps := caps, rev := min x.rev (if k.rev < 30 then 20 else k.rev) }).sinkChoice n).1.cur ((s.pdM n fun x =>
       { x with caps := caps, rev := min x.rev (if k.rev < 30 then 20 else k.rev) }).sinkChoice n).2 ((s.pdM n fun x =>
       { x with caps := caps, rev := min x.rev (if k.rev < 30 then 20 else k.rev) }).sinkChoice n).1.epr)]) ∧
  (∀ (s : State) (n pos cur rev : Nat), n < 3 → n < s.pds.length → s.pdHears n = true → s.bit (F.PD_STAT_PR n) = true →
   (s.pdp n).step = 1 → 1 ≤ pos → (s.sourceCaps n (s.pdp n).epr).getD (pos - 1) 0 ≠ 0 →
   cur ≤ pdoCur ((s.sourceCaps n (s.pdp n).epr).getD (pos - 1) 0) →
   Does (.pdRequestReceive n pos { cur := cur, rev := rev }) s fun t =>
     (t.pdp n).step = 2 ∧
     (t.pdp n).offer = some
       { pos := pos, volt := pdoVolt ((s.sourceCaps n (s.pdp n).epr).getD (pos - 1) 0), cur := cur, epr := (s.pdp n).epr, pps := false }
       ∧
     Sends s t (.pd n .accept) ∧ t.regs = s.regs) ∧
  (∀ (s : State) (n cur rev : Nat), n < 3 → n < s.pds.length → s.pdHears n = true → s.bit (F.PD_STAT_PR n) = true →
   (s.pdp n).step = 1 → (s.pdp n).dirty = false → Does (.pdRequestReceive n 0 { cur := cur, rev := rev }) s fun t =>
     Sends s t (.pd n .reject) ∧ t.regs = s.regs) ∧
  (∀ (s : State) (n : Nat) (o : PdOffer), n < 3 → n < s.pds.length → s.pdHears n = true → (s.pdp n).step = 3 →
   (s.pdp n).offer = some o → o.epr = false → o.pos < 16 → o.volt < 1024 → o.cur < 1024 → Does (.pdPsRdyReceive n) s fun t =>
     t.get (F.PD_STAT_CONTRACT n) = 1 ∧ t.get (F.PD_STAT_POS n) = o.pos ∧ t.get (F.PD_CONTRACT_VOLT n) = o.volt ∧
     t.get (F.PD_CONTRACT_CUR n) = o.cur ∧ Sends s t (.pin (.pdGate n) (!s.boot.portsOff))) ∧
  (∀ (s : State) (n : Nat), n < 3 → n < s.pds.length → s.pdHears n = true → s.bit (F.PD_STAT_PR n) = true →
   s.get (F.PD_STAT_CONTRACT n) ≠ 0 → s.bit (F.PD_CTRL_EPREN n) = false → Does (.pdEprModeReceive n 1) s fun t =>
     t = s.emit (.pd n (.eprMode 4))) ∧
  (∀ (s : State) (n : Nat), n < 3 → n < s.pds.length → s.pdHears n = true → Does (.pdVdmReceive n (.vdm .discSvids)) s fun t =>
     t = s.emit (.pd n (.vdm false (.svidsAck true)))) ∧
  (∀ (s : State) (n : Nat), n < 3 → n < s.pds.length → s.pdHears n = true → Does (.pdVdmReceive n .unsupported) s fun t =>
     t = s.emit (.pd n (if (s.pdp n).rev < 30 then .reject else .notSupported))) ∧
  (∀ (s : State) (n : Nat), n < 3 → n < s.pds.length → s.pdHears n = true → 30 ≤ (s.pdp n).rev →
   Does (.pdVdmReceive n .getStatus) s fun t =>
     t.outs = s.outs ++ [.pd n (.status (s.pdp n).trips)] ∧ (t.pdp n).trips = 0 ∧ t.regs = s.regs) ∧
  (∀ (s : State) (n : Nat), n < 3 → n < s.pds.length → s.pdHears n = true → s.bit (F.PD_STAT_DR n) = true →
   Does (.pdVdmReceive n (.vdm .enter)) s fun t =>
     t = s.emit (.pd n (.vdm false .nak))) ∧
  (∀ (s : State) (n vbus sys : Nat) (o : PdOffer), n < 3 → n < s.pds.length → s.pdHears n = true → (s.pdp n).step = 2 →
   (s.pdp n).offer = some o → within5 vbus o.volt = true → within5 sys o.volt = true → vbus ≤ 1023 → sys ≤ 1023 → o.epr = false →
   o.pos < 16 → s.boot.portsOff = false → (s.pdp n).disch = false → (s.pdp n).gate = false →
   Does (.vbusSettled n vbus sys) s fun t =>
     t.get (F.PD_VBUS_VBUS n) = vbus ∧ t.get (F.PD_VBUS_SYS n) = sys ∧ t.get (F.PD_STAT_CONTRACT n) = 1 ∧
     t.get (F.PD_STAT_POS n) = o.pos ∧ Sends s t (.pin (.pdGate n) true) ∧ Sends s t (.pd n .psRdy)) ∧
  (∀ (s : State) (n vbus sys : Nat) (o : PdOffer), n < 3 → n < s.pds.length → s.pdHears n = true → (s.pdp n).step = 2 →
   (s.pdp n).offer = some o → within5 vbus o.volt = false → within5 sys o.volt = true → vbus ≤ 1023 → sys ≤ 1023 →
   s.boot.portsOff = false → (s.pdp n).disch = false → (s.pdp n).gate = false → Does (.vbusSettled n vbus sys) s fun t =>
     (t.pdp n).gate = true ∧ t.outs = s.outs ++ [.pin (.pdGate n) true] ∧ (t.pdp n).step = 2 ∧
     t.get (F.PD_STAT_CONTRACT n) = s.get (F.PD_STAT_CONTRACT n)) ∧
  (∀ (s : State) (n : Nat), n < 3 → n < s.pds.length → s.pdHears n = true → (s.pdp n).pps = true →
   s.get (F.PD_STAT_CONTRACT n) ≠ 0 → (s.pdp n).step = 0 → Does (.ppsRenew n) s fun t =>
     (t.pdp n).step = 3 ∧ (t.pdp n).offer = some (s.sinkChoice n).1 ∧
     t.outs = s.outs ++ [.pd n (.request (s.sinkChoice n).1.pos (s.sinkChoice n).1.volt (s.sinkChoice n).1.cur (s.sinkChoice
       n).2 (s.sinkChoice n).1.epr)])

/-- Hard resets, protection and swaps. R415: a hard reset ends the contract, restores the roles of the attach and is counted;
the Source drops the gate and discharges VBUS until it is below 0.8 V, then restores vSafe5V; one sent and one received together
are one (R414). R409: 275 ms without a settled VBUS send one. R410: an over-voltage opens the gate and discharges VBUS. R413 and
R414: a swap the port accepts runs, one it does not is rejected, and one withdrawn is asked for again. Each of these commands
completes: pdHardReset, vbusTransitionTimeout, hardResetCommand, hardResetVbusOff, vbusSettled, hardResetVbusRestore,
vbusProtectionTrip, pdSwapRequestReceive, pdSwapResponseReceive, pdSwapRetry; under the stated conditions on the state and the
operands alone, exec answers a next state, with the effect stated. -/
def Obligations.PdResetRows : Prop :=
  (∀ (s : State) (n : Nat), n < 3 → n < s.pds.length → s.pdAttached n = true → (s.pdp n).hard = 0 → (s.pdp n).hrRow = 0 →
   s.role ≠ 1 → s.bit (F.ADT_ALT_ENTERED n) = false → Does (.pdHardReset n true) s fun t =>
     (t.pdp n).step = 6 ∧ (t.pdp n).hard = 1 ∧ (t.pdp n).hrRow = 1 ∧ t.get (F.PD_STAT_CONTRACT n) = 0 ∧
     t.get (F.PD_HRSTCNT n) = min (s.get (F.PD_HRSTCNT n) + 1) (2 ^ 32 - 1) ∧ t.bit (F.PD_STAT_PR n) = (s.pdp n).defPr) ∧
  (∀ (s : State) (n : Nat), n < 3 → n < s.pds.length → s.pdAttached n = true → (s.pdp n).hard = 0 → (s.pdp n).hrRow = 0 →
   s.role ≠ 1 → s.bit (F.ADT_ALT_ENTERED n) = false → (s.pdp n).step = 2 → Does (.vbusTransitionTimeout n) s fun t =>
     (t.pdp n).step = 6 ∧ (t.pdp n).hard = 1 ∧ (t.pdp n).hrRow = 1 ∧ t.get (F.PD_STAT_CONTRACT n) = 0 ∧
     t.get (F.PD_HRSTCNT n) = min (s.get (F.PD_HRSTCNT n) + 1) (2 ^ 32 - 1) ∧ t.bit (F.PD_STAT_PR n) = (s.pdp n).defPr ∧
     Sends s t (.pd n .hardReset)) ∧
  (∀ (s : State) (r : Req) (n : Nat), s.busOpen r = true → r ≠ .smbus → s.boot.pers ≠ 1 → s.mayControl r = true → n < 3 →
   n < s.pds.length → s.pdAttached n = true → (s.pdp n).hard = 0 → (s.pdp n).hrRow = 0 → s.role ≠ 1 →
   s.bit (F.ADT_ALT_ENTERED n) = false → s.bit (F.PD_CTRL_EN n) = true → bitsOf (s.rd (A.PD_CTRL n)) 16 1 = 0 →
   Does (.hardResetCommand r n) s fun t =>
     (t.pdp n).step = 6 ∧ (t.pdp n).hard = 1 ∧ (t.pdp n).hrRow = 1 ∧ t.get (F.PD_STAT_CONTRACT n) = 0 ∧
     t.get (F.PD_HRSTCNT n) = min (s.get (F.PD_HRSTCNT n) + 1) (2 ^ 32 - 1) ∧ t.bit (F.PD_STAT_PR n) = (s.pdp n).defPr ∧
     Sends s t (.pd n .hardReset)) ∧
  (∀ (s : State) (n : Nat), n < 3 → n < s.pds.length → (s.pdp n).hard = 1 → s.bit (F.PD_STAT_PR n) = true →
   Does (.hardResetVbusOff n) s fun t =>
     (t.pdp n).hard = 2 ∧ (t.pdp n).gate = false ∧ (t.pdp n).disch = true ∧
     t.outs = s.outs ++ [.pin (.pdGate n) false, .pin (.pdDisch n) true] ∧ t.regs = s.regs) ∧
  (∀ (s : State) (n vbus sys : Nat), n < 3 → n < s.pds.length → s.pdAttached n = true → (s.pdp n).hard = 2 → (s.pdp n).step = 6 →
   (s.pdp n).disch = true → s.boot.portsOff = false → s.bit (F.PD_STAT_PR n) = true → vSafe0 vbus = true →
   Does (.vbusSettled n vbus sys) s fun t =>
     (t.pdp n).hard = 3 ∧ (t.pdp n).disch = false ∧ t.outs = s.outs ++ [.pin (.pdDisch n) false]) ∧
  (∀ (s : State) (n : Nat), n < 3 → n < s.pds.length → (s.pdp n).hard = 3 → Does (.hardResetVbusRestore n) s fun t =>
     (t.pdp n).hard = 0 ∧ (t.pdp n).step = 7 ∧ t.regs = s.regs) ∧
  (∀ (s : State) (n : Nat) (received : Bool), n < 3 → n < s.pds.length → s.pdAttached n = true → (s.pdp n).hard = 1 →
   (s.pdp n).hardRx = some (!received) → Does (.pdHardReset n received) s fun t =>
     t.get (F.PD_HRSTCNT n) = s.get (F.PD_HRSTCNT n) ∧ t.get (F.PD_COLLCNT n) = min (s.get (F.PD_COLLCNT n) + 1) (2 ^ 32 - 1) ∧
     t.outs = s.outs ∧ (t.pdp n).hardRx = none) ∧
  (∀ (s : State) (n vbus isns : Nat), n < 3 → n < s.pds.length → s.pdAttached n = true → (s.pdp n).hard = 0 →
   (s.pdp n).hrRow = 0 → s.role ≠ 1 → s.bit (F.ADT_ALT_ENTERED n) = false → s.get (F.PD_STAT_CONTRACT n) = 0 →
   s.pdTripRow n vbus isns = some 1 → Does (.vbusProtectionTrip n { vbus := vbus, isns := isns }) s fun t =>
     (t.pdp n).gate = false ∧ t.get (F.PD_PROTCNT n) = min (s.get (F.PD_PROTCNT n) + 1) (2 ^ 32 - 1) ∧
     Sends s t (.pin (.pdGate n) false) ∧ Sends s t (.pin (.pdDisch n) true) ∧ Sends s t (.pd n .hardReset)) ∧
  (∀ (s : State) (n : Nat), n < 3 → n < s.pds.length → s.pdHears n = true → (s.pdp n).step = 0 → s.pdAcked n = false →
   s.bit (F.PD_CTRL_ACCVC n) = true → s.bit (F.PD_STAT_VCONN n) = true → Does (.pdSwapRequestReceive n 3) s fun t =>
     t = (s.emit (.pd n .accept)).pdM n fun x => { x with step := 5, swap := 3 }) ∧
  (∀ (s : State) (n : Nat), n < 3 → n < s.pds.length → s.pdHears n = true → (s.pdp n).step = 0 → s.pdAcked n = false →
   s.bit (F.PD_CTRL_ACCPR n) = false → Does (.pdSwapRequestReceive n 1) s fun t =>
     t = s.emit (.pd n .reject)) ∧
  (∀ (s : State) (n : Nat), n < 3 → n < s.pds.length → s.pdHears n = true → (s.pdp n).step = 4 → (s.pdp n).swap < 4 →
   Does (.pdSwapResponseReceive n 1) s fun t =>
     t = (s.pdM n fun y => { y with step := 0, swap := 0, asked := y.asked ||| 2 ^ y.swap }).pdNext n) ∧
  (∀ (s : State) (n : Nat), n < 3 → n < s.pds.length → s.pdHears n = true → (s.pdp n).retry = 2 → (s.pdp n).step = 0 →
   s.pdWants n = 2 → s.pdAcked n = false → Does (.pdSwapRetry n) s fun t =>
     t.outs = s.outs ++ [.pd n (.swap 2)] ∧ (t.pdp n).step = 4 ∧ (t.pdp n).swap = 2 ∧ (t.pdp n).retry = 0 ∧ t.regs = s.regs)

/-- A power request, the phases of an entry and its abandonment. R429: a request that a stable device can take becomes its
target (DISP 1), and the Hewer phase begins. R431: when every duty Hewer is ready the handshake starts at its first block; each
ACK goes on to the next, DEFER waits; a DEFER that expires abandons the entry and the device stays where it was; a user Hewer
that does not reach WFI is halted. R424: at the end of the gate phase the state is entered. Each of these commands completes:
pwrReq, hewerPhaseDone, userHewerWfiTimeout, handshakeAnswer, handshakeDeferExpiry, preparePhaseDone, powerStateEntered; under
the stated conditions on the state and the operands alone, exec answers a next state, with the effect stated. -/
def Obligations.PowerRequestRows : Prop :=
  (∀ (s : State) (c : HostCmd), Takes s c pwrReqBits → s.hostControls = true → c.target.toNat = 0 →
   s.get F.PWR_STAT_CUR < opAt c 0x08 1 % 8 → opAt c 0x08 1 % 8 ≤ 4 → s.get F.PWR_STAT_CUR ≠ 4 → s.get F.PWR_STAT_PHASE = 0 →
   s.boot.held = false → s.bit F.PWR_STAT_PENDV = false → s.precheck (opAt c 0x08 1 % 8) = 0 → s.tun.next = [] →
   Does (.pwrReq c) s fun t =>
     Answers s t c 0x50 0x00 (resultOf [(0x08, 1), (0x09, s.get F.PWR_STAT_CUR), (0x0A, opAt c 0x08 1 % 8), (0x0B, 0xFF)]) ∧
     t.get F.PWR_STAT_TGT = opAt c 0x08 1 % 8 ∧ t.get F.PWR_STAT_PHASE = 1 ∧ t.pwr.entry = opAt c 0x08 1 % 8) ∧
  (∀ (s : State) (c : HostCmd), Takes s c pwrReqBits → s.hostControls = true → c.target.toNat = 0 → 4 < opAt c 0x08 1 % 8 →
   Does (.pwrReq c) s fun t =>
     Answers s t c 0x50 0x03 0 ∧ t.pwr = s.pwr) ∧
  (∀ (s : State), s.get F.PWR_STAT_PHASE = 1 →
   (((List.range 20).any fun n => s.hwState n == 1 && (s.dutyOf n).isSome && !(s.pwr.ready.contains n)) = false) →
   s.pwr.abort = false → s.pwr.entry ≠ 1 → Does (.hewerPhaseDone) s fun t =>
     t.get F.PWR_STAT_PHASE = 2 ∧ t.get F.PWR_STAT_STEP = 1 ∧ t.outs = s.outs ∧ t.pwr = s.pwr) ∧
  (∀ (s : State) (n : Nat), s.get F.PWR_STAT_PHASE = 1 → 20 ≤ n → n < 24 → s.hwState n = 1 →
   Does (.userHewerWfiTimeout n) s fun t =>
     t.hwState n ≠ 1 ∧ t.get F.PWR_HWFORCE = min (s.get F.PWR_HWFORCE + 1) (2 ^ 32 - 1)) ∧
  (∀ (s : State) (busy : Bool), s.get F.PWR_STAT_PHASE = 2 → s.get F.PWR_STAT_STEP < 8 → s.pwr.abort = false →
   s.pwrAnswer (s.get F.PWR_STAT_STEP) s.pwr.entry busy = 0 → Does (.handshakeAnswer busy) s fun t =>
     t.get F.PWR_STAT_STEP = s.get F.PWR_STAT_STEP + 1 ∧ t.get F.PWR_STAT_DEFER = 0 ∧ t.get F.PWR_STAT_PHASE = 2 ∧
     t.outs = s.outs ∧ RegsAgreeOff (fun a => a = A.PWR_STAT) s t) ∧
  (∀ (s : State) (busy : Bool), s.get F.PWR_STAT_PHASE = 2 → s.pwrAnswer (s.get F.PWR_STAT_STEP) s.pwr.entry busy = 2 →
   Does (.handshakeAnswer busy) s fun t =>
     t = s.put F.PWR_STAT_DEFER 1) ∧
  (∀ (s : State), s.get F.PWR_STAT_PHASE = 2 → s.bit F.PWR_STAT_DEFER = true → s.pwr.abort = false → s.pwr.wake = false →
   s.bit F.PWR_STAT_PENDV = false → s.get F.PWR_STAT_CUR < 3 → s.get F.PWR_STAT_CUR ≠ 4 → s.deepAsleep = false →
   Does (.handshakeDeferExpiry) s fun t =>
     t.get F.PWR_STAT_PHASE = 0 ∧ t.get F.PWR_STAT_TGT = s.get F.PWR_STAT_CUR ∧ t.get F.PWR_STAT_CUR = s.get F.PWR_STAT_CUR ∧
     t.get F.PWR_LAST_TGT = s.get F.PWR_STAT_TGT ∧ t.get F.PWR_LAST_BLOCK = blockCode (s.get F.PWR_STAT_STEP) ∧
     t.get F.PWR_LAST_CAUSE = 2 ∧ t.get F.PWR_ABANDON = min (s.get F.PWR_ABANDON + 1) (2 ^ 32 - 1)) ∧
  (∀ (s : State), s.get F.PWR_STAT_PHASE = 3 → s.pwr.abort = false → Does (.preparePhaseDone) s fun t =>
     t = s.put F.PWR_STAT_PHASE 4) ∧
  (∀ (s : State), s.boot.held = false → s.get F.PWR_STAT_PHASE = 4 → s.pwr.entry = 2 → s.get F.PWR_STAT_TGT = 2 →
   s.pwr.wake = false → s.bit F.PWR_STAT_PENDV = false → Does (.powerStateEntered) s fun t =>
     t.get F.PWR_STAT_CUR = 2 ∧ t.get F.PWR_STAT_PHASE = 0 ∧ t.get F.PWR_STAT_TGT = 2 ∧ t.tun = s.tun ∧
     t.get ⟨A.EVT_STAT 0, 8, 1⟩ = 1) ∧
  (∀ (s : State), s.get F.PWR_STAT_PHASE = 4 → s.pwr.entry = 4 → Does (.powerStateEntered) s fun t =>
     t.get F.PWR_STAT_CUR = 4 ∧ t.get F.PWR_STAT_TGT = 4 ∧ t.boot.held = true ∧ t.tun = TunSt.reset ∧ t.pds = s.pds)

/-- Wake, on-demand domains, exit, Penumbra and Thrift. R434 and R435: a selected source that fires in a stable state brings an
exit to Run. R433: the first access to a stopped domain starts it and is counted, and without work it stops; CORE starts ahead
of a boundary in Idle. R436: an exit ends in Run. R438: a dip below the warning level is Thrift, counted and told; leaving it
records the lowest sample and the time. Each of these commands completes: wakeSource, powerExitComplete, domainWake,
domainIdleStop, corePrestart, penumbraEntry, thriftLeave; under the stated conditions on the state and the operands alone, exec
answers a next state, with the effect stated. -/
def Obligations.WakeRows : Prop :=
  (∀ (s : State) (j : Nat) (level : Bool), s.wakes j level = true → s.boot.held = false → 1 ≤ s.get F.PWR_STAT_CUR →
   s.get F.PWR_STAT_CUR ≤ 3 → s.get F.PWR_STAT_PHASE = 0 → Does (.wakeSource { j := j, level := level }) s fun t =>
     t.get F.PWR_STAT_PHASE = 5 ∧ t.get F.PWR_STAT_TGT = 0 ∧ t.get F.PWR_STAT_CUR = s.get F.PWR_STAT_CUR ∧
     t.get F.LANT_WAKE_PEND = 0 ∧ t.bit F.PWR_STAT_PENDV = false ∧ t.get ⟨A.EVT_STAT 0, 24, 1⟩ = 1) ∧
  (∀ (s : State), s.get F.PWR_STAT_PHASE = 5 → 1 ≤ s.get F.PWR_STAT_CUR → s.get F.PWR_STAT_CUR ≤ 2 → s.get F.PWR_STAT_TGT = 0 →
   s.pwr.wake = false → s.bit F.PWR_STAT_PENDV = false → s.tun.ctxs = [] → s.commits = [] → s.metHold = none → s.pcx.hp = [] →
   ((s.schs.all fun c => c.staged.isNone && c.draining.isNone) = true) → Does (.powerExitComplete) s fun t =>
     t.get F.PWR_STAT_CUR = 0 ∧ t.get F.PWR_STAT_PHASE = 0 ∧ t.get F.MEM_DRAMSTAT_STATE = 1 ∧ t.pwr.woken = 0) ∧
  (∀ (s : State) (dom : Nat), s.up = true → dom ∈ stopped (s.get F.PWR_STAT_CUR) → dom ≠ 0 → s.get F.PWR_STAT_PHASE ≠ 5 →
   s.pwr.woken / 2 ^ dom % 2 = 0 → Does (.domainWake dom) s fun t =>
     t.pwr.woken = s.pwr.woken + 2 ^ dom ∧ t.get F.PWR_DOMWAKE = min (s.get F.PWR_DOMWAKE + 1) (2 ^ 32 - 1) ∧ t.outs = s.outs) ∧
  (∀ (s : State) (dom : Nat), s.up = true → s.pwr.woken / 2 ^ dom % 2 = 1 →
   s.due (assoc s.pwr.wokeAt dom) (1000 * s.domIdle) = true → dom ∉ [10, 11] → Does (.domainIdleStop dom) s fun t =>
     t = s.pwrM fun w => { w with woken := w.woken - 2 ^ dom }) ∧
  (∀ (s : State), s.up = true → s.pwr.woken % 2 = 0 → s.coreSoon = true → s.get F.PWR_STAT_CUR = 1 →
   Does (.corePrestart) s fun t =>
     t.pwr.woken = s.pwr.woken + 1 ∧ t.get F.PWR_STAT_CUR = 1) ∧
  (∀ (s : State) (mv : Nat), s.up = true → s.boot.thrift = false → mv < s.warnLevel → Does (.penumbraEntry mv) s fun t =>
     t.boot.thrift = true ∧ t.boot.penumbra = true ∧ t.pwr.thrMin = mv ∧ t.pwr.thrAt = s.uptime ∧
     t.get F.PWR_THRIFTCNT = min (s.get F.PWR_THRIFTCNT + 1) (2 ^ 32 - 1) ∧ t.get ⟨A.EVT_STAT 0, 16, 1⟩ = 1) ∧
  (∀ (s : State) (low : Nat), s.up = true → s.boot.thrift = true → low < 2 ^ 10 → Does (.thriftLeave low) s fun t =>
     t.boot.thrift = false ∧ t.boot.penumbra = false ∧ t.get F.PWR_PEN_MINMV = min low s.pwr.thrMin ∧
     t.get F.PWR_PEN_DURUS = min ((s.uptime - s.pwr.thrAt) / 1000) (2 ^ 22 - 1) ∧ t.get ⟨A.EVT_STAT 0, 17, 1⟩ = 1)

/-- The custom instructions of the Hewers. R442: FTIME gives NS and holds SEC; CRC32 folds a byte; EVR raises an event; WAITEV
gives the pending sources of its mask, or stalls; x0 keeps 0; in U-mode what M-mode alone executes is illegal. R443: HWKICK
restarts the watchdog, HWMODE says for which state the Hewer is ready. R446: CKPT writes the next slot and gives its number.
R447: an effect takes the duty's next number, and one the journal holds is not performed again. Each of these commands
completes: ftime, crc32, ckpt, jrnl, evr, waitev, hwmodeWrite, hwkick; under the stated conditions on the state and the operands
alone, exec answers a next state, with the effect stated. -/
def Obligations.HewerInstructionRows : Prop :=
  (∀ (s : State) (n rd : Nat), s.up = true → n < 24 → n < s.hew.cores.length → s.hwState n = 1 → 1 ≤ rd →
   Does (.ftime n rd 0) s fun t =>
     (t.core n).x = (s.core n).x.set rd (BitVec.ofNat 32 s.ns) ∧ (t.core n).held = s.sec ∧ (t.core n).heldReads = 2 ∧
     t.regs = s.regs ∧ t.outs = s.outs) ∧
  (∀ (s : State) (n rd : Nat), s.up = true → n < 24 → n < s.hew.cores.length → s.hwState n = 1 → 1 ≤ rd →
   0 < (s.core n).heldReads → Does (.ftime n rd 2) s fun t =>
     (t.core n).x = (s.core n).x.set rd (BitVec.ofNat 32 ((s.core n).held / 2 ^ 32)) ∧
     (t.core n).heldReads = (s.core n).heldReads - 1 ∧ t.regs = s.regs) ∧
  (∀ (s : State) (n rd : Nat) (acc : Word) (b : BitVec 8), s.up = true → n < 24 → n < s.hew.cores.length → s.hwState n = 1 →
   1 ≤ rd → Does (.crc32 n rd acc b) s fun t =>
     (t.core n).x = (s.core n).x.set rd (crcStepsLsb 0xEDB88320#32 8 (acc ^^^ b.setWidth 32)) ∧ t.regs = s.regs ∧
     t.outs = s.outs) ∧
  (∀ (s : State) (n : Nat) (acc : Word) (b : BitVec 8), s.up = true → n < 24 → n < s.hew.cores.length → s.hwState n = 1 →
   Does (.crc32 n 0 acc b) s fun t =>
     t = s) ∧
  (∀ (s : State) (n rd d : Nat) (bytes : List (BitVec 8)), s.up = true → n < 24 → n < s.hew.cores.length → s.hwState n = 1 →
   (s.core n).user = false → 1 ≤ rd → s.get (F.HWR_STAT_DUTY n) = d → d < 18 → d < s.hew.duties.length → bytes.length ≤ 32768 →
   Does (.ckpt n rd bytes) s fun t =>
     t.duty d = (s.duty d).checkpoint bytes ∧ (t.duty d).seq = (s.duty d).seq + 1 ∧
     (t.core n).x = (s.core n).x.set rd (BitVec.ofNat 32 ((s.duty d).seq + 1)) ∧ t.outs = s.outs) ∧
  (∀ (s : State) (n code addr d : Nat) (h : Nat) (bytes : List (BitVec 8)), s.up = true → n < 24 → n < s.hew.cores.length →
   s.hwState n = 1 → (s.core n).user = false → s.get (F.HWR_STAT_DUTY n) = d → d < 18 → d < s.hew.duties.length →
   (((s.duty d).journal.any fun j => j.num == (s.duty d).next) = false) → Does (.jrnl n code addr (.host h bytes)) s fun t =>
     (t.duty d).journal = (s.duty d).journal ++ [{ num := (s.duty d).next, code := code, addr := addr }] ∧
     (t.duty d).next = ((s.duty d).next + 1) % 2 ^ 32 ∧ t.outs = s.outs ++ [.hostWrite h bytes]) ∧
  (∀ (s : State) (n code addr d : Nat) (e : DutyEffect), s.up = true → n < 24 → n < s.hew.cores.length → s.hwState n = 1 →
   (s.core n).user = false → s.get (F.HWR_STAT_DUTY n) = d → d < 18 → d < s.hew.duties.length →
   (((s.duty d).journal.any fun j => j.num == (s.duty d).next) = true) → Does (.jrnl n code addr e) s fun t =>
     t = s.dutyM d fun y => { y with next := (y.next + 1) % 2 ^ 32 }) ∧
  (∀ (s : State) (n ev : Nat) (data : List (BitVec 8)), s.up = true → n < 24 → n < s.hew.cores.length → s.hwState n = 1 →
   (s.core n).user = false → ev < 512 → Does (.evr n ev data) s fun t =>
     t.get ⟨A.EVT_STAT (ev / 32), ev % 32, 1⟩ = 1 ∧ RegsAgreeOff EventReg s t) ∧
  (∀ (s : State) (n rd : Nat) (mask pend : Word), s.up = true → n < 24 → n < s.hew.cores.length → s.hwState n = 1 →
   (s.core n).user = false → 1 ≤ rd → mask &&& pend ≠ 0 → Does (.waitev n rd mask pend) s fun t =>
     (t.core n).x = (s.core n).x.set rd (mask &&& pend) ∧ t.regs = s.regs ∧ t.outs = s.outs) ∧
  (∀ (s : State) (n rd : Nat) (mask pend : Word), s.up = true → n < 24 → n < s.hew.cores.length → s.hwState n = 1 →
   (s.core n).user = false → mask &&& pend = 0 →
     exec (.waitev n rd mask pend) s = .next s) ∧
  (∀ (s : State) (n v : Nat), s.up = true → n < 24 → n < s.hew.cores.length → s.hwState n = 1 → (s.core n).user = false → v < 8 →
   s.get F.PWR_STAT_PHASE = 1 → v = s.pwr.entry → Does (.hwmodeWrite n v) s fun t =>
     n ∈ t.pwr.ready ∧ t.get (F.HWR_STAT_MODE n) = v ∧ RegsAgreeOff (fun a => a = (F.HWR_STAT_MODE n).addr) s t) ∧
  (∀ (s : State) (n : Nat), s.up = true → n < 24 → n < s.hew.cores.length → s.hwState n = 1 → (s.core n).user = false →
   Does (.hwkick n) s fun t =>
     t = s.coreM n fun h => { h with kick := s.uptime }) ∧
  (∀ (s : State) (n : Nat), s.up = true → n < 24 → n < s.hew.cores.length → s.hwState n = 1 → (s.core n).user = true →
   Does (.hwkick n) s fun t =>
     t.hwState n = 5 ∧ t.get (F.HWR_STAT_CAUSE n) = 2)

/-- The monitor calls of user programs. R451: MB_RECV and EV_NEXT store what waits, or give −1; MB_SEND fills HWRn_MBOUT and
raises event 7, 4; WAIT ends with the ready sources; REG_READ gives the word in a0 and 0 in a1; PTP frames pass between the
local path and the buffer; EXIT is state 6. R450 and R452: the host starts a program with RUN and delivers a message with SEND.
Each of these commands completes: mbRecv, mbSend, evSub, evNext, wait, hewerRegRead, ptpRecv, ptpSend, exit, userHewerRun,
mailboxSend; under the stated conditions on the state and the operands alone, exec answers a next state, with the effect stated.
-/
def Obligations.MonitorCallRows : Prop :=
  (∀ (s : State) (n buf cap : Nat), s.up = true → 20 ≤ n → n < 24 → n < s.hew.cores.length → s.hwState n = 1 →
   (s.core n).wait = none → s.bit (F.HWR_MBCTL_INFULL n) = true → (s.core n).inbox.length ≤ cap →
   s.bufOk n buf (s.core n).inbox.length = true → Does (.mbRecv n buf cap) s fun t =>
     t.bit (F.HWR_MBCTL_INFULL n) = false ∧ t.outs = s.outs ++ [.hewerMem n buf (s.core n).inbox] ∧
     (t.core n).x = (s.core n).x.set 10 (BitVec.ofNat 32 (s.core n).inbox.length)) ∧
  (∀ (s : State) (n buf : Nat) (b : BitVec 8), s.up = true → 20 ≤ n → n < 24 → n < s.hew.cores.length → s.hwState n = 1 →
   (s.core n).wait = none → s.bufOk n buf 1 = true → (s.core n).unread = false → Does (.mbSend n buf [b]) s fun t =>
     t.get (F.HWR_MBCTL_OUTLEN n) = 1 ∧ t.rd (A.HWR_MBOUT n 0) = b.setWidth 32 ∧ (t.core n).unread = true ∧
     t.get ⟨A.EVT_STAT 1, 28, 1⟩ = 1) ∧
  (∀ (s : State) (n ev : Nat), s.up = true → 20 ≤ n → n < 24 → n < s.hew.cores.length → s.hwState n = 1 →
   (s.core n).wait = none → ev ≤ 511 → Does (.evSub n ev 1) s fun t =>
     (t.core n).subs = ev :: (s.core n).subs.filter (· != ev) ∧ (t.core n).x = (s.core n).x.set 10 (0) ∧ t.regs = s.regs ∧
     t.outs = s.outs) ∧
  (∀ (s : State) (n buf : Nat) (r : EvRec) (rest : List EvRec), s.up = true → 20 ≤ n → n < 24 → n < s.hew.cores.length →
   s.hwState n = 1 → (s.core n).wait = none → (s.core n).events = r :: rest → s.bufOk n buf 32 = true →
   Does (.evNext n buf) s fun t =>
     (t.core n).events = rest ∧ (t.core n).x = (s.core n).x.set 10 (0) ∧ t.regs = s.regs ∧
     t.outs = s.outs ++ [.hewerRec n buf r]) ∧
  (∀ (s : State) (n buf : Nat), s.up = true → 20 ≤ n → n < 24 → n < s.hew.cores.length → s.hwState n = 1 →
   (s.core n).wait = none → (s.core n).events = [] → Does (.evNext n buf) s fun t =>
     t = s.setA0 n (negWord 1)) ∧
  (∀ (s : State) (n mask : Nat), s.up = true → 20 ≤ n → n < 24 → s.hew.cores.length = 24 → s.hwState n = 1 →
   (s.core n).wait = none → mask % 2 = 1 → s.bit (F.HWR_MBCTL_INFULL n) = true → Does (.wait n mask 0) s fun t =>
     (t.core n).wait = none ∧ (t.core n).x = (s.core n).x.set 10 (BitVec.ofNat 32 mask &&& BitVec.ofNat 32 (s.sources n)) ∧
     t.regs = s.regs ∧ t.outs = s.outs) ∧
  (∀ (s : State) (n a : Nat), s.up = true → 20 ≤ n → n < 24 → n < s.hew.cores.length → s.hwState n = 1 → (s.core n).wait = none →
   a % 4 = 0 → a < 2 ^ 24 → s.ctl.posted = [] → Does (.hewerRegRead n a) s fun t =>
     (t.core n).x = ((s.core n).x.set 11 0).set 10 (s.readBus (.hewer n) a).2) ∧
  (∀ (s : State) (n buf cap m : Nat) (bytes : List (BitVec 8)) (w : Int) (rest : List (List (BitVec 8) × Int)), s.up = true →
   20 ≤ n → n < 24 → n < s.hew.cores.length → s.hwState n = 1 → (s.core n).wait = none → s.ptpMac n = some m →
   m < s.macs.length → (s.mac m).localRx = (bytes, w) :: rest → bytes.length ≤ cap → s.bufOk n buf bytes.length = true →
   Does (.ptpRecv n buf cap) s fun t =>
     (t.mac m).localRx = rest ∧ (t.core n).x = (s.core n).x.set 10 (BitVec.ofNat 32 bytes.length) ∧ t.regs = s.regs ∧
     t.outs = s.outs ++ [.hewerMem n buf bytes]) ∧
  (∀ (s : State) (n buf tsid : Nat) (bytes : List (BitVec 8)), s.up = true → 20 ≤ n → n < 24 → n < s.hew.cores.length →
   s.hwState n = 1 → (s.core n).wait = none → s.isHost = false → 0 < s.macs.length → bytes ≠ [] →
   s.bufOk n buf bytes.length = true → tsid < 256 → Does (.ptpSend n buf 0 tsid true bytes) s fun t =>
     (if (((s.mac 0).tx.filter (·.local_)).map (·.bytes.length)).sum + bytes.length ≤ Config.macLocalBytes then (t.mac 0).tx =
       (s.mac 0).tx ++ [{ bytes := bytes, time := false, yel := false, tsid := some tsid, local_ := true }] ∧ (t.core n).x =
       (s.core n).x.set 10 (0) else (t.mac 0).tx = (s.mac 0).tx ∧ (t.core n).x = (s.core n).x.set 10 (negWord 2)) ∧
     t.regs = s.regs ∧ t.outs = s.outs) ∧
  (∀ (s : State) (n : Nat), s.up = true → 20 ≤ n → n < 24 → n < s.hew.cores.length → s.hwState n = 1 → (s.core n).wait = none →
   Does (.exit n) s fun t =>
     t = s.put (F.HWR_STAT_STATE n) 6) ∧
  (∀ (s : State) (r : Req) (n : Nat), s.ctl.posted = [] → s.busOpen r = true → r ≠ .smbus → s.boot.pers ≠ 1 →
   s.mayControl r = true → 20 ≤ n → n < 24 → n < s.hew.cores.length → s.hwState n ≠ 1 → s.hwState n ≠ 2 →
   Does (.userHewerRun r n 1#32) s fun t =>
     t.hwState n = 1 ∧ t.get (F.HWR_CTRL_RUN n) = 1 ∧ (t.core n).user = true ∧ (t.core n).kick = s.uptime ∧
     (t.core n).entry = 0x1000 ∧ t.outs = s.outs ++ [.hewerRun n 0x1000]) ∧
  (∀ (s : State) (r : Req) (n len : Nat), s.ctl.posted = [] → s.busOpen r = true → r ≠ .smbus → s.boot.pers ≠ 1 →
   s.mayControl r = true → 20 ≤ n → n < 24 → s.bit (F.HWR_MBCTL_INFULL n) = false → 1 ≤ len → len ≤ 256 →
   (s.core 20).wait = none → (s.core 21).wait = none → (s.core 22).wait = none → (s.core 23).wait = none →
   n < s.hew.cores.length → Does (.mailboxSend r n (BitVec.ofNat 32 (len + 512))) s fun t =>
     (t.core n).inbox = s.mailBytes n len ∧ t.bit (F.HWR_MBCTL_INFULL n) = true ∧ t.get (F.HWR_MBCTL_INLEN n) = len ∧
     t.outs = s.outs)

/-- User exceptions, failures, takeovers and memory errors. R454: an exception halts a user program with its cause. R445 and
R448: a duty Hewer that misses its kick, or fails, is isolated and a spare takes its duty; with its image and newest checkpoint
loaded the spare runs, and catching up ends the takeover. R457: an uncorrectable error is counted, located and told. R458: at 85
°C the refresh rate doubles. R449: once a duty has stopped its work does not happen: its commands stay in progress, what it
sends is not sent. Each of these commands completes: userHewerException, hewerWatchdogExpiry, hewerFailure, takeoverImageLoaded,
takeoverCatchupDone, galleryEccError, dramTemperatureChange, faultRecoveryComplete, dsoFlip, heartbeatSend, neighbourSend,
routeCompute, announceSend, cartPrepareSend; under the stated conditions on the state and the operands alone, exec answers a
next state, with the effect stated. -/
def Obligations.FailureRows : Prop :=
  (∀ (s : State) (n cause : Nat), s.up = true → 20 ≤ n → n < 24 → s.hwState n = 1 → cause < 16 →
   Does (.userHewerException n cause) s fun t =>
     t.hwState n = 5 ∧ t.get (F.HWR_STAT_CAUSE n) = cause ∧ t.get ⟨A.EVT_STAT 1, 27, 1⟩ = 1) ∧
  (∀ (s : State) (n d : Nat), s.up = true → n < 18 → s.hwState n = 1 → s.dutyOf n = some d → s.spare = some 18 →
   s.due (some (s.core n).kick) (1000 * max 2 (s.get (F.HWR_WDT_US n))) = true → Does (.hewerWatchdogExpiry n) s fun t =>
     t.hwState n = 4 ∧ t.get (F.HWR_STAT_CAUSE n) = 14 ∧ t.get (F.HWR_MAP_HEWER d) = 18 ∧ t.get (F.HWR_STAT_DUTY 18) = d ∧
     t.hwState 18 = 0 ∧ (t.hew.takes.any fun k => k.duty == d && k.old == n && k.new == 18 && k.cause == 1 && !k.started) = true) ∧
  (∀ (s : State) (n d : Nat), s.up = true → n < 18 → s.hwState n = 1 → s.dutyOf n = some d → s.spare = none →
   Does (.hewerFailure n 13) s fun t =>
     t.hwState n = 4 ∧ t.get (F.HWR_STAT_CAUSE n) = 13 ∧ t.get (F.HWR_STAT_DUTY n) = 0x1F ∧ t.get ⟨A.EVT_STAT 1, 25, 1⟩ = 1) ∧
  (∀ (s : State) (d : Nat) (k : Takeover), s.up = true → s.hew.takes = [k] → k.duty = d → k.started = false → k.new < 24 →
   d < s.hew.duties.length → Does (.takeoverImageLoaded d false) s fun t =>
     t.hwState k.new = 1 ∧ t.hew.takes = [{ k with started := true, late := false }] ∧
     (t.duty d).next = (s.duty d).newest.eff + 1 ∧ t.outs = s.outs ++ [.hewerMem k.new 0x10000 (s.duty d).newest.bytes]) ∧
  (∀ (s : State) (d : Nat) (k : Takeover), s.up = true → s.hew.takes = [k] → k.duty = d → k.started = true →
   Does (.takeoverCatchupDone d) s fun t =>
     t.hew.takes = [] ∧ t.get F.HWR_TAKEOVERS = min (s.get F.HWR_TAKEOVERS + 1) (2 ^ 32 - 1) ∧ t.get ⟨A.EVT_STAT 1, 24, 1⟩ = 1) ∧
  (∀ (s : State) (addr i : Nat), s.up = true → addr < 0x2000000 → Does (.galleryEccError addr 3 0 i) s fun t =>
     t.get F.MEM_GUNC = min (s.get F.MEM_GUNC + 1) (2 ^ 32 - 1) ∧ t.get F.MEM_GERRADDR_ADDR = addr / 8 * 8 ∧
     t.get ⟨A.EVT_STAT 2, 17, 1⟩ = 1) ∧
  (∀ (s : State) (temp : Nat), s.memUp = true → 85 ≤ temp → temp < 128 → s.bit F.MEM_DRAMSTAT_DOUBLE = false →
   Does (.dramTemperatureChange temp) s fun t =>
     t.get F.MEM_DRAMSTAT_TEMP = temp ∧ t.bit F.MEM_DRAMSTAT_DOUBLE = true ∧ t.get ⟨A.EVT_STAT 2, 19, 1⟩ = 1) ∧
  (∀ (s : State) (o : OpenFault), s.up = true → s.flt.opens = [o] → o.idx < 256 → Does (.faultRecoveryComplete o.seq) s fun t =>
     t.flt.opens = [] ∧ t.get ⟨A.FLT_ENT1 o.idx, 10, 1⟩ = 1 ∧ t.get (F.FLT_ENT7 o.idx) = s.recov o.at_ ∧
     t.get F.FLT_OPEN_COUNT = 0) ∧
  (∀ (s : State) (c : HostCmd), c.ring < 256 → s.canTake c = true → cmdClean c dsoFlipBits = true → s.hostControls = true →
   c.target.toNat = 0 → s.dutyRuns 12 = false → Does (.dsoFlip c) s fun t =>
     t.outs = s.outs ∧ t.dispOuts = s.dispOuts ∧ t.ctl.inflight = s.ctl.inflight ++ [s.ticket 0x30 c]) ∧
  (∀ (s : State) (c : HostCmd), s.dutyRuns 1 = false →
     exec (.dsoFlip c) s = .next s) ∧
  (∀ (s : State), s.dutyRuns 0 = false →
     exec (.heartbeatSend) s = .next s) ∧
  (∀ (s : State) (p : Nat), s.dutyRuns 4 = false →
     exec (.neighbourSend p) s = .next s) ∧
  (∀ (s : State), s.dutyRuns 5 = false →
     exec (.routeCompute) s = .next s) ∧
  (∀ (s : State), s.dutyRuns 9 = false →
     exec (.announceSend) s = .next s) ∧
  (∀ (s : State) (id : Nat), s.dutyRuns 3 = false →
     exec (.cartPrepareSend id) s = .next s)

/-- Issuing an engine operation. R477: GO, with the arguments in KEY_BUF, or a firmware channel starts an operation and BUSY
shows it; while BUSY is 1 GO is ignored and tallied. What the operation does follows at KEY_OPERATION_DONE. Each of these
commands completes: keyDerive, keyKeygen, keyAgree, keySign, keyPubkey, keyVerify, keyErase, keyAttest, keyWrap, keyGenroot,
keyProgram, keyDbgunlock, keyUnwrap, keyAdvance; under the stated conditions on the state and the operands alone, exec answers a
next state, with the effect stated. -/
def Obligations.KeyIssueRows : Prop :=
  (∀ (s : State) (args dram : List (BitVec 8)), s.boot.held = false → s.keys.running = none → s.keys.burning = none →
   s.keys.queue = [] → s.busOpen .host = true → s.boot.pers ≠ 1 → s.mayControl .host = true → s.bit F.KEY_CMD_BUSY = false →
   Does (.keyDerive .host args dram) s fun t =>
     t.keys.running = some { fw := false, op := 1, args := s.keyBuf, dram := dram } ∧ t.bit F.KEY_CMD_BUSY = true ∧
     t.get F.KEY_CMD_OP = 1 ∧ t.keys.slots = s.keys.slots ∧ t.outs = s.outs) ∧
  (∀ (s : State) (args dram : List (BitVec 8)), s.boot.held = false → s.keys.running = none → s.keys.burning = none →
   s.keys.queue = [] → s.busOpen .host = true → s.boot.pers ≠ 1 → s.mayControl .host = true → s.bit F.KEY_CMD_BUSY = false →
   Does (.keyKeygen .host args dram) s fun t =>
     t.keys.running = some { fw := false, op := 2, args := s.keyBuf, dram := dram } ∧ t.bit F.KEY_CMD_BUSY = true ∧
     t.get F.KEY_CMD_OP = 2 ∧ t.keys.slots = s.keys.slots ∧ t.outs = s.outs) ∧
  (∀ (s : State) (args dram : List (BitVec 8)), s.boot.held = false → s.keys.running = none → s.keys.burning = none →
   s.keys.queue = [] → s.busOpen .host = true → s.boot.pers ≠ 1 → s.mayControl .host = true → s.bit F.KEY_CMD_BUSY = false →
   Does (.keyAgree .host args dram) s fun t =>
     t.keys.running = some { fw := false, op := 3, args := s.keyBuf, dram := dram } ∧ t.bit F.KEY_CMD_BUSY = true ∧
     t.get F.KEY_CMD_OP = 3 ∧ t.keys.slots = s.keys.slots ∧ t.outs = s.outs) ∧
  (∀ (s : State) (args dram : List (BitVec 8)), s.boot.held = false → s.keys.running = none → s.keys.burning = none →
   s.keys.queue = [] → s.busOpen .host = true → s.boot.pers ≠ 1 → s.mayControl .host = true → s.bit F.KEY_CMD_BUSY = false →
   Does (.keySign .host args dram) s fun t =>
     t.keys.running = some { fw := false, op := 4, args := s.keyBuf, dram := dram } ∧ t.bit F.KEY_CMD_BUSY = true ∧
     t.get F.KEY_CMD_OP = 4 ∧ t.keys.slots = s.keys.slots ∧ t.outs = s.outs) ∧
  (∀ (s : State) (args dram : List (BitVec 8)), s.boot.held = false → s.keys.running = none → s.keys.burning = none →
   s.keys.queue = [] → s.busOpen .host = true → s.boot.pers ≠ 1 → s.mayControl .host = true → s.bit F.KEY_CMD_BUSY = false →
   Does (.keyPubkey .host args dram) s fun t =>
     t.keys.running = some { fw := false, op := 5, args := s.keyBuf, dram := dram } ∧ t.bit F.KEY_CMD_BUSY = true ∧
     t.get F.KEY_CMD_OP = 5 ∧ t.keys.slots = s.keys.slots ∧ t.outs = s.outs) ∧
  (∀ (s : State) (args dram : List (BitVec 8)), s.boot.held = false → s.keys.running = none → s.keys.burning = none →
   s.keys.queue = [] → s.busOpen .host = true → s.boot.pers ≠ 1 → s.mayControl .host = true → s.bit F.KEY_CMD_BUSY = false →
   Does (.keyVerify .host args dram) s fun t =>
     t.keys.running = some { fw := false, op := 6, args := s.keyBuf, dram := dram } ∧ t.bit F.KEY_CMD_BUSY = true ∧
     t.get F.KEY_CMD_OP = 6 ∧ t.keys.slots = s.keys.slots ∧ t.outs = s.outs) ∧
  (∀ (s : State) (args dram : List (BitVec 8)), s.boot.held = false → s.keys.running = none → s.keys.burning = none →
   s.keys.queue = [] → s.busOpen .host = true → s.boot.pers ≠ 1 → s.mayControl .host = true → s.bit F.KEY_CMD_BUSY = false →
   Does (.keyErase .host args dram) s fun t =>
     t.keys.running = some { fw := false, op := 7, args := s.keyBuf, dram := dram } ∧ t.bit F.KEY_CMD_BUSY = true ∧
     t.get F.KEY_CMD_OP = 7 ∧ t.keys.slots = s.keys.slots ∧ t.outs = s.outs) ∧
  (∀ (s : State) (args dram : List (BitVec 8)), s.boot.held = false → s.keys.running = none → s.keys.burning = none →
   s.keys.queue = [] → s.busOpen .host = true → s.boot.pers ≠ 1 → s.mayControl .host = true → s.bit F.KEY_CMD_BUSY = false →
   Does (.keyAttest .host args dram) s fun t =>
     t.keys.running = some { fw := false, op := 8, args := s.keyBuf, dram := dram } ∧ t.bit F.KEY_CMD_BUSY = true ∧
     t.get F.KEY_CMD_OP = 8 ∧ t.keys.slots = s.keys.slots ∧ t.outs = s.outs) ∧
  (∀ (s : State) (args dram : List (BitVec 8)), s.boot.held = false → s.keys.running = none → s.keys.burning = none →
   s.keys.queue = [] → s.busOpen .host = true → s.boot.pers ≠ 1 → s.mayControl .host = true → s.bit F.KEY_CMD_BUSY = false →
   Does (.keyWrap .host args dram) s fun t =>
     t.keys.running = some { fw := false, op := 10, args := s.keyBuf, dram := dram } ∧ t.bit F.KEY_CMD_BUSY = true ∧
     t.get F.KEY_CMD_OP = 10 ∧ t.keys.slots = s.keys.slots ∧ t.outs = s.outs) ∧
  (∀ (s : State) (args dram : List (BitVec 8)), s.boot.held = false → s.keys.running = none → s.keys.burning = none →
   s.keys.queue = [] → s.busOpen .host = true → s.boot.pers ≠ 1 → s.mayControl .host = true → s.bit F.KEY_CMD_BUSY = false →
   Does (.keyGenroot .host args dram) s fun t =>
     t.keys.running = some { fw := false, op := 11, args := s.keyBuf, dram := dram } ∧ t.bit F.KEY_CMD_BUSY = true ∧
     t.get F.KEY_CMD_OP = 11 ∧ t.keys.slots = s.keys.slots ∧ t.outs = s.outs) ∧
  (∀ (s : State) (args dram : List (BitVec 8)), s.boot.held = false → s.keys.running = none → s.keys.burning = none →
   s.keys.queue = [] → s.busOpen .host = true → s.boot.pers ≠ 1 → s.mayControl .host = true → s.bit F.KEY_CMD_BUSY = false →
   Does (.keyProgram .host args dram) s fun t =>
     t.keys.running = some { fw := false, op := 12, args := s.keyBuf, dram := dram } ∧ t.bit F.KEY_CMD_BUSY = true ∧
     t.get F.KEY_CMD_OP = 12 ∧ t.keys.slots = s.keys.slots ∧ t.outs = s.outs) ∧
  (∀ (s : State) (args dram : List (BitVec 8)), s.boot.held = false → s.keys.running = none → s.keys.burning = none →
   s.keys.queue = [] → s.busOpen .host = true → s.boot.pers ≠ 1 → s.mayControl .host = true → s.bit F.KEY_CMD_BUSY = false →
   Does (.keyDbgunlock .host args dram) s fun t =>
     t.keys.running = some { fw := false, op := 14, args := s.keyBuf, dram := dram } ∧ t.bit F.KEY_CMD_BUSY = true ∧
     t.get F.KEY_CMD_OP = 14 ∧ t.keys.slots = s.keys.slots ∧ t.outs = s.outs) ∧
  (∀ (s : State) (n : Nat) (args dram : List (BitVec 8)), s.up = true → s.keys.running = none → s.keys.burning = none →
   s.keys.queue = [] → Does (.keyUnwrap (.hewer n) args dram) s fun t =>
     t.keys.running = some { fw := true, op := 9, args := args, dram := dram } ∧ t.bit F.KEY_CMD_BUSY = true ∧
     t.keys.slots = s.keys.slots ∧ t.outs = s.outs) ∧
  (∀ (s : State) (n : Nat) (args dram : List (BitVec 8)), s.up = true → s.keys.running = none → s.keys.burning = none →
   s.keys.queue = [] → Does (.keyAdvance (.hewer n) args dram) s fun t =>
     t.keys.running = some { fw := true, op := 13, args := args, dram := dram } ∧ t.bit F.KEY_CMD_BUSY = true ∧
     t.keys.slots = s.keys.slots ∧ t.outs = s.outs) ∧
  (∀ (s : State) (args dram : List (BitVec 8)), s.busOpen .host = true → s.boot.pers ≠ 1 → s.mayControl .host = true →
   s.bit F.KEY_CMD_BUSY = true → Does (.keyDerive .host args dram) s fun t =>
     t.get F.KEY_IGNWR = min (s.get F.KEY_IGNWR + 1) (2 ^ 32 - 1) ∧ t.keys = s.keys)

/-- The end of an engine operation, life-cycle transitions and the nonce. R477: an operation that ends leaves BUSY 0 and its
CODE. R474: ERASE empties the slot and advances its generation; a handle of another generation is BADHANDLE (2). R478: a host
reaches no slot from 1 to 27 (POLICY, 3). R471: a written partition is refused (8). R468 and R470: a transition burns, and a
field that reads made brings a core reset. R484: GEN draws a nonce, and DBGUNLOCK outside RMA is refused (5). The values drawn
are free (log entry 7), and what the engines compute is uninterpreted (log entry 8). Each of these commands completes:
keyOperationDone, lifecycleRequest, lifecycleBurnDone, nonceGenerate; under the stated conditions on the state and the operands
alone, exec answers a next state, with the effect stated. -/
def Obligations.KeyDoneRows : Prop :=
  (∀ (s : State) (b : Bool) (o : KeyOp) (v : KeyVal), s.up = true → s.keys.running = some o → s.keys.queue = [] →
   s.keys.burning = none → o.fw = true → o.op = 7 → s.lcs ≠ 4 → (s.slotAt (o.handle % 64)).key = some v →
   (s.slotAt (o.handle % 64)).gen = o.handle / 64 → s.slotInUse (o.handle % 64) = false → Does (.keyOperationDone b) s fun t =>
     t.slotAt (o.handle % 64) = { gen := ((s.slotAt (o.handle % 64)).gen + 1) % 1024, key := none } ∧
     t.outs = s.outs ++ [.keyResult 7 0 0 []] ∧ t.keys.running = none ∧ t.bit F.KEY_CMD_BUSY = false) ∧
  (∀ (s : State) (b : Bool) (o : KeyOp), s.up = true → s.keys.running = some o → s.keys.queue = [] → s.keys.burning = none →
   o.fw = true → o.op = 7 → (s.slotAt (o.handle % 64)).key = none → Does (.keyOperationDone b) s fun t =>
     t.keys.slots = s.keys.slots ∧ t.get F.KEY_OPERR = min (s.get F.KEY_OPERR + 1) (2 ^ 32 - 1) ∧
     Sends s t (.keyResult 7 2 0 []) ∧ t.keys.running = none ∧ t.bit F.KEY_CMD_BUSY = false) ∧
  (∀ (s : State) (b : Bool) (o : KeyOp) (v : KeyVal), s.up = true → s.keys.running = some o → s.keys.queue = [] →
   s.keys.burning = none → o.fw = false → o.op = 7 → 1 ≤ o.handle % 64 → o.handle % 64 ≤ 27 →
   (s.slotAt (o.handle % 64)).key = some v → (s.slotAt (o.handle % 64)).gen = o.handle / 64 →
   Does (.keyOperationDone b) s fun t =>
     t.keys.slots = s.keys.slots ∧ t.get F.KEY_RES_CODE = 3 ∧ t.get F.KEY_RES_HANDLE = 0 ∧ t.keys.running = none ∧
     t.bit F.KEY_CMD_BUSY = false) ∧
  (∀ (s : State) (b : Bool) (o : KeyOp) (v : KeyVal), s.up = true → s.keys.running = some o → s.keys.queue = [] →
   s.keys.burning = none → o.fw = true → o.op = 1 → s.lcs ≠ 4 → o.handle = 30 → (s.slotAt 30).key = some v →
   (s.slotAt 30).gen = 0 → polBit v.policy 0 = true → v.depth < 8 → byteAt o.args 2 = 1 → byteAt o.args 3 = 32 →
   (s.slotAt 28).key = none → 28 < s.keys.slots.length → Does (.keyOperationDone b) s fun t =>
     (t.slotAt 28).key = some
       { kind := 0, policy := 1, depth := v.depth + 1, value := derive v.value (slice o.args 0x20 32) 32 } ∧
     t.outs = s.outs ++ [.keyResult 1 0 (s.handleOf 28) []] ∧ t.keys.running = none ∧ t.bit F.KEY_CMD_BUSY = false) ∧
  (∀ (s : State) (b : Bool) (o : KeyOp) (v : KeyVal), s.up = true → s.keys.running = some o → s.keys.queue = [] →
   s.keys.burning = none → o.fw = true → o.op = 1 → s.lcs ≠ 4 → o.handle = 30 → (s.slotAt 30).key = some v →
   (s.slotAt 30).gen = 0 → polBit v.policy 0 = false → Does (.keyOperationDone b) s fun t =>
     t.keys.slots = s.keys.slots ∧ Sends s t (.keyResult 1 3 0 []) ∧ t.keys.running = none ∧ t.bit F.KEY_CMD_BUSY = false) ∧
  (∀ (s : State) (b : Bool) (o : KeyOp), s.up = true → s.keys.running = some o → s.keys.queue = [] → s.keys.burning = none →
   o.fw = true → o.op = 2 → s.lcs ≠ 4 → byteAt o.args 0 = 1 → (s.slotAt 28).key = none → 28 < s.keys.slots.length →
   Does (.keyOperationDone b) s fun t =>
     (t.slotAt 28).key = some
       { kind := 1, policy := 0x40, depth := 0, value := scalarBytes (Config.ecKeyGen (Config.freeRandom s.draws)) } ∧
     Sends s t (.keyResult 2 0 (s.handleOf 28) (pubBytes (Config.ecPublic (Config.ecKeyGen (Config.freeRandom s.draws))))) ∧
     t.keys.running = none ∧ t.bit F.KEY_CMD_BUSY = false) ∧
  (∀ (s : State) (b : Bool) (o : KeyOp), s.up = true → s.keys.running = some o → s.keys.queue = [] → s.keys.burning = none →
   o.fw = true → o.op = 11 → s.lcs = 0 → byteAt o.args 0 = 1 → s.progd 1 = true → Does (.keyOperationDone b) s fun t =>
     t.keys.depRoot = s.keys.depRoot ∧ Sends s t (.keyResult 11 8 0 []) ∧ t.keys.running = none ∧ t.bit F.KEY_CMD_BUSY = false) ∧
  (∀ (s : State) (o : KeyOp), s.up = true → s.keys.running = some o → s.keys.queue = [] → s.keys.burning = none → o.fw = true →
   o.op = 13 → 1 ≤ s.lcs → s.lcs ≤ 2 → s.keys.runSvn ≤ 64 → s.keys.svnA ≤ s.keys.runSvn → s.keys.svnB ≤ s.keys.runSvn →
   s.get F.GLB_BOOT_SVNCTR = s.keys.runSvn → Does (.keyOperationDone true) s fun t =>
     t.keys.svnA = s.keys.runSvn ∧ t.keys.svnB = s.keys.runSvn ∧ t.get F.GLB_BOOT_SVNCTR = s.keys.runSvn ∧
     t.keys.running = none ∧ t.bit F.KEY_CMD_BUSY = false) ∧
  (∀ (s : State) (b : Bool) (o : KeyOp), s.up = true → s.keys.running = some o → s.keys.queue = [] → s.keys.burning = none →
   o.fw = false → o.op = 14 → s.lcs < 3 → Does (.keyOperationDone b) s fun t =>
     t.get F.KEY_RES_CODE = 5 ∧ t.bit F.KEY_LCS_JTAGUNL = s.bit F.KEY_LCS_JTAGUNL ∧ t.keys.running = none ∧
     t.bit F.KEY_CMD_BUSY = false) ∧
  (∀ (s : State), s.busOpen .host = true → s.boot.pers ≠ 1 → s.mayControl .host = true → s.keys.burning = none → s.lcs = 0 →
   s.progd 1 = true → s.progd 3 = true → s.progd 4 = true → Does (.lifecycleRequest .host 1) s fun t =>
     t = s.ksM fun k => { k with burning := some 1 }) ∧
  (∀ (s : State), s.busOpen .host = true → s.boot.pers ≠ 1 → s.mayControl .host = true → s.keys.burning = none → s.lcs = 0 →
   Does (.lifecycleRequest .host 3) s fun t =>
     t.keys = s.keys ∧ t.get ⟨A.EVT_STAT 1, 1, 1⟩ = 1) ∧
  (∀ (s : State) (cells : Nat), s.up = true → s.keys.burning = some 1 → s.keys.running = none → 48 ≤ cells →
   0 < s.keys.cells.length → Does (.lifecycleBurnDone cells) s fun t =>
     48 ≤ t.keys.cells.getD 0 0 ∧ t.keys.burning = none ∧ t.bit F.GLB_RSTCAUSE_SWCORE = true ∧
     (t.keys.slots.all fun x => x.key.isNone) = true) ∧
  (∀ (s : State), s.busOpen .host = true → s.boot.pers ≠ 1 → s.mayControl .host = true → Does (.nonceGenerate .host) s fun t =>
     t.bit F.KEY_NONCECTL_VALID = true ∧ t.draws = s.draws + 1 ∧
     ((List.range 8).all fun k => t.get (F.KEY_NONCE k) == (Config.freeRandom s.draws).toNat / 2 ^ (32 * k) % 2 ^ 32) = true ∧
     t.outs = s.outs)

/-- One step takes the command at the front of the queue; with an empty queue the clocks tick. The queue is first in, first out;
the idle tick is the model's choice (log entry 2). -/
def Obligations.StepTakesFront : Prop :=
  (∀ (s : State) (c : Instr) (rest : List Instr), s.pending = c :: rest →
     step s = exec c { s with pending := rest }) ∧
  (∀ (s : State), s.pending = [] →
     step s = .next s.tick)

/-- No command changes the queue of waiting commands. What a command does reaches every part of the machine but the queue: the
step alone takes from it (log entry 2). -/
def Obligations.QueueOnlyByStep : Prop :=
  ∀ (c : Instr) (s t : State), exec c s = .next t →
     t.pending = s.pending

/-- What reset leaves. Registers read their reset values, GLB_OWNPRIO 128 among them; an address without a register reads 0.
That no command waits, nothing has been sent, PORST_N is low and no strap is sampled at the start is the model's choice of a
starting point (log entry 1). -/
def Obligations.ResetValues : Prop :=
  State.reset.pending = [] ∧ State.reset.outs = [] ∧ State.reset.boot.held = true ∧ State.reset.boot.porstLow = true ∧
  State.reset.boot.roleLatched = false ∧ State.reset.get F.GLB_OWNPRIO_PRIO = 128 ∧ State.reset.get F.GLB_OWNER_STATE = 0 ∧
  State.reset.get F.GLB_BOOT_STAT = 0 ∧ State.reset.get F.FAB_ID_FID = 0 ∧ State.reset.rd 0xFFFFFC = 0

/-- The stepping is 0xA1. GLB_ID.STEP at reset, and as the host reads it and after any host write of GLB_ID. -/
def Obligations.SteppingRead : Prop :=
  (State.reset.get F.GLB_ID_STEP = 0xA1) ∧
  (∀ (s : State) (v : BitVec 64), s.get F.GLB_ID_STEP = 0xA1 → Does (.writeRegister .host A.GLB_ID 4 v) s fun t =>
     t.get F.GLB_ID_STEP = 0xA1)

/-- The register file is in canonical form at reset. The form is the model's own: addresses strictly rising, no entry equal to
its reset value. -/
def Obligations.RegistersCanonicalAtReset : Prop :=
  RegsCanonical State.reset

/-- Every step keeps the register file in canonical form. From any state, reached or not, whatever command stands in front or
with none: equal registers are equal data. -/
def Obligations.RegistersStayCanonical : Prop :=
  ∀ (s t : State), RegsCanonical s → step s = .next t →
     RegsCanonical t

/-- A Pelfer header packs and unpacks to the same frame, and its HCRC checks. For every value each field of Table 6-1 can hold;
the payload goes beside the header. -/
def Obligations.HeaderRoundTrip : Prop :=
  (∀ (f : Frame), f.dst < 64 → f.src < 64 → f.tid < 4096 → f.cls < 8 → f.kind < 32 → f.len < 16384 → f.hseq < 4096 →
   f.eseq < 65536 → f.ttl < 64 → f.flags < 256 → f.rsvd < 2 ^ 24 →
     unpackHeader (packHeader f) f.payload = f ∧ headerOk (packHeader f) = true) ∧
  (∀ (h : BitVec 128) (payload : List (BitVec 8)), headerOk h = true →
     packHeader (unpackHeader h payload) = h)

/-- Only a power-on reset samples ROLE; every other reset keeps it. A power-on reset clears the latch, the first sample after it
latches ROLE, and no later sample, reset pin, reset write, watchdog, trip, rail or life-cycle reset changes it. Each of these
commands completes: powerOnReset, strapSample, porstNAssert, porstNRelease, warmrstNAssert, softwareCoreReset,
softwareWarmReset, bootWatchdogExpiry, thermalTrip, railBelowResetLevel, yalcelReset, lifecycleBurnDone; under the stated
conditions on the state and the operands alone, exec answers a next state, with the effect stated. -/
def Obligations.RoleLatch : Prop :=
  (∀ (s : State) (x : PowerUp), Does (.powerOnReset x) s fun t => t.boot.roleLatched = false) ∧
  (∀ (s : State) (role boot smba fids lanes : Nat), s.boot.strapsDue = true → s.boot.roleLatched = false →
   Does (.strapSample role boot smba fids lanes) s fun t =>
     t.role = role % 4 ∧ t.boot.roleLatched = true) ∧
  (∀ (s : State) (role boot smba fids lanes : Nat), s.boot.roleLatched = true →
   Does (.strapSample role boot smba fids lanes) s fun t =>
     t.role = s.role ∧ t.boot.roleLatched = s.boot.roleLatched) ∧
  (∀ (s : State), Does (.porstNAssert) s fun t => t.role = s.role ∧ t.boot.roleLatched = s.boot.roleLatched) ∧
  (∀ (s : State), Does (.porstNRelease) s fun t => t.role = s.role ∧ t.boot.roleLatched = s.boot.roleLatched) ∧
  (∀ (s : State), Does (.warmrstNAssert) s fun t => t.role = s.role ∧ t.boot.roleLatched = s.boot.roleLatched) ∧
  (∀ (s : State) (r : Req), Does (.softwareCoreReset r) s fun t =>
     t.role = s.role ∧ t.boot.roleLatched = s.boot.roleLatched) ∧
  (∀ (s : State) (r : Req), Does (.softwareWarmReset r) s fun t =>
     t.role = s.role ∧ t.boot.roleLatched = s.boot.roleLatched) ∧
  (∀ (s : State), Does (.bootWatchdogExpiry) s fun t => t.role = s.role ∧ t.boot.roleLatched = s.boot.roleLatched) ∧
  (∀ (s : State), Does (.thermalTrip) s fun t => t.role = s.role ∧ t.boot.roleLatched = s.boot.roleLatched) ∧
  (∀ (s : State) (rail : Nat), Does (.railBelowResetLevel rail) s fun t =>
     t.role = s.role ∧ t.boot.roleLatched = s.boot.roleLatched) ∧
  (∀ (s : State) (v : Nat) (done : Bool), s.up = true → Does (.yalcelReset v done) s fun t =>
     t.role = s.role ∧ t.boot.roleLatched = s.boot.roleLatched) ∧
  (∀ (s : State) (cells : Nat), s.up = true → Does (.lifecycleBurnDone cells) s fun t =>
     t.role = s.role ∧ t.boot.roleLatched = s.boot.roleLatched)

/-- A latched role of 3 holds the device and raises the strap fault. The sample that latches 3 holds all but the Lantern, sets
the status bit SMBus reads and drives SMB_ALERT_N low; neither PORST_N, a new sample, a rail that returns nor an ALERTCLR ends
it; a power-on reset does. -/
def Obligations.StrapFaultHolds : Prop :=
  (∀ (s : State) (boot smba fids lanes : Nat), s.boot.strapsDue = true → s.boot.roleLatched = false →
   Does (.strapSample 3 boot smba fids lanes) s fun t =>
     t.role = 3 ∧ t.boot.strapFault = true ∧ t.boot.held = true ∧ t.smb.causes % 2 = 1 ∧ Sends s t (.pin .smbAlertN false)) ∧
  (∀ (s : State) (temp : BitVec 8), s.role = 3 → s.boot.strapFault = true → Does (.smbusStatusRead temp) s fun t =>
     t = s.smbBlock 0x00 [7, s.get F.GLB_BOOT_STAT, s.get F.PWR_STAT_CUR, s.get F.PWR_STAT_TGT, temp.toNat, s.ownerFid, s.fid,
       (if s.boot.thermTrip then 1 else 0) + (if s.boot.penumbra then 2 else 0) + (if s.smb.causes = 0 then 0 else 4) + (if
       s.smb.unavail then 8 else 0)]) ∧
  (∀ (s : State), s.boot.strapFault = true → s.boot.held = true → Does (.porstNAssert) s fun t =>
     t.boot.strapFault = true ∧ t.boot.held = true) ∧
  (∀ (s : State), s.boot.strapFault = true → s.boot.held = true → Does (.porstNRelease) s fun t =>
     t.boot.strapFault = true ∧ t.boot.held = true) ∧
  (∀ (s : State) (role boot smba fids lanes : Nat), s.boot.roleLatched = true → s.boot.strapFault = true → s.boot.held = true →
   Does (.strapSample role boot smba fids lanes) s fun t =>
     t.role = s.role ∧ t.boot.strapFault = true ∧ t.boot.held = true) ∧
  (∀ (s : State) (rail : Nat), s.boot.strapFault = true → s.boot.held = true → Does (.railValid rail) s fun t =>
     t.boot.strapFault = true ∧ t.boot.held = true) ∧
  (∀ (s : State) (v : Nat) (pec : Bool), s.smb.causes % 2 = 1 → Does (.smbusAlertclr v pec) s fun t =>
     t.smb.causes % 2 = 1 ∧ Out.pin .smbAlertN true ∉ t.outs.drop s.outs.length) ∧
  (∀ (s : State), s.smb.causes % 2 = 1 → Does (.smbusAlertResponse) s fun t =>
     t.smb.causes % 2 = 1 ∧ Out.pin .smbAlertN true ∉ t.outs.drop s.outs.length) ∧
  (∀ (s : State) (x : PowerUp), Does (.powerOnReset x) s fun t => t.boot.strapFault = false)

/-- A command with a reserved bit set, and an unknown opcode, are not executed, complete with their code and are counted. For
each opcode of Table 4-5 taken from a ring (R89); after the tunnel commands and CART_ABORT what already waited inside the device
goes on. -/
def Obligations.BadReservedRows : Prop :=
  (∀ (s : State) (c : HostCmd), c.ring < 256 → s.canTake c = true → cmdClean c [] = false → Does (.nop c) s fun t =>
     TurnedAway s t c 0x00 0x02 F.GLB_CMDIGN) ∧
  (∀ (s : State) (c : HostCmd), c.ring < 256 → s.canTake c = true → cmdClean c regReadBits = false → Does (.regRead c) s fun t =>
     TurnedAway s t c 0x01 0x02 F.GLB_CMDIGN) ∧
  (∀ (s : State) (c : HostCmd), c.ring < 256 → s.canTake c = true → cmdClean c regWriteBits = false →
   Does (.regWrite c) s fun t =>
     TurnedAway s t c 0x02 0x02 F.GLB_CMDIGN) ∧
  (∀ (s : State) (c : HostCmd), c.ring < 256 → s.canTake c = true → cmdClean c [(8, 0, 6)] = false →
   Does (.ownYield c) s fun t =>
     TurnedAway s t c 0x08 0x02 F.GLB_CMDIGN) ∧
  (∀ (s : State) (c : HostCmd) (ans : List DevAns), s.up = true → c.ring < 256 → s.canTake c = true →
   cmdClean c (openBits c.ops) = false → Does (.tunOpen c ans) s fun t =>
     ∃ u, TurnedAway s u c 0x10 0x02 F.GLB_CMDIGN ∧ t = u.flushLoop) ∧
  (∀ (s : State) (c : HostCmd) (ans : List DevAns), s.up = true → c.ring < 256 → s.canTake c = true →
   cmdClean c [(0x08, 0, 16), (0x0A, 0, 1)] = false → Does (.tunClose c ans) s fun t =>
     ∃ u, TurnedAway s u c 0x11 0x02 F.GLB_CMDIGN ∧ t = u.flushLoop) ∧
  (∀ (s : State) (c : HostCmd), s.up = true → c.ring < 256 → s.canTake c = true →
   cmdClean c [(0x08, 0, 16), (0x0A, 0, 8), (0x0B, 0, 8), (0x0C, 0, 16), (0x0E, 0, 1), (0x0F, 0, 8), (0x10, 0, 8)] = false →
   Does (.tunRetarget c) s fun t =>
     ∃ u, TurnedAway s u c 0x12 0x02 F.GLB_CMDIGN ∧ t = u.flushLoop) ∧
  (∀ (s : State) (c : HostCmd), s.up = true → c.ring < 256 → s.canTake c = true →
   cmdClean c [(0x08, 0, 16), (0x0A, 0, 8)] = false → Does (.tunGrant c) s fun t =>
     ∃ u, TurnedAway s u c 0x13 0x02 F.GLB_CMDIGN ∧ t = u.flushLoop) ∧
  (∀ (s : State) (c : HostCmd), s.up = true → c.ring < 256 → s.canTake c = true → cmdClean c [(0x08, 0, 16)] = false →
   Does (.tunRevoke c) s fun t =>
     ∃ u, TurnedAway s u c 0x14 0x02 F.GLB_CMDIGN ∧ t = u.flushLoop) ∧
  (∀ (s : State) (c : HostCmd), c.ring < 256 → s.canTake c = true → cmdClean c tunStatsBits = false →
   Does (.tunStats c) s fun t =>
     TurnedAway s t c 0x15 0x02 F.GLB_CMDIGN) ∧
  (∀ (s : State) (c : HostCmd), c.ring < 256 → s.canTake c = true → cmdClean c schCommitBits = false →
   Does (.schCommit c) s fun t =>
     TurnedAway s t c 0x20 0x02 F.GLB_CMDIGN) ∧
  (∀ (s : State) (c : HostCmd) (ans : List DevAns), c.ring < 256 → s.canTake c = true →
   cmdClean c [(0x08, 0, 6), (0x09, 0, 2), (0x0A, 0, 6), (0x0B, 0, 4), (0x0C, 0, 1), (0x10, 0, 32)] = false →
   Does (.pcxHotplug c ans) s fun t =>
     TurnedAway s t c 0x28 0x02 F.GLB_CMDIGN) ∧
  (∀ (s : State) (c : HostCmd), c.ring < 256 → s.canTake c = true → cmdClean c dsoFlipBits = false → Does (.dsoFlip c) s fun t =>
     TurnedAway s t c 0x30 0x02 F.GLB_CMDIGN) ∧
  (∀ (s : State) (c : HostCmd), c.ring < 256 → s.canTake c = true → cmdClean c timArmBits = false → Does (.timArm c) s fun t =>
     TurnedAway s t c 0x38 0x02 F.GLB_CMDIGN) ∧
  (∀ (s : State) (c : HostCmd) (list : Option (List (BitVec 256))), c.ring < 256 → s.canTake c = true →
   cmdClean c cartBits = false → Does (.cartSubmit c list) s fun t =>
     TurnedAway s t c 0x40 0x02 F.GLB_CMDIGN) ∧
  (∀ (s : State) (c : HostCmd), c.ring < 256 → s.canTake c = true → cmdClean c cartQueryBits = false →
   Does (.cartQuery c) s fun t =>
     TurnedAway s t c 0x41 0x02 F.GLB_CMDIGN) ∧
  (∀ (s : State) (c : HostCmd), c.ring < 256 → s.canTake c = true → cmdClean c [(0x08, 0, 16)] = false →
   Does (.cartAbort c) s fun t =>
     ∃ u, TurnedAway s u c 0x42 0x02 F.GLB_CMDIGN ∧ t = u.cartFlush) ∧
  (∀ (s : State) (c : HostCmd), c.ring < 256 → s.canTake c = true →
   cmdClean c [(0x08, 0, 64), (0x10, 0, 8), (0x11, 0, 1)] = false → Does (.fabAssign c) s fun t =>
     TurnedAway s t c 0x48 0x02 F.GLB_CMDIGN) ∧
  (∀ (s : State) (c : HostCmd), c.ring < 256 → s.canTake c = true → cmdClean c fabRouteBits = false →
   Does (.fabRoute c) s fun t =>
     TurnedAway s t c 0x49 0x02 F.GLB_CMDIGN) ∧
  (∀ (s : State) (c : HostCmd), c.ring < 256 → s.canTake c = true → cmdClean c fabTopoBits = false → Does (.fabTopo c) s fun t =>
     TurnedAway s t c 0x4A 0x02 F.GLB_CMDIGN) ∧
  (∀ (s : State) (c : HostCmd), c.ring < 256 → s.canTake c = true → cmdClean c pwrReqBits = false → Does (.pwrReq c) s fun t =>
     TurnedAway s t c 0x50 0x02 F.GLB_CMDIGN) ∧
  (∀ (s : State) (op : Nat) (c : HostCmd), op < 256 → op ∉ opcodes → c.ring < 256 → s.canTake c = true →
   Does (.unknownOpcode op c) s fun t =>
     TurnedAway s t c op 0x01 F.GLB_CMDIGN)

/-- A control command of a host that does not own the fabric is not executed and completes NOT_OWNER. For each control opcode
(C) of Table 4-5; while a yield runs its host counts as no owner (R108). -/
def Obligations.NonOwnerRows : Prop :=
  (∀ (s : State) (c : HostCmd), Takes s c [(8, 0, 6)] → s.hostControls = false → Does (.ownYield c) s fun t =>
     TurnedAway s t c 0x08 0x04 F.GLB_NOWNCMD) ∧
  (∀ (s : State) (c : HostCmd) (ans : List DevAns), s.up = true → Takes s c (openBits c.ops) → s.hostControls = false →
   Does (.tunOpen c ans) s fun t =>
     ∃ u, TurnedAway s u c 0x10 0x04 F.GLB_NOWNCMD ∧ t = u.flushLoop) ∧
  (∀ (s : State) (c : HostCmd) (ans : List DevAns), s.up = true → Takes s c [(0x08, 0, 16), (0x0A, 0, 1)] →
   s.hostControls = false → Does (.tunClose c ans) s fun t =>
     ∃ u, TurnedAway s u c 0x11 0x04 F.GLB_NOWNCMD ∧ t = u.flushLoop) ∧
  (∀ (s : State) (c : HostCmd), s.up = true →
   Takes s c [(0x08, 0, 16), (0x0A, 0, 8), (0x0B, 0, 8), (0x0C, 0, 16), (0x0E, 0, 1), (0x0F, 0, 8), (0x10, 0, 8)] →
   s.hostControls = false → Does (.tunRetarget c) s fun t =>
     ∃ u, TurnedAway s u c 0x12 0x04 F.GLB_NOWNCMD ∧ t = u.flushLoop) ∧
  (∀ (s : State) (c : HostCmd), s.up = true → Takes s c [(0x08, 0, 16), (0x0A, 0, 8)] → s.hostControls = false →
   Does (.tunGrant c) s fun t =>
     ∃ u, TurnedAway s u c 0x13 0x04 F.GLB_NOWNCMD ∧ t = u.flushLoop) ∧
  (∀ (s : State) (c : HostCmd), s.up = true → Takes s c [(0x08, 0, 16)] → s.hostControls = false → Does (.tunRevoke c) s fun t =>
     ∃ u, TurnedAway s u c 0x14 0x04 F.GLB_NOWNCMD ∧ t = u.flushLoop) ∧
  (∀ (s : State) (c : HostCmd), Takes s c schCommitBits → s.hostControls = false → Does (.schCommit c) s fun t =>
     TurnedAway s t c 0x20 0x04 F.GLB_NOWNCMD) ∧
  (∀ (s : State) (c : HostCmd) (ans : List DevAns),
   Takes s c [(0x08, 0, 6), (0x09, 0, 2), (0x0A, 0, 6), (0x0B, 0, 4), (0x0C, 0, 1), (0x10, 0, 32)] → s.hostControls = false →
   Does (.pcxHotplug c ans) s fun t =>
     TurnedAway s t c 0x28 0x04 F.GLB_NOWNCMD) ∧
  (∀ (s : State) (c : HostCmd), Takes s c dsoFlipBits → s.hostControls = false → Does (.dsoFlip c) s fun t =>
     TurnedAway s t c 0x30 0x04 F.GLB_NOWNCMD) ∧
  (∀ (s : State) (c : HostCmd), Takes s c timArmBits → s.hostControls = false → Does (.timArm c) s fun t =>
     TurnedAway s t c 0x38 0x04 F.GLB_NOWNCMD) ∧
  (∀ (s : State) (c : HostCmd) (list : Option (List (BitVec 256))), Takes s c cartBits → s.hostControls = false →
   Does (.cartSubmit c list) s fun t =>
     TurnedAway s t c 0x40 0x04 F.GLB_NOWNCMD) ∧
  (∀ (s : State) (c : HostCmd), Takes s c [(0x08, 0, 16)] → s.hostControls = false → Does (.cartAbort c) s fun t =>
     ∃ u, TurnedAway s u c 0x42 0x04 F.GLB_NOWNCMD ∧ t = u.cartFlush) ∧
  (∀ (s : State) (c : HostCmd), Takes s c [(0x08, 0, 64), (0x10, 0, 8), (0x11, 0, 1)] → s.hostControls = false →
   Does (.fabAssign c) s fun t =>
     TurnedAway s t c 0x48 0x04 F.GLB_NOWNCMD) ∧
  (∀ (s : State) (c : HostCmd), Takes s c fabRouteBits → s.hostControls = false → Does (.fabRoute c) s fun t =>
     TurnedAway s t c 0x49 0x04 F.GLB_NOWNCMD) ∧
  (∀ (s : State) (c : HostCmd), Takes s c pwrReqBits → s.hostControls = false → Does (.pwrReq c) s fun t =>
     TurnedAway s t c 0x50 0x04 F.GLB_NOWNCMD)

/-- Whom a DRAM round is granted to, and what the wait counters become. The three rules of R461 and its counters, for any
priorities and limits: the lowest requester at its limit; else the parked owner alone; else the highest PRIO, in rotation after
its last winner. -/
def Obligations.DramArbiterPicks : Prop :=
  (∀ (a : ArbSt) (prio limit : Nat → Nat) (req : List Nat) (r : Nat), req ≠ [] → req.Pairwise (· < ·) →
   ((req.all fun r => decide (r < 15)) = true) → a.wait.length = 16 → a.last.length = 4 →
   ((a.last.all fun x => decide (x < 16)) = true) → ((req.all fun r => decide (prio r < 4)) = true) → r ∈ req →
   max 1 (limit r) ≤ a.wait.getD r 0 → (∀ q ∈ req, q < r → a.wait.getD q 0 < max 1 (limit q)) →
     (a.round prio limit req).owner = r) ∧
  (∀ (a : ArbSt) (prio limit : Nat → Nat) (req : List Nat), req ≠ [] → req.Pairwise (· < ·) →
   ((req.all fun r => decide (r < 15)) = true) → a.wait.length = 16 → a.last.length = 4 →
   ((a.last.all fun x => decide (x < 16)) = true) → ((req.all fun r => decide (prio r < 4)) = true) →
   (∀ q ∈ req, a.wait.getD q 0 < max 1 (limit q)) → req = [a.owner] →
     (a.round prio limit req).owner = a.owner) ∧
  (∀ (a : ArbSt) (prio limit : Nat → Nat) (req : List Nat), req ≠ [] → req.Pairwise (· < ·) →
   ((req.all fun r => decide (r < 15)) = true) → a.wait.length = 16 → a.last.length = 4 →
   ((a.last.all fun x => decide (x < 16)) = true) → ((req.all fun r => decide (prio r < 4)) = true) →
   (∀ q ∈ req, a.wait.getD q 0 < max 1 (limit q)) → req ≠ [a.owner] →
     (a.round prio limit req).owner ∈ req ∧ ∀ q ∈ req, prio q ≤ prio (a.round prio limit req).owner ∧
     (prio q = prio (a.round prio limit req).owner → ((a.round prio limit req).owner + 31 - a.last.getD (prio q) 15) % 16 ≤ (q +
       31 - a.last.getD (prio q) 15) % 16)) ∧
  (∀ (a : ArbSt) (prio limit : Nat → Nat) (req : List Nat) (r : Nat), req ≠ [] → req.Pairwise (· < ·) →
   ((req.all fun r => decide (r < 15)) = true) → a.wait.length = 16 → a.last.length = 4 →
   ((a.last.all fun x => decide (x < 16)) = true) → ((req.all fun r => decide (prio r < 4)) = true) → r < 16 →
     (a.round prio limit req).wait.getD r 0 = if r = (a.round prio limit req).owner then 0 else if r ∈ req ∧
     a.wait.getD r 0 < max 1 (limit r) then a.wait.getD r 0 + 1 else a.wait.getD r 0)

/-- A made life-cycle field erases the slots and resets the core; the state takes effect at the next boot. A field reads as made
from 48 cells on (R469); the ROM of the boot that follows reads the state from the fields. Each of these commands completes:
lifecycleBurnDone, bootRomStart; under the stated conditions on the state and the operands alone, exec answers a next state,
with the effect stated. -/
def Obligations.LifecycleReset : Prop :=
  (∀ (s : State) (tgt cells : Nat), s.up = true → s.keys.burning = some tgt → 1 ≤ tgt → tgt ≤ 4 → s.keys.cells.length = 4 →
   s.keys.running = none → 48 ≤ cells → Does (.lifecycleBurnDone cells) s fun t =>
     48 ≤ t.keys.cells.getD (tgt - 1) 0 ∧ (t.keys.slots.all fun x => x.key.isNone) = true ∧ t.bit F.GLB_RSTCAUSE_SWCORE = true ∧
     t.boot.rstCnt = (s.boot.rstCnt + 1) % 65536 ∧ t.get F.KEY_LCS_CUR = s.get F.KEY_LCS_CUR) ∧
  (∀ (s : State) (otp : List (Nat × Nat)) (dram found : Bool) (modes : Nat) (dqs : Bool) (size : Nat) (runs : List (Nat × List
     (BitVec 8))),
   s.boot.held = false → s.boot.warmLow = false → s.boot.romDone = false →
   Does (.bootRomStart otp dram found modes dqs size runs) s fun t =>
     t.get F.KEY_LCS_CUR = lcOf s.keys.cells)

/-- What the commands that touch at most four parts of the machine leave unchanged. For every state and operands the command
completes, and every part it does not name is as before; where a part it names is the register file, its own statement says
which registers. -/
def Obligations.NarrowFrames : Prop :=
  (∀ (s : State),
     Does (.porstNRelease) s (Leaves [.regs, .boot, .pds, .outs] s)) ∧
  (∀ (s : State) (rail : Nat),
     Does (.railValid rail) s (Leaves [.boot] s)) ∧
  (∀ (s : State),
     Does (.bootPersonalityTimeout) s (Leaves [.regs, .boot] s)) ∧
  (∀ (s : State),
     Does (.snapCaptureDone) s (Leaves [.regs] s)) ∧
  (∀ (s : State) (c : HostCmd),
     Does (.nop c) s (Leaves [.regs, .ctl, .hew, .outs] s)) ∧
  (∀ (s : State) (op : Nat) (c : HostCmd),
     Does (.unknownOpcode op c) s (Leaves [.regs, .ctl, .hew, .outs] s)) ∧
  (∀ (s : State) (v : Nat),
     Does (.holdoffExpiry v) s (Leaves [.regs, .ctl, .outs] s)) ∧
  (∀ (s : State) (n : Nat),
     Does (.eventRecordFlush n) s (Leaves [.regs, .ctl, .outs] s)) ∧
  (∀ (s : State),
     Does (.heartbeatSend) s (Leaves [.own, .outs] s)) ∧
  (∀ (s : State),
     Does (.claimSend) s (Leaves [.own, .outs] s)) ∧
  (∀ (s : State) (temp : BitVec 8),
     Does (.smbusStatusRead temp) s (Leaves [.outs] s)) ∧
  (∀ (s : State) (a : Nat) (pec : Bool),
     Does (.smbusAddrWrite a pec) s (Leaves [.smb, .outs] s)) ∧
  (∀ (s : State) (v : Nat) (pec : Bool),
     Does (.smbusAlertclr v pec) s (Leaves [.smb, .outs] s)) ∧
  (∀ (s : State),
     Does (.smbusAlertResponse) s (Leaves [.smb, .outs] s)) ∧
  (∀ (s : State) (p : Nat) (dfp : Bool) (vdo : Nat),
     Does (.enterMode p dfp vdo) s (Leaves [.regs, .ports] s)) ∧
  (∀ (s : State) (p : Nat),
     Does (.portDetectStart p) s (Leaves [.regs, .ports] s)) ∧
  (∀ (s : State) (p lanes : Nat),
     Does (.receiverDetect p lanes) s (Leaves [.regs, .ports, .outs] s)) ∧
  (∀ (s : State) (p rate phys : Nat) (h : TrainHdr) (inverted ready : Bool) (pre post : Nat),
     Does (.trainingFrameReceive p rate phys h inverted ready pre post) s (Leaves [.regs, .ports, .pcs, .outs] s)) ∧
  (∀ (s : State) (p : Nat),
     Does (.fallbackIdleEnd p) s (Leaves [.regs, .ports, .outs] s)) ∧
  (∀ (s : State) (p : Nat),
     Does (.retryDelayExpiry p) s (Leaves [.regs, .ports] s)) ∧
  (∀ (s : State) (p : Nat),
     Does (.dimEntry p) s (Leaves [.regs, .outs] s)) ∧
  (∀ (s : State) (p : Nat),
     Does (.dimReceive p) s (Leaves [.regs] s)) ∧
  (∀ (s : State) (p : Nat),
     Does (.dimExit p) s (Leaves [.regs, .outs] s)) ∧
  (∀ (s : State) (p : Nat),
     Does (.spareRepeat p) s (Leaves [.regs, .outs] s)) ∧
  (∀ (s : State) (p lane : Nat),
     Does (.lanectlSpareReceive p lane) s (Leaves [.regs, .ctl, .hew, .outs] s)) ∧
  (∀ (s : State) (p lane : Nat),
     Does (.lanectlJoinReceive p lane) s (Leaves [.regs, .ctl, .hew, .outs] s)) ∧
  (∀ (s : State) (p lane : Nat) (sig : Bool),
     Does (.sparedLaneJudge p lane sig) s (Leaves [.regs, .ports, .outs] s)) ∧
  (∀ (s : State) (p : Nat),
     Does (.nakResendTimer p) s (Leaves [.regs, .outs] s)) ∧
  (∀ (s : State) (p : Nat) (w : LinkWord) (chk : BitVec 8),
     Does (.creditReceive p w chk) s (Leaves [.regs, .links] s)) ∧
  (∀ (s : State) (p : Nat),
     Does (.creditRefresh p) s (Leaves [.outs] s)) ∧
  (∀ (s : State) (fid : Nat) (m : MapMsg),
     Does (.mapUpdateReceive fid m) s (Leaves [.regs, .tun, .outs] s)) ∧
  (∀ (s : State) (fid seq : Nat),
     Does (.mapUpdateRetry fid seq) s (Leaves [.outs] s)) ∧
  (∀ (s : State),
     Does (.shaperTick) s (Leaves [.schs] s)) ∧
  (∀ (s : State),
     Does (.meterTick) s (Leaves [.meters] s)) ∧
  (∀ (s : State) (p : Nat),
     Does (.latencySample p) s (Leaves [.regs, .ctl, .outs] s)) ∧
  (∀ (s : State) (r : Req) (p : Nat) (v : Word),
     Does (.highWaterClear r p v) s (Leaves [.regs, .ctl, .hew, .outs] s)) ∧
  (∀ (s : State) (k : Nat) (v : Word),
     Does (.pushDoorbell k v) s (Leaves [.regs, .ctl, .hew, .outs] s)) ∧
  (∀ (s : State) (x : SyncOut),
     Does (.linkSyncSend x) s (Leaves [.regs, .tim, .outs] s)) ∧
  (∀ (s : State) (p : Nat) (x : SyncM),
     Does (.syncMReceive p x) s (Leaves [.regs, .tim, .outs] s)) ∧
  (∀ (s : State),
     Does (.announceSend) s (Leaves [.outs] s)) ∧
  (∀ (s : State),
     Does (.ppsOutPulse) s (Leaves [.tim, .outs] s)) ∧
  (∀ (s : State) (n : Nat) (up : Bool) (speed : Nat),
     Does (.ethernetLinkChange n up speed) s (Leaves [.regs, .ctl, .hew, .outs] s)) ∧
  (∀ (s : State) (data : Nat),
     Does (.mdioFrameDone data) s (Leaves [.regs] s)) ∧
  (∀ (s : State) (c : HostCmd),
     Does (.cartQuery c) s (Leaves [.regs, .ctl, .hew, .outs] s)) ∧
  (∀ (s : State) (coord id : Nat),
     Does (.cartSeqsResend coord id) s (Leaves [.crt, .outs] s)) ∧
  (∀ (s : State) (coord id : Nat),
     Does (.cartDoneackReceive coord id) s (Leaves [.crt] s)) ∧
  (∀ (s : State) (coord id : Nat),
     Does (.cartHoldAlarm coord id) s (Leaves [.regs, .ctl, .hew, .outs] s)) ∧
  (∀ (s : State) (coord id : Nat),
     Does (.cartSlotRelease coord id) s (Leaves [.crt] s)) ∧
  (∀ (s : State) (p : Nat),
     Does (.neighbourSend p) s (Leaves [.outs] s)) ∧
  (∀ (s : State) (uid : Nat),
     Does (.assignSend uid) s (Leaves [.fab, .outs] s)) ∧
  (∀ (s : State),
     Does (.routeCompute) s (Leaves [.fab] s)) ∧
  (∀ (s : State) (c : HostCmd),
     Does (.fabTopo c) s (Leaves [.regs, .ctl, .hew, .outs] s)) ∧
  (∀ (s : State),
     Does (.usbRemoteWake) s (Leaves [.usb, .outs] s)) ∧
  (∀ (s : State) (k : Nat) (x : Split) (start : Bool),
     Does (.ttSplitTransaction k x start) s (Leaves [.regs, .usb, .outs] s)) ∧
  (∀ (s : State) (q : ImgPkt),
     Does (.yalcelImageData q) s (Leaves [.regs, .ctl, .usb, .outs] s)) ∧
  (∀ (s : State) (n : Nat),
     Does (.drpToggle n) s (Leaves [.pds, .outs] s)) ∧
  (∀ (s : State) (n pos : Nat) (q : PdReqIn),
     Does (.pdRequestReceive n pos q) s (Leaves [.pds, .outs] s)) ∧
  (∀ (s : State) (n action : Nat),
     Does (.pdEprModeReceive n action) s (Leaves [.pds, .outs] s)) ∧
  (∀ (s : State) (n : Nat),
     Does (.ppsRenew n) s (Leaves [.regs, .pds, .outs] s)) ∧
  (∀ (s : State) (n : Nat),
     Does (.hardResetVbusOff n) s (Leaves [.pds, .outs] s)) ∧
  (∀ (s : State) (n : Nat),
     Does (.hardResetVbusRestore n) s (Leaves [.pds, .outs] s)) ∧
  (∀ (s : State) (n : Nat),
     Does (.userHewerWfiTimeout n) s (Leaves [.regs, .ctl, .hew, .outs] s)) ∧
  (∀ (s : State) (dom : Nat),
     Does (.domainIdleStop dom) s (Leaves [.regs, .pwr, .hew] s)) ∧
  (∀ (s : State) (n rd sel : Nat),
     Does (.ftime n rd sel) s (Leaves [.hew] s)) ∧
  (∀ (s : State) (n rd : Nat) (acc : Word) (b : BitVec 8),
     Does (.crc32 n rd acc b) s (Leaves [.hew] s)) ∧
  (∀ (s : State) (n rd : Nat) (bytes : List (BitVec 8)),
     Does (.ckpt n rd bytes) s (Leaves [.regs, .ctl, .hew, .outs] s)) ∧
  (∀ (s : State) (n ev : Nat) (data : List (BitVec 8)),
     Does (.evr n ev data) s (Leaves [.regs, .ctl, .hew, .outs] s)) ∧
  (∀ (s : State) (n rd : Nat) (mask pend : Word),
     Does (.waitev n rd mask pend) s (Leaves [.regs, .ctl, .hew, .outs] s)) ∧
  (∀ (s : State) (n : Nat),
     Does (.hwkick n) s (Leaves [.regs, .ctl, .hew, .outs] s)) ∧
  (∀ (s : State) (n buf cap : Nat),
     Does (.mbRecv n buf cap) s (Leaves [.regs, .hew, .outs] s)) ∧
  (∀ (s : State) (n buf : Nat) (bytes : List (BitVec 8)),
     Does (.mbSend n buf bytes) s (Leaves [.regs, .ctl, .hew, .outs] s)) ∧
  (∀ (s : State) (n ev on : Nat),
     Does (.evSub n ev on) s (Leaves [.hew] s)) ∧
  (∀ (s : State) (n buf : Nat),
     Does (.evNext n buf) s (Leaves [.hew, .outs] s)) ∧
  (∀ (s : State) (n mask tmo : Nat),
     Does (.wait n mask tmo) s (Leaves [.hew] s)) ∧
  (∀ (s : State) (n buf cap : Nat),
     Does (.ptpRecv n buf cap) s (Leaves [.macs, .hew, .outs] s)) ∧
  (∀ (s : State) (n buf mac tsid : Nat) (tsreq : Bool) (bytes : List (BitVec 8)),
     Does (.ptpSend n buf mac tsid tsreq bytes) s (Leaves [.macs, .hew] s)) ∧
  (∀ (s : State) (n : Nat),
     Does (.exit n) s (Leaves [.regs] s)) ∧
  (∀ (s : State) (n cause : Nat),
     Does (.userHewerException n cause) s (Leaves [.regs, .ctl, .hew, .outs] s)) ∧
  (∀ (s : State) (d : Nat) (reloaded : Bool),
     Does (.takeoverImageLoaded d reloaded) s (Leaves [.regs, .hew, .outs] s)) ∧
  (∀ (s : State) (temp : Nat),
     Does (.dramTemperatureChange temp) s (Leaves [.regs, .ctl, .hew, .outs] s)) ∧
  (∀ (s : State),
     Does (.warmrstNRelease) s (Leaves [.boot] s)) ∧
  (∀ (s : State),
     Does (.lanternMirrorUpdate) s (Leaves [.ctl] s)) ∧
  (∀ (s : State) (k kind speed : Nat),
     Does (.downstreamPortChange k kind speed) s (Leaves [.regs, .usb] s))

/-- What the commands that touch five to nineteen parts of the machine leave unchanged. For every state and operands the command
completes, and every part it does not name is as before. -/
def Obligations.UnitFrames : Prop :=
  (∀ (s : State) (role boot smba fids lanes : Nat),
     Does (.strapSample role boot smba fids lanes) s (Leaves [.regs, .ctl, .boot, .smb, .usb, .hew, .outs] s)) ∧
  (∀ (s : State) (mv : Nat),
     Does (.penumbraEntry mv) s (Leaves [.regs, .ctl, .boot, .smb, .flt, .pwr, .hew, .outs] s)) ∧
  (∀ (s : State) (low : Nat),
     Does (.thriftLeave low) s (Leaves [.regs, .ctl, .boot, .flt, .hew, .outs] s)) ∧
  (∀ (s : State) (otp : List (Nat × Nat)) (dram found : Bool) (modes : Nat) (dqs : Bool) (size : Nat) (runs : List (Nat × List
     (BitVec 8))),
     Does (.bootRomStart otp dram found modes dqs size runs) s (Leaves [.regs, .ctl, .boot, .keys, .hew, .draws, .outs] s)) ∧
  (∀ (s : State) (slot : Nat),
     Does (.firmwareReady slot) s (Leaves [.regs, .ctl, .boot, .flt, .usb, .hew, .outs] s)) ∧
  (∀ (s : State) (r : Req) (len : BitVec 32),
     Does (.downloadLengthWrite r len) s (Leaves [.regs, .ctl, .boot, .keys, .hew, .outs] s)) ∧
  (∀ (s : State),
     Does (.pciePerstRelease) s (Leaves [.regs, .ctl, .own, .boot, .smb, .pcx, .hew, .outs] s)) ∧
  (∀ (s : State) (r : Req) (view : Bool),
     Does (.snapTake r view) s (Leaves [.regs, .ctl, .hew, .draws, .outs] s)) ∧
  (∀ (s : State) (n : Nat) (v : Word),
     Does (.ringEnable n v) s (Leaves [.regs, .ctl, .tun, .hew, .outs] s)) ∧
  (∀ (s : State) (n : Nat) (v : Word),
     Does (.ringDisable n v) s (Leaves [.regs, .ctl, .tun, .hew, .outs] s)) ∧
  (∀ (s : State) (n : Nat) (v : Word),
     Does (.ringVectorChange n v) s (Leaves [.regs, .ctl, .tun, .hew, .outs] s)) ∧
  (∀ (s : State) (n : Nat) (v : Word) (bufs : List PostedBuf),
     Does (.doorbell n v bufs) s (Leaves [.regs, .ctl, .links, .schs, .meters, .tun, .tim, .macs, .nics, .srcs, .dispOuts,
       .store, .pcx, .hew, .outs] s)) ∧
  (∀ (s : State) (f : Nat) (m : Msg),
     Does (.mgmtRspReceive f m) s (Leaves [.regs, .ctl, .links, .schs, .meters, .tun, .tim, .macs, .nics, .srcs, .dispOuts,
       .store, .pcx, .hew, .outs] s)) ∧
  (∀ (s : State) (id : Nat),
     Does (.managementTimeout id) s (Leaves [.regs, .ctl, .links, .schs, .meters, .tun, .tim, .macs, .nics, .srcs, .dispOuts,
       .store, .pcx, .hew, .outs] s)) ∧
  (∀ (s : State) (n : Nat) (d : DataOut),
     Does (.dataOutDescriptor n d) s (Leaves [.regs, .ctl, .links, .schs, .meters, .tun, .tim, .macs, .nics, .srcs, .dispOuts,
       .store, .pcx, .hew, .outs] s)) ∧
  (∀ (s : State) (r : EvRec),
     Does (.eventFrameReceive r) s (Leaves [.regs, .ctl, .nics, .hew, .outs] s)) ∧
  (∀ (s : State) (c : HostCmd),
     Does (.ownYield c) s (Leaves [.regs, .ctl, .own, .hew, .outs] s)) ∧
  (∀ (s : State) (tofid gen : Nat) (rank : Rank),
     Does (.yieldReceive tofid gen rank) s (Leaves [.regs, .ctl, .own, .smb, .hew, .outs] s)) ∧
  (∀ (s : State),
     Does (.yieldTimeout) s (Leaves [.regs, .ctl, .own, .hew, .outs] s)) ∧
  (∀ (s : State),
     Does (.ownerTimerExpiry) s (Leaves [.regs, .ctl, .own, .flt, .hew, .outs] s)) ∧
  (∀ (s : State) (fid : Nat) (rank : Rank) (gen : Nat),
     Does (.claimReceive fid rank gen) s (Leaves [.regs, .ctl, .own, .hew, .outs] s)) ∧
  (∀ (s : State),
     Does (.electionClose) s (Leaves [.regs, .ctl, .own, .smb, .flt, .hew, .outs] s)) ∧
  (∀ (s : State) (cond : Nat),
     Does (.hostAliveGained cond) s (Leaves [.regs, .ctl, .own, .smb, .hew, .outs] s)) ∧
  (∀ (s : State),
     Does (.aliveKick) s (Leaves [.regs, .ctl, .own, .smb, .hew, .outs] s)) ∧
  (∀ (s : State) (v : Nat) (pec : Bool),
     Does (.smbusPwrreq v pec) s (Leaves [.regs, .ctl, .pwr, .hew, .outs] s)) ∧
  (∀ (s : State) (p : Nat),
     Does (.exitMode p) s (Leaves [.regs, .ctl, .ports, .links, .schs, .meters, .commits, .tun, .fab, .tim, .pcx, .flt, .keys,
       .hew, .outs] s)) ∧
  (∀ (s : State) (p : Nat),
     Does (.trainTimeout p) s (Leaves [.regs, .ctl, .ports, .pcs, .links, .schs, .meters, .commits, .tun, .fab, .tim, .pcx,
       .flt, .keys, .hew, .outs] s)) ∧
  (∀ (s : State) (p lane : Nat) (skew : Int),
     Does (.markerReceive p lane skew) s (Leaves [.regs, .ctl, .ports, .pcs, .links, .schs, .meters, .commits, .tun, .fab, .tim,
       .pcx, .flt, .keys, .hew, .outs] s)) ∧
  (∀ (s : State) (p : Nat),
     Does (.lockTimeout p) s (Leaves [.regs, .ctl, .ports, .links, .schs, .meters, .commits, .tun, .fab, .tim, .pcx, .flt,
       .keys, .hew, .outs] s)) ∧
  (∀ (s : State) (p : Nat),
     Does (.capabilitySend p) s (Leaves [.regs, .ctl, .ports, .links, .tun, .fab, .pcx, .keys, .hew, .draws, .outs] s)) ∧
  (∀ (s : State) (p : Nat) (bytes : List (BitVec 8)) (crc : BitVec 32),
     Does (.capabilityFrameReceive p bytes crc) s (Leaves [.regs, .ctl, .ports, .links, .tun, .fab, .pcx, .keys, .hew, .draws,
       .outs] s)) ∧
  (∀ (s : State) (p : Nat),
     Does (.exchangeTimeout p) s (Leaves [.regs, .ctl, .ports, .links, .schs, .meters, .commits, .tun, .fab, .tim, .pcx, .flt,
       .keys, .hew, .outs] s)) ∧
  (∀ (s : State) (p : Nat) (b : BurstIn),
     Does (.dimExitBurstReceive p b) s (Leaves [.regs, .ctl, .ports, .pcs, .links, .schs, .meters, .commits, .tun, .fab, .tim,
       .pcx, .flt, .keys, .hew, .outs] s)) ∧
  (∀ (s : State) (p lane cause : Nat),
     Does (.laneFailure p lane cause) s (Leaves [.regs, .ctl, .ports, .pcs, .links, .schs, .meters, .commits, .tun, .fab, .tim,
       .pcx, .flt, .keys, .hew, .outs] s)) ∧
  (∀ (s : State) (p mask : Nat),
     Does (.lanectlStripeReceive p mask) s (Leaves [.regs, .ctl, .ports, .pcs, .flt, .hew, .outs] s)) ∧
  (∀ (s : State) (ep typ kind : Nat) (bytes : List (BitVec 8)) (last yellow : Bool),
     Does (.foreignFrameIngress ep typ kind bytes last yellow) s (Leaves [.regs, .ctl, .links, .schs, .meters, .tun, .tim,
       .macs, .nics, .srcs, .dispOuts, .store, .pcx, .hew, .outs] s)) ∧
  (∀ (s : State),
     Does (.meterRetest) s (Leaves [.regs, .ctl, .links, .schs, .meters, .metHold, .tun, .tim, .macs, .nics, .srcs, .dispOuts,
       .store, .pcx, .hew, .outs] s)) ∧
  (∀ (s : State) (p : Nat),
     Does (.schedulerOffer p) s (Leaves [.regs, .ctl, .links, .schs, .tun, .keys, .hew, .draws, .outs] s)) ∧
  (∀ (s : State) (p : Nat) (hdr : BitVec 128) (body : List (BitVec 8)) (tag : Option (BitVec 128)) (errored : Nat),
     Does (.frameReceive p hdr body tag errored) s (Leaves [.regs, .ctl, .links, .schs, .meters, .tun, .tim, .macs, .nics,
       .srcs, .dispOuts, .store, .pcx, .keys, .hew, .draws, .outs] s)) ∧
  (∀ (s : State) (p : Nat) (w : LinkWord) (chk : BitVec 8),
     Does (.ackReceive p w chk) s (Leaves [.regs, .ctl, .links, .schs, .tun, .outs] s)) ∧
  (∀ (s : State) (p : Nat) (w : LinkWord) (chk : BitVec 8),
     Does (.nakReceive p w chk) s (Leaves [.regs, .ctl, .ports, .links, .schs, .meters, .commits, .tun, .fab, .tim, .pcx, .flt,
       .keys, .hew, .outs] s)) ∧
  (∀ (s : State) (p : Nat),
     Does (.replayTimeout p) s (Leaves [.regs, .ctl, .ports, .links, .schs, .meters, .commits, .tun, .fab, .tim, .pcx, .flt,
       .keys, .hew, .outs] s)) ∧
  (∀ (s : State),
     Does (.e2eAckSend) s (Leaves [.regs, .ctl, .links, .schs, .tun, .outs] s)) ∧
  (∀ (s : State) (bytes : List (BitVec 8)),
     Does (.e2eAckReceive bytes) s (Leaves [.regs, .ctl, .links, .schs, .meters, .tun, .hew, .outs] s)) ∧
  (∀ (s : State) (tid : Nat),
     Does (.e2eTimeout tid) s (Leaves [.regs, .links, .schs, .tun, .outs] s)) ∧
  (∀ (s : State) (p : Nat) (m : Msg),
     Does (.keyxReceive p m) s (Leaves [.regs, .ctl, .links, .schs, .meters, .tun, .pcx, .keys, .hew, .draws, .outs] s)) ∧
  (∀ (s : State) (p : Nat) (w : LinkWord) (chk : BitVec 8),
     Does (.keyrdyReceive p w chk) s (Leaves [.regs, .ctl, .links, .schs, .meters, .tun, .pcx, .keys, .hew, .outs] s)) ∧
  (∀ (s : State) (p : Nat),
     Does (.keyExchangeTimeout p) s (Leaves [.regs, .ctl, .links, .keys, .hew, .outs] s)) ∧
  (∀ (s : State) (p : Nat),
     Does (.keyExchangeRetry p) s (Leaves [.regs, .links, .keys, .draws, .outs] s)) ∧
  (∀ (s : State) (p : Nat),
     Does (.rekeyStart p) s (Leaves [.regs, .links, .keys, .draws, .outs] s)) ∧
  (∀ (s : State) (c : HostCmd) (ans : List DevAns),
     Does (.tunOpen c ans) s (Leaves [.regs, .ctl, .links, .schs, .meters, .tun, .tim, .macs, .nics, .srcs, .dispOuts, .store,
       .pcx, .hew, .outs] s)) ∧
  (∀ (s : State) (c : HostCmd) (ans : List DevAns),
     Does (.tunClose c ans) s (Leaves [.regs, .ctl, .links, .schs, .meters, .tun, .tim, .macs, .nics, .srcs, .dispOuts, .store,
       .pcx, .hew, .outs] s)) ∧
  (∀ (s : State) (c : HostCmd),
     Does (.tunRetarget c) s (Leaves [.regs, .ctl, .links, .schs, .meters, .tun, .tim, .macs, .nics, .srcs, .dispOuts, .store,
       .pcx, .hew, .outs] s)) ∧
  (∀ (s : State) (c : HostCmd),
     Does (.tunGrant c) s (Leaves [.regs, .ctl, .links, .schs, .meters, .tun, .tim, .macs, .nics, .srcs, .dispOuts, .store,
       .pcx, .hew, .outs] s)) ∧
  (∀ (s : State) (c : HostCmd),
     Does (.tunRevoke c) s (Leaves [.regs, .ctl, .links, .schs, .meters, .tun, .tim, .macs, .nics, .srcs, .dispOuts, .store,
       .pcx, .hew, .outs] s)) ∧
  (∀ (s : State) (c : HostCmd),
     Does (.tunStats c) s (Leaves [.regs, .ctl, .tun, .hew, .outs] s)) ∧
  (∀ (s : State) (fid : Nat) (p : TunPar) (qa qb : Option Seqs),
     Does (.tunnelInstall fid p qa qb) s (Leaves [.regs, .ctl, .links, .schs, .meters, .tun, .tim, .macs, .nics, .srcs,
       .dispOuts, .store, .pcx, .hew, .outs] s)) ∧
  (∀ (s : State) (fid tid : Nat) (fresh : Bool),
     Does (.tunnelActivate fid tid fresh) s (Leaves [.regs, .ctl, .links, .schs, .meters, .tun, .tim, .macs, .nics, .srcs,
       .dispOuts, .store, .pcx, .hew, .outs] s)) ∧
  (∀ (s : State) (fid tid : Nat),
     Does (.tunnelRemove fid tid) s (Leaves [.regs, .ctl, .links, .schs, .tun, .tim, .nics, .srcs, .dispOuts, .pcx, .hew, .outs]
       s)) ∧
  (∀ (s : State) (fid tid : Nat),
     Does (.tunnelQuiesce fid tid) s (Leaves [.regs, .ctl, .tun, .pcx, .hew, .outs] s)) ∧
  (∀ (s : State) (fid tid : Nat),
     Does (.tunnelCloseMessage fid tid) s (Leaves [.regs, .ctl, .tun, .tim, .nics, .srcs, .dispOuts, .pcx, .hew, .outs] s)) ∧
  (∀ (s : State) (fid tid to_ : Nat),
     Does (.grantSet fid tid to_) s (Leaves [.regs, .ctl, .tun, .hew, .outs] s)) ∧
  (∀ (s : State) (tid : Nat) (ans : List DevAns),
     Does (.drainComplete tid ans) s (Leaves [.regs, .ctl, .links, .schs, .meters, .tun, .tim, .macs, .nics, .srcs, .dispOuts,
       .store, .pcx, .hew, .outs] s)) ∧
  (∀ (s : State) (tid : Nat) (ans : List DevAns),
     Does (.drainTimeout tid ans) s (Leaves [.regs, .ctl, .links, .schs, .meters, .tun, .tim, .macs, .nics, .srcs, .dispOuts,
       .store, .pcx, .hew, .outs] s)) ∧
  (∀ (s : State) (idx : Nat),
     Does (.openingTimeout idx) s (Leaves [.regs, .ctl, .links, .schs, .tun, .tim, .nics, .srcs, .dispOuts, .pcx, .hew, .outs]
       s)) ∧
  (∀ (s : State) (fid : Nat) (ans : List DevAns),
     Does (.reinstallContexts fid ans) s (Leaves [.regs, .ctl, .links, .schs, .meters, .tun, .tim, .macs, .nics, .srcs,
       .dispOuts, .store, .pcx, .hew, .outs] s)) ∧
  (∀ (s : State) (c : HostCmd),
     Does (.schCommit c) s (Leaves [.regs, .ctl, .schs, .metStaged, .commits, .nextGroup, .hew, .outs] s)) ∧
  (∀ (s : State) (p : Nat),
     Does (.calendarSlot p) s (Leaves [.regs, .ctl, .schs, .hew, .outs] s)) ∧
  (∀ (s : State) (p : Nat),
     Does (.epochBoundary p) s (Leaves [.regs, .ctl, .schs, .meters, .metStaged, .commits, .hew, .outs] s)) ∧
  (∀ (s : State) (p : Nat),
     Does (.commitSwap p) s (Leaves [.regs, .ctl, .schs, .commits, .hew, .outs] s)) ∧
  (∀ (s : State) (link : Nat) (bytes : List (BitVec 8)),
     Does (.pcieTlpReceive link bytes) s (Leaves [.regs, .ctl, .own, .smb, .links, .schs, .meters, .tun, .tim, .macs, .nics,
       .srcs, .dispOuts, .store, .pcx, .hew, .outs] s)) ∧
  (∀ (s : State) (lead req tag : Nat),
     Does (.completionTimeout lead req tag) s (Leaves [.regs, .ctl, .links, .schs, .meters, .tun, .pcx, .hew, .outs] s)) ∧
  (∀ (s : State) (slot addr : Nat),
     Does (.readaheadExpiry slot addr) s (Leaves [.regs, .ctl, .pcx, .hew, .outs] s)) ∧
  (∀ (s : State) (tid : Nat) (pins : SidePins),
     Does (.sidebandSummarySend tid pins) s (Leaves [.regs, .ctl, .links, .schs, .meters, .tun, .pcx, .hew, .outs] s)) ∧
  (∀ (s : State) (tid : Nat) (bytes : List (BitVec 8)),
     Does (.sidebandSummaryReceive tid bytes) s (Leaves [.regs, .ctl, .pcx, .hew, .outs] s)) ∧
  (∀ (s : State) (tid : Nat) (bytes : List (BitVec 8)),
     Does (.postedErrorNoticeReceive tid bytes) s (Leaves [.regs, .ctl, .pcx, .hew, .outs] s)) ∧
  (∀ (s : State) (k : Nat) (f : CfgField) (v w : Nat),
     Does (.virtualPortConfigWrite k f v w) s (Leaves [.regs, .ctl, .links, .schs, .meters, .tun, .tim, .macs, .nics, .srcs,
       .dispOuts, .store, .pcx, .hew, .outs] s)) ∧
  (∀ (s : State) (c : HostCmd) (ans : List DevAns),
     Does (.pcxHotplug c ans) s (Leaves [.regs, .ctl, .links, .schs, .meters, .tun, .tim, .macs, .nics, .srcs, .dispOuts,
       .store, .pcx, .hew, .outs] s)) ∧
  (∀ (s : State),
     Does (.hotplugTmoExpiry) s (Leaves [.regs, .ctl, .links, .schs, .meters, .tun, .tim, .macs, .nics, .srcs, .dispOuts,
       .store, .pcx, .hew, .outs] s)) ∧
  (∀ (s : State),
     Does (.hotplugLinkWaitExpiry) s (Leaves [.regs, .ctl, .links, .schs, .meters, .tun, .tim, .macs, .nics, .srcs, .dispOuts,
       .store, .pcx, .hew, .outs] s)) ∧
  (∀ (s : State) (k : Nat) (up : Bool) (speed width : Nat),
     Does (.dockPortLinkChange k up speed width) s (Leaves [.regs, .ctl, .pcx, .hew, .outs] s)) ∧
  (∀ (s : State) (k : Nat) (up : Bool) (rate lanes : Nat),
     Does (.dpInputTrain k up rate lanes) s (Leaves [.regs, .ctl, .srcs, .hew, .outs] s)) ∧
  (∀ (s : State) (k : Nat) (m : InMode),
     Does (.dpInputModeChange k m) s (Leaves [.regs, .ctl, .srcs, .hew, .outs] s)) ∧
  (∀ (s : State) (r : Req) (k : Nat),
     Does (.irqHpdPulse r k) s (Leaves [.regs, .ctl, .srcs, .hew, .outs] s)) ∧
  (∀ (s : State) (r : Req) (k : Nat),
     Does (.reflectionClear r k) s (Leaves [.regs, .ctl, .srcs, .hew, .outs] s)) ∧
  (∀ (s : State) (k : Nat) (enc : Bool) (period : Nat),
     Does (.captureFrameStart k enc period) s (Leaves [.regs, .ctl, .srcs, .hew, .outs] s)) ∧
  (∀ (s : State) (k j aud : Nat) (d : Band),
     Does (.captureBandEnd k j aud d) s (Leaves [.regs, .ctl, .links, .schs, .meters, .tun, .srcs, .hew, .outs] s)) ∧
  (∀ (s : State) (k : Nat),
     Does (.tileAdmission k) s (Leaves [.regs, .ctl, .links, .schs, .meters, .tun, .srcs, .hew, .outs] s)) ∧
  (∀ (s : State) (k : Nat) (v : Word),
     Does (.pushRingEnable k v) s (Leaves [.regs, .ctl, .srcs, .hew, .outs] s)) ∧
  (∀ (s : State) (k : Nat) (d : PushDesc),
     Does (.pushDescriptor k d) s (Leaves [.regs, .ctl, .links, .schs, .meters, .tun, .srcs, .hew, .outs] s)) ∧
  (∀ (s : State) (tid : Nat) (bytes : List (BitVec 8)) (last : Bool),
     Does (.tileFragmentReceive tid bytes last) s (Leaves [.regs, .ctl, .links, .schs, .meters, .tun, .tim, .macs, .nics, .srcs,
       .dispOuts, .store, .pcx, .hew, .outs] s)) ∧
  (∀ (s : State) (tid : Nat) (bytes : List (BitVec 8)),
     Does (.modeRecord tid bytes) s (Leaves [.regs, .ctl, .links, .schs, .meters, .tun, .tim, .macs, .nics, .srcs, .dispOuts,
       .store, .pcx, .hew, .outs] s)) ∧
  (∀ (s : State) (tid : Nat) (bytes : List (BitVec 8)),
     Does (.frameEndRecord tid bytes) s (Leaves [.regs, .ctl, .links, .schs, .meters, .tun, .tim, .macs, .nics, .srcs,
       .dispOuts, .store, .pcx, .hew, .outs] s)) ∧
  (∀ (s : State) (tid : Nat) (bytes : List (BitVec 8)),
     Does (.metadataRecord tid bytes) s (Leaves [.regs, .ctl, .links, .schs, .meters, .tun, .tim, .macs, .nics, .srcs,
       .dispOuts, .store, .pcx, .hew, .outs] s)) ∧
  (∀ (s : State) (tid : Nat) (bytes : List (BitVec 8)),
     Does (.ppsRecord tid bytes) s (Leaves [.regs, .ctl, .links, .schs, .meters, .tun, .tim, .macs, .nics, .srcs, .dispOuts,
       .store, .pcx, .hew, .outs] s)) ∧
  (∀ (s : State) (tid : Nat) (bytes : List (BitVec 8)),
     Does (.refreshRecord tid bytes) s (Leaves [.regs, .ctl, .srcs, .hew, .outs] s)) ∧
  (∀ (s : State) (tid : Nat) (bytes : List (BitVec 8)),
     Does (.sinkRecord tid bytes) s (Leaves [.regs, .ctl, .srcs, .hew, .outs] s)) ∧
  (∀ (s : State) (tid : Nat) (bytes : List (BitVec 8)),
     Does (.hdcpRxidRecord tid bytes) s (Leaves [.regs, .ctl, .srcs, .hew, .outs] s)) ∧
  (∀ (s : State) (k : Nat) (dry : List (Nat × Nat)) (timing : Option OutTiming),
     Does (.frameBoundary k dry timing) s (Leaves [.regs, .ctl, .links, .schs, .meters, .tun, .tim, .macs, .nics, .srcs,
       .dispOuts, .store, .pcx, .hew, .outs] s)) ∧
  (∀ (s : State) (c : HostCmd),
     Does (.dsoFlip c) s (Leaves [.regs, .ctl, .dispOuts, .hew, .outs] s)) ∧
  (∀ (s : State) (r : Req) (k : Nat) (timing : Option OutTiming),
     Does (.outputEnable r k timing) s (Leaves [.regs, .ctl, .links, .schs, .meters, .tun, .dispOuts, .hew, .outs] s)) ∧
  (∀ (s : State) (r : Req) (k : Nat),
     Does (.outputRefreshRequest r k) s (Leaves [.regs, .ctl, .links, .schs, .meters, .tun, .dispOuts, .hew, .outs] s)) ∧
  (∀ (s : State) (k : Nat) (m : Option Monitor),
     Does (.monitorHotplug k m) s (Leaves [.regs, .ctl, .links, .schs, .meters, .tun, .dispOuts, .hew, .outs] s)) ∧
  (∀ (s : State) (p : Nat) (x : SyncS),
     Does (.syncSReceive p x) s (Leaves [.regs, .ctl, .own, .smb, .flt, .hew, .outs] s)) ∧
  (∀ (s : State) (p seq us : Nat) (t1 t4 : Int),
     Does (.followReceive p seq us t1 t4) s (Leaves [.regs, .clock, .ctl, .tim, .flt, .hew, .outs] s)) ∧
  (∀ (s : State) (p : Nat) (a : Announce),
     Does (.announceReceive p a) s (Leaves [.regs, .ctl, .tim, .flt, .hew, .outs] s)) ∧
  (∀ (s : State) (p : Nat),
     Does (.announceTimeout p) s (Leaves [.regs, .ctl, .tim, .flt, .hew, .outs] s)) ∧
  (∀ (s : State),
     Does (.holdoverTimeout) s (Leaves [.regs, .ctl, .tim, .flt, .hew, .outs] s)) ∧
  (∀ (s : State),
     Does (.ppsInEdge) s (Leaves [.regs, .clock, .ctl, .tim, .flt, .hew, .outs] s)) ∧
  (∀ (s : State) (pps : Bool),
     Does (.sourceLost pps) s (Leaves [.regs, .ctl, .tim, .flt, .hew, .outs] s)) ∧
  (∀ (s : State) (c : HostCmd),
     Does (.timArm c) s (Leaves [.regs, .ctl, .tim, .hew, .outs] s)) ∧
  (∀ (s : State) (k : Nat),
     Does (.triggerEdge k) s (Leaves [.regs, .ctl, .tim, .hew, .outs] s)) ∧
  (∀ (s : State) (tid : Nat) (bytes : List (BitVec 8)),
     Does (.probeReceive tid bytes) s (Leaves [.regs, .ctl, .links, .schs, .meters, .tun, .hew, .outs] s)) ∧
  (∀ (s : State) (tid : Nat) (bytes : List (BitVec 8)),
     Does (.probeReplyReceive tid bytes) s (Leaves [.regs, .ctl, .tim, .hew, .outs] s)) ∧
  (∀ (s : State) (n : Nat) (bytes : List (BitVec 8)),
     Does (.ethernetFrameReceive n bytes) s (Leaves [.regs, .ctl, .links, .schs, .meters, .tun, .macs, .nics, .hew, .outs] s)) ∧
  (∀ (s : State) (n : Nat),
     Does (.ethernetFrameTransmit n) s (Leaves [.regs, .ctl, .macs, .hew, .outs] s)) ∧
  (∀ (s : State) (f : Nat) (tx : Bool) (q : Nat) (v : Word),
     Does (.nicQueueEnable f tx q v) s (Leaves [.regs, .ctl, .tun, .nics, .hew, .outs] s)) ∧
  (∀ (s : State) (f : Nat) (tx : Bool) (q : Nat) (v : Word) (bufs : List NicBuf),
     Does (.nicDoorbell f tx q v bufs) s (Leaves [.regs, .ctl, .links, .schs, .meters, .tun, .tim, .macs, .nics, .srcs,
       .dispOuts, .store, .pcx, .hew, .outs] s)) ∧
  (∀ (s : State) (f q : Nat) (d : NicTx),
     Does (.nicTxDescriptor f q d) s (Leaves [.regs, .ctl, .links, .schs, .meters, .tun, .macs, .nics, .hew, .outs] s)) ∧
  (∀ (s : State) (c : HostCmd) (list : Option (List (BitVec 256))),
     Does (.cartSubmit c list) s (Leaves [.regs, .ctl, .tun, .dispOuts, .hew, .crt, .outs] s)) ∧
  (∀ (s : State) (p : Nat) (n : Neigh),
     Does (.neighbourReceive p n) s (Leaves [.regs, .ctl, .ports, .links, .schs, .meters, .tun, .fab, .tim, .nics, .srcs,
       .dispOuts, .pcx, .hew, .outs] s)) ∧
  (∀ (s : State) (p : Nat),
     Does (.helloTimeout p) s (Leaves [.regs, .ctl, .ports, .links, .schs, .meters, .tun, .fab, .pcx, .flt, .hew, .outs] s)) ∧
  (∀ (s : State),
     Does (.recordRefresh) s (Leaves [.regs, .ctl, .tun, .fab, .pcx, .hew, .outs] s)) ∧
  (∀ (s : State) (p : Nat) (r : Rec) (ans : List DevAns),
     Does (.recordReceive p r ans) s (Leaves [.regs, .ctl, .links, .schs, .meters, .tun, .fab, .tim, .macs, .nics, .srcs,
       .dispOuts, .store, .pcx, .hew, .outs] s)) ∧
  (∀ (s : State) (uid : Nat),
     Does (.recordExpiry uid) s (Leaves [.regs, .ctl, .links, .schs, .meters, .tun, .fab, .tim, .nics, .srcs, .dispOuts, .pcx,
       .hew, .outs] s)) ∧
  (∀ (s : State) (p : Nat) (a : Assign),
     Does (.assignReceive p a) s (Leaves [.regs, .ctl, .own, .smb, .links, .schs, .meters, .tun, .fab, .tim, .nics, .srcs,
       .dispOuts, .pcx, .hew, .outs] s)) ∧
  (∀ (s : State),
     Does (.autoFidTimeout) s (Leaves [.regs, .ctl, .links, .schs, .meters, .tun, .fab, .tim, .nics, .srcs, .dispOuts, .pcx,
       .hew, .outs] s)) ∧
  (∀ (s : State),
     Does (.quarantineTimeout) s (Leaves [.regs, .ctl, .links, .schs, .meters, .tun, .fab, .pcx, .hew, .outs] s)) ∧
  (∀ (s : State),
     Does (.routeInstall) s (Leaves [.regs, .ctl, .ports, .links, .schs, .meters, .tun, .fab, .tim, .macs, .nics, .srcs,
       .dispOuts, .store, .pcx, .flt, .hew, .outs] s)) ∧
  (∀ (s : State),
     Does (.installWaitDrop) s (Leaves [.regs, .ctl, .links, .schs, .tun, .fab, .hew, .outs] s)) ∧
  (∀ (s : State) (c : HostCmd),
     Does (.fabAssign c) s (Leaves [.regs, .ctl, .tun, .fab, .hew, .outs] s)) ∧
  (∀ (s : State) (c : HostCmd),
     Does (.fabRoute c) s (Leaves [.regs, .ctl, .links, .schs, .meters, .tun, .pcx, .hew, .outs] s)) ∧
  (∀ (s : State) (part : Option Nat),
     Does (.upstreamSwitch part) s (Leaves [.regs, .ctl, .usb, .hew, .outs] s)) ∧
  (∀ (s : State),
     Does (.upstreamSwitchComplete) s (Leaves [.regs, .ctl, .usb, .hew, .outs] s)) ∧
  (∀ (s : State) (disc chirp : Bool) (part : Option Nat),
     Does (.usbBusReset disc chirp part) s (Leaves [.regs, .ctl, .usb, .hew, .outs] s)) ∧
  (∀ (s : State),
     Does (.usbSuspend) s (Leaves [.regs, .ctl, .usb, .hew, .outs] s)) ∧
  (∀ (s : State) (met : Bool),
     Does (.usbResume met) s (Leaves [.regs, .ctl, .usb, .hew, .outs] s)) ∧
  (∀ (s : State) (k : Nat) (low : Bool),
     Does (.usbOverCurrent k low) s (Leaves [.regs, .ctl, .usb, .hew, .outs] s)) ∧
  (∀ (s : State) (r : HubReq),
     Does (.hubClassRequest r) s (Leaves [.regs, .ctl, .usb, .hew, .outs] s)) ∧
  (∀ (s : State),
     Does (.yalcelGetInfo) s (Leaves [.regs, .ctl, .usb, .hew, .outs] s)) ∧
  (∀ (s : State) (v : Nat) (done : Bool),
     Does (.yalcelPwrReq v done) s (Leaves [.regs, .ctl, .usb, .pwr, .hew, .outs] s)) ∧
  (∀ (s : State) (len rsvd : Nat) (done : Bool),
     Does (.yalcelFwBegin len rsvd done) s (Leaves [.regs, .ctl, .usb, .hew, .outs] s)) ∧
  (∀ (s : State) (ok : Bool),
     Does (.flashSectorDone ok) s (Leaves [.regs, .ctl, .usb, .hew, .outs] s)) ∧
  (∀ (s : State) (done : Bool),
     Does (.yalcelFwCommit done) s (Leaves [.regs, .ctl, .usb, .hew, .outs] s)) ∧
  (∀ (s : State) (img : Option (List (BitVec 8))),
     Does (.fwCheckDone img) s (Leaves [.regs, .ctl, .boot, .usb, .hew, .outs] s)) ∧
  (∀ (s : State),
     Does (.yalcelFwStatus) s (Leaves [.regs, .ctl, .usb, .hew, .outs] s)) ∧
  (∀ (s : State) (len : Nat) (done : Bool),
     Does (.yalcelDlBegin len done) s (Leaves [.regs, .ctl, .usb, .hew, .outs] s)) ∧
  (∀ (s : State) (done : Bool),
     Does (.yalcelDlGo done) s (Leaves [.regs, .ctl, .boot, .keys, .usb, .hew, .outs] s)) ∧
  (∀ (s : State) (b : Nat),
     Does (.yalcelUnknownRequest b) s (Leaves [.regs, .ctl, .usb, .hew, .outs] s)) ∧
  (∀ (s : State) (n : Nat) (src orient ra : Bool) (z sys : Nat),
     Does (.pdAttach n src orient ra z sys) s (Leaves [.regs, .ctl, .usb, .pds, .hew, .outs] s)) ∧
  (∀ (s : State) (n : Nat),
     Does (.pdDetach n) s (Leaves [.regs, .ctl, .ports, .links, .schs, .meters, .commits, .tun, .fab, .tim, .pcx, .flt, .keys,
       .usb, .pds, .hew, .outs] s)) ∧
  (∀ (s : State) (r : Req) (n : Nat) (src : Bool) (k : Nat) (v : Word),
     Does (.pdTableWrite r n src k v) s (Leaves [.regs, .ctl, .pds, .hew, .outs] s)) ∧
  (∀ (s : State) (n : Nat) (k : CapsIn) (caps : List Word),
     Does (.pdSourceCapsReceive n k caps) s (Leaves [.regs, .ctl, .usb, .pds, .hew, .outs] s)) ∧
  (∀ (s : State) (n : Nat),
     Does (.pdPsRdyReceive n) s (Leaves [.regs, .ctl, .links, .schs, .commits, .tun, .keys, .pds, .hew, .draws, .outs] s)) ∧
  (∀ (s : State) (n kind : Nat),
     Does (.pdSwapRequestReceive n kind) s (Leaves [.regs, .ctl, .ports, .links, .schs, .meters, .commits, .tun, .fab, .tim,
       .pcx, .flt, .keys, .usb, .pds, .hew, .outs] s)) ∧
  (∀ (s : State) (n : Nat) (m : PdIn),
     Does (.pdVdmReceive n m) s (Leaves [.regs, .ctl, .ports, .links, .schs, .tun, .pcx, .keys, .pds, .hew, .draws, .outs] s)) ∧
  (∀ (s : State) (n vbus sys : Nat),
     Does (.vbusSettled n vbus sys) s (Leaves [.regs, .ctl, .links, .schs, .commits, .tun, .keys, .usb, .pds, .hew, .draws,
       .outs] s)) ∧
  (∀ (s : State) (n : Nat),
     Does (.vbusTransitionTimeout n) s (Leaves [.regs, .ctl, .ports, .links, .schs, .meters, .commits, .tun, .fab, .tim, .pcx,
       .flt, .keys, .usb, .pds, .hew, .outs] s)) ∧
  (∀ (s : State) (n : Nat) (x : VbusSense),
     Does (.vbusProtectionTrip n x) s (Leaves [.regs, .ctl, .smb, .ports, .links, .schs, .meters, .commits, .tun, .fab, .tim,
       .pcx, .flt, .keys, .usb, .pds, .hew, .draws, .outs] s)) ∧
  (∀ (s : State) (r : Req) (n : Nat),
     Does (.hardResetCommand r n) s (Leaves [.regs, .ctl, .ports, .links, .schs, .meters, .commits, .tun, .fab, .tim, .pcx,
       .flt, .keys, .usb, .pds, .hew, .outs] s)) ∧
  (∀ (s : State) (n : Nat) (received : Bool),
     Does (.pdHardReset n received) s (Leaves [.regs, .ctl, .ports, .links, .schs, .meters, .commits, .tun, .fab, .tim, .pcx,
       .flt, .keys, .usb, .pds, .hew, .outs] s)) ∧
  (∀ (s : State) (n : Nat),
     Does (.errorRecoveryEnd n) s (Leaves [.regs, .ctl, .usb, .pds, .hew, .outs] s)) ∧
  (∀ (s : State) (r : Req) (n : Nat),
     Does (.pdRelease r n) s (Leaves [.regs, .ctl, .ports, .links, .schs, .meters, .commits, .tun, .fab, .tim, .pcx, .flt,
       .keys, .usb, .pds, .hew, .outs] s)) ∧
  (∀ (s : State) (n z : Nat),
     Does (.moistureCheck n z) s (Leaves [.regs, .ctl, .pds, .hew, .outs] s)) ∧
  (∀ (s : State) (c : HostCmd),
     Does (.pwrReq c) s (Leaves [.regs, .ctl, .pwr, .hew, .outs] s)) ∧
  (∀ (s : State),
     Does (.hewerPhaseDone) s (Leaves [.regs, .ctl, .ports, .pwr, .hew, .outs] s)) ∧
  (∀ (s : State) (busy : Bool),
     Does (.handshakeAnswer busy) s (Leaves [.regs, .ctl, .ports, .links, .schs, .meters, .commits, .tun, .fab, .tim, .pcx,
       .flt, .keys, .pwr, .hew, .outs] s)) ∧
  (∀ (s : State),
     Does (.handshakeDeferExpiry) s (Leaves [.regs, .ctl, .ports, .pwr, .hew, .outs] s)) ∧
  (∀ (s : State),
     Does (.preparePhaseDone) s (Leaves [.regs, .ctl, .ports, .pwr, .hew, .outs] s)) ∧
  (∀ (s : State) (x : WakeIn),
     Does (.wakeSource x) s (Leaves [.regs, .ctl, .pwr, .hew, .outs] s)) ∧
  (∀ (s : State),
     Does (.powerExitComplete) s (Leaves [.regs, .clock, .ctl, .ports, .links, .schs, .meters, .metStaged, .commits, .tun,
       .dispOuts, .keys, .usb, .pwr, .hew, .draws, .outs] s)) ∧
  (∀ (s : State) (dom : Nat),
     Does (.domainWake dom) s (Leaves [.regs, .ctl, .schs, .meters, .metStaged, .commits, .pwr, .hew, .outs] s)) ∧
  (∀ (s : State),
     Does (.corePrestart) s (Leaves [.regs, .ctl, .schs, .meters, .metStaged, .commits, .dispOuts, .pwr, .hew, .outs] s)) ∧
  (∀ (s : State) (n v : Nat),
     Does (.hwmodeWrite n v) s (Leaves [.regs, .ctl, .pwr, .hew, .outs] s)) ∧
  (∀ (s : State) (n : Nat),
     Does (.hewerWatchdogExpiry n) s (Leaves [.regs, .ctl, .flt, .hew, .outs] s)) ∧
  (∀ (s : State) (n cause : Nat),
     Does (.hewerFailure n cause) s (Leaves [.regs, .ctl, .flt, .hew, .outs] s)) ∧
  (∀ (s : State) (d : Nat),
     Does (.takeoverCatchupDone d) s (Leaves [.regs, .ctl, .flt, .hew, .outs] s)) ∧
  (∀ (s : State) (addr region p place : Nat),
     Does (.galleryEccError addr region p place) s (Leaves [.regs, .ctl, .links, .schs, .tun, .flt, .hew, .outs] s)) ∧
  (∀ (s : State) (r : Req) (target : Nat),
     Does (.lifecycleRequest r target) s (Leaves [.regs, .ctl, .keys, .hew, .outs] s)) ∧
  (∀ (s : State) (r : Req),
     Does (.nonceGenerate r) s (Leaves [.regs, .ctl, .hew, .draws, .outs] s)) ∧
  (∀ (s : State) (r : Req) (args dram : List (BitVec 8)),
     Does (.keyDerive r args dram) s (Leaves [.regs, .ctl, .keys, .hew, .outs] s)) ∧
  (∀ (s : State) (r : Req) (args dram : List (BitVec 8)),
     Does (.keyKeygen r args dram) s (Leaves [.regs, .ctl, .keys, .hew, .outs] s)) ∧
  (∀ (s : State) (r : Req) (args dram : List (BitVec 8)),
     Does (.keyAgree r args dram) s (Leaves [.regs, .ctl, .keys, .hew, .outs] s)) ∧
  (∀ (s : State) (r : Req) (args dram : List (BitVec 8)),
     Does (.keySign r args dram) s (Leaves [.regs, .ctl, .keys, .hew, .outs] s)) ∧
  (∀ (s : State) (r : Req) (args dram : List (BitVec 8)),
     Does (.keyPubkey r args dram) s (Leaves [.regs, .ctl, .keys, .hew, .outs] s)) ∧
  (∀ (s : State) (r : Req) (args dram : List (BitVec 8)),
     Does (.keyVerify r args dram) s (Leaves [.regs, .ctl, .keys, .hew, .outs] s)) ∧
  (∀ (s : State) (r : Req) (args dram : List (BitVec 8)),
     Does (.keyErase r args dram) s (Leaves [.regs, .ctl, .keys, .hew, .outs] s)) ∧
  (∀ (s : State) (r : Req) (args dram : List (BitVec 8)),
     Does (.keyAttest r args dram) s (Leaves [.regs, .ctl, .keys, .hew, .outs] s)) ∧
  (∀ (s : State) (r : Req) (args dram : List (BitVec 8)),
     Does (.keyUnwrap r args dram) s (Leaves [.regs, .ctl, .keys, .hew, .outs] s)) ∧
  (∀ (s : State) (r : Req) (args dram : List (BitVec 8)),
     Does (.keyWrap r args dram) s (Leaves [.regs, .ctl, .keys, .hew, .outs] s)) ∧
  (∀ (s : State) (r : Req) (args dram : List (BitVec 8)),
     Does (.keyGenroot r args dram) s (Leaves [.regs, .ctl, .keys, .hew, .outs] s)) ∧
  (∀ (s : State) (r : Req) (args dram : List (BitVec 8)),
     Does (.keyProgram r args dram) s (Leaves [.regs, .ctl, .keys, .hew, .outs] s)) ∧
  (∀ (s : State) (r : Req) (args dram : List (BitVec 8)),
     Does (.keyAdvance r args dram) s (Leaves [.regs, .ctl, .keys, .hew, .outs] s)) ∧
  (∀ (s : State) (r : Req) (args dram : List (BitVec 8)),
     Does (.keyDbgunlock r args dram) s (Leaves [.regs, .ctl, .keys, .hew, .outs] s)) ∧
  (∀ (s : State) (otpOk : Bool),
     Does (.keyOperationDone otpOk) s (Leaves [.regs, .ctl, .keys, .hew, .draws, .outs] s)) ∧
  (∀ (s : State) (seq : Nat),
     Does (.faultRecoveryComplete seq) s (Leaves [.regs, .ctl, .flt, .hew, .outs] s)) ∧
  (∀ (s : State) (dev : Nat) (r : UsbReq) (done : Bool),
     Does (.usbStandardRequest dev r done) s (Leaves [.regs, .ctl, .usb, .hew, .outs] s)) ∧
  (∀ (s : State) (n ans : Nat),
     Does (.pdSwapResponseReceive n ans) s (Leaves [.regs, .ctl, .schs, .commits, .usb, .pds, .hew, .outs] s)) ∧
  (∀ (s : State) (n : Nat),
     Does (.pdSwapRetry n) s (Leaves [.regs, .ctl, .schs, .commits, .pds, .hew, .outs] s)) ∧
  (∀ (s : State) (p : Nat),
     Does (.rekeyOverdue p) s (Leaves [.regs, .ctl, .links, .hew, .outs] s))

end
end

