-- ==== Sys2Proof/Laws/Regs.lean ====
section
/-! SUPPORT. The register file: read after write, its canonical form, and fields of a word. -/

namespace Sys2Proof.Laws

open Sys2Proof.Machine

/-! ### The list of registers -/

theorem regFile_get_insert_same (l : List (Nat × Word)) (a : Nat) (v : Word) :
    RegFile.get (RegFile.insert a v l) a = v := by
  induction l with
  | nil => simp [RegFile.insert, RegFile.get]
  | cons e t ih =>
    unfold RegFile.insert
    split
    · simp [RegFile.get]
    · split
      · simp [RegFile.get]
      · rename_i h
        have : (e.1 == a) = false := by simp; omega
        simpa [RegFile.get, List.find?_cons, this] using ih

theorem regFile_get_insert_other (l : List (Nat × Word)) {a b : Nat} (v : Word) (h : b ≠ a) :
    RegFile.get (RegFile.insert a v l) b = RegFile.get l b := by
  have hb : (a == b) = false := by simp; omega
  induction l with
  | nil => simp [RegFile.insert, RegFile.get, hb]
  | cons e t ih =>
    unfold RegFile.insert
    split
    · simp [RegFile.get, List.find?_cons, hb]
    · split
      · rename_i h2
        subst h2
        simp [RegFile.get, hb]
      · cases hc : (e.1 == b) with
        | true => simp [RegFile.get, List.find?_cons, hc]
        | false => simpa [RegFile.get, List.find?_cons, hc] using ih

theorem find_filter_ne_same (l : List (Nat × Word)) (a : Nat) :
    (l.filter (fun e => e.1 != a)).find? (fun e => e.1 == a) = none := by
  simp [List.find?_eq_none]

theorem find_filter_ne_other (l : List (Nat × Word)) {a b : Nat} (h : b ≠ a) :
    (l.filter (fun e => e.1 != a)).find? (fun e => e.1 == b) = l.find? (fun e => e.1 == b) := by
  induction l with
  | nil => rfl
  | cons e t ih =>
    by_cases hb : e.1 = b
    · have : e.1 ≠ a := by omega
      simp [List.filter_cons, this, hb, h]
    · by_cases ha : e.1 = a
      · simp [List.filter_cons, ha, ih, List.find?_cons, (show (a == b) = false by simp; omega)]
      · simp [List.filter_cons, ha, ih, List.find?_cons, hb]

theorem regFile_get_set_same (l : List (Nat × Word)) (a : Nat) (v : Word) :
    RegFile.get (RegFile.set l a v) a = v := by
  unfold RegFile.set
  split
  · rename_i h
    simp only [RegFile.get, find_filter_ne_same, h]
  · exact regFile_get_insert_same l a v

theorem regFile_get_set_other (l : List (Nat × Word)) {a b : Nat} (v : Word) (h : b ≠ a) :
    RegFile.get (RegFile.set l a v) b = RegFile.get l b := by
  unfold RegFile.set
  split
  · simp only [RegFile.get, find_filter_ne_other l h]
  · exact regFile_get_insert_other l v h

theorem mem_insert {a : Nat} {v : Word} {l : List (Nat × Word)} {x : Nat × Word}
    (h : x ∈ RegFile.insert a v l) : x = (a, v) ∨ x ∈ l := by
  induction l with
  | nil => simpa [RegFile.insert] using h
  | cons e t ih =>
    unfold RegFile.insert at h
    split at h
    · simpa using h
    · split at h
      · simp only [List.mem_cons] at h ⊢
        tauto
      · simp only [List.mem_cons] at h ⊢
        rcases h with h | h
        · exact .inr (.inl h)
        · rcases ih h with h | h
          · exact .inl h
          · exact .inr (.inr h)

theorem insert_sorted {a : Nat} {v : Word} {l : List (Nat × Word)}
    (h : (l.map (·.1)).Pairwise (· < ·)) : ((RegFile.insert a v l).map (·.1)).Pairwise (· < ·) := by
  induction l with
  | nil => simp [RegFile.insert]
  | cons e t ih =>
    simp only [List.map_cons, List.pairwise_cons] at h
    unfold RegFile.insert
    split
    · rename_i hlt
      simp only [List.map_cons, List.pairwise_cons, List.mem_cons]
      refine ⟨?_, h⟩
      rintro b (rfl | hb)
      · exact hlt
      · exact lt_trans hlt (h.1 b hb)
    · split
      · rename_i heq
        simp only [List.map_cons, List.pairwise_cons]
        exact ⟨fun b hb => heq ▸ h.1 b hb, h.2⟩
      · rename_i h1 h2
        simp only [List.map_cons, List.pairwise_cons]
        refine ⟨?_, ih h.2⟩
        intro b hb
        obtain ⟨x, hx, rfl⟩ := List.mem_map.1 hb
        rcases mem_insert hx with rfl | hx
        · show e.1 < a
          omega
        · exact h.1 _ (List.mem_map_of_mem hx)

/-- Every write keeps the canonical form of the register file. -/
theorem regFile_set_wf {l : List (Nat × Word)} (a : Nat) (v : Word) (h : RegFile.wf l = true) :
    RegFile.wf (RegFile.set l a v) = true := by
  simp only [RegFile.wf, Bool.and_eq_true, decide_eq_true_eq, List.all_eq_true] at h ⊢
  unfold RegFile.set
  split
  · refine ⟨?_, fun e he => h.2 e (List.mem_of_mem_filter he)⟩
    exact h.1.sublist (List.filter_sublist.map _)
  · rename_i hv
    refine ⟨insert_sorted h.1, fun e he => ?_⟩
    rcases mem_insert he with rfl | he
    · simpa using hv
    · exact h.2 e he

theorem regFile_nil_wf : RegFile.wf [] = true := by simp [RegFile.wf]

/-! ### Whole registers -/

@[simp] theorem rd_wr_same (s : State) (a : Nat) (v : Word) : (s.wr a v).rd a = v :=
  regFile_get_set_same s.regs a v

theorem rd_wr_other (s : State) {a b : Nat} (v : Word) (h : b ≠ a) : (s.wr a v).rd b = s.rd b :=
  regFile_get_set_other s.regs v h

/-! ### Fields -/

theorem bitsOf_lt (w : Word) (lo width : Nat) : bitsOf w lo width < 2 ^ width :=
  Nat.mod_lt _ (Nat.two_pow_pos width)

/-- A word splits into what lies below a field, the field, and what lies above it. -/
theorem word_split (n lo width : Nat) :
    n = n % 2 ^ lo + 2 ^ lo * (n / 2 ^ lo % 2 ^ width) + 2 ^ (lo + width) * (n / 2 ^ (lo + width)) := by
  have h1 := Nat.mod_add_div n (2 ^ lo)
  have h2 := Nat.mod_add_div (n / 2 ^ lo) (2 ^ width)
  rw [Nat.div_div_eq_div_mul, ← Nat.pow_add] at h2
  rw [← h2] at h1
  rw [Nat.mul_add, ← Nat.mul_assoc, ← Nat.pow_add] at h1
  omega

theorem putBits_toNat (w : Word) {lo width : Nat} (v : Nat) (h : lo + width ≤ 32) :
    (putBits w lo width v).toNat =
      w.toNat % 2 ^ lo + 2 ^ lo * (v % 2 ^ width) + 2 ^ (lo + width) * (w.toNat / 2 ^ (lo + width)) := by
  have hs := word_split w.toNat lo width
  have hw : w.toNat < 2 ^ 32 := w.isLt
  have hv : v % 2 ^ width < 2 ^ width := Nat.mod_lt _ (Nat.two_pow_pos _)
  have hm : w.toNat % 2 ^ lo < 2 ^ lo := Nat.mod_lt _ (Nat.two_pow_pos _)
  have hpw : 2 ^ (lo + width) = 2 ^ lo * 2 ^ width := Nat.pow_add 2 lo width
  have hbound : w.toNat % 2 ^ lo + 2 ^ lo * (v % 2 ^ width) + 2 ^ (lo + width) * (w.toNat / 2 ^ (lo + width)) < 2 ^ 32 := by
    have h3 : w.toNat / 2 ^ (lo + width) < 2 ^ (32 - (lo + width)) := by
      rw [Nat.div_lt_iff_lt_mul (Nat.two_pow_pos _), ← Nat.pow_add]
      rwa [show 32 - (lo + width) + (lo + width) = 32 by omega]
    have h4 : w.toNat % 2 ^ lo + 2 ^ lo * (v % 2 ^ width) < 2 ^ (lo + width) := by
      rw [hpw]
      calc w.toNat % 2 ^ lo + 2 ^ lo * (v % 2 ^ width)
          < 2 ^ lo + 2 ^ lo * (v % 2 ^ width) := by omega
        _ = 2 ^ lo * (v % 2 ^ width + 1) := by ring
        _ ≤ 2 ^ lo * 2 ^ width := Nat.mul_le_mul_left _ hv
    calc _ < 2 ^ (lo + width) + 2 ^ (lo + width) * (w.toNat / 2 ^ (lo + width)) := by omega
      _ = 2 ^ (lo + width) * (w.toNat / 2 ^ (lo + width) + 1) := by ring
      _ ≤ 2 ^ (lo + width) * 2 ^ (32 - (lo + width)) := Nat.mul_le_mul_left _ h3
      _ = 2 ^ 32 := by rw [← Nat.pow_add]; congr 1; omega
  have heq : w.toNat - bitsOf w lo width * 2 ^ lo + v % 2 ^ width * 2 ^ lo =
      w.toNat % 2 ^ lo + 2 ^ lo * (v % 2 ^ width) + 2 ^ (lo + width) * (w.toNat / 2 ^ (lo + width)) := by
    unfold bitsOf
    rw [Nat.mul_comm (w.toNat / 2 ^ lo % 2 ^ width), Nat.mul_comm (v % 2 ^ width)]
    omega
  unfold putBits
  rw [BitVec.toNat_ofNat, heq, Nat.mod_eq_of_lt hbound]

/-- Reading a field back gives what was put into it, reduced to its width. -/
theorem bitsOf_putBits_same (w : Word) {lo width : Nat} (v : Nat) (h : lo + width ≤ 32) :
    bitsOf (putBits w lo width v) lo width = v % 2 ^ width := by
  have hm : w.toNat % 2 ^ lo < 2 ^ lo := Nat.mod_lt _ (Nat.two_pow_pos _)
  unfold bitsOf
  rw [putBits_toNat w v h, Nat.pow_add]
  have : w.toNat % 2 ^ lo + 2 ^ lo * (v % 2 ^ width) + 2 ^ lo * 2 ^ width * (w.toNat / (2 ^ lo * 2 ^ width)) =
      w.toNat % 2 ^ lo + 2 ^ lo * (v % 2 ^ width + 2 ^ width * (w.toNat / (2 ^ lo * 2 ^ width))) := by ring
  rw [this, Nat.add_mul_div_left _ _ (Nat.two_pow_pos _), Nat.div_eq_of_lt hm, Nat.zero_add,
    Nat.add_mul_mod_self_left, Nat.mod_mod]

/-- A field that lies below or above another keeps its value when the other is put. -/
theorem bitsOf_putBits_other (w : Word) {lo width lo' width' : Nat} (v : Nat) (h : lo + width ≤ 32)
    (hd : lo' + width' ≤ lo ∨ lo + width ≤ lo') :
    bitsOf (putBits w lo width v) lo' width' = bitsOf w lo' width' := by
  have hm : w.toNat % 2 ^ lo < 2 ^ lo := Nat.mod_lt _ (Nat.two_pow_pos _)
  have hv : v % 2 ^ width < 2 ^ width := Nat.mod_lt _ (Nat.two_pow_pos _)
  unfold bitsOf
  rw [putBits_toNat w v h]
  rcases hd with hd | hd
  · have key : ∀ n : Nat, n / 2 ^ lo' % 2 ^ width' = n % 2 ^ lo / 2 ^ lo' % 2 ^ width' := by
      intro n
      have e : (2 : Nat) ^ lo = 2 ^ lo' * (2 ^ width' * 2 ^ (lo - lo' - width')) := by
        rw [← Nat.pow_add, ← Nat.pow_add]; congr 1; omega
      rw [e, Nat.mod_mul_right_div_self, Nat.mod_mul_right_mod]
    rw [key (_ + _ + _), key w.toNat]
    congr 2
    have : w.toNat % 2 ^ lo + 2 ^ lo * (v % 2 ^ width) + 2 ^ (lo + width) * (w.toNat / 2 ^ (lo + width)) =
        w.toNat % 2 ^ lo + 2 ^ lo * (v % 2 ^ width + 2 ^ width * (w.toNat / 2 ^ (lo + width))) := by
      rw [Nat.pow_add]; ring
    rw [this, Nat.add_mul_mod_self_left, Nat.mod_mod]
  · have e : (2 : Nat) ^ lo' = 2 ^ (lo + width) * 2 ^ (lo' - (lo + width)) := by
      rw [← Nat.pow_add]; congr 1; omega
    have h4 : w.toNat % 2 ^ lo + 2 ^ lo * (v % 2 ^ width) < 2 ^ (lo + width) := by
      rw [Nat.pow_add]
      calc w.toNat % 2 ^ lo + 2 ^ lo * (v % 2 ^ width)
          < 2 ^ lo + 2 ^ lo * (v % 2 ^ width) := by omega
        _ = 2 ^ lo * (v % 2 ^ width + 1) := by ring
        _ ≤ 2 ^ lo * 2 ^ width := Nat.mul_le_mul_left _ hv
    rw [e, ← Nat.div_div_eq_div_mul, ← Nat.div_div_eq_div_mul, Nat.add_mul_div_left _ _ (Nat.two_pow_pos _),
      Nat.div_eq_of_lt h4, Nat.zero_add]

/-- A field of a word fits into 32 bits. -/
def FldOk (f : Fld) : Prop := f.lo + f.width ≤ 32

/-- Two fields that share no bit. -/
def FldApart (f g : Fld) : Prop := f.addr ≠ g.addr ∨ f.lo + f.width ≤ g.lo ∨ g.lo + g.width ≤ f.lo

theorem get_put_same (s : State) {f : Fld} (v : Nat) (h : f.lo + f.width ≤ 32) : (s.put f v).get f = v % 2 ^ f.width := by
  simp [State.put, State.get, bitsOf_putBits_same _ _ h]

theorem get_put_other (s : State) {f g : Fld} (v : Nat) (hf : f.lo + f.width ≤ 32) (h : FldApart f g) :
    (s.put f v).get g = s.get g := by
  unfold State.put State.get
  by_cases ha : g.addr = f.addr
  · rw [ha, rd_wr_same]
    rcases h with h | h
    · exact absurd ha.symm h
    · exact bitsOf_putBits_other _ _ hf (by omega)
  · rw [rd_wr_other _ _ ha]

theorem get_lt (s : State) (f : Fld) : s.get f < 2 ^ f.width := bitsOf_lt _ _ _

theorem rd_put_other (s : State) {f : Fld} {a : Nat} (v : Nat) (h : a ≠ f.addr) : (s.put f v).rd a = s.rd a :=
  rd_wr_other s _ h

theorem bit_putBit_same (s : State) {f : Fld} (b : Bool) (h : f.lo + 1 ≤ 32) (hw : f.width = 1) :
    (s.putBit f b).bit f = b := by
  unfold State.putBit State.bit
  rw [get_put_same _ _ (by omega), hw]
  cases b <;> simp

theorem bump_get_same (s : State) {f : Fld} (h : f.lo + f.width ≤ 32) :
    (s.bump f).get f = min (s.get f + 1) (2 ^ f.width - 1) := by
  have hl := get_lt s f
  unfold State.bump
  split
  · rename_i hlt
    rw [get_put_same _ _ h, Nat.mod_eq_of_lt hlt]
    omega
  · omega

theorem bump_get_other (s : State) {f g : Fld} (hf : f.lo + f.width ≤ 32) (h : FldApart f g) :
    (s.bump f).get g = s.get g := by
  unfold State.bump
  split
  · exact get_put_other s _ hf h
  · rfl

end Sys2Proof.Laws
end

