-- ==== Sys2Proof/Laws/Ops.lean ====
section
/-! SUPPORT. What the shared operations can do, once for each: the parts of the machine they leave, the register file's canonical
form, and that nothing sent is taken back. -/

namespace Sys2Proof.Laws

open Sys2Proof.Machine

/-! ### Frames -/

theorem leaves_refl (l : List Part) (s : State) : Leaves l s s := by
  intro p _
  cases p <;> first | rfl | exact ⟨rfl, rfl, rfl⟩

theorem leaves_mono {l m : List Part} {s t : State} (h : l ⊆ m) (hs : Leaves l s t) : Leaves m s t :=
  fun p hp => hs p fun hl => hp (h hl)

theorem leaves_trans {l : List Part} {s t u : State} (h1 : Leaves l s t) (h2 : Leaves l t u) : Leaves l s u := by
  intro p hp
  have a := h1 p hp
  have b := h2 p hp
  cases p <;> first | exact Eq.trans b a | exact ⟨b.1.trans a.1, b.2.1.trans a.2.1, b.2.2.trans a.2.2⟩

theorem leaves_foldl {α : Type} {l : List Part} {g : State → α → State} (h : ∀ s a, Leaves l s (g s a)) (as : List α) (s : State) :
    Leaves l s (as.foldl g s) := by
  induction as generalizing s with
  | nil => exact leaves_refl l s
  | cons a as ih => exact leaves_trans (h s a) (ih (g s a))

theorem leaves_ite {l : List Part} {s t u : State} {c : Prop} [Decidable c] (ht : Leaves l s t) (hu : Leaves l s u) :
    Leaves l s (if c then t else u) := by
  split <;> assumption

theorem wr_leaves (s : State) (a : Nat) (v : Word) : Leaves [.regs] s (s.wr a v) := by
  intro p hp
  cases p <;> first | rfl | exact ⟨rfl, rfl, rfl⟩ | simp at hp

theorem put_leaves (s : State) (f : Fld) (v : Nat) : Leaves [.regs] s (s.put f v) := wr_leaves _ _ _

theorem putBit_leaves (s : State) (f : Fld) (b : Bool) : Leaves [.regs] s (s.putBit f b) := put_leaves _ _ _

theorem bump_leaves (s : State) (f : Fld) : Leaves [.regs] s (s.bump f) :=
  leaves_ite (put_leaves _ _ _) (leaves_refl _ _)

theorem bumpBy_leaves (s : State) (f : Fld) (n : Nat) : Leaves [.regs] s (s.bumpBy f n) := put_leaves _ _ _

theorem addMod_leaves (s : State) (f : Fld) (n : Nat) : Leaves [.regs] s (s.addMod f n) := put_leaves _ _ _

theorem emit_leaves (s : State) (o : Out) : Leaves [.outs] s (s.emit o) := by
  intro p hp
  cases p <;> first | rfl | simp at hp

theorem emits_leaves (s : State) (os : List Out) : Leaves [.outs] s (s.emits os) := leaves_foldl emit_leaves os s

theorem ctlM_leaves (s : State) (g : CtlSt → CtlSt) : Leaves [.ctl] s (s.ctlM g) := by
  intro p hp
  cases p <;> first | rfl | exact ⟨rfl, rfl, rfl⟩ | simp at hp

theorem hewM_leaves (s : State) (g : HewSt → HewSt) : Leaves [.hew] s (s.hewM g) := by
  intro p hp
  cases p <;> first | rfl | exact ⟨rfl, rfl, rfl⟩ | simp at hp

/-- What events, tallies and completions may change. -/
abbrev eventParts : List Part := [.regs, .ctl, .hew, .outs]

theorem setRing_leaves (s : State) (r : RingSt) : Leaves [.ctl] s (s.setRing r) := ctlM_leaves _ _

theorem ringStep_leaves (s : State) (n : Nat) : Leaves eventParts s (s.ringStep n) :=
  leaves_trans (leaves_mono (by simp) (setRing_leaves _ _)) (leaves_mono (by simp) (addMod_leaves _ _ _))

theorem setHostIdx_leaves (s : State) (n idx : Nat) : Leaves [.regs, .ctl] s (s.setHostIdx n idx) :=
  leaves_trans (leaves_mono (by simp) (setRing_leaves _ _)) (leaves_mono (by simp) (put_leaves _ _ _))

/-- An MSI-X message is sent or left pending. -/
theorem msix_leaves (s : State) (fn v : Nat) : Leaves [.regs, .outs] s (s.msix fn v) :=
  leaves_ite (leaves_mono (by simp) (put_leaves _ _ _)) (leaves_mono (by simp) (emit_leaves _ _))

theorem signal_leaves (s : State) (v : Nat) : Leaves eventParts s (s.signal v) := by
  have h : ∀ t : State, Leaves eventParts t (t.msix 0 v) := fun t => leaves_mono (by simp) (msix_leaves t 0 v)
  unfold State.signal
  split
  · exact h _
  · split
    · exact leaves_mono (by simp) (ctlM_leaves _ _)
    · exact leaves_trans (leaves_mono (by simp) (ctlM_leaves _ _)) (h _)

theorem writeRecord_leaves (s : State) (n : Nat) (r : EvRec) : Leaves eventParts s (s.writeRecord n r) :=
  leaves_trans (leaves_trans (leaves_trans (leaves_trans (leaves_mono (by simp) (setRing_leaves _ _))
    (leaves_mono (by simp) (emit_leaves _ _))) (leaves_mono (by simp) (emit_leaves _ _))) (ringStep_leaves _ _)) (signal_leaves _ _)

theorem recordEvent_leaves (s : State) (r : EvRec) : Leaves eventParts s (s.recordEvent r) := by
  unfold State.recordEvent
  refine leaves_ite (leaves_mono (by simp) (bump_leaves _ _)) (leaves_ite (writeRecord_leaves _ _ _) (leaves_ite ?_ ?_))
  · exact leaves_mono (by simp) (setRing_leaves _ _)
  · exact leaves_trans (leaves_mono (by simp) (setRing_leaves _ _)) (leaves_mono (by simp) (bump_leaves _ _))

theorem dispatch_leaves (s : State) (r : EvRec) (grantee : Nat) : Leaves eventParts s (s.dispatch r grantee) := by
  have h : ∀ (t : State) (o : Out), Leaves eventParts t (t.emit o) := fun t o => leaves_mono (by simp) (emit_leaves _ _)
  have ho : ∀ o : Out, Leaves eventParts s (if s.ownerFid = 0 then s else s.emit o) := fun o => leaves_ite (leaves_refl _ _) (h _ _)
  exact leaves_ite (recordEvent_leaves _ _) (leaves_ite (h _ _) (leaves_ite (ho _) (leaves_trans (ho _) (h _ _))))

theorem raiseCore_leaves (s : State) (r : EvRec) (grantee : Nat) : Leaves eventParts s (s.raiseCore r grantee) :=
  leaves_trans (leaves_mono (by simp) (put_leaves _ _ _)) (leaves_ite (leaves_refl _ _) (dispatch_leaves _ _ _))

theorem subscribe1_leaves (s : State) (n : Nat) (r : EvRec) : Leaves eventParts s (s.subscribe1 n r) :=
  leaves_ite (leaves_refl _ _) (leaves_ite (leaves_mono (by simp) (hewM_leaves _ _)) (leaves_mono (by simp) (bump_leaves _ _)))

theorem subscribed_leaves (s : State) (r : EvRec) : Leaves eventParts s (s.subscribed r) :=
  leaves_foldl (fun t n => subscribe1_leaves t n r) _ s

theorem raiseBytes_leaves (s : State) (ev : Nat) (masked : Bool) (grantee : Nat) (data : List (BitVec 8)) :
    Leaves eventParts s (s.raiseBytes ev masked grantee data) :=
  leaves_ite (leaves_refl _ _) (leaves_trans (leaves_trans (raiseCore_leaves _ _ _) (subscribed_leaves _ _))
    (leaves_foldl (fun _ _ => leaves_ite (leaves_trans (raiseCore_leaves _ _ _) (subscribed_leaves _ _)) (leaves_refl _ _)) _ _))

theorem raiseWith_leaves (s : State) (ev : Nat) (masked : Bool) (grantee : Nat) (vals : List Nat) :
    Leaves eventParts s (s.raiseWith ev masked grantee vals) := raiseBytes_leaves _ _ _ _ _

/-- Raising an event changes registers, rings and vectors, the user Hewers' queues and what is sent, and nothing else. -/
theorem raise_leaves (s : State) (g bit : Nat) (data : List Nat) : Leaves eventParts s (s.raise g bit data) :=
  raiseWith_leaves _ _ _ _ _

theorem tally_leaves (s : State) (f : Fld) : Leaves eventParts s (s.tally f) :=
  leaves_ite (leaves_trans (leaves_mono (by simp) (bump_leaves _ _)) (raise_leaves _ _ _ _)) (leaves_mono (by simp) (bump_leaves _ _))

theorem writeCpl_leaves (s : State) (n : Nat) (c : Cpl) : Leaves eventParts s (s.writeCpl n c) := by
  have h : ∀ (t : State) (o : Out), Leaves eventParts t (t.emit o) := fun t o => leaves_mono (by simp) (emit_leaves _ _)
  have hs := leaves_trans (leaves_trans (h s (.hostWrite (s.slotHere n) (Cpl.bytes c (s.ringPhase n))))
    (h _ (.completion n (s.get (F.GLB_RIDX_DEVIDX n)) (s.ringPhase n) c))) (ringStep_leaves _ n)
  exact leaves_ite (leaves_trans hs (signal_leaves _ _)) hs

theorem complete_leaves (s : State) (c : Cpl) : Leaves eventParts s (s.complete c) :=
  leaves_ite (writeCpl_leaves _ _ _) (leaves_mono (by simp) (ctlM_leaves _ _))

theorem flushCpl_leaves (s : State) : Leaves eventParts s s.flushCpl :=
  leaves_trans (leaves_mono (by simp) (ctlM_leaves _ _)) (leaves_foldl (fun t c => complete_leaves t c) _ _)

/-- Completing a command changes what a completion changes, and nothing else. -/
theorem finish_leaves (s : State) (t : InFlight) (code : Nat) (result : BitVec 448) : Leaves eventParts s (s.finish t code result) :=
  leaves_trans (leaves_mono (by simp) (ctlM_leaves _ _)) (complete_leaves _ _)

theorem reply_leaves (s : State) (r : Reply) (code : Nat) (result : BitVec 448) : Leaves eventParts s (s.reply r code result) := by
  cases r
  · exact finish_leaves _ _ _ _
  · exact leaves_mono (by simp) (emit_leaves _ _)
  · exact leaves_refl _ _

/-- A command from a ring leaves what its body leaves, beside what taking and completing it changes. -/
theorem command_leaves {l : List Part} {s : State} {op : Nat} {control : Bool} {used : List (Nat × Nat × Nat)} {c : HostCmd}
    {body : InFlight → State → State} (hl : eventParts ⊆ l) (hb : ∀ t u, Leaves l u (body t u)) :
    Leaves l s (s.command op control used c body) := by
  have hs : Leaves l s (s.take c) :=
    leaves_mono hl (leaves_trans (leaves_mono (by simp) (ctlM_leaves _ _)) (ringStep_leaves _ _))
  have hf : ∀ (u : State) (f : Fld) (t : InFlight) (k : Nat), Leaves l u ((u.tally f).finish t k 0) := fun u f t k =>
    leaves_mono hl (leaves_trans (tally_leaves _ _) (finish_leaves _ _ _ _))
  have hc : ∀ (u : State) (g : CtlSt → CtlSt), Leaves l u (u.ctlM g) := fun u g => leaves_mono hl (leaves_mono (by simp) (ctlM_leaves _ _))
  exact leaves_ite (leaves_ite (leaves_trans hs (hf _ _ _ _)) (leaves_ite (leaves_trans hs (hf _ _ _ _))
    (leaves_trans (leaves_trans hs (hc _ _)) (leaves_ite (leaves_refl _ _) (hb _ _))))) (leaves_refl _ _)

theorem glbWrite_leaves {l : List Part} {s : State} {r : Req} {g : State → State} (hl : eventParts ⊆ l)
    (hg : ∀ u, Leaves l u (g u)) : Leaves l s (s.glbWrite r g) :=
  leaves_ite (leaves_refl _ _) (leaves_ite (hg _) (leaves_mono hl (tally_leaves _ _)))

/-- A control write leaves what its effect leaves, beside the tally of one that is ignored. -/
theorem controlWrite_leaves {l : List Part} {s : State} {r : Req} {g : State → State} (hl : eventParts ⊆ l)
    (hg : ∀ u, Leaves l u (g u)) : Leaves l s (s.controlWrite r g) :=
  leaves_ite (leaves_mono hl (tally_leaves _ _)) (glbWrite_leaves hl hg)

/-- What happens in a domain that may not run leaves what its effect leaves. -/
theorem whenUp_leaves {l : List Part} {s : State} {g : State → State} (hg : ∀ u, Leaves l u (g u)) : Leaves l s (s.whenUp g) :=
  leaves_ite (hg _) (leaves_refl _ _)

/-- What a duty's firmware does leaves what its effect leaves. -/
theorem whenDuty_leaves {l : List Part} {s : State} {d : Nat} {g : State → State} (hg : ∀ u, Leaves l u (g u)) :
    Leaves l s (s.whenDuty d g) :=
  leaves_ite (hg _) (leaves_refl _ _)

theorem whenSerdes_leaves {l : List Part} {s : State} {g : State → State} (hg : ∀ u, Leaves l u (g u)) :
    Leaves l s (s.whenSerdes g) := leaves_ite (hg _) (leaves_refl _ _)

theorem whenMem_leaves {l : List Part} {s : State} {g : State → State} (hg : ∀ u, Leaves l u (g u)) : Leaves l s (s.whenMem g) :=
  leaves_ite (hg _) (leaves_refl _ _)

/-! ### Domains that run -/

theorem whenUp_of {s : State} (h : s.up = true) (g : State → State) : s.whenUp g = g s := if_pos h

theorem whenSerdes_of {s : State} (h : s.serdesUp = true) (g : State → State) : s.whenSerdes g = g s := if_pos h

theorem whenMem_of {s : State} (h : s.memUp = true) (g : State → State) : s.whenMem g = g s := if_pos h

/-! ### The register file's canonical form -/

theorem wr_canonical {s : State} (a : Nat) (v : Word) (h : RegsCanonical s) : RegsCanonical (s.wr a v) := regFile_set_wf a v h

theorem put_canonical {s : State} (f : Fld) (v : Nat) (h : RegsCanonical s) : RegsCanonical (s.put f v) := wr_canonical _ _ h

theorem bump_canonical {s : State} (f : Fld) (h : RegsCanonical s) : RegsCanonical (s.bump f) := by
  unfold State.bump
  split
  · exact put_canonical _ _ h
  · exact h

theorem canonical_of_leaves {l : List Part} {s t : State} (hl : Part.regs ∉ l) (hs : Leaves l s t) (h : RegsCanonical s) :
    RegsCanonical t := by
  have : t.regs = s.regs := hs .regs hl
  unfold RegsCanonical
  rw [this]
  exact h

theorem foldl_canonical {α : Type} {g : State → α → State} (hg : ∀ s a, RegsCanonical s → RegsCanonical (g s a)) (as : List α)
    {s : State} (h : RegsCanonical s) : RegsCanonical (as.foldl g s) := by
  induction as generalizing s with
  | nil => exact h
  | cons a as ih => exact ih (hg s a h)

/-- Dropping registers keeps the form. -/
theorem filter_canonical {l : List (Nat × Word)} (f : Nat × Word → Bool) (h : RegFile.wf l = true) :
    RegFile.wf (l.filter f) = true := by
  simp only [RegFile.wf, Bool.and_eq_true, decide_eq_true_eq, List.all_eq_true] at h ⊢
  exact ⟨h.1.sublist (List.filter_sublist.map _), fun e he => h.2 e (List.mem_of_mem_filter he)⟩

/-! ### What has been sent stays -/

theorem emit_prefix (s : State) (o : Out) : s.outs <+: (s.emit o).outs := List.prefix_append _ _

theorem prefix_of_leaves {l : List Part} {s t : State} (hl : Part.outs ∉ l) (hs : Leaves l s t) : s.outs <+: t.outs := by
  have : t.outs = s.outs := (hs .outs hl).1
  rw [this]

theorem prefix_foldl {α : Type} {g : State → α → State} (hg : ∀ s a, s.outs <+: (g s a).outs) (as : List α) (s : State) :
    s.outs <+: (as.foldl g s).outs := by
  induction as generalizing s with
  | nil => exact List.prefix_rfl
  | cons a as ih => exact (hg s a).trans (ih (g s a))

theorem sends_emit (s : State) (o : Out) : Sends s (s.emit o) o :=
  ⟨emit_prefix s o, by simp [State.emit]⟩

/-- What one step sends is still among what a longer run has sent. -/
theorem sends_trans {s t u : State} {o : Out} (h : Sends s t o) (htu : t.outs <+: u.outs) : Sends s u o := by
  obtain ⟨⟨a, ha⟩, hm⟩ := h
  obtain ⟨b, hb⟩ := htu
  refine ⟨⟨a ++ b, by rw [← hb, ← ha, List.append_assoc]⟩, ?_⟩
  rw [← hb, List.drop_append_of_le_length (by rw [← ha]; simp)]
  exact List.mem_append_left _ hm

/-! ### The frame stores' canonical form -/

theorem slotInsert_mem {k n : Nat} {w : List Word} {l : List (Nat × List Word)} (h : n ∈ (slotInsert k w l).map (·.1)) :
    n = k ∨ n ∈ l.map (·.1) := by
  induction l with
  | nil => simpa [slotInsert] using h
  | cons e t ih =>
    simp only [slotInsert] at h
    split at h
    · simpa using h
    · split at h
      · simp only [List.map_cons, List.mem_cons] at h ⊢
        exact h.imp id .inr
      · simp only [List.map_cons, List.mem_cons] at h ⊢
        rcases h with h | h
        · exact .inr (.inl h)
        · exact (ih h).imp id .inr

/-- Writing a slot keeps the slots in strictly rising order. -/
theorem slotInsert_rise (k : Nat) (w : List Word) {l : List (Nat × List Word)} (h : slotsRise l = true) :
    slotsRise (slotInsert k w l) = true := by
  unfold slotsRise at *
  simp only [decide_eq_true_eq] at *
  induction l with
  | nil => simp [slotInsert]
  | cons e t ih =>
    simp only [List.map_cons, List.pairwise_cons] at h
    simp only [slotInsert]
    split
    · rename_i hk
      simp only [List.map_cons, List.pairwise_cons, List.mem_cons]
      exact ⟨fun n hn => hn.elim (fun e => e ▸ hk) (fun hn => Nat.lt_trans hk (h.1 n hn)), h⟩
    · split
      · rename_i hk
        simp only [List.map_cons, List.pairwise_cons]
        exact ⟨fun n hn => hk ▸ h.1 n hn, h.2⟩
      · simp only [List.map_cons, List.pairwise_cons]
        exact ⟨fun n hn => (slotInsert_mem hn).elim (fun e => by omega) (h.1 n), ih h.2⟩

/-- Storing a tile keeps the frame stores in their canonical form. -/
theorem storeTile_rise (s : State) (k : Nat) (ws : List Word) (p : Bool) (h : slotsRise s.store.slots = true) :
    slotsRise (s.storeTile k ws p).store.slots = true := by
  unfold State.storeTile
  split
  · exact h
  · exact slotInsert_rise _ _ h

end Sys2Proof.Laws
end

