-- ==== Sys2Proof/Laws/PerInstr.lean ====
section
/-! SUPPORT. One fact per command, about its encoding: the table of operations gives no command bits, so no word spells it. -/

namespace Sys2Proof.Laws

/-- No word of any width spells the command. -/
def Row.Statement (i : Instr) : Prop := ∀ nbits w : Nat, decodeTableWord nbits w ≠ some i

theorem no_word_spells (i : Instr) : ∀ nbits w : Nat, decodeTableWord nbits w ≠ some i := by
  intro nbits w h
  simp [decodeTableWord] at h

theorem Row.powerOnReset (x : PowerUp) : Row.Statement (.powerOnReset x) := no_word_spells _
theorem Row.porstNAssert : Row.Statement (.porstNAssert) := no_word_spells _
theorem Row.porstNRelease : Row.Statement (.porstNRelease) := no_word_spells _
theorem Row.strapSample (role boot smba fids lanes : Nat) : Row.Statement (.strapSample role boot smba fids lanes) := no_word_spells _
theorem Row.warmrstNAssert : Row.Statement (.warmrstNAssert) := no_word_spells _
theorem Row.softwareCoreReset (r : Req) : Row.Statement (.softwareCoreReset r) := no_word_spells _
theorem Row.softwareWarmReset (r : Req) : Row.Statement (.softwareWarmReset r) := no_word_spells _
theorem Row.thermalTrip : Row.Statement (.thermalTrip) := no_word_spells _
theorem Row.railBelowResetLevel (rail : Nat) : Row.Statement (.railBelowResetLevel rail) := no_word_spells _
theorem Row.railValid (rail : Nat) : Row.Statement (.railValid rail) := no_word_spells _
theorem Row.penumbraEntry (mv : Nat) : Row.Statement (.penumbraEntry mv) := no_word_spells _
theorem Row.thriftLeave (low : Nat) : Row.Statement (.thriftLeave low) := no_word_spells _
theorem Row.bootRomStart (otp : List (Nat × Nat)) (dram found : Bool) (modes : Nat) (dqs : Bool) (size : Nat) (runs : List (Nat × List (BitVec 8))) : Row.Statement (.bootRomStart otp dram found modes dqs size runs) := no_word_spells _
theorem Row.firmwareReady (slot : Nat) : Row.Statement (.firmwareReady slot) := no_word_spells _
theorem Row.bootWatchdogExpiry : Row.Statement (.bootWatchdogExpiry) := no_word_spells _
theorem Row.downloadLengthWrite (r : Req) (len : BitVec 32) : Row.Statement (.downloadLengthWrite r len) := no_word_spells _
theorem Row.bootPersonalityTimeout : Row.Statement (.bootPersonalityTimeout) := no_word_spells _
theorem Row.pciePerstAssert : Row.Statement (.pciePerstAssert) := no_word_spells _
theorem Row.pciePerstRelease : Row.Statement (.pciePerstRelease) := no_word_spells _
theorem Row.writeRegister (r : Req) (a size : Nat) (v : BitVec 64) : Row.Statement (.writeRegister r a size v) := no_word_spells _
theorem Row.crossDomainWriteEffect (k : Nat) : Row.Statement (.crossDomainWriteEffect k) := no_word_spells _
theorem Row.wideCounterLowRead (r : Req) (a size : Nat) : Row.Statement (.wideCounterLowRead r a size) := no_word_spells _
theorem Row.snapTake (r : Req) (view : Bool) : Row.Statement (.snapTake r view) := no_word_spells _
theorem Row.snapCaptureDone : Row.Statement (.snapCaptureDone) := no_word_spells _
theorem Row.ringEnable (n : Nat) (v : Word) : Row.Statement (.ringEnable n v) := no_word_spells _
theorem Row.ringDisable (n : Nat) (v : Word) : Row.Statement (.ringDisable n v) := no_word_spells _
theorem Row.ringVectorChange (n : Nat) (v : Word) : Row.Statement (.ringVectorChange n v) := no_word_spells _
theorem Row.doorbell (n : Nat) (v : Word) (bufs : List PostedBuf) : Row.Statement (.doorbell n v bufs) := no_word_spells _
theorem Row.nop (c : HostCmd) : Row.Statement (.nop c) := no_word_spells _
theorem Row.unknownOpcode (op : Nat) (c : HostCmd) : Row.Statement (.unknownOpcode op c) := no_word_spells _
theorem Row.regRead (c : HostCmd) : Row.Statement (.regRead c) := no_word_spells _
theorem Row.regWrite (c : HostCmd) : Row.Statement (.regWrite c) := no_word_spells _
theorem Row.mgmtReqReceive (f : Nat) (m : Msg) : Row.Statement (.mgmtReqReceive f m) := no_word_spells _
theorem Row.mgmtRspReceive (f : Nat) (m : Msg) : Row.Statement (.mgmtRspReceive f m) := no_word_spells _
theorem Row.managementTimeout (id : Nat) : Row.Statement (.managementTimeout id) := no_word_spells _
theorem Row.dataOutDescriptor (n : Nat) (d : DataOut) : Row.Statement (.dataOutDescriptor n d) := no_word_spells _
theorem Row.holdoffExpiry (v : Nat) : Row.Statement (.holdoffExpiry v) := no_word_spells _
theorem Row.eventFrameReceive (r : EvRec) : Row.Statement (.eventFrameReceive r) := no_word_spells _
theorem Row.eventRecordFlush (n : Nat) : Row.Statement (.eventRecordFlush n) := no_word_spells _
theorem Row.ownYield (c : HostCmd) : Row.Statement (.ownYield c) := no_word_spells _
theorem Row.yieldCommandsDrained : Row.Statement (.yieldCommandsDrained) := no_word_spells _
theorem Row.yieldReceive (tofid gen : Nat) (rank : Rank) : Row.Statement (.yieldReceive tofid gen rank) := no_word_spells _
theorem Row.yieldTimeout : Row.Statement (.yieldTimeout) := no_word_spells _
theorem Row.releaseReceive : Row.Statement (.releaseReceive) := no_word_spells _
theorem Row.heartbeatSend : Row.Statement (.heartbeatSend) := no_word_spells _
theorem Row.heartbeatReceive (f : Nat) (rank : Rank) (gen : Nat) : Row.Statement (.heartbeatReceive f rank gen) := no_word_spells _
theorem Row.ownerTimerExpiry : Row.Statement (.ownerTimerExpiry) := no_word_spells _
theorem Row.claimSend : Row.Statement (.claimSend) := no_word_spells _
theorem Row.claimReceive (fid : Nat) (rank : Rank) (gen : Nat) : Row.Statement (.claimReceive fid rank gen) := no_word_spells _
theorem Row.electionClose : Row.Statement (.electionClose) := no_word_spells _
theorem Row.hostAliveLost (cond : Nat) : Row.Statement (.hostAliveLost cond) := no_word_spells _
theorem Row.hostAliveGained (cond : Nat) : Row.Statement (.hostAliveGained cond) := no_word_spells _
theorem Row.aliveKick : Row.Statement (.aliveKick) := no_word_spells _
theorem Row.keepaliveExpiry : Row.Statement (.keepaliveExpiry) := no_word_spells _
theorem Row.smbusStatusRead (temp : BitVec 8) : Row.Statement (.smbusStatusRead temp) := no_word_spells _
theorem Row.smbusAddrWrite (a : Nat) (pec : Bool) : Row.Statement (.smbusAddrWrite a pec) := no_word_spells _
theorem Row.smbusDataRead : Row.Statement (.smbusDataRead) := no_word_spells _
theorem Row.smbusPwrreq (v : Nat) (pec : Bool) : Row.Statement (.smbusPwrreq v pec) := no_word_spells _
theorem Row.smbusAlertclr (v : Nat) (pec : Bool) : Row.Statement (.smbusAlertclr v pec) := no_word_spells _
theorem Row.smbusAlertResponse : Row.Statement (.smbusAlertResponse) := no_word_spells _
theorem Row.enterMode (p : Nat) (dfp : Bool) (vdo : Nat) : Row.Statement (.enterMode p dfp vdo) := no_word_spells _
theorem Row.exitMode (p : Nat) : Row.Statement (.exitMode p) := no_word_spells _
theorem Row.retrain (r : Req) (p : Nat) : Row.Statement (.retrain r p) := no_word_spells _
theorem Row.darkCommand (r : Req) (p : Nat) : Row.Statement (.darkCommand r p) := no_word_spells _
theorem Row.portDetectStart (p : Nat) : Row.Statement (.portDetectStart p) := no_word_spells _
theorem Row.receiverDetect (p lanes : Nat) : Row.Statement (.receiverDetect p lanes) := no_word_spells _
theorem Row.trainingFrameReceive (p rate phys : Nat) (h : TrainHdr) (inverted ready : Bool) (pre post : Nat) : Row.Statement (.trainingFrameReceive p rate phys h inverted ready pre post) := no_word_spells _
theorem Row.trainTimeout (p : Nat) : Row.Statement (.trainTimeout p) := no_word_spells _
theorem Row.fallbackIdleEnd (p : Nat) : Row.Statement (.fallbackIdleEnd p) := no_word_spells _
theorem Row.markerReceive (p lane : Nat) (skew : Int) : Row.Statement (.markerReceive p lane skew) := no_word_spells _
theorem Row.lockTimeout (p : Nat) : Row.Statement (.lockTimeout p) := no_word_spells _
theorem Row.capabilitySend (p : Nat) : Row.Statement (.capabilitySend p) := no_word_spells _
theorem Row.capabilityFrameReceive (p : Nat) (bytes : List (BitVec 8)) (crc : BitVec 32) : Row.Statement (.capabilityFrameReceive p bytes crc) := no_word_spells _
theorem Row.exchangeTimeout (p : Nat) : Row.Statement (.exchangeTimeout p) := no_word_spells _
theorem Row.retryDelayExpiry (p : Nat) : Row.Statement (.retryDelayExpiry p) := no_word_spells _
theorem Row.codewordReceive (p phys : Nat) (cw : BitVec 5440) : Row.Statement (.codewordReceive p phys cw) := no_word_spells _
theorem Row.dimEntry (p : Nat) : Row.Statement (.dimEntry p) := no_word_spells _
theorem Row.dimReceive (p : Nat) : Row.Statement (.dimReceive p) := no_word_spells _
theorem Row.dimExit (p : Nat) : Row.Statement (.dimExit p) := no_word_spells _
theorem Row.dimExitBurstReceive (p : Nat) (b : BurstIn) : Row.Statement (.dimExitBurstReceive p b) := no_word_spells _
theorem Row.laneFailure (p lane cause : Nat) : Row.Statement (.laneFailure p lane cause) := no_word_spells _
theorem Row.spareRepeat (p : Nat) : Row.Statement (.spareRepeat p) := no_word_spells _
theorem Row.lanectlSpareReceive (p lane : Nat) : Row.Statement (.lanectlSpareReceive p lane) := no_word_spells _
theorem Row.lanectlStripeReceive (p mask : Nat) : Row.Statement (.lanectlStripeReceive p mask) := no_word_spells _
theorem Row.lanectlJoinReceive (p lane : Nat) : Row.Statement (.lanectlJoinReceive p lane) := no_word_spells _
theorem Row.sparedLaneJudge (p lane : Nat) (sig : Bool) : Row.Statement (.sparedLaneJudge p lane sig) := no_word_spells _
theorem Row.foreignFrameIngress (ep typ kind : Nat) (bytes : List (BitVec 8)) (last yellow : Bool) : Row.Statement (.foreignFrameIngress ep typ kind bytes last yellow) := no_word_spells _
theorem Row.meterRetest : Row.Statement (.meterRetest) := no_word_spells _
theorem Row.schedulerOffer (p : Nat) : Row.Statement (.schedulerOffer p) := no_word_spells _
theorem Row.frameReceive (p : Nat) (hdr : BitVec 128) (body : List (BitVec 8)) (tag : Option (BitVec 128)) (errored : Nat) : Row.Statement (.frameReceive p hdr body tag errored) := no_word_spells _
theorem Row.nakResendTimer (p : Nat) : Row.Statement (.nakResendTimer p) := no_word_spells _
theorem Row.ackReceive (p : Nat) (w : LinkWord) (chk : BitVec 8) : Row.Statement (.ackReceive p w chk) := no_word_spells _
theorem Row.nakReceive (p : Nat) (w : LinkWord) (chk : BitVec 8) : Row.Statement (.nakReceive p w chk) := no_word_spells _
theorem Row.replayTimeout (p : Nat) : Row.Statement (.replayTimeout p) := no_word_spells _
theorem Row.creditReceive (p : Nat) (w : LinkWord) (chk : BitVec 8) : Row.Statement (.creditReceive p w chk) := no_word_spells _
theorem Row.creditRefresh (p : Nat) : Row.Statement (.creditRefresh p) := no_word_spells _
theorem Row.e2eAckSend : Row.Statement (.e2eAckSend) := no_word_spells _
theorem Row.e2eAckReceive (bytes : List (BitVec 8)) : Row.Statement (.e2eAckReceive bytes) := no_word_spells _
theorem Row.e2eTimeout (tid : Nat) : Row.Statement (.e2eTimeout tid) := no_word_spells _
theorem Row.keyxReceive (p : Nat) (m : Msg) : Row.Statement (.keyxReceive p m) := no_word_spells _
theorem Row.keyrdyReceive (p : Nat) (w : LinkWord) (chk : BitVec 8) : Row.Statement (.keyrdyReceive p w chk) := no_word_spells _
theorem Row.keyExchangeTimeout (p : Nat) : Row.Statement (.keyExchangeTimeout p) := no_word_spells _
theorem Row.keyExchangeRetry (p : Nat) : Row.Statement (.keyExchangeRetry p) := no_word_spells _
theorem Row.rekeyStart (p : Nat) : Row.Statement (.rekeyStart p) := no_word_spells _
theorem Row.tunOpen (c : HostCmd) (ans : List DevAns) : Row.Statement (.tunOpen c ans) := no_word_spells _
theorem Row.tunClose (c : HostCmd) (ans : List DevAns) : Row.Statement (.tunClose c ans) := no_word_spells _
theorem Row.tunRetarget (c : HostCmd) : Row.Statement (.tunRetarget c) := no_word_spells _
theorem Row.tunGrant (c : HostCmd) : Row.Statement (.tunGrant c) := no_word_spells _
theorem Row.tunRevoke (c : HostCmd) : Row.Statement (.tunRevoke c) := no_word_spells _
theorem Row.tunStats (c : HostCmd) : Row.Statement (.tunStats c) := no_word_spells _
theorem Row.tunnelInstall (fid : Nat) (p : TunPar) (qa qb : Option Seqs) : Row.Statement (.tunnelInstall fid p qa qb) := no_word_spells _
theorem Row.tunnelActivate (fid tid : Nat) (fresh : Bool) : Row.Statement (.tunnelActivate fid tid fresh) := no_word_spells _
theorem Row.tunnelRemove (fid tid : Nat) : Row.Statement (.tunnelRemove fid tid) := no_word_spells _
theorem Row.tunnelQuiesce (fid tid : Nat) : Row.Statement (.tunnelQuiesce fid tid) := no_word_spells _
theorem Row.tunnelCloseMessage (fid tid : Nat) : Row.Statement (.tunnelCloseMessage fid tid) := no_word_spells _
theorem Row.grantSet (fid tid to_ : Nat) : Row.Statement (.grantSet fid tid to_) := no_word_spells _
theorem Row.drainComplete (tid : Nat) (ans : List DevAns) : Row.Statement (.drainComplete tid ans) := no_word_spells _
theorem Row.drainTimeout (tid : Nat) (ans : List DevAns) : Row.Statement (.drainTimeout tid ans) := no_word_spells _
theorem Row.openingTimeout (idx : Nat) : Row.Statement (.openingTimeout idx) := no_word_spells _
theorem Row.mapUpdateReceive (fid : Nat) (m : MapMsg) : Row.Statement (.mapUpdateReceive fid m) := no_word_spells _
theorem Row.mapUpdateRetry (fid seq : Nat) : Row.Statement (.mapUpdateRetry fid seq) := no_word_spells _
theorem Row.reinstallContexts (fid : Nat) (ans : List DevAns) : Row.Statement (.reinstallContexts fid ans) := no_word_spells _
theorem Row.schCommit (c : HostCmd) : Row.Statement (.schCommit c) := no_word_spells _
theorem Row.calendarSlot (p : Nat) : Row.Statement (.calendarSlot p) := no_word_spells _
theorem Row.shaperTick : Row.Statement (.shaperTick) := no_word_spells _
theorem Row.meterTick : Row.Statement (.meterTick) := no_word_spells _
theorem Row.epochBoundary (p : Nat) : Row.Statement (.epochBoundary p) := no_word_spells _
theorem Row.commitSwap (p : Nat) : Row.Statement (.commitSwap p) := no_word_spells _
theorem Row.latencySample (p : Nat) : Row.Statement (.latencySample p) := no_word_spells _
theorem Row.highWaterClear (r : Req) (p : Nat) (v : Word) : Row.Statement (.highWaterClear r p v) := no_word_spells _
theorem Row.pcieTlpReceive (link : Nat) (bytes : List (BitVec 8)) : Row.Statement (.pcieTlpReceive link bytes) := no_word_spells _
theorem Row.completionTimeout (lead req tag : Nat) : Row.Statement (.completionTimeout lead req tag) := no_word_spells _
theorem Row.readaheadExpiry (slot addr : Nat) : Row.Statement (.readaheadExpiry slot addr) := no_word_spells _
theorem Row.sidebandSummarySend (tid : Nat) (pins : SidePins) : Row.Statement (.sidebandSummarySend tid pins) := no_word_spells _
theorem Row.sidebandSummaryReceive (tid : Nat) (bytes : List (BitVec 8)) : Row.Statement (.sidebandSummaryReceive tid bytes) := no_word_spells _
theorem Row.postedErrorNoticeReceive (tid : Nat) (bytes : List (BitVec 8)) : Row.Statement (.postedErrorNoticeReceive tid bytes) := no_word_spells _
theorem Row.virtualPortConfigWrite (k : Nat) (f : CfgField) (v w : Nat) : Row.Statement (.virtualPortConfigWrite k f v w) := no_word_spells _
theorem Row.pcxHotplug (c : HostCmd) (ans : List DevAns) : Row.Statement (.pcxHotplug c ans) := no_word_spells _
theorem Row.hotplugTmoExpiry : Row.Statement (.hotplugTmoExpiry) := no_word_spells _
theorem Row.hotplugLinkWaitExpiry : Row.Statement (.hotplugLinkWaitExpiry) := no_word_spells _
theorem Row.dockPortLinkChange (k : Nat) (up : Bool) (speed width : Nat) : Row.Statement (.dockPortLinkChange k up speed width) := no_word_spells _
theorem Row.dpInputTrain (k : Nat) (up : Bool) (rate lanes : Nat) : Row.Statement (.dpInputTrain k up rate lanes) := no_word_spells _
theorem Row.dpInputModeChange (k : Nat) (m : InMode) : Row.Statement (.dpInputModeChange k m) := no_word_spells _
theorem Row.irqHpdPulse (r : Req) (k : Nat) : Row.Statement (.irqHpdPulse r k) := no_word_spells _
theorem Row.reflectionClear (r : Req) (k : Nat) : Row.Statement (.reflectionClear r k) := no_word_spells _
theorem Row.captureFrameStart (k : Nat) (enc : Bool) (period : Nat) : Row.Statement (.captureFrameStart k enc period) := no_word_spells _
theorem Row.captureBandEnd (k j aud : Nat) (d : Band) : Row.Statement (.captureBandEnd k j aud d) := no_word_spells _
theorem Row.tileAdmission (k : Nat) : Row.Statement (.tileAdmission k) := no_word_spells _
theorem Row.pushRingEnable (k : Nat) (v : Word) : Row.Statement (.pushRingEnable k v) := no_word_spells _
theorem Row.pushDoorbell (k : Nat) (v : Word) : Row.Statement (.pushDoorbell k v) := no_word_spells _
theorem Row.pushDescriptor (k : Nat) (d : PushDesc) : Row.Statement (.pushDescriptor k d) := no_word_spells _
theorem Row.tileFragmentReceive (tid : Nat) (bytes : List (BitVec 8)) (last : Bool) : Row.Statement (.tileFragmentReceive tid bytes last) := no_word_spells _
theorem Row.modeRecord (tid : Nat) (bytes : List (BitVec 8)) : Row.Statement (.modeRecord tid bytes) := no_word_spells _
theorem Row.frameEndRecord (tid : Nat) (bytes : List (BitVec 8)) : Row.Statement (.frameEndRecord tid bytes) := no_word_spells _
theorem Row.metadataRecord (tid : Nat) (bytes : List (BitVec 8)) : Row.Statement (.metadataRecord tid bytes) := no_word_spells _
theorem Row.ppsRecord (tid : Nat) (bytes : List (BitVec 8)) : Row.Statement (.ppsRecord tid bytes) := no_word_spells _
theorem Row.refreshRecord (tid : Nat) (bytes : List (BitVec 8)) : Row.Statement (.refreshRecord tid bytes) := no_word_spells _
theorem Row.sinkRecord (tid : Nat) (bytes : List (BitVec 8)) : Row.Statement (.sinkRecord tid bytes) := no_word_spells _
theorem Row.hdcpRxidRecord (tid : Nat) (bytes : List (BitVec 8)) : Row.Statement (.hdcpRxidRecord tid bytes) := no_word_spells _
theorem Row.frameBoundary (k : Nat) (dry : List (Nat × Nat)) (timing : Option OutTiming) : Row.Statement (.frameBoundary k dry timing) := no_word_spells _
theorem Row.dsoFlip (c : HostCmd) : Row.Statement (.dsoFlip c) := no_word_spells _
theorem Row.outputEnable (r : Req) (k : Nat) (timing : Option OutTiming) : Row.Statement (.outputEnable r k timing) := no_word_spells _
theorem Row.outputRefreshRequest (r : Req) (k : Nat) : Row.Statement (.outputRefreshRequest r k) := no_word_spells _
theorem Row.monitorHotplug (k : Nat) (m : Option Monitor) : Row.Statement (.monitorHotplug k m) := no_word_spells _
theorem Row.linkSyncSend (x : SyncOut) : Row.Statement (.linkSyncSend x) := no_word_spells _
theorem Row.syncMReceive (p : Nat) (x : SyncM) : Row.Statement (.syncMReceive p x) := no_word_spells _
theorem Row.syncSReceive (p : Nat) (x : SyncS) : Row.Statement (.syncSReceive p x) := no_word_spells _
theorem Row.followReceive (p seq us : Nat) (t1 t4 : Int) : Row.Statement (.followReceive p seq us t1 t4) := no_word_spells _
theorem Row.announceSend : Row.Statement (.announceSend) := no_word_spells _
theorem Row.announceReceive (p : Nat) (a : Announce) : Row.Statement (.announceReceive p a) := no_word_spells _
theorem Row.announceTimeout (p : Nat) : Row.Statement (.announceTimeout p) := no_word_spells _
theorem Row.holdoverTimeout : Row.Statement (.holdoverTimeout) := no_word_spells _
theorem Row.externalOffsetWrite (r : Req) (v : Word) : Row.Statement (.externalOffsetWrite r v) := no_word_spells _
theorem Row.ppsInEdge : Row.Statement (.ppsInEdge) := no_word_spells _
theorem Row.sourceLost (pps : Bool) : Row.Statement (.sourceLost pps) := no_word_spells _
theorem Row.timeSet (r : Req) (v : Word) : Row.Statement (.timeSet r v) := no_word_spells _
theorem Row.clockRead (r : Req) : Row.Statement (.clockRead r) := no_word_spells _
theorem Row.ppsOutPulse : Row.Statement (.ppsOutPulse) := no_word_spells _
theorem Row.timArm (c : HostCmd) : Row.Statement (.timArm c) := no_word_spells _
theorem Row.triggerEdge (k : Nat) : Row.Statement (.triggerEdge k) := no_word_spells _
theorem Row.probeStart (r : Req) (v : Word) : Row.Statement (.probeStart r v) := no_word_spells _
theorem Row.probeReceive (tid : Nat) (bytes : List (BitVec 8)) : Row.Statement (.probeReceive tid bytes) := no_word_spells _
theorem Row.probeReplyReceive (tid : Nat) (bytes : List (BitVec 8)) : Row.Statement (.probeReplyReceive tid bytes) := no_word_spells _
theorem Row.ethernetFrameReceive (n : Nat) (bytes : List (BitVec 8)) : Row.Statement (.ethernetFrameReceive n bytes) := no_word_spells _
theorem Row.ethernetFrameTransmit (n : Nat) : Row.Statement (.ethernetFrameTransmit n) := no_word_spells _
theorem Row.ethernetLinkChange (n : Nat) (up : Bool) (speed : Nat) : Row.Statement (.ethernetLinkChange n up speed) := no_word_spells _
theorem Row.glintPop (r : Req) (nic : Bool) (n : Nat) : Row.Statement (.glintPop r nic n) := no_word_spells _
theorem Row.mdioFrameStart (r : Req) (v : Word) : Row.Statement (.mdioFrameStart r v) := no_word_spells _
theorem Row.mdioFrameDone (data : Nat) : Row.Statement (.mdioFrameDone data) := no_word_spells _
theorem Row.nicQueueEnable (f : Nat) (tx : Bool) (q : Nat) (v : Word) : Row.Statement (.nicQueueEnable f tx q v) := no_word_spells _
theorem Row.nicDoorbell (f : Nat) (tx : Bool) (q : Nat) (v : Word) (bufs : List NicBuf) : Row.Statement (.nicDoorbell f tx q v bufs) := no_word_spells _
theorem Row.nicTxDescriptor (f q : Nat) (d : NicTx) : Row.Statement (.nicTxDescriptor f q d) := no_word_spells _
theorem Row.cartSubmit (c : HostCmd) (list : Option (List (BitVec 256))) : Row.Statement (.cartSubmit c list) := no_word_spells _
theorem Row.cartQuery (c : HostCmd) : Row.Statement (.cartQuery c) := no_word_spells _
theorem Row.cartAbort (c : HostCmd) : Row.Statement (.cartAbort c) := no_word_spells _
theorem Row.cartPrepareSend (id : Nat) : Row.Statement (.cartPrepareSend id) := no_word_spells _
theorem Row.cartPrepareReceive (coord id t : Nat) (parts : List Nat) (acts : List CartAct) : Row.Statement (.cartPrepareReceive coord id t parts acts) := no_word_spells _
theorem Row.cartDrainReady (coord id : Nat) : Row.Statement (.cartDrainReady coord id) := no_word_spells _
theorem Row.cartDrainDeadline (coord id : Nat) : Row.Statement (.cartDrainDeadline coord id) := no_word_spells _
theorem Row.cartVoteReceive (src id : Nat) (ready : Bool) (cause actidx sub : Nat) : Row.Statement (.cartVoteReceive src id ready cause actidx sub) := no_word_spells _
theorem Row.cartVoteDeadline (id : Nat) : Row.Statement (.cartVoteDeadline id) := no_word_spells _
theorem Row.cartGoReceive (src coord id t : Nat) : Row.Statement (.cartGoReceive src coord id t) := no_word_spells _
theorem Row.cartAbortReceive (src coord id t : Nat) : Row.Statement (.cartAbortReceive src coord id t) := no_word_spells _
theorem Row.cartCommitTime (coord id : Nat) : Row.Statement (.cartCommitTime coord id) := no_word_spells _
theorem Row.cartDecisionResend (id : Nat) : Row.Statement (.cartDecisionResend id) := no_word_spells _
theorem Row.cartQuerySend (coord id : Nat) : Row.Statement (.cartQuerySend coord id) := no_word_spells _
theorem Row.cartQueryReceive (src coord id t : Nat) : Row.Statement (.cartQueryReceive src coord id t) := no_word_spells _
theorem Row.cartAnswerReceive (src coord id a : Nat) : Row.Statement (.cartAnswerReceive src coord id a) := no_word_spells _
theorem Row.cartSeqsReceive (coord id tid : Nat) (endB : Bool) (rx tx : Nat) : Row.Statement (.cartSeqsReceive coord id tid endB rx tx) := no_word_spells _
theorem Row.cartSeqsResend (coord id : Nat) : Row.Statement (.cartSeqsResend coord id) := no_word_spells _
theorem Row.cartSeqsDeadline (coord id : Nat) : Row.Statement (.cartSeqsDeadline coord id) := no_word_spells _
theorem Row.cartDoneReceive (src id t out late freed : Nat) : Row.Statement (.cartDoneReceive src id t out late freed) := no_word_spells _
theorem Row.cartDoneackReceive (coord id : Nat) : Row.Statement (.cartDoneackReceive coord id) := no_word_spells _
theorem Row.cartCompletionTimeout (id : Nat) : Row.Statement (.cartCompletionTimeout id) := no_word_spells _
theorem Row.cartHoldAlarm (coord id : Nat) : Row.Statement (.cartHoldAlarm coord id) := no_word_spells _
theorem Row.cartSlotRelease (coord id : Nat) : Row.Statement (.cartSlotRelease coord id) := no_word_spells _
theorem Row.neighbourSend (p : Nat) : Row.Statement (.neighbourSend p) := no_word_spells _
theorem Row.neighbourReceive (p : Nat) (n : Neigh) : Row.Statement (.neighbourReceive p n) := no_word_spells _
theorem Row.helloTimeout (p : Nat) : Row.Statement (.helloTimeout p) := no_word_spells _
theorem Row.recordRefresh : Row.Statement (.recordRefresh) := no_word_spells _
theorem Row.recordReceive (p : Nat) (r : Rec) (ans : List DevAns) : Row.Statement (.recordReceive p r ans) := no_word_spells _
theorem Row.recordExpiry (uid : Nat) : Row.Statement (.recordExpiry uid) := no_word_spells _
theorem Row.assignSend (uid : Nat) : Row.Statement (.assignSend uid) := no_word_spells _
theorem Row.assignReceive (p : Nat) (a : Assign) : Row.Statement (.assignReceive p a) := no_word_spells _
theorem Row.autoFidTimeout : Row.Statement (.autoFidTimeout) := no_word_spells _
theorem Row.quarantineTimeout : Row.Statement (.quarantineTimeout) := no_word_spells _
theorem Row.routeCompute : Row.Statement (.routeCompute) := no_word_spells _
theorem Row.routeInstall : Row.Statement (.routeInstall) := no_word_spells _
theorem Row.installWaitDrop : Row.Statement (.installWaitDrop) := no_word_spells _
theorem Row.fabAssign (c : HostCmd) : Row.Statement (.fabAssign c) := no_word_spells _
theorem Row.fabRoute (c : HostCmd) : Row.Statement (.fabRoute c) := no_word_spells _
theorem Row.fabTopo (c : HostCmd) : Row.Statement (.fabTopo c) := no_word_spells _
theorem Row.upstreamSwitch (part : Option Nat) : Row.Statement (.upstreamSwitch part) := no_word_spells _
theorem Row.upstreamSwitchComplete : Row.Statement (.upstreamSwitchComplete) := no_word_spells _
theorem Row.usbBusReset (disc chirp : Bool) (part : Option Nat) : Row.Statement (.usbBusReset disc chirp part) := no_word_spells _
theorem Row.usbSuspend : Row.Statement (.usbSuspend) := no_word_spells _
theorem Row.usbResume (met : Bool) : Row.Statement (.usbResume met) := no_word_spells _
theorem Row.usbRemoteWake : Row.Statement (.usbRemoteWake) := no_word_spells _
theorem Row.usbOverCurrent (k : Nat) (low : Bool) : Row.Statement (.usbOverCurrent k low) := no_word_spells _
theorem Row.hubClassRequest (r : HubReq) : Row.Statement (.hubClassRequest r) := no_word_spells _
theorem Row.ttSplitTransaction (k : Nat) (x : Split) (start : Bool) : Row.Statement (.ttSplitTransaction k x start) := no_word_spells _
theorem Row.yalcelGetInfo : Row.Statement (.yalcelGetInfo) := no_word_spells _
theorem Row.yalcelRegRead (a len : Nat) (done : Bool) : Row.Statement (.yalcelRegRead a len done) := no_word_spells _
theorem Row.yalcelRegWrite (a : Nat) (bytes : List (BitVec 8)) (done : Bool) : Row.Statement (.yalcelRegWrite a bytes done) := no_word_spells _
theorem Row.yalcelPwrReq (v : Nat) (done : Bool) : Row.Statement (.yalcelPwrReq v done) := no_word_spells _
theorem Row.yalcelFwBegin (len rsvd : Nat) (done : Bool) : Row.Statement (.yalcelFwBegin len rsvd done) := no_word_spells _
theorem Row.yalcelImageData (q : ImgPkt) : Row.Statement (.yalcelImageData q) := no_word_spells _
theorem Row.flashSectorDone (ok : Bool) : Row.Statement (.flashSectorDone ok) := no_word_spells _
theorem Row.yalcelFwCommit (done : Bool) : Row.Statement (.yalcelFwCommit done) := no_word_spells _
theorem Row.fwCheckDone (img : Option (List (BitVec 8))) : Row.Statement (.fwCheckDone img) := no_word_spells _
theorem Row.yalcelFwStatus : Row.Statement (.yalcelFwStatus) := no_word_spells _
theorem Row.yalcelReset (v : Nat) (done : Bool) : Row.Statement (.yalcelReset v done) := no_word_spells _
theorem Row.yalcelDlBegin (len : Nat) (done : Bool) : Row.Statement (.yalcelDlBegin len done) := no_word_spells _
theorem Row.yalcelDlGo (done : Bool) : Row.Statement (.yalcelDlGo done) := no_word_spells _
theorem Row.yalcelUnknownRequest (b : Nat) : Row.Statement (.yalcelUnknownRequest b) := no_word_spells _
theorem Row.pdAttach (n : Nat) (src orient ra : Bool) (z sys : Nat) : Row.Statement (.pdAttach n src orient ra z sys) := no_word_spells _
theorem Row.pdDetach (n : Nat) : Row.Statement (.pdDetach n) := no_word_spells _
theorem Row.drpToggle (n : Nat) : Row.Statement (.drpToggle n) := no_word_spells _
theorem Row.pdTableWrite (r : Req) (n : Nat) (src : Bool) (k : Nat) (v : Word) : Row.Statement (.pdTableWrite r n src k v) := no_word_spells _
theorem Row.pdSourceCapsReceive (n : Nat) (k : CapsIn) (caps : List Word) : Row.Statement (.pdSourceCapsReceive n k caps) := no_word_spells _
theorem Row.pdRequestReceive (n pos : Nat) (q : PdReqIn) : Row.Statement (.pdRequestReceive n pos q) := no_word_spells _
theorem Row.pdPsRdyReceive (n : Nat) : Row.Statement (.pdPsRdyReceive n) := no_word_spells _
theorem Row.pdSwapRequestReceive (n kind : Nat) : Row.Statement (.pdSwapRequestReceive n kind) := no_word_spells _
theorem Row.pdEprModeReceive (n action : Nat) : Row.Statement (.pdEprModeReceive n action) := no_word_spells _
theorem Row.pdVdmReceive (n : Nat) (m : PdIn) : Row.Statement (.pdVdmReceive n m) := no_word_spells _
theorem Row.vbusSettled (n vbus sys : Nat) : Row.Statement (.vbusSettled n vbus sys) := no_word_spells _
theorem Row.vbusTransitionTimeout (n : Nat) : Row.Statement (.vbusTransitionTimeout n) := no_word_spells _
theorem Row.vbusProtectionTrip (n : Nat) (x : VbusSense) : Row.Statement (.vbusProtectionTrip n x) := no_word_spells _
theorem Row.ppsRenew (n : Nat) : Row.Statement (.ppsRenew n) := no_word_spells _
theorem Row.hardResetCommand (r : Req) (n : Nat) : Row.Statement (.hardResetCommand r n) := no_word_spells _
theorem Row.pdHardReset (n : Nat) (received : Bool) : Row.Statement (.pdHardReset n received) := no_word_spells _
theorem Row.hardResetVbusOff (n : Nat) : Row.Statement (.hardResetVbusOff n) := no_word_spells _
theorem Row.hardResetVbusRestore (n : Nat) : Row.Statement (.hardResetVbusRestore n) := no_word_spells _
theorem Row.errorRecoveryEnd (n : Nat) : Row.Statement (.errorRecoveryEnd n) := no_word_spells _
theorem Row.pdRelease (r : Req) (n : Nat) : Row.Statement (.pdRelease r n) := no_word_spells _
theorem Row.moistureCheck (n z : Nat) : Row.Statement (.moistureCheck n z) := no_word_spells _
theorem Row.pwrReq (c : HostCmd) : Row.Statement (.pwrReq c) := no_word_spells _
theorem Row.hewerPhaseDone : Row.Statement (.hewerPhaseDone) := no_word_spells _
theorem Row.userHewerWfiTimeout (n : Nat) : Row.Statement (.userHewerWfiTimeout n) := no_word_spells _
theorem Row.handshakeAnswer (busy : Bool) : Row.Statement (.handshakeAnswer busy) := no_word_spells _
theorem Row.handshakeDeferExpiry : Row.Statement (.handshakeDeferExpiry) := no_word_spells _
theorem Row.preparePhaseDone : Row.Statement (.preparePhaseDone) := no_word_spells _
theorem Row.powerStateEntered : Row.Statement (.powerStateEntered) := no_word_spells _
theorem Row.wakeSource (x : WakeIn) : Row.Statement (.wakeSource x) := no_word_spells _
theorem Row.powerExitComplete : Row.Statement (.powerExitComplete) := no_word_spells _
theorem Row.domainWake (dom : Nat) : Row.Statement (.domainWake dom) := no_word_spells _
theorem Row.domainIdleStop (dom : Nat) : Row.Statement (.domainIdleStop dom) := no_word_spells _
theorem Row.corePrestart : Row.Statement (.corePrestart) := no_word_spells _
theorem Row.ftime (n rd sel : Nat) : Row.Statement (.ftime n rd sel) := no_word_spells _
theorem Row.crc32 (n rd : Nat) (acc : Word) (b : BitVec 8) : Row.Statement (.crc32 n rd acc b) := no_word_spells _
theorem Row.ckpt (n rd : Nat) (bytes : List (BitVec 8)) : Row.Statement (.ckpt n rd bytes) := no_word_spells _
theorem Row.jrnl (n code addr : Nat) (e : DutyEffect) : Row.Statement (.jrnl n code addr e) := no_word_spells _
theorem Row.evr (n ev : Nat) (data : List (BitVec 8)) : Row.Statement (.evr n ev data) := no_word_spells _
theorem Row.waitev (n rd : Nat) (mask pend : Word) : Row.Statement (.waitev n rd mask pend) := no_word_spells _
theorem Row.hwmodeWrite (n v : Nat) : Row.Statement (.hwmodeWrite n v) := no_word_spells _
theorem Row.hwkick (n : Nat) : Row.Statement (.hwkick n) := no_word_spells _
theorem Row.mbRecv (n buf cap : Nat) : Row.Statement (.mbRecv n buf cap) := no_word_spells _
theorem Row.mbSend (n buf : Nat) (bytes : List (BitVec 8)) : Row.Statement (.mbSend n buf bytes) := no_word_spells _
theorem Row.evSub (n ev on : Nat) : Row.Statement (.evSub n ev on) := no_word_spells _
theorem Row.evNext (n buf : Nat) : Row.Statement (.evNext n buf) := no_word_spells _
theorem Row.wait (n mask tmo : Nat) : Row.Statement (.wait n mask tmo) := no_word_spells _
theorem Row.hewerRegRead (n a : Nat) : Row.Statement (.hewerRegRead n a) := no_word_spells _
theorem Row.ptpRecv (n buf cap : Nat) : Row.Statement (.ptpRecv n buf cap) := no_word_spells _
theorem Row.ptpSend (n buf mac tsid : Nat) (tsreq : Bool) (bytes : List (BitVec 8)) : Row.Statement (.ptpSend n buf mac tsid tsreq bytes) := no_word_spells _
theorem Row.exit (n : Nat) : Row.Statement (.exit n) := no_word_spells _
theorem Row.userHewerRun (r : Req) (n : Nat) (v : Word) : Row.Statement (.userHewerRun r n v) := no_word_spells _
theorem Row.mailboxSend (r : Req) (n : Nat) (v : Word) : Row.Statement (.mailboxSend r n v) := no_word_spells _
theorem Row.userHewerException (n cause : Nat) : Row.Statement (.userHewerException n cause) := no_word_spells _
theorem Row.hewerWatchdogExpiry (n : Nat) : Row.Statement (.hewerWatchdogExpiry n) := no_word_spells _
theorem Row.hewerFailure (n cause : Nat) : Row.Statement (.hewerFailure n cause) := no_word_spells _
theorem Row.takeoverImageLoaded (d : Nat) (reloaded : Bool) : Row.Statement (.takeoverImageLoaded d reloaded) := no_word_spells _
theorem Row.takeoverCatchupDone (d : Nat) : Row.Statement (.takeoverCatchupDone d) := no_word_spells _
theorem Row.galleryEccError (addr region p place : Nat) : Row.Statement (.galleryEccError addr region p place) := no_word_spells _
theorem Row.dramTemperatureChange (temp : Nat) : Row.Statement (.dramTemperatureChange temp) := no_word_spells _
theorem Row.lifecycleRequest (r : Req) (target : Nat) : Row.Statement (.lifecycleRequest r target) := no_word_spells _
theorem Row.lifecycleBurnDone (cells : Nat) : Row.Statement (.lifecycleBurnDone cells) := no_word_spells _
theorem Row.nonceGenerate (r : Req) : Row.Statement (.nonceGenerate r) := no_word_spells _
theorem Row.keyDerive (r : Req) (args dram : List (BitVec 8)) : Row.Statement (.keyDerive r args dram) := no_word_spells _
theorem Row.keyKeygen (r : Req) (args dram : List (BitVec 8)) : Row.Statement (.keyKeygen r args dram) := no_word_spells _
theorem Row.keyAgree (r : Req) (args dram : List (BitVec 8)) : Row.Statement (.keyAgree r args dram) := no_word_spells _
theorem Row.keySign (r : Req) (args dram : List (BitVec 8)) : Row.Statement (.keySign r args dram) := no_word_spells _
theorem Row.keyPubkey (r : Req) (args dram : List (BitVec 8)) : Row.Statement (.keyPubkey r args dram) := no_word_spells _
theorem Row.keyVerify (r : Req) (args dram : List (BitVec 8)) : Row.Statement (.keyVerify r args dram) := no_word_spells _
theorem Row.keyErase (r : Req) (args dram : List (BitVec 8)) : Row.Statement (.keyErase r args dram) := no_word_spells _
theorem Row.keyAttest (r : Req) (args dram : List (BitVec 8)) : Row.Statement (.keyAttest r args dram) := no_word_spells _
theorem Row.keyUnwrap (r : Req) (args dram : List (BitVec 8)) : Row.Statement (.keyUnwrap r args dram) := no_word_spells _
theorem Row.keyWrap (r : Req) (args dram : List (BitVec 8)) : Row.Statement (.keyWrap r args dram) := no_word_spells _
theorem Row.keyGenroot (r : Req) (args dram : List (BitVec 8)) : Row.Statement (.keyGenroot r args dram) := no_word_spells _
theorem Row.keyProgram (r : Req) (args dram : List (BitVec 8)) : Row.Statement (.keyProgram r args dram) := no_word_spells _
theorem Row.keyAdvance (r : Req) (args dram : List (BitVec 8)) : Row.Statement (.keyAdvance r args dram) := no_word_spells _
theorem Row.keyDbgunlock (r : Req) (args dram : List (BitVec 8)) : Row.Statement (.keyDbgunlock r args dram) := no_word_spells _
theorem Row.keyOperationDone (otpOk : Bool) : Row.Statement (.keyOperationDone otpOk) := no_word_spells _
theorem Row.faultRecoveryComplete (seq : Nat) : Row.Statement (.faultRecoveryComplete seq) := no_word_spells _
theorem Row.warmrstNRelease : Row.Statement (.warmrstNRelease) := no_word_spells _
theorem Row.pcieUpstreamLinkChange (kind speed width : Nat) : Row.Statement (.pcieUpstreamLinkChange kind speed width) := no_word_spells _
theorem Row.lanternMirrorUpdate : Row.Statement (.lanternMirrorUpdate) := no_word_spells _
theorem Row.downstreamPortChange (k kind speed : Nat) : Row.Statement (.downstreamPortChange k kind speed) := no_word_spells _
theorem Row.usbStandardRequest (dev : Nat) (r : UsbReq) (done : Bool) : Row.Statement (.usbStandardRequest dev r done) := no_word_spells _
theorem Row.pdSwapResponseReceive (n ans : Nat) : Row.Statement (.pdSwapResponseReceive n ans) := no_word_spells _
theorem Row.pdSwapRetry (n : Nat) : Row.Statement (.pdSwapRetry n) := no_word_spells _
theorem Row.rekeyOverdue (p : Nat) : Row.Statement (.rekeyOverdue p) := no_word_spells _

end Sys2Proof.Laws
end

