-- ==== Sys2Proof/Laws/State.lean ====
section
/-! SUPPORT. What each update of the state leaves as it was: one lemma per field per update. -/

namespace Sys2Proof.Laws

open Sys2Proof.Machine


/-! ### ksM -/

@[simp] theorem ksM_regs (s : State) (g : KeyStSt → KeyStSt) : (s.ksM g).regs = s.regs := rfl
@[simp] theorem ksM_clock (s : State) (g : KeyStSt → KeyStSt) : (s.ksM g).clock = s.clock := rfl
@[simp] theorem ksM_uptime (s : State) (g : KeyStSt → KeyStSt) : (s.ksM g).uptime = s.uptime := rfl
@[simp] theorem ksM_ctl (s : State) (g : KeyStSt → KeyStSt) : (s.ksM g).ctl = s.ctl := rfl
@[simp] theorem ksM_own (s : State) (g : KeyStSt → KeyStSt) : (s.ksM g).own = s.own := rfl
@[simp] theorem ksM_boot (s : State) (g : KeyStSt → KeyStSt) : (s.ksM g).boot = s.boot := rfl
@[simp] theorem ksM_smb (s : State) (g : KeyStSt → KeyStSt) : (s.ksM g).smb = s.smb := rfl
@[simp] theorem ksM_ports (s : State) (g : KeyStSt → KeyStSt) : (s.ksM g).ports = s.ports := rfl
@[simp] theorem ksM_pcs (s : State) (g : KeyStSt → KeyStSt) : (s.ksM g).pcs = s.pcs := rfl
@[simp] theorem ksM_links (s : State) (g : KeyStSt → KeyStSt) : (s.ksM g).links = s.links := rfl
@[simp] theorem ksM_schs (s : State) (g : KeyStSt → KeyStSt) : (s.ksM g).schs = s.schs := rfl
@[simp] theorem ksM_meters (s : State) (g : KeyStSt → KeyStSt) : (s.ksM g).meters = s.meters := rfl
@[simp] theorem ksM_metStaged (s : State) (g : KeyStSt → KeyStSt) : (s.ksM g).metStaged = s.metStaged := rfl
@[simp] theorem ksM_metHold (s : State) (g : KeyStSt → KeyStSt) : (s.ksM g).metHold = s.metHold := rfl
@[simp] theorem ksM_commits (s : State) (g : KeyStSt → KeyStSt) : (s.ksM g).commits = s.commits := rfl
@[simp] theorem ksM_nextGroup (s : State) (g : KeyStSt → KeyStSt) : (s.ksM g).nextGroup = s.nextGroup := rfl
@[simp] theorem ksM_tun (s : State) (g : KeyStSt → KeyStSt) : (s.ksM g).tun = s.tun := rfl
@[simp] theorem ksM_fab (s : State) (g : KeyStSt → KeyStSt) : (s.ksM g).fab = s.fab := rfl
@[simp] theorem ksM_tim (s : State) (g : KeyStSt → KeyStSt) : (s.ksM g).tim = s.tim := rfl
@[simp] theorem ksM_macs (s : State) (g : KeyStSt → KeyStSt) : (s.ksM g).macs = s.macs := rfl
@[simp] theorem ksM_nics (s : State) (g : KeyStSt → KeyStSt) : (s.ksM g).nics = s.nics := rfl
@[simp] theorem ksM_srcs (s : State) (g : KeyStSt → KeyStSt) : (s.ksM g).srcs = s.srcs := rfl
@[simp] theorem ksM_dispOuts (s : State) (g : KeyStSt → KeyStSt) : (s.ksM g).dispOuts = s.dispOuts := rfl
@[simp] theorem ksM_store (s : State) (g : KeyStSt → KeyStSt) : (s.ksM g).store = s.store := rfl
@[simp] theorem ksM_pcx (s : State) (g : KeyStSt → KeyStSt) : (s.ksM g).pcx = s.pcx := rfl
@[simp] theorem ksM_flt (s : State) (g : KeyStSt → KeyStSt) : (s.ksM g).flt = s.flt := rfl
@[simp] theorem ksM_usb (s : State) (g : KeyStSt → KeyStSt) : (s.ksM g).usb = s.usb := rfl
@[simp] theorem ksM_pds (s : State) (g : KeyStSt → KeyStSt) : (s.ksM g).pds = s.pds := rfl
@[simp] theorem ksM_pwr (s : State) (g : KeyStSt → KeyStSt) : (s.ksM g).pwr = s.pwr := rfl
@[simp] theorem ksM_hew (s : State) (g : KeyStSt → KeyStSt) : (s.ksM g).hew = s.hew := rfl
@[simp] theorem ksM_crt (s : State) (g : KeyStSt → KeyStSt) : (s.ksM g).crt = s.crt := rfl
@[simp] theorem ksM_arb (s : State) (g : KeyStSt → KeyStSt) : (s.ksM g).arb = s.arb := rfl
@[simp] theorem ksM_drift (s : State) (g : KeyStSt → KeyStSt) : (s.ksM g).drift = s.drift := rfl
@[simp] theorem ksM_draws (s : State) (g : KeyStSt → KeyStSt) : (s.ksM g).draws = s.draws := rfl
@[simp] theorem ksM_outs (s : State) (g : KeyStSt → KeyStSt) : (s.ksM g).outs = s.outs := rfl
@[simp] theorem ksM_line (s : State) (g : KeyStSt → KeyStSt) : (s.ksM g).line = s.line := rfl
@[simp] theorem ksM_mail (s : State) (g : KeyStSt → KeyStSt) : (s.ksM g).mail = s.mail := rfl
@[simp] theorem ksM_pending (s : State) (g : KeyStSt → KeyStSt) : (s.ksM g).pending = s.pending := rfl
@[simp] theorem ksM_keys (s : State) (g : KeyStSt → KeyStSt) : (s.ksM g).keys = g s.keys := rfl
@[simp] theorem ksM_rd (s : State) (g : KeyStSt → KeyStSt) (a : Nat) : (s.ksM g).rd a = s.rd a := rfl
@[simp] theorem ksM_get (s : State) (g : KeyStSt → KeyStSt) (f : Fld) : (s.ksM g).get f = s.get f := rfl
@[simp] theorem ksM_bit (s : State) (g : KeyStSt → KeyStSt) (f : Fld) : (s.ksM g).bit f = s.bit f := rfl

/-! ### timM -/

@[simp] theorem timM_regs (s : State) (g : TimSt → TimSt) : (s.timM g).regs = s.regs := rfl
@[simp] theorem timM_clock (s : State) (g : TimSt → TimSt) : (s.timM g).clock = s.clock := rfl
@[simp] theorem timM_uptime (s : State) (g : TimSt → TimSt) : (s.timM g).uptime = s.uptime := rfl
@[simp] theorem timM_ctl (s : State) (g : TimSt → TimSt) : (s.timM g).ctl = s.ctl := rfl
@[simp] theorem timM_own (s : State) (g : TimSt → TimSt) : (s.timM g).own = s.own := rfl
@[simp] theorem timM_boot (s : State) (g : TimSt → TimSt) : (s.timM g).boot = s.boot := rfl
@[simp] theorem timM_smb (s : State) (g : TimSt → TimSt) : (s.timM g).smb = s.smb := rfl
@[simp] theorem timM_ports (s : State) (g : TimSt → TimSt) : (s.timM g).ports = s.ports := rfl
@[simp] theorem timM_pcs (s : State) (g : TimSt → TimSt) : (s.timM g).pcs = s.pcs := rfl
@[simp] theorem timM_links (s : State) (g : TimSt → TimSt) : (s.timM g).links = s.links := rfl
@[simp] theorem timM_schs (s : State) (g : TimSt → TimSt) : (s.timM g).schs = s.schs := rfl
@[simp] theorem timM_meters (s : State) (g : TimSt → TimSt) : (s.timM g).meters = s.meters := rfl
@[simp] theorem timM_metStaged (s : State) (g : TimSt → TimSt) : (s.timM g).metStaged = s.metStaged := rfl
@[simp] theorem timM_metHold (s : State) (g : TimSt → TimSt) : (s.timM g).metHold = s.metHold := rfl
@[simp] theorem timM_commits (s : State) (g : TimSt → TimSt) : (s.timM g).commits = s.commits := rfl
@[simp] theorem timM_nextGroup (s : State) (g : TimSt → TimSt) : (s.timM g).nextGroup = s.nextGroup := rfl
@[simp] theorem timM_tun (s : State) (g : TimSt → TimSt) : (s.timM g).tun = s.tun := rfl
@[simp] theorem timM_fab (s : State) (g : TimSt → TimSt) : (s.timM g).fab = s.fab := rfl
@[simp] theorem timM_macs (s : State) (g : TimSt → TimSt) : (s.timM g).macs = s.macs := rfl
@[simp] theorem timM_nics (s : State) (g : TimSt → TimSt) : (s.timM g).nics = s.nics := rfl
@[simp] theorem timM_srcs (s : State) (g : TimSt → TimSt) : (s.timM g).srcs = s.srcs := rfl
@[simp] theorem timM_dispOuts (s : State) (g : TimSt → TimSt) : (s.timM g).dispOuts = s.dispOuts := rfl
@[simp] theorem timM_store (s : State) (g : TimSt → TimSt) : (s.timM g).store = s.store := rfl
@[simp] theorem timM_pcx (s : State) (g : TimSt → TimSt) : (s.timM g).pcx = s.pcx := rfl
@[simp] theorem timM_flt (s : State) (g : TimSt → TimSt) : (s.timM g).flt = s.flt := rfl
@[simp] theorem timM_keys (s : State) (g : TimSt → TimSt) : (s.timM g).keys = s.keys := rfl
@[simp] theorem timM_usb (s : State) (g : TimSt → TimSt) : (s.timM g).usb = s.usb := rfl
@[simp] theorem timM_pds (s : State) (g : TimSt → TimSt) : (s.timM g).pds = s.pds := rfl
@[simp] theorem timM_pwr (s : State) (g : TimSt → TimSt) : (s.timM g).pwr = s.pwr := rfl
@[simp] theorem timM_hew (s : State) (g : TimSt → TimSt) : (s.timM g).hew = s.hew := rfl
@[simp] theorem timM_crt (s : State) (g : TimSt → TimSt) : (s.timM g).crt = s.crt := rfl
@[simp] theorem timM_arb (s : State) (g : TimSt → TimSt) : (s.timM g).arb = s.arb := rfl
@[simp] theorem timM_drift (s : State) (g : TimSt → TimSt) : (s.timM g).drift = s.drift := rfl
@[simp] theorem timM_draws (s : State) (g : TimSt → TimSt) : (s.timM g).draws = s.draws := rfl
@[simp] theorem timM_outs (s : State) (g : TimSt → TimSt) : (s.timM g).outs = s.outs := rfl
@[simp] theorem timM_line (s : State) (g : TimSt → TimSt) : (s.timM g).line = s.line := rfl
@[simp] theorem timM_mail (s : State) (g : TimSt → TimSt) : (s.timM g).mail = s.mail := rfl
@[simp] theorem timM_pending (s : State) (g : TimSt → TimSt) : (s.timM g).pending = s.pending := rfl
@[simp] theorem timM_tim (s : State) (g : TimSt → TimSt) : (s.timM g).tim = g s.tim := rfl
@[simp] theorem timM_rd (s : State) (g : TimSt → TimSt) (a : Nat) : (s.timM g).rd a = s.rd a := rfl
@[simp] theorem timM_get (s : State) (g : TimSt → TimSt) (f : Fld) : (s.timM g).get f = s.get f := rfl
@[simp] theorem timM_bit (s : State) (g : TimSt → TimSt) (f : Fld) : (s.timM g).bit f = s.bit f := rfl

/-! ### tportM -/

@[simp] theorem tportM_regs (s : State) (p : Nat) (g : TimPort → TimPort) : (s.tportM p g).regs = s.regs := rfl
@[simp] theorem tportM_clock (s : State) (p : Nat) (g : TimPort → TimPort) : (s.tportM p g).clock = s.clock := rfl
@[simp] theorem tportM_uptime (s : State) (p : Nat) (g : TimPort → TimPort) : (s.tportM p g).uptime = s.uptime := rfl
@[simp] theorem tportM_ctl (s : State) (p : Nat) (g : TimPort → TimPort) : (s.tportM p g).ctl = s.ctl := rfl
@[simp] theorem tportM_own (s : State) (p : Nat) (g : TimPort → TimPort) : (s.tportM p g).own = s.own := rfl
@[simp] theorem tportM_boot (s : State) (p : Nat) (g : TimPort → TimPort) : (s.tportM p g).boot = s.boot := rfl
@[simp] theorem tportM_smb (s : State) (p : Nat) (g : TimPort → TimPort) : (s.tportM p g).smb = s.smb := rfl
@[simp] theorem tportM_ports (s : State) (p : Nat) (g : TimPort → TimPort) : (s.tportM p g).ports = s.ports := rfl
@[simp] theorem tportM_pcs (s : State) (p : Nat) (g : TimPort → TimPort) : (s.tportM p g).pcs = s.pcs := rfl
@[simp] theorem tportM_links (s : State) (p : Nat) (g : TimPort → TimPort) : (s.tportM p g).links = s.links := rfl
@[simp] theorem tportM_schs (s : State) (p : Nat) (g : TimPort → TimPort) : (s.tportM p g).schs = s.schs := rfl
@[simp] theorem tportM_meters (s : State) (p : Nat) (g : TimPort → TimPort) : (s.tportM p g).meters = s.meters := rfl
@[simp] theorem tportM_metStaged (s : State) (p : Nat) (g : TimPort → TimPort) : (s.tportM p g).metStaged = s.metStaged := rfl
@[simp] theorem tportM_metHold (s : State) (p : Nat) (g : TimPort → TimPort) : (s.tportM p g).metHold = s.metHold := rfl
@[simp] theorem tportM_commits (s : State) (p : Nat) (g : TimPort → TimPort) : (s.tportM p g).commits = s.commits := rfl
@[simp] theorem tportM_nextGroup (s : State) (p : Nat) (g : TimPort → TimPort) : (s.tportM p g).nextGroup = s.nextGroup := rfl
@[simp] theorem tportM_tun (s : State) (p : Nat) (g : TimPort → TimPort) : (s.tportM p g).tun = s.tun := rfl
@[simp] theorem tportM_fab (s : State) (p : Nat) (g : TimPort → TimPort) : (s.tportM p g).fab = s.fab := rfl
@[simp] theorem tportM_macs (s : State) (p : Nat) (g : TimPort → TimPort) : (s.tportM p g).macs = s.macs := rfl
@[simp] theorem tportM_nics (s : State) (p : Nat) (g : TimPort → TimPort) : (s.tportM p g).nics = s.nics := rfl
@[simp] theorem tportM_srcs (s : State) (p : Nat) (g : TimPort → TimPort) : (s.tportM p g).srcs = s.srcs := rfl
@[simp] theorem tportM_dispOuts (s : State) (p : Nat) (g : TimPort → TimPort) : (s.tportM p g).dispOuts = s.dispOuts := rfl
@[simp] theorem tportM_store (s : State) (p : Nat) (g : TimPort → TimPort) : (s.tportM p g).store = s.store := rfl
@[simp] theorem tportM_pcx (s : State) (p : Nat) (g : TimPort → TimPort) : (s.tportM p g).pcx = s.pcx := rfl
@[simp] theorem tportM_flt (s : State) (p : Nat) (g : TimPort → TimPort) : (s.tportM p g).flt = s.flt := rfl
@[simp] theorem tportM_keys (s : State) (p : Nat) (g : TimPort → TimPort) : (s.tportM p g).keys = s.keys := rfl
@[simp] theorem tportM_usb (s : State) (p : Nat) (g : TimPort → TimPort) : (s.tportM p g).usb = s.usb := rfl
@[simp] theorem tportM_pds (s : State) (p : Nat) (g : TimPort → TimPort) : (s.tportM p g).pds = s.pds := rfl
@[simp] theorem tportM_pwr (s : State) (p : Nat) (g : TimPort → TimPort) : (s.tportM p g).pwr = s.pwr := rfl
@[simp] theorem tportM_hew (s : State) (p : Nat) (g : TimPort → TimPort) : (s.tportM p g).hew = s.hew := rfl
@[simp] theorem tportM_crt (s : State) (p : Nat) (g : TimPort → TimPort) : (s.tportM p g).crt = s.crt := rfl
@[simp] theorem tportM_arb (s : State) (p : Nat) (g : TimPort → TimPort) : (s.tportM p g).arb = s.arb := rfl
@[simp] theorem tportM_drift (s : State) (p : Nat) (g : TimPort → TimPort) : (s.tportM p g).drift = s.drift := rfl
@[simp] theorem tportM_draws (s : State) (p : Nat) (g : TimPort → TimPort) : (s.tportM p g).draws = s.draws := rfl
@[simp] theorem tportM_outs (s : State) (p : Nat) (g : TimPort → TimPort) : (s.tportM p g).outs = s.outs := rfl
@[simp] theorem tportM_line (s : State) (p : Nat) (g : TimPort → TimPort) : (s.tportM p g).line = s.line := rfl
@[simp] theorem tportM_mail (s : State) (p : Nat) (g : TimPort → TimPort) : (s.tportM p g).mail = s.mail := rfl
@[simp] theorem tportM_pending (s : State) (p : Nat) (g : TimPort → TimPort) : (s.tportM p g).pending = s.pending := rfl
@[simp] theorem tportM_rd (s : State) (p : Nat) (g : TimPort → TimPort) (a : Nat) : (s.tportM p g).rd a = s.rd a := rfl
@[simp] theorem tportM_get (s : State) (p : Nat) (g : TimPort → TimPort) (f : Fld) : (s.tportM p g).get f = s.get f := rfl
@[simp] theorem tportM_bit (s : State) (p : Nat) (g : TimPort → TimPort) (f : Fld) : (s.tportM p g).bit f = s.bit f := rfl

/-! ### portM -/

@[simp] theorem portM_regs (s : State) (p : Nat) (g : PortSt → PortSt) : (s.portM p g).regs = s.regs := rfl
@[simp] theorem portM_clock (s : State) (p : Nat) (g : PortSt → PortSt) : (s.portM p g).clock = s.clock := rfl
@[simp] theorem portM_uptime (s : State) (p : Nat) (g : PortSt → PortSt) : (s.portM p g).uptime = s.uptime := rfl
@[simp] theorem portM_ctl (s : State) (p : Nat) (g : PortSt → PortSt) : (s.portM p g).ctl = s.ctl := rfl
@[simp] theorem portM_own (s : State) (p : Nat) (g : PortSt → PortSt) : (s.portM p g).own = s.own := rfl
@[simp] theorem portM_boot (s : State) (p : Nat) (g : PortSt → PortSt) : (s.portM p g).boot = s.boot := rfl
@[simp] theorem portM_smb (s : State) (p : Nat) (g : PortSt → PortSt) : (s.portM p g).smb = s.smb := rfl
@[simp] theorem portM_pcs (s : State) (p : Nat) (g : PortSt → PortSt) : (s.portM p g).pcs = s.pcs := rfl
@[simp] theorem portM_links (s : State) (p : Nat) (g : PortSt → PortSt) : (s.portM p g).links = s.links := rfl
@[simp] theorem portM_schs (s : State) (p : Nat) (g : PortSt → PortSt) : (s.portM p g).schs = s.schs := rfl
@[simp] theorem portM_meters (s : State) (p : Nat) (g : PortSt → PortSt) : (s.portM p g).meters = s.meters := rfl
@[simp] theorem portM_metStaged (s : State) (p : Nat) (g : PortSt → PortSt) : (s.portM p g).metStaged = s.metStaged := rfl
@[simp] theorem portM_metHold (s : State) (p : Nat) (g : PortSt → PortSt) : (s.portM p g).metHold = s.metHold := rfl
@[simp] theorem portM_commits (s : State) (p : Nat) (g : PortSt → PortSt) : (s.portM p g).commits = s.commits := rfl
@[simp] theorem portM_nextGroup (s : State) (p : Nat) (g : PortSt → PortSt) : (s.portM p g).nextGroup = s.nextGroup := rfl
@[simp] theorem portM_tun (s : State) (p : Nat) (g : PortSt → PortSt) : (s.portM p g).tun = s.tun := rfl
@[simp] theorem portM_fab (s : State) (p : Nat) (g : PortSt → PortSt) : (s.portM p g).fab = s.fab := rfl
@[simp] theorem portM_tim (s : State) (p : Nat) (g : PortSt → PortSt) : (s.portM p g).tim = s.tim := rfl
@[simp] theorem portM_macs (s : State) (p : Nat) (g : PortSt → PortSt) : (s.portM p g).macs = s.macs := rfl
@[simp] theorem portM_nics (s : State) (p : Nat) (g : PortSt → PortSt) : (s.portM p g).nics = s.nics := rfl
@[simp] theorem portM_srcs (s : State) (p : Nat) (g : PortSt → PortSt) : (s.portM p g).srcs = s.srcs := rfl
@[simp] theorem portM_dispOuts (s : State) (p : Nat) (g : PortSt → PortSt) : (s.portM p g).dispOuts = s.dispOuts := rfl
@[simp] theorem portM_store (s : State) (p : Nat) (g : PortSt → PortSt) : (s.portM p g).store = s.store := rfl
@[simp] theorem portM_pcx (s : State) (p : Nat) (g : PortSt → PortSt) : (s.portM p g).pcx = s.pcx := rfl
@[simp] theorem portM_flt (s : State) (p : Nat) (g : PortSt → PortSt) : (s.portM p g).flt = s.flt := rfl
@[simp] theorem portM_keys (s : State) (p : Nat) (g : PortSt → PortSt) : (s.portM p g).keys = s.keys := rfl
@[simp] theorem portM_usb (s : State) (p : Nat) (g : PortSt → PortSt) : (s.portM p g).usb = s.usb := rfl
@[simp] theorem portM_pds (s : State) (p : Nat) (g : PortSt → PortSt) : (s.portM p g).pds = s.pds := rfl
@[simp] theorem portM_pwr (s : State) (p : Nat) (g : PortSt → PortSt) : (s.portM p g).pwr = s.pwr := rfl
@[simp] theorem portM_hew (s : State) (p : Nat) (g : PortSt → PortSt) : (s.portM p g).hew = s.hew := rfl
@[simp] theorem portM_crt (s : State) (p : Nat) (g : PortSt → PortSt) : (s.portM p g).crt = s.crt := rfl
@[simp] theorem portM_arb (s : State) (p : Nat) (g : PortSt → PortSt) : (s.portM p g).arb = s.arb := rfl
@[simp] theorem portM_drift (s : State) (p : Nat) (g : PortSt → PortSt) : (s.portM p g).drift = s.drift := rfl
@[simp] theorem portM_draws (s : State) (p : Nat) (g : PortSt → PortSt) : (s.portM p g).draws = s.draws := rfl
@[simp] theorem portM_outs (s : State) (p : Nat) (g : PortSt → PortSt) : (s.portM p g).outs = s.outs := rfl
@[simp] theorem portM_line (s : State) (p : Nat) (g : PortSt → PortSt) : (s.portM p g).line = s.line := rfl
@[simp] theorem portM_mail (s : State) (p : Nat) (g : PortSt → PortSt) : (s.portM p g).mail = s.mail := rfl
@[simp] theorem portM_pending (s : State) (p : Nat) (g : PortSt → PortSt) : (s.portM p g).pending = s.pending := rfl
@[simp] theorem portM_ports (s : State) (p : Nat) (g : PortSt → PortSt) : (s.portM p g).ports = s.ports.modify p g := rfl
@[simp] theorem portM_rd (s : State) (p : Nat) (g : PortSt → PortSt) (a : Nat) : (s.portM p g).rd a = s.rd a := rfl
@[simp] theorem portM_get (s : State) (p : Nat) (g : PortSt → PortSt) (f : Fld) : (s.portM p g).get f = s.get f := rfl
@[simp] theorem portM_bit (s : State) (p : Nat) (g : PortSt → PortSt) (f : Fld) : (s.portM p g).bit f = s.bit f := rfl

/-! ### linkM -/

@[simp] theorem linkM_regs (s : State) (p : Nat) (g : LinkSt → LinkSt) : (s.linkM p g).regs = s.regs := rfl
@[simp] theorem linkM_clock (s : State) (p : Nat) (g : LinkSt → LinkSt) : (s.linkM p g).clock = s.clock := rfl
@[simp] theorem linkM_uptime (s : State) (p : Nat) (g : LinkSt → LinkSt) : (s.linkM p g).uptime = s.uptime := rfl
@[simp] theorem linkM_ctl (s : State) (p : Nat) (g : LinkSt → LinkSt) : (s.linkM p g).ctl = s.ctl := rfl
@[simp] theorem linkM_own (s : State) (p : Nat) (g : LinkSt → LinkSt) : (s.linkM p g).own = s.own := rfl
@[simp] theorem linkM_boot (s : State) (p : Nat) (g : LinkSt → LinkSt) : (s.linkM p g).boot = s.boot := rfl
@[simp] theorem linkM_smb (s : State) (p : Nat) (g : LinkSt → LinkSt) : (s.linkM p g).smb = s.smb := rfl
@[simp] theorem linkM_ports (s : State) (p : Nat) (g : LinkSt → LinkSt) : (s.linkM p g).ports = s.ports := rfl
@[simp] theorem linkM_pcs (s : State) (p : Nat) (g : LinkSt → LinkSt) : (s.linkM p g).pcs = s.pcs := rfl
@[simp] theorem linkM_schs (s : State) (p : Nat) (g : LinkSt → LinkSt) : (s.linkM p g).schs = s.schs := rfl
@[simp] theorem linkM_meters (s : State) (p : Nat) (g : LinkSt → LinkSt) : (s.linkM p g).meters = s.meters := rfl
@[simp] theorem linkM_metStaged (s : State) (p : Nat) (g : LinkSt → LinkSt) : (s.linkM p g).metStaged = s.metStaged := rfl
@[simp] theorem linkM_metHold (s : State) (p : Nat) (g : LinkSt → LinkSt) : (s.linkM p g).metHold = s.metHold := rfl
@[simp] theorem linkM_commits (s : State) (p : Nat) (g : LinkSt → LinkSt) : (s.linkM p g).commits = s.commits := rfl
@[simp] theorem linkM_nextGroup (s : State) (p : Nat) (g : LinkSt → LinkSt) : (s.linkM p g).nextGroup = s.nextGroup := rfl
@[simp] theorem linkM_tun (s : State) (p : Nat) (g : LinkSt → LinkSt) : (s.linkM p g).tun = s.tun := rfl
@[simp] theorem linkM_fab (s : State) (p : Nat) (g : LinkSt → LinkSt) : (s.linkM p g).fab = s.fab := rfl
@[simp] theorem linkM_tim (s : State) (p : Nat) (g : LinkSt → LinkSt) : (s.linkM p g).tim = s.tim := rfl
@[simp] theorem linkM_macs (s : State) (p : Nat) (g : LinkSt → LinkSt) : (s.linkM p g).macs = s.macs := rfl
@[simp] theorem linkM_nics (s : State) (p : Nat) (g : LinkSt → LinkSt) : (s.linkM p g).nics = s.nics := rfl
@[simp] theorem linkM_srcs (s : State) (p : Nat) (g : LinkSt → LinkSt) : (s.linkM p g).srcs = s.srcs := rfl
@[simp] theorem linkM_dispOuts (s : State) (p : Nat) (g : LinkSt → LinkSt) : (s.linkM p g).dispOuts = s.dispOuts := rfl
@[simp] theorem linkM_store (s : State) (p : Nat) (g : LinkSt → LinkSt) : (s.linkM p g).store = s.store := rfl
@[simp] theorem linkM_pcx (s : State) (p : Nat) (g : LinkSt → LinkSt) : (s.linkM p g).pcx = s.pcx := rfl
@[simp] theorem linkM_flt (s : State) (p : Nat) (g : LinkSt → LinkSt) : (s.linkM p g).flt = s.flt := rfl
@[simp] theorem linkM_keys (s : State) (p : Nat) (g : LinkSt → LinkSt) : (s.linkM p g).keys = s.keys := rfl
@[simp] theorem linkM_usb (s : State) (p : Nat) (g : LinkSt → LinkSt) : (s.linkM p g).usb = s.usb := rfl
@[simp] theorem linkM_pds (s : State) (p : Nat) (g : LinkSt → LinkSt) : (s.linkM p g).pds = s.pds := rfl
@[simp] theorem linkM_pwr (s : State) (p : Nat) (g : LinkSt → LinkSt) : (s.linkM p g).pwr = s.pwr := rfl
@[simp] theorem linkM_hew (s : State) (p : Nat) (g : LinkSt → LinkSt) : (s.linkM p g).hew = s.hew := rfl
@[simp] theorem linkM_crt (s : State) (p : Nat) (g : LinkSt → LinkSt) : (s.linkM p g).crt = s.crt := rfl
@[simp] theorem linkM_arb (s : State) (p : Nat) (g : LinkSt → LinkSt) : (s.linkM p g).arb = s.arb := rfl
@[simp] theorem linkM_drift (s : State) (p : Nat) (g : LinkSt → LinkSt) : (s.linkM p g).drift = s.drift := rfl
@[simp] theorem linkM_draws (s : State) (p : Nat) (g : LinkSt → LinkSt) : (s.linkM p g).draws = s.draws := rfl
@[simp] theorem linkM_outs (s : State) (p : Nat) (g : LinkSt → LinkSt) : (s.linkM p g).outs = s.outs := rfl
@[simp] theorem linkM_line (s : State) (p : Nat) (g : LinkSt → LinkSt) : (s.linkM p g).line = s.line := rfl
@[simp] theorem linkM_mail (s : State) (p : Nat) (g : LinkSt → LinkSt) : (s.linkM p g).mail = s.mail := rfl
@[simp] theorem linkM_pending (s : State) (p : Nat) (g : LinkSt → LinkSt) : (s.linkM p g).pending = s.pending := rfl
@[simp] theorem linkM_links (s : State) (p : Nat) (g : LinkSt → LinkSt) : (s.linkM p g).links = s.links.modify p g := rfl
@[simp] theorem linkM_rd (s : State) (p : Nat) (g : LinkSt → LinkSt) (a : Nat) : (s.linkM p g).rd a = s.rd a := rfl
@[simp] theorem linkM_get (s : State) (p : Nat) (g : LinkSt → LinkSt) (f : Fld) : (s.linkM p g).get f = s.get f := rfl
@[simp] theorem linkM_bit (s : State) (p : Nat) (g : LinkSt → LinkSt) (f : Fld) : (s.linkM p g).bit f = s.bit f := rfl

/-! ### schM -/

@[simp] theorem schM_regs (s : State) (p : Nat) (g : SchSt → SchSt) : (s.schM p g).regs = s.regs := rfl
@[simp] theorem schM_clock (s : State) (p : Nat) (g : SchSt → SchSt) : (s.schM p g).clock = s.clock := rfl
@[simp] theorem schM_uptime (s : State) (p : Nat) (g : SchSt → SchSt) : (s.schM p g).uptime = s.uptime := rfl
@[simp] theorem schM_ctl (s : State) (p : Nat) (g : SchSt → SchSt) : (s.schM p g).ctl = s.ctl := rfl
@[simp] theorem schM_own (s : State) (p : Nat) (g : SchSt → SchSt) : (s.schM p g).own = s.own := rfl
@[simp] theorem schM_boot (s : State) (p : Nat) (g : SchSt → SchSt) : (s.schM p g).boot = s.boot := rfl
@[simp] theorem schM_smb (s : State) (p : Nat) (g : SchSt → SchSt) : (s.schM p g).smb = s.smb := rfl
@[simp] theorem schM_ports (s : State) (p : Nat) (g : SchSt → SchSt) : (s.schM p g).ports = s.ports := rfl
@[simp] theorem schM_pcs (s : State) (p : Nat) (g : SchSt → SchSt) : (s.schM p g).pcs = s.pcs := rfl
@[simp] theorem schM_links (s : State) (p : Nat) (g : SchSt → SchSt) : (s.schM p g).links = s.links := rfl
@[simp] theorem schM_meters (s : State) (p : Nat) (g : SchSt → SchSt) : (s.schM p g).meters = s.meters := rfl
@[simp] theorem schM_metStaged (s : State) (p : Nat) (g : SchSt → SchSt) : (s.schM p g).metStaged = s.metStaged := rfl
@[simp] theorem schM_metHold (s : State) (p : Nat) (g : SchSt → SchSt) : (s.schM p g).metHold = s.metHold := rfl
@[simp] theorem schM_commits (s : State) (p : Nat) (g : SchSt → SchSt) : (s.schM p g).commits = s.commits := rfl
@[simp] theorem schM_nextGroup (s : State) (p : Nat) (g : SchSt → SchSt) : (s.schM p g).nextGroup = s.nextGroup := rfl
@[simp] theorem schM_tun (s : State) (p : Nat) (g : SchSt → SchSt) : (s.schM p g).tun = s.tun := rfl
@[simp] theorem schM_fab (s : State) (p : Nat) (g : SchSt → SchSt) : (s.schM p g).fab = s.fab := rfl
@[simp] theorem schM_tim (s : State) (p : Nat) (g : SchSt → SchSt) : (s.schM p g).tim = s.tim := rfl
@[simp] theorem schM_macs (s : State) (p : Nat) (g : SchSt → SchSt) : (s.schM p g).macs = s.macs := rfl
@[simp] theorem schM_nics (s : State) (p : Nat) (g : SchSt → SchSt) : (s.schM p g).nics = s.nics := rfl
@[simp] theorem schM_srcs (s : State) (p : Nat) (g : SchSt → SchSt) : (s.schM p g).srcs = s.srcs := rfl
@[simp] theorem schM_dispOuts (s : State) (p : Nat) (g : SchSt → SchSt) : (s.schM p g).dispOuts = s.dispOuts := rfl
@[simp] theorem schM_store (s : State) (p : Nat) (g : SchSt → SchSt) : (s.schM p g).store = s.store := rfl
@[simp] theorem schM_pcx (s : State) (p : Nat) (g : SchSt → SchSt) : (s.schM p g).pcx = s.pcx := rfl
@[simp] theorem schM_flt (s : State) (p : Nat) (g : SchSt → SchSt) : (s.schM p g).flt = s.flt := rfl
@[simp] theorem schM_keys (s : State) (p : Nat) (g : SchSt → SchSt) : (s.schM p g).keys = s.keys := rfl
@[simp] theorem schM_usb (s : State) (p : Nat) (g : SchSt → SchSt) : (s.schM p g).usb = s.usb := rfl
@[simp] theorem schM_pds (s : State) (p : Nat) (g : SchSt → SchSt) : (s.schM p g).pds = s.pds := rfl
@[simp] theorem schM_pwr (s : State) (p : Nat) (g : SchSt → SchSt) : (s.schM p g).pwr = s.pwr := rfl
@[simp] theorem schM_hew (s : State) (p : Nat) (g : SchSt → SchSt) : (s.schM p g).hew = s.hew := rfl
@[simp] theorem schM_crt (s : State) (p : Nat) (g : SchSt → SchSt) : (s.schM p g).crt = s.crt := rfl
@[simp] theorem schM_arb (s : State) (p : Nat) (g : SchSt → SchSt) : (s.schM p g).arb = s.arb := rfl
@[simp] theorem schM_drift (s : State) (p : Nat) (g : SchSt → SchSt) : (s.schM p g).drift = s.drift := rfl
@[simp] theorem schM_draws (s : State) (p : Nat) (g : SchSt → SchSt) : (s.schM p g).draws = s.draws := rfl
@[simp] theorem schM_outs (s : State) (p : Nat) (g : SchSt → SchSt) : (s.schM p g).outs = s.outs := rfl
@[simp] theorem schM_line (s : State) (p : Nat) (g : SchSt → SchSt) : (s.schM p g).line = s.line := rfl
@[simp] theorem schM_mail (s : State) (p : Nat) (g : SchSt → SchSt) : (s.schM p g).mail = s.mail := rfl
@[simp] theorem schM_pending (s : State) (p : Nat) (g : SchSt → SchSt) : (s.schM p g).pending = s.pending := rfl
@[simp] theorem schM_schs (s : State) (p : Nat) (g : SchSt → SchSt) : (s.schM p g).schs = s.schs.modify p g := rfl
@[simp] theorem schM_rd (s : State) (p : Nat) (g : SchSt → SchSt) (a : Nat) : (s.schM p g).rd a = s.rd a := rfl
@[simp] theorem schM_get (s : State) (p : Nat) (g : SchSt → SchSt) (f : Fld) : (s.schM p g).get f = s.get f := rfl
@[simp] theorem schM_bit (s : State) (p : Nat) (g : SchSt → SchSt) (f : Fld) : (s.schM p g).bit f = s.bit f := rfl

/-! ### keyM -/

@[simp] theorem keyM_regs (s : State) (p : Nat) (g : KeySt → KeySt) : (s.keyM p g).regs = s.regs := rfl
@[simp] theorem keyM_clock (s : State) (p : Nat) (g : KeySt → KeySt) : (s.keyM p g).clock = s.clock := rfl
@[simp] theorem keyM_uptime (s : State) (p : Nat) (g : KeySt → KeySt) : (s.keyM p g).uptime = s.uptime := rfl
@[simp] theorem keyM_ctl (s : State) (p : Nat) (g : KeySt → KeySt) : (s.keyM p g).ctl = s.ctl := rfl
@[simp] theorem keyM_own (s : State) (p : Nat) (g : KeySt → KeySt) : (s.keyM p g).own = s.own := rfl
@[simp] theorem keyM_boot (s : State) (p : Nat) (g : KeySt → KeySt) : (s.keyM p g).boot = s.boot := rfl
@[simp] theorem keyM_smb (s : State) (p : Nat) (g : KeySt → KeySt) : (s.keyM p g).smb = s.smb := rfl
@[simp] theorem keyM_ports (s : State) (p : Nat) (g : KeySt → KeySt) : (s.keyM p g).ports = s.ports := rfl
@[simp] theorem keyM_pcs (s : State) (p : Nat) (g : KeySt → KeySt) : (s.keyM p g).pcs = s.pcs := rfl
@[simp] theorem keyM_schs (s : State) (p : Nat) (g : KeySt → KeySt) : (s.keyM p g).schs = s.schs := rfl
@[simp] theorem keyM_meters (s : State) (p : Nat) (g : KeySt → KeySt) : (s.keyM p g).meters = s.meters := rfl
@[simp] theorem keyM_metStaged (s : State) (p : Nat) (g : KeySt → KeySt) : (s.keyM p g).metStaged = s.metStaged := rfl
@[simp] theorem keyM_metHold (s : State) (p : Nat) (g : KeySt → KeySt) : (s.keyM p g).metHold = s.metHold := rfl
@[simp] theorem keyM_commits (s : State) (p : Nat) (g : KeySt → KeySt) : (s.keyM p g).commits = s.commits := rfl
@[simp] theorem keyM_nextGroup (s : State) (p : Nat) (g : KeySt → KeySt) : (s.keyM p g).nextGroup = s.nextGroup := rfl
@[simp] theorem keyM_tun (s : State) (p : Nat) (g : KeySt → KeySt) : (s.keyM p g).tun = s.tun := rfl
@[simp] theorem keyM_fab (s : State) (p : Nat) (g : KeySt → KeySt) : (s.keyM p g).fab = s.fab := rfl
@[simp] theorem keyM_tim (s : State) (p : Nat) (g : KeySt → KeySt) : (s.keyM p g).tim = s.tim := rfl
@[simp] theorem keyM_macs (s : State) (p : Nat) (g : KeySt → KeySt) : (s.keyM p g).macs = s.macs := rfl
@[simp] theorem keyM_nics (s : State) (p : Nat) (g : KeySt → KeySt) : (s.keyM p g).nics = s.nics := rfl
@[simp] theorem keyM_srcs (s : State) (p : Nat) (g : KeySt → KeySt) : (s.keyM p g).srcs = s.srcs := rfl
@[simp] theorem keyM_dispOuts (s : State) (p : Nat) (g : KeySt → KeySt) : (s.keyM p g).dispOuts = s.dispOuts := rfl
@[simp] theorem keyM_store (s : State) (p : Nat) (g : KeySt → KeySt) : (s.keyM p g).store = s.store := rfl
@[simp] theorem keyM_pcx (s : State) (p : Nat) (g : KeySt → KeySt) : (s.keyM p g).pcx = s.pcx := rfl
@[simp] theorem keyM_flt (s : State) (p : Nat) (g : KeySt → KeySt) : (s.keyM p g).flt = s.flt := rfl
@[simp] theorem keyM_keys (s : State) (p : Nat) (g : KeySt → KeySt) : (s.keyM p g).keys = s.keys := rfl
@[simp] theorem keyM_usb (s : State) (p : Nat) (g : KeySt → KeySt) : (s.keyM p g).usb = s.usb := rfl
@[simp] theorem keyM_pds (s : State) (p : Nat) (g : KeySt → KeySt) : (s.keyM p g).pds = s.pds := rfl
@[simp] theorem keyM_pwr (s : State) (p : Nat) (g : KeySt → KeySt) : (s.keyM p g).pwr = s.pwr := rfl
@[simp] theorem keyM_hew (s : State) (p : Nat) (g : KeySt → KeySt) : (s.keyM p g).hew = s.hew := rfl
@[simp] theorem keyM_crt (s : State) (p : Nat) (g : KeySt → KeySt) : (s.keyM p g).crt = s.crt := rfl
@[simp] theorem keyM_arb (s : State) (p : Nat) (g : KeySt → KeySt) : (s.keyM p g).arb = s.arb := rfl
@[simp] theorem keyM_drift (s : State) (p : Nat) (g : KeySt → KeySt) : (s.keyM p g).drift = s.drift := rfl
@[simp] theorem keyM_draws (s : State) (p : Nat) (g : KeySt → KeySt) : (s.keyM p g).draws = s.draws := rfl
@[simp] theorem keyM_outs (s : State) (p : Nat) (g : KeySt → KeySt) : (s.keyM p g).outs = s.outs := rfl
@[simp] theorem keyM_line (s : State) (p : Nat) (g : KeySt → KeySt) : (s.keyM p g).line = s.line := rfl
@[simp] theorem keyM_mail (s : State) (p : Nat) (g : KeySt → KeySt) : (s.keyM p g).mail = s.mail := rfl
@[simp] theorem keyM_pending (s : State) (p : Nat) (g : KeySt → KeySt) : (s.keyM p g).pending = s.pending := rfl
@[simp] theorem keyM_rd (s : State) (p : Nat) (g : KeySt → KeySt) (a : Nat) : (s.keyM p g).rd a = s.rd a := rfl
@[simp] theorem keyM_get (s : State) (p : Nat) (g : KeySt → KeySt) (f : Fld) : (s.keyM p g).get f = s.get f := rfl
@[simp] theorem keyM_bit (s : State) (p : Nat) (g : KeySt → KeySt) (f : Fld) : (s.keyM p g).bit f = s.bit f := rfl

/-! ### tunM -/

@[simp] theorem tunM_regs (s : State) (g : TunSt → TunSt) : (s.tunM g).regs = s.regs := rfl
@[simp] theorem tunM_clock (s : State) (g : TunSt → TunSt) : (s.tunM g).clock = s.clock := rfl
@[simp] theorem tunM_uptime (s : State) (g : TunSt → TunSt) : (s.tunM g).uptime = s.uptime := rfl
@[simp] theorem tunM_ctl (s : State) (g : TunSt → TunSt) : (s.tunM g).ctl = s.ctl := rfl
@[simp] theorem tunM_own (s : State) (g : TunSt → TunSt) : (s.tunM g).own = s.own := rfl
@[simp] theorem tunM_boot (s : State) (g : TunSt → TunSt) : (s.tunM g).boot = s.boot := rfl
@[simp] theorem tunM_smb (s : State) (g : TunSt → TunSt) : (s.tunM g).smb = s.smb := rfl
@[simp] theorem tunM_ports (s : State) (g : TunSt → TunSt) : (s.tunM g).ports = s.ports := rfl
@[simp] theorem tunM_pcs (s : State) (g : TunSt → TunSt) : (s.tunM g).pcs = s.pcs := rfl
@[simp] theorem tunM_links (s : State) (g : TunSt → TunSt) : (s.tunM g).links = s.links := rfl
@[simp] theorem tunM_schs (s : State) (g : TunSt → TunSt) : (s.tunM g).schs = s.schs := rfl
@[simp] theorem tunM_meters (s : State) (g : TunSt → TunSt) : (s.tunM g).meters = s.meters := rfl
@[simp] theorem tunM_metStaged (s : State) (g : TunSt → TunSt) : (s.tunM g).metStaged = s.metStaged := rfl
@[simp] theorem tunM_metHold (s : State) (g : TunSt → TunSt) : (s.tunM g).metHold = s.metHold := rfl
@[simp] theorem tunM_commits (s : State) (g : TunSt → TunSt) : (s.tunM g).commits = s.commits := rfl
@[simp] theorem tunM_nextGroup (s : State) (g : TunSt → TunSt) : (s.tunM g).nextGroup = s.nextGroup := rfl
@[simp] theorem tunM_fab (s : State) (g : TunSt → TunSt) : (s.tunM g).fab = s.fab := rfl
@[simp] theorem tunM_tim (s : State) (g : TunSt → TunSt) : (s.tunM g).tim = s.tim := rfl
@[simp] theorem tunM_macs (s : State) (g : TunSt → TunSt) : (s.tunM g).macs = s.macs := rfl
@[simp] theorem tunM_nics (s : State) (g : TunSt → TunSt) : (s.tunM g).nics = s.nics := rfl
@[simp] theorem tunM_srcs (s : State) (g : TunSt → TunSt) : (s.tunM g).srcs = s.srcs := rfl
@[simp] theorem tunM_dispOuts (s : State) (g : TunSt → TunSt) : (s.tunM g).dispOuts = s.dispOuts := rfl
@[simp] theorem tunM_store (s : State) (g : TunSt → TunSt) : (s.tunM g).store = s.store := rfl
@[simp] theorem tunM_pcx (s : State) (g : TunSt → TunSt) : (s.tunM g).pcx = s.pcx := rfl
@[simp] theorem tunM_flt (s : State) (g : TunSt → TunSt) : (s.tunM g).flt = s.flt := rfl
@[simp] theorem tunM_keys (s : State) (g : TunSt → TunSt) : (s.tunM g).keys = s.keys := rfl
@[simp] theorem tunM_usb (s : State) (g : TunSt → TunSt) : (s.tunM g).usb = s.usb := rfl
@[simp] theorem tunM_pds (s : State) (g : TunSt → TunSt) : (s.tunM g).pds = s.pds := rfl
@[simp] theorem tunM_pwr (s : State) (g : TunSt → TunSt) : (s.tunM g).pwr = s.pwr := rfl
@[simp] theorem tunM_hew (s : State) (g : TunSt → TunSt) : (s.tunM g).hew = s.hew := rfl
@[simp] theorem tunM_crt (s : State) (g : TunSt → TunSt) : (s.tunM g).crt = s.crt := rfl
@[simp] theorem tunM_arb (s : State) (g : TunSt → TunSt) : (s.tunM g).arb = s.arb := rfl
@[simp] theorem tunM_drift (s : State) (g : TunSt → TunSt) : (s.tunM g).drift = s.drift := rfl
@[simp] theorem tunM_draws (s : State) (g : TunSt → TunSt) : (s.tunM g).draws = s.draws := rfl
@[simp] theorem tunM_outs (s : State) (g : TunSt → TunSt) : (s.tunM g).outs = s.outs := rfl
@[simp] theorem tunM_line (s : State) (g : TunSt → TunSt) : (s.tunM g).line = s.line := rfl
@[simp] theorem tunM_mail (s : State) (g : TunSt → TunSt) : (s.tunM g).mail = s.mail := rfl
@[simp] theorem tunM_pending (s : State) (g : TunSt → TunSt) : (s.tunM g).pending = s.pending := rfl
@[simp] theorem tunM_tun (s : State) (g : TunSt → TunSt) : (s.tunM g).tun = g s.tun := rfl
@[simp] theorem tunM_rd (s : State) (g : TunSt → TunSt) (a : Nat) : (s.tunM g).rd a = s.rd a := rfl
@[simp] theorem tunM_get (s : State) (g : TunSt → TunSt) (f : Fld) : (s.tunM g).get f = s.get f := rfl
@[simp] theorem tunM_bit (s : State) (g : TunSt → TunSt) (f : Fld) : (s.tunM g).bit f = s.bit f := rfl

/-! ### fabM -/

@[simp] theorem fabM_regs (s : State) (g : FabSt → FabSt) : (s.fabM g).regs = s.regs := rfl
@[simp] theorem fabM_clock (s : State) (g : FabSt → FabSt) : (s.fabM g).clock = s.clock := rfl
@[simp] theorem fabM_uptime (s : State) (g : FabSt → FabSt) : (s.fabM g).uptime = s.uptime := rfl
@[simp] theorem fabM_ctl (s : State) (g : FabSt → FabSt) : (s.fabM g).ctl = s.ctl := rfl
@[simp] theorem fabM_own (s : State) (g : FabSt → FabSt) : (s.fabM g).own = s.own := rfl
@[simp] theorem fabM_boot (s : State) (g : FabSt → FabSt) : (s.fabM g).boot = s.boot := rfl
@[simp] theorem fabM_smb (s : State) (g : FabSt → FabSt) : (s.fabM g).smb = s.smb := rfl
@[simp] theorem fabM_ports (s : State) (g : FabSt → FabSt) : (s.fabM g).ports = s.ports := rfl
@[simp] theorem fabM_pcs (s : State) (g : FabSt → FabSt) : (s.fabM g).pcs = s.pcs := rfl
@[simp] theorem fabM_links (s : State) (g : FabSt → FabSt) : (s.fabM g).links = s.links := rfl
@[simp] theorem fabM_schs (s : State) (g : FabSt → FabSt) : (s.fabM g).schs = s.schs := rfl
@[simp] theorem fabM_meters (s : State) (g : FabSt → FabSt) : (s.fabM g).meters = s.meters := rfl
@[simp] theorem fabM_metStaged (s : State) (g : FabSt → FabSt) : (s.fabM g).metStaged = s.metStaged := rfl
@[simp] theorem fabM_metHold (s : State) (g : FabSt → FabSt) : (s.fabM g).metHold = s.metHold := rfl
@[simp] theorem fabM_commits (s : State) (g : FabSt → FabSt) : (s.fabM g).commits = s.commits := rfl
@[simp] theorem fabM_nextGroup (s : State) (g : FabSt → FabSt) : (s.fabM g).nextGroup = s.nextGroup := rfl
@[simp] theorem fabM_tun (s : State) (g : FabSt → FabSt) : (s.fabM g).tun = s.tun := rfl
@[simp] theorem fabM_tim (s : State) (g : FabSt → FabSt) : (s.fabM g).tim = s.tim := rfl
@[simp] theorem fabM_macs (s : State) (g : FabSt → FabSt) : (s.fabM g).macs = s.macs := rfl
@[simp] theorem fabM_nics (s : State) (g : FabSt → FabSt) : (s.fabM g).nics = s.nics := rfl
@[simp] theorem fabM_srcs (s : State) (g : FabSt → FabSt) : (s.fabM g).srcs = s.srcs := rfl
@[simp] theorem fabM_dispOuts (s : State) (g : FabSt → FabSt) : (s.fabM g).dispOuts = s.dispOuts := rfl
@[simp] theorem fabM_store (s : State) (g : FabSt → FabSt) : (s.fabM g).store = s.store := rfl
@[simp] theorem fabM_pcx (s : State) (g : FabSt → FabSt) : (s.fabM g).pcx = s.pcx := rfl
@[simp] theorem fabM_flt (s : State) (g : FabSt → FabSt) : (s.fabM g).flt = s.flt := rfl
@[simp] theorem fabM_keys (s : State) (g : FabSt → FabSt) : (s.fabM g).keys = s.keys := rfl
@[simp] theorem fabM_usb (s : State) (g : FabSt → FabSt) : (s.fabM g).usb = s.usb := rfl
@[simp] theorem fabM_pds (s : State) (g : FabSt → FabSt) : (s.fabM g).pds = s.pds := rfl
@[simp] theorem fabM_pwr (s : State) (g : FabSt → FabSt) : (s.fabM g).pwr = s.pwr := rfl
@[simp] theorem fabM_hew (s : State) (g : FabSt → FabSt) : (s.fabM g).hew = s.hew := rfl
@[simp] theorem fabM_crt (s : State) (g : FabSt → FabSt) : (s.fabM g).crt = s.crt := rfl
@[simp] theorem fabM_arb (s : State) (g : FabSt → FabSt) : (s.fabM g).arb = s.arb := rfl
@[simp] theorem fabM_drift (s : State) (g : FabSt → FabSt) : (s.fabM g).drift = s.drift := rfl
@[simp] theorem fabM_draws (s : State) (g : FabSt → FabSt) : (s.fabM g).draws = s.draws := rfl
@[simp] theorem fabM_outs (s : State) (g : FabSt → FabSt) : (s.fabM g).outs = s.outs := rfl
@[simp] theorem fabM_line (s : State) (g : FabSt → FabSt) : (s.fabM g).line = s.line := rfl
@[simp] theorem fabM_mail (s : State) (g : FabSt → FabSt) : (s.fabM g).mail = s.mail := rfl
@[simp] theorem fabM_pending (s : State) (g : FabSt → FabSt) : (s.fabM g).pending = s.pending := rfl
@[simp] theorem fabM_fab (s : State) (g : FabSt → FabSt) : (s.fabM g).fab = g s.fab := rfl
@[simp] theorem fabM_rd (s : State) (g : FabSt → FabSt) (a : Nat) : (s.fabM g).rd a = s.rd a := rfl
@[simp] theorem fabM_get (s : State) (g : FabSt → FabSt) (f : Fld) : (s.fabM g).get f = s.get f := rfl
@[simp] theorem fabM_bit (s : State) (g : FabSt → FabSt) (f : Fld) : (s.fabM g).bit f = s.bit f := rfl

/-! ### ctxM -/

@[simp] theorem ctxM_regs (s : State) (idx : Nat) (g : TunCtx → TunCtx) : (s.ctxM idx g).regs = s.regs := rfl
@[simp] theorem ctxM_clock (s : State) (idx : Nat) (g : TunCtx → TunCtx) : (s.ctxM idx g).clock = s.clock := rfl
@[simp] theorem ctxM_uptime (s : State) (idx : Nat) (g : TunCtx → TunCtx) : (s.ctxM idx g).uptime = s.uptime := rfl
@[simp] theorem ctxM_ctl (s : State) (idx : Nat) (g : TunCtx → TunCtx) : (s.ctxM idx g).ctl = s.ctl := rfl
@[simp] theorem ctxM_own (s : State) (idx : Nat) (g : TunCtx → TunCtx) : (s.ctxM idx g).own = s.own := rfl
@[simp] theorem ctxM_boot (s : State) (idx : Nat) (g : TunCtx → TunCtx) : (s.ctxM idx g).boot = s.boot := rfl
@[simp] theorem ctxM_smb (s : State) (idx : Nat) (g : TunCtx → TunCtx) : (s.ctxM idx g).smb = s.smb := rfl
@[simp] theorem ctxM_ports (s : State) (idx : Nat) (g : TunCtx → TunCtx) : (s.ctxM idx g).ports = s.ports := rfl
@[simp] theorem ctxM_pcs (s : State) (idx : Nat) (g : TunCtx → TunCtx) : (s.ctxM idx g).pcs = s.pcs := rfl
@[simp] theorem ctxM_links (s : State) (idx : Nat) (g : TunCtx → TunCtx) : (s.ctxM idx g).links = s.links := rfl
@[simp] theorem ctxM_schs (s : State) (idx : Nat) (g : TunCtx → TunCtx) : (s.ctxM idx g).schs = s.schs := rfl
@[simp] theorem ctxM_meters (s : State) (idx : Nat) (g : TunCtx → TunCtx) : (s.ctxM idx g).meters = s.meters := rfl
@[simp] theorem ctxM_metStaged (s : State) (idx : Nat) (g : TunCtx → TunCtx) : (s.ctxM idx g).metStaged = s.metStaged := rfl
@[simp] theorem ctxM_metHold (s : State) (idx : Nat) (g : TunCtx → TunCtx) : (s.ctxM idx g).metHold = s.metHold := rfl
@[simp] theorem ctxM_commits (s : State) (idx : Nat) (g : TunCtx → TunCtx) : (s.ctxM idx g).commits = s.commits := rfl
@[simp] theorem ctxM_nextGroup (s : State) (idx : Nat) (g : TunCtx → TunCtx) : (s.ctxM idx g).nextGroup = s.nextGroup := rfl
@[simp] theorem ctxM_fab (s : State) (idx : Nat) (g : TunCtx → TunCtx) : (s.ctxM idx g).fab = s.fab := rfl
@[simp] theorem ctxM_tim (s : State) (idx : Nat) (g : TunCtx → TunCtx) : (s.ctxM idx g).tim = s.tim := rfl
@[simp] theorem ctxM_macs (s : State) (idx : Nat) (g : TunCtx → TunCtx) : (s.ctxM idx g).macs = s.macs := rfl
@[simp] theorem ctxM_nics (s : State) (idx : Nat) (g : TunCtx → TunCtx) : (s.ctxM idx g).nics = s.nics := rfl
@[simp] theorem ctxM_srcs (s : State) (idx : Nat) (g : TunCtx → TunCtx) : (s.ctxM idx g).srcs = s.srcs := rfl
@[simp] theorem ctxM_dispOuts (s : State) (idx : Nat) (g : TunCtx → TunCtx) : (s.ctxM idx g).dispOuts = s.dispOuts := rfl
@[simp] theorem ctxM_store (s : State) (idx : Nat) (g : TunCtx → TunCtx) : (s.ctxM idx g).store = s.store := rfl
@[simp] theorem ctxM_pcx (s : State) (idx : Nat) (g : TunCtx → TunCtx) : (s.ctxM idx g).pcx = s.pcx := rfl
@[simp] theorem ctxM_flt (s : State) (idx : Nat) (g : TunCtx → TunCtx) : (s.ctxM idx g).flt = s.flt := rfl
@[simp] theorem ctxM_keys (s : State) (idx : Nat) (g : TunCtx → TunCtx) : (s.ctxM idx g).keys = s.keys := rfl
@[simp] theorem ctxM_usb (s : State) (idx : Nat) (g : TunCtx → TunCtx) : (s.ctxM idx g).usb = s.usb := rfl
@[simp] theorem ctxM_pds (s : State) (idx : Nat) (g : TunCtx → TunCtx) : (s.ctxM idx g).pds = s.pds := rfl
@[simp] theorem ctxM_pwr (s : State) (idx : Nat) (g : TunCtx → TunCtx) : (s.ctxM idx g).pwr = s.pwr := rfl
@[simp] theorem ctxM_hew (s : State) (idx : Nat) (g : TunCtx → TunCtx) : (s.ctxM idx g).hew = s.hew := rfl
@[simp] theorem ctxM_crt (s : State) (idx : Nat) (g : TunCtx → TunCtx) : (s.ctxM idx g).crt = s.crt := rfl
@[simp] theorem ctxM_arb (s : State) (idx : Nat) (g : TunCtx → TunCtx) : (s.ctxM idx g).arb = s.arb := rfl
@[simp] theorem ctxM_drift (s : State) (idx : Nat) (g : TunCtx → TunCtx) : (s.ctxM idx g).drift = s.drift := rfl
@[simp] theorem ctxM_draws (s : State) (idx : Nat) (g : TunCtx → TunCtx) : (s.ctxM idx g).draws = s.draws := rfl
@[simp] theorem ctxM_outs (s : State) (idx : Nat) (g : TunCtx → TunCtx) : (s.ctxM idx g).outs = s.outs := rfl
@[simp] theorem ctxM_line (s : State) (idx : Nat) (g : TunCtx → TunCtx) : (s.ctxM idx g).line = s.line := rfl
@[simp] theorem ctxM_mail (s : State) (idx : Nat) (g : TunCtx → TunCtx) : (s.ctxM idx g).mail = s.mail := rfl
@[simp] theorem ctxM_pending (s : State) (idx : Nat) (g : TunCtx → TunCtx) : (s.ctxM idx g).pending = s.pending := rfl
@[simp] theorem ctxM_rd (s : State) (idx : Nat) (g : TunCtx → TunCtx) (a : Nat) : (s.ctxM idx g).rd a = s.rd a := rfl
@[simp] theorem ctxM_get (s : State) (idx : Nat) (g : TunCtx → TunCtx) (f : Fld) : (s.ctxM idx g).get f = s.get f := rfl
@[simp] theorem ctxM_bit (s : State) (idx : Nat) (g : TunCtx → TunCtx) (f : Fld) : (s.ctxM idx g).bit f = s.bit f := rfl

/-! ### pdM -/

@[simp] theorem pdM_regs (s : State) (n : Nat) (g : PdSt → PdSt) : (s.pdM n g).regs = s.regs := rfl
@[simp] theorem pdM_clock (s : State) (n : Nat) (g : PdSt → PdSt) : (s.pdM n g).clock = s.clock := rfl
@[simp] theorem pdM_uptime (s : State) (n : Nat) (g : PdSt → PdSt) : (s.pdM n g).uptime = s.uptime := rfl
@[simp] theorem pdM_ctl (s : State) (n : Nat) (g : PdSt → PdSt) : (s.pdM n g).ctl = s.ctl := rfl
@[simp] theorem pdM_own (s : State) (n : Nat) (g : PdSt → PdSt) : (s.pdM n g).own = s.own := rfl
@[simp] theorem pdM_boot (s : State) (n : Nat) (g : PdSt → PdSt) : (s.pdM n g).boot = s.boot := rfl
@[simp] theorem pdM_smb (s : State) (n : Nat) (g : PdSt → PdSt) : (s.pdM n g).smb = s.smb := rfl
@[simp] theorem pdM_ports (s : State) (n : Nat) (g : PdSt → PdSt) : (s.pdM n g).ports = s.ports := rfl
@[simp] theorem pdM_pcs (s : State) (n : Nat) (g : PdSt → PdSt) : (s.pdM n g).pcs = s.pcs := rfl
@[simp] theorem pdM_links (s : State) (n : Nat) (g : PdSt → PdSt) : (s.pdM n g).links = s.links := rfl
@[simp] theorem pdM_schs (s : State) (n : Nat) (g : PdSt → PdSt) : (s.pdM n g).schs = s.schs := rfl
@[simp] theorem pdM_meters (s : State) (n : Nat) (g : PdSt → PdSt) : (s.pdM n g).meters = s.meters := rfl
@[simp] theorem pdM_metStaged (s : State) (n : Nat) (g : PdSt → PdSt) : (s.pdM n g).metStaged = s.metStaged := rfl
@[simp] theorem pdM_metHold (s : State) (n : Nat) (g : PdSt → PdSt) : (s.pdM n g).metHold = s.metHold := rfl
@[simp] theorem pdM_commits (s : State) (n : Nat) (g : PdSt → PdSt) : (s.pdM n g).commits = s.commits := rfl
@[simp] theorem pdM_nextGroup (s : State) (n : Nat) (g : PdSt → PdSt) : (s.pdM n g).nextGroup = s.nextGroup := rfl
@[simp] theorem pdM_tun (s : State) (n : Nat) (g : PdSt → PdSt) : (s.pdM n g).tun = s.tun := rfl
@[simp] theorem pdM_fab (s : State) (n : Nat) (g : PdSt → PdSt) : (s.pdM n g).fab = s.fab := rfl
@[simp] theorem pdM_tim (s : State) (n : Nat) (g : PdSt → PdSt) : (s.pdM n g).tim = s.tim := rfl
@[simp] theorem pdM_macs (s : State) (n : Nat) (g : PdSt → PdSt) : (s.pdM n g).macs = s.macs := rfl
@[simp] theorem pdM_nics (s : State) (n : Nat) (g : PdSt → PdSt) : (s.pdM n g).nics = s.nics := rfl
@[simp] theorem pdM_srcs (s : State) (n : Nat) (g : PdSt → PdSt) : (s.pdM n g).srcs = s.srcs := rfl
@[simp] theorem pdM_dispOuts (s : State) (n : Nat) (g : PdSt → PdSt) : (s.pdM n g).dispOuts = s.dispOuts := rfl
@[simp] theorem pdM_store (s : State) (n : Nat) (g : PdSt → PdSt) : (s.pdM n g).store = s.store := rfl
@[simp] theorem pdM_pcx (s : State) (n : Nat) (g : PdSt → PdSt) : (s.pdM n g).pcx = s.pcx := rfl
@[simp] theorem pdM_flt (s : State) (n : Nat) (g : PdSt → PdSt) : (s.pdM n g).flt = s.flt := rfl
@[simp] theorem pdM_keys (s : State) (n : Nat) (g : PdSt → PdSt) : (s.pdM n g).keys = s.keys := rfl
@[simp] theorem pdM_usb (s : State) (n : Nat) (g : PdSt → PdSt) : (s.pdM n g).usb = s.usb := rfl
@[simp] theorem pdM_pwr (s : State) (n : Nat) (g : PdSt → PdSt) : (s.pdM n g).pwr = s.pwr := rfl
@[simp] theorem pdM_hew (s : State) (n : Nat) (g : PdSt → PdSt) : (s.pdM n g).hew = s.hew := rfl
@[simp] theorem pdM_crt (s : State) (n : Nat) (g : PdSt → PdSt) : (s.pdM n g).crt = s.crt := rfl
@[simp] theorem pdM_arb (s : State) (n : Nat) (g : PdSt → PdSt) : (s.pdM n g).arb = s.arb := rfl
@[simp] theorem pdM_drift (s : State) (n : Nat) (g : PdSt → PdSt) : (s.pdM n g).drift = s.drift := rfl
@[simp] theorem pdM_draws (s : State) (n : Nat) (g : PdSt → PdSt) : (s.pdM n g).draws = s.draws := rfl
@[simp] theorem pdM_outs (s : State) (n : Nat) (g : PdSt → PdSt) : (s.pdM n g).outs = s.outs := rfl
@[simp] theorem pdM_line (s : State) (n : Nat) (g : PdSt → PdSt) : (s.pdM n g).line = s.line := rfl
@[simp] theorem pdM_mail (s : State) (n : Nat) (g : PdSt → PdSt) : (s.pdM n g).mail = s.mail := rfl
@[simp] theorem pdM_pending (s : State) (n : Nat) (g : PdSt → PdSt) : (s.pdM n g).pending = s.pending := rfl
@[simp] theorem pdM_pds (s : State) (n : Nat) (g : PdSt → PdSt) : (s.pdM n g).pds = s.pds.modify n g := rfl
@[simp] theorem pdM_rd (s : State) (n : Nat) (g : PdSt → PdSt) (a : Nat) : (s.pdM n g).rd a = s.rd a := rfl
@[simp] theorem pdM_get (s : State) (n : Nat) (g : PdSt → PdSt) (f : Fld) : (s.pdM n g).get f = s.get f := rfl
@[simp] theorem pdM_bit (s : State) (n : Nat) (g : PdSt → PdSt) (f : Fld) : (s.pdM n g).bit f = s.bit f := rfl

/-! ### pcxM -/

@[simp] theorem pcxM_regs (s : State) (g : PcxSt → PcxSt) : (s.pcxM g).regs = s.regs := rfl
@[simp] theorem pcxM_clock (s : State) (g : PcxSt → PcxSt) : (s.pcxM g).clock = s.clock := rfl
@[simp] theorem pcxM_uptime (s : State) (g : PcxSt → PcxSt) : (s.pcxM g).uptime = s.uptime := rfl
@[simp] theorem pcxM_ctl (s : State) (g : PcxSt → PcxSt) : (s.pcxM g).ctl = s.ctl := rfl
@[simp] theorem pcxM_own (s : State) (g : PcxSt → PcxSt) : (s.pcxM g).own = s.own := rfl
@[simp] theorem pcxM_boot (s : State) (g : PcxSt → PcxSt) : (s.pcxM g).boot = s.boot := rfl
@[simp] theorem pcxM_smb (s : State) (g : PcxSt → PcxSt) : (s.pcxM g).smb = s.smb := rfl
@[simp] theorem pcxM_ports (s : State) (g : PcxSt → PcxSt) : (s.pcxM g).ports = s.ports := rfl
@[simp] theorem pcxM_pcs (s : State) (g : PcxSt → PcxSt) : (s.pcxM g).pcs = s.pcs := rfl
@[simp] theorem pcxM_links (s : State) (g : PcxSt → PcxSt) : (s.pcxM g).links = s.links := rfl
@[simp] theorem pcxM_schs (s : State) (g : PcxSt → PcxSt) : (s.pcxM g).schs = s.schs := rfl
@[simp] theorem pcxM_meters (s : State) (g : PcxSt → PcxSt) : (s.pcxM g).meters = s.meters := rfl
@[simp] theorem pcxM_metStaged (s : State) (g : PcxSt → PcxSt) : (s.pcxM g).metStaged = s.metStaged := rfl
@[simp] theorem pcxM_metHold (s : State) (g : PcxSt → PcxSt) : (s.pcxM g).metHold = s.metHold := rfl
@[simp] theorem pcxM_commits (s : State) (g : PcxSt → PcxSt) : (s.pcxM g).commits = s.commits := rfl
@[simp] theorem pcxM_nextGroup (s : State) (g : PcxSt → PcxSt) : (s.pcxM g).nextGroup = s.nextGroup := rfl
@[simp] theorem pcxM_tun (s : State) (g : PcxSt → PcxSt) : (s.pcxM g).tun = s.tun := rfl
@[simp] theorem pcxM_fab (s : State) (g : PcxSt → PcxSt) : (s.pcxM g).fab = s.fab := rfl
@[simp] theorem pcxM_tim (s : State) (g : PcxSt → PcxSt) : (s.pcxM g).tim = s.tim := rfl
@[simp] theorem pcxM_macs (s : State) (g : PcxSt → PcxSt) : (s.pcxM g).macs = s.macs := rfl
@[simp] theorem pcxM_nics (s : State) (g : PcxSt → PcxSt) : (s.pcxM g).nics = s.nics := rfl
@[simp] theorem pcxM_srcs (s : State) (g : PcxSt → PcxSt) : (s.pcxM g).srcs = s.srcs := rfl
@[simp] theorem pcxM_dispOuts (s : State) (g : PcxSt → PcxSt) : (s.pcxM g).dispOuts = s.dispOuts := rfl
@[simp] theorem pcxM_store (s : State) (g : PcxSt → PcxSt) : (s.pcxM g).store = s.store := rfl
@[simp] theorem pcxM_flt (s : State) (g : PcxSt → PcxSt) : (s.pcxM g).flt = s.flt := rfl
@[simp] theorem pcxM_keys (s : State) (g : PcxSt → PcxSt) : (s.pcxM g).keys = s.keys := rfl
@[simp] theorem pcxM_usb (s : State) (g : PcxSt → PcxSt) : (s.pcxM g).usb = s.usb := rfl
@[simp] theorem pcxM_pds (s : State) (g : PcxSt → PcxSt) : (s.pcxM g).pds = s.pds := rfl
@[simp] theorem pcxM_pwr (s : State) (g : PcxSt → PcxSt) : (s.pcxM g).pwr = s.pwr := rfl
@[simp] theorem pcxM_hew (s : State) (g : PcxSt → PcxSt) : (s.pcxM g).hew = s.hew := rfl
@[simp] theorem pcxM_crt (s : State) (g : PcxSt → PcxSt) : (s.pcxM g).crt = s.crt := rfl
@[simp] theorem pcxM_arb (s : State) (g : PcxSt → PcxSt) : (s.pcxM g).arb = s.arb := rfl
@[simp] theorem pcxM_drift (s : State) (g : PcxSt → PcxSt) : (s.pcxM g).drift = s.drift := rfl
@[simp] theorem pcxM_draws (s : State) (g : PcxSt → PcxSt) : (s.pcxM g).draws = s.draws := rfl
@[simp] theorem pcxM_outs (s : State) (g : PcxSt → PcxSt) : (s.pcxM g).outs = s.outs := rfl
@[simp] theorem pcxM_line (s : State) (g : PcxSt → PcxSt) : (s.pcxM g).line = s.line := rfl
@[simp] theorem pcxM_mail (s : State) (g : PcxSt → PcxSt) : (s.pcxM g).mail = s.mail := rfl
@[simp] theorem pcxM_pending (s : State) (g : PcxSt → PcxSt) : (s.pcxM g).pending = s.pending := rfl
@[simp] theorem pcxM_pcx (s : State) (g : PcxSt → PcxSt) : (s.pcxM g).pcx = g s.pcx := rfl
@[simp] theorem pcxM_rd (s : State) (g : PcxSt → PcxSt) (a : Nat) : (s.pcxM g).rd a = s.rd a := rfl
@[simp] theorem pcxM_get (s : State) (g : PcxSt → PcxSt) (f : Fld) : (s.pcxM g).get f = s.get f := rfl
@[simp] theorem pcxM_bit (s : State) (g : PcxSt → PcxSt) (f : Fld) : (s.pcxM g).bit f = s.bit f := rfl

/-! ### slotM -/

@[simp] theorem slotM_regs (s : State) (k : Nat) (g : SlotSt → SlotSt) : (s.slotM k g).regs = s.regs := rfl
@[simp] theorem slotM_clock (s : State) (k : Nat) (g : SlotSt → SlotSt) : (s.slotM k g).clock = s.clock := rfl
@[simp] theorem slotM_uptime (s : State) (k : Nat) (g : SlotSt → SlotSt) : (s.slotM k g).uptime = s.uptime := rfl
@[simp] theorem slotM_ctl (s : State) (k : Nat) (g : SlotSt → SlotSt) : (s.slotM k g).ctl = s.ctl := rfl
@[simp] theorem slotM_own (s : State) (k : Nat) (g : SlotSt → SlotSt) : (s.slotM k g).own = s.own := rfl
@[simp] theorem slotM_boot (s : State) (k : Nat) (g : SlotSt → SlotSt) : (s.slotM k g).boot = s.boot := rfl
@[simp] theorem slotM_smb (s : State) (k : Nat) (g : SlotSt → SlotSt) : (s.slotM k g).smb = s.smb := rfl
@[simp] theorem slotM_ports (s : State) (k : Nat) (g : SlotSt → SlotSt) : (s.slotM k g).ports = s.ports := rfl
@[simp] theorem slotM_pcs (s : State) (k : Nat) (g : SlotSt → SlotSt) : (s.slotM k g).pcs = s.pcs := rfl
@[simp] theorem slotM_links (s : State) (k : Nat) (g : SlotSt → SlotSt) : (s.slotM k g).links = s.links := rfl
@[simp] theorem slotM_schs (s : State) (k : Nat) (g : SlotSt → SlotSt) : (s.slotM k g).schs = s.schs := rfl
@[simp] theorem slotM_meters (s : State) (k : Nat) (g : SlotSt → SlotSt) : (s.slotM k g).meters = s.meters := rfl
@[simp] theorem slotM_metStaged (s : State) (k : Nat) (g : SlotSt → SlotSt) : (s.slotM k g).metStaged = s.metStaged := rfl
@[simp] theorem slotM_metHold (s : State) (k : Nat) (g : SlotSt → SlotSt) : (s.slotM k g).metHold = s.metHold := rfl
@[simp] theorem slotM_commits (s : State) (k : Nat) (g : SlotSt → SlotSt) : (s.slotM k g).commits = s.commits := rfl
@[simp] theorem slotM_nextGroup (s : State) (k : Nat) (g : SlotSt → SlotSt) : (s.slotM k g).nextGroup = s.nextGroup := rfl
@[simp] theorem slotM_tun (s : State) (k : Nat) (g : SlotSt → SlotSt) : (s.slotM k g).tun = s.tun := rfl
@[simp] theorem slotM_fab (s : State) (k : Nat) (g : SlotSt → SlotSt) : (s.slotM k g).fab = s.fab := rfl
@[simp] theorem slotM_tim (s : State) (k : Nat) (g : SlotSt → SlotSt) : (s.slotM k g).tim = s.tim := rfl
@[simp] theorem slotM_macs (s : State) (k : Nat) (g : SlotSt → SlotSt) : (s.slotM k g).macs = s.macs := rfl
@[simp] theorem slotM_nics (s : State) (k : Nat) (g : SlotSt → SlotSt) : (s.slotM k g).nics = s.nics := rfl
@[simp] theorem slotM_srcs (s : State) (k : Nat) (g : SlotSt → SlotSt) : (s.slotM k g).srcs = s.srcs := rfl
@[simp] theorem slotM_dispOuts (s : State) (k : Nat) (g : SlotSt → SlotSt) : (s.slotM k g).dispOuts = s.dispOuts := rfl
@[simp] theorem slotM_store (s : State) (k : Nat) (g : SlotSt → SlotSt) : (s.slotM k g).store = s.store := rfl
@[simp] theorem slotM_flt (s : State) (k : Nat) (g : SlotSt → SlotSt) : (s.slotM k g).flt = s.flt := rfl
@[simp] theorem slotM_keys (s : State) (k : Nat) (g : SlotSt → SlotSt) : (s.slotM k g).keys = s.keys := rfl
@[simp] theorem slotM_usb (s : State) (k : Nat) (g : SlotSt → SlotSt) : (s.slotM k g).usb = s.usb := rfl
@[simp] theorem slotM_pds (s : State) (k : Nat) (g : SlotSt → SlotSt) : (s.slotM k g).pds = s.pds := rfl
@[simp] theorem slotM_pwr (s : State) (k : Nat) (g : SlotSt → SlotSt) : (s.slotM k g).pwr = s.pwr := rfl
@[simp] theorem slotM_hew (s : State) (k : Nat) (g : SlotSt → SlotSt) : (s.slotM k g).hew = s.hew := rfl
@[simp] theorem slotM_crt (s : State) (k : Nat) (g : SlotSt → SlotSt) : (s.slotM k g).crt = s.crt := rfl
@[simp] theorem slotM_arb (s : State) (k : Nat) (g : SlotSt → SlotSt) : (s.slotM k g).arb = s.arb := rfl
@[simp] theorem slotM_drift (s : State) (k : Nat) (g : SlotSt → SlotSt) : (s.slotM k g).drift = s.drift := rfl
@[simp] theorem slotM_draws (s : State) (k : Nat) (g : SlotSt → SlotSt) : (s.slotM k g).draws = s.draws := rfl
@[simp] theorem slotM_outs (s : State) (k : Nat) (g : SlotSt → SlotSt) : (s.slotM k g).outs = s.outs := rfl
@[simp] theorem slotM_line (s : State) (k : Nat) (g : SlotSt → SlotSt) : (s.slotM k g).line = s.line := rfl
@[simp] theorem slotM_mail (s : State) (k : Nat) (g : SlotSt → SlotSt) : (s.slotM k g).mail = s.mail := rfl
@[simp] theorem slotM_pending (s : State) (k : Nat) (g : SlotSt → SlotSt) : (s.slotM k g).pending = s.pending := rfl
@[simp] theorem slotM_rd (s : State) (k : Nat) (g : SlotSt → SlotSt) (a : Nat) : (s.slotM k g).rd a = s.rd a := rfl
@[simp] theorem slotM_get (s : State) (k : Nat) (g : SlotSt → SlotSt) (f : Fld) : (s.slotM k g).get f = s.get f := rfl
@[simp] theorem slotM_bit (s : State) (k : Nat) (g : SlotSt → SlotSt) (f : Fld) : (s.slotM k g).bit f = s.bit f := rfl

/-! ### dportM -/

@[simp] theorem dportM_regs (s : State) (k : Nat) (g : DockPort → DockPort) : (s.dportM k g).regs = s.regs := rfl
@[simp] theorem dportM_clock (s : State) (k : Nat) (g : DockPort → DockPort) : (s.dportM k g).clock = s.clock := rfl
@[simp] theorem dportM_uptime (s : State) (k : Nat) (g : DockPort → DockPort) : (s.dportM k g).uptime = s.uptime := rfl
@[simp] theorem dportM_ctl (s : State) (k : Nat) (g : DockPort → DockPort) : (s.dportM k g).ctl = s.ctl := rfl
@[simp] theorem dportM_own (s : State) (k : Nat) (g : DockPort → DockPort) : (s.dportM k g).own = s.own := rfl
@[simp] theorem dportM_boot (s : State) (k : Nat) (g : DockPort → DockPort) : (s.dportM k g).boot = s.boot := rfl
@[simp] theorem dportM_smb (s : State) (k : Nat) (g : DockPort → DockPort) : (s.dportM k g).smb = s.smb := rfl
@[simp] theorem dportM_ports (s : State) (k : Nat) (g : DockPort → DockPort) : (s.dportM k g).ports = s.ports := rfl
@[simp] theorem dportM_pcs (s : State) (k : Nat) (g : DockPort → DockPort) : (s.dportM k g).pcs = s.pcs := rfl
@[simp] theorem dportM_links (s : State) (k : Nat) (g : DockPort → DockPort) : (s.dportM k g).links = s.links := rfl
@[simp] theorem dportM_schs (s : State) (k : Nat) (g : DockPort → DockPort) : (s.dportM k g).schs = s.schs := rfl
@[simp] theorem dportM_meters (s : State) (k : Nat) (g : DockPort → DockPort) : (s.dportM k g).meters = s.meters := rfl
@[simp] theorem dportM_metStaged (s : State) (k : Nat) (g : DockPort → DockPort) : (s.dportM k g).metStaged = s.metStaged := rfl
@[simp] theorem dportM_metHold (s : State) (k : Nat) (g : DockPort → DockPort) : (s.dportM k g).metHold = s.metHold := rfl
@[simp] theorem dportM_commits (s : State) (k : Nat) (g : DockPort → DockPort) : (s.dportM k g).commits = s.commits := rfl
@[simp] theorem dportM_nextGroup (s : State) (k : Nat) (g : DockPort → DockPort) : (s.dportM k g).nextGroup = s.nextGroup := rfl
@[simp] theorem dportM_tun (s : State) (k : Nat) (g : DockPort → DockPort) : (s.dportM k g).tun = s.tun := rfl
@[simp] theorem dportM_fab (s : State) (k : Nat) (g : DockPort → DockPort) : (s.dportM k g).fab = s.fab := rfl
@[simp] theorem dportM_tim (s : State) (k : Nat) (g : DockPort → DockPort) : (s.dportM k g).tim = s.tim := rfl
@[simp] theorem dportM_macs (s : State) (k : Nat) (g : DockPort → DockPort) : (s.dportM k g).macs = s.macs := rfl
@[simp] theorem dportM_nics (s : State) (k : Nat) (g : DockPort → DockPort) : (s.dportM k g).nics = s.nics := rfl
@[simp] theorem dportM_srcs (s : State) (k : Nat) (g : DockPort → DockPort) : (s.dportM k g).srcs = s.srcs := rfl
@[simp] theorem dportM_dispOuts (s : State) (k : Nat) (g : DockPort → DockPort) : (s.dportM k g).dispOuts = s.dispOuts := rfl
@[simp] theorem dportM_store (s : State) (k : Nat) (g : DockPort → DockPort) : (s.dportM k g).store = s.store := rfl
@[simp] theorem dportM_flt (s : State) (k : Nat) (g : DockPort → DockPort) : (s.dportM k g).flt = s.flt := rfl
@[simp] theorem dportM_keys (s : State) (k : Nat) (g : DockPort → DockPort) : (s.dportM k g).keys = s.keys := rfl
@[simp] theorem dportM_usb (s : State) (k : Nat) (g : DockPort → DockPort) : (s.dportM k g).usb = s.usb := rfl
@[simp] theorem dportM_pds (s : State) (k : Nat) (g : DockPort → DockPort) : (s.dportM k g).pds = s.pds := rfl
@[simp] theorem dportM_pwr (s : State) (k : Nat) (g : DockPort → DockPort) : (s.dportM k g).pwr = s.pwr := rfl
@[simp] theorem dportM_hew (s : State) (k : Nat) (g : DockPort → DockPort) : (s.dportM k g).hew = s.hew := rfl
@[simp] theorem dportM_crt (s : State) (k : Nat) (g : DockPort → DockPort) : (s.dportM k g).crt = s.crt := rfl
@[simp] theorem dportM_arb (s : State) (k : Nat) (g : DockPort → DockPort) : (s.dportM k g).arb = s.arb := rfl
@[simp] theorem dportM_drift (s : State) (k : Nat) (g : DockPort → DockPort) : (s.dportM k g).drift = s.drift := rfl
@[simp] theorem dportM_draws (s : State) (k : Nat) (g : DockPort → DockPort) : (s.dportM k g).draws = s.draws := rfl
@[simp] theorem dportM_outs (s : State) (k : Nat) (g : DockPort → DockPort) : (s.dportM k g).outs = s.outs := rfl
@[simp] theorem dportM_line (s : State) (k : Nat) (g : DockPort → DockPort) : (s.dportM k g).line = s.line := rfl
@[simp] theorem dportM_mail (s : State) (k : Nat) (g : DockPort → DockPort) : (s.dportM k g).mail = s.mail := rfl
@[simp] theorem dportM_pending (s : State) (k : Nat) (g : DockPort → DockPort) : (s.dportM k g).pending = s.pending := rfl
@[simp] theorem dportM_rd (s : State) (k : Nat) (g : DockPort → DockPort) (a : Nat) : (s.dportM k g).rd a = s.rd a := rfl
@[simp] theorem dportM_get (s : State) (k : Nat) (g : DockPort → DockPort) (f : Fld) : (s.dportM k g).get f = s.get f := rfl
@[simp] theorem dportM_bit (s : State) (k : Nat) (g : DockPort → DockPort) (f : Fld) : (s.dportM k g).bit f = s.bit f := rfl

/-! ### srcM -/

@[simp] theorem srcM_regs (s : State) (k : Nat) (g : SrcSt → SrcSt) : (s.srcM k g).regs = s.regs := rfl
@[simp] theorem srcM_clock (s : State) (k : Nat) (g : SrcSt → SrcSt) : (s.srcM k g).clock = s.clock := rfl
@[simp] theorem srcM_uptime (s : State) (k : Nat) (g : SrcSt → SrcSt) : (s.srcM k g).uptime = s.uptime := rfl
@[simp] theorem srcM_ctl (s : State) (k : Nat) (g : SrcSt → SrcSt) : (s.srcM k g).ctl = s.ctl := rfl
@[simp] theorem srcM_own (s : State) (k : Nat) (g : SrcSt → SrcSt) : (s.srcM k g).own = s.own := rfl
@[simp] theorem srcM_boot (s : State) (k : Nat) (g : SrcSt → SrcSt) : (s.srcM k g).boot = s.boot := rfl
@[simp] theorem srcM_smb (s : State) (k : Nat) (g : SrcSt → SrcSt) : (s.srcM k g).smb = s.smb := rfl
@[simp] theorem srcM_ports (s : State) (k : Nat) (g : SrcSt → SrcSt) : (s.srcM k g).ports = s.ports := rfl
@[simp] theorem srcM_pcs (s : State) (k : Nat) (g : SrcSt → SrcSt) : (s.srcM k g).pcs = s.pcs := rfl
@[simp] theorem srcM_links (s : State) (k : Nat) (g : SrcSt → SrcSt) : (s.srcM k g).links = s.links := rfl
@[simp] theorem srcM_schs (s : State) (k : Nat) (g : SrcSt → SrcSt) : (s.srcM k g).schs = s.schs := rfl
@[simp] theorem srcM_meters (s : State) (k : Nat) (g : SrcSt → SrcSt) : (s.srcM k g).meters = s.meters := rfl
@[simp] theorem srcM_metStaged (s : State) (k : Nat) (g : SrcSt → SrcSt) : (s.srcM k g).metStaged = s.metStaged := rfl
@[simp] theorem srcM_metHold (s : State) (k : Nat) (g : SrcSt → SrcSt) : (s.srcM k g).metHold = s.metHold := rfl
@[simp] theorem srcM_commits (s : State) (k : Nat) (g : SrcSt → SrcSt) : (s.srcM k g).commits = s.commits := rfl
@[simp] theorem srcM_nextGroup (s : State) (k : Nat) (g : SrcSt → SrcSt) : (s.srcM k g).nextGroup = s.nextGroup := rfl
@[simp] theorem srcM_tun (s : State) (k : Nat) (g : SrcSt → SrcSt) : (s.srcM k g).tun = s.tun := rfl
@[simp] theorem srcM_fab (s : State) (k : Nat) (g : SrcSt → SrcSt) : (s.srcM k g).fab = s.fab := rfl
@[simp] theorem srcM_tim (s : State) (k : Nat) (g : SrcSt → SrcSt) : (s.srcM k g).tim = s.tim := rfl
@[simp] theorem srcM_macs (s : State) (k : Nat) (g : SrcSt → SrcSt) : (s.srcM k g).macs = s.macs := rfl
@[simp] theorem srcM_nics (s : State) (k : Nat) (g : SrcSt → SrcSt) : (s.srcM k g).nics = s.nics := rfl
@[simp] theorem srcM_dispOuts (s : State) (k : Nat) (g : SrcSt → SrcSt) : (s.srcM k g).dispOuts = s.dispOuts := rfl
@[simp] theorem srcM_store (s : State) (k : Nat) (g : SrcSt → SrcSt) : (s.srcM k g).store = s.store := rfl
@[simp] theorem srcM_pcx (s : State) (k : Nat) (g : SrcSt → SrcSt) : (s.srcM k g).pcx = s.pcx := rfl
@[simp] theorem srcM_flt (s : State) (k : Nat) (g : SrcSt → SrcSt) : (s.srcM k g).flt = s.flt := rfl
@[simp] theorem srcM_keys (s : State) (k : Nat) (g : SrcSt → SrcSt) : (s.srcM k g).keys = s.keys := rfl
@[simp] theorem srcM_usb (s : State) (k : Nat) (g : SrcSt → SrcSt) : (s.srcM k g).usb = s.usb := rfl
@[simp] theorem srcM_pds (s : State) (k : Nat) (g : SrcSt → SrcSt) : (s.srcM k g).pds = s.pds := rfl
@[simp] theorem srcM_pwr (s : State) (k : Nat) (g : SrcSt → SrcSt) : (s.srcM k g).pwr = s.pwr := rfl
@[simp] theorem srcM_hew (s : State) (k : Nat) (g : SrcSt → SrcSt) : (s.srcM k g).hew = s.hew := rfl
@[simp] theorem srcM_crt (s : State) (k : Nat) (g : SrcSt → SrcSt) : (s.srcM k g).crt = s.crt := rfl
@[simp] theorem srcM_arb (s : State) (k : Nat) (g : SrcSt → SrcSt) : (s.srcM k g).arb = s.arb := rfl
@[simp] theorem srcM_drift (s : State) (k : Nat) (g : SrcSt → SrcSt) : (s.srcM k g).drift = s.drift := rfl
@[simp] theorem srcM_draws (s : State) (k : Nat) (g : SrcSt → SrcSt) : (s.srcM k g).draws = s.draws := rfl
@[simp] theorem srcM_outs (s : State) (k : Nat) (g : SrcSt → SrcSt) : (s.srcM k g).outs = s.outs := rfl
@[simp] theorem srcM_line (s : State) (k : Nat) (g : SrcSt → SrcSt) : (s.srcM k g).line = s.line := rfl
@[simp] theorem srcM_mail (s : State) (k : Nat) (g : SrcSt → SrcSt) : (s.srcM k g).mail = s.mail := rfl
@[simp] theorem srcM_pending (s : State) (k : Nat) (g : SrcSt → SrcSt) : (s.srcM k g).pending = s.pending := rfl
@[simp] theorem srcM_srcs (s : State) (k : Nat) (g : SrcSt → SrcSt) : (s.srcM k g).srcs = s.srcs.modify k g := rfl
@[simp] theorem srcM_rd (s : State) (k : Nat) (g : SrcSt → SrcSt) (a : Nat) : (s.srcM k g).rd a = s.rd a := rfl
@[simp] theorem srcM_get (s : State) (k : Nat) (g : SrcSt → SrcSt) (f : Fld) : (s.srcM k g).get f = s.get f := rfl
@[simp] theorem srcM_bit (s : State) (k : Nat) (g : SrcSt → SrcSt) (f : Fld) : (s.srcM k g).bit f = s.bit f := rfl

/-! ### dutyM -/

@[simp] theorem dutyM_regs (s : State) (d : Nat) (g : DutySt → DutySt) : (s.dutyM d g).regs = s.regs := rfl
@[simp] theorem dutyM_clock (s : State) (d : Nat) (g : DutySt → DutySt) : (s.dutyM d g).clock = s.clock := rfl
@[simp] theorem dutyM_uptime (s : State) (d : Nat) (g : DutySt → DutySt) : (s.dutyM d g).uptime = s.uptime := rfl
@[simp] theorem dutyM_ctl (s : State) (d : Nat) (g : DutySt → DutySt) : (s.dutyM d g).ctl = s.ctl := rfl
@[simp] theorem dutyM_own (s : State) (d : Nat) (g : DutySt → DutySt) : (s.dutyM d g).own = s.own := rfl
@[simp] theorem dutyM_boot (s : State) (d : Nat) (g : DutySt → DutySt) : (s.dutyM d g).boot = s.boot := rfl
@[simp] theorem dutyM_smb (s : State) (d : Nat) (g : DutySt → DutySt) : (s.dutyM d g).smb = s.smb := rfl
@[simp] theorem dutyM_ports (s : State) (d : Nat) (g : DutySt → DutySt) : (s.dutyM d g).ports = s.ports := rfl
@[simp] theorem dutyM_pcs (s : State) (d : Nat) (g : DutySt → DutySt) : (s.dutyM d g).pcs = s.pcs := rfl
@[simp] theorem dutyM_links (s : State) (d : Nat) (g : DutySt → DutySt) : (s.dutyM d g).links = s.links := rfl
@[simp] theorem dutyM_schs (s : State) (d : Nat) (g : DutySt → DutySt) : (s.dutyM d g).schs = s.schs := rfl
@[simp] theorem dutyM_meters (s : State) (d : Nat) (g : DutySt → DutySt) : (s.dutyM d g).meters = s.meters := rfl
@[simp] theorem dutyM_metStaged (s : State) (d : Nat) (g : DutySt → DutySt) : (s.dutyM d g).metStaged = s.metStaged := rfl
@[simp] theorem dutyM_metHold (s : State) (d : Nat) (g : DutySt → DutySt) : (s.dutyM d g).metHold = s.metHold := rfl
@[simp] theorem dutyM_commits (s : State) (d : Nat) (g : DutySt → DutySt) : (s.dutyM d g).commits = s.commits := rfl
@[simp] theorem dutyM_nextGroup (s : State) (d : Nat) (g : DutySt → DutySt) : (s.dutyM d g).nextGroup = s.nextGroup := rfl
@[simp] theorem dutyM_tun (s : State) (d : Nat) (g : DutySt → DutySt) : (s.dutyM d g).tun = s.tun := rfl
@[simp] theorem dutyM_fab (s : State) (d : Nat) (g : DutySt → DutySt) : (s.dutyM d g).fab = s.fab := rfl
@[simp] theorem dutyM_tim (s : State) (d : Nat) (g : DutySt → DutySt) : (s.dutyM d g).tim = s.tim := rfl
@[simp] theorem dutyM_macs (s : State) (d : Nat) (g : DutySt → DutySt) : (s.dutyM d g).macs = s.macs := rfl
@[simp] theorem dutyM_nics (s : State) (d : Nat) (g : DutySt → DutySt) : (s.dutyM d g).nics = s.nics := rfl
@[simp] theorem dutyM_srcs (s : State) (d : Nat) (g : DutySt → DutySt) : (s.dutyM d g).srcs = s.srcs := rfl
@[simp] theorem dutyM_dispOuts (s : State) (d : Nat) (g : DutySt → DutySt) : (s.dutyM d g).dispOuts = s.dispOuts := rfl
@[simp] theorem dutyM_store (s : State) (d : Nat) (g : DutySt → DutySt) : (s.dutyM d g).store = s.store := rfl
@[simp] theorem dutyM_pcx (s : State) (d : Nat) (g : DutySt → DutySt) : (s.dutyM d g).pcx = s.pcx := rfl
@[simp] theorem dutyM_flt (s : State) (d : Nat) (g : DutySt → DutySt) : (s.dutyM d g).flt = s.flt := rfl
@[simp] theorem dutyM_keys (s : State) (d : Nat) (g : DutySt → DutySt) : (s.dutyM d g).keys = s.keys := rfl
@[simp] theorem dutyM_usb (s : State) (d : Nat) (g : DutySt → DutySt) : (s.dutyM d g).usb = s.usb := rfl
@[simp] theorem dutyM_pds (s : State) (d : Nat) (g : DutySt → DutySt) : (s.dutyM d g).pds = s.pds := rfl
@[simp] theorem dutyM_pwr (s : State) (d : Nat) (g : DutySt → DutySt) : (s.dutyM d g).pwr = s.pwr := rfl
@[simp] theorem dutyM_crt (s : State) (d : Nat) (g : DutySt → DutySt) : (s.dutyM d g).crt = s.crt := rfl
@[simp] theorem dutyM_arb (s : State) (d : Nat) (g : DutySt → DutySt) : (s.dutyM d g).arb = s.arb := rfl
@[simp] theorem dutyM_drift (s : State) (d : Nat) (g : DutySt → DutySt) : (s.dutyM d g).drift = s.drift := rfl
@[simp] theorem dutyM_draws (s : State) (d : Nat) (g : DutySt → DutySt) : (s.dutyM d g).draws = s.draws := rfl
@[simp] theorem dutyM_outs (s : State) (d : Nat) (g : DutySt → DutySt) : (s.dutyM d g).outs = s.outs := rfl
@[simp] theorem dutyM_line (s : State) (d : Nat) (g : DutySt → DutySt) : (s.dutyM d g).line = s.line := rfl
@[simp] theorem dutyM_mail (s : State) (d : Nat) (g : DutySt → DutySt) : (s.dutyM d g).mail = s.mail := rfl
@[simp] theorem dutyM_pending (s : State) (d : Nat) (g : DutySt → DutySt) : (s.dutyM d g).pending = s.pending := rfl
@[simp] theorem dutyM_rd (s : State) (d : Nat) (g : DutySt → DutySt) (a : Nat) : (s.dutyM d g).rd a = s.rd a := rfl
@[simp] theorem dutyM_get (s : State) (d : Nat) (g : DutySt → DutySt) (f : Fld) : (s.dutyM d g).get f = s.get f := rfl
@[simp] theorem dutyM_bit (s : State) (d : Nat) (g : DutySt → DutySt) (f : Fld) : (s.dutyM d g).bit f = s.bit f := rfl

/-! ### statM -/

@[simp] theorem statM_regs (s : State) (idx : Nat) (g : TunStat → TunStat) : (s.statM idx g).regs = s.regs := rfl
@[simp] theorem statM_clock (s : State) (idx : Nat) (g : TunStat → TunStat) : (s.statM idx g).clock = s.clock := rfl
@[simp] theorem statM_uptime (s : State) (idx : Nat) (g : TunStat → TunStat) : (s.statM idx g).uptime = s.uptime := rfl
@[simp] theorem statM_ctl (s : State) (idx : Nat) (g : TunStat → TunStat) : (s.statM idx g).ctl = s.ctl := rfl
@[simp] theorem statM_own (s : State) (idx : Nat) (g : TunStat → TunStat) : (s.statM idx g).own = s.own := rfl
@[simp] theorem statM_boot (s : State) (idx : Nat) (g : TunStat → TunStat) : (s.statM idx g).boot = s.boot := rfl
@[simp] theorem statM_smb (s : State) (idx : Nat) (g : TunStat → TunStat) : (s.statM idx g).smb = s.smb := rfl
@[simp] theorem statM_ports (s : State) (idx : Nat) (g : TunStat → TunStat) : (s.statM idx g).ports = s.ports := rfl
@[simp] theorem statM_pcs (s : State) (idx : Nat) (g : TunStat → TunStat) : (s.statM idx g).pcs = s.pcs := rfl
@[simp] theorem statM_links (s : State) (idx : Nat) (g : TunStat → TunStat) : (s.statM idx g).links = s.links := rfl
@[simp] theorem statM_schs (s : State) (idx : Nat) (g : TunStat → TunStat) : (s.statM idx g).schs = s.schs := rfl
@[simp] theorem statM_meters (s : State) (idx : Nat) (g : TunStat → TunStat) : (s.statM idx g).meters = s.meters := rfl
@[simp] theorem statM_metStaged (s : State) (idx : Nat) (g : TunStat → TunStat) : (s.statM idx g).metStaged = s.metStaged := rfl
@[simp] theorem statM_metHold (s : State) (idx : Nat) (g : TunStat → TunStat) : (s.statM idx g).metHold = s.metHold := rfl
@[simp] theorem statM_commits (s : State) (idx : Nat) (g : TunStat → TunStat) : (s.statM idx g).commits = s.commits := rfl
@[simp] theorem statM_nextGroup (s : State) (idx : Nat) (g : TunStat → TunStat) : (s.statM idx g).nextGroup = s.nextGroup := rfl
@[simp] theorem statM_fab (s : State) (idx : Nat) (g : TunStat → TunStat) : (s.statM idx g).fab = s.fab := rfl
@[simp] theorem statM_tim (s : State) (idx : Nat) (g : TunStat → TunStat) : (s.statM idx g).tim = s.tim := rfl
@[simp] theorem statM_macs (s : State) (idx : Nat) (g : TunStat → TunStat) : (s.statM idx g).macs = s.macs := rfl
@[simp] theorem statM_nics (s : State) (idx : Nat) (g : TunStat → TunStat) : (s.statM idx g).nics = s.nics := rfl
@[simp] theorem statM_srcs (s : State) (idx : Nat) (g : TunStat → TunStat) : (s.statM idx g).srcs = s.srcs := rfl
@[simp] theorem statM_dispOuts (s : State) (idx : Nat) (g : TunStat → TunStat) : (s.statM idx g).dispOuts = s.dispOuts := rfl
@[simp] theorem statM_store (s : State) (idx : Nat) (g : TunStat → TunStat) : (s.statM idx g).store = s.store := rfl
@[simp] theorem statM_pcx (s : State) (idx : Nat) (g : TunStat → TunStat) : (s.statM idx g).pcx = s.pcx := rfl
@[simp] theorem statM_flt (s : State) (idx : Nat) (g : TunStat → TunStat) : (s.statM idx g).flt = s.flt := rfl
@[simp] theorem statM_keys (s : State) (idx : Nat) (g : TunStat → TunStat) : (s.statM idx g).keys = s.keys := rfl
@[simp] theorem statM_usb (s : State) (idx : Nat) (g : TunStat → TunStat) : (s.statM idx g).usb = s.usb := rfl
@[simp] theorem statM_pds (s : State) (idx : Nat) (g : TunStat → TunStat) : (s.statM idx g).pds = s.pds := rfl
@[simp] theorem statM_pwr (s : State) (idx : Nat) (g : TunStat → TunStat) : (s.statM idx g).pwr = s.pwr := rfl
@[simp] theorem statM_hew (s : State) (idx : Nat) (g : TunStat → TunStat) : (s.statM idx g).hew = s.hew := rfl
@[simp] theorem statM_crt (s : State) (idx : Nat) (g : TunStat → TunStat) : (s.statM idx g).crt = s.crt := rfl
@[simp] theorem statM_arb (s : State) (idx : Nat) (g : TunStat → TunStat) : (s.statM idx g).arb = s.arb := rfl
@[simp] theorem statM_drift (s : State) (idx : Nat) (g : TunStat → TunStat) : (s.statM idx g).drift = s.drift := rfl
@[simp] theorem statM_draws (s : State) (idx : Nat) (g : TunStat → TunStat) : (s.statM idx g).draws = s.draws := rfl
@[simp] theorem statM_outs (s : State) (idx : Nat) (g : TunStat → TunStat) : (s.statM idx g).outs = s.outs := rfl
@[simp] theorem statM_line (s : State) (idx : Nat) (g : TunStat → TunStat) : (s.statM idx g).line = s.line := rfl
@[simp] theorem statM_mail (s : State) (idx : Nat) (g : TunStat → TunStat) : (s.statM idx g).mail = s.mail := rfl
@[simp] theorem statM_pending (s : State) (idx : Nat) (g : TunStat → TunStat) : (s.statM idx g).pending = s.pending := rfl
@[simp] theorem statM_rd (s : State) (idx : Nat) (g : TunStat → TunStat) (a : Nat) : (s.statM idx g).rd a = s.rd a := rfl
@[simp] theorem statM_get (s : State) (idx : Nat) (g : TunStat → TunStat) (f : Fld) : (s.statM idx g).get f = s.get f := rfl
@[simp] theorem statM_bit (s : State) (idx : Nat) (g : TunStat → TunStat) (f : Fld) : (s.statM idx g).bit f = s.bit f := rfl

/-! ### firstM -/

@[simp] theorem firstM_regs (s : State) (idx : Nat) (g : Offer → Offer) : (s.firstM idx g).regs = s.regs := rfl
@[simp] theorem firstM_clock (s : State) (idx : Nat) (g : Offer → Offer) : (s.firstM idx g).clock = s.clock := rfl
@[simp] theorem firstM_uptime (s : State) (idx : Nat) (g : Offer → Offer) : (s.firstM idx g).uptime = s.uptime := rfl
@[simp] theorem firstM_ctl (s : State) (idx : Nat) (g : Offer → Offer) : (s.firstM idx g).ctl = s.ctl := rfl
@[simp] theorem firstM_own (s : State) (idx : Nat) (g : Offer → Offer) : (s.firstM idx g).own = s.own := rfl
@[simp] theorem firstM_boot (s : State) (idx : Nat) (g : Offer → Offer) : (s.firstM idx g).boot = s.boot := rfl
@[simp] theorem firstM_smb (s : State) (idx : Nat) (g : Offer → Offer) : (s.firstM idx g).smb = s.smb := rfl
@[simp] theorem firstM_ports (s : State) (idx : Nat) (g : Offer → Offer) : (s.firstM idx g).ports = s.ports := rfl
@[simp] theorem firstM_pcs (s : State) (idx : Nat) (g : Offer → Offer) : (s.firstM idx g).pcs = s.pcs := rfl
@[simp] theorem firstM_links (s : State) (idx : Nat) (g : Offer → Offer) : (s.firstM idx g).links = s.links := rfl
@[simp] theorem firstM_schs (s : State) (idx : Nat) (g : Offer → Offer) : (s.firstM idx g).schs = s.schs := rfl
@[simp] theorem firstM_meters (s : State) (idx : Nat) (g : Offer → Offer) : (s.firstM idx g).meters = s.meters := rfl
@[simp] theorem firstM_metStaged (s : State) (idx : Nat) (g : Offer → Offer) : (s.firstM idx g).metStaged = s.metStaged := rfl
@[simp] theorem firstM_metHold (s : State) (idx : Nat) (g : Offer → Offer) : (s.firstM idx g).metHold = s.metHold := rfl
@[simp] theorem firstM_commits (s : State) (idx : Nat) (g : Offer → Offer) : (s.firstM idx g).commits = s.commits := rfl
@[simp] theorem firstM_nextGroup (s : State) (idx : Nat) (g : Offer → Offer) : (s.firstM idx g).nextGroup = s.nextGroup := rfl
@[simp] theorem firstM_fab (s : State) (idx : Nat) (g : Offer → Offer) : (s.firstM idx g).fab = s.fab := rfl
@[simp] theorem firstM_tim (s : State) (idx : Nat) (g : Offer → Offer) : (s.firstM idx g).tim = s.tim := rfl
@[simp] theorem firstM_macs (s : State) (idx : Nat) (g : Offer → Offer) : (s.firstM idx g).macs = s.macs := rfl
@[simp] theorem firstM_nics (s : State) (idx : Nat) (g : Offer → Offer) : (s.firstM idx g).nics = s.nics := rfl
@[simp] theorem firstM_srcs (s : State) (idx : Nat) (g : Offer → Offer) : (s.firstM idx g).srcs = s.srcs := rfl
@[simp] theorem firstM_dispOuts (s : State) (idx : Nat) (g : Offer → Offer) : (s.firstM idx g).dispOuts = s.dispOuts := rfl
@[simp] theorem firstM_store (s : State) (idx : Nat) (g : Offer → Offer) : (s.firstM idx g).store = s.store := rfl
@[simp] theorem firstM_pcx (s : State) (idx : Nat) (g : Offer → Offer) : (s.firstM idx g).pcx = s.pcx := rfl
@[simp] theorem firstM_flt (s : State) (idx : Nat) (g : Offer → Offer) : (s.firstM idx g).flt = s.flt := rfl
@[simp] theorem firstM_keys (s : State) (idx : Nat) (g : Offer → Offer) : (s.firstM idx g).keys = s.keys := rfl
@[simp] theorem firstM_usb (s : State) (idx : Nat) (g : Offer → Offer) : (s.firstM idx g).usb = s.usb := rfl
@[simp] theorem firstM_pds (s : State) (idx : Nat) (g : Offer → Offer) : (s.firstM idx g).pds = s.pds := rfl
@[simp] theorem firstM_pwr (s : State) (idx : Nat) (g : Offer → Offer) : (s.firstM idx g).pwr = s.pwr := rfl
@[simp] theorem firstM_hew (s : State) (idx : Nat) (g : Offer → Offer) : (s.firstM idx g).hew = s.hew := rfl
@[simp] theorem firstM_crt (s : State) (idx : Nat) (g : Offer → Offer) : (s.firstM idx g).crt = s.crt := rfl
@[simp] theorem firstM_arb (s : State) (idx : Nat) (g : Offer → Offer) : (s.firstM idx g).arb = s.arb := rfl
@[simp] theorem firstM_drift (s : State) (idx : Nat) (g : Offer → Offer) : (s.firstM idx g).drift = s.drift := rfl
@[simp] theorem firstM_draws (s : State) (idx : Nat) (g : Offer → Offer) : (s.firstM idx g).draws = s.draws := rfl
@[simp] theorem firstM_outs (s : State) (idx : Nat) (g : Offer → Offer) : (s.firstM idx g).outs = s.outs := rfl
@[simp] theorem firstM_line (s : State) (idx : Nat) (g : Offer → Offer) : (s.firstM idx g).line = s.line := rfl
@[simp] theorem firstM_mail (s : State) (idx : Nat) (g : Offer → Offer) : (s.firstM idx g).mail = s.mail := rfl
@[simp] theorem firstM_pending (s : State) (idx : Nat) (g : Offer → Offer) : (s.firstM idx g).pending = s.pending := rfl
@[simp] theorem firstM_rd (s : State) (idx : Nat) (g : Offer → Offer) (a : Nat) : (s.firstM idx g).rd a = s.rd a := rfl
@[simp] theorem firstM_get (s : State) (idx : Nat) (g : Offer → Offer) (f : Fld) : (s.firstM idx g).get f = s.get f := rfl
@[simp] theorem firstM_bit (s : State) (idx : Nat) (g : Offer → Offer) (f : Fld) : (s.firstM idx g).bit f = s.bit f := rfl

/-! ### crtM -/

@[simp] theorem crtM_regs (s : State) (g : CrtSt → CrtSt) : (s.crtM g).regs = s.regs := rfl
@[simp] theorem crtM_clock (s : State) (g : CrtSt → CrtSt) : (s.crtM g).clock = s.clock := rfl
@[simp] theorem crtM_uptime (s : State) (g : CrtSt → CrtSt) : (s.crtM g).uptime = s.uptime := rfl
@[simp] theorem crtM_ctl (s : State) (g : CrtSt → CrtSt) : (s.crtM g).ctl = s.ctl := rfl
@[simp] theorem crtM_own (s : State) (g : CrtSt → CrtSt) : (s.crtM g).own = s.own := rfl
@[simp] theorem crtM_boot (s : State) (g : CrtSt → CrtSt) : (s.crtM g).boot = s.boot := rfl
@[simp] theorem crtM_smb (s : State) (g : CrtSt → CrtSt) : (s.crtM g).smb = s.smb := rfl
@[simp] theorem crtM_ports (s : State) (g : CrtSt → CrtSt) : (s.crtM g).ports = s.ports := rfl
@[simp] theorem crtM_pcs (s : State) (g : CrtSt → CrtSt) : (s.crtM g).pcs = s.pcs := rfl
@[simp] theorem crtM_links (s : State) (g : CrtSt → CrtSt) : (s.crtM g).links = s.links := rfl
@[simp] theorem crtM_schs (s : State) (g : CrtSt → CrtSt) : (s.crtM g).schs = s.schs := rfl
@[simp] theorem crtM_meters (s : State) (g : CrtSt → CrtSt) : (s.crtM g).meters = s.meters := rfl
@[simp] theorem crtM_metStaged (s : State) (g : CrtSt → CrtSt) : (s.crtM g).metStaged = s.metStaged := rfl
@[simp] theorem crtM_metHold (s : State) (g : CrtSt → CrtSt) : (s.crtM g).metHold = s.metHold := rfl
@[simp] theorem crtM_commits (s : State) (g : CrtSt → CrtSt) : (s.crtM g).commits = s.commits := rfl
@[simp] theorem crtM_nextGroup (s : State) (g : CrtSt → CrtSt) : (s.crtM g).nextGroup = s.nextGroup := rfl
@[simp] theorem crtM_tun (s : State) (g : CrtSt → CrtSt) : (s.crtM g).tun = s.tun := rfl
@[simp] theorem crtM_fab (s : State) (g : CrtSt → CrtSt) : (s.crtM g).fab = s.fab := rfl
@[simp] theorem crtM_tim (s : State) (g : CrtSt → CrtSt) : (s.crtM g).tim = s.tim := rfl
@[simp] theorem crtM_macs (s : State) (g : CrtSt → CrtSt) : (s.crtM g).macs = s.macs := rfl
@[simp] theorem crtM_nics (s : State) (g : CrtSt → CrtSt) : (s.crtM g).nics = s.nics := rfl
@[simp] theorem crtM_srcs (s : State) (g : CrtSt → CrtSt) : (s.crtM g).srcs = s.srcs := rfl
@[simp] theorem crtM_dispOuts (s : State) (g : CrtSt → CrtSt) : (s.crtM g).dispOuts = s.dispOuts := rfl
@[simp] theorem crtM_store (s : State) (g : CrtSt → CrtSt) : (s.crtM g).store = s.store := rfl
@[simp] theorem crtM_pcx (s : State) (g : CrtSt → CrtSt) : (s.crtM g).pcx = s.pcx := rfl
@[simp] theorem crtM_flt (s : State) (g : CrtSt → CrtSt) : (s.crtM g).flt = s.flt := rfl
@[simp] theorem crtM_keys (s : State) (g : CrtSt → CrtSt) : (s.crtM g).keys = s.keys := rfl
@[simp] theorem crtM_usb (s : State) (g : CrtSt → CrtSt) : (s.crtM g).usb = s.usb := rfl
@[simp] theorem crtM_pds (s : State) (g : CrtSt → CrtSt) : (s.crtM g).pds = s.pds := rfl
@[simp] theorem crtM_pwr (s : State) (g : CrtSt → CrtSt) : (s.crtM g).pwr = s.pwr := rfl
@[simp] theorem crtM_hew (s : State) (g : CrtSt → CrtSt) : (s.crtM g).hew = s.hew := rfl
@[simp] theorem crtM_arb (s : State) (g : CrtSt → CrtSt) : (s.crtM g).arb = s.arb := rfl
@[simp] theorem crtM_drift (s : State) (g : CrtSt → CrtSt) : (s.crtM g).drift = s.drift := rfl
@[simp] theorem crtM_draws (s : State) (g : CrtSt → CrtSt) : (s.crtM g).draws = s.draws := rfl
@[simp] theorem crtM_outs (s : State) (g : CrtSt → CrtSt) : (s.crtM g).outs = s.outs := rfl
@[simp] theorem crtM_line (s : State) (g : CrtSt → CrtSt) : (s.crtM g).line = s.line := rfl
@[simp] theorem crtM_mail (s : State) (g : CrtSt → CrtSt) : (s.crtM g).mail = s.mail := rfl
@[simp] theorem crtM_pending (s : State) (g : CrtSt → CrtSt) : (s.crtM g).pending = s.pending := rfl
@[simp] theorem crtM_crt (s : State) (g : CrtSt → CrtSt) : (s.crtM g).crt = g s.crt := rfl
@[simp] theorem crtM_rd (s : State) (g : CrtSt → CrtSt) (a : Nat) : (s.crtM g).rd a = s.rd a := rfl
@[simp] theorem crtM_get (s : State) (g : CrtSt → CrtSt) (f : Fld) : (s.crtM g).get f = s.get f := rfl
@[simp] theorem crtM_bit (s : State) (g : CrtSt → CrtSt) (f : Fld) : (s.crtM g).bit f = s.bit f := rfl

/-! ### cartM -/

@[simp] theorem cartM_regs (s : State) (id : Nat) (g : CartCo → CartCo) : (s.cartM id g).regs = s.regs := rfl
@[simp] theorem cartM_clock (s : State) (id : Nat) (g : CartCo → CartCo) : (s.cartM id g).clock = s.clock := rfl
@[simp] theorem cartM_uptime (s : State) (id : Nat) (g : CartCo → CartCo) : (s.cartM id g).uptime = s.uptime := rfl
@[simp] theorem cartM_ctl (s : State) (id : Nat) (g : CartCo → CartCo) : (s.cartM id g).ctl = s.ctl := rfl
@[simp] theorem cartM_own (s : State) (id : Nat) (g : CartCo → CartCo) : (s.cartM id g).own = s.own := rfl
@[simp] theorem cartM_boot (s : State) (id : Nat) (g : CartCo → CartCo) : (s.cartM id g).boot = s.boot := rfl
@[simp] theorem cartM_smb (s : State) (id : Nat) (g : CartCo → CartCo) : (s.cartM id g).smb = s.smb := rfl
@[simp] theorem cartM_ports (s : State) (id : Nat) (g : CartCo → CartCo) : (s.cartM id g).ports = s.ports := rfl
@[simp] theorem cartM_pcs (s : State) (id : Nat) (g : CartCo → CartCo) : (s.cartM id g).pcs = s.pcs := rfl
@[simp] theorem cartM_links (s : State) (id : Nat) (g : CartCo → CartCo) : (s.cartM id g).links = s.links := rfl
@[simp] theorem cartM_schs (s : State) (id : Nat) (g : CartCo → CartCo) : (s.cartM id g).schs = s.schs := rfl
@[simp] theorem cartM_meters (s : State) (id : Nat) (g : CartCo → CartCo) : (s.cartM id g).meters = s.meters := rfl
@[simp] theorem cartM_metStaged (s : State) (id : Nat) (g : CartCo → CartCo) : (s.cartM id g).metStaged = s.metStaged := rfl
@[simp] theorem cartM_metHold (s : State) (id : Nat) (g : CartCo → CartCo) : (s.cartM id g).metHold = s.metHold := rfl
@[simp] theorem cartM_commits (s : State) (id : Nat) (g : CartCo → CartCo) : (s.cartM id g).commits = s.commits := rfl
@[simp] theorem cartM_nextGroup (s : State) (id : Nat) (g : CartCo → CartCo) : (s.cartM id g).nextGroup = s.nextGroup := rfl
@[simp] theorem cartM_tun (s : State) (id : Nat) (g : CartCo → CartCo) : (s.cartM id g).tun = s.tun := rfl
@[simp] theorem cartM_fab (s : State) (id : Nat) (g : CartCo → CartCo) : (s.cartM id g).fab = s.fab := rfl
@[simp] theorem cartM_tim (s : State) (id : Nat) (g : CartCo → CartCo) : (s.cartM id g).tim = s.tim := rfl
@[simp] theorem cartM_macs (s : State) (id : Nat) (g : CartCo → CartCo) : (s.cartM id g).macs = s.macs := rfl
@[simp] theorem cartM_nics (s : State) (id : Nat) (g : CartCo → CartCo) : (s.cartM id g).nics = s.nics := rfl
@[simp] theorem cartM_srcs (s : State) (id : Nat) (g : CartCo → CartCo) : (s.cartM id g).srcs = s.srcs := rfl
@[simp] theorem cartM_dispOuts (s : State) (id : Nat) (g : CartCo → CartCo) : (s.cartM id g).dispOuts = s.dispOuts := rfl
@[simp] theorem cartM_store (s : State) (id : Nat) (g : CartCo → CartCo) : (s.cartM id g).store = s.store := rfl
@[simp] theorem cartM_pcx (s : State) (id : Nat) (g : CartCo → CartCo) : (s.cartM id g).pcx = s.pcx := rfl
@[simp] theorem cartM_flt (s : State) (id : Nat) (g : CartCo → CartCo) : (s.cartM id g).flt = s.flt := rfl
@[simp] theorem cartM_keys (s : State) (id : Nat) (g : CartCo → CartCo) : (s.cartM id g).keys = s.keys := rfl
@[simp] theorem cartM_usb (s : State) (id : Nat) (g : CartCo → CartCo) : (s.cartM id g).usb = s.usb := rfl
@[simp] theorem cartM_pds (s : State) (id : Nat) (g : CartCo → CartCo) : (s.cartM id g).pds = s.pds := rfl
@[simp] theorem cartM_pwr (s : State) (id : Nat) (g : CartCo → CartCo) : (s.cartM id g).pwr = s.pwr := rfl
@[simp] theorem cartM_hew (s : State) (id : Nat) (g : CartCo → CartCo) : (s.cartM id g).hew = s.hew := rfl
@[simp] theorem cartM_arb (s : State) (id : Nat) (g : CartCo → CartCo) : (s.cartM id g).arb = s.arb := rfl
@[simp] theorem cartM_drift (s : State) (id : Nat) (g : CartCo → CartCo) : (s.cartM id g).drift = s.drift := rfl
@[simp] theorem cartM_draws (s : State) (id : Nat) (g : CartCo → CartCo) : (s.cartM id g).draws = s.draws := rfl
@[simp] theorem cartM_outs (s : State) (id : Nat) (g : CartCo → CartCo) : (s.cartM id g).outs = s.outs := rfl
@[simp] theorem cartM_line (s : State) (id : Nat) (g : CartCo → CartCo) : (s.cartM id g).line = s.line := rfl
@[simp] theorem cartM_mail (s : State) (id : Nat) (g : CartCo → CartCo) : (s.cartM id g).mail = s.mail := rfl
@[simp] theorem cartM_pending (s : State) (id : Nat) (g : CartCo → CartCo) : (s.cartM id g).pending = s.pending := rfl
@[simp] theorem cartM_rd (s : State) (id : Nat) (g : CartCo → CartCo) (a : Nat) : (s.cartM id g).rd a = s.rd a := rfl
@[simp] theorem cartM_get (s : State) (id : Nat) (g : CartCo → CartCo) (f : Fld) : (s.cartM id g).get f = s.get f := rfl
@[simp] theorem cartM_bit (s : State) (id : Nat) (g : CartCo → CartCo) (f : Fld) : (s.cartM id g).bit f = s.bit f := rfl

/-! ### cslotM -/

@[simp] theorem cslotM_regs (s : State) (coord id : Nat) (g : CartSlot → CartSlot) : (s.cslotM coord id g).regs = s.regs := rfl
@[simp] theorem cslotM_clock (s : State) (coord id : Nat) (g : CartSlot → CartSlot) : (s.cslotM coord id g).clock = s.clock := rfl
@[simp] theorem cslotM_uptime (s : State) (coord id : Nat) (g : CartSlot → CartSlot) : (s.cslotM coord id g).uptime = s.uptime := rfl
@[simp] theorem cslotM_ctl (s : State) (coord id : Nat) (g : CartSlot → CartSlot) : (s.cslotM coord id g).ctl = s.ctl := rfl
@[simp] theorem cslotM_own (s : State) (coord id : Nat) (g : CartSlot → CartSlot) : (s.cslotM coord id g).own = s.own := rfl
@[simp] theorem cslotM_boot (s : State) (coord id : Nat) (g : CartSlot → CartSlot) : (s.cslotM coord id g).boot = s.boot := rfl
@[simp] theorem cslotM_smb (s : State) (coord id : Nat) (g : CartSlot → CartSlot) : (s.cslotM coord id g).smb = s.smb := rfl
@[simp] theorem cslotM_ports (s : State) (coord id : Nat) (g : CartSlot → CartSlot) : (s.cslotM coord id g).ports = s.ports := rfl
@[simp] theorem cslotM_pcs (s : State) (coord id : Nat) (g : CartSlot → CartSlot) : (s.cslotM coord id g).pcs = s.pcs := rfl
@[simp] theorem cslotM_links (s : State) (coord id : Nat) (g : CartSlot → CartSlot) : (s.cslotM coord id g).links = s.links := rfl
@[simp] theorem cslotM_schs (s : State) (coord id : Nat) (g : CartSlot → CartSlot) : (s.cslotM coord id g).schs = s.schs := rfl
@[simp] theorem cslotM_meters (s : State) (coord id : Nat) (g : CartSlot → CartSlot) : (s.cslotM coord id g).meters = s.meters := rfl
@[simp] theorem cslotM_metStaged (s : State) (coord id : Nat) (g : CartSlot → CartSlot) : (s.cslotM coord id g).metStaged = s.metStaged := rfl
@[simp] theorem cslotM_metHold (s : State) (coord id : Nat) (g : CartSlot → CartSlot) : (s.cslotM coord id g).metHold = s.metHold := rfl
@[simp] theorem cslotM_commits (s : State) (coord id : Nat) (g : CartSlot → CartSlot) : (s.cslotM coord id g).commits = s.commits := rfl
@[simp] theorem cslotM_nextGroup (s : State) (coord id : Nat) (g : CartSlot → CartSlot) : (s.cslotM coord id g).nextGroup = s.nextGroup := rfl
@[simp] theorem cslotM_tun (s : State) (coord id : Nat) (g : CartSlot → CartSlot) : (s.cslotM coord id g).tun = s.tun := rfl
@[simp] theorem cslotM_fab (s : State) (coord id : Nat) (g : CartSlot → CartSlot) : (s.cslotM coord id g).fab = s.fab := rfl
@[simp] theorem cslotM_tim (s : State) (coord id : Nat) (g : CartSlot → CartSlot) : (s.cslotM coord id g).tim = s.tim := rfl
@[simp] theorem cslotM_macs (s : State) (coord id : Nat) (g : CartSlot → CartSlot) : (s.cslotM coord id g).macs = s.macs := rfl
@[simp] theorem cslotM_nics (s : State) (coord id : Nat) (g : CartSlot → CartSlot) : (s.cslotM coord id g).nics = s.nics := rfl
@[simp] theorem cslotM_srcs (s : State) (coord id : Nat) (g : CartSlot → CartSlot) : (s.cslotM coord id g).srcs = s.srcs := rfl
@[simp] theorem cslotM_dispOuts (s : State) (coord id : Nat) (g : CartSlot → CartSlot) : (s.cslotM coord id g).dispOuts = s.dispOuts := rfl
@[simp] theorem cslotM_store (s : State) (coord id : Nat) (g : CartSlot → CartSlot) : (s.cslotM coord id g).store = s.store := rfl
@[simp] theorem cslotM_pcx (s : State) (coord id : Nat) (g : CartSlot → CartSlot) : (s.cslotM coord id g).pcx = s.pcx := rfl
@[simp] theorem cslotM_flt (s : State) (coord id : Nat) (g : CartSlot → CartSlot) : (s.cslotM coord id g).flt = s.flt := rfl
@[simp] theorem cslotM_keys (s : State) (coord id : Nat) (g : CartSlot → CartSlot) : (s.cslotM coord id g).keys = s.keys := rfl
@[simp] theorem cslotM_usb (s : State) (coord id : Nat) (g : CartSlot → CartSlot) : (s.cslotM coord id g).usb = s.usb := rfl
@[simp] theorem cslotM_pds (s : State) (coord id : Nat) (g : CartSlot → CartSlot) : (s.cslotM coord id g).pds = s.pds := rfl
@[simp] theorem cslotM_pwr (s : State) (coord id : Nat) (g : CartSlot → CartSlot) : (s.cslotM coord id g).pwr = s.pwr := rfl
@[simp] theorem cslotM_hew (s : State) (coord id : Nat) (g : CartSlot → CartSlot) : (s.cslotM coord id g).hew = s.hew := rfl
@[simp] theorem cslotM_arb (s : State) (coord id : Nat) (g : CartSlot → CartSlot) : (s.cslotM coord id g).arb = s.arb := rfl
@[simp] theorem cslotM_drift (s : State) (coord id : Nat) (g : CartSlot → CartSlot) : (s.cslotM coord id g).drift = s.drift := rfl
@[simp] theorem cslotM_draws (s : State) (coord id : Nat) (g : CartSlot → CartSlot) : (s.cslotM coord id g).draws = s.draws := rfl
@[simp] theorem cslotM_outs (s : State) (coord id : Nat) (g : CartSlot → CartSlot) : (s.cslotM coord id g).outs = s.outs := rfl
@[simp] theorem cslotM_line (s : State) (coord id : Nat) (g : CartSlot → CartSlot) : (s.cslotM coord id g).line = s.line := rfl
@[simp] theorem cslotM_mail (s : State) (coord id : Nat) (g : CartSlot → CartSlot) : (s.cslotM coord id g).mail = s.mail := rfl
@[simp] theorem cslotM_pending (s : State) (coord id : Nat) (g : CartSlot → CartSlot) : (s.cslotM coord id g).pending = s.pending := rfl
@[simp] theorem cslotM_rd (s : State) (coord id : Nat) (g : CartSlot → CartSlot) (a : Nat) : (s.cslotM coord id g).rd a = s.rd a := rfl
@[simp] theorem cslotM_get (s : State) (coord id : Nat) (g : CartSlot → CartSlot) (f : Fld) : (s.cslotM coord id g).get f = s.get f := rfl
@[simp] theorem cslotM_bit (s : State) (coord id : Nat) (g : CartSlot → CartSlot) (f : Fld) : (s.cslotM coord id g).bit f = s.bit f := rfl

/-! ### ctlM -/

@[simp] theorem ctlM_regs (s : State) (g : CtlSt → CtlSt) : (s.ctlM g).regs = s.regs := rfl
@[simp] theorem ctlM_clock (s : State) (g : CtlSt → CtlSt) : (s.ctlM g).clock = s.clock := rfl
@[simp] theorem ctlM_uptime (s : State) (g : CtlSt → CtlSt) : (s.ctlM g).uptime = s.uptime := rfl
@[simp] theorem ctlM_own (s : State) (g : CtlSt → CtlSt) : (s.ctlM g).own = s.own := rfl
@[simp] theorem ctlM_boot (s : State) (g : CtlSt → CtlSt) : (s.ctlM g).boot = s.boot := rfl
@[simp] theorem ctlM_smb (s : State) (g : CtlSt → CtlSt) : (s.ctlM g).smb = s.smb := rfl
@[simp] theorem ctlM_ports (s : State) (g : CtlSt → CtlSt) : (s.ctlM g).ports = s.ports := rfl
@[simp] theorem ctlM_pcs (s : State) (g : CtlSt → CtlSt) : (s.ctlM g).pcs = s.pcs := rfl
@[simp] theorem ctlM_links (s : State) (g : CtlSt → CtlSt) : (s.ctlM g).links = s.links := rfl
@[simp] theorem ctlM_schs (s : State) (g : CtlSt → CtlSt) : (s.ctlM g).schs = s.schs := rfl
@[simp] theorem ctlM_meters (s : State) (g : CtlSt → CtlSt) : (s.ctlM g).meters = s.meters := rfl
@[simp] theorem ctlM_metStaged (s : State) (g : CtlSt → CtlSt) : (s.ctlM g).metStaged = s.metStaged := rfl
@[simp] theorem ctlM_metHold (s : State) (g : CtlSt → CtlSt) : (s.ctlM g).metHold = s.metHold := rfl
@[simp] theorem ctlM_commits (s : State) (g : CtlSt → CtlSt) : (s.ctlM g).commits = s.commits := rfl
@[simp] theorem ctlM_nextGroup (s : State) (g : CtlSt → CtlSt) : (s.ctlM g).nextGroup = s.nextGroup := rfl
@[simp] theorem ctlM_tun (s : State) (g : CtlSt → CtlSt) : (s.ctlM g).tun = s.tun := rfl
@[simp] theorem ctlM_fab (s : State) (g : CtlSt → CtlSt) : (s.ctlM g).fab = s.fab := rfl
@[simp] theorem ctlM_tim (s : State) (g : CtlSt → CtlSt) : (s.ctlM g).tim = s.tim := rfl
@[simp] theorem ctlM_macs (s : State) (g : CtlSt → CtlSt) : (s.ctlM g).macs = s.macs := rfl
@[simp] theorem ctlM_nics (s : State) (g : CtlSt → CtlSt) : (s.ctlM g).nics = s.nics := rfl
@[simp] theorem ctlM_srcs (s : State) (g : CtlSt → CtlSt) : (s.ctlM g).srcs = s.srcs := rfl
@[simp] theorem ctlM_dispOuts (s : State) (g : CtlSt → CtlSt) : (s.ctlM g).dispOuts = s.dispOuts := rfl
@[simp] theorem ctlM_store (s : State) (g : CtlSt → CtlSt) : (s.ctlM g).store = s.store := rfl
@[simp] theorem ctlM_pcx (s : State) (g : CtlSt → CtlSt) : (s.ctlM g).pcx = s.pcx := rfl
@[simp] theorem ctlM_flt (s : State) (g : CtlSt → CtlSt) : (s.ctlM g).flt = s.flt := rfl
@[simp] theorem ctlM_keys (s : State) (g : CtlSt → CtlSt) : (s.ctlM g).keys = s.keys := rfl
@[simp] theorem ctlM_usb (s : State) (g : CtlSt → CtlSt) : (s.ctlM g).usb = s.usb := rfl
@[simp] theorem ctlM_pds (s : State) (g : CtlSt → CtlSt) : (s.ctlM g).pds = s.pds := rfl
@[simp] theorem ctlM_pwr (s : State) (g : CtlSt → CtlSt) : (s.ctlM g).pwr = s.pwr := rfl
@[simp] theorem ctlM_hew (s : State) (g : CtlSt → CtlSt) : (s.ctlM g).hew = s.hew := rfl
@[simp] theorem ctlM_crt (s : State) (g : CtlSt → CtlSt) : (s.ctlM g).crt = s.crt := rfl
@[simp] theorem ctlM_arb (s : State) (g : CtlSt → CtlSt) : (s.ctlM g).arb = s.arb := rfl
@[simp] theorem ctlM_drift (s : State) (g : CtlSt → CtlSt) : (s.ctlM g).drift = s.drift := rfl
@[simp] theorem ctlM_draws (s : State) (g : CtlSt → CtlSt) : (s.ctlM g).draws = s.draws := rfl
@[simp] theorem ctlM_outs (s : State) (g : CtlSt → CtlSt) : (s.ctlM g).outs = s.outs := rfl
@[simp] theorem ctlM_line (s : State) (g : CtlSt → CtlSt) : (s.ctlM g).line = s.line := rfl
@[simp] theorem ctlM_mail (s : State) (g : CtlSt → CtlSt) : (s.ctlM g).mail = s.mail := rfl
@[simp] theorem ctlM_pending (s : State) (g : CtlSt → CtlSt) : (s.ctlM g).pending = s.pending := rfl
@[simp] theorem ctlM_ctl (s : State) (g : CtlSt → CtlSt) : (s.ctlM g).ctl = g s.ctl := rfl
@[simp] theorem ctlM_rd (s : State) (g : CtlSt → CtlSt) (a : Nat) : (s.ctlM g).rd a = s.rd a := rfl
@[simp] theorem ctlM_get (s : State) (g : CtlSt → CtlSt) (f : Fld) : (s.ctlM g).get f = s.get f := rfl
@[simp] theorem ctlM_bit (s : State) (g : CtlSt → CtlSt) (f : Fld) : (s.ctlM g).bit f = s.bit f := rfl

/-! ### ownM -/

@[simp] theorem ownM_regs (s : State) (g : OwnSt → OwnSt) : (s.ownM g).regs = s.regs := rfl
@[simp] theorem ownM_clock (s : State) (g : OwnSt → OwnSt) : (s.ownM g).clock = s.clock := rfl
@[simp] theorem ownM_uptime (s : State) (g : OwnSt → OwnSt) : (s.ownM g).uptime = s.uptime := rfl
@[simp] theorem ownM_ctl (s : State) (g : OwnSt → OwnSt) : (s.ownM g).ctl = s.ctl := rfl
@[simp] theorem ownM_boot (s : State) (g : OwnSt → OwnSt) : (s.ownM g).boot = s.boot := rfl
@[simp] theorem ownM_smb (s : State) (g : OwnSt → OwnSt) : (s.ownM g).smb = s.smb := rfl
@[simp] theorem ownM_ports (s : State) (g : OwnSt → OwnSt) : (s.ownM g).ports = s.ports := rfl
@[simp] theorem ownM_pcs (s : State) (g : OwnSt → OwnSt) : (s.ownM g).pcs = s.pcs := rfl
@[simp] theorem ownM_links (s : State) (g : OwnSt → OwnSt) : (s.ownM g).links = s.links := rfl
@[simp] theorem ownM_schs (s : State) (g : OwnSt → OwnSt) : (s.ownM g).schs = s.schs := rfl
@[simp] theorem ownM_meters (s : State) (g : OwnSt → OwnSt) : (s.ownM g).meters = s.meters := rfl
@[simp] theorem ownM_metStaged (s : State) (g : OwnSt → OwnSt) : (s.ownM g).metStaged = s.metStaged := rfl
@[simp] theorem ownM_metHold (s : State) (g : OwnSt → OwnSt) : (s.ownM g).metHold = s.metHold := rfl
@[simp] theorem ownM_commits (s : State) (g : OwnSt → OwnSt) : (s.ownM g).commits = s.commits := rfl
@[simp] theorem ownM_nextGroup (s : State) (g : OwnSt → OwnSt) : (s.ownM g).nextGroup = s.nextGroup := rfl
@[simp] theorem ownM_tun (s : State) (g : OwnSt → OwnSt) : (s.ownM g).tun = s.tun := rfl
@[simp] theorem ownM_fab (s : State) (g : OwnSt → OwnSt) : (s.ownM g).fab = s.fab := rfl
@[simp] theorem ownM_tim (s : State) (g : OwnSt → OwnSt) : (s.ownM g).tim = s.tim := rfl
@[simp] theorem ownM_macs (s : State) (g : OwnSt → OwnSt) : (s.ownM g).macs = s.macs := rfl
@[simp] theorem ownM_nics (s : State) (g : OwnSt → OwnSt) : (s.ownM g).nics = s.nics := rfl
@[simp] theorem ownM_srcs (s : State) (g : OwnSt → OwnSt) : (s.ownM g).srcs = s.srcs := rfl
@[simp] theorem ownM_dispOuts (s : State) (g : OwnSt → OwnSt) : (s.ownM g).dispOuts = s.dispOuts := rfl
@[simp] theorem ownM_store (s : State) (g : OwnSt → OwnSt) : (s.ownM g).store = s.store := rfl
@[simp] theorem ownM_pcx (s : State) (g : OwnSt → OwnSt) : (s.ownM g).pcx = s.pcx := rfl
@[simp] theorem ownM_flt (s : State) (g : OwnSt → OwnSt) : (s.ownM g).flt = s.flt := rfl
@[simp] theorem ownM_keys (s : State) (g : OwnSt → OwnSt) : (s.ownM g).keys = s.keys := rfl
@[simp] theorem ownM_usb (s : State) (g : OwnSt → OwnSt) : (s.ownM g).usb = s.usb := rfl
@[simp] theorem ownM_pds (s : State) (g : OwnSt → OwnSt) : (s.ownM g).pds = s.pds := rfl
@[simp] theorem ownM_pwr (s : State) (g : OwnSt → OwnSt) : (s.ownM g).pwr = s.pwr := rfl
@[simp] theorem ownM_hew (s : State) (g : OwnSt → OwnSt) : (s.ownM g).hew = s.hew := rfl
@[simp] theorem ownM_crt (s : State) (g : OwnSt → OwnSt) : (s.ownM g).crt = s.crt := rfl
@[simp] theorem ownM_arb (s : State) (g : OwnSt → OwnSt) : (s.ownM g).arb = s.arb := rfl
@[simp] theorem ownM_drift (s : State) (g : OwnSt → OwnSt) : (s.ownM g).drift = s.drift := rfl
@[simp] theorem ownM_draws (s : State) (g : OwnSt → OwnSt) : (s.ownM g).draws = s.draws := rfl
@[simp] theorem ownM_outs (s : State) (g : OwnSt → OwnSt) : (s.ownM g).outs = s.outs := rfl
@[simp] theorem ownM_line (s : State) (g : OwnSt → OwnSt) : (s.ownM g).line = s.line := rfl
@[simp] theorem ownM_mail (s : State) (g : OwnSt → OwnSt) : (s.ownM g).mail = s.mail := rfl
@[simp] theorem ownM_pending (s : State) (g : OwnSt → OwnSt) : (s.ownM g).pending = s.pending := rfl
@[simp] theorem ownM_own (s : State) (g : OwnSt → OwnSt) : (s.ownM g).own = g s.own := rfl
@[simp] theorem ownM_rd (s : State) (g : OwnSt → OwnSt) (a : Nat) : (s.ownM g).rd a = s.rd a := rfl
@[simp] theorem ownM_get (s : State) (g : OwnSt → OwnSt) (f : Fld) : (s.ownM g).get f = s.get f := rfl
@[simp] theorem ownM_bit (s : State) (g : OwnSt → OwnSt) (f : Fld) : (s.ownM g).bit f = s.bit f := rfl

/-! ### bootM -/

@[simp] theorem bootM_regs (s : State) (g : BootSt → BootSt) : (s.bootM g).regs = s.regs := rfl
@[simp] theorem bootM_clock (s : State) (g : BootSt → BootSt) : (s.bootM g).clock = s.clock := rfl
@[simp] theorem bootM_uptime (s : State) (g : BootSt → BootSt) : (s.bootM g).uptime = s.uptime := rfl
@[simp] theorem bootM_ctl (s : State) (g : BootSt → BootSt) : (s.bootM g).ctl = s.ctl := rfl
@[simp] theorem bootM_own (s : State) (g : BootSt → BootSt) : (s.bootM g).own = s.own := rfl
@[simp] theorem bootM_smb (s : State) (g : BootSt → BootSt) : (s.bootM g).smb = s.smb := rfl
@[simp] theorem bootM_ports (s : State) (g : BootSt → BootSt) : (s.bootM g).ports = s.ports := rfl
@[simp] theorem bootM_pcs (s : State) (g : BootSt → BootSt) : (s.bootM g).pcs = s.pcs := rfl
@[simp] theorem bootM_links (s : State) (g : BootSt → BootSt) : (s.bootM g).links = s.links := rfl
@[simp] theorem bootM_schs (s : State) (g : BootSt → BootSt) : (s.bootM g).schs = s.schs := rfl
@[simp] theorem bootM_meters (s : State) (g : BootSt → BootSt) : (s.bootM g).meters = s.meters := rfl
@[simp] theorem bootM_metStaged (s : State) (g : BootSt → BootSt) : (s.bootM g).metStaged = s.metStaged := rfl
@[simp] theorem bootM_metHold (s : State) (g : BootSt → BootSt) : (s.bootM g).metHold = s.metHold := rfl
@[simp] theorem bootM_commits (s : State) (g : BootSt → BootSt) : (s.bootM g).commits = s.commits := rfl
@[simp] theorem bootM_nextGroup (s : State) (g : BootSt → BootSt) : (s.bootM g).nextGroup = s.nextGroup := rfl
@[simp] theorem bootM_tun (s : State) (g : BootSt → BootSt) : (s.bootM g).tun = s.tun := rfl
@[simp] theorem bootM_fab (s : State) (g : BootSt → BootSt) : (s.bootM g).fab = s.fab := rfl
@[simp] theorem bootM_tim (s : State) (g : BootSt → BootSt) : (s.bootM g).tim = s.tim := rfl
@[simp] theorem bootM_macs (s : State) (g : BootSt → BootSt) : (s.bootM g).macs = s.macs := rfl
@[simp] theorem bootM_nics (s : State) (g : BootSt → BootSt) : (s.bootM g).nics = s.nics := rfl
@[simp] theorem bootM_srcs (s : State) (g : BootSt → BootSt) : (s.bootM g).srcs = s.srcs := rfl
@[simp] theorem bootM_dispOuts (s : State) (g : BootSt → BootSt) : (s.bootM g).dispOuts = s.dispOuts := rfl
@[simp] theorem bootM_store (s : State) (g : BootSt → BootSt) : (s.bootM g).store = s.store := rfl
@[simp] theorem bootM_pcx (s : State) (g : BootSt → BootSt) : (s.bootM g).pcx = s.pcx := rfl
@[simp] theorem bootM_flt (s : State) (g : BootSt → BootSt) : (s.bootM g).flt = s.flt := rfl
@[simp] theorem bootM_keys (s : State) (g : BootSt → BootSt) : (s.bootM g).keys = s.keys := rfl
@[simp] theorem bootM_usb (s : State) (g : BootSt → BootSt) : (s.bootM g).usb = s.usb := rfl
@[simp] theorem bootM_pds (s : State) (g : BootSt → BootSt) : (s.bootM g).pds = s.pds := rfl
@[simp] theorem bootM_pwr (s : State) (g : BootSt → BootSt) : (s.bootM g).pwr = s.pwr := rfl
@[simp] theorem bootM_hew (s : State) (g : BootSt → BootSt) : (s.bootM g).hew = s.hew := rfl
@[simp] theorem bootM_crt (s : State) (g : BootSt → BootSt) : (s.bootM g).crt = s.crt := rfl
@[simp] theorem bootM_arb (s : State) (g : BootSt → BootSt) : (s.bootM g).arb = s.arb := rfl
@[simp] theorem bootM_drift (s : State) (g : BootSt → BootSt) : (s.bootM g).drift = s.drift := rfl
@[simp] theorem bootM_draws (s : State) (g : BootSt → BootSt) : (s.bootM g).draws = s.draws := rfl
@[simp] theorem bootM_outs (s : State) (g : BootSt → BootSt) : (s.bootM g).outs = s.outs := rfl
@[simp] theorem bootM_line (s : State) (g : BootSt → BootSt) : (s.bootM g).line = s.line := rfl
@[simp] theorem bootM_mail (s : State) (g : BootSt → BootSt) : (s.bootM g).mail = s.mail := rfl
@[simp] theorem bootM_pending (s : State) (g : BootSt → BootSt) : (s.bootM g).pending = s.pending := rfl
@[simp] theorem bootM_boot (s : State) (g : BootSt → BootSt) : (s.bootM g).boot = g s.boot := rfl
@[simp] theorem bootM_rd (s : State) (g : BootSt → BootSt) (a : Nat) : (s.bootM g).rd a = s.rd a := rfl
@[simp] theorem bootM_get (s : State) (g : BootSt → BootSt) (f : Fld) : (s.bootM g).get f = s.get f := rfl
@[simp] theorem bootM_bit (s : State) (g : BootSt → BootSt) (f : Fld) : (s.bootM g).bit f = s.bit f := rfl

/-! ### smbM -/

@[simp] theorem smbM_regs (s : State) (g : SmbSt → SmbSt) : (s.smbM g).regs = s.regs := rfl
@[simp] theorem smbM_clock (s : State) (g : SmbSt → SmbSt) : (s.smbM g).clock = s.clock := rfl
@[simp] theorem smbM_uptime (s : State) (g : SmbSt → SmbSt) : (s.smbM g).uptime = s.uptime := rfl
@[simp] theorem smbM_ctl (s : State) (g : SmbSt → SmbSt) : (s.smbM g).ctl = s.ctl := rfl
@[simp] theorem smbM_own (s : State) (g : SmbSt → SmbSt) : (s.smbM g).own = s.own := rfl
@[simp] theorem smbM_boot (s : State) (g : SmbSt → SmbSt) : (s.smbM g).boot = s.boot := rfl
@[simp] theorem smbM_ports (s : State) (g : SmbSt → SmbSt) : (s.smbM g).ports = s.ports := rfl
@[simp] theorem smbM_pcs (s : State) (g : SmbSt → SmbSt) : (s.smbM g).pcs = s.pcs := rfl
@[simp] theorem smbM_links (s : State) (g : SmbSt → SmbSt) : (s.smbM g).links = s.links := rfl
@[simp] theorem smbM_schs (s : State) (g : SmbSt → SmbSt) : (s.smbM g).schs = s.schs := rfl
@[simp] theorem smbM_meters (s : State) (g : SmbSt → SmbSt) : (s.smbM g).meters = s.meters := rfl
@[simp] theorem smbM_metStaged (s : State) (g : SmbSt → SmbSt) : (s.smbM g).metStaged = s.metStaged := rfl
@[simp] theorem smbM_metHold (s : State) (g : SmbSt → SmbSt) : (s.smbM g).metHold = s.metHold := rfl
@[simp] theorem smbM_commits (s : State) (g : SmbSt → SmbSt) : (s.smbM g).commits = s.commits := rfl
@[simp] theorem smbM_nextGroup (s : State) (g : SmbSt → SmbSt) : (s.smbM g).nextGroup = s.nextGroup := rfl
@[simp] theorem smbM_tun (s : State) (g : SmbSt → SmbSt) : (s.smbM g).tun = s.tun := rfl
@[simp] theorem smbM_fab (s : State) (g : SmbSt → SmbSt) : (s.smbM g).fab = s.fab := rfl
@[simp] theorem smbM_tim (s : State) (g : SmbSt → SmbSt) : (s.smbM g).tim = s.tim := rfl
@[simp] theorem smbM_macs (s : State) (g : SmbSt → SmbSt) : (s.smbM g).macs = s.macs := rfl
@[simp] theorem smbM_nics (s : State) (g : SmbSt → SmbSt) : (s.smbM g).nics = s.nics := rfl
@[simp] theorem smbM_srcs (s : State) (g : SmbSt → SmbSt) : (s.smbM g).srcs = s.srcs := rfl
@[simp] theorem smbM_dispOuts (s : State) (g : SmbSt → SmbSt) : (s.smbM g).dispOuts = s.dispOuts := rfl
@[simp] theorem smbM_store (s : State) (g : SmbSt → SmbSt) : (s.smbM g).store = s.store := rfl
@[simp] theorem smbM_pcx (s : State) (g : SmbSt → SmbSt) : (s.smbM g).pcx = s.pcx := rfl
@[simp] theorem smbM_flt (s : State) (g : SmbSt → SmbSt) : (s.smbM g).flt = s.flt := rfl
@[simp] theorem smbM_keys (s : State) (g : SmbSt → SmbSt) : (s.smbM g).keys = s.keys := rfl
@[simp] theorem smbM_usb (s : State) (g : SmbSt → SmbSt) : (s.smbM g).usb = s.usb := rfl
@[simp] theorem smbM_pds (s : State) (g : SmbSt → SmbSt) : (s.smbM g).pds = s.pds := rfl
@[simp] theorem smbM_pwr (s : State) (g : SmbSt → SmbSt) : (s.smbM g).pwr = s.pwr := rfl
@[simp] theorem smbM_hew (s : State) (g : SmbSt → SmbSt) : (s.smbM g).hew = s.hew := rfl
@[simp] theorem smbM_crt (s : State) (g : SmbSt → SmbSt) : (s.smbM g).crt = s.crt := rfl
@[simp] theorem smbM_arb (s : State) (g : SmbSt → SmbSt) : (s.smbM g).arb = s.arb := rfl
@[simp] theorem smbM_drift (s : State) (g : SmbSt → SmbSt) : (s.smbM g).drift = s.drift := rfl
@[simp] theorem smbM_draws (s : State) (g : SmbSt → SmbSt) : (s.smbM g).draws = s.draws := rfl
@[simp] theorem smbM_outs (s : State) (g : SmbSt → SmbSt) : (s.smbM g).outs = s.outs := rfl
@[simp] theorem smbM_line (s : State) (g : SmbSt → SmbSt) : (s.smbM g).line = s.line := rfl
@[simp] theorem smbM_mail (s : State) (g : SmbSt → SmbSt) : (s.smbM g).mail = s.mail := rfl
@[simp] theorem smbM_pending (s : State) (g : SmbSt → SmbSt) : (s.smbM g).pending = s.pending := rfl
@[simp] theorem smbM_smb (s : State) (g : SmbSt → SmbSt) : (s.smbM g).smb = g s.smb := rfl
@[simp] theorem smbM_rd (s : State) (g : SmbSt → SmbSt) (a : Nat) : (s.smbM g).rd a = s.rd a := rfl
@[simp] theorem smbM_get (s : State) (g : SmbSt → SmbSt) (f : Fld) : (s.smbM g).get f = s.get f := rfl
@[simp] theorem smbM_bit (s : State) (g : SmbSt → SmbSt) (f : Fld) : (s.smbM g).bit f = s.bit f := rfl

/-! ### hewM -/

@[simp] theorem hewM_regs (s : State) (g : HewSt → HewSt) : (s.hewM g).regs = s.regs := rfl
@[simp] theorem hewM_clock (s : State) (g : HewSt → HewSt) : (s.hewM g).clock = s.clock := rfl
@[simp] theorem hewM_uptime (s : State) (g : HewSt → HewSt) : (s.hewM g).uptime = s.uptime := rfl
@[simp] theorem hewM_ctl (s : State) (g : HewSt → HewSt) : (s.hewM g).ctl = s.ctl := rfl
@[simp] theorem hewM_own (s : State) (g : HewSt → HewSt) : (s.hewM g).own = s.own := rfl
@[simp] theorem hewM_boot (s : State) (g : HewSt → HewSt) : (s.hewM g).boot = s.boot := rfl
@[simp] theorem hewM_smb (s : State) (g : HewSt → HewSt) : (s.hewM g).smb = s.smb := rfl
@[simp] theorem hewM_ports (s : State) (g : HewSt → HewSt) : (s.hewM g).ports = s.ports := rfl
@[simp] theorem hewM_pcs (s : State) (g : HewSt → HewSt) : (s.hewM g).pcs = s.pcs := rfl
@[simp] theorem hewM_links (s : State) (g : HewSt → HewSt) : (s.hewM g).links = s.links := rfl
@[simp] theorem hewM_schs (s : State) (g : HewSt → HewSt) : (s.hewM g).schs = s.schs := rfl
@[simp] theorem hewM_meters (s : State) (g : HewSt → HewSt) : (s.hewM g).meters = s.meters := rfl
@[simp] theorem hewM_metStaged (s : State) (g : HewSt → HewSt) : (s.hewM g).metStaged = s.metStaged := rfl
@[simp] theorem hewM_metHold (s : State) (g : HewSt → HewSt) : (s.hewM g).metHold = s.metHold := rfl
@[simp] theorem hewM_commits (s : State) (g : HewSt → HewSt) : (s.hewM g).commits = s.commits := rfl
@[simp] theorem hewM_nextGroup (s : State) (g : HewSt → HewSt) : (s.hewM g).nextGroup = s.nextGroup := rfl
@[simp] theorem hewM_tun (s : State) (g : HewSt → HewSt) : (s.hewM g).tun = s.tun := rfl
@[simp] theorem hewM_fab (s : State) (g : HewSt → HewSt) : (s.hewM g).fab = s.fab := rfl
@[simp] theorem hewM_tim (s : State) (g : HewSt → HewSt) : (s.hewM g).tim = s.tim := rfl
@[simp] theorem hewM_macs (s : State) (g : HewSt → HewSt) : (s.hewM g).macs = s.macs := rfl
@[simp] theorem hewM_nics (s : State) (g : HewSt → HewSt) : (s.hewM g).nics = s.nics := rfl
@[simp] theorem hewM_srcs (s : State) (g : HewSt → HewSt) : (s.hewM g).srcs = s.srcs := rfl
@[simp] theorem hewM_dispOuts (s : State) (g : HewSt → HewSt) : (s.hewM g).dispOuts = s.dispOuts := rfl
@[simp] theorem hewM_store (s : State) (g : HewSt → HewSt) : (s.hewM g).store = s.store := rfl
@[simp] theorem hewM_pcx (s : State) (g : HewSt → HewSt) : (s.hewM g).pcx = s.pcx := rfl
@[simp] theorem hewM_flt (s : State) (g : HewSt → HewSt) : (s.hewM g).flt = s.flt := rfl
@[simp] theorem hewM_keys (s : State) (g : HewSt → HewSt) : (s.hewM g).keys = s.keys := rfl
@[simp] theorem hewM_usb (s : State) (g : HewSt → HewSt) : (s.hewM g).usb = s.usb := rfl
@[simp] theorem hewM_pds (s : State) (g : HewSt → HewSt) : (s.hewM g).pds = s.pds := rfl
@[simp] theorem hewM_pwr (s : State) (g : HewSt → HewSt) : (s.hewM g).pwr = s.pwr := rfl
@[simp] theorem hewM_crt (s : State) (g : HewSt → HewSt) : (s.hewM g).crt = s.crt := rfl
@[simp] theorem hewM_arb (s : State) (g : HewSt → HewSt) : (s.hewM g).arb = s.arb := rfl
@[simp] theorem hewM_drift (s : State) (g : HewSt → HewSt) : (s.hewM g).drift = s.drift := rfl
@[simp] theorem hewM_draws (s : State) (g : HewSt → HewSt) : (s.hewM g).draws = s.draws := rfl
@[simp] theorem hewM_outs (s : State) (g : HewSt → HewSt) : (s.hewM g).outs = s.outs := rfl
@[simp] theorem hewM_line (s : State) (g : HewSt → HewSt) : (s.hewM g).line = s.line := rfl
@[simp] theorem hewM_mail (s : State) (g : HewSt → HewSt) : (s.hewM g).mail = s.mail := rfl
@[simp] theorem hewM_pending (s : State) (g : HewSt → HewSt) : (s.hewM g).pending = s.pending := rfl
@[simp] theorem hewM_hew (s : State) (g : HewSt → HewSt) : (s.hewM g).hew = g s.hew := rfl
@[simp] theorem hewM_rd (s : State) (g : HewSt → HewSt) (a : Nat) : (s.hewM g).rd a = s.rd a := rfl
@[simp] theorem hewM_get (s : State) (g : HewSt → HewSt) (f : Fld) : (s.hewM g).get f = s.get f := rfl
@[simp] theorem hewM_bit (s : State) (g : HewSt → HewSt) (f : Fld) : (s.hewM g).bit f = s.bit f := rfl

/-! ### coreM -/

@[simp] theorem coreM_regs (s : State) (n : Nat) (g : HewerSt → HewerSt) : (s.coreM n g).regs = s.regs := rfl
@[simp] theorem coreM_clock (s : State) (n : Nat) (g : HewerSt → HewerSt) : (s.coreM n g).clock = s.clock := rfl
@[simp] theorem coreM_uptime (s : State) (n : Nat) (g : HewerSt → HewerSt) : (s.coreM n g).uptime = s.uptime := rfl
@[simp] theorem coreM_ctl (s : State) (n : Nat) (g : HewerSt → HewerSt) : (s.coreM n g).ctl = s.ctl := rfl
@[simp] theorem coreM_own (s : State) (n : Nat) (g : HewerSt → HewerSt) : (s.coreM n g).own = s.own := rfl
@[simp] theorem coreM_boot (s : State) (n : Nat) (g : HewerSt → HewerSt) : (s.coreM n g).boot = s.boot := rfl
@[simp] theorem coreM_smb (s : State) (n : Nat) (g : HewerSt → HewerSt) : (s.coreM n g).smb = s.smb := rfl
@[simp] theorem coreM_ports (s : State) (n : Nat) (g : HewerSt → HewerSt) : (s.coreM n g).ports = s.ports := rfl
@[simp] theorem coreM_pcs (s : State) (n : Nat) (g : HewerSt → HewerSt) : (s.coreM n g).pcs = s.pcs := rfl
@[simp] theorem coreM_links (s : State) (n : Nat) (g : HewerSt → HewerSt) : (s.coreM n g).links = s.links := rfl
@[simp] theorem coreM_schs (s : State) (n : Nat) (g : HewerSt → HewerSt) : (s.coreM n g).schs = s.schs := rfl
@[simp] theorem coreM_meters (s : State) (n : Nat) (g : HewerSt → HewerSt) : (s.coreM n g).meters = s.meters := rfl
@[simp] theorem coreM_metStaged (s : State) (n : Nat) (g : HewerSt → HewerSt) : (s.coreM n g).metStaged = s.metStaged := rfl
@[simp] theorem coreM_metHold (s : State) (n : Nat) (g : HewerSt → HewerSt) : (s.coreM n g).metHold = s.metHold := rfl
@[simp] theorem coreM_commits (s : State) (n : Nat) (g : HewerSt → HewerSt) : (s.coreM n g).commits = s.commits := rfl
@[simp] theorem coreM_nextGroup (s : State) (n : Nat) (g : HewerSt → HewerSt) : (s.coreM n g).nextGroup = s.nextGroup := rfl
@[simp] theorem coreM_tun (s : State) (n : Nat) (g : HewerSt → HewerSt) : (s.coreM n g).tun = s.tun := rfl
@[simp] theorem coreM_fab (s : State) (n : Nat) (g : HewerSt → HewerSt) : (s.coreM n g).fab = s.fab := rfl
@[simp] theorem coreM_tim (s : State) (n : Nat) (g : HewerSt → HewerSt) : (s.coreM n g).tim = s.tim := rfl
@[simp] theorem coreM_macs (s : State) (n : Nat) (g : HewerSt → HewerSt) : (s.coreM n g).macs = s.macs := rfl
@[simp] theorem coreM_nics (s : State) (n : Nat) (g : HewerSt → HewerSt) : (s.coreM n g).nics = s.nics := rfl
@[simp] theorem coreM_srcs (s : State) (n : Nat) (g : HewerSt → HewerSt) : (s.coreM n g).srcs = s.srcs := rfl
@[simp] theorem coreM_dispOuts (s : State) (n : Nat) (g : HewerSt → HewerSt) : (s.coreM n g).dispOuts = s.dispOuts := rfl
@[simp] theorem coreM_store (s : State) (n : Nat) (g : HewerSt → HewerSt) : (s.coreM n g).store = s.store := rfl
@[simp] theorem coreM_pcx (s : State) (n : Nat) (g : HewerSt → HewerSt) : (s.coreM n g).pcx = s.pcx := rfl
@[simp] theorem coreM_flt (s : State) (n : Nat) (g : HewerSt → HewerSt) : (s.coreM n g).flt = s.flt := rfl
@[simp] theorem coreM_keys (s : State) (n : Nat) (g : HewerSt → HewerSt) : (s.coreM n g).keys = s.keys := rfl
@[simp] theorem coreM_usb (s : State) (n : Nat) (g : HewerSt → HewerSt) : (s.coreM n g).usb = s.usb := rfl
@[simp] theorem coreM_pds (s : State) (n : Nat) (g : HewerSt → HewerSt) : (s.coreM n g).pds = s.pds := rfl
@[simp] theorem coreM_pwr (s : State) (n : Nat) (g : HewerSt → HewerSt) : (s.coreM n g).pwr = s.pwr := rfl
@[simp] theorem coreM_crt (s : State) (n : Nat) (g : HewerSt → HewerSt) : (s.coreM n g).crt = s.crt := rfl
@[simp] theorem coreM_arb (s : State) (n : Nat) (g : HewerSt → HewerSt) : (s.coreM n g).arb = s.arb := rfl
@[simp] theorem coreM_drift (s : State) (n : Nat) (g : HewerSt → HewerSt) : (s.coreM n g).drift = s.drift := rfl
@[simp] theorem coreM_draws (s : State) (n : Nat) (g : HewerSt → HewerSt) : (s.coreM n g).draws = s.draws := rfl
@[simp] theorem coreM_outs (s : State) (n : Nat) (g : HewerSt → HewerSt) : (s.coreM n g).outs = s.outs := rfl
@[simp] theorem coreM_line (s : State) (n : Nat) (g : HewerSt → HewerSt) : (s.coreM n g).line = s.line := rfl
@[simp] theorem coreM_mail (s : State) (n : Nat) (g : HewerSt → HewerSt) : (s.coreM n g).mail = s.mail := rfl
@[simp] theorem coreM_pending (s : State) (n : Nat) (g : HewerSt → HewerSt) : (s.coreM n g).pending = s.pending := rfl
@[simp] theorem coreM_rd (s : State) (n : Nat) (g : HewerSt → HewerSt) (a : Nat) : (s.coreM n g).rd a = s.rd a := rfl
@[simp] theorem coreM_get (s : State) (n : Nat) (g : HewerSt → HewerSt) (f : Fld) : (s.coreM n g).get f = s.get f := rfl
@[simp] theorem coreM_bit (s : State) (n : Nat) (g : HewerSt → HewerSt) (f : Fld) : (s.coreM n g).bit f = s.bit f := rfl

/-! ### pwrM -/

@[simp] theorem pwrM_regs (s : State) (g : PwrSt → PwrSt) : (s.pwrM g).regs = s.regs := rfl
@[simp] theorem pwrM_clock (s : State) (g : PwrSt → PwrSt) : (s.pwrM g).clock = s.clock := rfl
@[simp] theorem pwrM_uptime (s : State) (g : PwrSt → PwrSt) : (s.pwrM g).uptime = s.uptime := rfl
@[simp] theorem pwrM_ctl (s : State) (g : PwrSt → PwrSt) : (s.pwrM g).ctl = s.ctl := rfl
@[simp] theorem pwrM_own (s : State) (g : PwrSt → PwrSt) : (s.pwrM g).own = s.own := rfl
@[simp] theorem pwrM_boot (s : State) (g : PwrSt → PwrSt) : (s.pwrM g).boot = s.boot := rfl
@[simp] theorem pwrM_smb (s : State) (g : PwrSt → PwrSt) : (s.pwrM g).smb = s.smb := rfl
@[simp] theorem pwrM_ports (s : State) (g : PwrSt → PwrSt) : (s.pwrM g).ports = s.ports := rfl
@[simp] theorem pwrM_pcs (s : State) (g : PwrSt → PwrSt) : (s.pwrM g).pcs = s.pcs := rfl
@[simp] theorem pwrM_links (s : State) (g : PwrSt → PwrSt) : (s.pwrM g).links = s.links := rfl
@[simp] theorem pwrM_schs (s : State) (g : PwrSt → PwrSt) : (s.pwrM g).schs = s.schs := rfl
@[simp] theorem pwrM_meters (s : State) (g : PwrSt → PwrSt) : (s.pwrM g).meters = s.meters := rfl
@[simp] theorem pwrM_metStaged (s : State) (g : PwrSt → PwrSt) : (s.pwrM g).metStaged = s.metStaged := rfl
@[simp] theorem pwrM_metHold (s : State) (g : PwrSt → PwrSt) : (s.pwrM g).metHold = s.metHold := rfl
@[simp] theorem pwrM_commits (s : State) (g : PwrSt → PwrSt) : (s.pwrM g).commits = s.commits := rfl
@[simp] theorem pwrM_nextGroup (s : State) (g : PwrSt → PwrSt) : (s.pwrM g).nextGroup = s.nextGroup := rfl
@[simp] theorem pwrM_tun (s : State) (g : PwrSt → PwrSt) : (s.pwrM g).tun = s.tun := rfl
@[simp] theorem pwrM_fab (s : State) (g : PwrSt → PwrSt) : (s.pwrM g).fab = s.fab := rfl
@[simp] theorem pwrM_tim (s : State) (g : PwrSt → PwrSt) : (s.pwrM g).tim = s.tim := rfl
@[simp] theorem pwrM_macs (s : State) (g : PwrSt → PwrSt) : (s.pwrM g).macs = s.macs := rfl
@[simp] theorem pwrM_nics (s : State) (g : PwrSt → PwrSt) : (s.pwrM g).nics = s.nics := rfl
@[simp] theorem pwrM_srcs (s : State) (g : PwrSt → PwrSt) : (s.pwrM g).srcs = s.srcs := rfl
@[simp] theorem pwrM_dispOuts (s : State) (g : PwrSt → PwrSt) : (s.pwrM g).dispOuts = s.dispOuts := rfl
@[simp] theorem pwrM_store (s : State) (g : PwrSt → PwrSt) : (s.pwrM g).store = s.store := rfl
@[simp] theorem pwrM_pcx (s : State) (g : PwrSt → PwrSt) : (s.pwrM g).pcx = s.pcx := rfl
@[simp] theorem pwrM_flt (s : State) (g : PwrSt → PwrSt) : (s.pwrM g).flt = s.flt := rfl
@[simp] theorem pwrM_keys (s : State) (g : PwrSt → PwrSt) : (s.pwrM g).keys = s.keys := rfl
@[simp] theorem pwrM_usb (s : State) (g : PwrSt → PwrSt) : (s.pwrM g).usb = s.usb := rfl
@[simp] theorem pwrM_pds (s : State) (g : PwrSt → PwrSt) : (s.pwrM g).pds = s.pds := rfl
@[simp] theorem pwrM_hew (s : State) (g : PwrSt → PwrSt) : (s.pwrM g).hew = s.hew := rfl
@[simp] theorem pwrM_crt (s : State) (g : PwrSt → PwrSt) : (s.pwrM g).crt = s.crt := rfl
@[simp] theorem pwrM_arb (s : State) (g : PwrSt → PwrSt) : (s.pwrM g).arb = s.arb := rfl
@[simp] theorem pwrM_drift (s : State) (g : PwrSt → PwrSt) : (s.pwrM g).drift = s.drift := rfl
@[simp] theorem pwrM_draws (s : State) (g : PwrSt → PwrSt) : (s.pwrM g).draws = s.draws := rfl
@[simp] theorem pwrM_outs (s : State) (g : PwrSt → PwrSt) : (s.pwrM g).outs = s.outs := rfl
@[simp] theorem pwrM_line (s : State) (g : PwrSt → PwrSt) : (s.pwrM g).line = s.line := rfl
@[simp] theorem pwrM_mail (s : State) (g : PwrSt → PwrSt) : (s.pwrM g).mail = s.mail := rfl
@[simp] theorem pwrM_pending (s : State) (g : PwrSt → PwrSt) : (s.pwrM g).pending = s.pending := rfl
@[simp] theorem pwrM_pwr (s : State) (g : PwrSt → PwrSt) : (s.pwrM g).pwr = g s.pwr := rfl
@[simp] theorem pwrM_rd (s : State) (g : PwrSt → PwrSt) (a : Nat) : (s.pwrM g).rd a = s.rd a := rfl
@[simp] theorem pwrM_get (s : State) (g : PwrSt → PwrSt) (f : Fld) : (s.pwrM g).get f = s.get f := rfl
@[simp] theorem pwrM_bit (s : State) (g : PwrSt → PwrSt) (f : Fld) : (s.pwrM g).bit f = s.bit f := rfl

/-! ### macM -/

@[simp] theorem macM_regs (s : State) (n : Nat) (g : MacSt → MacSt) : (s.macM n g).regs = s.regs := rfl
@[simp] theorem macM_clock (s : State) (n : Nat) (g : MacSt → MacSt) : (s.macM n g).clock = s.clock := rfl
@[simp] theorem macM_uptime (s : State) (n : Nat) (g : MacSt → MacSt) : (s.macM n g).uptime = s.uptime := rfl
@[simp] theorem macM_ctl (s : State) (n : Nat) (g : MacSt → MacSt) : (s.macM n g).ctl = s.ctl := rfl
@[simp] theorem macM_own (s : State) (n : Nat) (g : MacSt → MacSt) : (s.macM n g).own = s.own := rfl
@[simp] theorem macM_boot (s : State) (n : Nat) (g : MacSt → MacSt) : (s.macM n g).boot = s.boot := rfl
@[simp] theorem macM_smb (s : State) (n : Nat) (g : MacSt → MacSt) : (s.macM n g).smb = s.smb := rfl
@[simp] theorem macM_ports (s : State) (n : Nat) (g : MacSt → MacSt) : (s.macM n g).ports = s.ports := rfl
@[simp] theorem macM_pcs (s : State) (n : Nat) (g : MacSt → MacSt) : (s.macM n g).pcs = s.pcs := rfl
@[simp] theorem macM_links (s : State) (n : Nat) (g : MacSt → MacSt) : (s.macM n g).links = s.links := rfl
@[simp] theorem macM_schs (s : State) (n : Nat) (g : MacSt → MacSt) : (s.macM n g).schs = s.schs := rfl
@[simp] theorem macM_meters (s : State) (n : Nat) (g : MacSt → MacSt) : (s.macM n g).meters = s.meters := rfl
@[simp] theorem macM_metStaged (s : State) (n : Nat) (g : MacSt → MacSt) : (s.macM n g).metStaged = s.metStaged := rfl
@[simp] theorem macM_metHold (s : State) (n : Nat) (g : MacSt → MacSt) : (s.macM n g).metHold = s.metHold := rfl
@[simp] theorem macM_commits (s : State) (n : Nat) (g : MacSt → MacSt) : (s.macM n g).commits = s.commits := rfl
@[simp] theorem macM_nextGroup (s : State) (n : Nat) (g : MacSt → MacSt) : (s.macM n g).nextGroup = s.nextGroup := rfl
@[simp] theorem macM_tun (s : State) (n : Nat) (g : MacSt → MacSt) : (s.macM n g).tun = s.tun := rfl
@[simp] theorem macM_fab (s : State) (n : Nat) (g : MacSt → MacSt) : (s.macM n g).fab = s.fab := rfl
@[simp] theorem macM_tim (s : State) (n : Nat) (g : MacSt → MacSt) : (s.macM n g).tim = s.tim := rfl
@[simp] theorem macM_nics (s : State) (n : Nat) (g : MacSt → MacSt) : (s.macM n g).nics = s.nics := rfl
@[simp] theorem macM_srcs (s : State) (n : Nat) (g : MacSt → MacSt) : (s.macM n g).srcs = s.srcs := rfl
@[simp] theorem macM_dispOuts (s : State) (n : Nat) (g : MacSt → MacSt) : (s.macM n g).dispOuts = s.dispOuts := rfl
@[simp] theorem macM_store (s : State) (n : Nat) (g : MacSt → MacSt) : (s.macM n g).store = s.store := rfl
@[simp] theorem macM_pcx (s : State) (n : Nat) (g : MacSt → MacSt) : (s.macM n g).pcx = s.pcx := rfl
@[simp] theorem macM_flt (s : State) (n : Nat) (g : MacSt → MacSt) : (s.macM n g).flt = s.flt := rfl
@[simp] theorem macM_keys (s : State) (n : Nat) (g : MacSt → MacSt) : (s.macM n g).keys = s.keys := rfl
@[simp] theorem macM_usb (s : State) (n : Nat) (g : MacSt → MacSt) : (s.macM n g).usb = s.usb := rfl
@[simp] theorem macM_pds (s : State) (n : Nat) (g : MacSt → MacSt) : (s.macM n g).pds = s.pds := rfl
@[simp] theorem macM_pwr (s : State) (n : Nat) (g : MacSt → MacSt) : (s.macM n g).pwr = s.pwr := rfl
@[simp] theorem macM_hew (s : State) (n : Nat) (g : MacSt → MacSt) : (s.macM n g).hew = s.hew := rfl
@[simp] theorem macM_crt (s : State) (n : Nat) (g : MacSt → MacSt) : (s.macM n g).crt = s.crt := rfl
@[simp] theorem macM_arb (s : State) (n : Nat) (g : MacSt → MacSt) : (s.macM n g).arb = s.arb := rfl
@[simp] theorem macM_drift (s : State) (n : Nat) (g : MacSt → MacSt) : (s.macM n g).drift = s.drift := rfl
@[simp] theorem macM_draws (s : State) (n : Nat) (g : MacSt → MacSt) : (s.macM n g).draws = s.draws := rfl
@[simp] theorem macM_outs (s : State) (n : Nat) (g : MacSt → MacSt) : (s.macM n g).outs = s.outs := rfl
@[simp] theorem macM_line (s : State) (n : Nat) (g : MacSt → MacSt) : (s.macM n g).line = s.line := rfl
@[simp] theorem macM_mail (s : State) (n : Nat) (g : MacSt → MacSt) : (s.macM n g).mail = s.mail := rfl
@[simp] theorem macM_pending (s : State) (n : Nat) (g : MacSt → MacSt) : (s.macM n g).pending = s.pending := rfl
@[simp] theorem macM_macs (s : State) (n : Nat) (g : MacSt → MacSt) : (s.macM n g).macs = s.macs.modify n g := rfl
@[simp] theorem macM_rd (s : State) (n : Nat) (g : MacSt → MacSt) (a : Nat) : (s.macM n g).rd a = s.rd a := rfl
@[simp] theorem macM_get (s : State) (n : Nat) (g : MacSt → MacSt) (f : Fld) : (s.macM n g).get f = s.get f := rfl
@[simp] theorem macM_bit (s : State) (n : Nat) (g : MacSt → MacSt) (f : Fld) : (s.macM n g).bit f = s.bit f := rfl

/-! ### nicM -/

@[simp] theorem nicM_regs (s : State) (f : Nat) (g : NicSt → NicSt) : (s.nicM f g).regs = s.regs := rfl
@[simp] theorem nicM_clock (s : State) (f : Nat) (g : NicSt → NicSt) : (s.nicM f g).clock = s.clock := rfl
@[simp] theorem nicM_uptime (s : State) (f : Nat) (g : NicSt → NicSt) : (s.nicM f g).uptime = s.uptime := rfl
@[simp] theorem nicM_ctl (s : State) (f : Nat) (g : NicSt → NicSt) : (s.nicM f g).ctl = s.ctl := rfl
@[simp] theorem nicM_own (s : State) (f : Nat) (g : NicSt → NicSt) : (s.nicM f g).own = s.own := rfl
@[simp] theorem nicM_boot (s : State) (f : Nat) (g : NicSt → NicSt) : (s.nicM f g).boot = s.boot := rfl
@[simp] theorem nicM_smb (s : State) (f : Nat) (g : NicSt → NicSt) : (s.nicM f g).smb = s.smb := rfl
@[simp] theorem nicM_ports (s : State) (f : Nat) (g : NicSt → NicSt) : (s.nicM f g).ports = s.ports := rfl
@[simp] theorem nicM_pcs (s : State) (f : Nat) (g : NicSt → NicSt) : (s.nicM f g).pcs = s.pcs := rfl
@[simp] theorem nicM_links (s : State) (f : Nat) (g : NicSt → NicSt) : (s.nicM f g).links = s.links := rfl
@[simp] theorem nicM_schs (s : State) (f : Nat) (g : NicSt → NicSt) : (s.nicM f g).schs = s.schs := rfl
@[simp] theorem nicM_meters (s : State) (f : Nat) (g : NicSt → NicSt) : (s.nicM f g).meters = s.meters := rfl
@[simp] theorem nicM_metStaged (s : State) (f : Nat) (g : NicSt → NicSt) : (s.nicM f g).metStaged = s.metStaged := rfl
@[simp] theorem nicM_metHold (s : State) (f : Nat) (g : NicSt → NicSt) : (s.nicM f g).metHold = s.metHold := rfl
@[simp] theorem nicM_commits (s : State) (f : Nat) (g : NicSt → NicSt) : (s.nicM f g).commits = s.commits := rfl
@[simp] theorem nicM_nextGroup (s : State) (f : Nat) (g : NicSt → NicSt) : (s.nicM f g).nextGroup = s.nextGroup := rfl
@[simp] theorem nicM_tun (s : State) (f : Nat) (g : NicSt → NicSt) : (s.nicM f g).tun = s.tun := rfl
@[simp] theorem nicM_fab (s : State) (f : Nat) (g : NicSt → NicSt) : (s.nicM f g).fab = s.fab := rfl
@[simp] theorem nicM_tim (s : State) (f : Nat) (g : NicSt → NicSt) : (s.nicM f g).tim = s.tim := rfl
@[simp] theorem nicM_macs (s : State) (f : Nat) (g : NicSt → NicSt) : (s.nicM f g).macs = s.macs := rfl
@[simp] theorem nicM_srcs (s : State) (f : Nat) (g : NicSt → NicSt) : (s.nicM f g).srcs = s.srcs := rfl
@[simp] theorem nicM_dispOuts (s : State) (f : Nat) (g : NicSt → NicSt) : (s.nicM f g).dispOuts = s.dispOuts := rfl
@[simp] theorem nicM_store (s : State) (f : Nat) (g : NicSt → NicSt) : (s.nicM f g).store = s.store := rfl
@[simp] theorem nicM_pcx (s : State) (f : Nat) (g : NicSt → NicSt) : (s.nicM f g).pcx = s.pcx := rfl
@[simp] theorem nicM_flt (s : State) (f : Nat) (g : NicSt → NicSt) : (s.nicM f g).flt = s.flt := rfl
@[simp] theorem nicM_keys (s : State) (f : Nat) (g : NicSt → NicSt) : (s.nicM f g).keys = s.keys := rfl
@[simp] theorem nicM_usb (s : State) (f : Nat) (g : NicSt → NicSt) : (s.nicM f g).usb = s.usb := rfl
@[simp] theorem nicM_pds (s : State) (f : Nat) (g : NicSt → NicSt) : (s.nicM f g).pds = s.pds := rfl
@[simp] theorem nicM_pwr (s : State) (f : Nat) (g : NicSt → NicSt) : (s.nicM f g).pwr = s.pwr := rfl
@[simp] theorem nicM_hew (s : State) (f : Nat) (g : NicSt → NicSt) : (s.nicM f g).hew = s.hew := rfl
@[simp] theorem nicM_crt (s : State) (f : Nat) (g : NicSt → NicSt) : (s.nicM f g).crt = s.crt := rfl
@[simp] theorem nicM_arb (s : State) (f : Nat) (g : NicSt → NicSt) : (s.nicM f g).arb = s.arb := rfl
@[simp] theorem nicM_drift (s : State) (f : Nat) (g : NicSt → NicSt) : (s.nicM f g).drift = s.drift := rfl
@[simp] theorem nicM_draws (s : State) (f : Nat) (g : NicSt → NicSt) : (s.nicM f g).draws = s.draws := rfl
@[simp] theorem nicM_outs (s : State) (f : Nat) (g : NicSt → NicSt) : (s.nicM f g).outs = s.outs := rfl
@[simp] theorem nicM_line (s : State) (f : Nat) (g : NicSt → NicSt) : (s.nicM f g).line = s.line := rfl
@[simp] theorem nicM_mail (s : State) (f : Nat) (g : NicSt → NicSt) : (s.nicM f g).mail = s.mail := rfl
@[simp] theorem nicM_pending (s : State) (f : Nat) (g : NicSt → NicSt) : (s.nicM f g).pending = s.pending := rfl
@[simp] theorem nicM_nics (s : State) (f : Nat) (g : NicSt → NicSt) : (s.nicM f g).nics = s.nics.modify f g := rfl
@[simp] theorem nicM_rd (s : State) (f : Nat) (g : NicSt → NicSt) (a : Nat) : (s.nicM f g).rd a = s.rd a := rfl
@[simp] theorem nicM_get (s : State) (f : Nat) (g : NicSt → NicSt) (z : Fld) : (s.nicM f g).get z = s.get z := rfl
@[simp] theorem nicM_bit (s : State) (f : Nat) (g : NicSt → NicSt) (z : Fld) : (s.nicM f g).bit z = s.bit z := rfl

/-! ### doutM -/

@[simp] theorem doutM_regs (s : State) (k : Nat) (g : OutSt → OutSt) : (s.doutM k g).regs = s.regs := rfl
@[simp] theorem doutM_clock (s : State) (k : Nat) (g : OutSt → OutSt) : (s.doutM k g).clock = s.clock := rfl
@[simp] theorem doutM_uptime (s : State) (k : Nat) (g : OutSt → OutSt) : (s.doutM k g).uptime = s.uptime := rfl
@[simp] theorem doutM_ctl (s : State) (k : Nat) (g : OutSt → OutSt) : (s.doutM k g).ctl = s.ctl := rfl
@[simp] theorem doutM_own (s : State) (k : Nat) (g : OutSt → OutSt) : (s.doutM k g).own = s.own := rfl
@[simp] theorem doutM_boot (s : State) (k : Nat) (g : OutSt → OutSt) : (s.doutM k g).boot = s.boot := rfl
@[simp] theorem doutM_smb (s : State) (k : Nat) (g : OutSt → OutSt) : (s.doutM k g).smb = s.smb := rfl
@[simp] theorem doutM_ports (s : State) (k : Nat) (g : OutSt → OutSt) : (s.doutM k g).ports = s.ports := rfl
@[simp] theorem doutM_pcs (s : State) (k : Nat) (g : OutSt → OutSt) : (s.doutM k g).pcs = s.pcs := rfl
@[simp] theorem doutM_links (s : State) (k : Nat) (g : OutSt → OutSt) : (s.doutM k g).links = s.links := rfl
@[simp] theorem doutM_schs (s : State) (k : Nat) (g : OutSt → OutSt) : (s.doutM k g).schs = s.schs := rfl
@[simp] theorem doutM_meters (s : State) (k : Nat) (g : OutSt → OutSt) : (s.doutM k g).meters = s.meters := rfl
@[simp] theorem doutM_metStaged (s : State) (k : Nat) (g : OutSt → OutSt) : (s.doutM k g).metStaged = s.metStaged := rfl
@[simp] theorem doutM_metHold (s : State) (k : Nat) (g : OutSt → OutSt) : (s.doutM k g).metHold = s.metHold := rfl
@[simp] theorem doutM_commits (s : State) (k : Nat) (g : OutSt → OutSt) : (s.doutM k g).commits = s.commits := rfl
@[simp] theorem doutM_nextGroup (s : State) (k : Nat) (g : OutSt → OutSt) : (s.doutM k g).nextGroup = s.nextGroup := rfl
@[simp] theorem doutM_tun (s : State) (k : Nat) (g : OutSt → OutSt) : (s.doutM k g).tun = s.tun := rfl
@[simp] theorem doutM_fab (s : State) (k : Nat) (g : OutSt → OutSt) : (s.doutM k g).fab = s.fab := rfl
@[simp] theorem doutM_tim (s : State) (k : Nat) (g : OutSt → OutSt) : (s.doutM k g).tim = s.tim := rfl
@[simp] theorem doutM_macs (s : State) (k : Nat) (g : OutSt → OutSt) : (s.doutM k g).macs = s.macs := rfl
@[simp] theorem doutM_nics (s : State) (k : Nat) (g : OutSt → OutSt) : (s.doutM k g).nics = s.nics := rfl
@[simp] theorem doutM_srcs (s : State) (k : Nat) (g : OutSt → OutSt) : (s.doutM k g).srcs = s.srcs := rfl
@[simp] theorem doutM_store (s : State) (k : Nat) (g : OutSt → OutSt) : (s.doutM k g).store = s.store := rfl
@[simp] theorem doutM_pcx (s : State) (k : Nat) (g : OutSt → OutSt) : (s.doutM k g).pcx = s.pcx := rfl
@[simp] theorem doutM_flt (s : State) (k : Nat) (g : OutSt → OutSt) : (s.doutM k g).flt = s.flt := rfl
@[simp] theorem doutM_keys (s : State) (k : Nat) (g : OutSt → OutSt) : (s.doutM k g).keys = s.keys := rfl
@[simp] theorem doutM_usb (s : State) (k : Nat) (g : OutSt → OutSt) : (s.doutM k g).usb = s.usb := rfl
@[simp] theorem doutM_pds (s : State) (k : Nat) (g : OutSt → OutSt) : (s.doutM k g).pds = s.pds := rfl
@[simp] theorem doutM_pwr (s : State) (k : Nat) (g : OutSt → OutSt) : (s.doutM k g).pwr = s.pwr := rfl
@[simp] theorem doutM_hew (s : State) (k : Nat) (g : OutSt → OutSt) : (s.doutM k g).hew = s.hew := rfl
@[simp] theorem doutM_crt (s : State) (k : Nat) (g : OutSt → OutSt) : (s.doutM k g).crt = s.crt := rfl
@[simp] theorem doutM_arb (s : State) (k : Nat) (g : OutSt → OutSt) : (s.doutM k g).arb = s.arb := rfl
@[simp] theorem doutM_drift (s : State) (k : Nat) (g : OutSt → OutSt) : (s.doutM k g).drift = s.drift := rfl
@[simp] theorem doutM_draws (s : State) (k : Nat) (g : OutSt → OutSt) : (s.doutM k g).draws = s.draws := rfl
@[simp] theorem doutM_outs (s : State) (k : Nat) (g : OutSt → OutSt) : (s.doutM k g).outs = s.outs := rfl
@[simp] theorem doutM_line (s : State) (k : Nat) (g : OutSt → OutSt) : (s.doutM k g).line = s.line := rfl
@[simp] theorem doutM_mail (s : State) (k : Nat) (g : OutSt → OutSt) : (s.doutM k g).mail = s.mail := rfl
@[simp] theorem doutM_pending (s : State) (k : Nat) (g : OutSt → OutSt) : (s.doutM k g).pending = s.pending := rfl
@[simp] theorem doutM_dispOuts (s : State) (k : Nat) (g : OutSt → OutSt) : (s.doutM k g).dispOuts = s.dispOuts.modify k g := rfl
@[simp] theorem doutM_rd (s : State) (k : Nat) (g : OutSt → OutSt) (a : Nat) : (s.doutM k g).rd a = s.rd a := rfl
@[simp] theorem doutM_get (s : State) (k : Nat) (g : OutSt → OutSt) (f : Fld) : (s.doutM k g).get f = s.get f := rfl
@[simp] theorem doutM_bit (s : State) (k : Nat) (g : OutSt → OutSt) (f : Fld) : (s.doutM k g).bit f = s.bit f := rfl

/-! ### hotM -/

@[simp] theorem hotM_regs (s : State) (g : HotPlug → HotPlug) : (s.hotM g).regs = s.regs := rfl
@[simp] theorem hotM_clock (s : State) (g : HotPlug → HotPlug) : (s.hotM g).clock = s.clock := rfl
@[simp] theorem hotM_uptime (s : State) (g : HotPlug → HotPlug) : (s.hotM g).uptime = s.uptime := rfl
@[simp] theorem hotM_ctl (s : State) (g : HotPlug → HotPlug) : (s.hotM g).ctl = s.ctl := rfl
@[simp] theorem hotM_own (s : State) (g : HotPlug → HotPlug) : (s.hotM g).own = s.own := rfl
@[simp] theorem hotM_boot (s : State) (g : HotPlug → HotPlug) : (s.hotM g).boot = s.boot := rfl
@[simp] theorem hotM_smb (s : State) (g : HotPlug → HotPlug) : (s.hotM g).smb = s.smb := rfl
@[simp] theorem hotM_ports (s : State) (g : HotPlug → HotPlug) : (s.hotM g).ports = s.ports := rfl
@[simp] theorem hotM_pcs (s : State) (g : HotPlug → HotPlug) : (s.hotM g).pcs = s.pcs := rfl
@[simp] theorem hotM_links (s : State) (g : HotPlug → HotPlug) : (s.hotM g).links = s.links := rfl
@[simp] theorem hotM_schs (s : State) (g : HotPlug → HotPlug) : (s.hotM g).schs = s.schs := rfl
@[simp] theorem hotM_meters (s : State) (g : HotPlug → HotPlug) : (s.hotM g).meters = s.meters := rfl
@[simp] theorem hotM_metStaged (s : State) (g : HotPlug → HotPlug) : (s.hotM g).metStaged = s.metStaged := rfl
@[simp] theorem hotM_metHold (s : State) (g : HotPlug → HotPlug) : (s.hotM g).metHold = s.metHold := rfl
@[simp] theorem hotM_commits (s : State) (g : HotPlug → HotPlug) : (s.hotM g).commits = s.commits := rfl
@[simp] theorem hotM_nextGroup (s : State) (g : HotPlug → HotPlug) : (s.hotM g).nextGroup = s.nextGroup := rfl
@[simp] theorem hotM_tun (s : State) (g : HotPlug → HotPlug) : (s.hotM g).tun = s.tun := rfl
@[simp] theorem hotM_fab (s : State) (g : HotPlug → HotPlug) : (s.hotM g).fab = s.fab := rfl
@[simp] theorem hotM_tim (s : State) (g : HotPlug → HotPlug) : (s.hotM g).tim = s.tim := rfl
@[simp] theorem hotM_macs (s : State) (g : HotPlug → HotPlug) : (s.hotM g).macs = s.macs := rfl
@[simp] theorem hotM_nics (s : State) (g : HotPlug → HotPlug) : (s.hotM g).nics = s.nics := rfl
@[simp] theorem hotM_srcs (s : State) (g : HotPlug → HotPlug) : (s.hotM g).srcs = s.srcs := rfl
@[simp] theorem hotM_dispOuts (s : State) (g : HotPlug → HotPlug) : (s.hotM g).dispOuts = s.dispOuts := rfl
@[simp] theorem hotM_store (s : State) (g : HotPlug → HotPlug) : (s.hotM g).store = s.store := rfl
@[simp] theorem hotM_flt (s : State) (g : HotPlug → HotPlug) : (s.hotM g).flt = s.flt := rfl
@[simp] theorem hotM_keys (s : State) (g : HotPlug → HotPlug) : (s.hotM g).keys = s.keys := rfl
@[simp] theorem hotM_usb (s : State) (g : HotPlug → HotPlug) : (s.hotM g).usb = s.usb := rfl
@[simp] theorem hotM_pds (s : State) (g : HotPlug → HotPlug) : (s.hotM g).pds = s.pds := rfl
@[simp] theorem hotM_pwr (s : State) (g : HotPlug → HotPlug) : (s.hotM g).pwr = s.pwr := rfl
@[simp] theorem hotM_hew (s : State) (g : HotPlug → HotPlug) : (s.hotM g).hew = s.hew := rfl
@[simp] theorem hotM_crt (s : State) (g : HotPlug → HotPlug) : (s.hotM g).crt = s.crt := rfl
@[simp] theorem hotM_arb (s : State) (g : HotPlug → HotPlug) : (s.hotM g).arb = s.arb := rfl
@[simp] theorem hotM_drift (s : State) (g : HotPlug → HotPlug) : (s.hotM g).drift = s.drift := rfl
@[simp] theorem hotM_draws (s : State) (g : HotPlug → HotPlug) : (s.hotM g).draws = s.draws := rfl
@[simp] theorem hotM_outs (s : State) (g : HotPlug → HotPlug) : (s.hotM g).outs = s.outs := rfl
@[simp] theorem hotM_line (s : State) (g : HotPlug → HotPlug) : (s.hotM g).line = s.line := rfl
@[simp] theorem hotM_mail (s : State) (g : HotPlug → HotPlug) : (s.hotM g).mail = s.mail := rfl
@[simp] theorem hotM_pending (s : State) (g : HotPlug → HotPlug) : (s.hotM g).pending = s.pending := rfl
@[simp] theorem hotM_rd (s : State) (g : HotPlug → HotPlug) (a : Nat) : (s.hotM g).rd a = s.rd a := rfl
@[simp] theorem hotM_get (s : State) (g : HotPlug → HotPlug) (f : Fld) : (s.hotM g).get f = s.get f := rfl
@[simp] theorem hotM_bit (s : State) (g : HotPlug → HotPlug) (f : Fld) : (s.hotM g).bit f = s.bit f := rfl

/-! ### usbM -/

@[simp] theorem usbM_regs (s : State) (g : UsbSt → UsbSt) : (s.usbM g).regs = s.regs := rfl
@[simp] theorem usbM_clock (s : State) (g : UsbSt → UsbSt) : (s.usbM g).clock = s.clock := rfl
@[simp] theorem usbM_uptime (s : State) (g : UsbSt → UsbSt) : (s.usbM g).uptime = s.uptime := rfl
@[simp] theorem usbM_ctl (s : State) (g : UsbSt → UsbSt) : (s.usbM g).ctl = s.ctl := rfl
@[simp] theorem usbM_own (s : State) (g : UsbSt → UsbSt) : (s.usbM g).own = s.own := rfl
@[simp] theorem usbM_boot (s : State) (g : UsbSt → UsbSt) : (s.usbM g).boot = s.boot := rfl
@[simp] theorem usbM_smb (s : State) (g : UsbSt → UsbSt) : (s.usbM g).smb = s.smb := rfl
@[simp] theorem usbM_ports (s : State) (g : UsbSt → UsbSt) : (s.usbM g).ports = s.ports := rfl
@[simp] theorem usbM_pcs (s : State) (g : UsbSt → UsbSt) : (s.usbM g).pcs = s.pcs := rfl
@[simp] theorem usbM_links (s : State) (g : UsbSt → UsbSt) : (s.usbM g).links = s.links := rfl
@[simp] theorem usbM_schs (s : State) (g : UsbSt → UsbSt) : (s.usbM g).schs = s.schs := rfl
@[simp] theorem usbM_meters (s : State) (g : UsbSt → UsbSt) : (s.usbM g).meters = s.meters := rfl
@[simp] theorem usbM_metStaged (s : State) (g : UsbSt → UsbSt) : (s.usbM g).metStaged = s.metStaged := rfl
@[simp] theorem usbM_metHold (s : State) (g : UsbSt → UsbSt) : (s.usbM g).metHold = s.metHold := rfl
@[simp] theorem usbM_commits (s : State) (g : UsbSt → UsbSt) : (s.usbM g).commits = s.commits := rfl
@[simp] theorem usbM_nextGroup (s : State) (g : UsbSt → UsbSt) : (s.usbM g).nextGroup = s.nextGroup := rfl
@[simp] theorem usbM_tun (s : State) (g : UsbSt → UsbSt) : (s.usbM g).tun = s.tun := rfl
@[simp] theorem usbM_fab (s : State) (g : UsbSt → UsbSt) : (s.usbM g).fab = s.fab := rfl
@[simp] theorem usbM_tim (s : State) (g : UsbSt → UsbSt) : (s.usbM g).tim = s.tim := rfl
@[simp] theorem usbM_macs (s : State) (g : UsbSt → UsbSt) : (s.usbM g).macs = s.macs := rfl
@[simp] theorem usbM_nics (s : State) (g : UsbSt → UsbSt) : (s.usbM g).nics = s.nics := rfl
@[simp] theorem usbM_srcs (s : State) (g : UsbSt → UsbSt) : (s.usbM g).srcs = s.srcs := rfl
@[simp] theorem usbM_dispOuts (s : State) (g : UsbSt → UsbSt) : (s.usbM g).dispOuts = s.dispOuts := rfl
@[simp] theorem usbM_store (s : State) (g : UsbSt → UsbSt) : (s.usbM g).store = s.store := rfl
@[simp] theorem usbM_pcx (s : State) (g : UsbSt → UsbSt) : (s.usbM g).pcx = s.pcx := rfl
@[simp] theorem usbM_flt (s : State) (g : UsbSt → UsbSt) : (s.usbM g).flt = s.flt := rfl
@[simp] theorem usbM_keys (s : State) (g : UsbSt → UsbSt) : (s.usbM g).keys = s.keys := rfl
@[simp] theorem usbM_pds (s : State) (g : UsbSt → UsbSt) : (s.usbM g).pds = s.pds := rfl
@[simp] theorem usbM_pwr (s : State) (g : UsbSt → UsbSt) : (s.usbM g).pwr = s.pwr := rfl
@[simp] theorem usbM_hew (s : State) (g : UsbSt → UsbSt) : (s.usbM g).hew = s.hew := rfl
@[simp] theorem usbM_crt (s : State) (g : UsbSt → UsbSt) : (s.usbM g).crt = s.crt := rfl
@[simp] theorem usbM_arb (s : State) (g : UsbSt → UsbSt) : (s.usbM g).arb = s.arb := rfl
@[simp] theorem usbM_drift (s : State) (g : UsbSt → UsbSt) : (s.usbM g).drift = s.drift := rfl
@[simp] theorem usbM_draws (s : State) (g : UsbSt → UsbSt) : (s.usbM g).draws = s.draws := rfl
@[simp] theorem usbM_outs (s : State) (g : UsbSt → UsbSt) : (s.usbM g).outs = s.outs := rfl
@[simp] theorem usbM_line (s : State) (g : UsbSt → UsbSt) : (s.usbM g).line = s.line := rfl
@[simp] theorem usbM_mail (s : State) (g : UsbSt → UsbSt) : (s.usbM g).mail = s.mail := rfl
@[simp] theorem usbM_pending (s : State) (g : UsbSt → UsbSt) : (s.usbM g).pending = s.pending := rfl
@[simp] theorem usbM_usb (s : State) (g : UsbSt → UsbSt) : (s.usbM g).usb = g s.usb := rfl
@[simp] theorem usbM_rd (s : State) (g : UsbSt → UsbSt) (a : Nat) : (s.usbM g).rd a = s.rd a := rfl
@[simp] theorem usbM_get (s : State) (g : UsbSt → UsbSt) (f : Fld) : (s.usbM g).get f = s.get f := rfl
@[simp] theorem usbM_bit (s : State) (g : UsbSt → UsbSt) (f : Fld) : (s.usbM g).bit f = s.bit f := rfl

/-! ### pcsM -/

@[simp] theorem pcsM_regs (s : State) (p : Nat) (g : PcsSt → PcsSt) : (s.pcsM p g).regs = s.regs := rfl
@[simp] theorem pcsM_clock (s : State) (p : Nat) (g : PcsSt → PcsSt) : (s.pcsM p g).clock = s.clock := rfl
@[simp] theorem pcsM_uptime (s : State) (p : Nat) (g : PcsSt → PcsSt) : (s.pcsM p g).uptime = s.uptime := rfl
@[simp] theorem pcsM_ctl (s : State) (p : Nat) (g : PcsSt → PcsSt) : (s.pcsM p g).ctl = s.ctl := rfl
@[simp] theorem pcsM_own (s : State) (p : Nat) (g : PcsSt → PcsSt) : (s.pcsM p g).own = s.own := rfl
@[simp] theorem pcsM_boot (s : State) (p : Nat) (g : PcsSt → PcsSt) : (s.pcsM p g).boot = s.boot := rfl
@[simp] theorem pcsM_smb (s : State) (p : Nat) (g : PcsSt → PcsSt) : (s.pcsM p g).smb = s.smb := rfl
@[simp] theorem pcsM_ports (s : State) (p : Nat) (g : PcsSt → PcsSt) : (s.pcsM p g).ports = s.ports := rfl
@[simp] theorem pcsM_links (s : State) (p : Nat) (g : PcsSt → PcsSt) : (s.pcsM p g).links = s.links := rfl
@[simp] theorem pcsM_schs (s : State) (p : Nat) (g : PcsSt → PcsSt) : (s.pcsM p g).schs = s.schs := rfl
@[simp] theorem pcsM_meters (s : State) (p : Nat) (g : PcsSt → PcsSt) : (s.pcsM p g).meters = s.meters := rfl
@[simp] theorem pcsM_metStaged (s : State) (p : Nat) (g : PcsSt → PcsSt) : (s.pcsM p g).metStaged = s.metStaged := rfl
@[simp] theorem pcsM_metHold (s : State) (p : Nat) (g : PcsSt → PcsSt) : (s.pcsM p g).metHold = s.metHold := rfl
@[simp] theorem pcsM_commits (s : State) (p : Nat) (g : PcsSt → PcsSt) : (s.pcsM p g).commits = s.commits := rfl
@[simp] theorem pcsM_nextGroup (s : State) (p : Nat) (g : PcsSt → PcsSt) : (s.pcsM p g).nextGroup = s.nextGroup := rfl
@[simp] theorem pcsM_tun (s : State) (p : Nat) (g : PcsSt → PcsSt) : (s.pcsM p g).tun = s.tun := rfl
@[simp] theorem pcsM_fab (s : State) (p : Nat) (g : PcsSt → PcsSt) : (s.pcsM p g).fab = s.fab := rfl
@[simp] theorem pcsM_tim (s : State) (p : Nat) (g : PcsSt → PcsSt) : (s.pcsM p g).tim = s.tim := rfl
@[simp] theorem pcsM_macs (s : State) (p : Nat) (g : PcsSt → PcsSt) : (s.pcsM p g).macs = s.macs := rfl
@[simp] theorem pcsM_nics (s : State) (p : Nat) (g : PcsSt → PcsSt) : (s.pcsM p g).nics = s.nics := rfl
@[simp] theorem pcsM_srcs (s : State) (p : Nat) (g : PcsSt → PcsSt) : (s.pcsM p g).srcs = s.srcs := rfl
@[simp] theorem pcsM_dispOuts (s : State) (p : Nat) (g : PcsSt → PcsSt) : (s.pcsM p g).dispOuts = s.dispOuts := rfl
@[simp] theorem pcsM_store (s : State) (p : Nat) (g : PcsSt → PcsSt) : (s.pcsM p g).store = s.store := rfl
@[simp] theorem pcsM_pcx (s : State) (p : Nat) (g : PcsSt → PcsSt) : (s.pcsM p g).pcx = s.pcx := rfl
@[simp] theorem pcsM_flt (s : State) (p : Nat) (g : PcsSt → PcsSt) : (s.pcsM p g).flt = s.flt := rfl
@[simp] theorem pcsM_keys (s : State) (p : Nat) (g : PcsSt → PcsSt) : (s.pcsM p g).keys = s.keys := rfl
@[simp] theorem pcsM_usb (s : State) (p : Nat) (g : PcsSt → PcsSt) : (s.pcsM p g).usb = s.usb := rfl
@[simp] theorem pcsM_pds (s : State) (p : Nat) (g : PcsSt → PcsSt) : (s.pcsM p g).pds = s.pds := rfl
@[simp] theorem pcsM_pwr (s : State) (p : Nat) (g : PcsSt → PcsSt) : (s.pcsM p g).pwr = s.pwr := rfl
@[simp] theorem pcsM_hew (s : State) (p : Nat) (g : PcsSt → PcsSt) : (s.pcsM p g).hew = s.hew := rfl
@[simp] theorem pcsM_crt (s : State) (p : Nat) (g : PcsSt → PcsSt) : (s.pcsM p g).crt = s.crt := rfl
@[simp] theorem pcsM_arb (s : State) (p : Nat) (g : PcsSt → PcsSt) : (s.pcsM p g).arb = s.arb := rfl
@[simp] theorem pcsM_drift (s : State) (p : Nat) (g : PcsSt → PcsSt) : (s.pcsM p g).drift = s.drift := rfl
@[simp] theorem pcsM_draws (s : State) (p : Nat) (g : PcsSt → PcsSt) : (s.pcsM p g).draws = s.draws := rfl
@[simp] theorem pcsM_outs (s : State) (p : Nat) (g : PcsSt → PcsSt) : (s.pcsM p g).outs = s.outs := rfl
@[simp] theorem pcsM_line (s : State) (p : Nat) (g : PcsSt → PcsSt) : (s.pcsM p g).line = s.line := rfl
@[simp] theorem pcsM_mail (s : State) (p : Nat) (g : PcsSt → PcsSt) : (s.pcsM p g).mail = s.mail := rfl
@[simp] theorem pcsM_pending (s : State) (p : Nat) (g : PcsSt → PcsSt) : (s.pcsM p g).pending = s.pending := rfl
@[simp] theorem pcsM_pcs (s : State) (p : Nat) (g : PcsSt → PcsSt) : (s.pcsM p g).pcs = s.pcs.modify p g := rfl
@[simp] theorem pcsM_rd (s : State) (p : Nat) (g : PcsSt → PcsSt) (a : Nat) : (s.pcsM p g).rd a = s.rd a := rfl
@[simp] theorem pcsM_get (s : State) (p : Nat) (g : PcsSt → PcsSt) (f : Fld) : (s.pcsM p g).get f = s.get f := rfl
@[simp] theorem pcsM_bit (s : State) (p : Nat) (g : PcsSt → PcsSt) (f : Fld) : (s.pcsM p g).bit f = s.bit f := rfl

/-! ### rxM -/

@[simp] theorem rxM_regs (s : State) (p l : Nat) (g : RxLane → RxLane) : (s.rxM p l g).regs = s.regs := rfl
@[simp] theorem rxM_clock (s : State) (p l : Nat) (g : RxLane → RxLane) : (s.rxM p l g).clock = s.clock := rfl
@[simp] theorem rxM_uptime (s : State) (p l : Nat) (g : RxLane → RxLane) : (s.rxM p l g).uptime = s.uptime := rfl
@[simp] theorem rxM_ctl (s : State) (p l : Nat) (g : RxLane → RxLane) : (s.rxM p l g).ctl = s.ctl := rfl
@[simp] theorem rxM_own (s : State) (p l : Nat) (g : RxLane → RxLane) : (s.rxM p l g).own = s.own := rfl
@[simp] theorem rxM_boot (s : State) (p l : Nat) (g : RxLane → RxLane) : (s.rxM p l g).boot = s.boot := rfl
@[simp] theorem rxM_smb (s : State) (p l : Nat) (g : RxLane → RxLane) : (s.rxM p l g).smb = s.smb := rfl
@[simp] theorem rxM_ports (s : State) (p l : Nat) (g : RxLane → RxLane) : (s.rxM p l g).ports = s.ports := rfl
@[simp] theorem rxM_links (s : State) (p l : Nat) (g : RxLane → RxLane) : (s.rxM p l g).links = s.links := rfl
@[simp] theorem rxM_schs (s : State) (p l : Nat) (g : RxLane → RxLane) : (s.rxM p l g).schs = s.schs := rfl
@[simp] theorem rxM_meters (s : State) (p l : Nat) (g : RxLane → RxLane) : (s.rxM p l g).meters = s.meters := rfl
@[simp] theorem rxM_metStaged (s : State) (p l : Nat) (g : RxLane → RxLane) : (s.rxM p l g).metStaged = s.metStaged := rfl
@[simp] theorem rxM_metHold (s : State) (p l : Nat) (g : RxLane → RxLane) : (s.rxM p l g).metHold = s.metHold := rfl
@[simp] theorem rxM_commits (s : State) (p l : Nat) (g : RxLane → RxLane) : (s.rxM p l g).commits = s.commits := rfl
@[simp] theorem rxM_nextGroup (s : State) (p l : Nat) (g : RxLane → RxLane) : (s.rxM p l g).nextGroup = s.nextGroup := rfl
@[simp] theorem rxM_tun (s : State) (p l : Nat) (g : RxLane → RxLane) : (s.rxM p l g).tun = s.tun := rfl
@[simp] theorem rxM_fab (s : State) (p l : Nat) (g : RxLane → RxLane) : (s.rxM p l g).fab = s.fab := rfl
@[simp] theorem rxM_tim (s : State) (p l : Nat) (g : RxLane → RxLane) : (s.rxM p l g).tim = s.tim := rfl
@[simp] theorem rxM_macs (s : State) (p l : Nat) (g : RxLane → RxLane) : (s.rxM p l g).macs = s.macs := rfl
@[simp] theorem rxM_nics (s : State) (p l : Nat) (g : RxLane → RxLane) : (s.rxM p l g).nics = s.nics := rfl
@[simp] theorem rxM_srcs (s : State) (p l : Nat) (g : RxLane → RxLane) : (s.rxM p l g).srcs = s.srcs := rfl
@[simp] theorem rxM_dispOuts (s : State) (p l : Nat) (g : RxLane → RxLane) : (s.rxM p l g).dispOuts = s.dispOuts := rfl
@[simp] theorem rxM_store (s : State) (p l : Nat) (g : RxLane → RxLane) : (s.rxM p l g).store = s.store := rfl
@[simp] theorem rxM_pcx (s : State) (p l : Nat) (g : RxLane → RxLane) : (s.rxM p l g).pcx = s.pcx := rfl
@[simp] theorem rxM_flt (s : State) (p l : Nat) (g : RxLane → RxLane) : (s.rxM p l g).flt = s.flt := rfl
@[simp] theorem rxM_keys (s : State) (p l : Nat) (g : RxLane → RxLane) : (s.rxM p l g).keys = s.keys := rfl
@[simp] theorem rxM_usb (s : State) (p l : Nat) (g : RxLane → RxLane) : (s.rxM p l g).usb = s.usb := rfl
@[simp] theorem rxM_pds (s : State) (p l : Nat) (g : RxLane → RxLane) : (s.rxM p l g).pds = s.pds := rfl
@[simp] theorem rxM_pwr (s : State) (p l : Nat) (g : RxLane → RxLane) : (s.rxM p l g).pwr = s.pwr := rfl
@[simp] theorem rxM_hew (s : State) (p l : Nat) (g : RxLane → RxLane) : (s.rxM p l g).hew = s.hew := rfl
@[simp] theorem rxM_crt (s : State) (p l : Nat) (g : RxLane → RxLane) : (s.rxM p l g).crt = s.crt := rfl
@[simp] theorem rxM_arb (s : State) (p l : Nat) (g : RxLane → RxLane) : (s.rxM p l g).arb = s.arb := rfl
@[simp] theorem rxM_drift (s : State) (p l : Nat) (g : RxLane → RxLane) : (s.rxM p l g).drift = s.drift := rfl
@[simp] theorem rxM_draws (s : State) (p l : Nat) (g : RxLane → RxLane) : (s.rxM p l g).draws = s.draws := rfl
@[simp] theorem rxM_outs (s : State) (p l : Nat) (g : RxLane → RxLane) : (s.rxM p l g).outs = s.outs := rfl
@[simp] theorem rxM_line (s : State) (p l : Nat) (g : RxLane → RxLane) : (s.rxM p l g).line = s.line := rfl
@[simp] theorem rxM_mail (s : State) (p l : Nat) (g : RxLane → RxLane) : (s.rxM p l g).mail = s.mail := rfl
@[simp] theorem rxM_pending (s : State) (p l : Nat) (g : RxLane → RxLane) : (s.rxM p l g).pending = s.pending := rfl
@[simp] theorem rxM_rd (s : State) (p l : Nat) (g : RxLane → RxLane) (a : Nat) : (s.rxM p l g).rd a = s.rd a := rfl
@[simp] theorem rxM_get (s : State) (p l : Nat) (g : RxLane → RxLane) (f : Fld) : (s.rxM p l g).get f = s.get f := rfl
@[simp] theorem rxM_bit (s : State) (p l : Nat) (g : RxLane → RxLane) (f : Fld) : (s.rxM p l g).bit f = s.bit f := rfl

/-! ### emit -/

@[simp] theorem emit_regs (s : State) (x : Out) : (s.emit x).regs = s.regs := rfl
@[simp] theorem emit_clock (s : State) (x : Out) : (s.emit x).clock = s.clock := rfl
@[simp] theorem emit_uptime (s : State) (x : Out) : (s.emit x).uptime = s.uptime := rfl
@[simp] theorem emit_ctl (s : State) (x : Out) : (s.emit x).ctl = s.ctl := rfl
@[simp] theorem emit_own (s : State) (x : Out) : (s.emit x).own = s.own := rfl
@[simp] theorem emit_boot (s : State) (x : Out) : (s.emit x).boot = s.boot := rfl
@[simp] theorem emit_smb (s : State) (x : Out) : (s.emit x).smb = s.smb := rfl
@[simp] theorem emit_ports (s : State) (x : Out) : (s.emit x).ports = s.ports := rfl
@[simp] theorem emit_pcs (s : State) (x : Out) : (s.emit x).pcs = s.pcs := rfl
@[simp] theorem emit_links (s : State) (x : Out) : (s.emit x).links = s.links := rfl
@[simp] theorem emit_schs (s : State) (x : Out) : (s.emit x).schs = s.schs := rfl
@[simp] theorem emit_meters (s : State) (x : Out) : (s.emit x).meters = s.meters := rfl
@[simp] theorem emit_metStaged (s : State) (x : Out) : (s.emit x).metStaged = s.metStaged := rfl
@[simp] theorem emit_metHold (s : State) (x : Out) : (s.emit x).metHold = s.metHold := rfl
@[simp] theorem emit_commits (s : State) (x : Out) : (s.emit x).commits = s.commits := rfl
@[simp] theorem emit_nextGroup (s : State) (x : Out) : (s.emit x).nextGroup = s.nextGroup := rfl
@[simp] theorem emit_tun (s : State) (x : Out) : (s.emit x).tun = s.tun := rfl
@[simp] theorem emit_fab (s : State) (x : Out) : (s.emit x).fab = s.fab := rfl
@[simp] theorem emit_tim (s : State) (x : Out) : (s.emit x).tim = s.tim := rfl
@[simp] theorem emit_macs (s : State) (x : Out) : (s.emit x).macs = s.macs := rfl
@[simp] theorem emit_nics (s : State) (x : Out) : (s.emit x).nics = s.nics := rfl
@[simp] theorem emit_srcs (s : State) (x : Out) : (s.emit x).srcs = s.srcs := rfl
@[simp] theorem emit_dispOuts (s : State) (x : Out) : (s.emit x).dispOuts = s.dispOuts := rfl
@[simp] theorem emit_store (s : State) (x : Out) : (s.emit x).store = s.store := rfl
@[simp] theorem emit_pcx (s : State) (x : Out) : (s.emit x).pcx = s.pcx := rfl
@[simp] theorem emit_flt (s : State) (x : Out) : (s.emit x).flt = s.flt := rfl
@[simp] theorem emit_keys (s : State) (x : Out) : (s.emit x).keys = s.keys := rfl
@[simp] theorem emit_usb (s : State) (x : Out) : (s.emit x).usb = s.usb := rfl
@[simp] theorem emit_pds (s : State) (x : Out) : (s.emit x).pds = s.pds := rfl
@[simp] theorem emit_pwr (s : State) (x : Out) : (s.emit x).pwr = s.pwr := rfl
@[simp] theorem emit_hew (s : State) (x : Out) : (s.emit x).hew = s.hew := rfl
@[simp] theorem emit_crt (s : State) (x : Out) : (s.emit x).crt = s.crt := rfl
@[simp] theorem emit_arb (s : State) (x : Out) : (s.emit x).arb = s.arb := rfl
@[simp] theorem emit_drift (s : State) (x : Out) : (s.emit x).drift = s.drift := rfl
@[simp] theorem emit_draws (s : State) (x : Out) : (s.emit x).draws = s.draws := rfl
@[simp] theorem emit_outs (s : State) (x : Out) : (s.emit x).outs = s.outs ++ [x] := rfl
@[simp] theorem emit_line (s : State) (x : Out) : (s.emit x).line = if onLine x then s.line ++ [x] else s.line := rfl
@[simp] theorem emit_mail (s : State) (x : Out) : (s.emit x).mail = s.mail ++ mailOf x := rfl
@[simp] theorem emit_pending (s : State) (x : Out) : (s.emit x).pending = s.pending := rfl
@[simp] theorem emit_rd (s : State) (x : Out) (a : Nat) : (s.emit x).rd a = s.rd a := rfl
@[simp] theorem emit_get (s : State) (x : Out) (f : Fld) : (s.emit x).get f = s.get f := rfl
@[simp] theorem emit_bit (s : State) (x : Out) (f : Fld) : (s.emit x).bit f = s.bit f := rfl

/-! ### emits -/

@[simp] theorem emits_nil (s : State) : s.emits [] = s := rfl
theorem emits_cons (s : State) (x : Out) (xs : List Out) : s.emits (x :: xs) = (s.emit x).emits xs := rfl
@[simp] theorem emits_regs (s : State) (xs : List Out) : (s.emits xs).regs = s.regs := by
  induction xs generalizing s with
  | nil => simp
  | cons x xs ih => rw [emits_cons, ih]; rfl
@[simp] theorem emits_clock (s : State) (xs : List Out) : (s.emits xs).clock = s.clock := by
  induction xs generalizing s with
  | nil => simp
  | cons x xs ih => rw [emits_cons, ih]; rfl
@[simp] theorem emits_uptime (s : State) (xs : List Out) : (s.emits xs).uptime = s.uptime := by
  induction xs generalizing s with
  | nil => simp
  | cons x xs ih => rw [emits_cons, ih]; rfl
@[simp] theorem emits_ctl (s : State) (xs : List Out) : (s.emits xs).ctl = s.ctl := by
  induction xs generalizing s with
  | nil => simp
  | cons x xs ih => rw [emits_cons, ih]; rfl
@[simp] theorem emits_own (s : State) (xs : List Out) : (s.emits xs).own = s.own := by
  induction xs generalizing s with
  | nil => simp
  | cons x xs ih => rw [emits_cons, ih]; rfl
@[simp] theorem emits_boot (s : State) (xs : List Out) : (s.emits xs).boot = s.boot := by
  induction xs generalizing s with
  | nil => simp
  | cons x xs ih => rw [emits_cons, ih]; rfl
@[simp] theorem emits_smb (s : State) (xs : List Out) : (s.emits xs).smb = s.smb := by
  induction xs generalizing s with
  | nil => simp
  | cons x xs ih => rw [emits_cons, ih]; rfl
@[simp] theorem emits_ports (s : State) (xs : List Out) : (s.emits xs).ports = s.ports := by
  induction xs generalizing s with
  | nil => simp
  | cons x xs ih => rw [emits_cons, ih]; rfl
@[simp] theorem emits_pcs (s : State) (xs : List Out) : (s.emits xs).pcs = s.pcs := by
  induction xs generalizing s with
  | nil => simp
  | cons x xs ih => rw [emits_cons, ih]; rfl
@[simp] theorem emits_links (s : State) (xs : List Out) : (s.emits xs).links = s.links := by
  induction xs generalizing s with
  | nil => simp
  | cons x xs ih => rw [emits_cons, ih]; rfl
@[simp] theorem emits_schs (s : State) (xs : List Out) : (s.emits xs).schs = s.schs := by
  induction xs generalizing s with
  | nil => simp
  | cons x xs ih => rw [emits_cons, ih]; rfl
@[simp] theorem emits_meters (s : State) (xs : List Out) : (s.emits xs).meters = s.meters := by
  induction xs generalizing s with
  | nil => simp
  | cons x xs ih => rw [emits_cons, ih]; rfl
@[simp] theorem emits_metStaged (s : State) (xs : List Out) : (s.emits xs).metStaged = s.metStaged := by
  induction xs generalizing s with
  | nil => simp
  | cons x xs ih => rw [emits_cons, ih]; rfl
@[simp] theorem emits_metHold (s : State) (xs : List Out) : (s.emits xs).metHold = s.metHold := by
  induction xs generalizing s with
  | nil => simp
  | cons x xs ih => rw [emits_cons, ih]; rfl
@[simp] theorem emits_commits (s : State) (xs : List Out) : (s.emits xs).commits = s.commits := by
  induction xs generalizing s with
  | nil => simp
  | cons x xs ih => rw [emits_cons, ih]; rfl
@[simp] theorem emits_nextGroup (s : State) (xs : List Out) : (s.emits xs).nextGroup = s.nextGroup := by
  induction xs generalizing s with
  | nil => simp
  | cons x xs ih => rw [emits_cons, ih]; rfl
@[simp] theorem emits_tun (s : State) (xs : List Out) : (s.emits xs).tun = s.tun := by
  induction xs generalizing s with
  | nil => simp
  | cons x xs ih => rw [emits_cons, ih]; rfl
@[simp] theorem emits_fab (s : State) (xs : List Out) : (s.emits xs).fab = s.fab := by
  induction xs generalizing s with
  | nil => simp
  | cons x xs ih => rw [emits_cons, ih]; rfl
@[simp] theorem emits_tim (s : State) (xs : List Out) : (s.emits xs).tim = s.tim := by
  induction xs generalizing s with
  | nil => simp
  | cons x xs ih => rw [emits_cons, ih]; rfl
@[simp] theorem emits_macs (s : State) (xs : List Out) : (s.emits xs).macs = s.macs := by
  induction xs generalizing s with
  | nil => simp
  | cons x xs ih => rw [emits_cons, ih]; rfl
@[simp] theorem emits_nics (s : State) (xs : List Out) : (s.emits xs).nics = s.nics := by
  induction xs generalizing s with
  | nil => simp
  | cons x xs ih => rw [emits_cons, ih]; rfl
@[simp] theorem emits_srcs (s : State) (xs : List Out) : (s.emits xs).srcs = s.srcs := by
  induction xs generalizing s with
  | nil => simp
  | cons x xs ih => rw [emits_cons, ih]; rfl
@[simp] theorem emits_dispOuts (s : State) (xs : List Out) : (s.emits xs).dispOuts = s.dispOuts := by
  induction xs generalizing s with
  | nil => simp
  | cons x xs ih => rw [emits_cons, ih]; rfl
@[simp] theorem emits_store (s : State) (xs : List Out) : (s.emits xs).store = s.store := by
  induction xs generalizing s with
  | nil => simp
  | cons x xs ih => rw [emits_cons, ih]; rfl
@[simp] theorem emits_pcx (s : State) (xs : List Out) : (s.emits xs).pcx = s.pcx := by
  induction xs generalizing s with
  | nil => simp
  | cons x xs ih => rw [emits_cons, ih]; rfl
@[simp] theorem emits_flt (s : State) (xs : List Out) : (s.emits xs).flt = s.flt := by
  induction xs generalizing s with
  | nil => simp
  | cons x xs ih => rw [emits_cons, ih]; rfl
@[simp] theorem emits_keys (s : State) (xs : List Out) : (s.emits xs).keys = s.keys := by
  induction xs generalizing s with
  | nil => simp
  | cons x xs ih => rw [emits_cons, ih]; rfl
@[simp] theorem emits_usb (s : State) (xs : List Out) : (s.emits xs).usb = s.usb := by
  induction xs generalizing s with
  | nil => simp
  | cons x xs ih => rw [emits_cons, ih]; rfl
@[simp] theorem emits_pds (s : State) (xs : List Out) : (s.emits xs).pds = s.pds := by
  induction xs generalizing s with
  | nil => simp
  | cons x xs ih => rw [emits_cons, ih]; rfl
@[simp] theorem emits_pwr (s : State) (xs : List Out) : (s.emits xs).pwr = s.pwr := by
  induction xs generalizing s with
  | nil => simp
  | cons x xs ih => rw [emits_cons, ih]; rfl
@[simp] theorem emits_hew (s : State) (xs : List Out) : (s.emits xs).hew = s.hew := by
  induction xs generalizing s with
  | nil => simp
  | cons x xs ih => rw [emits_cons, ih]; rfl
@[simp] theorem emits_crt (s : State) (xs : List Out) : (s.emits xs).crt = s.crt := by
  induction xs generalizing s with
  | nil => simp
  | cons x xs ih => rw [emits_cons, ih]; rfl
@[simp] theorem emits_arb (s : State) (xs : List Out) : (s.emits xs).arb = s.arb := by
  induction xs generalizing s with
  | nil => simp
  | cons x xs ih => rw [emits_cons, ih]; rfl
@[simp] theorem emits_drift (s : State) (xs : List Out) : (s.emits xs).drift = s.drift := by
  induction xs generalizing s with
  | nil => simp
  | cons x xs ih => rw [emits_cons, ih]; rfl
@[simp] theorem emits_draws (s : State) (xs : List Out) : (s.emits xs).draws = s.draws := by
  induction xs generalizing s with
  | nil => simp
  | cons x xs ih => rw [emits_cons, ih]; rfl
@[simp] theorem emits_outs (s : State) (xs : List Out) : (s.emits xs).outs = s.outs ++ xs := by
  induction xs generalizing s with
  | nil => simp
  | cons x xs ih => simp [emits_cons, ih]
@[simp] theorem emits_line (s : State) (xs : List Out) : (s.emits xs).line = s.line ++ xs.filter onLine := by
  induction xs generalizing s with
  | nil => simp
  | cons x xs ih => rw [emits_cons, ih]; by_cases h : onLine x <;> simp [h]
@[simp] theorem emits_mail (s : State) (xs : List Out) : (s.emits xs).mail = s.mail ++ xs.flatMap mailOf := by
  induction xs generalizing s with
  | nil => simp
  | cons x xs ih => simp [emits_cons, ih]
@[simp] theorem emits_pending (s : State) (xs : List Out) : (s.emits xs).pending = s.pending := by
  induction xs generalizing s with
  | nil => simp
  | cons x xs ih => rw [emits_cons, ih]; rfl
@[simp] theorem emits_rd (s : State) (xs : List Out) (a : Nat) : (s.emits xs).rd a = s.rd a := by
  simp [State.rd, State.get, State.bit]
@[simp] theorem emits_get (s : State) (xs : List Out) (f : Fld) : (s.emits xs).get f = s.get f := by
  simp [State.rd, State.get, State.bit]
@[simp] theorem emits_bit (s : State) (xs : List Out) (f : Fld) : (s.emits xs).bit f = s.bit f := by
  simp [State.rd, State.get, State.bit]

/-! ### wr -/

@[simp] theorem wr_clock (s : State) (a : Nat) (v : Word) : (s.wr a v).clock = s.clock := rfl
@[simp] theorem wr_uptime (s : State) (a : Nat) (v : Word) : (s.wr a v).uptime = s.uptime := rfl
@[simp] theorem wr_ctl (s : State) (a : Nat) (v : Word) : (s.wr a v).ctl = s.ctl := rfl
@[simp] theorem wr_own (s : State) (a : Nat) (v : Word) : (s.wr a v).own = s.own := rfl
@[simp] theorem wr_boot (s : State) (a : Nat) (v : Word) : (s.wr a v).boot = s.boot := rfl
@[simp] theorem wr_smb (s : State) (a : Nat) (v : Word) : (s.wr a v).smb = s.smb := rfl
@[simp] theorem wr_ports (s : State) (a : Nat) (v : Word) : (s.wr a v).ports = s.ports := rfl
@[simp] theorem wr_pcs (s : State) (a : Nat) (v : Word) : (s.wr a v).pcs = s.pcs := rfl
@[simp] theorem wr_links (s : State) (a : Nat) (v : Word) : (s.wr a v).links = s.links := rfl
@[simp] theorem wr_schs (s : State) (a : Nat) (v : Word) : (s.wr a v).schs = s.schs := rfl
@[simp] theorem wr_meters (s : State) (a : Nat) (v : Word) : (s.wr a v).meters = s.meters := rfl
@[simp] theorem wr_metStaged (s : State) (a : Nat) (v : Word) : (s.wr a v).metStaged = s.metStaged := rfl
@[simp] theorem wr_metHold (s : State) (a : Nat) (v : Word) : (s.wr a v).metHold = s.metHold := rfl
@[simp] theorem wr_commits (s : State) (a : Nat) (v : Word) : (s.wr a v).commits = s.commits := rfl
@[simp] theorem wr_nextGroup (s : State) (a : Nat) (v : Word) : (s.wr a v).nextGroup = s.nextGroup := rfl
@[simp] theorem wr_tun (s : State) (a : Nat) (v : Word) : (s.wr a v).tun = s.tun := rfl
@[simp] theorem wr_fab (s : State) (a : Nat) (v : Word) : (s.wr a v).fab = s.fab := rfl
@[simp] theorem wr_tim (s : State) (a : Nat) (v : Word) : (s.wr a v).tim = s.tim := rfl
@[simp] theorem wr_macs (s : State) (a : Nat) (v : Word) : (s.wr a v).macs = s.macs := rfl
@[simp] theorem wr_nics (s : State) (a : Nat) (v : Word) : (s.wr a v).nics = s.nics := rfl
@[simp] theorem wr_srcs (s : State) (a : Nat) (v : Word) : (s.wr a v).srcs = s.srcs := rfl
@[simp] theorem wr_dispOuts (s : State) (a : Nat) (v : Word) : (s.wr a v).dispOuts = s.dispOuts := rfl
@[simp] theorem wr_store (s : State) (a : Nat) (v : Word) : (s.wr a v).store = s.store := rfl
@[simp] theorem wr_pcx (s : State) (a : Nat) (v : Word) : (s.wr a v).pcx = s.pcx := rfl
@[simp] theorem wr_flt (s : State) (a : Nat) (v : Word) : (s.wr a v).flt = s.flt := rfl
@[simp] theorem wr_keys (s : State) (a : Nat) (v : Word) : (s.wr a v).keys = s.keys := rfl
@[simp] theorem wr_usb (s : State) (a : Nat) (v : Word) : (s.wr a v).usb = s.usb := rfl
@[simp] theorem wr_pds (s : State) (a : Nat) (v : Word) : (s.wr a v).pds = s.pds := rfl
@[simp] theorem wr_pwr (s : State) (a : Nat) (v : Word) : (s.wr a v).pwr = s.pwr := rfl
@[simp] theorem wr_hew (s : State) (a : Nat) (v : Word) : (s.wr a v).hew = s.hew := rfl
@[simp] theorem wr_crt (s : State) (a : Nat) (v : Word) : (s.wr a v).crt = s.crt := rfl
@[simp] theorem wr_arb (s : State) (a : Nat) (v : Word) : (s.wr a v).arb = s.arb := rfl
@[simp] theorem wr_drift (s : State) (a : Nat) (v : Word) : (s.wr a v).drift = s.drift := rfl
@[simp] theorem wr_draws (s : State) (a : Nat) (v : Word) : (s.wr a v).draws = s.draws := rfl
@[simp] theorem wr_outs (s : State) (a : Nat) (v : Word) : (s.wr a v).outs = s.outs := rfl
@[simp] theorem wr_line (s : State) (a : Nat) (v : Word) : (s.wr a v).line = s.line := rfl
@[simp] theorem wr_mail (s : State) (a : Nat) (v : Word) : (s.wr a v).mail = s.mail := rfl
@[simp] theorem wr_pending (s : State) (a : Nat) (v : Word) : (s.wr a v).pending = s.pending := rfl

/-! ### put -/

@[simp] theorem put_clock (s : State) (f : Fld) (v : Nat) : (s.put f v).clock = s.clock := rfl
@[simp] theorem put_uptime (s : State) (f : Fld) (v : Nat) : (s.put f v).uptime = s.uptime := rfl
@[simp] theorem put_ctl (s : State) (f : Fld) (v : Nat) : (s.put f v).ctl = s.ctl := rfl
@[simp] theorem put_own (s : State) (f : Fld) (v : Nat) : (s.put f v).own = s.own := rfl
@[simp] theorem put_boot (s : State) (f : Fld) (v : Nat) : (s.put f v).boot = s.boot := rfl
@[simp] theorem put_smb (s : State) (f : Fld) (v : Nat) : (s.put f v).smb = s.smb := rfl
@[simp] theorem put_ports (s : State) (f : Fld) (v : Nat) : (s.put f v).ports = s.ports := rfl
@[simp] theorem put_pcs (s : State) (f : Fld) (v : Nat) : (s.put f v).pcs = s.pcs := rfl
@[simp] theorem put_links (s : State) (f : Fld) (v : Nat) : (s.put f v).links = s.links := rfl
@[simp] theorem put_schs (s : State) (f : Fld) (v : Nat) : (s.put f v).schs = s.schs := rfl
@[simp] theorem put_meters (s : State) (f : Fld) (v : Nat) : (s.put f v).meters = s.meters := rfl
@[simp] theorem put_metStaged (s : State) (f : Fld) (v : Nat) : (s.put f v).metStaged = s.metStaged := rfl
@[simp] theorem put_metHold (s : State) (f : Fld) (v : Nat) : (s.put f v).metHold = s.metHold := rfl
@[simp] theorem put_commits (s : State) (f : Fld) (v : Nat) : (s.put f v).commits = s.commits := rfl
@[simp] theorem put_nextGroup (s : State) (f : Fld) (v : Nat) : (s.put f v).nextGroup = s.nextGroup := rfl
@[simp] theorem put_tun (s : State) (f : Fld) (v : Nat) : (s.put f v).tun = s.tun := rfl
@[simp] theorem put_fab (s : State) (f : Fld) (v : Nat) : (s.put f v).fab = s.fab := rfl
@[simp] theorem put_tim (s : State) (f : Fld) (v : Nat) : (s.put f v).tim = s.tim := rfl
@[simp] theorem put_macs (s : State) (f : Fld) (v : Nat) : (s.put f v).macs = s.macs := rfl
@[simp] theorem put_nics (s : State) (f : Fld) (v : Nat) : (s.put f v).nics = s.nics := rfl
@[simp] theorem put_srcs (s : State) (f : Fld) (v : Nat) : (s.put f v).srcs = s.srcs := rfl
@[simp] theorem put_dispOuts (s : State) (f : Fld) (v : Nat) : (s.put f v).dispOuts = s.dispOuts := rfl
@[simp] theorem put_store (s : State) (f : Fld) (v : Nat) : (s.put f v).store = s.store := rfl
@[simp] theorem put_pcx (s : State) (f : Fld) (v : Nat) : (s.put f v).pcx = s.pcx := rfl
@[simp] theorem put_flt (s : State) (f : Fld) (v : Nat) : (s.put f v).flt = s.flt := rfl
@[simp] theorem put_keys (s : State) (f : Fld) (v : Nat) : (s.put f v).keys = s.keys := rfl
@[simp] theorem put_usb (s : State) (f : Fld) (v : Nat) : (s.put f v).usb = s.usb := rfl
@[simp] theorem put_pds (s : State) (f : Fld) (v : Nat) : (s.put f v).pds = s.pds := rfl
@[simp] theorem put_pwr (s : State) (f : Fld) (v : Nat) : (s.put f v).pwr = s.pwr := rfl
@[simp] theorem put_hew (s : State) (f : Fld) (v : Nat) : (s.put f v).hew = s.hew := rfl
@[simp] theorem put_crt (s : State) (f : Fld) (v : Nat) : (s.put f v).crt = s.crt := rfl
@[simp] theorem put_arb (s : State) (f : Fld) (v : Nat) : (s.put f v).arb = s.arb := rfl
@[simp] theorem put_drift (s : State) (f : Fld) (v : Nat) : (s.put f v).drift = s.drift := rfl
@[simp] theorem put_draws (s : State) (f : Fld) (v : Nat) : (s.put f v).draws = s.draws := rfl
@[simp] theorem put_outs (s : State) (f : Fld) (v : Nat) : (s.put f v).outs = s.outs := rfl
@[simp] theorem put_line (s : State) (f : Fld) (v : Nat) : (s.put f v).line = s.line := rfl
@[simp] theorem put_mail (s : State) (f : Fld) (v : Nat) : (s.put f v).mail = s.mail := rfl
@[simp] theorem put_pending (s : State) (f : Fld) (v : Nat) : (s.put f v).pending = s.pending := rfl

/-! ### putBit -/

@[simp] theorem putBit_clock (s : State) (f : Fld) (b : Bool) : (s.putBit f b).clock = s.clock := rfl
@[simp] theorem putBit_uptime (s : State) (f : Fld) (b : Bool) : (s.putBit f b).uptime = s.uptime := rfl
@[simp] theorem putBit_ctl (s : State) (f : Fld) (b : Bool) : (s.putBit f b).ctl = s.ctl := rfl
@[simp] theorem putBit_own (s : State) (f : Fld) (b : Bool) : (s.putBit f b).own = s.own := rfl
@[simp] theorem putBit_boot (s : State) (f : Fld) (b : Bool) : (s.putBit f b).boot = s.boot := rfl
@[simp] theorem putBit_smb (s : State) (f : Fld) (b : Bool) : (s.putBit f b).smb = s.smb := rfl
@[simp] theorem putBit_ports (s : State) (f : Fld) (b : Bool) : (s.putBit f b).ports = s.ports := rfl
@[simp] theorem putBit_pcs (s : State) (f : Fld) (b : Bool) : (s.putBit f b).pcs = s.pcs := rfl
@[simp] theorem putBit_links (s : State) (f : Fld) (b : Bool) : (s.putBit f b).links = s.links := rfl
@[simp] theorem putBit_schs (s : State) (f : Fld) (b : Bool) : (s.putBit f b).schs = s.schs := rfl
@[simp] theorem putBit_meters (s : State) (f : Fld) (b : Bool) : (s.putBit f b).meters = s.meters := rfl
@[simp] theorem putBit_metStaged (s : State) (f : Fld) (b : Bool) : (s.putBit f b).metStaged = s.metStaged := rfl
@[simp] theorem putBit_metHold (s : State) (f : Fld) (b : Bool) : (s.putBit f b).metHold = s.metHold := rfl
@[simp] theorem putBit_commits (s : State) (f : Fld) (b : Bool) : (s.putBit f b).commits = s.commits := rfl
@[simp] theorem putBit_nextGroup (s : State) (f : Fld) (b : Bool) : (s.putBit f b).nextGroup = s.nextGroup := rfl
@[simp] theorem putBit_tun (s : State) (f : Fld) (b : Bool) : (s.putBit f b).tun = s.tun := rfl
@[simp] theorem putBit_fab (s : State) (f : Fld) (b : Bool) : (s.putBit f b).fab = s.fab := rfl
@[simp] theorem putBit_tim (s : State) (f : Fld) (b : Bool) : (s.putBit f b).tim = s.tim := rfl
@[simp] theorem putBit_macs (s : State) (f : Fld) (b : Bool) : (s.putBit f b).macs = s.macs := rfl
@[simp] theorem putBit_nics (s : State) (f : Fld) (b : Bool) : (s.putBit f b).nics = s.nics := rfl
@[simp] theorem putBit_srcs (s : State) (f : Fld) (b : Bool) : (s.putBit f b).srcs = s.srcs := rfl
@[simp] theorem putBit_dispOuts (s : State) (f : Fld) (b : Bool) : (s.putBit f b).dispOuts = s.dispOuts := rfl
@[simp] theorem putBit_store (s : State) (f : Fld) (b : Bool) : (s.putBit f b).store = s.store := rfl
@[simp] theorem putBit_pcx (s : State) (f : Fld) (b : Bool) : (s.putBit f b).pcx = s.pcx := rfl
@[simp] theorem putBit_flt (s : State) (f : Fld) (b : Bool) : (s.putBit f b).flt = s.flt := rfl
@[simp] theorem putBit_keys (s : State) (f : Fld) (b : Bool) : (s.putBit f b).keys = s.keys := rfl
@[simp] theorem putBit_usb (s : State) (f : Fld) (b : Bool) : (s.putBit f b).usb = s.usb := rfl
@[simp] theorem putBit_pds (s : State) (f : Fld) (b : Bool) : (s.putBit f b).pds = s.pds := rfl
@[simp] theorem putBit_pwr (s : State) (f : Fld) (b : Bool) : (s.putBit f b).pwr = s.pwr := rfl
@[simp] theorem putBit_hew (s : State) (f : Fld) (b : Bool) : (s.putBit f b).hew = s.hew := rfl
@[simp] theorem putBit_crt (s : State) (f : Fld) (b : Bool) : (s.putBit f b).crt = s.crt := rfl
@[simp] theorem putBit_arb (s : State) (f : Fld) (b : Bool) : (s.putBit f b).arb = s.arb := rfl
@[simp] theorem putBit_drift (s : State) (f : Fld) (b : Bool) : (s.putBit f b).drift = s.drift := rfl
@[simp] theorem putBit_draws (s : State) (f : Fld) (b : Bool) : (s.putBit f b).draws = s.draws := rfl
@[simp] theorem putBit_outs (s : State) (f : Fld) (b : Bool) : (s.putBit f b).outs = s.outs := rfl
@[simp] theorem putBit_line (s : State) (f : Fld) (b : Bool) : (s.putBit f b).line = s.line := rfl
@[simp] theorem putBit_mail (s : State) (f : Fld) (b : Bool) : (s.putBit f b).mail = s.mail := rfl
@[simp] theorem putBit_pending (s : State) (f : Fld) (b : Bool) : (s.putBit f b).pending = s.pending := rfl

/-! ### bumpBy -/

@[simp] theorem bumpBy_clock (s : State) (f : Fld) (n : Nat) : (s.bumpBy f n).clock = s.clock := rfl
@[simp] theorem bumpBy_uptime (s : State) (f : Fld) (n : Nat) : (s.bumpBy f n).uptime = s.uptime := rfl
@[simp] theorem bumpBy_ctl (s : State) (f : Fld) (n : Nat) : (s.bumpBy f n).ctl = s.ctl := rfl
@[simp] theorem bumpBy_own (s : State) (f : Fld) (n : Nat) : (s.bumpBy f n).own = s.own := rfl
@[simp] theorem bumpBy_boot (s : State) (f : Fld) (n : Nat) : (s.bumpBy f n).boot = s.boot := rfl
@[simp] theorem bumpBy_smb (s : State) (f : Fld) (n : Nat) : (s.bumpBy f n).smb = s.smb := rfl
@[simp] theorem bumpBy_ports (s : State) (f : Fld) (n : Nat) : (s.bumpBy f n).ports = s.ports := rfl
@[simp] theorem bumpBy_pcs (s : State) (f : Fld) (n : Nat) : (s.bumpBy f n).pcs = s.pcs := rfl
@[simp] theorem bumpBy_links (s : State) (f : Fld) (n : Nat) : (s.bumpBy f n).links = s.links := rfl
@[simp] theorem bumpBy_schs (s : State) (f : Fld) (n : Nat) : (s.bumpBy f n).schs = s.schs := rfl
@[simp] theorem bumpBy_meters (s : State) (f : Fld) (n : Nat) : (s.bumpBy f n).meters = s.meters := rfl
@[simp] theorem bumpBy_metStaged (s : State) (f : Fld) (n : Nat) : (s.bumpBy f n).metStaged = s.metStaged := rfl
@[simp] theorem bumpBy_metHold (s : State) (f : Fld) (n : Nat) : (s.bumpBy f n).metHold = s.metHold := rfl
@[simp] theorem bumpBy_commits (s : State) (f : Fld) (n : Nat) : (s.bumpBy f n).commits = s.commits := rfl
@[simp] theorem bumpBy_nextGroup (s : State) (f : Fld) (n : Nat) : (s.bumpBy f n).nextGroup = s.nextGroup := rfl
@[simp] theorem bumpBy_tun (s : State) (f : Fld) (n : Nat) : (s.bumpBy f n).tun = s.tun := rfl
@[simp] theorem bumpBy_fab (s : State) (f : Fld) (n : Nat) : (s.bumpBy f n).fab = s.fab := rfl
@[simp] theorem bumpBy_tim (s : State) (f : Fld) (n : Nat) : (s.bumpBy f n).tim = s.tim := rfl
@[simp] theorem bumpBy_macs (s : State) (f : Fld) (n : Nat) : (s.bumpBy f n).macs = s.macs := rfl
@[simp] theorem bumpBy_nics (s : State) (f : Fld) (n : Nat) : (s.bumpBy f n).nics = s.nics := rfl
@[simp] theorem bumpBy_srcs (s : State) (f : Fld) (n : Nat) : (s.bumpBy f n).srcs = s.srcs := rfl
@[simp] theorem bumpBy_dispOuts (s : State) (f : Fld) (n : Nat) : (s.bumpBy f n).dispOuts = s.dispOuts := rfl
@[simp] theorem bumpBy_store (s : State) (f : Fld) (n : Nat) : (s.bumpBy f n).store = s.store := rfl
@[simp] theorem bumpBy_pcx (s : State) (f : Fld) (n : Nat) : (s.bumpBy f n).pcx = s.pcx := rfl
@[simp] theorem bumpBy_flt (s : State) (f : Fld) (n : Nat) : (s.bumpBy f n).flt = s.flt := rfl
@[simp] theorem bumpBy_keys (s : State) (f : Fld) (n : Nat) : (s.bumpBy f n).keys = s.keys := rfl
@[simp] theorem bumpBy_usb (s : State) (f : Fld) (n : Nat) : (s.bumpBy f n).usb = s.usb := rfl
@[simp] theorem bumpBy_pds (s : State) (f : Fld) (n : Nat) : (s.bumpBy f n).pds = s.pds := rfl
@[simp] theorem bumpBy_pwr (s : State) (f : Fld) (n : Nat) : (s.bumpBy f n).pwr = s.pwr := rfl
@[simp] theorem bumpBy_hew (s : State) (f : Fld) (n : Nat) : (s.bumpBy f n).hew = s.hew := rfl
@[simp] theorem bumpBy_crt (s : State) (f : Fld) (n : Nat) : (s.bumpBy f n).crt = s.crt := rfl
@[simp] theorem bumpBy_arb (s : State) (f : Fld) (n : Nat) : (s.bumpBy f n).arb = s.arb := rfl
@[simp] theorem bumpBy_drift (s : State) (f : Fld) (n : Nat) : (s.bumpBy f n).drift = s.drift := rfl
@[simp] theorem bumpBy_draws (s : State) (f : Fld) (n : Nat) : (s.bumpBy f n).draws = s.draws := rfl
@[simp] theorem bumpBy_outs (s : State) (f : Fld) (n : Nat) : (s.bumpBy f n).outs = s.outs := rfl
@[simp] theorem bumpBy_line (s : State) (f : Fld) (n : Nat) : (s.bumpBy f n).line = s.line := rfl
@[simp] theorem bumpBy_mail (s : State) (f : Fld) (n : Nat) : (s.bumpBy f n).mail = s.mail := rfl
@[simp] theorem bumpBy_pending (s : State) (f : Fld) (n : Nat) : (s.bumpBy f n).pending = s.pending := rfl

/-! ### addMod -/

@[simp] theorem addMod_clock (s : State) (f : Fld) (n : Nat) : (s.addMod f n).clock = s.clock := rfl
@[simp] theorem addMod_uptime (s : State) (f : Fld) (n : Nat) : (s.addMod f n).uptime = s.uptime := rfl
@[simp] theorem addMod_ctl (s : State) (f : Fld) (n : Nat) : (s.addMod f n).ctl = s.ctl := rfl
@[simp] theorem addMod_own (s : State) (f : Fld) (n : Nat) : (s.addMod f n).own = s.own := rfl
@[simp] theorem addMod_boot (s : State) (f : Fld) (n : Nat) : (s.addMod f n).boot = s.boot := rfl
@[simp] theorem addMod_smb (s : State) (f : Fld) (n : Nat) : (s.addMod f n).smb = s.smb := rfl
@[simp] theorem addMod_ports (s : State) (f : Fld) (n : Nat) : (s.addMod f n).ports = s.ports := rfl
@[simp] theorem addMod_pcs (s : State) (f : Fld) (n : Nat) : (s.addMod f n).pcs = s.pcs := rfl
@[simp] theorem addMod_links (s : State) (f : Fld) (n : Nat) : (s.addMod f n).links = s.links := rfl
@[simp] theorem addMod_schs (s : State) (f : Fld) (n : Nat) : (s.addMod f n).schs = s.schs := rfl
@[simp] theorem addMod_meters (s : State) (f : Fld) (n : Nat) : (s.addMod f n).meters = s.meters := rfl
@[simp] theorem addMod_metStaged (s : State) (f : Fld) (n : Nat) : (s.addMod f n).metStaged = s.metStaged := rfl
@[simp] theorem addMod_metHold (s : State) (f : Fld) (n : Nat) : (s.addMod f n).metHold = s.metHold := rfl
@[simp] theorem addMod_commits (s : State) (f : Fld) (n : Nat) : (s.addMod f n).commits = s.commits := rfl
@[simp] theorem addMod_nextGroup (s : State) (f : Fld) (n : Nat) : (s.addMod f n).nextGroup = s.nextGroup := rfl
@[simp] theorem addMod_tun (s : State) (f : Fld) (n : Nat) : (s.addMod f n).tun = s.tun := rfl
@[simp] theorem addMod_fab (s : State) (f : Fld) (n : Nat) : (s.addMod f n).fab = s.fab := rfl
@[simp] theorem addMod_tim (s : State) (f : Fld) (n : Nat) : (s.addMod f n).tim = s.tim := rfl
@[simp] theorem addMod_macs (s : State) (f : Fld) (n : Nat) : (s.addMod f n).macs = s.macs := rfl
@[simp] theorem addMod_nics (s : State) (f : Fld) (n : Nat) : (s.addMod f n).nics = s.nics := rfl
@[simp] theorem addMod_srcs (s : State) (f : Fld) (n : Nat) : (s.addMod f n).srcs = s.srcs := rfl
@[simp] theorem addMod_dispOuts (s : State) (f : Fld) (n : Nat) : (s.addMod f n).dispOuts = s.dispOuts := rfl
@[simp] theorem addMod_store (s : State) (f : Fld) (n : Nat) : (s.addMod f n).store = s.store := rfl
@[simp] theorem addMod_pcx (s : State) (f : Fld) (n : Nat) : (s.addMod f n).pcx = s.pcx := rfl
@[simp] theorem addMod_flt (s : State) (f : Fld) (n : Nat) : (s.addMod f n).flt = s.flt := rfl
@[simp] theorem addMod_keys (s : State) (f : Fld) (n : Nat) : (s.addMod f n).keys = s.keys := rfl
@[simp] theorem addMod_usb (s : State) (f : Fld) (n : Nat) : (s.addMod f n).usb = s.usb := rfl
@[simp] theorem addMod_pds (s : State) (f : Fld) (n : Nat) : (s.addMod f n).pds = s.pds := rfl
@[simp] theorem addMod_pwr (s : State) (f : Fld) (n : Nat) : (s.addMod f n).pwr = s.pwr := rfl
@[simp] theorem addMod_hew (s : State) (f : Fld) (n : Nat) : (s.addMod f n).hew = s.hew := rfl
@[simp] theorem addMod_crt (s : State) (f : Fld) (n : Nat) : (s.addMod f n).crt = s.crt := rfl
@[simp] theorem addMod_arb (s : State) (f : Fld) (n : Nat) : (s.addMod f n).arb = s.arb := rfl
@[simp] theorem addMod_drift (s : State) (f : Fld) (n : Nat) : (s.addMod f n).drift = s.drift := rfl
@[simp] theorem addMod_draws (s : State) (f : Fld) (n : Nat) : (s.addMod f n).draws = s.draws := rfl
@[simp] theorem addMod_outs (s : State) (f : Fld) (n : Nat) : (s.addMod f n).outs = s.outs := rfl
@[simp] theorem addMod_line (s : State) (f : Fld) (n : Nat) : (s.addMod f n).line = s.line := rfl
@[simp] theorem addMod_mail (s : State) (f : Fld) (n : Nat) : (s.addMod f n).mail = s.mail := rfl
@[simp] theorem addMod_pending (s : State) (f : Fld) (n : Nat) : (s.addMod f n).pending = s.pending := rfl

/-! ### bump -/

@[simp] theorem bump_clock (s : State) (f : Fld) : (s.bump f).clock = s.clock := by unfold State.bump; split <;> rfl
@[simp] theorem bump_uptime (s : State) (f : Fld) : (s.bump f).uptime = s.uptime := by unfold State.bump; split <;> rfl
@[simp] theorem bump_ctl (s : State) (f : Fld) : (s.bump f).ctl = s.ctl := by unfold State.bump; split <;> rfl
@[simp] theorem bump_own (s : State) (f : Fld) : (s.bump f).own = s.own := by unfold State.bump; split <;> rfl
@[simp] theorem bump_boot (s : State) (f : Fld) : (s.bump f).boot = s.boot := by unfold State.bump; split <;> rfl
@[simp] theorem bump_smb (s : State) (f : Fld) : (s.bump f).smb = s.smb := by unfold State.bump; split <;> rfl
@[simp] theorem bump_ports (s : State) (f : Fld) : (s.bump f).ports = s.ports := by unfold State.bump; split <;> rfl
@[simp] theorem bump_pcs (s : State) (f : Fld) : (s.bump f).pcs = s.pcs := by unfold State.bump; split <;> rfl
@[simp] theorem bump_links (s : State) (f : Fld) : (s.bump f).links = s.links := by unfold State.bump; split <;> rfl
@[simp] theorem bump_schs (s : State) (f : Fld) : (s.bump f).schs = s.schs := by unfold State.bump; split <;> rfl
@[simp] theorem bump_meters (s : State) (f : Fld) : (s.bump f).meters = s.meters := by unfold State.bump; split <;> rfl
@[simp] theorem bump_metStaged (s : State) (f : Fld) : (s.bump f).metStaged = s.metStaged := by unfold State.bump; split <;> rfl
@[simp] theorem bump_metHold (s : State) (f : Fld) : (s.bump f).metHold = s.metHold := by unfold State.bump; split <;> rfl
@[simp] theorem bump_commits (s : State) (f : Fld) : (s.bump f).commits = s.commits := by unfold State.bump; split <;> rfl
@[simp] theorem bump_nextGroup (s : State) (f : Fld) : (s.bump f).nextGroup = s.nextGroup := by unfold State.bump; split <;> rfl
@[simp] theorem bump_tun (s : State) (f : Fld) : (s.bump f).tun = s.tun := by unfold State.bump; split <;> rfl
@[simp] theorem bump_fab (s : State) (f : Fld) : (s.bump f).fab = s.fab := by unfold State.bump; split <;> rfl
@[simp] theorem bump_tim (s : State) (f : Fld) : (s.bump f).tim = s.tim := by unfold State.bump; split <;> rfl
@[simp] theorem bump_macs (s : State) (f : Fld) : (s.bump f).macs = s.macs := by unfold State.bump; split <;> rfl
@[simp] theorem bump_nics (s : State) (f : Fld) : (s.bump f).nics = s.nics := by unfold State.bump; split <;> rfl
@[simp] theorem bump_srcs (s : State) (f : Fld) : (s.bump f).srcs = s.srcs := by unfold State.bump; split <;> rfl
@[simp] theorem bump_dispOuts (s : State) (f : Fld) : (s.bump f).dispOuts = s.dispOuts := by unfold State.bump; split <;> rfl
@[simp] theorem bump_store (s : State) (f : Fld) : (s.bump f).store = s.store := by unfold State.bump; split <;> rfl
@[simp] theorem bump_pcx (s : State) (f : Fld) : (s.bump f).pcx = s.pcx := by unfold State.bump; split <;> rfl
@[simp] theorem bump_flt (s : State) (f : Fld) : (s.bump f).flt = s.flt := by unfold State.bump; split <;> rfl
@[simp] theorem bump_keys (s : State) (f : Fld) : (s.bump f).keys = s.keys := by unfold State.bump; split <;> rfl
@[simp] theorem bump_usb (s : State) (f : Fld) : (s.bump f).usb = s.usb := by unfold State.bump; split <;> rfl
@[simp] theorem bump_pds (s : State) (f : Fld) : (s.bump f).pds = s.pds := by unfold State.bump; split <;> rfl
@[simp] theorem bump_pwr (s : State) (f : Fld) : (s.bump f).pwr = s.pwr := by unfold State.bump; split <;> rfl
@[simp] theorem bump_hew (s : State) (f : Fld) : (s.bump f).hew = s.hew := by unfold State.bump; split <;> rfl
@[simp] theorem bump_crt (s : State) (f : Fld) : (s.bump f).crt = s.crt := by unfold State.bump; split <;> rfl
@[simp] theorem bump_arb (s : State) (f : Fld) : (s.bump f).arb = s.arb := by unfold State.bump; split <;> rfl
@[simp] theorem bump_drift (s : State) (f : Fld) : (s.bump f).drift = s.drift := by unfold State.bump; split <;> rfl
@[simp] theorem bump_draws (s : State) (f : Fld) : (s.bump f).draws = s.draws := by unfold State.bump; split <;> rfl
@[simp] theorem bump_outs (s : State) (f : Fld) : (s.bump f).outs = s.outs := by unfold State.bump; split <;> rfl
@[simp] theorem bump_line (s : State) (f : Fld) : (s.bump f).line = s.line := by unfold State.bump; split <;> rfl
@[simp] theorem bump_mail (s : State) (f : Fld) : (s.bump f).mail = s.mail := by unfold State.bump; split <;> rfl
@[simp] theorem bump_pending (s : State) (f : Fld) : (s.bump f).pending = s.pending := by unfold State.bump; split <;> rfl

end Sys2Proof.Laws
end

