-- ==== Sys2Proof/WellFormed.lean ====
section
/-! DEFINITION. Which commands are well formed: an operand that numbers a unit, a port, a ring, a FID, a TID or a field of the device lies in
its range (R4, R83, R184, R362, R503). A command taken from a ring carries its descriptor's bits, which need no check. -/

namespace Sys2Proof

/-- Whether the numbers a command carries lie in their ranges. -/
def Instr.wf (i : Instr) : Bool :=
  match i with
  | .powerOnReset _ => true
  | .porstNAssert => true
  | .porstNRelease => true
  | .strapSample role boot smba fids lanes => decide (role < 4) && decide (boot < 4) && decide (smba < 8) && decide (fids < 64) && decide (lanes < 4)
  | .warmrstNAssert => true
  | .softwareCoreReset _ => true
  | .softwareWarmReset _ => true
  | .thermalTrip => true
  | .railBelowResetLevel rail => decide (rail < 9)
  | .railValid rail => decide (rail < 9)
  | .penumbraEntry _ => true
  | .thriftLeave _ => true
  | .bootRomStart _ _ _ modes _ _ _ => decide (modes < 8)
  | .firmwareReady _ => true
  | .bootWatchdogExpiry => true
  | .downloadLengthWrite _ _ => true
  | .bootPersonalityTimeout => true
  | .pciePerstAssert => true
  | .pciePerstRelease => true
  | .writeRegister _ _ _ _ => true
  | .crossDomainWriteEffect _ => true
  | .wideCounterLowRead _ _ _ => true
  | .snapTake _ _ => true
  | .snapCaptureDone => true
  | .ringEnable n _ => decide (n < 256)
  | .ringDisable n _ => decide (n < 256)
  | .ringVectorChange n _ => decide (n < 256)
  | .doorbell n _ _ => decide (n < 256)
  | .nop _ => true
  | .unknownOpcode op _ => decide (op < 256)
  | .regRead _ => true
  | .regWrite _ => true
  | .mgmtReqReceive f _ => decide (f < 64)
  | .mgmtRspReceive f _ => decide (f < 64)
  | .managementTimeout _ => true
  | .dataOutDescriptor n _ => decide (n < 256)
  | .holdoffExpiry v => decide (v < 64)
  | .eventFrameReceive _ => true
  | .eventRecordFlush n => decide (n < 256)
  | .ownYield _ => true
  | .yieldCommandsDrained => true
  | .yieldReceive tofid gen _ => decide (tofid < 64) && decide (gen < 65536)
  | .yieldTimeout => true
  | .releaseReceive => true
  | .heartbeatSend => true
  | .heartbeatReceive f _ gen => decide (f < 64) && decide (gen < 65536)
  | .ownerTimerExpiry => true
  | .claimSend => true
  | .claimReceive fid _ gen => decide (fid < 64) && decide (gen < 65536)
  | .electionClose => true
  | .hostAliveLost cond => decide (cond < 4)
  | .hostAliveGained cond => decide (cond < 4)
  | .aliveKick => true
  | .keepaliveExpiry => true
  | .smbusStatusRead _ => true
  | .smbusAddrWrite a _ => decide (a < 16777216)
  | .smbusDataRead => true
  | .smbusPwrreq v _ => decide (v < 256)
  | .smbusAlertclr v _ => decide (v < 256)
  | .smbusAlertResponse => true
  | .enterMode p _ _ => decide (p < 3)
  | .exitMode p => decide (p < 3)
  | .retrain _ p => decide (p < 3)
  | .darkCommand _ p => decide (p < 3)
  | .portDetectStart p => decide (p < 3)
  | .receiverDetect p lanes => decide (p < 3) && decide (lanes < 4)
  | .trainingFrameReceive p rate phys _ _ _ pre post => decide (p < 3) && decide (rate < 3) && decide (phys < 2) && decide (pre < 3) && decide (post < 3)
  | .trainTimeout p => decide (p < 3)
  | .fallbackIdleEnd p => decide (p < 3)
  | .markerReceive p lane _ => decide (p < 3) && decide (lane < 2)
  | .lockTimeout p => decide (p < 3)
  | .capabilitySend p => decide (p < 3)
  | .capabilityFrameReceive p _ _ => decide (p < 3)
  | .exchangeTimeout p => decide (p < 3)
  | .retryDelayExpiry p => decide (p < 3)
  | .codewordReceive p phys _ => decide (p < 3) && decide (phys < 2)
  | .dimEntry p => decide (p < 3)
  | .dimReceive p => decide (p < 3)
  | .dimExit p => decide (p < 3)
  | .dimExitBurstReceive p b => decide (p < 3) && decide (b.locked < 4)
  | .laneFailure p lane _ => decide (p < 3) && decide (lane < 2)
  | .spareRepeat p => decide (p < 3)
  | .lanectlSpareReceive p lane => decide (p < 3) && decide (lane < 2)
  | .lanectlStripeReceive p mask => decide (p < 3) && decide (mask < 4)
  | .lanectlJoinReceive p lane => decide (p < 3) && decide (lane < 2)
  | .sparedLaneJudge p lane _ => decide (p < 3) && decide (lane < 2)
  | .foreignFrameIngress ep typ kind _ _ _ => decide (ep < 65536) && decide (typ < 16) && decide (kind < 256)
  | .meterRetest => true
  | .schedulerOffer p => decide (p < 3)
  | .frameReceive p _ _ _ _ => decide (p < 3)
  | .nakResendTimer p => decide (p < 3)
  | .ackReceive p _ _ => decide (p < 3)
  | .nakReceive p _ _ => decide (p < 3)
  | .replayTimeout p => decide (p < 3)
  | .creditReceive p _ _ => decide (p < 3)
  | .creditRefresh p => decide (p < 3)
  | .e2eAckSend => true
  | .e2eAckReceive _ => true
  | .e2eTimeout tid => decide (tid < 4096)
  | .keyxReceive p _ => decide (p < 3)
  | .keyrdyReceive p _ _ => decide (p < 3)
  | .keyExchangeTimeout p => decide (p < 3)
  | .keyExchangeRetry p => decide (p < 3)
  | .rekeyStart p => decide (p < 3)
  | .tunOpen _ _ => true
  | .tunClose _ _ => true
  | .tunRetarget _ => true
  | .tunGrant _ => true
  | .tunRevoke _ => true
  | .tunStats _ => true
  | .tunnelInstall fid _ _ _ => decide (fid < 64)
  | .tunnelActivate fid tid _ => decide (fid < 64) && decide (tid < 4096)
  | .tunnelRemove fid tid => decide (fid < 64) && decide (tid < 4096)
  | .tunnelQuiesce fid tid => decide (fid < 64) && decide (tid < 4096)
  | .tunnelCloseMessage fid tid => decide (fid < 64) && decide (tid < 4096)
  | .grantSet fid tid to_ => decide (fid < 64) && decide (tid < 4096) && decide (to_ < 64)
  | .drainComplete tid _ => decide (tid < 4096)
  | .drainTimeout tid _ => decide (tid < 4096)
  | .openingTimeout idx => decide (idx < 1024)
  | .mapUpdateReceive fid _ => decide (fid < 64)
  | .mapUpdateRetry fid _ => decide (fid < 64)
  | .reinstallContexts fid _ => decide (fid < 64)
  | .schCommit _ => true
  | .calendarSlot p => decide (p < 3)
  | .shaperTick => true
  | .meterTick => true
  | .epochBoundary p => decide (p < 3)
  | .commitSwap p => decide (p < 3)
  | .latencySample p => decide (p < 3)
  | .highWaterClear _ p _ => decide (p < 3)
  | .pcieTlpReceive link _ => decide (link < 5)
  | .completionTimeout lead req _ => decide (lead < 4096) && decide (req < 65536)
  | .readaheadExpiry slot _ => decide (slot < 16)
  | .sidebandSummarySend tid _ => decide (tid < 4096)
  | .sidebandSummaryReceive tid _ => decide (tid < 4096)
  | .postedErrorNoticeReceive tid _ => decide (tid < 4096)
  | .virtualPortConfigWrite k _ _ _ => decide (k < 16)
  | .pcxHotplug _ _ => true
  | .hotplugTmoExpiry => true
  | .hotplugLinkWaitExpiry => true
  | .dockPortLinkChange k _ _ _ => decide (k < 4)
  | .dpInputTrain k _ _ _ => decide (k < 2)
  | .dpInputModeChange k _ => decide (k < 2)
  | .irqHpdPulse _ k => decide (k < 2)
  | .reflectionClear _ k => decide (k < 2)
  | .captureFrameStart k _ _ => decide (k < 2)
  | .captureBandEnd k _ _ _ => decide (k < 2)
  | .tileAdmission k => decide (k < 6)
  | .pushRingEnable k _ => decide (k < 4)
  | .pushDoorbell k _ => decide (k < 4)
  | .pushDescriptor k _ => decide (k < 4)
  | .tileFragmentReceive tid _ _ => decide (tid < 4096)
  | .modeRecord tid _ => decide (tid < 4096)
  | .frameEndRecord tid _ => decide (tid < 4096)
  | .metadataRecord tid _ => decide (tid < 4096)
  | .ppsRecord tid _ => decide (tid < 4096)
  | .refreshRecord tid _ => decide (tid < 4096)
  | .sinkRecord tid _ => decide (tid < 4096)
  | .hdcpRxidRecord tid _ => decide (tid < 4096)
  | .frameBoundary k _ _ => decide (k < 4)
  | .dsoFlip _ => true
  | .outputEnable _ k _ => decide (k < 4)
  | .outputRefreshRequest _ k => decide (k < 4)
  | .monitorHotplug k _ => decide (k < 4)
  | .linkSyncSend x => decide (x.p < 3)
  | .syncMReceive p _ => decide (p < 3)
  | .syncSReceive p _ => decide (p < 3)
  | .followReceive p _ _ _ _ => decide (p < 3)
  | .announceSend => true
  | .announceReceive p _ => decide (p < 3)
  | .announceTimeout p => decide (p < 3)
  | .holdoverTimeout => true
  | .externalOffsetWrite _ _ => true
  | .ppsInEdge => true
  | .sourceLost _ => true
  | .timeSet _ _ => true
  | .clockRead _ => true
  | .ppsOutPulse => true
  | .timArm _ => true
  | .triggerEdge k => decide (k < 4)
  | .probeStart _ _ => true
  | .probeReceive tid _ => decide (tid < 4096)
  | .probeReplyReceive tid _ => decide (tid < 4096)
  | .ethernetFrameReceive n _ => decide (n < 2)
  | .ethernetFrameTransmit n => decide (n < 2)
  | .ethernetLinkChange n _ _ => decide (n < 2)
  | .glintPop _ _ n => decide (n < 2)
  | .mdioFrameStart _ _ => true
  | .mdioFrameDone data => decide (data < 65536)
  | .nicQueueEnable f _ q _ => decide (f < 2) && decide (q < 16)
  | .nicDoorbell f _ q _ _ => decide (f < 2) && decide (q < 16)
  | .nicTxDescriptor f q _ => decide (f < 2) && decide (q < 16)
  | .cartSubmit _ _ => true
  | .cartQuery _ => true
  | .cartAbort _ => true
  | .cartPrepareSend id => decide (id < 65536)
  | .cartPrepareReceive coord id _ _ _ => decide (coord < 64) && decide (id < 65536)
  | .cartDrainReady coord id => decide (coord < 64) && decide (id < 65536)
  | .cartDrainDeadline coord id => decide (coord < 64) && decide (id < 65536)
  | .cartVoteReceive src id _ _ _ _ => decide (src < 64) && decide (id < 65536)
  | .cartVoteDeadline id => decide (id < 65536)
  | .cartGoReceive src coord id _ => decide (src < 64) && decide (coord < 64) && decide (id < 65536)
  | .cartAbortReceive src coord id _ => decide (src < 64) && decide (coord < 64) && decide (id < 65536)
  | .cartCommitTime coord id => decide (coord < 64) && decide (id < 65536)
  | .cartDecisionResend id => decide (id < 65536)
  | .cartQuerySend coord id => decide (coord < 64) && decide (id < 65536)
  | .cartQueryReceive src coord id _ => decide (src < 64) && decide (coord < 64) && decide (id < 65536)
  | .cartAnswerReceive src coord id _ => decide (src < 64) && decide (coord < 64) && decide (id < 65536)
  | .cartSeqsReceive coord id tid _ _ _ => decide (coord < 64) && decide (id < 65536) && decide (tid < 4096)
  | .cartSeqsResend coord id => decide (coord < 64) && decide (id < 65536)
  | .cartSeqsDeadline coord id => decide (coord < 64) && decide (id < 65536)
  | .cartDoneReceive src id _ _ _ _ => decide (src < 64) && decide (id < 65536)
  | .cartDoneackReceive coord id => decide (coord < 64) && decide (id < 65536)
  | .cartCompletionTimeout id => decide (id < 65536)
  | .cartHoldAlarm coord id => decide (coord < 64) && decide (id < 65536)
  | .cartSlotRelease coord id => decide (coord < 64) && decide (id < 65536)
  | .neighbourSend p => decide (p < 3)
  | .neighbourReceive p _ => decide (p < 3)
  | .helloTimeout p => decide (p < 3)
  | .recordRefresh => true
  | .recordReceive p _ _ => decide (p < 3)
  | .recordExpiry _ => true
  | .assignSend _ => true
  | .assignReceive p _ => decide (p < 3)
  | .autoFidTimeout => true
  | .quarantineTimeout => true
  | .routeCompute => true
  | .routeInstall => true
  | .installWaitDrop => true
  | .fabAssign _ => true
  | .fabRoute _ => true
  | .fabTopo _ => true
  | .upstreamSwitch _ => true
  | .upstreamSwitchComplete => true
  | .usbBusReset _ _ _ => true
  | .usbSuspend => true
  | .usbResume _ => true
  | .usbRemoteWake => true
  | .usbOverCurrent k _ => decide (k < 8)
  | .hubClassRequest _ => true
  | .ttSplitTransaction k _ _ => decide (k < 8)
  | .yalcelGetInfo => true
  | .yalcelRegRead a _ _ => decide (a < 16777216)
  | .yalcelRegWrite a _ _ => decide (a < 16777216)
  | .yalcelPwrReq _ _ => true
  | .yalcelFwBegin _ _ _ => true
  | .yalcelImageData _ => true
  | .flashSectorDone _ => true
  | .yalcelFwCommit _ => true
  | .fwCheckDone _ => true
  | .yalcelFwStatus => true
  | .yalcelReset _ _ => true
  | .yalcelDlBegin _ _ => true
  | .yalcelDlGo _ => true
  | .yalcelUnknownRequest b => decide (b < 256)
  | .pdAttach n _ _ _ _ _ => decide (n < 3)
  | .pdDetach n => decide (n < 3)
  | .drpToggle n => decide (n < 3)
  | .pdTableWrite _ n _ k _ => decide (n < 3) && decide (k < 11)
  | .pdSourceCapsReceive n _ _ => decide (n < 3)
  | .pdRequestReceive n _ _ => decide (n < 3)
  | .pdPsRdyReceive n => decide (n < 3)
  | .pdSwapRequestReceive n _ => decide (n < 3)
  | .pdEprModeReceive n _ => decide (n < 3)
  | .pdVdmReceive n _ => decide (n < 3)
  | .vbusSettled n _ _ => decide (n < 3)
  | .vbusTransitionTimeout n => decide (n < 3)
  | .vbusProtectionTrip n x => decide (n < 3) && decide (x.vbus < 1024) && decide (x.isns < 1024)
  | .ppsRenew n => decide (n < 3)
  | .hardResetCommand _ n => decide (n < 3)
  | .pdHardReset n _ => decide (n < 3)
  | .hardResetVbusOff n => decide (n < 3)
  | .hardResetVbusRestore n => decide (n < 3)
  | .errorRecoveryEnd n => decide (n < 3)
  | .pdRelease _ n => decide (n < 3)
  | .moistureCheck n _ => decide (n < 3)
  | .pwrReq _ => true
  | .hewerPhaseDone => true
  | .userHewerWfiTimeout n => decide (n < 24)
  | .handshakeAnswer _ => true
  | .handshakeDeferExpiry => true
  | .preparePhaseDone => true
  | .powerStateEntered => true
  | .wakeSource x => decide (x.j < 9)
  | .powerExitComplete => true
  | .domainWake dom => decide (dom < 12)
  | .domainIdleStop dom => decide (dom < 12)
  | .corePrestart => true
  | .ftime n rd _ => decide (n < 24) && decide (rd < 32)
  | .crc32 n rd _ _ => decide (n < 24) && decide (rd < 32)
  | .ckpt n rd _ => decide (n < 24) && decide (rd < 32)
  | .jrnl n _ _ _ => decide (n < 24)
  | .evr n _ _ => decide (n < 24)
  | .waitev n rd _ _ => decide (n < 24) && decide (rd < 32)
  | .hwmodeWrite n _ => decide (n < 24)
  | .hwkick n => decide (n < 24)
  | .mbRecv n _ _ => decide (n < 24)
  | .mbSend n _ _ => decide (n < 24)
  | .evSub n _ _ => decide (n < 24)
  | .evNext n _ => decide (n < 24)
  | .wait n _ _ => decide (n < 24)
  | .hewerRegRead n _ => decide (n < 24)
  | .ptpRecv n _ _ => decide (n < 24)
  | .ptpSend n _ _ _ _ _ => decide (n < 24)
  | .exit n => decide (n < 24)
  | .userHewerRun _ n _ => decide (n < 24)
  | .mailboxSend _ n _ => decide (n < 24)
  | .userHewerException n cause => decide (n < 24) && decide (cause < 16)
  | .hewerWatchdogExpiry n => decide (n < 24)
  | .hewerFailure n cause => decide (n < 24) && decide (cause < 16)
  | .takeoverImageLoaded d _ => decide (d < 18)
  | .takeoverCatchupDone d => decide (d < 18)
  | .galleryEccError _ _ _ _ => true
  | .dramTemperatureChange _ => true
  | .lifecycleRequest _ target => decide (target < 8)
  | .lifecycleBurnDone cells => decide (cells < 65)
  | .nonceGenerate _ => true
  | .keyDerive _ _ _ => true
  | .keyKeygen _ _ _ => true
  | .keyAgree _ _ _ => true
  | .keySign _ _ _ => true
  | .keyPubkey _ _ _ => true
  | .keyVerify _ _ _ => true
  | .keyErase _ _ _ => true
  | .keyAttest _ _ _ => true
  | .keyUnwrap _ _ _ => true
  | .keyWrap _ _ _ => true
  | .keyGenroot _ _ _ => true
  | .keyProgram _ _ _ => true
  | .keyAdvance _ _ _ => true
  | .keyDbgunlock _ _ _ => true
  | .keyOperationDone _ => true
  | .faultRecoveryComplete _ => true
  | .warmrstNRelease => true
  | .pcieUpstreamLinkChange _ _ _ => true
  | .lanternMirrorUpdate => true
  | .downstreamPortChange k _ _ => decide (k < 8)
  | .usbStandardRequest dev _ _ => decide (dev < 2)
  | .pdSwapResponseReceive n _ => decide (n < 3)
  | .pdSwapRetry n => decide (n < 3)
  | .rekeyOverdue p => decide (p < 3)

end Sys2Proof
end

