-- ==== Sys2Proof/Tests/Slice0.lean ====
section
/-! SUPPORT. This model's own tests: ill-formed commands are refused, the manual's worked examples, and for every statement with hypotheses a state and operands that meet them. -/

namespace Sys2Proof.Tests

open Sys2Proof.Machine

set_option Elab.async false

/-! ### Small states the witnesses are built from -/

/-- A host bridge out of reset that owns the fabric, at FID 1, with rings 0 to 4 enabled (command, completion, event,
data-out, data-in), an entry waiting on rings 0 and 3, event group 0 recorded on ring 2, a route to 0x7001. -/
def wHost : State :=
  let s := { State.reset with boot := { BootSt.reset with held := false, porstLow := false, pers := 2, rstCnt := 0 } }
  ((((((((((((s.wr (A.GLB_RCFG 0) 0x01000401).wr (A.GLB_RIDX 0) 0x00010000).wr (A.GLB_RCFG 1) 0x402).wr (A.GLB_RCFG 2) 0x403).wr
    (A.GLB_RCFG 3) 0x404).wr (A.GLB_RIDX 3) 0x00010000).wr (A.GLB_RCFG 4) 0x405).wr (A.EVT_GMAP 0) 0x8002).put F.GLB_OWNER_STATE 3).put
    F.GLB_OWNER_OWNFID 1).put F.FAB_ID_FID 1).put (F.FAB_RT_PRIV 5) 1)

/-- A command on ring 0 with a target and operand bits. -/
def wCmd (target ops : Nat) : HostCmd :=
  { ring := 0, desc := BitVec.ofNat 504 (7 * 2 ^ 8 + target * 2 ^ 24 + ops * 2 ^ 56) }

def wTicket : InFlight := { serial := 0, pair := 1, ring := 0, idx := 0, tag := 7, opcode := 1, req := some 0, dst := 5, own := true }

def wWait : State := wHost.ctlM fun k => { k with inflight := [wTicket], nextReq := 1 }

def wVec : State := wHost.ctlM fun k => { k with vecs := [(3, true)] }

def wRec : EvRec := { evnum := 1, masked := false, remote := false, src := 4, sec := 0, ns := 0, data := List.replicate 12 0 }

def wHeld : State := wHost.setRing { ring := 2, total := 0, laps := 0, seq := 4, dropped := true, held := [wRec], posted := [] }

def wPar (tid typ cls aFid bFid epA epB : Nat) : TunPar :=
  { tid := tid, typ := typ, cls := cls, enc := false, men := false, policy := 0, fport := 0, aFid := aFid, bFid := bFid, epA := epA, epB := epB,
    meter := 0xFFFF, shaper := 0xFFFF, bundle := 0, grant := 0, dOut := 3, dIn := 4, cookie := 0, own := 1 }

def wCtx (idx pos : Nat) (p : TunPar) : TunCtx :=
  { idx := idx, state := 2, pos := pos, par := p, paused := 0, tx := 0, ack := 0, rx := 0, openAt := 0, copies := [], held := [], lastResend := none,
    links := [], waiting := [], first := Offer.idle, await := false, stat := TunStat.zero }

/-- The open HOSTDATA end of TID 9, from endpoint 0x7000 here to 0x7001. -/
def wEnd : TunCtx := wCtx 0 1 (wPar 9 8 4 1 1 0x7000 0x7001)

def wData : State := wHost.tunM fun t => { t with ctxs := [wEnd] }

def wDesc : DataOut := { desc := BitVec.ofNat 512 (1 + 2 ^ 8 + 2 * 2 ^ 32 + 0x5000 * 2 ^ 64 + 2 * 2 ^ 128), bytes := [1, 2] }

def wRecord (fid role : Nat) : Rec :=
  { uid := fid, fid := fid, src := 2, role := role, quar := false, qcause := 0, seq := 1, chg := 0, rstCnt := 0, ports := [] }

/-- A port of a RECORD, up toward a UID's port. -/
def wRP (peer pport : Nat) : RecPort := { peer := peer, pport := pport, up := true, rate := 0, lanes := 3, enc := false }

/-- The RECORDs of a chain of this device (UID 0, FID 1) and two others, of the given FIDs and roles. -/
def wChain (x rx y ry : Nat) : List HeldRec :=
  [{ r := { wRecord 1 0 with uid := 0, ports := [wRP x 0] }, at_ := 0 }, { r := { wRecord x rx with ports := [wRP 0 0, wRP y 0] }, at_ := 0 },
   { r := { wRecord y ry with ports := [wRP x 1] }, at_ := 0 }]

def wGraph : State :=
  wHost.fabM fun x => { x with recs := [{ r := wRecord 6 0, at_ := 0 }], live := { nodes := [1, 6], links := [] } }

def wY (to_ : Nat) (sent : Bool) : YieldSt := { ticket := wTicket, tofid := to_, sent := sent }

def wYield (to_ : Nat) (sent : Bool) : State := wHost.ownM fun o => { o with yielding := some (wY to_ sent) }

/-- A host bridge with an alive host, in a state of Table 4-11. -/
def wAlive (st : Nat) : State := (wHost.ownM fun o => { o with perstHigh := true, linkUp := true, bme := true }).put F.GLB_OWNER_STATE st

def wBest : State := (wAlive 2).ownM fun o => { o with best := some (7, ⟨3, 3⟩, 4) }

def wWon : State := (wAlive 2).ownM fun o => { o with best := some (1, ⟨128, 0⟩, 4), ownClaim := true, highClaim := some 4 }

def wDead : State := (wAlive 0).ownM fun o => { o with linkUp := false }

def wTmo : State := wHost.put F.GLB_ALIVE_TMO 5

def wStraps : State := State.reset.bootM fun b => { b with porstLow := false, strapsDue := true }

def wStraps2 : State := wStraps.bootM fun b => { b with roleLatched := true }

def wRail : State := wHost.bootM fun b => { b with railsLow := [2], held := true }

def wPosted : State := wHost.ctlM fun k => { k with posted := [{ req := .host, addr := A.TIM_CTRL, data := 1 }] }

def wAlert (causes : Nat) : State := wHost.smbM fun b => { b with causes := causes }

/-- Port 0 enabled, with its mode entered or not, in a state of Table 5-4. -/
def wPort (entered st : Nat) (x : PortSt) : State :=
  { ((wHost.put (F.ADT_CTRL_EN 0) 1).put (F.ADT_ALT_ENTERED 0) entered).put (F.ADT_STAT_STATE 0) st with ports := [x, PortSt.reset, PortSt.reset] }

/-- A capability frame of a VERSION with ACK set. -/
def wCap (ver : Nat) : List (BitVec 8) :=
  [0x44#8, 0x5A#8, 0x43#8, 0x58#8] ++ ([ver, 5, 1, 0, 15, 0xFF, 2, 0].flatMap fun v => leBytes 1 v) ++ leBytes 52 0

/-- Port 0 Lit, transmitting and receiving on lanes, with a lane asked to be spared. -/
def wLanes (tx rx asking : Nat) : State :=
  ((wPort 1 5 { PortSt.reset with asking := asking }).put (F.ADT_LANE_TXUSE 0) tx).put (F.ADT_LANE_RXUSE 0) rx

/-- Port 0 receiving codewords on both lanes, neither locked. -/
def wCoded : State := ((wPort 1 3 PortSt.reset).put (F.ADT_LANE_RXUSE 0) 3).put (F.ADT_DEGCFG_THR 0) 0

/-- A neighbour heard on port 0. -/
def wNeigh : Neigh := { uid := 5, fid := 5, src := 2, role := 1, port := 0, rstCnt := 0 }

/-- Port 0 UP towards FID 5, carrying every class. -/
def wUp : State :=
  let s := (wPort 1 5 { PortSt.reset with inRoute := true }).fabM fun f => { f with neigh := [(0, wNeigh)] }
  s.linkM 0 fun l => { l with classes := 255, txLimit := List.replicate 8 1000, txSeen := 255 }

def wFar (held : List HeldFrame) : TunCtx := { wCtx 0 1 (wPar 9 8 1 1 5 0x7000 0x7000) with held := held }

def wNet : State := wUp.tunM fun t => { t with ctxs := [wFar []] }

def wHeldF : HeldFrame := { bytes := [1, 2], kind := 0x11, last := true, yellow := false }

def wHeldNet : State := wUp.tunM fun t => { t with ctxs := [wFar [wHeldF]] }

/-- A fabric frame of class 6. -/
def wHello : Frame :=
  { dst := 5, src := 1, tid := 0, cls := 6, kind := 0x10, len := 2, hseq := 0, eseq := 0, ttl := 63, flags := 0, rsvd := 0, payload := [3, 4] }

def wWire (h : Nat) : Wire := { f := { wHello with hseq := h }, hdr := 0, body := [], tag := none }

def wReplay (replay resend : List Wire) : State :=
  (wPort 1 5 PortSt.reset).linkM 0 fun l => { l with replay := replay, resend := resend }

def wFabFrame : QFrame := { queue := none, f := wHello, at_ := 0, from_ := none, fence := none }

def wFabQ : State := wUp.schM 0 fun c => { c with queue := [wFabFrame] }

def wAck : OwedAck := { dst := 5, tid := 9, resend := false, eseq := 4 }

def wOwed : State := wUp.tunM fun t => { t with owed := [wAck] }

def wHas : TunCtx :=
  { wCtx 0 1 (wPar 9 8 1 1 5 0x7000 0x7000) with copies := [{ f := { wHello with tid := 9, eseq := 3 }, port := 0, fence := none }], tx := 4 }

def wCopies : State := wUp.tunM fun t => { t with ctxs := [wHas] }

/-- An encrypted link on port 0 with KX at a value. -/
def wKx (kx : Nat) (k : KeySt) : State :=
  (((wPort 1 5 PortSt.reset).put (F.ADT_STAT_ENC 0) 1).put (F.ADT_KEYSTAT_KX 0) kx).keyM 0 fun _ => k

/-- A relay with the contexts of a tunnel. -/
def wRelay (cs : List TunCtx) : State :=
  (({ State.reset with boot := { BootSt.reset with held := false, porstLow := false } }).put F.GLB_STRAP_ROLE 2).tunM fun t => { t with ctxs := cs }

def wHop : TunCtx := wCtx 0 3 (wPar 9 8 4 6 7 0x7000 0x7000)

def wRelayEnd : TunCtx := { wCtx 0 1 (wPar 9 4 4 0 7 0x3000 0x2000) with copies := [{ f := { wHello with tid := 9, eseq := 3 }, port := 0, fence := none }] }

/-- A host bridge with two others behind it, at FIDs 6 and 7, and a TID map. -/
def wMap (m : List HeldTid) : State :=
  (wHost.fabM fun x => { x with
    recs := wChain 6 0 7 0
    graph := { nodes := [1, 6, 7], links := [{ a := 6, ap := 0, b := 7, bp := 0, enc := false }] }
    live := { nodes := [1, 6, 7], links := [{ a := 6, ap := 0, b := 7, bp := 0, enc := false }] } }).tunM fun t => { t with map := m }

def wOpenOps : Nat :=
  (resultOf [(0x08, 9), (0x0A, 0x58), (0x0C, 6), (0x0D, 7), (0x0E, 0x7000), (0x10, 0x7000), (0x12, 0xFFFF), (0x14, 0xFFFF), (0x19, 3), (0x1A, 4)]).toNat

def wAns (fid : Nat) : DevAns :=
  { fid := fid, tid := 9, inst := 0, idxA := fid, idxB := fid, act := true, rem := true, rings := true, copies := 2, tx := 3, rx := 4 }

def wHeldTid : HeldTid := { par := { wPar 9 8 5 6 7 0x7000 0x7000 with cookie := 0 }, path := [6, 7], stale := [] }

/-- The held TID, with a close (0) or a retarget (1) that waits for its drain. -/
def wDrain (kind : Nat) (force : Bool) : State :=
  (wMap [wHeldTid]).tunM fun t => { t with waits := [{ who := .cmd wTicket, tid := 9, kind := kind, force := force, endB := true, newFid := 7, newEp := 0x7000, dOut := 3, dIn := 4 }] }

def wMirror : State := wHost.put F.GLB_OWNER_OWNFID 5 |>.tunM fun t => { t with mapSeq := 3 }

def wMapMsg (q : Nat) : MapMsg := { seq := q, full := false, last := false, tids := [{ tid := 9, held := some (wPar 9 8 4 6 7 0x7000 0x7000) }], binds := [] }

def wFrameQ (q : Nat) (cls : Nat) : QFrame :=
  { queue := some q, f := { wHello with cls := cls, tid := 9, kind := 0x11 }, at_ := 0, from_ := none, fence := none }

/-- Port 0 at two lanes of the middle rate with a slot time to match, one tunnel of class 4 with a frame queued, and the calendar's
slot 1 granting queue 0. -/
def wCal (kind : Nat) : State :=
  ((((((wNet.put (F.ADT_STAT_RATE 0) 1).put (F.ADT_STAT_TXLANES 0) 3).put (F.SCH_SLOT_SLOTPS 0) 168000).put (F.SCH_CALA_KIND 0 1) kind).schM 0
    fun c => { c with queue := [wFrameQ 0 4] })).tunM fun t => { t with ctxs := [{ wFar [] with par := wPar 9 8 4 1 5 0x7000 0x7000 }] }

def wShaped : State := (wUp.put (F.SCH_CSHA0_RATE 0 3) 1000).put (F.SCH_CSHA1_DEPTH 0 3) 20

def wMeters : State := { (wUp.put (F.SCH_META0_CIR 5) 100).put (F.SCH_META0_CBS 5) 200 with meters := [{ m := 5, c := -10, p := 7 }] }

def wStaged : Staged := { at_ := some 64000, late := none, group := 3, cart := none }

def wDrained : State :=
  { wUp.schM 0 (fun c => { c with staged := some wStaged, draining := some { t0 := 0, met := none, slots := 0 } }) with
    commits := [{ group := 3, reply := .noOne, todo := 1, last := 0 }] }

def wObs : State :=
  let s := (((wRelay [wHop]).put (F.SCH_CTRL_OBSEN 0) 1).put F.GLB_OWNER_OWNFID 6).schM 0 fun c => { c with queue := [wFrameQ 0 4] }
  s

/-- A dock whose port 0 is bound to slot 2 of FID 5, its four members open toward Adit port 0. -/
def wDockCtx (idx typ : Nat) : TunCtx :=
  { wCtx idx 2 { wPar (9 + typ) typ [1, 2, 3, 7][typ]! 5 1 0x1002 0x1000 with bundle := if typ = 0 then 0 else 9 } with state := 2 }

def wDock : State :=
  ((wUp.put F.GLB_STRAP_ROLE 1).put F.GLB_STRAP_PCIEBIF 2).tunM fun t => { t with ctxs := [wDockCtx 0 0, wDockCtx 1 1, wDockCtx 2 2, wDockCtx 3 3] }

/-- A posted write of one doubleword to 0x1000, and a read of one. -/
def wWrite : List (BitVec 8) := [0x40, 0, 0, 1, 1, 0, 0, 0x0F, 0, 0, 0x10, 0, 1, 2, 3, 4]

def wRead : List (BitVec 8) := [0x00, 0, 0, 1, 1, 0, 7, 0x0F, 0, 0, 0x10, 0]

def wIn : ReqIn := { lead := 9, req := 0x100, tag := 7, hdr := wRead, owed := 4, at_ := 0 }

def wBuf : RaBuf := { slot := 2, addr := 0x1000, bytes := [some 1, some 2, some 3, some 4], at_ := 0 }

/-- A host bridge with an end A of each member at slot 2, bound to port 0 of the dock at FID 5. -/
def wSlots : State := wHost.tunM fun t => { t with ctxs := [0, 1, 2, 3].map fun k => { wDockCtx k k with pos := 1, par := { (wDockCtx k k).par with aFid := 1, bFid := 5 } } }

/-- The same host bridge with the dock in the graph and the bundle's leader held. -/
def wHot : State :=
  let s := wSlots.fabM fun x => { x with recs := wChain 5 1 6 0, graph := { nodes := [1, 5, 6], links := [] } }
  s.tunM fun t => { t with map := [{ par := { (wDockCtx 0 0).par with aFid := 6, bFid := 5 }, path := [5, 6], stale := [] }] }

def wHp (step : Nat) : HotPlug :=
  { ticket := wTicket, dock := 5, port := 0, toFid := 0, toSlot := 0, force := false, tmo := 10, ans := [], step := step, req := 3, code := none, res := 0, tid := 9,
    oldFid := 6, oldSlot := 2, freed := 8 }

def wHpRun (step : Nat) : State := wHot.pcxM fun x => { x with hp := [wHp step] }

def wSum (hrst : Nat) : List (BitVec 8) := [1, BitVec.ofNat 8 (4 * hrst), 0, 0, 0, 0, 0, 0, 3, 0, 0, 0, 0, 0, 0, 0]

def wNotice : List (BitVec 8) := [2, 1, 4, 0] ++ leBytes 8 0x1000 ++ List.replicate 20 0 ++ wWrite.take 12 ++ leBytes 4 0

/-- Input 0 trained with video. -/
def wIn0 (x : SrcSt) : State :=
  (((wUp.put (F.DSC_IN_CTRL_EN 0) 1).put (F.DSC_IN_STAT_TRAINED 0) 1).put (F.DSC_IN_STAT_VIDEO 0) 1).srcM 0 fun _ => x

def wMode : InMode := { video := true, khz := 100, w := 1, h := 65, fmt := 0, bpc := 1, dsc := false, hdcp := 0, mdata := [], pps := [] }

/-- The DISPLAY end of source `k` toward FID 5. -/
def wSrcEnd (k st : Nat) (held : List HeldFrame) : TunCtx := { wCtx 0 1 (wPar 9 4 4 1 5 (0x2000 + k) 0x3000) with state := st, held := held }

def wIn0Tun (x : SrcSt) (st : Nat) : State := (wIn0 x).tunM fun t => { t with ctxs := [wSrcEnd 0 st []] }

def wPush : State :=
  (((wUp.put (F.PUSH_CFG_EN 1) 1).put (F.PUSH_CFG_LOG2SZ 1) 4).put (F.PUSH_IDX_HOSTIDX 1) 1).tunM fun t => { t with ctxs := [wSrcEnd 3 2 [wHeldF]] }

def wPushDesc : PushDesc :=
  { desc := BitVec.ofNat 512 (1 + 3 * 2 ^ 8 + 64 * 2 ^ 128 + 2 ^ 160 + 2 ^ 176), px := [[0x010203]] }

/-- A relay whose output 0 has a DISPLAY tunnel from FID 5 by Adit port 0. -/
def wOutEnd : TunCtx := wCtx 0 2 (wPar 9 4 4 5 1 0x2000 0x3000)

def wOut (x : OutSt) : State :=
  ((((wUp.put F.GLB_STRAP_ROLE 2).wr (A.DSO_OUT_CTRL 0) 0).tunM fun t => { t with ctxs := [wOutEnd] }).doutM 0 fun _ => x)

def wPic : PicMode := { PicMode.reset with w := 1, h := 1 }

/-- A tile of one pixel, as one fragment. -/
def wTile : List (BitVec 8) := ((fragments 0 7 0 0 0 0 (encodeTile none [[0x123456]])).headD ([], true)).1

def wMap0 : List (Nat × MapTile) := [(0, { buf := 1, prot := false })]

def wMonitor : Monitor := { caps := [], edid := [], rate := 2, lanes := 4, su := false, hdcp := none }

/-- Port 0 Lit with link sync at both ends, in a time state, with no neighbour but FID 5. -/
def wSync (ps : Nat) (x : TimPort) : State :=
  ((((wUp.put F.TIM_STAT_PSTATE ps).put F.TIM_STAT_STATE 2).portM 0 fun p => { p with cap := 2, peerCap := leBytes 5 0 ++ [8] ++ leBytes 58 0 }).fabM fun f => { f with neigh := [(0, wNeigh)] }).tportM 0 fun _ => x

/-- A FOLLOW's sample: the port has answered SYNC_S with SEQ 4. -/
def wSlave (en : Nat) : State := (wSync 2 { TimPort.reset with sl := some (4, 6553600, 13107200) }).put F.TIM_CTRL_SERVOEN en |>.put F.TIM_SERVO_DLIM 0 |>.put F.TIM_ALARM_NS 0

def wAnn : Announce := { gm := 77, prio := 128, cls := 1, steps := 0, sender := 77 }

def wGm : State := (wHost.timM fun t => { t with self := true }).put F.TIM_STAT_STATE 1

def wTrig : Trig := { when := 0, next := 0, period := 0, width := 100, late := false, due := 0 }

def wTimeEnd : TunCtx := wCtx 0 1 (wPar 9 7 6 1 5 0x6000 0x6000)

def wProbe (x : Option (Nat × Nat × Int)) : State := (wUp.tunM fun t => { t with ctxs := [wTimeEnd] }).timM fun t => { t with probe := x }

def wReply : List (BitVec 8) := [4, 1, 1, 0] ++ ts12 0 ++ ts12 65536 ++ ts12 65536

def wEthEnd (typ : Nat) : TunCtx := { wCtx 0 1 (wPar 9 typ 5 1 5 0x4000 0x4000) with }

/-- A dock whose MAC 0 has a link and an ETHERNET tunnel. -/
def wEth (m : MacSt) : State :=
  ((((wUp.put F.GLB_STRAP_ROLE 1).put (F.ETH_CTRL_MODE 0) 1).put (F.ETH_STAT_LINK 0) 1).tunM fun t => { t with ctxs := [wEthEnd 5] }).macM 0 fun _ => m

def wBody : List (BitVec 8) := List.replicate 12 2 ++ [8, 6] ++ List.replicate 46 0

def wEthFrame : List (BitVec 8) := wBody ++ fcsOf wBody

def wMacTx : MacTx := { bytes := wEthFrame, time := false, yel := false, tsid := none, local_ := false }

/-- NIC function 1 with transmit queue 2 enabled and a descriptor waiting. -/
def wNic : State :=
  ((((wUp.put (F.NIC_CTRL_EN 0) 1).wr (nicBase 0 true 2 + 8) 0x401).wr (nicBase 0 true 2 + 0x10) 0x10000).tunM fun t =>
    { t with ctxs := [wCtx 0 1 (wPar 9 5 5 1 5 0x5001 0x4000)] })

def wAct (k : ActKind) : CartAct := { idx := 0, kind := k, bad := none, busy := false }

/-- A cart of ID 3 that this host bridge coordinates, with participants 6 and 7. -/
def wCart (dec : Nat) (votes : List Nat) : CartCo :=
  { id := 3, t := 9000000, ticket := some wTicket, parts := [6, 7], acts := [(6, [wAct (.power 1)]), (7, [wAct (.power 1)])], sent := dec != 9, votes := votes,
    dec := dec % 9, code := 0, reason := 0, rfid := 0, actidx := 0, sub := 0, dones := [], rst := [], k := 0 }

def wCo (now : Nat) (c : CartCo) : State := { (wMap []).crtM (fun x => { x with cos := [c] }) with clock := now * nsUnit }

/-- A participant slot for cart 3 of FID 5. -/
def wSlot (st : Nat) (a : List CartAct) : CartSlot :=
  { coord := 5, id := 3, t := 9000000, k := 0, st := st, dec := 0, acts := a, parts := [1, 6], answers := [], relayed := false, out := 0, late := 0, freed := 0,
    wait := [], made := [], resv := [], quies := [], trigs := 0, seqs := [], early := [], acked := false }

def wPart (now : Nat) (c : CartSlot) : State := { wUp.crtM (fun x => { x with slots := [c] }) with clock := now * nsUnit }

def wDrainSlot : CartSlot := { wSlot 1 [{ wAct (.close 9 true) with idx := 4 }] with quies := [9] }

def wQuies : TunCtx := { wHas with state := 3 }

def wActWord : BitVec 256 := BitVec.ofNat 256 (8 + 6 * 256 + 2 ^ 32)

/-- An owner's host bridge that holds the RECORD of FID 6 in Quarantine, and a binding of it. -/
def wBound : State :=
  (wUp.fabM fun x => { x with recs := [{ r := { wRecord 6 0 with quar := true }, at_ := 0 }] }).tunM fun t => { t with binds := [{ uid := 6, fid := 6, unbind := false }] }

/-- A host bridge that has had its first Lit and has no FID. -/
def wFresh : State := ((wHost.put F.FAB_ID_FID 0).put F.GLB_OWNER_STATE 0).fabM fun f => { f with firstLit := true }

def wInst : State := wHost.fabM fun f => { f with tinst := some 0, computed := true }

/-- A frame on port 0 from before the install, without credit. -/
def wStuck : State := (wFabQ.linkM 0 fun l => { l with txLimit := List.replicate 8 0 }).fabM fun f => { f with dropDue := true, instAt := 5 }

/-- A dock with firmware ready, its hub at Adit port 0 in a state of USB_STAT. -/
def wUsb (st : Nat) : State :=
  ((((wUp.put F.GLB_STRAP_ROLE 1).put F.GLB_BOOT_STAT 3).put F.USB_CTRL_EN 1).put F.USB_STAT_UPSRC 0).put F.USB_STAT_USTATE st |>.put (F.PD_STAT_STATE 0) 2

/-- Yalcel behind port 7, and the one of the boot ROM, with no owner known. -/
def wYal : State := ((wUsb 4).put (F.USB_PORT_EN 7) 1).put F.GLB_OWNER_STATE 0

def wRom : State := wYal.put F.GLB_BOOT_STAT 4

def wFw (len : Nat) : FwSession := { slot := 1, len := len, img := [1, 2], sectors := 0, pages := 0 }

/-- A boot directory with two slots of 1 MiB. -/
def wDir : BootDir := { aOff := 0x10000, bOff := 0x110000, seq := 1, next := 0x1000, size := 0x210000 }

def wYalDir : State := wYal.bootM fun b => { b with dir := some wDir }

def wSess (st len : Nat) : State := (wYal.put F.USB_YALSTAT_FWSTATE st).usbM fun u => { u with session := some { wFw len with sectors := if st = 2 then 1 else 0 } }

/-- Port 1 enabled, in a state of PDn_STAT, at a step, with the role it attached with. -/
def wPd (st step pr : Nat) : State :=
  ((((wHost.put (F.PD_STAT_STATE 1) st).put (F.PD_STAT_PR 1) 0).put (F.PD_CTRL_EN 1) 1).put (F.PD_CTRL_PORTROLE 1) 2).pdM 1 fun x => { x with step := step, defPr := pr == 1 }

def wOffer : PdOffer := { pos := 1, volt := 100, cur := 300, epr := false, pps := false }

/-- A host bridge in a phase of PWR_STAT, at a step of the handshake, on its way to a state. -/
def wPwr (ph step entry : Nat) : State :=
  (((wHost.put F.PWR_STAT_PHASE ph).put F.PWR_STAT_STEP step).put F.PWR_STAT_TGT entry).pwrM fun w => { w with entry := entry }

/-- A host bridge whose firmware has started. -/
def wHew : State := wHost.startHewers 0

/-- A user program runs on Hewer 20. -/
def wUser : State := (wHew.put (F.HWR_STAT_STATE 20) 1).coreM 20 fun h => { h with user := true }

/-- A dock whose local PTP path goes to Hewer 20 and holds a frame. -/
def wPtp : State := (((wUser.put F.GLB_STRAP_ROLE 1).put F.HWR_PTPSEL_TARGET 20).macM 0 fun m => { m with localRx := [([1, 2], 0)] })

def wTk (started : Bool) : Takeover := { duty := 3, old := 3, new := 18, cause := 1, started := started, late := false, seqs := [] }

def wTake (started : Bool) : State := wHew.hewM fun h => { h with takes := [wTk started] }

def wOpen : OpenFault := { seq := 5, idx := 5, cls := 1, unit := 0, masked := false, at_ := 0, aff := [] }

def wFault : State := { wHost with flt := { opens := [wOpen], gcor := [] } }

def wKeyVal (pol : Nat) : KeyVal := { kind := 0, policy := pol, depth := 0, value := [1, 2] }

/-- An engine operation runs; slot 30 holds a key. -/
def wKeyed (o : KeyOp) : State :=
  wHost.ksM fun k => { k with running := some o, slots := k.slots.set 30 { gen := 0, key := some (wKeyVal 1) } }

def wDerive : KeyOp := { fw := true, op := 1, args := [30, 0, 1, 32], dram := [] }

/-- A command on ring 0 with a reserved flag bit set. -/
def wDirty : HostCmd := { ring := 0, desc := 2 }

/-- The same machine, whose own bridge does not own the fabric. -/
def wOther : State := wHost.put F.GLB_OWNER_STATE 1

/-- A latched role of 3: everything outside the Lantern is held. -/
def wStrapped : State := (wStraps.put F.GLB_STRAP_ROLE 3).bootM fun b => { b with roleLatched := true, strapFault := true }

def wArb : ArbSt := { wait := [0, 0, 0, 0, 3, 0, 0, 0, 0, 0, 0, 0, 0, 0, 0, 0], owner := 2, last := [4, 1, 9, 2] }

def wPrio (r : Nat) : Nat := r % 4

def wFrameHdr : Frame :=
  { dst := 5, src := 1, tid := 9, cls := 4, kind := 0x0D, len := 100, hseq := 7, eseq := 8, ttl := 16, flags := 1, rsvd := 0, payload := [] }

/-! ### Well-formedness: each check refuses an operand just past its range -/

theorem test_wf_refuses_1 :
    ([.strapSample 4 0 0 0 0, .strapSample 0 4 0 0 0, .strapSample 0 0 8 0 0, .strapSample 0 0 0 64 0, .strapSample 0 0 0 0 4,
      .railBelowResetLevel 9, .railValid 9, .bootRomStart [] false false 8 false 0 [], .ringEnable 256 0, .ringDisable 256 0,
      .ringVectorChange 256 0, .doorbell 256 0 [], .unknownOpcode 256 (wCmd 0 0), .mgmtReqReceive 64 (.mgmtReq 0 0 0),
      .mgmtRspReceive 64 (.mgmtReq 0 0 0), .dataOutDescriptor 256 wDesc, .holdoffExpiry 64, .eventRecordFlush 256,
      .yieldReceive 64 0 ⟨1, 1⟩, .yieldReceive 0 65536 ⟨1, 1⟩, .heartbeatReceive 64 ⟨1, 1⟩ 0, .heartbeatReceive 0 ⟨1, 1⟩ 65536,
      .claimReceive 64 ⟨1, 1⟩ 0, .claimReceive 0 ⟨1, 1⟩ 65536, .hostAliveLost 4].all fun (i : Instr) => !i.wf) = true := by
  decide +kernel

theorem test_wf_refuses_2 :
    ([.hostAliveGained 4, .smbusAddrWrite 16777216 false, .smbusPwrreq 256 false, .smbusAlertclr 256 false,
      .enterMode 3 false 0, .exitMode 3, .retrain .host 3, .darkCommand .host 3, .portDetectStart 3, .receiverDetect 3 0,
      .receiverDetect 0 4, .trainingFrameReceive 3 0 0 ⟨0, false, 2, 1, 0, 0, false⟩ false false 0 0,
      .trainingFrameReceive 0 3 0 ⟨0, false, 2, 1, 0, 0, false⟩ false false 0 0,
      .trainingFrameReceive 0 0 2 ⟨0, false, 2, 1, 0, 0, false⟩ false false 0 0,
      .trainingFrameReceive 0 0 0 ⟨0, false, 2, 1, 0, 0, false⟩ false false 3 0,
      .trainingFrameReceive 0 0 0 ⟨0, false, 2, 1, 0, 0, false⟩ false false 0 3, .trainTimeout 3, .fallbackIdleEnd 3,
      .markerReceive 3 0 0, .markerReceive 0 2 0, .lockTimeout 3, .capabilitySend 3, .capabilityFrameReceive 3 [] 0,
      .exchangeTimeout 3, .retryDelayExpiry 3].all fun (i : Instr) => !i.wf) = true := by
  decide +kernel

theorem test_wf_refuses_3 :
    ([.codewordReceive 3 0 0, .codewordReceive 0 2 0, .dimEntry 3, .dimReceive 3, .dimExit 3,
      .dimExitBurstReceive 3 { locked := 0, bits := [] }, .dimExitBurstReceive 0 { locked := 4, bits := [] },
      .laneFailure 3 0 0, .laneFailure 0 2 0, .spareRepeat 3, .lanectlSpareReceive 3 0, .lanectlSpareReceive 0 2,
      .lanectlStripeReceive 3 0, .lanectlStripeReceive 0 4, .lanectlJoinReceive 3 0, .lanectlJoinReceive 0 2,
      .sparedLaneJudge 3 0 false, .sparedLaneJudge 0 2 false, .foreignFrameIngress 65536 0 0 [] false false,
      .foreignFrameIngress 0 16 0 [] false false, .foreignFrameIngress 0 0 256 [] false false, .schedulerOffer 3,
      .frameReceive 3 0 [] none 0, .nakResendTimer 3, .ackReceive 3 { kind := 1, arg := 5 } 0].all fun (i : Instr) => !i.wf) = true := by
  decide +kernel

theorem test_wf_refuses_4 :
    ([.nakReceive 3 { kind := 1, arg := 5 } 0, .replayTimeout 3, .creditReceive 3 { kind := 1, arg := 5 } 0, .creditRefresh 3,
      .e2eTimeout 4096, .keyxReceive 3 (.mgmtReq 0 0 0), .keyrdyReceive 3 { kind := 1, arg := 5 } 0, .keyExchangeTimeout 3,
      .keyExchangeRetry 3, .rekeyStart 3, .tunnelInstall 64 (wPar 9 8 4 6 7 0x7000 0x7000) none none,
      .tunnelActivate 64 0 false, .tunnelActivate 0 4096 false, .tunnelRemove 64 0, .tunnelRemove 0 4096, .tunnelQuiesce 64 0,
      .tunnelQuiesce 0 4096, .tunnelCloseMessage 64 0, .tunnelCloseMessage 0 4096, .grantSet 64 0 0, .grantSet 0 4096 0,
      .grantSet 0 0 64, .drainComplete 4096 [], .drainTimeout 4096 [], .openingTimeout 1024].all fun (i : Instr) => !i.wf) = true := by
  decide +kernel

theorem test_wf_refuses_5 :
    ([.mapUpdateReceive 64 (wMapMsg 4), .mapUpdateRetry 64 0, .reinstallContexts 64 [], .calendarSlot 3, .epochBoundary 3,
      .commitSwap 3, .latencySample 3, .highWaterClear .host 3 0, .pcieTlpReceive 5 [], .completionTimeout 4096 0 0,
      .completionTimeout 0 65536 0, .readaheadExpiry 16 0,
      .sidebandSummarySend 4096 { wake := false, clkreq := false, hpd := 0, eth0 := false, eth1 := false, gpio := 0, fan := 9 },
      .sidebandSummaryReceive 4096 [], .postedErrorNoticeReceive 4096 [], .virtualPortConfigWrite 16 .sbr 0 0,
      .dockPortLinkChange 4 false 0 0, .dpInputTrain 2 false 0 0, .dpInputModeChange 2 wMode, .irqHpdPulse .host 2,
      .reflectionClear .host 2, .captureFrameStart 2 false 0, .captureBandEnd 2 0 0 (.pixels [[{ c0 := 1, c1 := 2, c2 := 3 }]]),
      .tileAdmission 6, .pushRingEnable 4 0].all fun (i : Instr) => !i.wf) = true := by
  decide +kernel

theorem test_wf_refuses_6 :
    ([.pushDoorbell 4 0, .pushDescriptor 4 wPushDesc, .tileFragmentReceive 4096 [] false, .modeRecord 4096 [],
      .frameEndRecord 4096 [], .metadataRecord 4096 [], .ppsRecord 4096 [], .refreshRecord 4096 [], .sinkRecord 4096 [],
      .hdcpRxidRecord 4096 [], .frameBoundary 4 [] none, .outputEnable .host 4 none, .outputRefreshRequest .host 4,
      .monitorHotplug 4 none, .linkSyncSend { p := 3, ui := 0 }, .syncMReceive 3 { seq := 0, ui := 0, uiTx := 0 },
      .syncSReceive 3 { seq := 0, ui := 0 }, .followReceive 3 0 0 0 0, .announceReceive 3 wAnn, .announceTimeout 3,
      .triggerEdge 4, .probeReceive 4096 [], .probeReplyReceive 4096 [], .ethernetFrameReceive 2 [], .ethernetFrameTransmit 2].all fun (i : Instr) => !i.wf) = true := by
  decide +kernel

theorem test_wf_refuses_7 :
    ([.ethernetLinkChange 2 false 0, .glintPop .host false 2, .mdioFrameDone 65536, .nicQueueEnable 2 false 0 0,
      .nicQueueEnable 0 false 16 0, .nicDoorbell 2 false 0 0 [], .nicDoorbell 0 false 16 0 [],
      .nicTxDescriptor 2 0 { desc := BitVec.ofNat 256 (60 * 2 ^ 64), bytes := wBody },
      .nicTxDescriptor 0 16 { desc := BitVec.ofNat 256 (60 * 2 ^ 64), bytes := wBody }, .cartPrepareSend 65536,
      .cartPrepareReceive 64 0 0 [] [], .cartPrepareReceive 0 65536 0 [] [], .cartDrainReady 64 0, .cartDrainReady 0 65536,
      .cartDrainDeadline 64 0, .cartDrainDeadline 0 65536, .cartVoteReceive 64 0 false 0 0 0,
      .cartVoteReceive 0 65536 false 0 0 0, .cartVoteDeadline 65536, .cartGoReceive 64 0 0 0, .cartGoReceive 0 64 0 0,
      .cartGoReceive 0 0 65536 0, .cartAbortReceive 64 0 0 0, .cartAbortReceive 0 64 0 0, .cartAbortReceive 0 0 65536 0].all fun (i : Instr) => !i.wf) = true := by
  decide +kernel

theorem test_wf_refuses_8 :
    ([.cartCommitTime 64 0, .cartCommitTime 0 65536, .cartDecisionResend 65536, .cartQuerySend 64 0, .cartQuerySend 0 65536,
      .cartQueryReceive 64 0 0 0, .cartQueryReceive 0 64 0 0, .cartQueryReceive 0 0 65536 0, .cartAnswerReceive 64 0 0 0,
      .cartAnswerReceive 0 64 0 0, .cartAnswerReceive 0 0 65536 0, .cartSeqsReceive 64 0 0 false 0 0,
      .cartSeqsReceive 0 65536 0 false 0 0, .cartSeqsReceive 0 0 4096 false 0 0, .cartSeqsResend 64 0, .cartSeqsResend 0 65536,
      .cartSeqsDeadline 64 0, .cartSeqsDeadline 0 65536, .cartDoneReceive 64 0 0 0 0 0, .cartDoneReceive 0 65536 0 0 0 0,
      .cartDoneackReceive 64 0, .cartDoneackReceive 0 65536, .cartCompletionTimeout 65536, .cartHoldAlarm 64 0,
      .cartHoldAlarm 0 65536].all fun (i : Instr) => !i.wf) = true := by
  decide +kernel

theorem test_wf_refuses_9 :
    ([.cartSlotRelease 64 0, .cartSlotRelease 0 65536, .neighbourSend 3, .neighbourReceive 3 wNeigh, .helloTimeout 3,
      .recordReceive 3 (wRecord 6 0) [],
      .assignReceive 3 { uid := 99, fid := 4, owner := 1, gen := 0, try_ := 0, bound := false }, .usbOverCurrent 8 false,
      .ttSplitTransaction 8 { kind := 0, ep := 0 } false, .yalcelRegRead 16777216 0 false, .yalcelRegWrite 16777216 [] false,
      .yalcelUnknownRequest 256, .pdAttach 3 false false false 0 0, .pdDetach 3, .drpToggle 3, .pdTableWrite .host 3 false 0 0,
      .pdTableWrite .host 0 false 11 0, .pdSourceCapsReceive 3 { epr := false, rev := 31 } [],
      .pdRequestReceive 3 0 { cur := 0, rev := 31 }, .pdPsRdyReceive 3, .pdSwapRequestReceive 3 0, .pdEprModeReceive 3 0,
      .pdVdmReceive 3 .getStatus, .vbusSettled 3 0 0, .vbusTransitionTimeout 3].all fun (i : Instr) => !i.wf) = true := by
  decide +kernel

theorem test_wf_refuses_10 :
    ([.vbusProtectionTrip 3 { vbus := 0, isns := 0 }, .vbusProtectionTrip 0 { vbus := 1024, isns := 0 },
      .vbusProtectionTrip 0 { vbus := 0, isns := 1024 }, .ppsRenew 3, .hardResetCommand .host 3, .pdHardReset 3 false,
      .hardResetVbusOff 3, .hardResetVbusRestore 3, .errorRecoveryEnd 3, .pdRelease .host 3, .moistureCheck 3 0,
      .userHewerWfiTimeout 24, .wakeSource { j := 9, level := true }, .domainWake 12, .domainIdleStop 12, .ftime 24 0 0,
      .ftime 0 32 0, .crc32 24 0 0 0, .crc32 0 32 0 0, .ckpt 24 0 [], .ckpt 0 32 [], .jrnl 24 0 0 (.host 4096 [1]),
      .evr 24 0 [], .waitev 24 0 0 0, .waitev 0 32 0 0].all fun (i : Instr) => !i.wf) = true := by
  decide +kernel

theorem test_wf_refuses_11 :
    ([.hwmodeWrite 24 0, .hwkick 24, .mbRecv 24 0 0, .mbSend 24 0 [], .evSub 24 0 0, .evNext 24 0, .wait 24 0 0,
      .hewerRegRead 24 0, .ptpRecv 24 0 0, .ptpSend 24 0 0 0 false [], .exit 24, .userHewerRun .host 24 0,
      .mailboxSend .host 24 0, .userHewerException 24 0, .userHewerException 0 16, .hewerWatchdogExpiry 24, .hewerFailure 24 0,
      .hewerFailure 0 16, .takeoverImageLoaded 18 false, .takeoverCatchupDone 18, .lifecycleRequest .host 8,
      .lifecycleBurnDone 65, .downstreamPortChange 8 0 0, .usbStandardRequest 2 .getConfig false, .pdSwapResponseReceive 3 0].all fun (i : Instr) => !i.wf) = true := by
  decide +kernel

theorem test_wf_refuses_12 :
    ([.pdSwapRetry 3, .rekeyOverdue 3].all fun (i : Instr) => !i.wf) = true := by
  decide +kernel

/-! ### The manual's worked examples, and single steps -/

/-- What a command leaves, tested. -/
def after (c : Instr) (s : State) (q : State → Bool) : Bool :=
  match exec c s with
  | .next t => q t
  | _ => false

/-- The header example of chapter 6: bytes 0 to 13. -/
def wEthernet : Frame :=
  { dst := 2, src := 1, tid := 0x025, cls := 5, kind := 0x0C, len := 1518, hseq := 0x7F3, eseq := 0x1A2B, ttl := 63, flags := 0,
    rsvd := 0, payload := [] }

theorem test_header_example : (packHeader wEthernet).toNat / 65536 = 0x081025AC17B9FCC68AFF00000000 := by decide +kernel

/-- The check value the IEEE 802.3 CRC-32 gives for the digits 1 to 9 (R148 names that CRC). -/
theorem test_crc32_digits :
    crc32 [0x31#8, 0x32#8, 0x33#8, 0x34#8, 0x35#8, 0x36#8, 0x37#8, 0x38#8, 0x39#8] = 0xCBF43926#32 := by decide +kernel

/-- Spill requesters 6 and 9 have waited 63 rounds; scan-out 0 and 1 request in every round (the example after R461). -/
def wSpill : ArbSt := { wait := [1, 0, 0, 0, 0, 0, 64, 0, 0, 64, 0, 0, 0, 0, 0, 0], owner := 1, last := [15, 15, 15, 1] }

/-- Table 18-8's limits and priorities of these four. -/
def wSpillPrio (r : Nat) : Nat := if r < 2 then 3 else 1

theorem test_arbiter_example_first : (wSpill.round wSpillPrio (fun _ => 64) [0, 1, 6, 9]).owner = 6 := by decide +kernel

theorem test_arbiter_example_second :
    ((wSpill.round wSpillPrio (fun _ => 64) [0, 1, 6, 9]).round wSpillPrio (fun _ => 64) [0, 1, 9]).owner = 9 := by decide +kernel

theorem test_arbiter_example_third :
    (((wSpill.round wSpillPrio (fun _ => 64) [0, 1, 6, 9]).round wSpillPrio (fun _ => 64) [0, 1, 9]).round wSpillPrio
      (fun _ => 64) [0, 1]).owner = 0 := by decide +kernel

/-- Event 162's status register and group map (the example after R505). -/
theorem test_event_162 : A.EVT_STAT (162 / 32) = 0x4014 ∧ 162 % 32 = 2 ∧ A.EVT_GMAP (162 / 8) = 0x4150 := by decide

/-- Laptop B ranks above laptop A by its lower UID (the example after R109). -/
theorem test_rank_example : Rank.higher ⟨0x80, 0x000051C300017E08⟩ ⟨0x80, 0x000051C300021A40⟩ = true := by decide +kernel

/-- The same example at 6.000 ms: the window closes, FID 1's claim is the best heard, and it sends a heartbeat with GEN 8. -/
theorem test_election_example :
    after .electionClose ((wWon.ownM fun o => { o with highClaim := some 8 }).put F.GLB_OWNER_GEN 7) (fun t =>
      t.get F.GLB_OWNER_STATE == 3 && t.get F.GLB_OWNER_GEN == 8) = true := by decide +kernel

/-- The same example at 0.400 ms: PCIE_PERST_N of the owner's host falls and the bridge enters FOLLOWER. -/
theorem test_owner_lost_example :
    after .pciePerstAssert (wAlive 3) (fun t => t.get F.GLB_OWNER_STATE == 1) = true := by decide +kernel

/-- Role 11 holds the device (Table 0-2). -/
theorem test_role_reserved : after (.strapSample 3 0 0 0 0) wStraps (fun t => t.boot.held && t.boot.strapFault) = true := by
  decide +kernel

/-- GLB_RST takes no effect with a wrong key (R80). -/
theorem test_reset_bad_key :
    after (.writeRegister .host A.GLB_RST 4 0x2D4) wHost (fun t => !(t.bit F.GLB_RSTCAUSE_SWCORE) && t.get F.GLB_IGNWR == 1) = true := by
  decide +kernel

/-- A step takes the first of two waiting commands. -/
theorem test_step_order :
    (match step { wHost with pending := [.warmrstNRelease, .porstNRelease] } with
      | .next t => t.pending == [Instr.porstNRelease]
      | _ => false) = true := by decide +kernel

/-! ### The hypotheses of the statements can be met -/

/-- The hypotheses of Obligations.RingAndEventRows, clause by clause. -/
theorem witness_RingAndEventRows :
    (∃ (s : State) (n : Nat) (v : Word), n < 256 ∧ s.busOpen .host = true ∧ s.get (F.GLB_RCFG_TYPE n) = 0 ∧ 1 ≤ bitsOf v 0 3 ∧
    bitsOf v 0 3 ≤ 5 ∧ 4 ≤ bitsOf v 8 5 ∧ bitsOf v 8 5 ≤ 16 ∧ s.ctl.heldCpl = []) ∧
    (∃ (s : State) (n : Nat) (v : Word), n < 256 ∧ s.busOpen .host = true ∧ 1 ≤ s.get (F.GLB_RCFG_TYPE n) ∧ bitsOf v 0 3 = 0) ∧
    (∃ (s : State) (n : Nat) (v : Word), n < 256 ∧ s.busOpen .host = true ∧ 1 ≤ s.get (F.GLB_RCFG_TYPE n) ∧
    s.rd (A.GLB_RCFG n) &&& 0xFF001F07#32 = v &&& 0xFF001F07#32 ∧ s.rd (A.GLB_RCFG n) ≠ v &&& 0xFF7F1F07#32) ∧
    (∃ (s : State) (n : Nat) (v : Word), n < 256 ∧ s.fnOpen = true ∧ s.doorbellOk n v = true ∧ (∀ c ∈ s.tun.ctxs, c.waiting = [])) ∧
    (∃ (s : State) (n : Nat), n < 256 ∧ s.fnOpen = true ∧ s.get (F.GLB_RCFG_TYPE n) = 0) ∧
    (∃ (s : State), s.fnOpen = false) ∧
    (∃ (s : State) (v : Nat), s.up = true ∧ (s.ctl.vecs.find? (fun e => e.1 == v) = some (v, true)) ∧
    s.bit (F.MSIX_CTRL_MASK 0 v) = false) ∧
    (∃ (s : State) (v : Nat), s.up = true ∧ (s.ctl.vecs.find? (fun e => e.1 == v) = some (v, true)) ∧
    s.bit (F.MSIX_CTRL_MASK 0 v) = true) ∧
    (∃ (s : State) (r : EvRec), s.up = true ∧ s.isHost = true ∧ r.evnum < 512 ∧ s.get (F.EVT_GMAP_EN (r.evnum / 8)) = 1 ∧
    s.get (F.GLB_RCFG_TYPE (s.get (F.EVT_GMAP_RING (r.evnum / 8)))) = 3 ∧
    (s.ring (s.get (F.EVT_GMAP_RING (r.evnum / 8)))).held = [] ∧ 0 < s.ringFree (s.get (F.EVT_GMAP_RING (r.evnum / 8)))) ∧
    (∃ (s : State) (n : Nat) (r : EvRec) (rest : List EvRec), s.up = true ∧ n < 256 ∧ s.get (F.GLB_RCFG_TYPE n) = 3 ∧
    (s.ring n).held = r :: rest ∧ 0 < s.ringFree n) ∧
    (∃ (s : State) (n : Nat) (d : DataOut) (c : TunCtx), s.up = true ∧ n < 256 ∧ s.isHost = true ∧
    s.get (F.GLB_RCFG_TYPE n) = 4 ∧ s.ringWaiting n ≠ 0 ∧ s.dataEnd n = some c ∧ c.state ≠ 4 ∧ s.mayUse c = true ∧
    d.opcode = 1 ∧ d.clean = true ∧ 1 ≤ d.nseg ∧ d.nseg ≤ 4 ∧ 1 ≤ d.len ∧ d.len ≤ 9344 ∧ d.len ≤ lenMax c.par.cls ∧
    (d.segs.map (·.2)).sum = d.len ∧ d.bytes.length = d.len ∧ (s.offerRing n c.ep 8 d.len false).2 ≠ 1) ∧
    (∃ (s : State) (n : Nat), s.up = true ∧ n < 256 ∧ s.isHost = true ∧ s.get (F.GLB_RCFG_TYPE n) = 4 ∧ s.ringWaiting n ≠ 0 ∧
    s.dataEnd n = none) :=
  ⟨⟨wHost, 9, 0x01000401#32, by decide +kernel⟩,
   ⟨wHost, 2, 0#32, by decide +kernel⟩,
   ⟨wHost, 0, 0x01050401#32, by decide +kernel⟩,
   ⟨wHost, 1, 0#32, by decide +kernel⟩,
   ⟨wHost, 9, by decide +kernel⟩,
   ⟨State.reset, by decide +kernel⟩,
   ⟨wVec.put (F.MSIX_CTRL_MASK 0 3) 0, 3, by decide +kernel⟩,
   ⟨wVec.put (F.MSIX_CTRL_MASK 0 3) 1, 3, by decide +kernel⟩,
   ⟨wHost, wRec, by decide +kernel⟩,
   ⟨wHeld, 2, wRec, [], by decide +kernel⟩,
   ⟨wData, 3, wDesc, wEnd, by decide +kernel⟩,
   ⟨wHost, 3, by decide +kernel⟩⟩

/-- The hypotheses of Obligations.CommandRows, clause by clause. -/
theorem witness_CommandRows :
    (∃ (s : State) (c : HostCmd), Takes s c []) ∧
    (∃ (s : State) (op : Nat) (c : HostCmd), op < 256 ∧ op ∉ opcodes ∧ c.ring < 256 ∧ s.canTake c = true) ∧
    (∃ (s : State) (c : HostCmd), Takes s c regReadBits ∧ regRange c.ops = true ∧ c.target.toNat ≠ 0 ∧ c.target.toNat ≠ s.fid ∧
    s.reachable c.target.toNat = true) ∧
    (∃ (s : State) (c : HostCmd), Takes s c regReadBits ∧ regRange c.ops = false) ∧
    (∃ (s : State) (c : HostCmd), Takes s c regWriteBits ∧ regRange c.ops = true ∧ c.target.toNat ≠ 0 ∧ c.target.toNat ≠ s.fid ∧
    s.reachable c.target.toNat = true ∧ s.own.yielding = none) ∧
    (∃ (s : State) (ops : BitVec 448), s.boot.held = false ∧ s.get F.PWR_STAT_CUR < 3 ∧ regRange ops = true) ∧
    (∃ (s : State) (f : Nat), s.boot.held = false ∧ s.get F.PWR_STAT_CUR < 3 ∧ f ≠ s.ownerFid) ∧
    (∃ (s : State) (id code : Nat) (k : InFlight), s.up = true ∧ s.waiting id = some k ∧ code ≠ 0x04 ∧ s.cplReady k.pair = true) ∧
    (∃ (s : State) (id : Nat) (k : InFlight), s.up = true ∧ s.waiting id = some k ∧ s.cplReady k.pair = true) :=
  ⟨⟨wHost, wCmd 0 0, by decide +kernel⟩,
   ⟨wHost, 0x77, wCmd 0 0, by decide +kernel⟩,
   ⟨wHost, wCmd 5 (2 ^ 32), by decide +kernel⟩,
   ⟨wHost, wCmd 0 1, by decide +kernel⟩,
   ⟨wHost, wCmd 5 (2 ^ 32), by decide +kernel⟩,
   ⟨wHost, BitVec.ofNat 448 (2 ^ 32), by decide +kernel⟩,
   ⟨wHost, 4, by decide +kernel⟩,
   ⟨wWait, 0, 0, wTicket, by decide +kernel⟩,
   ⟨wWait, 0, wTicket, by decide +kernel⟩⟩

/-- The hypotheses of Obligations.YieldAndAliveRows, clause by clause. -/
theorem witness_YieldAndAliveRows :
    (∃ (s : State) (c : HostCmd), Takes s c [(8, 0, 6)] ∧ s.hostControls = true ∧ opAt c 8 1 ≠ 0 ∧ opAt c 8 1 ≠ s.fid ∧
    s.hostInGraph (opAt c 8 1) = true) ∧
    (∃ (s : State) (y : YieldSt), s.up = true ∧ s.own.yielding = some y ∧ y.sent = false ∧ y.tofid ≠ 0 ∧
    s.get F.GLB_OWNER_STATE = 3 ∧ s.ctl.inflight = []) ∧
    (∃ (s : State) (y : YieldSt), s.up = true ∧ s.own.yielding = some y ∧ y.sent = false ∧ y.tofid = 0 ∧
    s.get F.GLB_OWNER_STATE = 3 ∧ s.ctl.inflight = []) ∧
    (∃ (s : State) (gen : Nat), s.up = true ∧ s.hostAlive = true ∧ s.own.yielding = none ∧ s.own.yieldFrom = none ∧ gen < 65536) ∧
    (∃ (s : State) (y : YieldSt), s.up = true ∧ s.own.yielding = some y ∧ y.sent = true ∧ y.tofid ≠ 0 ∧
    s.cplReady y.ticket.pair = true) ∧
    (∃ (s : State), s.up = true ∧ Quiet s) ∧
    (∃ (s : State) (cond : Nat), s.up = true ∧ cond < 4 ∧ s.hostAlive = true ∧ s.get F.GLB_OWNER_STATE = 3 ∧
    s.own.yielding = none ∧ Quiet s) ∧
    (∃ (s : State) (cond : Nat), s.up = false ∧ cond ≠ 0) ∧
    (∃ (s : State) (cond : Nat), s.up = true ∧ s.hostAlive = false ∧ (s.setAlive cond true).hostAlive = true ∧
    s.get F.GLB_OWNER_STATE = 0) ∧
    (∃ (s : State), s.up = true) ∧
    (∃ (s : State), s.up = true ∧ s.get F.GLB_ALIVE_TMO ≠ 0 ∧ Quiet s) :=
  ⟨⟨wGraph, wCmd 0 6, by decide +kernel⟩,
   ⟨wYield 6 false, wY 6 false, by decide +kernel⟩,
   ⟨wYield 0 false, wY 0 false, by decide +kernel⟩,
   ⟨wAlive 1, 9, by decide +kernel⟩,
   ⟨wYield 6 true, wY 6 true, by decide +kernel⟩,
   ⟨wHost, by decide +kernel⟩,
   ⟨wAlive 3, 2, by decide +kernel⟩,
   ⟨State.reset, 3, by decide +kernel⟩,
   ⟨wDead, 1, by decide +kernel⟩,
   ⟨wHost, by decide +kernel⟩,
   ⟨wTmo, by decide +kernel⟩⟩

/-- The hypotheses of Obligations.ElectionRows, clause by clause. -/
theorem witness_ElectionRows :
    (∃ (s : State), s.up = true ∧ s.dutyRuns 0 = true ∧ s.get F.GLB_OWNER_STATE = 3 ∧ s.hostAlive = true) ∧
    (∃ (s : State) (f gen : Nat), s.up = true ∧ (s.get F.GLB_OWNER_STATE = 0 ∨ s.get F.GLB_OWNER_STATE = 2) ∧ f ≠ s.fid ∧
    f < 64 ∧ gen < 65536 ∧ genHigher gen (s.get F.GLB_OWNER_GEN) = true ∧ s.own.yielding = none ∧ Quiet s) ∧
    (∃ (s : State), s.up = true ∧ s.dutyRuns 0 = true ∧ s.get F.GLB_OWNER_STATE = 1) ∧
    (∃ (s : State), s.up = true ∧ s.dutyRuns 0 = true ∧ s.get F.GLB_OWNER_STATE = 2 ∧ s.hostAlive = true ∧ s.own.noClaim = false) ∧
    (∃ (s : State), s.up = true ∧ s.get F.GLB_OWNER_STATE = 2 ∧ s.own.best = none) ∧
    (∃ (s : State) (b : Nat × Rank × Nat), s.up = true ∧ s.get F.GLB_OWNER_STATE = 2 ∧ s.own.best = some b) ∧
    (∃ (s : State), s.up = true ∧ s.dutyRuns 0 = true ∧ s.get F.GLB_OWNER_STATE = 2 ∧ s.own.best = none) ∧
    (∃ (s : State) (rank : Rank) (gen : Nat), s.up = true ∧ s.dutyRuns 0 = true ∧ s.get F.GLB_OWNER_STATE = 2 ∧
    s.own.best = some (s.fid, rank, gen) ∧ s.hostAlive = false) ∧
    (∃ (s : State) (rank : Rank) (gen high : Nat), s.up = true ∧ s.dutyRuns 0 = true ∧ s.get F.GLB_OWNER_STATE = 2 ∧
    s.own.best = some (s.fid, rank, gen) ∧ s.own.ownClaim = true ∧ s.hostAlive = true ∧ s.own.highClaim = some high ∧
    high < 65536) :=
  ⟨⟨wAlive 3, by decide +kernel⟩,
   ⟨wAlive 0, 9, 5, by decide +kernel⟩,
   ⟨wAlive 1, by decide +kernel⟩,
   ⟨wAlive 2, by decide +kernel⟩,
   ⟨wAlive 2, by decide +kernel⟩,
   ⟨wBest, (7, ⟨3, 3⟩, 4), by decide +kernel⟩,
   ⟨wAlive 2, by decide +kernel⟩,
   ⟨(wWon.ownM fun o => { o with linkUp := false }), ⟨128, 0⟩, 4, by decide +kernel⟩,
   ⟨wWon, ⟨128, 0⟩, 4, 4, by decide +kernel⟩⟩

/-- The hypotheses of Obligations.ResetRows, clause by clause. -/
theorem witness_ResetRows :
    (∃ (s : State), s.boot.porstLow = false) ∧
    (∃ (s : State), s.boot.porstLow = true ∧ s.boot.portsOff = false) ∧
    (∃ (s : State), s.boot.porstLow = true) ∧
    (∃ (s : State) (role boot smba fids lanes : Nat), role < 4 ∧ boot < 4 ∧ smba < 8 ∧ fids < 64 ∧ lanes < 4 ∧
    s.boot.strapsDue = true ∧ s.boot.roleLatched = false) ∧
    (∃ (s : State), s.boot.strapsDue = true ∧ s.boot.roleLatched = true) ∧
    (∃ (s : State), s.boot.warmLow = false ∧ s.boot.held = false ∧ RegsCanonical s) ∧
    (∃ (s : State) (r : Req), s.busOpen r = true ∧ r ≠ .smbus ∧ s.mayControl r = true) ∧
    (∃ (s : State) (r : Req), s.busOpen r = true ∧ r ≠ .smbus ∧ s.mayControl r = true ∧ RegsCanonical s) :=
  ⟨⟨wHost, by decide +kernel⟩,
   ⟨State.reset, by decide +kernel⟩,
   ⟨State.reset.bootM fun b => { b with portsOff := true }, by decide +kernel⟩,
   ⟨wStraps, 1, 2, 3, 4, 1, by decide +kernel⟩,
   ⟨wStraps2, by decide +kernel⟩,
   ⟨wHost, by decide +kernel⟩,
   ⟨wHost, .host, by decide +kernel⟩,
   ⟨wHost, .host, by decide +kernel⟩⟩

/-- The hypotheses of Obligations.BootSupplyRows, clause by clause. -/
theorem witness_BootSupplyRows :
    (∃ (s : State), s.boot.thermTrip = false) ∧
    (∃ (s : State) (rail : Nat), rail < 3 ∧ rail ∉ s.boot.railsLow ∧ s.get F.PWR_STAT_CUR ≠ 4) ∧
    (∃ (s : State) (rail : Nat), 5 ≤ rail ∧ rail < 9 ∧ rail ∉ s.boot.railsLow ∧ s.get F.PWR_STAT_CUR ≠ 4) ∧
    (∃ (s : State) (rail : Nat), s.boot.railsLow = [rail] ∧ s.boot.porstLow = false ∧ s.boot.strapsDue = false ∧
    s.boot.thermTrip = false ∧ s.boot.strapFault = false ∧ s.get F.PWR_STAT_CUR ≠ 4) ∧
    (∃ (s : State), s.boot.held = false ∧ s.boot.warmLow = false ∧ s.boot.romDone = false ∧ lcOf s.keys.cells < 4) ∧
    (∃ (s : State), s.boot.held = false ∧ s.boot.warmLow = false ∧ s.boot.romDone = false ∧ lcOf s.keys.cells < 4 ∧
    s.get F.GLB_STRAP_BOOT = 2 ∧ s.role ≠ 2) ∧
    (∃ (s : State) (slot : Nat), s.get F.GLB_BOOT_STAT = 2 ∧ slot % 2 = s.boot.startSlot) ∧
    (∃ (s : State), s.boot.wdt = true ∧ s.bit F.GLB_BOOT_DLOAD = false ∧ s.boot.startSlot = 0) ∧
    (∃ (s : State) (len : BitVec 32), s.boot.held = false ∧ s.isHost = true ∧ s.get F.GLB_BOOT_STAT = 4 ∧
    bitsOf len 0 24 ≤ 0x800000) ∧
    (∃ (s : State), s.isHost = true ∧ s.own.perstHigh = true ∧ s.boot.romDone = true ∧ s.boot.pers = 0 ∧
    s.get F.GLB_BOOT_STAT < 3) ∧
    (∃ (s : State), s.isHost = true ∧ s.own.perstHigh = true ∧ Quiet s) ∧
    (∃ (s : State), s.isHost = true ∧ s.own.perstHigh = false ∧ s.boot.held = false) ∧
    (∃ (s : State) (speed width : Nat), s.isHost = true ∧ s.own.perstHigh = true ∧ s.serdesUp = true ∧
    s.pcieFits speed width = true) :=
  ⟨⟨wHost, by decide +kernel⟩,
   ⟨wHost, 1, by decide +kernel⟩,
   ⟨wHost, 6, by decide +kernel⟩,
   ⟨wRail, 2, by decide +kernel⟩,
   ⟨wHost, by decide +kernel⟩,
   ⟨wHost.put F.GLB_STRAP_BOOT 2, by decide +kernel⟩,
   ⟨wHost.put F.GLB_BOOT_STAT 2, 0, by decide +kernel⟩,
   ⟨wHost.bootM fun b => { b with wdt := true }, by decide +kernel⟩,
   ⟨wHost.put F.GLB_BOOT_STAT 4, 512#32, by decide +kernel⟩,
   ⟨(wAlive 3).bootM fun b => { b with pers := 0, romDone := true }, by decide +kernel⟩,
   ⟨wAlive 3, by decide +kernel⟩,
   ⟨wHost.put F.GLB_BOOT_STAT 3, by decide +kernel⟩,
   ⟨wDead, 5, 4, by decide +kernel⟩⟩

/-- The hypotheses of Obligations.RegisterRows, clause by clause. -/
theorem witness_RegisterRows :
    (∃ (s : State), s.busOpen .host = true ∧ s.boot.pers = 2 ∧ s.mayControl .host = true) ∧
    (∃ (s : State), s.busOpen .host = true ∧ s.boot.pers = 2 ∧ s.mayControl .host = true) ∧
    (∃ (s : State), s.busOpen .host = true ∧ s.boot.pers = 2 ∧ s.mayControl .host = true) ∧
    (∃ (s : State) (k : Nat) (p : PostedWrite), s.up = true ∧ s.ctl.posted[k]? = some p ∧
    (∀ q ∈ s.ctl.posted.take k, q.req ≠ p.req ∨ q.blk ≠ p.blk)) ∧
    (∃ (s : State), s.busOpen .host = true ∧ s.boot.pers = 2 ∧ s.ctl.posted = [] ∧ s.bit F.GLB_SNAP_VIEW = false ∧
    s.heldHigh .host A.LANT_DSTICKS = none) ∧
    (∃ (s : State) (r : Req), s.busOpen r = true ∧ r ≠ .smbus ∧ s.bit F.GLB_SNAP_BUSY = false) ∧
    (∃ (s : State) (r : Req), s.busOpen r = false) ∧
    (∃ (s : State), s.up = true ∧ s.bit F.GLB_SNAP_BUSY = true) ∧
    (∃ (s : State), s.up = true) :=
  ⟨⟨wHost, by decide +kernel⟩,
   ⟨wHost, by decide +kernel⟩,
   ⟨wHost, by decide +kernel⟩,
   ⟨wPosted, 0, { req := .host, addr := A.TIM_CTRL, data := 1 }, by decide +kernel⟩,
   ⟨wHost, by decide +kernel⟩,
   ⟨wHost, .host, by decide +kernel⟩,
   ⟨State.reset, .host, by decide +kernel⟩,
   ⟨wHost.put F.GLB_SNAP_BUSY 1, by decide +kernel⟩,
   ⟨wHost, by decide +kernel⟩⟩

/-- The hypotheses of Obligations.SmbusRows, clause by clause. -/
theorem witness_SmbusRows :
    (∃ (a : Nat), a % 4 = 0 ∧ a < 2 ^ 24) ∧
    (∃ (s : State) (v : Nat), v ≤ 4 ∧ s.get F.PWR_STAT_CUR ≠ 4 ∧ s.boot.held = false ∧ s.get F.PWR_STAT_PHASE = 5) ∧
    (∃ (s : State), s.smb.causes % 2 = 0 ∧ s.smb.causes ≠ 0) ∧
    (∃ (s : State), s.smb.causes ≠ 0) :=
  ⟨⟨0x40, by decide +kernel⟩,
   ⟨wHost.put F.PWR_STAT_PHASE 5, 2, by decide +kernel⟩,
   ⟨wAlert 8, by decide +kernel⟩,
   ⟨wAlert 9, by decide +kernel⟩⟩

/-- The hypotheses of Obligations.AditModeRows, clause by clause. -/
theorem witness_AditModeRows :
    (∃ (s : State) (p vdo : Nat), s.serdesUp = true ∧ p < 3 ∧ vdo / 32 % 8 = 1 ∧ vdo % 2 = 1 ∧
    s.bit (F.ADT_ALT_ENTERED p) = false ∧ s.bit (F.ADT_CTRL_EN p) = true ∧ s.bit (F.ADT_CTRL_DARK p) = false ∧
    s.portState p = 0 ∧ s.deepAsleep = false) ∧
    (∃ (s : State) (p : Nat), s.serdesUp = true ∧ p < 3 ∧ s.bit (F.ADT_ALT_ENTERED p) = true ∧ s.portState p ≠ 0 ∧
    s.lit p = false) ∧
    (∃ (s : State) (p : Nat), s.serdesUp = true ∧ p < 3 ∧ s.bit (F.ADT_ALT_ENTERED p) = true ∧ s.lit p = true) ∧
    (∃ (s : State) (r : Req) (p : Nat), s.serdesUp = true ∧ s.ctl.posted = [] ∧ p < 3 ∧ s.busOpen r = true ∧ r ≠ .smbus ∧
    s.boot.pers ≠ 1 ∧ s.mayControl r = true ∧ s.bit (F.ADT_CTRL_EN p) = true ∧ s.bit (F.ADT_CTRL_DARK p) = false ∧
    s.bit (F.ADT_ALT_ENTERED p) = true ∧ s.deepAsleep = false ∧ s.portState p ≠ 0 ∧ s.lit p = false) ∧
    (∃ (s : State) (r : Req) (p : Nat), s.serdesUp = true ∧ s.ctl.posted = [] ∧ p < 3 ∧ s.busOpen r = true ∧ r ≠ .smbus ∧
    s.boot.pers ≠ 1 ∧ s.mayControl r = true ∧ s.portState p ≠ 0 ∧ s.lit p = false) ∧
    (∃ (s : State) (r : Req) (p : Nat), s.serdesUp = true ∧ s.ctl.posted = [] ∧ p < 3 ∧ s.busOpen r = true ∧ r ≠ .smbus ∧
    s.boot.pers ≠ 1 ∧ s.mayControl r = true ∧ s.lit p = true) ∧
    (∃ (s : State) (p : Nat), s.serdesUp = true ∧ s.mayDetect p = true) ∧
    (∃ (s : State) (p : Nat), s.serdesUp = true ∧ p < 3 ∧ s.portState p = 0 ∧ s.bit (F.ADT_CTRL_EN p) = true ∧
    s.bit (F.ADT_CTRL_DARK p) = false ∧ s.bit (F.ADT_ALT_ENTERED p) = true ∧ s.deepAsleep = false) ∧
    (∃ (s : State) (p : Nat), s.serdesUp = true ∧ p < s.ports.length ∧ p < 3 ∧ s.portState p = 4) :=
  ⟨⟨wPort 0 0 PortSt.reset, 0, 33, by decide +kernel⟩,
   ⟨wPort 1 2 PortSt.reset, 0, by decide +kernel⟩,
   ⟨wPort 1 5 PortSt.reset, 0, by decide +kernel⟩,
   ⟨wPort 1 3 PortSt.reset, .host, 0, by decide +kernel⟩,
   ⟨wPort 1 3 PortSt.reset, .host, 0, by decide +kernel⟩,
   ⟨wPort 1 5 PortSt.reset, .host, 0, by decide +kernel⟩,
   ⟨wPort 1 0 PortSt.reset, 0, by decide +kernel⟩,
   ⟨wPort 1 0 { PortSt.reset with retry := true }, 0, by decide +kernel⟩,
   ⟨wPort 1 4 PortSt.reset, 0, by decide +kernel⟩⟩

/-- The hypotheses of Obligations.TrainingRows, clause by clause. -/
theorem witness_TrainingRows :
    (∃ (s : State) (p lanes : Nat), s.serdesUp = true ∧ p < 3 ∧ s.portState p = 1 ∧ (s.port p).one = false ∧ lanes % 4 ≠ 0) ∧
    (∃ (s : State) (p : Nat) (h : TrainHdr), s.serdesUp = true ∧ p < 3 ∧ h.lane = 0 ∧ h.one = false ∧ h.ready = false ∧
    s.portState p = 2 ∧ (s.port p).idle = false ∧ (s.port p).rate < 3 ∧ (s.port p).rxReady = 0 ∧ (s.port p).farReady = 0 ∧
    (s.port p).one = false ∧ (s.port p).ownOne = false) ∧
    (∃ (s : State) (p : Nat) (h : TrainHdr), s.serdesUp = true ∧ p < 3 ∧ p < s.ports.length ∧ h.lane = 1 ∧ h.one = false ∧
    h.ready = true ∧ s.portState p = 2 ∧ (s.port p).idle = false ∧ (s.port p).rate < 3 ∧ (s.port p).rxReady = 1 ∧
    (s.port p).farReady = 1 ∧ (s.port p).one = false ∧ (s.port p).ownOne = false) ∧
    (∃ (s : State) (p : Nat), s.serdesUp = true ∧ p < 3 ∧ s.portState p = 2 ∧ (s.port p).idle = false ∧ (s.port p).rxReady = 1 ∧
    (s.port p).farReady = 1 ∧ (s.port p).one = false) ∧
    (∃ (s : State) (p : Nat), s.serdesUp = true ∧ p < 3 ∧ s.portState p = 2 ∧ (s.port p).idle = false ∧ (s.port p).rxReady = 0 ∧
    (s.port p).rate ≠ 0) ∧
    (∃ (s : State) (p : Nat), s.serdesUp = true ∧ p < 3 ∧ s.portState p = 2 ∧ (s.port p).idle = true) ∧
    (∃ (s : State) (p : Nat), s.serdesUp = true ∧ p < 3 ∧ p < s.ports.length ∧ s.portState p = 3 ∧
    s.bit (F.ADT_STAT_RXDIM p) = false ∧ (s.rxLane p 0).lock = true ∧ s.get (F.ADT_LANE_RXUSE p) = 1) ∧
    (∃ (s : State) (p : Nat), s.serdesUp = true ∧ p < 3 ∧ s.portState p = 3 ∧ (s.port p).rate ≠ 0) :=
  ⟨⟨wPort 1 1 { PortSt.reset with rate := 2 }, 0, 3, by decide +kernel⟩,
   ⟨wPort 1 2 PortSt.reset, 0, ⟨0, false, 2, 1, 0, 0, false⟩, by decide +kernel⟩,
   ⟨wPort 1 2 { PortSt.reset with rxReady := 1, farReady := 1 }, 0, ⟨1, false, 0, 0, 0, 0, true⟩, by decide +kernel⟩,
   ⟨wPort 1 2 { PortSt.reset with rxReady := 1, farReady := 1 }, 0, by decide +kernel⟩,
   ⟨wPort 1 2 { PortSt.reset with rate := 2 }, 0, by decide +kernel⟩,
   ⟨wPort 1 2 { PortSt.reset with rate := 1, idle := true }, 0, by decide +kernel⟩,
   ⟨((wPort 1 3 PortSt.reset).put (F.ADT_LANE_RXUSE 0) 1).rxM 0 0 fun r => { r with lock := true }, 0, by decide +kernel⟩,
   ⟨wPort 1 3 { PortSt.reset with rate := 2 }, 0, by decide +kernel⟩⟩

/-- The hypotheses of Obligations.ExchangeDimRows, clause by clause. -/
theorem witness_ExchangeDimRows :
    (∃ (s : State) (p : Nat), s.serdesUp = true ∧ p < 3 ∧ s.portState p = 4) ∧
    (∃ (s : State) (p : Nat) (bytes : List (BitVec 8)), s.serdesUp = true ∧ p < 3 ∧ p < s.ports.length ∧ s.portState p = 4 ∧
    bytes.length = 64 ∧ leNat (slice bytes 0 4) = 0x58435A44 ∧ byteAt bytes 4 = 1 ∧ byteAt bytes 5 / 4 % 2 = 1 ∧
    byteAt bytes 5 % 2 = 1 ∧ (s.port p).ackSent = true) ∧
    (∃ (s : State) (p : Nat) (bytes : List (BitVec 8)), s.serdesUp = true ∧ p < 3 ∧ s.portState p = 4 ∧ bytes.length = 64 ∧
    leNat (slice bytes 0 4) = 0x58435A44 ∧ byteAt bytes 4 ≠ 1) ∧
    (∃ (s : State) (p errs msg : Nat) (cw : BitVec 5440), s.serdesUp = true ∧ p < 3 ∧ 3 ≤ s.portState p ∧ s.portState p ≠ 7 ∧
    s.bit (F.ADT_STAT_RXDIM p) = false ∧ (s.port p).rxSwap = false ∧ (s.port p).inv = 0 ∧ rsDecode cw = some (errs + 1, msg) ∧
    s.get (F.ADT_DEGCFG_THR p) = 0 ∧ s.get (F.ADT_LANE_RXUSE p) % 2 = 1 ∧ (s.rxLane p 0).lock = false ∧
    (s.rxLane p 0).since = none ∧ (s.rxLane p 0).fifo = []) ∧
    (∃ (s : State) (p : Nat) (cw : BitVec 5440), s.serdesUp = true ∧ p < 3 ∧ 3 ≤ s.portState p ∧ s.portState p ≠ 7 ∧
    s.bit (F.ADT_STAT_RXDIM p) = false ∧ (s.port p).rxSwap = false ∧ (s.port p).inv = 0 ∧ rsDecode cw = none ∧
    s.get (F.ADT_DEGCFG_THR p) = 0 ∧ s.get (F.ADT_LANE_RXUSE p) / 2 = 1 ∧ (s.rxLane p 1).lock = false ∧
    (s.rxLane p 1).since = none ∧ (s.rxLane p 1).fifo = []) ∧
    (∃ (s : State) (p : Nat), s.serdesUp = true ∧ s.lit p = true ∧ s.bit (F.ADT_CTRL_DIMEN p) = true ∧
    s.bit (F.ADT_STAT_TXDIM p) = false ∧ (s.sch p).queue = [] ∧ (s.link p).replay = []) ∧
    (∃ (s : State) (p : Nat), s.serdesUp = true ∧ s.lit p = true) ∧
    (∃ (s : State) (p : Nat), s.serdesUp = true ∧ s.lit p = true ∧ s.bit (F.ADT_STAT_TXDIM p) = true) ∧
    (∃ (s : State) (p : Nat), s.serdesUp = true ∧ s.lit p = true ∧ s.bit (F.ADT_STAT_RXDIM p) = true) :=
  ⟨⟨wPort 1 4 PortSt.reset, 0, by decide +kernel⟩,
   ⟨wPort 1 4 { PortSt.reset with ackSent := true }, 0, wCap 1, by decide +kernel⟩,
   ⟨wPort 1 4 PortSt.reset, 0, wCap 2, by decide +kernel⟩,
   ⟨wCoded, 0, 1, 0, BitVec.ofNat 5440 (1 + 2 ^ 300), by decide +kernel⟩,
   ⟨wCoded, 0, BitVec.ofNat 5440 (2 ^ 100 - 1), by decide +kernel⟩,
   ⟨(wPort 1 5 PortSt.reset).put (F.ADT_CTRL_DIMEN 0) 1, 0, by decide +kernel⟩,
   ⟨wPort 1 5 PortSt.reset, 0, by decide +kernel⟩,
   ⟨(wPort 1 5 PortSt.reset).put (F.ADT_STAT_TXDIM 0) 1, 0, by decide +kernel⟩,
   ⟨(wPort 1 5 PortSt.reset).put (F.ADT_STAT_RXDIM 0) 1, 0, by decide +kernel⟩⟩

/-- The hypotheses of Obligations.SparingRows, clause by clause. -/
theorem witness_SparingRows :
    (∃ (s : State) (p lane cause : Nat), s.serdesUp = true ∧ s.lit p = true ∧ lane < 2 ∧ cause < 16 ∧
    s.bit (F.ADT_STAT_RXDIM p) = false ∧ s.working p = [0, 1]) ∧
    (∃ (s : State) (p lane : Nat), s.serdesUp = true ∧ s.lit p = true ∧ lane < 2 ∧ (s.port p).asking = 2 ^ lane) ∧
    (∃ (s : State) (p lane : Nat), s.serdesUp = true ∧ s.lit p = true ∧ lane < 2 ∧ s.get (F.ADT_LANE_TXUSE p) = 3) ∧
    (∃ (s : State) (p mask : Nat), s.serdesUp = true ∧ s.lit p = true ∧ 1 ≤ mask ∧ mask < 4) ∧
    (∃ (s : State) (p lane : Nat), s.serdesUp = true ∧ s.lit p = true ∧ lane < 2 ∧ (s.port p).one = false ∧
    s.get (F.ADT_LANE_TXUSE p) ≠ 3) ∧
    (∃ (s : State) (p lane : Nat), s.serdesUp = true ∧ s.lit p = true ∧ lane < 2 ∧
    s.get (F.ADT_LANE_RXUSE p) / 2 ^ lane % 2 = 0 ∧ (s.port p).one = false ∧ s.bit (rxHold p lane) = false ∧
    s.lanePasses p lane = true) :=
  ⟨⟨wLanes 3 3 0, 0, 1, 2, by decide +kernel⟩,
   ⟨wLanes 3 3 2, 0, 1, by decide +kernel⟩,
   ⟨wLanes 3 3 0, 0, 1, by decide +kernel⟩,
   ⟨wLanes 3 3 2, 0, 1, by decide +kernel⟩,
   ⟨wLanes 1 3 0, 0, 1, by decide +kernel⟩,
   ⟨(wLanes 3 1 0).rxM 0 1 fun r => { r with lock := true, since := some 0 }, 0, 1, by decide +kernel⟩⟩

/-- The hypotheses of Obligations.TransmitIngressRows, clause by clause. -/
theorem witness_TransmitIngressRows :
    (∃ (s : State) (p : Nat) (w : Wire) (rest : List Wire), s.serdesUp = true ∧ s.mail = [] ∧ s.lit p = true ∧
    s.bit (F.ADT_STAT_TXDIM p) = false ∧ (s.link p).resend = w :: rest) ∧
    (∃ (s : State) (p : Nat) (q : QFrame), s.serdesUp = true ∧ s.mail = [] ∧ s.lit p = true ∧ p < s.links.length ∧
    s.bit (F.ADT_STAT_TXDIM p) = false ∧ (s.link p).resend = [] ∧ (s.sch p).draining = none ∧ (s.link p).key.overdue = false ∧
    s.fabHead p 6 = some q ∧ s.headOk p q = true ∧ s.windowOk p q.f = true) ∧
    (∃ (s : State) (p i : Nat) (w : LinkWord), s.serdesUp = true ∧ s.lit p = true ∧ w.kind = 1 ∧
    ((s.link p).replay.findIdx? (fun x => x.f.hseq == w.arg.toNat % 4096) = some i)) ∧
    (∃ (s : State) (p i : Nat) (w : LinkWord), s.serdesUp = true ∧ s.lit p = true ∧ p < 3 ∧ w.kind = 2 ∧
    ((s.link p).replay.findIdx? (fun x => x.f.hseq == w.arg.toNat % 4096) = some i) ∧ (s.link p).replay.drop (i + 1) ≠ []) ∧
    (∃ (s : State) (p : Nat), s.serdesUp = true ∧ s.lit p = true ∧ (s.link p).replay ≠ [] ∧ (s.link p).replays < s.replim p) ∧
    (∃ (s : State) (p : Nat), s.serdesUp = true ∧ s.lit p = true ∧ s.bit (F.ADT_LLSTAT_NAKOUT p) = true) ∧
    (∃ (s : State) (ep typ kind p : Nat) (bytes : List (BitVec 8)) (c : TunCtx), s.up = true ∧ kind ∈ typeKinds typ ∧
    bytes ≠ [] ∧ s.endAt ep typ = some c ∧ s.ctx c.idx = some c ∧ c.state = 2 ∧ c.paused = 0 ∧ c.held = [] ∧
    c.first.pend = false ∧ c.first.paid = none ∧ c.par.men = false ∧ c.local_ = false ∧ bytes.length ≤ lenMax c.par.cls ∧
    s.egressOf c = some p ∧ p < s.schs.length ∧ s.poolFull c p bytes.length = false ∧
    s.spillFull p (20 + bytes.length) = false ∧ s.fenceOf c kind bytes = none ∧ s.tun.loop = []) ∧
    (∃ (s : State) (c : TunCtx) (h : HeldFrame), s.up = true ∧ s.tun.ctxs = [c] ∧ c.held = [h] ∧ c.state = 2 ∧
    c.first.ring = none ∧ (s.admTest c none h.bytes.length h.yellow).2 = .pass 0 ∧ c.local_ = false ∧ c.par.men = false ∧
    s.tun.loop = []) :=
  ⟨⟨wReplay [wWire 5] [wWire 5], 0, wWire 5, [], by decide +kernel⟩,
   ⟨wFabQ, 0, wFabFrame, by decide +kernel⟩,
   ⟨wReplay [wWire 5, wWire 6] [], 0, 0, { kind := 1, arg := 5 }, by decide +kernel⟩,
   ⟨wReplay [wWire 5, wWire 6] [], 0, 0, { kind := 2, arg := 5 }, by decide +kernel⟩,
   ⟨wReplay [wWire 5, wWire 6] [], 0, by decide +kernel⟩,
   ⟨(wPort 1 5 PortSt.reset).put (F.ADT_LLSTAT_NAKOUT 0) 1, 0, by decide +kernel⟩,
   ⟨wNet, 0x7000, 8, 0x11, 0, [1, 2], wFar [], by decide +kernel⟩,
   ⟨wHeldNet, wFar [wHeldF], wHeldF, by decide +kernel⟩⟩

/-- The hypotheses of Obligations.ReceiveCreditRows, clause by clause. -/
theorem witness_ReceiveCreditRows :
    (∃ (s : State) (p : Nat) (hdr : BitVec 128) (body : List (BitVec 8)), s.serdesUp = true ∧ s.lit p = true ∧
    headerOk hdr = true ∧ (unpackHeader hdr []).hseq = s.get (F.ADT_LLSTAT_RXHSEQ p) ∧
    flagOf (unpackHeader hdr []).flags 0 = false ∧ (s.link p).key.rxOn = false ∧ body.length = (unpackHeader hdr []).len + 4 ∧
    BitVec.ofNat 32 (leNat (body.drop (unpackHeader hdr []).len)) = trailerOf (body.take (unpackHeader hdr []).len) false) ∧
    (∃ (s : State) (p : Nat) (hdr : BitVec 128), s.serdesUp = true ∧ s.lit p = true ∧ headerOk hdr = false ∧
    s.bit (F.ADT_LLSTAT_NAKOUT p) = false) ∧
    (∃ (s : State) (p : Nat) (w : LinkWord), s.serdesUp = true ∧ s.lit p = true ∧ w.kind = 3 ∧ p < s.links.length ∧
    (s.link p).txLimit.length = 8) ∧
    (∃ (s : State) (p : Nat), s.serdesUp = true ∧ s.lit p = true ∧ s.bit (F.ADT_STAT_TXDIM p) = false) ∧
    (∃ (s : State) (a : OwedAck) (p : Nat), s.up = true ∧ s.tun.owed = [a] ∧ a.dst ≠ 63 ∧
    s.tableHop a.dst 0 false false = some p ∧ p < s.schs.length) ∧
    (∃ (s : State) (tid eseq i : Nat) (c : TunCtx), s.up = true ∧ tid < 4096 ∧ eseq < 65536 ∧
    (s.tun.ctxs.find? (fun c => c.par.tid == tid && c.isEnd && !c.local_) = some c) ∧ s.ctx c.idx = some c ∧
    (c.copies.findIdx? (fun k => k.f.eseq == eseq) = some i) ∧ (∀ d ∈ s.tun.ctxs, d.held = [])) ∧
    (∃ (s : State) (tid : Nat) (c : TunCtx), s.up = true ∧
    (s.tun.ctxs.find? (fun c => c.par.tid == tid && c.isEnd && !c.local_ && !c.copies.isEmpty) = some c) ∧
    s.ctx c.idx = some c ∧ c.paused = 0) :=
  ⟨⟨wPort 1 5 PortSt.reset, 0, packHeader wHello, wHello.payload ++ leBytes 4 (trailerOf wHello.payload false).toNat,
     by decide +kernel⟩,
   ⟨wPort 1 5 PortSt.reset, 0, packHeader wHello + 1, by decide +kernel⟩,
   ⟨wPort 1 5 PortSt.reset, 0, { kind := 3, arg := 0x501 }, by decide +kernel⟩,
   ⟨wPort 1 5 PortSt.reset, 0, by decide +kernel⟩,
   ⟨wOwed, wAck, 0, by decide +kernel⟩,
   ⟨wCopies, 9, 3, 0, wHas, by decide +kernel⟩,
   ⟨wCopies, 9, wHas, by decide +kernel⟩⟩

/-- The hypotheses of Obligations.KeyExchangeRows, clause by clause. -/
theorem witness_KeyExchangeRows :
    (∃ (s : State) (p : Nat), s.serdesUp = true ∧ s.lit p = true ∧ s.quarantined = false ∧ p < s.links.length ∧ s.enc p = true ∧
    s.get (F.ADT_KEYSTAT_KX p) = 2) ∧
    (∃ (s : State), s.serdesUp = true ∧ s.quarantined = true) ∧
    (∃ (s : State) (p : Nat) (w : LinkWord), s.serdesUp = true ∧ s.lit p = true ∧ w.kind = 4 ∧ s.enc p = true ∧
    (s.link p).key.step = 4 ∧ (s.link p).key.rekey = true ∧ w.arg.toNat % 2 = (s.link p).key.phase) ∧
    (∃ (s : State) (p : Nat), s.serdesUp = true ∧ s.lit p = true ∧ s.get (F.ADT_KEYSTAT_KX p) = 1) ∧
    (∃ (s : State) (p : Nat), s.serdesUp = true ∧ s.dutyRuns (6 + p) = true ∧ s.lit p = true ∧ s.quarantined = false ∧
    s.get (F.ADT_KEYSTAT_KX p) = 4) ∧
    (∃ (s : State) (p : Nat), s.serdesUp = true ∧ s.dutyRuns (6 + p) = true ∧ s.lit p = true ∧ s.quarantined = false ∧
    s.enc p = true ∧ s.get (F.ADT_KEYSTAT_KX p) = 2 ∧ (s.keyLife p ≤ s.keyAge p + rekeyEarly ∨ 2 ^ 31 ≤ (s.link p).key.exTx)) ∧
    (∃ (s : State) (p : Nat), s.serdesUp = true ∧ s.lit p = true ∧ s.enc p = true ∧ (s.link p).key.txOn = true ∧
    (s.link p).key.overdue = false ∧ (s.keyLife p ≤ s.keyAge p ∨ 2 ^ 32 ≤ (s.link p).key.exTx)) :=
  ⟨⟨wKx 2 KeySt.reset, 0, by decide +kernel⟩,
   ⟨wHost.put F.FAB_ID_STATE 2, by decide +kernel⟩,
   ⟨wKx 3 { KeySt.reset with step := 4, rekey := true, phase := 1, txOn := true }, 0, { kind := 4, arg := 1 },
     by decide +kernel⟩,
   ⟨wKx 1 KeySt.reset, 0, by decide +kernel⟩,
   ⟨wKx 4 KeySt.reset, 0, by decide +kernel⟩,
   ⟨wKx 2 { KeySt.reset with exTx := 2 ^ 31 }, 0, by decide +kernel⟩,
   ⟨wKx 2 { KeySt.reset with txOn := true, exTx := 2 ^ 32 }, 0, by decide +kernel⟩⟩

/-- The hypotheses of Obligations.ContextRows, clause by clause. -/
theorem witness_ContextRows :
    (∃ (s : State) (k : Nat) (p : TunPar), s.up = true ∧ (∀ c ∈ s.tun.ctxs, c.par.tid ≠ p.tid) ∧ s.absent p = false ∧
    s.freeCtx = some k ∧ s.positions p = [3]) ∧
    (∃ (s : State) (c : TunCtx), s.up = true ∧ s.role = 2 ∧ s.pcx.wakeLow = false ∧ s.tun.ctxs = [c] ∧ c.state = 1 ∧ c.pos = 3 ∧
    c.await = false ∧ c.held = [] ∧ s.tun.loop = []) ∧
    (∃ (s : State) (tid : Nat), s.up = true ∧ s.role = 2 ∧ s.pcx.wakeLow = false ∧
    (∀ c ∈ s.tun.ctxs, c.par.tid = tid → c.pos = 3) ∧ (s.sch 0).queue = [] ∧ (s.sch 1).queue = [] ∧ (s.sch 2).queue = [] ∧
    s.tun.loop = [] ∧ (∀ c ∈ s.tun.ctxs, c.waiting = [])) ∧
    (∃ (s : State), s.up = true) ∧
    (∃ (s : State), s.up = true ∧ s.isHost = false ∧ s.pcx.wakeLow = false) ∧
    (∃ (s : State) (c : TunCtx), s.up = true ∧ s.role = 2 ∧ s.pcx.wakeLow = false ∧ s.tun.ctxs = [c] ∧ c.isEnd = true ∧
    c.state ≠ 4 ∧ c.held = [] ∧ c.ep / 4096 = 4) ∧
    (∃ (s : State), s.up = true) ∧
    (∃ (s : State) (k : Nat) (c : TunCtx), s.up = true ∧ s.role = 2 ∧ s.pcx.wakeLow = false ∧ s.ctx k = some c ∧ c.idx = k ∧
    c.state = 1 ∧ c.pos = 3 ∧ c.await = false ∧ s.crt.slots = [] ∧ (s.sch 0).queue = [] ∧ (s.sch 1).queue = [] ∧
    (s.sch 2).queue = [] ∧ c.waiting = []) :=
  ⟨⟨wRelay [], 0, wPar 9 8 4 6 7 0x7000 0x7000, by decide +kernel⟩,
   ⟨wRelay [{ wHop with state := 1 }], { wHop with state := 1 }, by decide +kernel⟩,
   ⟨wRelay [wHop], 9, by decide +kernel⟩,
   ⟨wRelay [wRelayEnd], by decide +kernel⟩,
   ⟨wRelay [wRelayEnd], by decide +kernel⟩,
   ⟨wRelay [{ wRelayEnd with par := wPar 9 5 4 0 7 0x4000 0x4000 }], { wRelayEnd with par := wPar 9 5 4 0 7 0x4000 0x4000 },
     by decide +kernel⟩,
   ⟨wRelay [wHop], by decide +kernel⟩,
   ⟨wRelay [{ wHop with state := 1 }], 0, { wHop with state := 1 }, by decide +kernel⟩⟩

/-- The hypotheses of Obligations.TunnelRows, clause by clause. -/
theorem witness_TunnelRows :
    (∃ (s : State) (c : HostCmd) (ans : List DevAns) (p : TunPar) (x y : DevAns), s.up = true ∧ Takes s c (openBits c.ops) ∧
    s.hostControls = true ∧ c.target.toNat = 0 ∧ s.tun.waits = [] ∧ s.tun.next = [] ∧ s.crt.cos = [] ∧ s.tun.loop = [] ∧
    s.openPar c.ops = p ∧ p.tid ≠ 0 ∧ s.heldTid p.tid = none ∧ s.checkTun { p with tid := 0 } p.policy p.fport ans = none ∧
    s.pathOf p ≠ [] ∧ s.fid ∉ s.pathOf p ∧
    (∀ d ∈ s.pathOf p, (ansOf ans p.tid d).map (fun a => (a.inst, a.act)) = some (0, true)) ∧ p.aFid ∈ s.pathOf p ∧
    p.bFid ∈ s.pathOf p ∧ ansOf ans p.tid p.aFid = some x ∧ ansOf ans p.tid p.bFid = some y) ∧
    (∃ (s : State) (c : HostCmd) (ans : List DevAns) (h : HeldTid), s.up = true ∧ Takes s c [(0x08, 0, 16), (0x0A, 0, 1)] ∧
    s.hostControls = true ∧ c.target.toNat = 0 ∧ s.tun.waits = [] ∧ s.tun.next = [] ∧ s.crt.cos = [] ∧ s.tun.loop = [] ∧
    opAt c 0x08 2 = h.par.tid ∧ opAt c 0x0A 1 = 0 ∧ h.par.tid < 4096 ∧ h.par.tid ≠ 0 ∧ s.tun.map = [h] ∧ h.par.bundle = 0 ∧
    h.par.aFid ≠ h.par.bFid ∧ s.fid ∉ s.pathHeld h ∧ h.par.aFid ≠ s.fid ∧ h.par.bFid ≠ s.fid ∧
    (∀ d ∈ s.pathHeld h, (ansOf ans h.par.tid d).map (fun a => a.rem) = some true)) ∧
    (∃ (s : State) (c : HostCmd) (h : HeldTid), s.up = true ∧
    Takes s c [(0x08, 0, 16), (0x0A, 0, 8), (0x0B, 0, 8), (0x0C, 0, 16), (0x0E, 0, 1), (0x0F, 0, 8), (0x10, 0, 8)] ∧
    s.hostControls = true ∧ c.target.toNat = 0 ∧ s.tun.waits = [] ∧ s.tun.next = [] ∧ s.crt.cos = [] ∧ s.tun.loop = [] ∧
    opAt c 0x08 2 = h.par.tid ∧ opAt c 0x0A 1 ≤ 1 ∧ h.par.tid < 4096 ∧ h.par.tid ≠ 0 ∧ s.tun.map = [h] ∧ h.par.bundle = 0 ∧
    h.par.aFid ≠ h.par.bFid ∧ h.par.aFid ≠ s.fid ∧ h.par.bFid ≠ s.fid ∧
    s.checkTun (movedTo h.par (opAt c 0x0A 1 == 1) (opAt c 0x0B 1) (opAt c 0x0C 2) (opAt c 0x0F 1) (opAt c 0x10 1)) h.par.policy
      h.par.fport [] = none) ∧
    (∃ (s : State) (c : HostCmd) (h : HeldTid), s.up = true ∧ Takes s c [(0x08, 0, 16), (0x0A, 0, 8)] ∧ s.hostControls = true ∧
    c.target.toNat = 0 ∧ s.tun.waits = [] ∧ s.tun.next = [] ∧ s.crt.cos = [] ∧ s.tun.loop = [] ∧ opAt c 0x08 2 = h.par.tid ∧
    h.par.tid < 4096 ∧ h.par.tid ≠ 0 ∧ s.tun.map = [h] ∧ s.fid ∉ s.pathHeld h ∧ s.roleOf (opAt c 0x0A 1) = some 0) ∧
    (∃ (s : State) (c : HostCmd) (h : HeldTid), s.up = true ∧ Takes s c [(0x08, 0, 16)] ∧ s.hostControls = true ∧
    c.target.toNat = 0 ∧ s.tun.waits = [] ∧ s.tun.next = [] ∧ s.crt.cos = [] ∧ s.tun.loop = [] ∧ opAt c 0x08 2 = h.par.tid ∧
    h.par.tid < 4096 ∧ h.par.tid ≠ 0 ∧ s.tun.map = [h] ∧ s.fid ∉ s.pathHeld h) ∧
    (∃ (s : State) (c : HostCmd) (x : TunCtx), Takes s c tunStatsBits ∧ c.target.toNat = 0 ∧ opAt c 0x08 2 < 4096 ∧
    opAt c 0x0A 1 = 0 ∧ s.ctxOf (opAt c 0x08 2) = some x ∧ s.fid = s.ownerFid) ∧
    (∃ (s : State) (c : HostCmd), s.up = true ∧ Takes s c [(0x08, 0, 16)] ∧ s.hostControls = true ∧ c.target.toNat = 0 ∧
    s.tun.waits = [] ∧ s.tun.next = [] ∧ s.crt.cos = [] ∧ s.tun.loop = [] ∧ opAt c 0x08 2 < 4096 ∧ opAt c 0x08 2 ≠ 0 ∧
    s.heldTid (opAt c 0x08 2) = none) ∧
    (∃ (s : State) (ans : List DevAns) (h : HeldTid) (w : TunWait) (k : InFlight), s.up = true ∧ s.get F.GLB_OWNER_STATE = 3 ∧
    s.tun.waits = [w] ∧ w.who = .cmd k ∧ w.kind = 0 ∧ w.tid = h.par.tid ∧ s.tun.map = [h] ∧ h.par.bundle = 0 ∧ s.tun.next = [] ∧
    s.tun.loop = [] ∧ s.fid ∉ s.pathHeld h ∧ h.par.aFid ≠ s.fid ∧ h.par.bFid ≠ s.fid ∧
    (∀ d ∈ s.pathHeld h, (ansOf ans h.par.tid d).map (fun a => a.rem) = some true) ∧ k ∈ s.ctl.inflight) ∧
    (∃ (s : State) (h : HeldTid) (w : TunWait) (k : InFlight), s.up = true ∧ s.get F.GLB_OWNER_STATE = 3 ∧ s.tun.waits = [w] ∧
    w.who = .cmd k ∧ w.kind = 1 ∧ w.force = false ∧ w.tid = h.par.tid ∧ s.tun.map = [h] ∧ h.par.bundle = 0 ∧ s.tun.next = [] ∧
    s.tun.loop = [] ∧ h.par.aFid ≠ h.par.bFid ∧ h.par.aFid ≠ s.fid ∧ h.par.bFid ≠ s.fid ∧ s.cplReady k.pair = true) ∧
    (∃ (s : State) (fid : Nat) (h : HeldTid), s.up = true ∧ s.hostControls = true ∧ fid ≠ s.fid ∧ fid ∈ s.fab.live.nodes ∧
    s.tun.map = [h] ∧ h.stale = [] ∧ fid ∈ s.pathHeld h ∧ h.par.aFid ≠ h.par.bFid ∧ h.par.aFid ≠ fid ∧ h.par.bFid ≠ fid ∧
    s.tun.loop = []) ∧
    (∃ (s : State) (fid : Nat) (m : MapMsg), s.up = true ∧ s.isHost = true ∧ fid = s.ownerFid ∧ fid ≠ s.fid ∧ m.full = false ∧
    idxDiff m.seq s.tun.mapSeq = 1 ∧ s.tun.copyIn = .idle) ∧
    (∃ (s : State) (fid : Nat) (m : MapMsg), s.up = true ∧ s.isHost = true ∧ fid = s.ownerFid ∧ fid ≠ s.fid ∧ m.full = false ∧
    2 ≤ idxDiff m.seq s.tun.mapSeq ∧ idxDiff m.seq s.tun.mapSeq < 32768) ∧
    (∃ (s : State) (fid seq : Nat) (m : MapMsg), s.up = true ∧
    (s.tun.unanswered.find? (fun e => e.1 == fid && e.2.seq == seq) = some (fid, m))) :=
  ⟨⟨wMap [], wCmd 0 wOpenOps, [wAns 6, wAns 7], (wMap []).openPar (BitVec.ofNat 448 wOpenOps), wAns 6, wAns 7,
     by decide +kernel⟩,
   ⟨wMap [wHeldTid], wCmd 0 9, [wAns 6, wAns 7], wHeldTid, by decide +kernel⟩,
   ⟨wMap [wHeldTid], wCmd 0 (resultOf [(0x08, 9), (0x0A, 1), (0x0B, 7), (0x0C, 0x7000), (0x0F, 3), (0x10, 4)]).toNat, wHeldTid,
     by decide +kernel⟩,
   ⟨wMap [wHeldTid], wCmd 0 (9 + 6 * 65536), wHeldTid, by decide +kernel⟩,
   ⟨wMap [{ wHeldTid with par := { wHeldTid.par with grant := 6 } }], wCmd 0 9,
     { wHeldTid with par := { wHeldTid.par with grant := 6 } }, by decide +kernel⟩,
   ⟨wData, wCmd 0 9, wEnd, by decide +kernel⟩,
   ⟨wMap [], wCmd 0 9, by decide +kernel⟩,
   ⟨wDrain 0 true |>.ctlM fun k => { k with inflight := [wTicket] }, [wAns 6, wAns 7], wHeldTid,
     { who := .cmd wTicket, tid := 9, kind := 0, force := true, endB := true, newFid := 7, newEp := 0x7000, dOut := 3, dIn := 4 },
     wTicket, by decide +kernel⟩,
   ⟨wDrain 1 false, wHeldTid,
     { who := .cmd wTicket, tid := 9, kind := 1, force := false, endB := true, newFid := 7, newEp := 0x7000, dOut := 3, dIn := 4 },
     wTicket, by decide +kernel⟩,
   ⟨(wMap [{ wHeldTid with path := [5, 6, 7] }]).fabM fun x => { x with live := { nodes := [1, 5, 6, 7], links := [] } }, 5,
     { wHeldTid with path := [5, 6, 7] }, by decide +kernel⟩,
   ⟨wMirror, 5, wMapMsg 4, by decide +kernel⟩,
   ⟨wMirror, 5, wMapMsg 6, by decide +kernel⟩,
   ⟨wMirror.tunM fun t => { t with unanswered := [(6, wMapMsg 4)] }, 6, 4, wMapMsg 4, by decide +kernel⟩⟩

/-- The hypotheses of Obligations.ClockedRows, clause by clause. -/
theorem witness_ClockedRows :
    (∃ (s : State) (p q : Nat) (c : TunCtx), s.up = true ∧ p < 3 ∧ p < s.schs.length ∧ (s.sch p).draining = none ∧
    s.get (F.ADT_STAT_RATE p) = 1 ∧ s.get (F.ADT_STAT_TXLANES p) = 3 ∧ s.get (F.SCH_SLOT_SLOTPS p) = 168000 ∧
    s.get (F.SCH_CALA_KIND p ((s.get (F.SCH_SLOT_POINTER p) + 1) % 1024)) = 1 ∧
    s.get (F.SCH_CALA_INDEX p ((s.get (F.SCH_SLOT_POINTER p) + 1) % 1024)) = q ∧ s.holds p q = true ∧ s.ctx q = some c ∧
    c.par.cls = 4) ∧
    (∃ (s : State) (p : Nat), s.up = true ∧ p < 3 ∧ (s.sch p).draining = none ∧ s.get (F.ADT_STAT_RATE p) = 1 ∧
    s.get (F.ADT_STAT_TXLANES p) = 3 ∧ s.get (F.SCH_SLOT_SLOTPS p) = 168000 ∧
    s.get (F.SCH_CALA_KIND p ((s.get (F.SCH_SLOT_POINTER p) + 1) % 1024)) = 0) ∧
    (∃ (s : State) (p k : Nat), s.up = true ∧ p < 3 ∧ p < s.schs.length ∧ k < 8 ∧ s.classRate p k ≠ 0) ∧
    (∃ (s : State) (x : MeterSt), s.up = true ∧ x ∈ s.meters) ∧
    (∃ (s : State) (p : Nat), s.up = true ∧ p < 3 ∧ p < s.schs.length ∧ s.coreClocked = true ∧
    (s.sch p).lastBound < s.now / s.epochNs p * s.epochNs p ∧ (s.sch p).staged = none ∧ s.metStaged = none ∧
    s.get (F.SCH_STAT_MODE p) = 0 ∧ (s.sch p).activeQ.length ≤ 256) ∧
    (∃ (s : State) (p : Nat), s.up = true ∧ p < 3 ∧ s.now / s.epochNs p * s.epochNs p ≤ (s.sch p).lastBound) :=
  ⟨⟨wCal 1, 0, 0, { wFar [] with par := wPar 9 8 4 1 5 0x7000 0x7000 }, by decide +kernel⟩,
   ⟨wCal 0, 0, by decide +kernel⟩,
   ⟨wShaped, 0, 3, by decide +kernel⟩,
   ⟨wMeters, { m := 5, c := -10, p := 7 }, by decide +kernel⟩,
   ⟨{ wCal 0 with clock := 100000000 * nsUnit }, 0, by decide +kernel⟩,
   ⟨wCal 0, 0, by decide +kernel⟩⟩

/-- The hypotheses of Obligations.CommitObservationRows, clause by clause. -/
theorem witness_CommitObservationRows :
    (∃ (s : State) (c : HostCmd) (p : Nat), Takes s c schCommitBits ∧ s.hostControls = true ∧ c.target.toNat = 0 ∧ p < 3 ∧
    p < s.schs.length ∧ opAt c 0x08 1 = 2 ^ p ∧ opAt c 0x09 1 = 0 ∧ (s.sch p).staged = none) ∧
    (∃ (s : State) (c : HostCmd), Takes s c schCommitBits ∧ s.hostControls = true ∧ c.target.toNat = 0 ∧ opAt c 0x08 1 = 0) ∧
    (∃ (s : State) (p : Nat) (d : Drain) (g : Staged), s.up = true ∧ p < 3 ∧ (s.sch p).draining = some d ∧
    (s.sch p).staged = some g ∧ (s.sch p).queue = []) ∧
    (∃ (s : State) (p q : Nat) (h : QFrame), s.up = true ∧ p < 3 ∧ s.get (F.SCH_STAT_MODE p) = 0 ∧
    s.get (F.SCH_CTRL_OBSEN p) = 1 ∧ ((List.range 1024).filter (fun k => s.holds p k) = [q]) ∧ s.head p q = some h ∧
    s.isHost = false ∧ s.ownerFid ≠ 0) ∧
    (∃ (s : State) (r : Req) (p a : Nat) (v : Word), p < 3 ∧ s.busOpen r = true ∧ r ≠ .smbus ∧ s.boot.pers ≠ 1 ∧
    s.mayControl r = true ∧ bitsOf v 16 1 = 1 ∧ A.SCH_HW0 p 0 ≤ a ∧ a < A.SCH_HW0 p 0 + 8192 ∧ (a ∈ s.regs.map (fun e => e.1))) :=
  ⟨⟨wHost, wCmd 0 4, 2, by decide +kernel⟩,
   ⟨wHost, wCmd 0 0, by decide +kernel⟩,
   ⟨{ wDrained with clock := 100 * nsUnit }, 0, { t0 := 0, met := none, slots := 0 }, wStaged, by decide +kernel⟩,
   ⟨wObs, 0, 0, wFrameQ 0 4, by decide +kernel⟩,
   ⟨wHost.put (F.SCH_HW0_MAXDEPTH 0 4) 77, .host, 0, 0xA9020, 0x10005, by decide +kernel⟩⟩

/-- The hypotheses of Obligations.TlpRows, clause by clause. -/
theorem witness_TlpRows :
    (∃ (s : State) (k p : Nat) (bytes : List (BitVec 8)) (c : TunCtx), s.serdesUp = true ∧ k < 4 ∧ s.role = 1 ∧
    tlpDropped (tlpHeader bytes) = false ∧ tlpClass (tlpHeader bytes) = 0 ∧ s.portLeader k = some c ∧ OpenWay s c bytes.length p) ∧
    (∃ (s : State) (k : Nat) (bytes : List (BitVec 8)), s.serdesUp = true ∧ k < 4 ∧ s.role = 1 ∧
    tlpDropped (tlpHeader bytes) = false ∧ tlpClass (tlpHeader bytes) = 1 ∧ s.portLeader k = none) ∧
    (∃ (s : State) (c : TunCtx) (bytes : List (BitVec 8)) (b : RaBuf), s.serdesUp = true ∧ s.isHost = true ∧ s.boot.pers = 2 ∧
    tlpDropped (tlpHeader bytes) = false ∧ tlpRead (tlpHeader bytes) = true ∧
    (s.slotsFor (tlpHeader bytes)).filterMap s.slotLeader = [c] ∧
    s.bufFor c.unit (tlpFirst (tlpHeader bytes)) (tlpCount (tlpHeader bytes)) = some b ∧ c.pos = 1) ∧
    (∃ (s : State) (lead req tag p : Nat) (x : ReqIn) (c m : TunCtx), s.serdesUp = true ∧
    (s.pcx.ins.find? (fun i => i.lead == lead && i.req == req && i.tag == tag) = some x) ∧
    (s.tun.ctxs.find? (fun c => c.par.tid == lead && c.isEnd) = some c) ∧ s.bundle lead c.pos 2 = some m ∧ OpenWay s m 12 p ∧
    s.due (some x.at_) (1000000 * max 1 (min 1000 (s.get F.PCX_CTO_MS))) = true) ∧
    (∃ (s : State) (slot addr j : Nat) (b : RaBuf), s.serdesUp = true ∧ slot < 16 ∧
    (s.pcx.bufs.filter (fun x => x.slot == slot && x.addr == addr) = [b]) ∧ (b.bytes.findIdx? (fun x => x.isSome) = some j)) :=
  ⟨⟨wDock, 0, 0, wWrite, wDockCtx 0 0, by decide +kernel⟩,
   ⟨wDock, 1, wRead, by decide +kernel⟩,
   ⟨((wSlots.slotM 2 fun x => { x with memBase := 0x1000, memLim := 0x1FFF }).pcxM fun x => { x with bufs := [wBuf] }).cfgPut 4
     4 2 |>.cfgPut 7 4 2, { wDockCtx 0 0 with pos := 1, par := { (wDockCtx 0 0).par with aFid := 1, bFid := 5 } }, wRead, wBuf,
     by decide +kernel⟩,
   ⟨{ wDock.pcxM (fun x => { x with ins := [wIn] }) with uptime := 10 ^ 9 }, 9, 0x100, 7, 0, wIn, wDockCtx 0 0, wDockCtx 2 2,
     by decide +kernel⟩,
   ⟨wSlots.pcxM fun x => { x with bufs := [wBuf] }, 2, 0x1000, 0, wBuf, by decide +kernel⟩⟩

/-- The hypotheses of Obligations.HotPlugSidebandRows, clause by clause. -/
theorem witness_HotPlugSidebandRows :
    (∃ (s : State) (k : Nat), s.serdesUp = true ∧ k < 16 ∧ k < s.pcx.slots.length ∧ s.isHost = true ∧ s.pcx.hp = []) ∧
    (∃ (s : State) (k : Nat) (l : TunCtx), s.serdesUp = true ∧ k < 16 ∧ k < s.pcx.slots.length ∧ s.isHost = true ∧
    s.pcx.hp = [] ∧ s.slotLeader k = some l) ∧
    (∃ (s : State) (c : HostCmd) (p : TunPar),
    Takes s c [(0x08, 0, 6), (0x09, 0, 2), (0x0A, 0, 6), (0x0B, 0, 4), (0x0C, 0, 1), (0x10, 0, 32)] ∧ s.hostControls = true ∧
    c.target = 0 ∧ s.pcx.hp = [] ∧ s.pcx.asks = [] ∧ s.roleOf (opAt c 0x08 1) = some 1 ∧ opAt c 0x0A 1 = 0 ∧ opAt c 0x0C 1 = 0 ∧
    1 ≤ opAt c 0x10 4 ∧ opAt c 0x10 4 ≤ 60000 ∧
    ((s.tun.map.find? (fun x => x.par.typ == 0 && x.par.bFid == opAt c 0x08 1 && x.par.epB == 4096 + opAt c 0x09 1 && x.stale ==
      [])).map (fun x => x.par) = some p) ∧
    p.aFid ≠ s.fid) ∧
    (∃ (s : State) (h : HotPlug), s.up = true ∧ s.pcx.hp = [h] ∧ h.step = 1 ∧ h.code = none ∧ h.oldFid ≠ s.fid ∧
    s.cplReady h.ticket.pair = true) ∧
    (∃ (s : State) (h : HotPlug), s.up = true ∧ s.pcx.hp = [h] ∧ h.step = 6 ∧ h.code = none ∧ s.cplReady h.ticket.pair = true) ∧
    (∃ (s : State) (tid p : Nat) (c : TunCtx), s.serdesUp = true ∧ s.role ≠ 1 ∧
    (s.tun.ctxs.find? (fun c => c.par.tid == tid && c.isEnd && c.par.typ == 3 && c.state == 2) = some c) ∧ OpenWay s c 16 p) ∧
    (∃ (s : State) (tid : Nat) (bytes : List (BitVec 8)) (c : TunCtx), s.serdesUp = true ∧ s.role = 1 ∧
    (s.tun.ctxs.find? (fun c => c.par.tid == tid && c.isEnd && c.par.typ == 3) = some c) ∧ byteAt bytes 0 = 1 ∧
    byteAt bytes 1 / 4 % 2 = 0 ∧ (s.pcx.sums.find? (fun e => e.tid == c.par.tid) = none)) ∧
    (∃ (s : State) (tid : Nat) (bytes : List (BitVec 8)) (c : TunCtx), s.serdesUp = true ∧
    (s.tun.ctxs.find? (fun c => c.par.tid == tid && c.isEnd && c.par.typ == 3) = some c) ∧ byteAt bytes 0 = 2 ∧ c.pos = 1 ∧
    c.unit < s.pcx.slots.length) ∧
    (∃ (s : State) (k speed width : Nat), s.serdesUp = true ∧ k < 4 ∧ s.role = 1 ∧ k < s.dockPorts ∧
    s.bit (F.PCX_PORTSTAT_DISABLED k) = false ∧ s.boot.perstOut = true ∧ width = s.dockLanes ∧ 1 ≤ speed ∧ speed ≤ s.pcieMax ∧
    speed ≤ (s.dport k).speed) ∧
    (∃ (s : State) (k : Nat), s.serdesUp = true ∧ k < 4 ∧ s.role = 1 ∧ k < s.dockPorts ∧ s.bit (F.PCX_PORTSTAT_LINKUP k) = true) :=
  ⟨⟨wSlots, 2, by decide +kernel⟩,
   ⟨wSlots, 2, { wDockCtx 0 0 with pos := 1, par := { (wDockCtx 0 0).par with aFid := 1, bFid := 5 } }, by decide +kernel⟩,
   ⟨wHot, wCmd 0 (resultOf [(0x08, 5), (0x10, 1000)]).toNat, { (wDockCtx 0 0).par with aFid := 6, bFid := 5 },
     by decide +kernel⟩,
   ⟨wHpRun 1, wHp 1, by decide +kernel⟩,
   ⟨wHpRun 6, wHp 6, by decide +kernel⟩,
   ⟨wUp.tunM fun t =>
     { t with ctxs := [{ wDockCtx 3 3 with pos := 1, par := { (wDockCtx 3 3).par with aFid := 1, bFid := 5 } }] }, 12, 0,
     { wDockCtx 3 3 with pos := 1, par := { (wDockCtx 3 3).par with aFid := 1, bFid := 5 } }, by decide +kernel⟩,
   ⟨wDock, 12, wSum 0, wDockCtx 3 3, by decide +kernel⟩,
   ⟨wSlots, 12, wNotice, { wDockCtx 3 3 with pos := 1, par := { (wDockCtx 3 3).par with aFid := 1, bFid := 5 } },
     by decide +kernel⟩,
   ⟨wDock.bootM fun b => { b with perstOut := true }, 2, 4, 1, by decide +kernel⟩,
   ⟨wDock.put (F.PCX_PORTSTAT_LINKUP 1) 1, 1, by decide +kernel⟩⟩

/-- The hypotheses of Obligations.InputRows, clause by clause. -/
theorem witness_InputRows :
    (∃ (s : State) (k rate lanes : Nat), s.serdesUp = true ∧ k < 2 ∧ k < s.srcs.length ∧ s.isHost = true ∧
    s.bit (F.DSC_IN_CTRL_EN k) = true ∧ (s.src k).live = false ∧ rate ≤ s.inRate k ∧ lanes ∈ [1, 2, 4] ∧ lanes ≤ s.inLanes k) ∧
    (∃ (s : State) (k : Nat) (m : InMode), s.serdesUp = true ∧ k < 2 ∧ k < s.srcs.length ∧ s.isHost = true ∧
    s.bit (F.DSC_IN_STAT_TRAINED k) = true ∧ (s.src k).live = false ∧ s.inTakes k m = true ∧ m.video = true ∧
    m.w ≠ (s.src k).mode.w ∧ m.hdcp = 0 ∧ (s.src k).mode.hdcp = 0) ∧
    (∃ (s : State) (r : Req) (k : Nat), s.serdesUp = true ∧ k < 2 ∧ s.isHost = true ∧ s.busOpen r = true ∧ r ≠ .smbus ∧
    s.boot.pers ≠ 1 ∧ s.mayControl r = true ∧ (s.bit (F.DSC_IN_CTRL_HDCPEN k) = true ∨ (s.src k).mode.hdcp = 0)) ∧
    (∃ (s : State) (r : Req) (k : Nat), s.serdesUp = true ∧ k < 2 ∧ s.isHost = true ∧ s.busOpen r = true ∧ r ≠ .smbus ∧
    s.boot.pers ≠ 1 ∧ s.mayControl r = true) ∧
    (∃ (s : State) (k period : Nat) (enc : Bool), s.serdesUp = true ∧ k < 2 ∧ k < s.srcs.length ∧ s.isHost = true ∧
    s.bit (F.DSC_IN_STAT_TRAINED k) = true ∧ s.bit (F.DSC_IN_STAT_VIDEO k) = true ∧ (s.src k).clear = true ∧ period < 2 ^ 26 ∧
    (enc = true → s.bit (F.DSC_IN_STAT_HDCPAUTH k) = true)) ∧
    (∃ (s : State) (k j : Nat) (c : TunCtx), s.serdesUp = true ∧ k < 2 ∧ k < s.srcs.length ∧ s.isHost = true ∧
    (s.src k).live = true ∧ (s.src k).enc = false ∧ (s.src k).items = [] ∧ j + 1 < (s.src k).grid.2 ∧ s.srcEnd k = some c ∧
    c.state = 3 ∧ c.par.cls = 4) :=
  ⟨⟨wIn0 SrcSt.reset, 0, 3, 4, by decide +kernel⟩,
   ⟨(wIn0 SrcSt.reset).put (F.DSC_IN_STAT_LANES 0) 4, 0, wMode, by decide +kernel⟩,
   ⟨wIn0 SrcSt.reset, .host, 0, by decide +kernel⟩,
   ⟨wIn0 SrcSt.reset, .host, 0, by decide +kernel⟩,
   ⟨wIn0 SrcSt.reset, 0, 16666667, false, by decide +kernel⟩,
   ⟨wIn0Tun { SrcSt.reset with mode := wMode, live := true } 3, 0, 0, wSrcEnd 0 3 [], by decide +kernel⟩⟩

/-- The hypotheses of Obligations.PushSourceRows, clause by clause. -/
theorem witness_PushSourceRows :
    (∃ (s : State) (k : Nat) (v : Word), s.serdesUp = true ∧ k < 4 ∧ s.fnOpen = true ∧ bitsOf v 0 1 = 1 ∧ 4 ≤ bitsOf v 8 5 ∧
    bitsOf v 8 5 ≤ 16 ∧ s.get (F.PUSH_CFG_EN k) = 0) ∧
    (∃ (s : State) (k : Nat) (v : Word), s.serdesUp = true ∧ k < 4 ∧ s.fnOpen = true ∧ s.get (F.PUSH_CFG_EN k) = 1 ∧
    bitsOf v 16 16 = 0 ∧ idxDiff (bitsOf v 0 16) (s.get (F.PUSH_IDX_DEVIDX k)) ≤ s.pushCap k) ∧
    (∃ (s : State) (k : Nat) (d : PushDesc) (c : TunCtx), s.serdesUp = true ∧ k < 4 ∧ k + 2 < s.srcs.length ∧ s.isHost = true ∧
    s.get (F.PUSH_CFG_EN k) = 1 ∧ (s.src (k + 2)).items = [] ∧
    idxDiff (s.get (F.PUSH_IDX_HOSTIDX k)) (s.get (F.PUSH_IDX_DEVIDX k)) ≠ 0 ∧ s.srcEnd (k + 2) = some c ∧ c.state = 2 ∧
    c.paused = 0 ∧ c.held ≠ [] ∧ c.par.men = false ∧ s.mayUse c = true ∧ d.opcode = 1 ∧ d.clean = true ∧ pushOk d = true ∧
    d.full = true) ∧
    (∃ (s : State) (k p : Nat) (b : List (BitVec 8)) (c : TunCtx), s.serdesUp = true ∧ k < 6 ∧ k < s.srcs.length ∧
    (s.src k).items = [.record b] ∧ c.ep = srcEp k ∧ c.par.typ = 4 ∧ OpenWay s c b.length p) ∧
    (∃ (s : State) (tid k : Nat) (bytes b : List (BitVec 8)), s.serdesUp = true ∧ s.srcOf tid = some k ∧ k < 2 ∧
    k < s.srcs.length ∧ readRecord bytes = some (0x10, b) ∧ b.length = 4 ∧ byteAt bytes 0 = 0x10) ∧
    (∃ (s : State) (tid k : Nat) (bytes b : List (BitVec 8)), s.serdesUp = true ∧ s.srcOf tid = some k ∧ k < s.srcs.length ∧
    readRecord bytes = some (0x11, b) ∧ b.length = 19 + leNat (slice b 17 2) ∧ b.length ≤ 531 ∧ byteAt bytes 0 = 0x11) ∧
    (∃ (s : State) (tid k : Nat) (bytes b : List (BitVec 8)), s.serdesUp = true ∧ s.srcOf tid = some k ∧ k < s.srcs.length ∧
    readRecord bytes = some (0x12, b) ∧ b.length = 7 ∧ byteAt bytes 0 = 0x12) :=
  ⟨⟨wHost, 0, 0x401, by decide +kernel⟩,
   ⟨wPush, 1, 3, by decide +kernel⟩,
   ⟨wPush, 1, wPushDesc, wSrcEnd 3 2 [wHeldF], by decide +kernel⟩,
   ⟨wIn0Tun { SrcSt.reset with items := [.record [1, 2, 3, 4]] } 2, 0, 0, [1, 2, 3, 4], wSrcEnd 0 2 [], by decide +kernel⟩,
   ⟨wIn0Tun { SrcSt.reset with clear := false } 2, 9, 0, dispRecord 0x10 [1, 0, 0, 0], [1, 0, 0, 0], by decide +kernel⟩,
   ⟨wIn0Tun SrcSt.reset 2, 9, 0, dispRecord 0x11 (leBytes 19 0), leBytes 19 0, by decide +kernel⟩,
   ⟨wIn0Tun SrcSt.reset 2, 9, 0, dispRecord 0x12 [1, 0, 9, 9, 9, 9, 9], [1, 0, 9, 9, 9, 9, 9], by decide +kernel⟩⟩

/-- The hypotheses of Obligations.OutputRecordRows, clause by clause. -/
theorem witness_OutputRecordRows :
    (∃ (s : State) (tid k buf : Nat) (b : List (BitVec 8)) (ls : List (List Word)) (c : TunCtx), s.serdesUp = true ∧
    s.outOf tid = some k ∧ s.endAt (0x3000 + k) 4 = some c ∧ c.waiting = [] ∧ k < s.dispOuts.length ∧
    (s.dout k).refused = false ∧ (s.dout k).asm = none ∧ (s.dout k).mode.dsc = false ∧ fragOk none b true = true ∧
    byteAt b 1 = 0 ∧ leNat (slice b 8 2) < (gridOf (s.dout k).mode.w (s.dout k).mode.h false (s.dout k).pps).1 ∧
    leNat (slice b 10 2) < (gridOf (s.dout k).mode.w (s.dout k).mode.h false (s.dout k).pps).2 ∧
    byteAt b 12 % 64 + 1 = min 64 ((s.dout k).mode.w - 64 * leNat (slice b 8 2)) ∧
    byteAt b 13 % 64 + 1 = min 64 ((s.dout k).mode.h - 64 * leNat (slice b 10 2)) ∧
    decodeTile (min 64 ((s.dout k).mode.w - 64 * leNat (slice b 8 2))) (min 64 ((s.dout k).mode.h - 64 * leNat (slice b 10 2)))
      none (b.drop 16) = some ls ∧
    s.freeBufs k (leNat (slice b 10 2) * (gridOf (s.dout k).mode.w (s.dout k).mode.h false (s.dout k).pps).1 + leNat (slice b 8
      2)) = [buf]) ∧
    (∃ (s : State) (tid k p : Nat) (bytes b : List (BitVec 8)) (c : TunCtx), s.serdesUp = true ∧ s.outOf tid = some k ∧
    k < s.dispOuts.length ∧ k < 4 ∧ readRecord bytes = some (1, b) ∧ byteAt bytes 0 = 1 ∧ b.length = 12 ∧
    (readMode b).dsc = false ∧ (s.dout k).mode.w ≠ (readMode b).w ∧ s.fits k (readMode b) (s.dout k).pps = true ∧
    c.ep = 0x3000 + k ∧ c.par.typ = 4 ∧ c.waiting = [] ∧ OpenWay s c 8 p) ∧
    (∃ (s : State) (tid k : Nat) (bytes b : List (BitVec 8)) (m : List (Nat × MapTile)) (c : TunCtx), s.serdesUp = true ∧
    s.outOf tid = some k ∧ s.endAt (0x3000 + k) 4 = some c ∧ c.waiting = [] ∧ k < s.dispOuts.length ∧ k < 4 ∧
    readRecord bytes = some (2, b) ∧ byteAt bytes 0 = 2 ∧ b.length = 12 ∧ (s.dout k).refused = false ∧
    s.bit (F.DSO_OUT_CTRL_HELD k) = false ∧ (s.dout k).b = some m ∧ (s.dout k).bFrame = leNat (slice b 0 4) ∧ byteAt b 8 % 2 = 0) ∧
    (∃ (s : State) (tid k : Nat) (bytes b : List (BitVec 8)) (c : TunCtx), s.serdesUp = true ∧ s.outOf tid = some k ∧
    s.endAt (0x3000 + k) 4 = some c ∧ c.waiting = [] ∧ k < s.dispOuts.length ∧ readRecord bytes = some (3, b) ∧
    byteAt bytes 0 = 3 ∧ b.length ≤ 64) ∧
    (∃ (s : State) (tid k : Nat) (bytes b : List (BitVec 8)) (c : TunCtx), s.serdesUp = true ∧ s.outOf tid = some k ∧
    s.endAt (0x3000 + k) 4 = some c ∧ c.waiting = [] ∧ k < s.dispOuts.length ∧ readRecord bytes = some (4, b) ∧
    byteAt bytes 0 = 4 ∧ b.length = 128 ∧ (s.dout k).mode.dsc = false) :=
  ⟨⟨wOut { OutSt.reset with mode := wPic, p := wMap0 }, 9, 0, 0, wTile, [[0x123456]], wOutEnd, by decide +kernel⟩,
   ⟨wOut OutSt.reset, 9, 0, 0, dispRecord 1 ([1, 0, 1, 0] ++ leBytes 8 0), [1, 0, 1, 0] ++ leBytes 8 0, wOutEnd,
     by decide +kernel⟩,
   ⟨wOut { OutSt.reset with b := some wMap0, bFrame := 7 }, 9, 0, dispRecord 2 (leBytes 12 7), leBytes 12 7, wMap0, wOutEnd,
     by decide +kernel⟩,
   ⟨wOut OutSt.reset, 9, 0, dispRecord 3 [7], [7], wOutEnd, by decide +kernel⟩,
   ⟨wOut OutSt.reset, 9, 0, dispRecord 4 (leBytes 128 5), leBytes 128 5, wOutEnd, by decide +kernel⟩⟩

/-- The hypotheses of Obligations.OutputRows, clause by clause. -/
theorem witness_OutputRows :
    (∃ (s : State) (k : Nat) (q : List (Nat × MapTile)), s.serdesUp = true ∧ s.hasOuts = true ∧
    ((s.tun.ctxs.all fun c => c.waiting.isEmpty) = true) ∧ k < 4 ∧ k < s.dispOuts.length ∧ s.asleep = false ∧
    s.bit (F.DSO_OUT_CTRL_EN k) = true ∧ s.bit (F.DSO_OUT_CTRL_HELD k) = false ∧ s.bit (F.DSO_OUT_CTRL_GENLOCK k) = false ∧
    s.get (F.DSO_OUT_STAT_HDCP k) = 0 ∧ (s.dout k).q = some q) ∧
    (∃ (s : State) (c : HostCmd), Takes s c dsoFlipBits ∧ s.hostControls = true ∧ c.target.toNat ≠ 0 ∧ c.target.toNat ≠ s.fid ∧
    s.reachable c.target.toNat = true) ∧
    (∃ (s : State) (f k : Nat) (ops : BitVec 448), s.boot.held = false ∧ s.get F.PWR_STAT_CUR < 3 ∧ f = s.ownerFid ∧ f ≠ 0 ∧
    s.crt.loop = [] ∧ s.crt.cos = [] ∧ s.hasOuts = true ∧ k < 4 ∧ k < s.dispOuts.length ∧ ops.toNat % 65536 = 2 ^ k ∧
    s.bit (F.DSO_OUT_CTRL_HELD k) = true ∧ (s.dout k).flip = none) ∧
    (∃ (s : State) (r : Req) (k : Nat), s.serdesUp = true ∧ s.hasOuts = true ∧ k < 4 ∧ s.busOpen r = true ∧ r ≠ .smbus ∧
    s.boot.pers ≠ 1 ∧ s.mayControl r = true ∧ s.rd (A.DSO_OUT_CTRL k) = 0 ∧ s.enableErr k 1 = 0 ∧ (s.dout k).monitor = none ∧
    s.endAt (0x3000 + k) 4 = none) ∧
    (∃ (s : State) (r : Req) (k p : Nat) (c : TunCtx), s.serdesUp = true ∧ s.hasOuts = true ∧ k < 4 ∧ s.busOpen r = true ∧
    r ≠ .smbus ∧ s.boot.pers ≠ 1 ∧ s.mayControl r = true ∧ s.bit (F.DSO_OUT_CTRL_EN k) = true ∧ c.ep = 0x3000 + k ∧
    c.par.typ = 4 ∧ OpenWay s c 8 p) ∧
    (∃ (s : State) (k : Nat) (m : Monitor), s.serdesUp = true ∧ s.hasOuts = true ∧ k < 4 ∧ k < s.dispOuts.length ∧
    (s.dout k).monitor = none ∧ m.rate ≤ 6 ∧ m.lanes ∈ [0, 1, 2, 4] ∧ s.bit (F.DSO_OUT_CTRL_EN k) = false ∧
    s.bit (F.DSO_OUT_CTRL_HDCPEN k) = false ∧ s.endAt (0x3000 + k) 4 = none) :=
  ⟨⟨(wOut { OutSt.reset with q := some wMap0, qFrame := 9 }).put (F.DSO_OUT_CTRL_EN 0) 1, 0, wMap0, by decide +kernel⟩,
   ⟨wHost, wCmd 5 1, by decide +kernel⟩,
   ⟨((wOut OutSt.reset).put (F.DSO_OUT_CTRL_HELD 0) 1).put F.GLB_OWNER_OWNFID 5, 5, 0, 1, by decide +kernel⟩,
   ⟨((((((((wOut { OutSt.reset with pMode := wPic }).wr (A.DSO_OUT_CTRL 0) 0).tunM fun t => { t with ctxs := [] }).put
     (F.DSO_OUT_FS_BASE 0) 512).put (F.DSO_OUT_FS_BUFSZ 0) 8).put (F.DSO_OUT_PCLK_KHZ 0) 148500).put (F.DSO_OUT_H_TOTAL 0)
     2200).put (F.DSO_OUT_V_TOTAL 0) 1125).put F.GLB_OWNER_OWNFID 5, .mgmt 5, 0, by decide +kernel⟩,
   ⟨((wOut OutSt.reset).put (F.DSO_OUT_CTRL_EN 0) 1).put F.GLB_OWNER_OWNFID 5, .mgmt 5, 0, 0, wOutEnd, by decide +kernel⟩,
   ⟨(wOut OutSt.reset).tunM fun t => { t with ctxs := [] }, 0, wMonitor, by decide +kernel⟩⟩

/-- The hypotheses of Obligations.SyncGrandmasterRows, clause by clause. -/
theorem witness_SyncGrandmasterRows :
    (∃ (s : State) (p : Nat), s.serdesUp = true ∧ p < s.tim.ports.length ∧ s.syncs p = true ∧ s.pstate p = 1 ∧
    s.bit (F.ADT_STAT_TXDIM p) = false) ∧
    (∃ (s : State) (p : Nat), s.serdesUp = true ∧ p < s.tim.ports.length ∧ s.syncs p = true ∧ s.pstate p = 2 ∧
    s.bit (F.ADT_STAT_TXDIM p) = false) ∧
    (∃ (s : State) (p seq : Nat) (t1 : Int), s.serdesUp = true ∧ s.syncs p = true ∧ s.pstate p = 1 ∧
    (s.tport p).m = some (seq, t1)) ∧
    (∃ (s : State) (p seq : Nat) (t1 t2 t3 t4 : Int), s.up = true ∧ s.syncs p = true ∧ s.pstate p = 2 ∧
    (s.tport p).sl = some (seq, t2, t3) ∧ 0 ≤ ((t2 - t1) + (t4 - t3)) / 2 ∧ s.get F.TIM_SERVO_DLIM = 0 ∧
    s.get F.TIM_STAT_STATE = 2 ∧ s.get F.TIM_ALARM_NS = 0 ∧ s.bit F.TIM_CTRL_SERVOEN = false) ∧
    (∃ (s : State) (p seq : Nat) (t1 t2 t3 t4 : Int), s.up = true ∧ s.syncs p = true ∧ s.pstate p = 2 ∧
    (s.tport p).sl = some (seq, t2, t3) ∧ 0 ≤ ((t2 - t1) + (t4 - t3)) / 2 ∧ s.get F.TIM_SERVO_DLIM = 0 ∧
    s.get F.TIM_STAT_STATE = 2 ∧ s.get F.TIM_ALARM_NS = 0 ∧ s.bit F.TIM_CTRL_SERVOEN = true ∧
    (((t2 - t1) - (t4 - t3)) / 2).natAbs ≤ 65536000) ∧
    (∃ (s : State), s.up = true ∧ s.dutyRuns 9 = true ∧ s.quarantined = false) ∧
    (∃ (s : State) (p : Nat) (a : Announce), s.up = true ∧ p < s.tim.ports.length ∧ s.quarantined = false ∧ s.lit p = true ∧
    a.gm ≠ s.uid) ∧
    (∃ (s : State) (p : Nat), s.up = true ∧ p < 3 ∧ p < s.tim.ports.length) ∧
    (∃ (s : State), s.up = true ∧ s.get F.TIM_STAT_STATE = 2) :=
  ⟨⟨wSync 1 TimPort.reset, 0, by decide +kernel⟩,
   ⟨wSync 2 TimPort.reset, 0, by decide +kernel⟩,
   ⟨wSync 1 { TimPort.reset with m := some (4, 8) }, 0, 4, 8, by decide +kernel⟩,
   ⟨wSlave 0, 0, 4, 0, 6553600, 13107200, 19660800, by decide +kernel⟩,
   ⟨wSlave 1, 0, 4, 0, 6553600, 13107200, 19660800, by decide +kernel⟩,
   ⟨wUp, by decide +kernel⟩,
   ⟨wUp, 0, wAnn, by decide +kernel⟩,
   ⟨wSync 2 { TimPort.reset with ann := some wAnn }, 0, by decide +kernel⟩,
   ⟨wSlave 0, by decide +kernel⟩⟩

/-- The hypotheses of Obligations.SourceRows, clause by clause. -/
theorem witness_SourceRows :
    (∃ (s : State) (r : Req), s.ctl.posted = [] ∧ s.busOpen r = true ∧ r ≠ .smbus ∧ s.boot.pers ≠ 1 ∧ s.mayControl r = true ∧
    s.get F.TIM_CTRL_EXTSRC = 1) ∧
    (∃ (s : State) (r : Req), s.ctl.posted = [] ∧ s.busOpen r = true ∧ r ≠ .smbus ∧ s.boot.pers ≠ 1 ∧ s.mayControl r = true ∧
    s.get F.TIM_CTRL_EXTSRC = 0) ∧
    (∃ (s : State), s.up = true ∧ s.get F.TIM_CTRL_EXTSRC ≠ 2) ∧
    (∃ (s : State), s.up = true ∧ s.bit F.TIM_PPSINNS_VALID = true ∧ s.tim.srcLive = false) ∧
    (∃ (s : State), s.up = true ∧ s.tim.srcLive = true ∧ s.get F.TIM_CTRL_EXTSRC = 1) ∧
    (∃ (s : State) (r : Req) (v : Word), s.ctl.posted = [] ∧ s.busOpen r = true ∧ r ≠ .smbus ∧ s.boot.pers ≠ 1 ∧
    s.mayControl r = true ∧ bitsOf v 31 1 = 1 ∧ s.tim.self = true) ∧
    (∃ (s : State), s.busOpen .host = true ∧ s.boot.pers = 2 ∧ s.ctl.posted = [] ∧ s.bit F.GLB_SNAP_VIEW = false ∧
    s.heldHigh .host A.TIM_NOWNS = none) :=
  ⟨⟨wGm.put F.TIM_CTRL_EXTSRC 1, .host, by decide +kernel⟩,
   ⟨wGm, .host, by decide +kernel⟩,
   ⟨wGm, by decide +kernel⟩,
   ⟨wGm.put F.TIM_PPSINNS_VALID 1, by decide +kernel⟩,
   ⟨(wGm.put F.TIM_CTRL_EXTSRC 1).timM fun t => { t with srcLive := true }, by decide +kernel⟩,
   ⟨wGm, .host, 0x80000005, by decide +kernel⟩,
   ⟨{ wGm with clock := 1000000005 * nsUnit }, by decide +kernel⟩⟩

/-- The hypotheses of Obligations.PinAndProbeRows, clause by clause. -/
theorem witness_PinAndProbeRows :
    (∃ (s : State), s.up = true ∧ s.bit F.TIM_CTRL_PPSOUTEN = true ∧ s.tim.ppsSec ≤ s.sec) ∧
    (∃ (s : State) (c : HostCmd) (k : Nat), Takes s c timArmBits ∧ s.hostControls = true ∧ c.target.toNat = 0 ∧ k < 4 ∧
    k < s.tim.trigs.length ∧ opAt c 0x08 2 = 2 ^ k ∧ s.bit (F.TIM_TRIG_STAGED k) = false ∧ s.bit (F.TIM_TRIG_ARMED k) = false ∧
    10 ≤ opAt c 0x0C 4 ∧ opAt c 0x0C 4 ≤ 999999999 ∧ opAt c 0x1C 4 = 0 ∧
    s.now + 10000 ≤ opAt c 0x10 6 * 1000000000 + opAt c 0x18 4) ∧
    (∃ (s : State) (k : Nat) (x : Trig), s.up = true ∧ k < 4 ∧ k < s.tim.trigs.length ∧ s.trig k = some x ∧ x.next ≤ s.now ∧
    x.period = 0 ∧ x.late = false) ∧
    (∃ (s : State) (r : Req) (v : Word) (p : Nat) (c : TunCtx), s.ctl.posted = [] ∧ s.busOpen r = true ∧ r ≠ .smbus ∧
    s.boot.pers ≠ 1 ∧ s.mayControl r = true ∧ bitsOf v 31 1 = 1 ∧ s.timeEnd (bitsOf v 0 12) = some c ∧ s.tim.probe = none ∧
    c.par.typ = 7 ∧ OpenWay s c 16 p) ∧
    (∃ (s : State) (tid p : Nat) (bytes : List (BitVec 8)) (c : TunCtx), s.up = true ∧ s.timeEnd tid = some c ∧
    byteAt bytes 0 = 3 ∧ bytes.length = 16 ∧ c.par.typ = 7 ∧ OpenWay s c 40 p) ∧
    (∃ (s : State) (tid seq : Nat) (t1 : Int) (bytes : List (BitVec 8)) (c : TunCtx), s.up = true ∧ s.timeEnd tid = some c ∧
    byteAt bytes 0 = 4 ∧ s.tim.probe = some (c.par.tid, seq, t1) ∧ leNat (slice bytes 2 2) = seq) :=
  ⟨⟨wGm.put F.TIM_CTRL_PPSOUTEN 1, by decide +kernel⟩,
   ⟨wHost, wCmd 0 (resultOf [(0x08, 4), (0x0C, 50), (0x10, 9)]).toNat, 2, by decide +kernel⟩,
   ⟨(wHost.setTrig 1 (some wTrig)), 1, wTrig, by decide +kernel⟩,
   ⟨wProbe none, .host, 0x80000009, 0, wTimeEnd, by decide +kernel⟩,
   ⟨wProbe none, 9, 0, [3, 1, 1, 0] ++ ts12 0, wTimeEnd, by decide +kernel⟩,
   ⟨wProbe (some (9, 1, 0)), 9, 1, 0, wReply, wTimeEnd, by decide +kernel⟩⟩

/-- The hypotheses of Obligations.EthernetNicRows, clause by clause. -/
theorem witness_EthernetNicRows :
    (∃ (s : State) (n p : Nat) (bytes : List (BitVec 8)) (c : TunCtx), s.serdesUp = true ∧ n < 2 ∧ s.isHost = false ∧
    s.get (F.ETH_CTRL_MODE n) ≠ 0 ∧ s.bit (F.ETH_STAT_LINK n) = true ∧ 64 ≤ bytes.length ∧ bytes.length ≤ 9216 ∧
    fcsOk bytes = true ∧ be16 bytes 12 ≠ 0x8808 ∧ s.macHeld n + bytes.length ≤ 131072 ∧ ptpOff bytes = none ∧
    s.bit (F.ETH_CTRL_PAUSETX n) = false ∧ (s.mac n).asked = false ∧ c.ep = 0x4000 + n ∧ c.par.typ = 5 ∧
    OpenWay s c bytes.length p) ∧
    (∃ (s : State) (n : Nat) (x : MacTx) (rest : List MacTx), s.serdesUp = true ∧ n < s.macs.length ∧ s.isHost = false ∧
    (s.mac n).tx = x :: rest ∧ s.get (F.ETH_CTRL_MODE n) ≠ 0 ∧ s.bit (F.ETH_STAT_LINK n) = true ∧
    (s.mac n).pauseEnd ≤ s.uptime ∧ x.time = false ∧ x.yel = false ∧ x.tsid = none) ∧
    (∃ (s : State) (n speed : Nat), s.serdesUp = true ∧ n < 2 ∧ s.isHost = false ∧ s.get (F.ETH_CTRL_MODE n) ≠ 0 ∧
    s.bit (F.ETH_STAT_LINK n) = false ∧ speed ∈ modeSpeeds (s.get (F.ETH_CTRL_MODE n))) ∧
    (∃ (s : State) (r : Req) (n id : Nat) (st : Int) (rest : List (Nat × Int)), s.serdesUp = true ∧ s.isHost = false ∧
    s.busOpen r = true ∧ r ≠ .smbus ∧ s.boot.pers ≠ 1 ∧ s.ctl.posted = [] ∧ s.bit F.GLB_SNAP_VIEW = false ∧ n < 2 ∧
    n < s.macs.length ∧ (s.mac n).glints = (id, st) :: rest ∧ rest.length < 64) ∧
    (∃ (s : State) (r : Req) (v : Word), s.serdesUp = true ∧ s.ctl.posted = [] ∧ s.isHost = false ∧ s.busOpen r = true ∧
    r ≠ .smbus ∧ s.boot.pers ≠ 1 ∧ s.mayControl r = true ∧ bitsOf v 31 1 = 1 ∧ bitsOf v 26 1 = 1 ∧ s.bit F.ETH_MDIO_BUSY = false) ∧
    (∃ (s : State) (data : Nat), s.serdesUp = true ∧ s.bit F.ETH_MDIO_BUSY = true ∧ 2 ≤ s.get F.ETH_MDIO_OP ∧ data < 65536) ∧
    (∃ (s : State) (r : EvRec) (f : Nat), s.up = true ∧ s.isHost = true ∧ f < 2 ∧ s.nics.length = 2 ∧
    s.openEnd (0x5001 + f) 5 = true ∧ (r.evnum = 432 ∨ r.evnum = 448) ∧
    (s.ethTid (0x5001 + f)).1 = byteAt r.data 0 + 256 * byteAt r.data 1 ∧ (f = 0 ∨ (s.ethTid 0x5001).1 ≠ (s.ethTid 0x5002).1)) ∧
    (∃ (s : State) (f q : Nat) (tx : Bool) (v : Word), s.serdesUp = true ∧ f < 2 ∧ q < 16 ∧ s.fnOpen = true ∧ 4 ≤ bitsOf v 8 5 ∧
    bitsOf v 8 5 ≤ 16 ∧ bitsOf v 0 1 = 1 ∧ s.get (nicFld f tx q 8 0 1) = 0) ∧
    (∃ (s : State) (f q : Nat) (v : Word), s.serdesUp = true ∧ f < 2 ∧ q < 16 ∧ s.fnOpen = true ∧
    s.get (nicFld f true q 8 0 1) = 1 ∧ bitsOf v 16 16 = 0 ∧
    idxDiff (bitsOf v 0 16) (s.get (nicFld f true q 0x10 0 16)) ≤ s.nicCap f true q ∧ (∀ c ∈ s.tun.ctxs, c.waiting = [])) ∧
    (∃ (s : State) (f q p : Nat) (d : NicTx) (c : TunCtx), s.serdesUp = true ∧ f < 2 ∧ q < 16 ∧ s.isHost = true ∧
    s.bit (F.NIC_CTRL_EN f) = true ∧ s.get (nicFld f true q 8 0 1) = 1 ∧
    idxDiff (s.get (nicFld f true q 0x10 16 16)) (s.get (nicFld f true q 0x10 0 16)) ≠ 0 ∧ 60 ≤ d.len ∧ d.len ≤ 9212 ∧
    d.tsreq = false ∧ ptpOff (NicTx.frame d ++ fcsOf (NicTx.frame d)) = none ∧ c.ep = 0x5001 + f ∧ c.par.typ = 5 ∧
    OpenWay s c (d.len + 4) p) :=
  ⟨⟨wEth MacSt.reset, 0, 0, wEthFrame, wEthEnd 5, by decide +kernel⟩,
   ⟨wEth { MacSt.reset with tx := [wMacTx] }, 0, wMacTx, [], by decide +kernel⟩,
   ⟨(wEth MacSt.reset).put (F.ETH_STAT_LINK 0) 0, 0, 5, by decide +kernel⟩,
   ⟨wEth { MacSt.reset with glints := [(4, 6553600)] }, .hewer 0, 0, 4, 6553600, [], by decide +kernel⟩,
   ⟨wEth MacSt.reset, .hewer 0, 0x84000005, by decide +kernel⟩,
   ⟨((wEth MacSt.reset).put F.ETH_MDIO_BUSY 1).put F.ETH_MDIO_OP 2, 0x1234, by decide +kernel⟩,
   ⟨wNic, { wRec with evnum := 432, data := [9, 0, 5, 0, 0, 0, 0, 0, 0, 0, 0, 0] }, 0, by decide +kernel⟩,
   ⟨wHost, 1, 3, false, 0x401, by decide +kernel⟩,
   ⟨wNic, 0, 2, 2, by decide +kernel⟩,
   ⟨wNic, 0, 2, 0, { desc := BitVec.ofNat 256 (60 * 2 ^ 64), bytes := wBody }, wCtx 0 1 (wPar 9 5 5 1 5 0x5001 0x4000),
     by decide +kernel⟩⟩

/-- The hypotheses of Obligations.CartCoordinatorRows, clause by clause. -/
theorem witness_CartCoordinatorRows :
    (∃ (s : State) (id : Nat) (c : CartCo), s.up = true ∧ s.dutyRuns 3 = true ∧ s.crt.cos = [c] ∧ s.crt.loop = [] ∧
    s.tun.loop = [] ∧ c.id = id ∧ s.isOwner = true ∧ s.fid ∉ c.parts ∧ c.sent = false ∧ c.dec = 0 ∧ c.t ≤ s.now + 1000000 ∧
    (∀ e ∈ c.acts, e.1 ≠ s.fid)) ∧
    (∃ (s : State) (id src : Nat) (c : CartCo), s.up = true ∧ s.crt.cos = [c] ∧ s.crt.loop = [] ∧ s.tun.loop = [] ∧ c.id = id ∧
    s.isOwner = true ∧ s.fid ∉ c.parts ∧ c.dec = 0 ∧ src ∈ c.parts ∧ src ∉ c.votes ∧ c.votes.length + 1 = c.parts.length ∧
    c.dones = []) ∧
    (∃ (s : State) (id : Nat) (c : CartCo), s.up = true ∧ s.crt.cos = [c] ∧ s.crt.loop = [] ∧ s.tun.loop = [] ∧ c.id = id ∧
    s.isOwner = true ∧ s.fid ∉ c.parts ∧ c.dec = 0 ∧ c.t ≤ s.now + 15000 ∧ c.dones = [] ∧ c.parts ≠ []) ∧
    (∃ (s : State) (id : Nat) (c : CartCo), s.up = true ∧ s.dutyRuns 3 = true ∧ s.crt.cos = [c] ∧ s.crt.loop = [] ∧
    s.tun.loop = [] ∧ c.id = id ∧ s.isOwner = true ∧ s.fid ∉ c.parts ∧ c.dec = 1 ∧ c.dones = []) ∧
    (∃ (s : State) (id src out : Nat) (c : CartCo), s.up = true ∧ s.crt.cos = [c] ∧ s.crt.loop = [] ∧ s.tun.loop = [] ∧
    c.id = id ∧ s.isOwner = true ∧ s.fid ∉ c.parts ∧ c.dec = 1 ∧ c.dones = [] ∧ src ∈ c.parts ∧ c.parts.length = 2 ∧
    c.parts.Nodup ∧ out ≠ 3) ∧
    (∃ (s : State) (id : Nat) (c : CartCo) (k : InFlight), s.up = true ∧ s.crt.cos = [c] ∧ s.crt.loop = [] ∧ s.tun.loop = [] ∧
    c.id = id ∧ s.isOwner = true ∧ s.fid ∉ c.parts ∧ c.dec = 1 ∧ c.ticket = some k ∧ c.dones = [] ∧ c.parts ≠ [] ∧ c.acts = [] ∧
    c.t + 10000000 ≤ s.now ∧ s.tun.next = []) ∧
    (∃ (s : State) (c : CartSlot), s.up = true ∧ s.crt.slots = [c] ∧ Quiet s ∧ c.coord ≠ s.fid ∧ c.out = 0 ∧ c.early = []) ∧
    (∃ (s : State) (c : CartSlot), s.up = true ∧ s.dutyRuns 3 = true ∧ s.crt.slots = [c] ∧ Quiet s ∧ c.coord ≠ s.fid ∧
    s.now ≤ c.t + 1000000 ∧ (∀ q ∈ c.seqs, q.fid ≠ s.fid)) ∧
    (∃ (s : State) (c : CartSlot), s.up = true ∧ s.crt.slots = [c] ∧ Quiet s ∧ c.coord ≠ s.fid ∧ c.wait ≠ [] ∧ c.out ≠ 0 ∧
    c.t + 10000000 ≤ s.now) ∧
    (∃ (s : State) (c : HostCmd) (ws : List (BitVec 256)), Takes s c cartBits ∧ s.hostControls = true ∧ c.target = 0 ∧
    opAt c 0x0A 1 = 0 ∧ opAt c 0x0C 2 = ws.length ∧ ws ≠ [] ∧ ws.length ≤ 256 ∧ opAt c 0x10 8 % 32 = 0 ∧
    s.cartCheck (opAt c 0x08 2) ws = none ∧ ((ws.all fun w => (readAct w).typ != 2) = true)) ∧
    (∃ (s : State) (c : HostCmd) (x : CartSlot), Takes s c cartQueryBits ∧ c.target.toNat = 0 ∧ opAt c 0x0A 1 ≠ 0 ∧
    s.cslot (opAt c 0x0A 1) (opAt c 0x08 2) = some x) ∧
    (∃ (s : State) (c : HostCmd) (x : CartCo), Takes s c [(0x08, 0, 16)] ∧ s.hostControls = true ∧ s.crt.cos = [x] ∧
    s.crt.loop = [] ∧ s.tun.loop = [] ∧ opAt c 0x08 2 = x.id ∧ x.dec = 0 ∧ x.dones = [] ∧ x.parts ≠ [] ∧ s.fid ∉ x.parts) :=
  ⟨⟨wCo 8500000 (wCart 9 []), 3, wCart 9 [], by decide +kernel⟩,
   ⟨wCo 8500000 (wCart 0 [6]), 3, 7, wCart 0 [6], by decide +kernel⟩,
   ⟨wCo 8990000 (wCart 0 [6]), 3, wCart 0 [6], by decide +kernel⟩,
   ⟨wCo 8990000 (wCart 1 [6, 7]), 3, wCart 1 [6, 7], by decide +kernel⟩,
   ⟨wCo 8990000 (wCart 1 [6, 7]), 3, 6, 1, wCart 1 [6, 7], by decide +kernel⟩,
   ⟨wCo 19000000 { wCart 1 [6, 7] with acts := [] }, 3, { wCart 1 [6, 7] with acts := [] }, wTicket, by decide +kernel⟩,
   ⟨wPart 0 (wSlot 2 []), wSlot 2 [], by decide +kernel⟩,
   ⟨wPart 9100000 { wSlot 3 [] with seqs := [{ fid := 6, tid := 9, endB := true, rx := 2, tx := 3 }] },
     { wSlot 3 [] with seqs := [{ fid := 6, tid := 9, endB := true, rx := 2, tx := 3 }] }, by decide +kernel⟩,
   ⟨wPart 19000000 { wSlot 3 [] with out := 1, wait := [9] }, { wSlot 3 [] with out := 1, wait := [9] }, by decide +kernel⟩,
   ⟨wMap [], wCmd 0 (resultOf [(0x08, 3), (0x0C, 1)]).toNat, [wActWord], by decide +kernel⟩,
   ⟨wHost.crtM (fun x => { x with slots := [wSlot 2 []] }), wCmd 0 (3 + 5 * 65536), wSlot 2 [], by decide +kernel⟩,
   ⟨wCo 0 (wCart 0 []), wCmd 0 3, wCart 0 [], by decide +kernel⟩⟩

/-- The hypotheses of Obligations.ParticipantRows, clause by clause. -/
theorem witness_ParticipantRows :
    (∃ (s : State) (coord tt st : Nat) (a : CartAct), s.up = true ∧ s.get F.PWR_STAT_CUR ≠ 4 ∧ s.crt.slots = [] ∧ Quiet s ∧
    coord ≠ s.fid ∧ a.kind = .power st ∧ s.now < tt) ∧
    (∃ (s : State) (c : CartSlot), s.up = true ∧ s.crt.slots = [c] ∧ Quiet s ∧ c.coord ≠ s.fid ∧ c.st = 1 ∧ c.quies = [] ∧
    s.now < c.t) ∧
    (∃ (s : State) (c : CartSlot) (a : CartAct) (x : TunCtx), s.up = true ∧ s.crt.slots = [c] ∧ Quiet s ∧ c.coord ≠ s.fid ∧
    c.st = 1 ∧ c.acts = [a] ∧ a.kind = .close x.par.tid true ∧ c.quies = [x.par.tid] ∧ c.made = [] ∧ s.tun.ctxs = [x] ∧
    x.isEnd = true ∧ x.state = 3 ∧ x.paused = 0 ∧ x.held = [] ∧ x.copies ≠ [] ∧ x.local_ = false ∧
    (s.egressOf x).isSome = true ∧ c.t ≤ s.now + 20000) ∧
    (∃ (s : State) (c : CartSlot), s.up = true ∧ s.crt.slots = [c] ∧ Quiet s ∧ c.coord ≠ s.fid ∧ c.st = 2 ∧ c.out = 0 ∧
    c.relayed = false ∧ s.now < c.t) ∧
    (∃ (s : State) (c : CartSlot), s.up = true ∧ s.crt.slots = [c] ∧ Quiet s ∧ c.coord ≠ s.fid ∧ c.st = 2 ∧ c.out = 0 ∧
    c.made = [] ∧ c.quies = []) ∧
    (∃ (s : State) (c : CartSlot) (a : CartAct) (k w wd p : Nat), s.up = true ∧ s.crt.slots = [c] ∧ Quiet s ∧ c.coord ≠ s.fid ∧
    c.st = 3 ∧ c.out = 0 ∧ c.resv = [] ∧ c.wait = [] ∧ c.acts = [a] ∧ k < 4 ∧ k < s.tim.trigs.length ∧
    a.kind = .trig (2 ^ k) w wd p ∧ c.t ≤ s.now) ∧
    (∃ (s : State) (c : CartSlot), s.up = true ∧ s.crt.slots = [c] ∧ Quiet s ∧ c.coord ≠ s.fid ∧ c.st = 2 ∧ c.t ≤ s.now ∧
    s.now < c.t + 1000000) ∧
    (∃ (s : State) (c : CartSlot), s.up = true ∧ s.dutyRuns 3 = true ∧ s.crt.slots = [c] ∧ Quiet s ∧ c.coord ≠ s.fid ∧ c.st = 4 ∧
    s.now < c.t + 1000000) ∧
    (∃ (s : State) (src : Nat) (c : CartSlot), s.up = true ∧ s.crt.slots = [c] ∧ Quiet s ∧ c.coord ≠ s.fid ∧ c.dec = 0 ∧
    src ≠ s.fid) ∧
    (∃ (s : State) (c : CartSlot), s.up = true ∧ s.crt.slots = [c] ∧ Quiet s ∧ c.coord ≠ s.fid ∧ c.st = 4 ∧ c.answers = [] ∧
    c.made = [] ∧ c.quies = []) ∧
    (∃ (s : State) (c : CartSlot), s.up = true ∧ s.crt.slots = [c] ∧ Quiet s ∧ c.coord ≠ s.fid ∧ c.st = 4 ∧
    c.t + 10000000 ≤ s.now) ∧
    (∃ (s : State) (c : CartSlot), s.up = true ∧ s.crt.slots = [c] ∧ Quiet s ∧ c.coord ≠ s.fid ∧ c.st = 5) ∧
    (∃ (s : State) (c : CartSlot), s.up = true ∧ s.crt.slots = [c] ∧ Quiet s ∧ c.coord ≠ s.fid ∧ c.acked = true) :=
  ⟨⟨wUp, 5, 9000000, 1, wAct (.power 1), by decide +kernel⟩,
   ⟨wPart 0 (wSlot 1 []), wSlot 1 [], by decide +kernel⟩,
   ⟨(wPart 8990000 wDrainSlot).tunM fun t => { t with ctxs := [wQuies] }, wDrainSlot, { wAct (.close 9 true) with idx := 4 },
     wQuies, by decide +kernel⟩,
   ⟨wPart 0 (wSlot 2 []), wSlot 2 [], by decide +kernel⟩,
   ⟨wPart 0 (wSlot 2 []), wSlot 2 [], by decide +kernel⟩,
   ⟨wPart 9000000 (wSlot 3 [wAct (.trig 2 9500000 100 0)]), wSlot 3 [wAct (.trig 2 9500000 100 0)], wAct (.trig 2 9500000 100
     0), 1, 9500000, 100, 0, by decide +kernel⟩,
   ⟨wPart 9000000 (wSlot 2 []), wSlot 2 [], by decide +kernel⟩,
   ⟨wPart 9000000 (wSlot 4 []), wSlot 4 [], by decide +kernel⟩,
   ⟨wPart 0 (wSlot 2 []), 6, wSlot 2 [], by decide +kernel⟩,
   ⟨wPart 9500000 (wSlot 4 []), wSlot 4 [], by decide +kernel⟩,
   ⟨wPart 19500000 (wSlot 4 []), wSlot 4 [], by decide +kernel⟩,
   ⟨wPart 0 (wSlot 5 []), wSlot 5 [], by decide +kernel⟩,
   ⟨wPart 0 { wSlot 5 [] with acked := true }, { wSlot 5 [] with acked := true }, by decide +kernel⟩⟩

/-- The hypotheses of Obligations.HelloRows, clause by clause. -/
theorem witness_HelloRows :
    (∃ (s : State) (p : Nat), s.up = true ∧ s.dutyRuns 4 = true ∧ s.lit p = true) ∧
    (∃ (s : State) (p : Nat), s.up = true ∧ s.portUp p = true ∧ (s.port p).met = true) ∧
    (∃ (s : State) (p : Nat), s.up = true ∧ s.portUp p = true ∧ s.entriesOn p = [] ∧ s.tun.ctxs = [] ∧ (s.sch p).queue = [] ∧
    p < s.ports.length) ∧
    (∃ (s : State), s.up = true ∧ s.dutyRuns 4 = true ∧
    (buildGraph (s.fabM fun f =>
      { f with recs := putBy (fun h => h.r.uid == ({ s.ownRec with seq := (s.fab.seq + 1) % 65536 }).uid) { r := { s.ownRec with seq := (s.fab.seq + 1) % 65536 }, at_ := s.uptime } f.recs }).recs
      s.uid = s.fab.live)) ∧
    (∃ (s : State) (p : Nat) (r : Rec), s.up = true ∧ s.lit p = true ∧ r.uid ≠ s.uid ∧
    ((s.recs.find? fun h => h.uid == r.uid) = none) ∧
    (buildGraph (s.fabM fun f => { f with recs := putBy (fun h => h.r.uid == (r).uid) { r := r, at_ := s.uptime } f.recs }).recs
      s.uid = s.fab.live) ∧
    s.fid = 0 ∧ s.get F.GLB_OWNER_STATE ≠ 3 ∧ s.tun.loop = []) ∧
    (∃ (s : State) (r h : Rec), s.up = true ∧ r.uid ≠ s.uid ∧ ((s.recs.find? fun h => h.uid == r.uid) = some h) ∧
    h.rstCnt = r.rstCnt ∧ h.seq = r.seq) ∧
    (∃ (s : State) (uid : Nat) (r : Rec), s.up = true ∧ ((s.recs.find? fun h => h.uid == uid) = some r) ∧ uid ≠ s.uid ∧
    s.fab.live.nodes = [] ∧ ((s.fab.recs.any fun h => h.r.uid == uid && !(s.due (some h.at_) 3000000000)) = false) ∧
    (buildGraph (s.fabM fun f => { f with recs := f.recs.filter fun h => h.r.uid != uid }).recs s.uid = s.fab.live) ∧ s.fid = 0) ∧
    (∃ (s : State) (uid : Nat) (r : Rec) (b : Binding), s.up = true ∧ s.dutyRuns 4 = true ∧ s.get F.GLB_OWNER_STATE = 3 ∧
    uid ≠ s.uid ∧ r.uid = uid ∧ ((s.recs.find? fun h => h.uid == uid) = some r) ∧
    ((s.tun.binds.find? fun x => x.uid == uid) = some b) ∧ r.quar = true ∧ ((s.fab.tries.find? fun e => e.1 == uid) = none)) ∧
    (∃ (s : State) (p : Nat) (a : Assign), s.up = true ∧ s.lit p = true ∧ s.quarantined = false ∧
    s.fab.relayed.contains (a.uid, a.gen, a.try_) = false ∧ a.uid ≠ s.uid) ∧
    (∃ (s : State) (p : Nat) (a : Assign), s.up = true ∧ s.lit p = true ∧ s.fab.relayed.contains (a.uid, a.gen, a.try_) = false ∧
    a.uid = s.uid ∧ a.fid = 0 ∧ s.fid = 0 ∧ s.get F.FAB_ID_STATE = 0 ∧ s.get F.GLB_OWNER_STATE = 1 ∧ a.owner = s.ownerFid ∧
    a.gen = s.get F.GLB_OWNER_GEN ∧ s.tun.ctxs = []) :=
  ⟨⟨wUp, 0, by decide +kernel⟩,
   ⟨wUp.portM 0 fun x => { x with met := true }, 0, by decide +kernel⟩,
   ⟨wUp.put (F.FAB_RT_PRIV 5) 0, 0, by decide +kernel⟩,
   ⟨wUp.fabM fun f => { f with live := { nodes := [1], links := [] } }, by decide +kernel⟩,
   ⟨(wUp.put F.FAB_ID_FID 0).put F.GLB_OWNER_STATE 0, 0, wRecord 6 0, by decide +kernel⟩,
   ⟨wGraph, wRecord 6 0, wRecord 6 0, by decide +kernel⟩,
   ⟨{ wGraph.put F.FAB_ID_FID 0 with uptime := 5000000000, fab := { wGraph.fab with live := { nodes := [], links := [] } } }, 6,
     wRecord 6 0, by decide +kernel⟩,
   ⟨wBound, 6, { wRecord 6 0 with quar := true }, { uid := 6, fid := 6, unbind := false }, by decide +kernel⟩,
   ⟨wUp, 0, { uid := 99, fid := 4, owner := 1, gen := 0, try_ := 0, bound := false }, by decide +kernel⟩,
   ⟨((wUp.put F.FAB_ID_FID 0).put F.GLB_OWNER_STATE 1).put F.FAB_ID_STATE 0, 0,
     { uid := State.reset.uid, fid := 0, owner := 1, gen := 0, try_ := 0, bound := false }, by decide +kernel⟩⟩

/-- The hypotheses of Obligations.FidFabricRows, clause by clause. -/
theorem witness_FidFabricRows :
    (∃ (s : State), s.up = true ∧ s.dutyRuns 4 = true ∧ s.fab.firstLit = true ∧ s.isHost = true ∧ s.fid = 0 ∧
    s.get F.FAB_ID_STATE = 0 ∧ s.get F.GLB_OWNER_STATE = 0 ∧ s.freeFid s.uid ≠ 0 ∧ s.tun.ctxs = []) ∧
    (∃ (s : State), s.up = true ∧ s.fab.firstLit = true ∧ s.fid = 0 ∧ s.get F.FAB_ID_STATE = 0 ∧ s.tun.ctxs = []) ∧
    (∃ (s : State), s.up = true ∧ s.dutyRuns 5 = true ∧ s.fab.tinst.isSome = true) ∧
    (∃ (s : State) (x : Nat), s.up = true ∧ s.fab.tinst = some x ∧ s.fab.computed = true ∧ x ≤ s.now ∧ s.tun.ctxs = [] ∧
    s.tun.loop = [] ∧ s.flt.opens = []) ∧
    (∃ (s : State) (q : QFrame), s.up = true ∧ s.fab.dropDue = true ∧ (s.sch 0).queue = [q] ∧ (s.sch 1).queue = [] ∧
    (s.sch 2).queue = [] ∧ 0 < s.schs.length ∧ q.queue = none ∧ q.from_ = none ∧ q.f.cls < 8 ∧ s.starved 0 q = true) ∧
    (∃ (s : State) (c : HostCmd), Takes s c [(0x08, 0, 64), (0x10, 0, 8), (0x11, 0, 1)] ∧ s.hostControls = true ∧ c.target = 0 ∧
    1 ≤ opAt c 0x10 1 ∧ opAt c 0x10 1 ≤ 62 ∧ opAt c 0x11 1 = 0 ∧
    ((s.tun.binds.any fun b => b.fid == opAt c 0x10 1 && b.uid != opAt c 0x08 8) = false) ∧
    ((s.recs.any fun r => r.fid == opAt c 0x10 1 && r.uid != opAt c 0x08 8 && configuredSrc r.src) = false) ∧
    ((s.recs.find? fun r => r.uid == opAt c 0x08 8) = none)) ∧
    (∃ (s : State) (c : HostCmd), Takes s c [(0x08, 0, 64), (0x10, 0, 8), (0x11, 0, 1)] ∧ s.hostControls = true ∧ c.target ≠ 0) ∧
    (∃ (s : State) (c : HostCmd), Takes s c fabRouteBits ∧ s.hostControls = true ∧ c.target.toNat = 0 ∧ 1 ≤ opAt c 0x08 1 % 64 ∧
    opAt c 0x08 1 % 64 ≤ 62 ∧ opAt c 0x09 1 % 4 = 0 ∧ s.tun.ctxs = []) ∧
    (∃ (s : State) (c : HostCmd), Takes s c fabTopoBits ∧ c.target.toNat = 0 ∧ opAt c 0x08 2 = 0) :=
  ⟨⟨wFresh, by decide +kernel⟩,
   ⟨wFresh, by decide +kernel⟩,
   ⟨wInst, by decide +kernel⟩,
   ⟨wInst, 0, by decide +kernel⟩,
   ⟨wStuck, wFabFrame, by decide +kernel⟩,
   ⟨wHost, wCmd 0 (resultOf [(0x08, 77), (0x10, 8)]).toNat, by decide +kernel⟩,
   ⟨wHost, wCmd 5 (resultOf [(0x08, 77), (0x10, 8)]).toNat, by decide +kernel⟩,
   ⟨wHost, wCmd 0 (resultOf [(0x08, 5), (0x0A, 0x5A)]).toNat, by decide +kernel⟩,
   ⟨wHost, wCmd 0 0, by decide +kernel⟩⟩

/-- The hypotheses of Obligations.HubAndPortRows, clause by clause. -/
theorem witness_HubAndPortRows :
    (∃ (s : State), s.up = true ∧ s.role = 1 ∧ s.get F.USB_STAT_USTATE ≠ 6 ∧ s.usbWant ≠ s.get F.USB_STAT_UPSRC ∧
    s.get F.USB_STAT_UPSRC ≠ 3) ∧
    (∃ (s : State), s.up = true ∧ s.get F.USB_STAT_USTATE = 6 ∧ s.usb.to_ = s.usbWant ∧ s.usb.to_ < 3) ∧
    (∃ (s : State), s.up = true ∧ s.usbOn = true ∧ 1 ≤ s.get F.USB_STAT_USTATE ∧ s.get F.USB_STAT_USTATE ≤ 5) ∧
    (∃ (s : State), s.up = true ∧ s.usbOn = true ∧ 1 ≤ s.get F.USB_STAT_USTATE ∧ s.get F.USB_STAT_USTATE ≤ 5) ∧
    (∃ (s : State) (b : Nat), s.up = true ∧ s.usbOn = true ∧ 1 ≤ s.get F.USB_STAT_USTATE ∧ s.get F.USB_STAT_USTATE ≤ 5 ∧
    s.usb.parts = [some b, none]) ∧
    (∃ (s : State), s.up = true ∧ 1 ≤ s.get F.USB_STAT_USTATE ∧ s.get F.USB_STAT_USTATE ≤ 4) ∧
    (∃ (s : State), s.up = true ∧ s.get F.USB_STAT_USTATE = 5 ∧ s.usb.prev < 8 ∧ s.bit F.USB_WAKE_PENDING = true ∧
    s.get F.USB_WAKE_REASON < 4) ∧
    (∃ (s : State), s.up = true ∧ s.get F.USB_STAT_USTATE = 5 ∧ s.bit F.USB_STAT_RWEN = true ∧ s.bit F.USB_WAKE_PENDING = true ∧
    s.usb.drive = false) ∧
    (∃ (s : State) (k : Nat), s.up = true ∧ s.role = 1 ∧ 1 ≤ k ∧ k ≤ 6 ∧ s.usbWakes k 2 = false) ∧
    (∃ (s : State) (k : Nat), s.up = true ∧ s.role = 1 ∧ 1 ≤ k ∧ k ≤ 6 ∧ k ≤ s.usb.devs.length ∧
    s.bit (F.USB_PORT_PWR k) = true ∧ s.usbWakes k 0 = false) ∧
    (∃ (s : State) (k : Nat), s.up = true ∧ s.role = 1 ∧ s.get F.USB_STAT_USTATE = 4 ∧ 1 ≤ k ∧ k ≤ 6 ∧
    s.usb.ocLow.getD (k - 1) false = false ∧ s.bit (F.USB_PORT_PWR k) = false ∧ s.usb.devs.getD (k - 1) none = none) ∧
    (∃ (s : State), s.up = true ∧ s.role = 1 ∧ s.get F.USB_STAT_USTATE = 4) ∧
    (∃ (s : State) (k : Nat), s.up = true ∧ s.role = 1 ∧ s.get F.USB_STAT_USTATE = 4 ∧ 1 ≤ k ∧ k ≤ 7 ∧
    s.bit F.USB_STAT_MTT = true ∧ k ≤ s.usb.tts.length ∧ (s.usb.tts.getD (k - 1) ([], [])).2.length < 4) ∧
    (∃ (s : State) (k : Nat), s.up = true ∧ s.role = 1 ∧ s.get F.USB_STAT_USTATE = 4 ∧ 1 ≤ k ∧ k ≤ 7 ∧
    s.bit F.USB_STAT_MTT = true ∧ 4 ≤ (s.usb.tts.getD (k - 1) ([], [])).2.length) ∧
    (∃ (s : State) (a : Nat), s.up = true ∧ s.usbAnswers 0 = true ∧ 1 ≤ a ∧ a ≤ 127) ∧
    (∃ (s : State) (dev : Nat), s.up = true ∧ dev < 2 ∧ s.usbAnswers dev = true) ∧
    (∃ (s : State) (k sel : Nat), s.up = true ∧ s.role = 1 ∧ s.get F.USB_STAT_USTATE = 4 ∧ 1 ≤ k ∧ k ≤ 7 ∧ 1 ≤ sel ∧ sel ≤ 5) ∧
    (∃ (s : State) (k : Nat), s.up = true ∧ s.role = 1 ∧ 1 ≤ k ∧ k ≤ 6 ∧ k ≤ s.usb.change.length ∧ s.bit (F.USB_PORT_OC k) = true) :=
  ⟨⟨(wUsb 4).put F.USB_CTRL_EN 0, by decide +kernel⟩,
   ⟨((wUsb 6).put F.USB_STAT_UPSRC 3).usbM fun u => { u with to_ := 0, cand := 0 }, by decide +kernel⟩,
   ⟨wSess 1 10, by decide +kernel⟩,
   ⟨wSess 1 10, by decide +kernel⟩,
   ⟨(wUsb 4).usbM fun u => { u with parts := [some 5, none] }, 5, by decide +kernel⟩,
   ⟨wUsb 4, by decide +kernel⟩,
   ⟨(((wUsb 5).put F.USB_WAKE_PENDING 1).put F.USB_WAKE_REASON 1).usbM fun u => { u with prev := 4, drive := true },
     by decide +kernel⟩,
   ⟨((wUsb 5).put F.USB_STAT_RWEN 1).put F.USB_WAKE_PENDING 1, by decide +kernel⟩,
   ⟨(wUsb 4).put (F.USB_PORT_PWR 2) 1, 2, by decide +kernel⟩,
   ⟨(wUsb 4).put (F.USB_PORT_PWR 2) 1, 2, by decide +kernel⟩,
   ⟨wUsb 4, 2, by decide +kernel⟩,
   ⟨wUsb 4, by decide +kernel⟩,
   ⟨(wUsb 4).put F.USB_STAT_MTT 1, 3, by decide +kernel⟩,
   ⟨((wUsb 4).put F.USB_STAT_MTT 1).usbM fun u => { u with tts := List.replicate 7 ([], [1, 2, 3, 4]) }, 3, by decide +kernel⟩,
   ⟨wUsb 2, 9, by decide +kernel⟩,
   ⟨wUsb 4, 0, by decide +kernel⟩,
   ⟨wUsb 4, 2, 4, by decide +kernel⟩,
   ⟨(wUsb 4).put (F.USB_PORT_OC 2) 1, 2, by decide +kernel⟩⟩

/-- The hypotheses of Obligations.YalcelFirmwareRows, clause by clause. -/
theorem witness_YalcelFirmwareRows :
    (∃ (s : State), s.up = true ∧ s.usbAnswers 1 = true) ∧
    (∃ (s : State) (a : Nat), s.up = true ∧ s.usbAnswers 1 = true ∧ s.romMode = false ∧ a % 4 = 0 ∧ a < 2 ^ 24) ∧
    (∃ (s : State) (a : Nat) (bytes : List (BitVec 8)), s.up = true ∧ s.usbAnswers 1 = true ∧ s.romMode = false ∧ a % 4 = 0 ∧
    a < 2 ^ 24 ∧ bytes.length = 4 ∧ s.get F.GLB_OWNER_STATE = 0) ∧
    (∃ (s : State) (v : Nat), s.up = true ∧ s.usbAnswers 1 = true ∧ s.romMode = false ∧ v ≤ 4 ∧ s.get F.GLB_OWNER_STATE = 0 ∧
    s.get F.PWR_STAT_CUR ≠ 4 ∧ s.boot.held = false ∧ s.get F.PWR_STAT_PHASE = 5) ∧
    (∃ (s : State), s.up = true ∧ s.usbAnswers 1 = true ∧ s.romMode = false ∧ s.get F.GLB_OWNER_STATE = 0) ∧
    (∃ (s : State), s.up = true ∧ s.usbAnswers 1 = true) ∧
    (∃ (s : State), s.up = true ∧ s.usbAnswers 1 = true) ∧
    (∃ (s : State) (len : Nat), s.up = true ∧ s.usbAnswers 1 = true ∧ s.romMode = true ∧ len ≤ 0x800000) ∧
    (∃ (s : State), s.up = true ∧ s.usbAnswers 1 = true ∧ s.romMode = true ∧ s.usb.dlData = [] ∧ s.usb.dlLen < 2 ^ 24) ∧
    (∃ (s : State) (len : Nat), s.up = true ∧ s.usbAnswers 1 = true ∧ s.romMode = false ∧ 1 ≤ len ∧ len ≤ s.slotRoom ∧
    len ≤ 0x2000000) ∧
    (∃ (s : State) (x : FwSession) (k : Nat) (bytes : List (BitVec 8)), s.up = true ∧ s.usbAnswers 1 = true ∧ s.romMode = false ∧
    s.usb.session = some x ∧ s.get F.USB_YALSTAT_FWSTATE = 1 ∧ (x.paged k).staged.length + bytes.length ≤ stagingBytes ∧
    x.img.length + bytes.length ≤ x.len ∧ s.bit F.USB_STAT_HS = false) ∧
    (∃ (s : State) (x : FwSession), s.up = true ∧ s.usbAnswers 1 = true ∧ s.romMode = false ∧ s.usb.session = some x ∧
    s.get F.USB_YALSTAT_FWSTATE = 1 ∧ s.bit F.USB_STAT_HS = true) ∧
    (∃ (s : State) (x : FwSession) (d : BootDir), s.up = true ∧ s.usb.session = some x ∧ s.boot.dir = some d ∧ x.unwritten ≠ [] ∧
    x.len ≤ x.img.length) ∧
    (∃ (s : State) (x : FwSession), s.up = true ∧ s.usbAnswers 1 = true ∧ s.romMode = false ∧ s.usb.session = some x ∧
    s.get F.USB_YALSTAT_FWSTATE = 1 ∧ x.len ≤ x.img.length) ∧
    (∃ (s : State) (x : FwSession), s.up = true ∧ s.usb.session = some x ∧ x.unwritten ≠ []) ∧
    (∃ (s : State) (x : FwSession) (d : BootDir), s.up = true ∧ s.usb.session = some x ∧ x.unwritten = [] ∧ s.boot.dir = some d ∧
    s.get F.USB_YALSTAT_FWSTATE = 2) ∧
    (∃ (s : State) (x : FwSession), s.up = true ∧ s.usb.session = some x ∧ x.unwritten = [] ∧ s.get F.USB_YALSTAT_FWSTATE = 2) :=
  ⟨⟨wYal, by decide +kernel⟩,
   ⟨wYal, 0x40, by decide +kernel⟩,
   ⟨wYal, A.FAB_CFG, [1, 0, 0, 0], by decide +kernel⟩,
   ⟨wYal.put F.PWR_STAT_PHASE 5, 2, by decide +kernel⟩,
   ⟨wYal, by decide +kernel⟩,
   ⟨wYal, by decide +kernel⟩,
   ⟨wYal, by decide +kernel⟩,
   ⟨wRom, 512, by decide +kernel⟩,
   ⟨wRom.usbM fun u => { u with dlLen := 512 }, by decide +kernel⟩,
   ⟨wYalDir, 1000, by decide +kernel⟩,
   ⟨wSess 1 10, wFw 10, 0, [5, 6], by decide +kernel⟩,
   ⟨(wSess 1 10).put F.USB_STAT_HS 1, wFw 10, by decide +kernel⟩,
   ⟨(wSess 1 2).bootM fun b => { b with dir := some wDir }, wFw 2, wDir, by decide +kernel⟩,
   ⟨wSess 1 2, wFw 2, by decide +kernel⟩,
   ⟨wSess 1 10, wFw 10, by decide +kernel⟩,
   ⟨(wSess 2 2).bootM fun b => { b with dir := some wDir }, { wFw 2 with sectors := 1 }, wDir, by decide +kernel⟩,
   ⟨wSess 2 2, { wFw 2 with sectors := 1 }, by decide +kernel⟩⟩

/-- The hypotheses of Obligations.PdAttachRows, clause by clause. -/
theorem witness_PdAttachRows :
    (∃ (s : State) (n sys : Nat), n < 3 ∧ n < s.pds.length ∧ s.role ≠ 1 ∧ s.get (F.PD_STAT_STATE n) = 1 ∧ s.pdRole n ≠ 1 ∧
    s.pdTries n false = false ∧ s.boot.portsOff = false ∧ s.bit (F.PD_MOIST_EN n) = false ∧ sys ≤ 1023) ∧
    (∃ (s : State) (n : Nat), n < 3 ∧ n < s.pds.length ∧ s.pdAttached n = true ∧ s.role ≠ 1 ∧
    s.bit (F.ADT_ALT_ENTERED n) = false ∧ s.bit (F.PD_CTRL_EN n) = true) ∧
    (∃ (s : State) (n : Nat), n < 3 ∧ n < s.pds.length ∧ s.get (F.PD_STAT_STATE n) = 1 ∧ s.pdRole n = 2 ∧ s.boot.portsOff = false) ∧
    (∃ (s : State) (n : Nat), n < 3 ∧ n < s.pds.length ∧ s.role ≠ 1 ∧ s.get (F.PD_STAT_STATE n) = 5 ∧
    s.bit (F.PD_CTRL_EN n) = true) ∧
    (∃ (s : State) (n z : Nat), n < 3 ∧ n < s.pds.length ∧ s.get (F.PD_STAT_STATE n) = 1 ∧ s.bit (F.PD_MOIST_EN n) = true ∧
    (s.pdp n).skip = false ∧ s.isWet n z = true ∧ s.boot.held = false) ∧
    (∃ (s : State) (n z : Nat), n < 3 ∧ n < s.pds.length ∧ s.get (F.PD_STAT_STATE n) = 4 ∧ s.bit (F.PD_MOIST_EN n) = true ∧
    (s.pdp n).skip = false ∧ s.isWet n z = false ∧ s.get (F.PD_MOIST_DRY n) = 2) ∧
    (∃ (s : State) (r : Req), s.busOpen r = true ∧ r ≠ .smbus ∧ s.boot.pers ≠ 1 ∧ s.mayControl r = true ∧
    s.bit F.GLB_STRAP_DBRD = true ∧ s.bit (F.PD_STAT_DBSINK 0) = true ∧ s.get (F.PD_STAT_STATE 0) ≠ 0 ∧ 0 < s.pds.length ∧
    s.get (F.PD_CTRL_HARDRST 0) = 0 ∧ (s.rd (A.PD_CTRL 0)) &&& 0xFFFF8000#32 = 0#32) :=
  ⟨⟨((wHost.put (F.PD_STAT_STATE 1) 1).put (F.PD_MOIST_EN 1) 0).put (F.PD_CTRL_PORTROLE 1) 0, 1, 80, by decide +kernel⟩,
   ⟨wPd 3 0 1, 1, by decide +kernel⟩,
   ⟨(wPd 1 0 1), 1, by decide +kernel⟩,
   ⟨(wPd 5 0 1), 1, by decide +kernel⟩,
   ⟨(wPd 1 0 1).put (F.PD_MOIST_EN 1) 1, 1, 1, by decide +kernel⟩,
   ⟨((wPd 4 0 1).put (F.PD_MOIST_EN 1) 1).put (F.PD_MOIST_DRY 1) 2, 1, 150, by decide +kernel⟩,
   ⟨(((wPd 3 0 1).put F.GLB_STRAP_DBRD 1).put (F.PD_STAT_DBSINK 0) 1).put (F.PD_STAT_STATE 0) 3, .host, by decide +kernel⟩⟩

/-- The hypotheses of Obligations.PdContractRows, clause by clause. -/
theorem witness_PdContractRows :
    (∃ (s : State) (r : Req) (n k : Nat), s.busOpen r = true ∧ r ≠ .smbus ∧ s.boot.pers ≠ 1 ∧ s.mayControl r = true ∧ n < 3 ∧
    n < s.pds.length ∧ k < 11 ∧ s.get (F.PD_STAT_CONTRACT n) = 0 ∧ (s.pdp n).step ≠ 4 ∧ (s.pdp n).step ≠ 5) ∧
    (∃ (s : State) (r : Req) (n k : Nat), s.busOpen r = true ∧ r ≠ .smbus ∧ s.boot.pers ≠ 1 ∧ s.mayControl r = true ∧ n < 3 ∧
    n < s.pds.length ∧ k < 11 ∧ ((s.pdp n).step = 4 ∨ (s.pdp n).step = 5)) ∧
    (∃ (s : State) (n : Nat) (k : CapsIn), n < 3 ∧ n < s.pds.length ∧ s.pdHears n = true ∧ s.bit (F.PD_STAT_PR n) = false ∧
    (k.epr = true → (s.pdp n).epr = true) ∧ (s.pdp n).step ≠ 5 ∧ s.usb.gone.contains n = false) ∧
    (∃ (s : State) (n pos cur : Nat), n < 3 ∧ n < s.pds.length ∧ s.pdHears n = true ∧ s.bit (F.PD_STAT_PR n) = true ∧
    (s.pdp n).step = 1 ∧ 1 ≤ pos ∧ (s.sourceCaps n (s.pdp n).epr).getD (pos - 1) 0 ≠ 0 ∧
    cur ≤ pdoCur ((s.sourceCaps n (s.pdp n).epr).getD (pos - 1) 0)) ∧
    (∃ (s : State) (n : Nat), n < 3 ∧ n < s.pds.length ∧ s.pdHears n = true ∧ s.bit (F.PD_STAT_PR n) = true ∧
    (s.pdp n).step = 1 ∧ (s.pdp n).dirty = false) ∧
    (∃ (s : State) (n : Nat) (o : PdOffer), n < 3 ∧ n < s.pds.length ∧ s.pdHears n = true ∧ (s.pdp n).step = 3 ∧
    (s.pdp n).offer = some o ∧ o.epr = false ∧ o.pos < 16 ∧ o.volt < 1024 ∧ o.cur < 1024) ∧
    (∃ (s : State) (n : Nat), n < 3 ∧ n < s.pds.length ∧ s.pdHears n = true ∧ s.bit (F.PD_STAT_PR n) = true ∧
    s.get (F.PD_STAT_CONTRACT n) ≠ 0 ∧ s.bit (F.PD_CTRL_EPREN n) = false) ∧
    (∃ (s : State) (n : Nat), n < 3 ∧ n < s.pds.length ∧ s.pdHears n = true) ∧
    (∃ (s : State) (n : Nat), n < 3 ∧ n < s.pds.length ∧ s.pdHears n = true) ∧
    (∃ (s : State) (n : Nat), n < 3 ∧ n < s.pds.length ∧ s.pdHears n = true ∧ 30 ≤ (s.pdp n).rev) ∧
    (∃ (s : State) (n : Nat), n < 3 ∧ n < s.pds.length ∧ s.pdHears n = true ∧ s.bit (F.PD_STAT_DR n) = true) ∧
    (∃ (s : State) (n vbus sys : Nat) (o : PdOffer), n < 3 ∧ n < s.pds.length ∧ s.pdHears n = true ∧ (s.pdp n).step = 2 ∧
    (s.pdp n).offer = some o ∧ within5 vbus o.volt = true ∧ within5 sys o.volt = true ∧ vbus ≤ 1023 ∧ sys ≤ 1023 ∧
    o.epr = false ∧ o.pos < 16 ∧ s.boot.portsOff = false ∧ (s.pdp n).disch = false ∧ (s.pdp n).gate = false) ∧
    (∃ (s : State) (n vbus sys : Nat) (o : PdOffer), n < 3 ∧ n < s.pds.length ∧ s.pdHears n = true ∧ (s.pdp n).step = 2 ∧
    (s.pdp n).offer = some o ∧ within5 vbus o.volt = false ∧ within5 sys o.volt = true ∧ vbus ≤ 1023 ∧ sys ≤ 1023 ∧
    s.boot.portsOff = false ∧ (s.pdp n).disch = false ∧ (s.pdp n).gate = false) ∧
    (∃ (s : State) (n : Nat), n < 3 ∧ n < s.pds.length ∧ s.pdHears n = true ∧ (s.pdp n).pps = true ∧
    s.get (F.PD_STAT_CONTRACT n) ≠ 0 ∧ (s.pdp n).step = 0) :=
  ⟨⟨wPd 3 0 0, .host, 1, 0, by decide +kernel⟩,
   ⟨wPd 3 5 0, .host, 1, 0, by decide +kernel⟩,
   ⟨wPd 3 0 0, 1, { epr := false, rev := 31 }, by decide +kernel⟩,
   ⟨((wPd 2 1 1).put (F.PD_STAT_PR 1) 1).wr (A.PD_SRCPDO 1 0) 0x0001912C, 1, 1, 100, by decide +kernel⟩,
   ⟨((wPd 2 1 1).put (F.PD_STAT_PR 1) 1).wr (A.PD_SRCPDO 1 0) 0x0001912C, 1, by decide +kernel⟩,
   ⟨(wPd 3 3 0).pdM 1 fun x => { x with offer := some wOffer }, 1, wOffer, by decide +kernel⟩,
   ⟨((wPd 2 0 1).put (F.PD_STAT_PR 1) 1).put (F.PD_STAT_CONTRACT 1) 1, 1, by decide +kernel⟩,
   ⟨wPd 3 0 0, 1, by decide +kernel⟩,
   ⟨wPd 3 0 0, 1, by decide +kernel⟩,
   ⟨wPd 3 0 0, 1, by decide +kernel⟩,
   ⟨(wPd 3 0 0).put (F.PD_STAT_DR 1) 1, 1, by decide +kernel⟩,
   ⟨((wPd 2 2 1).put (F.PD_STAT_PR 1) 1).pdM 1 fun x => { x with offer := some wOffer }, 1, 89, 89, wOffer, by decide +kernel⟩,
   ⟨((wPd 2 2 1).put (F.PD_STAT_PR 1) 1).pdM 1 fun x => { x with offer := some wOffer }, 1, 40, 89, wOffer, by decide +kernel⟩,
   ⟨((wPd 3 0 0).put (F.PD_STAT_CONTRACT 1) 1).pdM 1 fun x => { x with pps := true }, 1, by decide +kernel⟩⟩

/-- The hypotheses of Obligations.PdResetRows, clause by clause. -/
theorem witness_PdResetRows :
    (∃ (s : State) (n : Nat), n < 3 ∧ n < s.pds.length ∧ s.pdAttached n = true ∧ (s.pdp n).hard = 0 ∧ (s.pdp n).hrRow = 0 ∧
    s.role ≠ 1 ∧ s.bit (F.ADT_ALT_ENTERED n) = false) ∧
    (∃ (s : State) (n : Nat), n < 3 ∧ n < s.pds.length ∧ s.pdAttached n = true ∧ (s.pdp n).hard = 0 ∧ (s.pdp n).hrRow = 0 ∧
    s.role ≠ 1 ∧ s.bit (F.ADT_ALT_ENTERED n) = false ∧ (s.pdp n).step = 2) ∧
    (∃ (s : State) (r : Req) (n : Nat), s.busOpen r = true ∧ r ≠ .smbus ∧ s.boot.pers ≠ 1 ∧ s.mayControl r = true ∧ n < 3 ∧
    n < s.pds.length ∧ s.pdAttached n = true ∧ (s.pdp n).hard = 0 ∧ (s.pdp n).hrRow = 0 ∧ s.role ≠ 1 ∧
    s.bit (F.ADT_ALT_ENTERED n) = false ∧ s.bit (F.PD_CTRL_EN n) = true ∧ bitsOf (s.rd (A.PD_CTRL n)) 16 1 = 0) ∧
    (∃ (s : State) (n : Nat), n < 3 ∧ n < s.pds.length ∧ (s.pdp n).hard = 1 ∧ s.bit (F.PD_STAT_PR n) = true) ∧
    (∃ (s : State) (n vbus : Nat), n < 3 ∧ n < s.pds.length ∧ s.pdAttached n = true ∧ (s.pdp n).hard = 2 ∧ (s.pdp n).step = 6 ∧
    (s.pdp n).disch = true ∧ s.boot.portsOff = false ∧ s.bit (F.PD_STAT_PR n) = true ∧ vSafe0 vbus = true) ∧
    (∃ (s : State) (n : Nat), n < 3 ∧ n < s.pds.length ∧ (s.pdp n).hard = 3) ∧
    (∃ (s : State) (n : Nat) (received : Bool), n < 3 ∧ n < s.pds.length ∧ s.pdAttached n = true ∧ (s.pdp n).hard = 1 ∧
    (s.pdp n).hardRx = some (!received)) ∧
    (∃ (s : State) (n vbus isns : Nat), n < 3 ∧ n < s.pds.length ∧ s.pdAttached n = true ∧ (s.pdp n).hard = 0 ∧
    (s.pdp n).hrRow = 0 ∧ s.role ≠ 1 ∧ s.bit (F.ADT_ALT_ENTERED n) = false ∧ s.get (F.PD_STAT_CONTRACT n) = 0 ∧
    s.pdTripRow n vbus isns = some 1) ∧
    (∃ (s : State) (n : Nat), n < 3 ∧ n < s.pds.length ∧ s.pdHears n = true ∧ (s.pdp n).step = 0 ∧ s.pdAcked n = false ∧
    s.bit (F.PD_CTRL_ACCVC n) = true ∧ s.bit (F.PD_STAT_VCONN n) = true) ∧
    (∃ (s : State) (n : Nat), n < 3 ∧ n < s.pds.length ∧ s.pdHears n = true ∧ (s.pdp n).step = 0 ∧ s.pdAcked n = false ∧
    s.bit (F.PD_CTRL_ACCPR n) = false) ∧
    (∃ (s : State) (n : Nat), n < 3 ∧ n < s.pds.length ∧ s.pdHears n = true ∧ (s.pdp n).step = 4 ∧ (s.pdp n).swap < 4) ∧
    (∃ (s : State) (n : Nat), n < 3 ∧ n < s.pds.length ∧ s.pdHears n = true ∧ (s.pdp n).retry = 2 ∧ (s.pdp n).step = 0 ∧
    s.pdWants n = 2 ∧ s.pdAcked n = false) :=
  ⟨⟨wPd 3 0 0, 1, by decide +kernel⟩,
   ⟨wPd 2 2 1, 1, by decide +kernel⟩,
   ⟨wPd 3 0 0, .host, 1, by decide +kernel⟩,
   ⟨((wPd 2 6 1).put (F.PD_STAT_PR 1) 1).pdM 1 fun x => { x with hard := 1 }, 1, by decide +kernel⟩,
   ⟨((wPd 2 6 1).put (F.PD_STAT_PR 1) 1).pdM 1 fun x => { x with hard := 2, disch := true }, 1, 10, by decide +kernel⟩,
   ⟨(wPd 2 6 1).pdM 1 fun x => { x with hard := 3 }, 1, by decide +kernel⟩,
   ⟨(wPd 2 6 1).pdM 1 fun x => { x with hard := 1, hardRx := some false }, 1, true, by decide +kernel⟩,
   ⟨wPd 3 0 0, 1, 1000, 0, by decide +kernel⟩,
   ⟨((wPd 3 0 0).put (F.PD_CTRL_ACCVC 1) 1).put (F.PD_STAT_VCONN 1) 1, 1, by decide +kernel⟩,
   ⟨(wPd 3 0 0).put (F.PD_CTRL_ACCPR 1) 0, 1, by decide +kernel⟩,
   ⟨(wPd 3 4 0).pdM 1 fun x => { x with swap := 1 }, 1, by decide +kernel⟩,
   ⟨(((wPd 3 0 0).put (F.PD_CTRL_PREFDR 1) 1).put (F.PD_CTRL_PREFPR 1) 0).pdM 1 fun x => { x with retry := 2 }, 1,
     by decide +kernel⟩⟩

/-- The hypotheses of Obligations.PowerRequestRows, clause by clause. -/
theorem witness_PowerRequestRows :
    (∃ (s : State) (c : HostCmd), Takes s c pwrReqBits ∧ s.hostControls = true ∧ c.target.toNat = 0 ∧
    s.get F.PWR_STAT_CUR < opAt c 0x08 1 % 8 ∧ opAt c 0x08 1 % 8 ≤ 4 ∧ s.get F.PWR_STAT_CUR ≠ 4 ∧ s.get F.PWR_STAT_PHASE = 0 ∧
    s.boot.held = false ∧ s.bit F.PWR_STAT_PENDV = false ∧ s.precheck (opAt c 0x08 1 % 8) = 0 ∧ s.tun.next = []) ∧
    (∃ (s : State) (c : HostCmd), Takes s c pwrReqBits ∧ s.hostControls = true ∧ c.target.toNat = 0 ∧ 4 < opAt c 0x08 1 % 8) ∧
    (∃ (s : State), s.get F.PWR_STAT_PHASE = 1 ∧
    (((List.range 20).any fun n => s.hwState n == 1 && (s.dutyOf n).isSome && !(s.pwr.ready.contains n)) = false) ∧
    s.pwr.abort = false ∧ s.pwr.entry ≠ 1) ∧
    (∃ (s : State) (n : Nat), s.get F.PWR_STAT_PHASE = 1 ∧ 20 ≤ n ∧ n < 24 ∧ s.hwState n = 1) ∧
    (∃ (s : State) (busy : Bool), s.get F.PWR_STAT_PHASE = 2 ∧ s.get F.PWR_STAT_STEP < 8 ∧ s.pwr.abort = false ∧
    s.pwrAnswer (s.get F.PWR_STAT_STEP) s.pwr.entry busy = 0) ∧
    (∃ (s : State) (busy : Bool), s.get F.PWR_STAT_PHASE = 2 ∧ s.pwrAnswer (s.get F.PWR_STAT_STEP) s.pwr.entry busy = 2) ∧
    (∃ (s : State), s.get F.PWR_STAT_PHASE = 2 ∧ s.bit F.PWR_STAT_DEFER = true ∧ s.pwr.abort = false ∧ s.pwr.wake = false ∧
    s.bit F.PWR_STAT_PENDV = false ∧ s.get F.PWR_STAT_CUR < 3 ∧ s.get F.PWR_STAT_CUR ≠ 4 ∧ s.deepAsleep = false) ∧
    (∃ (s : State), s.get F.PWR_STAT_PHASE = 3 ∧ s.pwr.abort = false) ∧
    (∃ (s : State), s.boot.held = false ∧ s.get F.PWR_STAT_PHASE = 4 ∧ s.pwr.entry = 2 ∧ s.get F.PWR_STAT_TGT = 2 ∧
    s.pwr.wake = false ∧ s.bit F.PWR_STAT_PENDV = false) ∧
    (∃ (s : State), s.get F.PWR_STAT_PHASE = 4 ∧ s.pwr.entry = 4) :=
  ⟨⟨wHost, wCmd 0 1, by decide +kernel⟩,
   ⟨wHost, wCmd 0 5, by decide +kernel⟩,
   ⟨wPwr 1 0 2, by decide +kernel⟩,
   ⟨(wPwr 1 0 2).put (F.HWR_STAT_STATE 20) 1, 20, by decide +kernel⟩,
   ⟨wPwr 2 1 2, false, by decide +kernel⟩,
   ⟨wPwr 2 8 2, true, by decide +kernel⟩,
   ⟨(wPwr 2 8 2).put F.PWR_STAT_DEFER 1, by decide +kernel⟩,
   ⟨wPwr 3 0 2, by decide +kernel⟩,
   ⟨wPwr 4 0 2, by decide +kernel⟩,
   ⟨wPwr 4 0 4, by decide +kernel⟩⟩

/-- The hypotheses of Obligations.WakeRows, clause by clause. -/
theorem witness_WakeRows :
    (∃ (s : State) (j : Nat) (level : Bool), s.wakes j level = true ∧ s.boot.held = false ∧ 1 ≤ s.get F.PWR_STAT_CUR ∧
    s.get F.PWR_STAT_CUR ≤ 3 ∧ s.get F.PWR_STAT_PHASE = 0) ∧
    (∃ (s : State), s.get F.PWR_STAT_PHASE = 5 ∧ 1 ≤ s.get F.PWR_STAT_CUR ∧ s.get F.PWR_STAT_CUR ≤ 2 ∧ s.get F.PWR_STAT_TGT = 0 ∧
    s.pwr.wake = false ∧ s.bit F.PWR_STAT_PENDV = false ∧ s.tun.ctxs = [] ∧ s.commits = [] ∧ s.metHold = none ∧ s.pcx.hp = [] ∧
    ((s.schs.all fun c => c.staged.isNone && c.draining.isNone) = true)) ∧
    (∃ (s : State) (dom : Nat), s.up = true ∧ dom ∈ stopped (s.get F.PWR_STAT_CUR) ∧ dom ≠ 0 ∧ s.get F.PWR_STAT_PHASE ≠ 5 ∧
    s.pwr.woken / 2 ^ dom % 2 = 0) ∧
    (∃ (s : State) (dom : Nat), s.up = true ∧ s.pwr.woken / 2 ^ dom % 2 = 1 ∧
    s.due (assoc s.pwr.wokeAt dom) (1000 * s.domIdle) = true ∧ dom ∉ [10, 11]) ∧
    (∃ (s : State), s.up = true ∧ s.pwr.woken % 2 = 0 ∧ s.coreSoon = true ∧ s.get F.PWR_STAT_CUR = 1) ∧
    (∃ (s : State) (mv : Nat), s.up = true ∧ s.boot.thrift = false ∧ mv < s.warnLevel) ∧
    (∃ (s : State) (low : Nat), s.up = true ∧ s.boot.thrift = true ∧ low < 2 ^ 10) :=
  ⟨⟨((wPwr 0 0 0).put F.PWR_STAT_CUR 2).wr A.LANT_WAKESEL 1, 0, false, by decide +kernel⟩,
   ⟨(wPwr 5 0 0).put F.PWR_STAT_CUR 2, by decide +kernel⟩,
   ⟨(wPwr 0 0 0).put F.PWR_STAT_CUR 1, 10, by decide +kernel⟩,
   ⟨(wPwr 0 0 0).pwrM fun w => { w with woken := 2 }, 1, by decide +kernel⟩,
   ⟨(wPwr 0 0 0).put F.PWR_STAT_CUR 1, by decide +kernel⟩,
   ⟨wHost, 650, by decide +kernel⟩,
   ⟨wHost.bootM fun b => { b with thrift := true, penumbra := true }, 700, by decide +kernel⟩⟩

/-- The hypotheses of Obligations.HewerInstructionRows, clause by clause. -/
theorem witness_HewerInstructionRows :
    (∃ (s : State) (n rd : Nat), s.up = true ∧ n < 24 ∧ n < s.hew.cores.length ∧ s.hwState n = 1 ∧ 1 ≤ rd) ∧
    (∃ (s : State) (n rd : Nat), s.up = true ∧ n < 24 ∧ n < s.hew.cores.length ∧ s.hwState n = 1 ∧ 1 ≤ rd ∧
    0 < (s.core n).heldReads) ∧
    (∃ (s : State) (n rd : Nat), s.up = true ∧ n < 24 ∧ n < s.hew.cores.length ∧ s.hwState n = 1 ∧ 1 ≤ rd) ∧
    (∃ (s : State) (n : Nat), s.up = true ∧ n < 24 ∧ n < s.hew.cores.length ∧ s.hwState n = 1) ∧
    (∃ (s : State) (n rd d : Nat) (bytes : List (BitVec 8)), s.up = true ∧ n < 24 ∧ n < s.hew.cores.length ∧ s.hwState n = 1 ∧
    (s.core n).user = false ∧ 1 ≤ rd ∧ s.get (F.HWR_STAT_DUTY n) = d ∧ d < 18 ∧ d < s.hew.duties.length ∧ bytes.length ≤ 32768) ∧
    (∃ (s : State) (n d : Nat), s.up = true ∧ n < 24 ∧ n < s.hew.cores.length ∧ s.hwState n = 1 ∧ (s.core n).user = false ∧
    s.get (F.HWR_STAT_DUTY n) = d ∧ d < 18 ∧ d < s.hew.duties.length ∧
    (((s.duty d).journal.any fun j => j.num == (s.duty d).next) = false)) ∧
    (∃ (s : State) (n d : Nat), s.up = true ∧ n < 24 ∧ n < s.hew.cores.length ∧ s.hwState n = 1 ∧ (s.core n).user = false ∧
    s.get (F.HWR_STAT_DUTY n) = d ∧ d < 18 ∧ d < s.hew.duties.length ∧
    (((s.duty d).journal.any fun j => j.num == (s.duty d).next) = true)) ∧
    (∃ (s : State) (n ev : Nat), s.up = true ∧ n < 24 ∧ n < s.hew.cores.length ∧ s.hwState n = 1 ∧ (s.core n).user = false ∧
    ev < 512) ∧
    (∃ (s : State) (n rd : Nat) (mask pend : Word), s.up = true ∧ n < 24 ∧ n < s.hew.cores.length ∧ s.hwState n = 1 ∧
    (s.core n).user = false ∧ 1 ≤ rd ∧ mask &&& pend ≠ 0) ∧
    (∃ (s : State) (n : Nat) (mask pend : Word), s.up = true ∧ n < 24 ∧ n < s.hew.cores.length ∧ s.hwState n = 1 ∧
    (s.core n).user = false ∧ mask &&& pend = 0) ∧
    (∃ (s : State) (n v : Nat), s.up = true ∧ n < 24 ∧ n < s.hew.cores.length ∧ s.hwState n = 1 ∧ (s.core n).user = false ∧
    v < 8 ∧ s.get F.PWR_STAT_PHASE = 1 ∧ v = s.pwr.entry) ∧
    (∃ (s : State) (n : Nat), s.up = true ∧ n < 24 ∧ n < s.hew.cores.length ∧ s.hwState n = 1 ∧ (s.core n).user = false) ∧
    (∃ (s : State) (n : Nat), s.up = true ∧ n < 24 ∧ n < s.hew.cores.length ∧ s.hwState n = 1 ∧ (s.core n).user = true) :=
  ⟨⟨wHew, 3, 5, by decide +kernel⟩,
   ⟨wHew.coreM 3 fun h => { h with held := 7, heldReads := 2 }, 3, 5, by decide +kernel⟩,
   ⟨wHew, 3, 5, by decide +kernel⟩,
   ⟨wHew, 3, by decide +kernel⟩,
   ⟨wHew, 3, 5, 3, [1, 2], by decide +kernel⟩,
   ⟨wHew, 3, 3, by decide +kernel⟩,
   ⟨wHew.dutyM 3 fun y => { y with journal := [{ num := 1, code := 0, addr := 0 }] }, 3, 3, by decide +kernel⟩,
   ⟨wHew, 3, 9, by decide +kernel⟩,
   ⟨wHew, 3, 5, 3#32, 2#32, by decide +kernel⟩,
   ⟨wHew, 3, 1#32, 2#32, by decide +kernel⟩,
   ⟨(wHew.put F.PWR_STAT_PHASE 1).pwrM fun w => { w with entry := 2 }, 3, 2, by decide +kernel⟩,
   ⟨wHew, 3, by decide +kernel⟩,
   ⟨wUser, 20, by decide +kernel⟩⟩

/-- The hypotheses of Obligations.MonitorCallRows, clause by clause. -/
theorem witness_MonitorCallRows :
    (∃ (s : State) (n buf cap : Nat), s.up = true ∧ 20 ≤ n ∧ n < 24 ∧ n < s.hew.cores.length ∧ s.hwState n = 1 ∧
    (s.core n).wait = none ∧ s.bit (F.HWR_MBCTL_INFULL n) = true ∧ (s.core n).inbox.length ≤ cap ∧
    s.bufOk n buf (s.core n).inbox.length = true) ∧
    (∃ (s : State) (n buf : Nat), s.up = true ∧ 20 ≤ n ∧ n < 24 ∧ n < s.hew.cores.length ∧ s.hwState n = 1 ∧
    (s.core n).wait = none ∧ s.bufOk n buf 1 = true ∧ (s.core n).unread = false) ∧
    (∃ (s : State) (n ev : Nat), s.up = true ∧ 20 ≤ n ∧ n < 24 ∧ n < s.hew.cores.length ∧ s.hwState n = 1 ∧
    (s.core n).wait = none ∧ ev ≤ 511) ∧
    (∃ (s : State) (n buf : Nat) (r : EvRec) (rest : List EvRec), s.up = true ∧ 20 ≤ n ∧ n < 24 ∧ n < s.hew.cores.length ∧
    s.hwState n = 1 ∧ (s.core n).wait = none ∧ (s.core n).events = r :: rest ∧ s.bufOk n buf 32 = true) ∧
    (∃ (s : State) (n : Nat), s.up = true ∧ 20 ≤ n ∧ n < 24 ∧ n < s.hew.cores.length ∧ s.hwState n = 1 ∧ (s.core n).wait = none ∧
    (s.core n).events = []) ∧
    (∃ (s : State) (n mask : Nat), s.up = true ∧ 20 ≤ n ∧ n < 24 ∧ s.hew.cores.length = 24 ∧ s.hwState n = 1 ∧
    (s.core n).wait = none ∧ mask % 2 = 1 ∧ s.bit (F.HWR_MBCTL_INFULL n) = true) ∧
    (∃ (s : State) (n a : Nat), s.up = true ∧ 20 ≤ n ∧ n < 24 ∧ n < s.hew.cores.length ∧ s.hwState n = 1 ∧
    (s.core n).wait = none ∧ a % 4 = 0 ∧ a < 2 ^ 24 ∧ s.ctl.posted = []) ∧
    (∃ (s : State) (n buf cap m : Nat) (bytes : List (BitVec 8)) (w : Int) (rest : List (List (BitVec 8) × Int)), s.up = true ∧
    20 ≤ n ∧ n < 24 ∧ n < s.hew.cores.length ∧ s.hwState n = 1 ∧ (s.core n).wait = none ∧ s.ptpMac n = some m ∧
    m < s.macs.length ∧ (s.mac m).localRx = (bytes, w) :: rest ∧ bytes.length ≤ cap ∧ s.bufOk n buf bytes.length = true) ∧
    (∃ (s : State) (n buf tsid : Nat) (bytes : List (BitVec 8)), s.up = true ∧ 20 ≤ n ∧ n < 24 ∧ n < s.hew.cores.length ∧
    s.hwState n = 1 ∧ (s.core n).wait = none ∧ s.isHost = false ∧ 0 < s.macs.length ∧ bytes ≠ [] ∧
    s.bufOk n buf bytes.length = true ∧ tsid < 256) ∧
    (∃ (s : State) (n : Nat), s.up = true ∧ 20 ≤ n ∧ n < 24 ∧ n < s.hew.cores.length ∧ s.hwState n = 1 ∧ (s.core n).wait = none) ∧
    (∃ (s : State) (r : Req) (n : Nat), s.ctl.posted = [] ∧ s.busOpen r = true ∧ r ≠ .smbus ∧ s.boot.pers ≠ 1 ∧
    s.mayControl r = true ∧ 20 ≤ n ∧ n < 24 ∧ n < s.hew.cores.length ∧ s.hwState n ≠ 1 ∧ s.hwState n ≠ 2) ∧
    (∃ (s : State) (r : Req) (n len : Nat), s.ctl.posted = [] ∧ s.busOpen r = true ∧ r ≠ .smbus ∧ s.boot.pers ≠ 1 ∧
    s.mayControl r = true ∧ 20 ≤ n ∧ n < 24 ∧ s.bit (F.HWR_MBCTL_INFULL n) = false ∧ 1 ≤ len ∧ len ≤ 256 ∧
    (s.core 20).wait = none ∧ (s.core 21).wait = none ∧ (s.core 22).wait = none ∧ (s.core 23).wait = none ∧
    n < s.hew.cores.length) :=
  ⟨⟨(wUser.put (F.HWR_MBCTL_INFULL 20) 1).coreM 20 fun h => { h with inbox := [1, 2, 3] }, 20, 0x10000, 64, by decide +kernel⟩,
   ⟨wUser, 20, 0x10000, by decide +kernel⟩,
   ⟨wUser, 20, 9, by decide +kernel⟩,
   ⟨wUser.coreM 20 fun h => { h with events := [wRec] }, 20, 0x10000, wRec, [], by decide +kernel⟩,
   ⟨wUser, 20, by decide +kernel⟩,
   ⟨wUser.put (F.HWR_MBCTL_INFULL 20) 1, 20, 3, by decide +kernel⟩,
   ⟨wUser, 20, 0x40, by decide +kernel⟩,
   ⟨wPtp, 20, 0x10000, 64, 0, [1, 2], 0, [], by decide +kernel⟩,
   ⟨wPtp, 20, 0x10000, 7, [1, 2], by decide +kernel⟩,
   ⟨wUser, 20, by decide +kernel⟩,
   ⟨wHost, .host, 21, by decide +kernel⟩,
   ⟨wHost, .host, 21, 8, by decide +kernel⟩⟩

/-- The hypotheses of Obligations.FailureRows, clause by clause. -/
theorem witness_FailureRows :
    (∃ (s : State) (n cause : Nat), s.up = true ∧ 20 ≤ n ∧ n < 24 ∧ s.hwState n = 1 ∧ cause < 16) ∧
    (∃ (s : State) (n d : Nat), s.up = true ∧ n < 18 ∧ s.hwState n = 1 ∧ s.dutyOf n = some d ∧ s.spare = some 18 ∧
    s.due (some (s.core n).kick) (1000 * max 2 (s.get (F.HWR_WDT_US n))) = true) ∧
    (∃ (s : State) (n d : Nat), s.up = true ∧ n < 18 ∧ s.hwState n = 1 ∧ s.dutyOf n = some d ∧ s.spare = none) ∧
    (∃ (s : State) (d : Nat) (k : Takeover), s.up = true ∧ s.hew.takes = [k] ∧ k.duty = d ∧ k.started = false ∧ k.new < 24 ∧
    d < s.hew.duties.length) ∧
    (∃ (s : State) (d : Nat) (k : Takeover), s.up = true ∧ s.hew.takes = [k] ∧ k.duty = d ∧ k.started = true) ∧
    (∃ (s : State) (addr : Nat), s.up = true ∧ addr < 0x2000000) ∧
    (∃ (s : State) (temp : Nat), s.memUp = true ∧ 85 ≤ temp ∧ temp < 128 ∧ s.bit F.MEM_DRAMSTAT_DOUBLE = false) ∧
    (∃ (s : State) (o : OpenFault), s.up = true ∧ s.flt.opens = [o] ∧ o.idx < 256) ∧
    (∃ (s : State) (c : HostCmd), c.ring < 256 ∧ s.canTake c = true ∧ cmdClean c dsoFlipBits = true ∧ s.hostControls = true ∧
    c.target.toNat = 0 ∧ s.dutyRuns 12 = false) ∧
    (∃ (s : State), s.dutyRuns 1 = false) ∧
    (∃ (s : State), s.dutyRuns 0 = false) ∧
    (∃ (s : State), s.dutyRuns 4 = false) ∧
    (∃ (s : State), s.dutyRuns 5 = false) ∧
    (∃ (s : State), s.dutyRuns 9 = false) ∧
    (∃ (s : State), s.dutyRuns 3 = false) :=
  ⟨⟨wUser, 20, 3, by decide +kernel⟩,
   ⟨{ wHew with uptime := 5000000000 }, 3, 3, by decide +kernel⟩,
   ⟨(wHew.put (F.HWR_STAT_STATE 18) 4).put (F.HWR_STAT_STATE 19) 4, 3, 3, by decide +kernel⟩,
   ⟨wTake false, 3, wTk false, by decide +kernel⟩,
   ⟨wTake true, 3, wTk true, by decide +kernel⟩,
   ⟨wHost, 0x12345, by decide +kernel⟩,
   ⟨wHost, 90, by decide +kernel⟩,
   ⟨wFault, wOpen, by decide +kernel⟩,
   ⟨wHost.put (F.HWR_STAT_STATE 12) 4, wCmd 0 1, by decide +kernel⟩,
   ⟨wHost.put (F.HWR_STAT_STATE 1) 4, by decide +kernel⟩,
   ⟨wHost.put (F.HWR_STAT_STATE 0) 4, by decide +kernel⟩,
   ⟨wHost.put (F.HWR_STAT_STATE 4) 4, by decide +kernel⟩,
   ⟨wHost.put (F.HWR_STAT_STATE 5) 4, by decide +kernel⟩,
   ⟨wHost.put (F.HWR_STAT_STATE 9) 4, by decide +kernel⟩,
   ⟨wHost.put (F.HWR_STAT_STATE 3) 4, by decide +kernel⟩⟩

/-- The hypotheses of Obligations.KeyIssueRows, clause by clause. -/
theorem witness_KeyIssueRows :
    (∃ (s : State), s.boot.held = false ∧ s.keys.running = none ∧ s.keys.burning = none ∧ s.keys.queue = [] ∧
    s.busOpen .host = true ∧ s.boot.pers ≠ 1 ∧ s.mayControl .host = true ∧ s.bit F.KEY_CMD_BUSY = false) ∧
    (∃ (s : State), s.boot.held = false ∧ s.keys.running = none ∧ s.keys.burning = none ∧ s.keys.queue = [] ∧
    s.busOpen .host = true ∧ s.boot.pers ≠ 1 ∧ s.mayControl .host = true ∧ s.bit F.KEY_CMD_BUSY = false) ∧
    (∃ (s : State), s.boot.held = false ∧ s.keys.running = none ∧ s.keys.burning = none ∧ s.keys.queue = [] ∧
    s.busOpen .host = true ∧ s.boot.pers ≠ 1 ∧ s.mayControl .host = true ∧ s.bit F.KEY_CMD_BUSY = false) ∧
    (∃ (s : State), s.boot.held = false ∧ s.keys.running = none ∧ s.keys.burning = none ∧ s.keys.queue = [] ∧
    s.busOpen .host = true ∧ s.boot.pers ≠ 1 ∧ s.mayControl .host = true ∧ s.bit F.KEY_CMD_BUSY = false) ∧
    (∃ (s : State), s.boot.held = false ∧ s.keys.running = none ∧ s.keys.burning = none ∧ s.keys.queue = [] ∧
    s.busOpen .host = true ∧ s.boot.pers ≠ 1 ∧ s.mayControl .host = true ∧ s.bit F.KEY_CMD_BUSY = false) ∧
    (∃ (s : State), s.boot.held = false ∧ s.keys.running = none ∧ s.keys.burning = none ∧ s.keys.queue = [] ∧
    s.busOpen .host = true ∧ s.boot.pers ≠ 1 ∧ s.mayControl .host = true ∧ s.bit F.KEY_CMD_BUSY = false) ∧
    (∃ (s : State), s.boot.held = false ∧ s.keys.running = none ∧ s.keys.burning = none ∧ s.keys.queue = [] ∧
    s.busOpen .host = true ∧ s.boot.pers ≠ 1 ∧ s.mayControl .host = true ∧ s.bit F.KEY_CMD_BUSY = false) ∧
    (∃ (s : State), s.boot.held = false ∧ s.keys.running = none ∧ s.keys.burning = none ∧ s.keys.queue = [] ∧
    s.busOpen .host = true ∧ s.boot.pers ≠ 1 ∧ s.mayControl .host = true ∧ s.bit F.KEY_CMD_BUSY = false) ∧
    (∃ (s : State), s.boot.held = false ∧ s.keys.running = none ∧ s.keys.burning = none ∧ s.keys.queue = [] ∧
    s.busOpen .host = true ∧ s.boot.pers ≠ 1 ∧ s.mayControl .host = true ∧ s.bit F.KEY_CMD_BUSY = false) ∧
    (∃ (s : State), s.boot.held = false ∧ s.keys.running = none ∧ s.keys.burning = none ∧ s.keys.queue = [] ∧
    s.busOpen .host = true ∧ s.boot.pers ≠ 1 ∧ s.mayControl .host = true ∧ s.bit F.KEY_CMD_BUSY = false) ∧
    (∃ (s : State), s.boot.held = false ∧ s.keys.running = none ∧ s.keys.burning = none ∧ s.keys.queue = [] ∧
    s.busOpen .host = true ∧ s.boot.pers ≠ 1 ∧ s.mayControl .host = true ∧ s.bit F.KEY_CMD_BUSY = false) ∧
    (∃ (s : State), s.boot.held = false ∧ s.keys.running = none ∧ s.keys.burning = none ∧ s.keys.queue = [] ∧
    s.busOpen .host = true ∧ s.boot.pers ≠ 1 ∧ s.mayControl .host = true ∧ s.bit F.KEY_CMD_BUSY = false) ∧
    (∃ (s : State), s.up = true ∧ s.keys.running = none ∧ s.keys.burning = none ∧ s.keys.queue = []) ∧
    (∃ (s : State), s.up = true ∧ s.keys.running = none ∧ s.keys.burning = none ∧ s.keys.queue = []) ∧
    (∃ (s : State), s.busOpen .host = true ∧ s.boot.pers ≠ 1 ∧ s.mayControl .host = true ∧ s.bit F.KEY_CMD_BUSY = true) :=
  ⟨⟨wHost, by decide +kernel⟩,
   ⟨wHost, by decide +kernel⟩,
   ⟨wHost, by decide +kernel⟩,
   ⟨wHost, by decide +kernel⟩,
   ⟨wHost, by decide +kernel⟩,
   ⟨wHost, by decide +kernel⟩,
   ⟨wHost, by decide +kernel⟩,
   ⟨wHost, by decide +kernel⟩,
   ⟨wHost, by decide +kernel⟩,
   ⟨wHost, by decide +kernel⟩,
   ⟨wHost, by decide +kernel⟩,
   ⟨wHost, by decide +kernel⟩,
   ⟨wHost, by decide +kernel⟩,
   ⟨wHost, by decide +kernel⟩,
   ⟨wHost.put F.KEY_CMD_BUSY 1, by decide +kernel⟩⟩

/-- The hypotheses of Obligations.KeyDoneRows, clause by clause. -/
theorem witness_KeyDoneRows :
    (∃ (s : State) (o : KeyOp) (v : KeyVal), s.up = true ∧ s.keys.running = some o ∧ s.keys.queue = [] ∧ s.keys.burning = none ∧
    o.fw = true ∧ o.op = 7 ∧ s.lcs ≠ 4 ∧ (s.slotAt (o.handle % 64)).key = some v ∧
    (s.slotAt (o.handle % 64)).gen = o.handle / 64 ∧ s.slotInUse (o.handle % 64) = false) ∧
    (∃ (s : State) (o : KeyOp), s.up = true ∧ s.keys.running = some o ∧ s.keys.queue = [] ∧ s.keys.burning = none ∧ o.fw = true ∧
    o.op = 7 ∧ (s.slotAt (o.handle % 64)).key = none) ∧
    (∃ (s : State) (o : KeyOp) (v : KeyVal), s.up = true ∧ s.keys.running = some o ∧ s.keys.queue = [] ∧ s.keys.burning = none ∧
    o.fw = false ∧ o.op = 7 ∧ 1 ≤ o.handle % 64 ∧ o.handle % 64 ≤ 27 ∧ (s.slotAt (o.handle % 64)).key = some v ∧
    (s.slotAt (o.handle % 64)).gen = o.handle / 64) ∧
    (∃ (s : State) (o : KeyOp) (v : KeyVal), s.up = true ∧ s.keys.running = some o ∧ s.keys.queue = [] ∧ s.keys.burning = none ∧
    o.fw = true ∧ o.op = 1 ∧ s.lcs ≠ 4 ∧ o.handle = 30 ∧ (s.slotAt 30).key = some v ∧ (s.slotAt 30).gen = 0 ∧
    polBit v.policy 0 = true ∧ v.depth < 8 ∧ byteAt o.args 2 = 1 ∧ byteAt o.args 3 = 32 ∧ (s.slotAt 28).key = none ∧
    28 < s.keys.slots.length) ∧
    (∃ (s : State) (o : KeyOp) (v : KeyVal), s.up = true ∧ s.keys.running = some o ∧ s.keys.queue = [] ∧ s.keys.burning = none ∧
    o.fw = true ∧ o.op = 1 ∧ s.lcs ≠ 4 ∧ o.handle = 30 ∧ (s.slotAt 30).key = some v ∧ (s.slotAt 30).gen = 0 ∧
    polBit v.policy 0 = false) ∧
    (∃ (s : State) (o : KeyOp), s.up = true ∧ s.keys.running = some o ∧ s.keys.queue = [] ∧ s.keys.burning = none ∧ o.fw = true ∧
    o.op = 2 ∧ s.lcs ≠ 4 ∧ byteAt o.args 0 = 1 ∧ (s.slotAt 28).key = none ∧ 28 < s.keys.slots.length) ∧
    (∃ (s : State) (o : KeyOp), s.up = true ∧ s.keys.running = some o ∧ s.keys.queue = [] ∧ s.keys.burning = none ∧ o.fw = true ∧
    o.op = 11 ∧ s.lcs = 0 ∧ byteAt o.args 0 = 1 ∧ s.progd 1 = true) ∧
    (∃ (s : State) (o : KeyOp), s.up = true ∧ s.keys.running = some o ∧ s.keys.queue = [] ∧ s.keys.burning = none ∧ o.fw = true ∧
    o.op = 13 ∧ 1 ≤ s.lcs ∧ s.lcs ≤ 2 ∧ s.keys.runSvn ≤ 64 ∧ s.keys.svnA ≤ s.keys.runSvn ∧ s.keys.svnB ≤ s.keys.runSvn ∧
    s.get F.GLB_BOOT_SVNCTR = s.keys.runSvn) ∧
    (∃ (s : State) (o : KeyOp), s.up = true ∧ s.keys.running = some o ∧ s.keys.queue = [] ∧ s.keys.burning = none ∧
    o.fw = false ∧ o.op = 14 ∧ s.lcs < 3) ∧
    (∃ (s : State), s.busOpen .host = true ∧ s.boot.pers ≠ 1 ∧ s.mayControl .host = true ∧ s.keys.burning = none ∧ s.lcs = 0 ∧
    s.progd 1 = true ∧ s.progd 3 = true ∧ s.progd 4 = true) ∧
    (∃ (s : State), s.busOpen .host = true ∧ s.boot.pers ≠ 1 ∧ s.mayControl .host = true ∧ s.keys.burning = none ∧ s.lcs = 0) ∧
    (∃ (s : State) (cells : Nat), s.up = true ∧ s.keys.burning = some 1 ∧ s.keys.running = none ∧ 48 ≤ cells ∧
    0 < s.keys.cells.length) ∧
    (∃ (s : State), s.busOpen .host = true ∧ s.boot.pers ≠ 1 ∧ s.mayControl .host = true) :=
  ⟨⟨wKeyed { fw := true, op := 7, args := [30, 0], dram := [] }, { fw := true, op := 7, args := [30, 0], dram := [] }, wKeyVal
     1, by decide +kernel⟩,
   ⟨wKeyed { fw := true, op := 7, args := [31, 0], dram := [] }, { fw := true, op := 7, args := [31, 0], dram := [] },
     by decide +kernel⟩,
   ⟨(wKeyed { fw := false, op := 7, args := [2, 0], dram := [] }).ksM fun k =>
     { k with slots := k.slots.set 2 { gen := 0, key := some (wKeyVal 1) } },
     { fw := false, op := 7, args := [2, 0], dram := [] }, wKeyVal 1, by decide +kernel⟩,
   ⟨wKeyed wDerive, wDerive, wKeyVal 1, by decide +kernel⟩,
   ⟨(wKeyed wDerive).ksM fun k => { k with slots := k.slots.set 30 { gen := 0, key := some (wKeyVal 8) } }, wDerive, wKeyVal 8,
     by decide +kernel⟩,
   ⟨wKeyed { fw := true, op := 2, args := [1], dram := [] }, { fw := true, op := 2, args := [1], dram := [] },
     by decide +kernel⟩,
   ⟨(wKeyed { fw := true, op := 11, args := [1], dram := [] }).put F.KEY_LCS_PROGD 1,
     { fw := true, op := 11, args := [1], dram := [] }, by decide +kernel⟩,
   ⟨((wKeyed { fw := true, op := 13, args := [], dram := [] }).put F.KEY_LCS_CUR 1),
     { fw := true, op := 13, args := [], dram := [] }, by decide +kernel⟩,
   ⟨wKeyed { fw := false, op := 14, args := [], dram := [] }, { fw := false, op := 14, args := [], dram := [] },
     by decide +kernel⟩,
   ⟨wHost.put F.KEY_LCS_PROGD 0xD, by decide +kernel⟩,
   ⟨wHost, by decide +kernel⟩,
   ⟨(wKeyed { fw := true, op := 7, args := [], dram := [] }).ksM fun k => { k with running := none, burning := some 1 }, 60,
     by decide +kernel⟩,
   ⟨wHost, by decide +kernel⟩⟩

/-- The hypotheses of Obligations.StepTakesFront, clause by clause. -/
theorem witness_StepTakesFront :
    (∃ (s : State) (c : Instr) (rest : List Instr), s.pending = c :: rest) ∧
    (∃ (s : State), s.pending = []) :=
  ⟨⟨{ wHost with pending := [.aliveKick, .snapCaptureDone] }, .aliveKick, [.snapCaptureDone], by decide +kernel⟩,
   ⟨wHost, by decide +kernel⟩⟩

/-- The hypotheses of Obligations.QueueOnlyByStep, clause by clause. -/
theorem witness_QueueOnlyByStep :
    ∃ (c : Instr) (s t : State), exec c s = .next t :=
  ⟨.warmrstNRelease, { State.reset with pending := [.aliveKick] }, _, rfl⟩

/-- The hypotheses of Obligations.SteppingRead, clause by clause. -/
theorem witness_SteppingRead :
    ∃ (s : State), s.get F.GLB_ID_STEP = 0xA1 :=
  ⟨wHost, by decide +kernel⟩

/-- The hypotheses of Obligations.RegistersStayCanonical, clause by clause. -/
theorem witness_RegistersStayCanonical :
    ∃ (s t : State), RegsCanonical s ∧ step s = .next t :=
  ⟨{ State.reset with pending := [.warmrstNRelease] }, _, by decide +kernel, rfl⟩

/-- The hypotheses of Obligations.HeaderRoundTrip, clause by clause. -/
theorem witness_HeaderRoundTrip :
    (∃ (f : Frame), f.dst < 64 ∧ f.src < 64 ∧ f.tid < 4096 ∧ f.cls < 8 ∧ f.kind < 32 ∧ f.len < 16384 ∧ f.hseq < 4096 ∧
    f.eseq < 65536 ∧ f.ttl < 64 ∧ f.flags < 256 ∧ f.rsvd < 2 ^ 24) ∧
    (∃ (h : BitVec 128), headerOk h = true) :=
  ⟨⟨wFrameHdr, by decide +kernel⟩,
   ⟨packHeader wFrameHdr, by decide +kernel⟩⟩

/-- The hypotheses of Obligations.RoleLatch, clause by clause. -/
theorem witness_RoleLatch :
    (∃ (s : State), s.boot.strapsDue = true ∧ s.boot.roleLatched = false) ∧
    (∃ (s : State), s.boot.roleLatched = true) ∧
    (∃ (s : State), s.up = true) ∧
    (∃ (s : State), s.up = true) :=
  ⟨⟨wStraps, by decide +kernel⟩,
   ⟨wStraps2, by decide +kernel⟩,
   ⟨wYal, by decide +kernel⟩,
   ⟨wHost, by decide +kernel⟩⟩

/-- The hypotheses of Obligations.StrapFaultHolds, clause by clause. -/
theorem witness_StrapFaultHolds :
    (∃ (s : State), s.boot.strapsDue = true ∧ s.boot.roleLatched = false) ∧
    (∃ (s : State), s.role = 3 ∧ s.boot.strapFault = true) ∧
    (∃ (s : State), s.boot.strapFault = true ∧ s.boot.held = true) ∧
    (∃ (s : State), s.boot.strapFault = true ∧ s.boot.held = true) ∧
    (∃ (s : State), s.boot.roleLatched = true ∧ s.boot.strapFault = true ∧ s.boot.held = true) ∧
    (∃ (s : State), s.boot.strapFault = true ∧ s.boot.held = true) ∧
    (∃ (s : State), s.smb.causes % 2 = 1) ∧
    (∃ (s : State), s.smb.causes % 2 = 1) :=
  ⟨⟨wStraps, by decide +kernel⟩,
   ⟨wStrapped, by decide +kernel⟩,
   ⟨{ wStrapped with boot := { wStrapped.boot with porstLow := false } }, by decide +kernel⟩,
   ⟨{ wStrapped with boot := { wStrapped.boot with porstLow := true } }, by decide +kernel⟩,
   ⟨wStrapped, by decide +kernel⟩,
   ⟨wStrapped, by decide +kernel⟩,
   ⟨wAlert 9, by decide +kernel⟩,
   ⟨wAlert 9, by decide +kernel⟩⟩

/-- The hypotheses of Obligations.BadReservedRows, clause by clause. -/
theorem witness_BadReservedRows :
    (∃ (s : State) (c : HostCmd), c.ring < 256 ∧ s.canTake c = true ∧ cmdClean c [] = false) ∧
    (∃ (s : State) (c : HostCmd), c.ring < 256 ∧ s.canTake c = true ∧ cmdClean c regReadBits = false) ∧
    (∃ (s : State) (c : HostCmd), c.ring < 256 ∧ s.canTake c = true ∧ cmdClean c regWriteBits = false) ∧
    (∃ (s : State) (c : HostCmd), c.ring < 256 ∧ s.canTake c = true ∧ cmdClean c [(8, 0, 6)] = false) ∧
    (∃ (s : State) (c : HostCmd), s.up = true ∧ c.ring < 256 ∧ s.canTake c = true ∧ cmdClean c (openBits c.ops) = false) ∧
    (∃ (s : State) (c : HostCmd), s.up = true ∧ c.ring < 256 ∧ s.canTake c = true ∧
    cmdClean c [(0x08, 0, 16), (0x0A, 0, 1)] = false) ∧
    (∃ (s : State) (c : HostCmd), s.up = true ∧ c.ring < 256 ∧ s.canTake c = true ∧
    cmdClean c [(0x08, 0, 16), (0x0A, 0, 8), (0x0B, 0, 8), (0x0C, 0, 16), (0x0E, 0, 1), (0x0F, 0, 8), (0x10, 0, 8)] = false) ∧
    (∃ (s : State) (c : HostCmd), s.up = true ∧ c.ring < 256 ∧ s.canTake c = true ∧
    cmdClean c [(0x08, 0, 16), (0x0A, 0, 8)] = false) ∧
    (∃ (s : State) (c : HostCmd), s.up = true ∧ c.ring < 256 ∧ s.canTake c = true ∧ cmdClean c [(0x08, 0, 16)] = false) ∧
    (∃ (s : State) (c : HostCmd), c.ring < 256 ∧ s.canTake c = true ∧ cmdClean c tunStatsBits = false) ∧
    (∃ (s : State) (c : HostCmd), c.ring < 256 ∧ s.canTake c = true ∧ cmdClean c schCommitBits = false) ∧
    (∃ (s : State) (c : HostCmd), c.ring < 256 ∧ s.canTake c = true ∧
    cmdClean c [(0x08, 0, 6), (0x09, 0, 2), (0x0A, 0, 6), (0x0B, 0, 4), (0x0C, 0, 1), (0x10, 0, 32)] = false) ∧
    (∃ (s : State) (c : HostCmd), c.ring < 256 ∧ s.canTake c = true ∧ cmdClean c dsoFlipBits = false) ∧
    (∃ (s : State) (c : HostCmd), c.ring < 256 ∧ s.canTake c = true ∧ cmdClean c timArmBits = false) ∧
    (∃ (s : State) (c : HostCmd), c.ring < 256 ∧ s.canTake c = true ∧ cmdClean c cartBits = false) ∧
    (∃ (s : State) (c : HostCmd), c.ring < 256 ∧ s.canTake c = true ∧ cmdClean c cartQueryBits = false) ∧
    (∃ (s : State) (c : HostCmd), c.ring < 256 ∧ s.canTake c = true ∧ cmdClean c [(0x08, 0, 16)] = false) ∧
    (∃ (s : State) (c : HostCmd), c.ring < 256 ∧ s.canTake c = true ∧
    cmdClean c [(0x08, 0, 64), (0x10, 0, 8), (0x11, 0, 1)] = false) ∧
    (∃ (s : State) (c : HostCmd), c.ring < 256 ∧ s.canTake c = true ∧ cmdClean c fabRouteBits = false) ∧
    (∃ (s : State) (c : HostCmd), c.ring < 256 ∧ s.canTake c = true ∧ cmdClean c fabTopoBits = false) ∧
    (∃ (s : State) (c : HostCmd), c.ring < 256 ∧ s.canTake c = true ∧ cmdClean c pwrReqBits = false) ∧
    (∃ (s : State) (op : Nat) (c : HostCmd), op < 256 ∧ op ∉ opcodes ∧ c.ring < 256 ∧ s.canTake c = true) :=
  ⟨⟨wHost, wDirty, by decide +kernel⟩,
   ⟨wHost, wDirty, by decide +kernel⟩,
   ⟨wHost, wDirty, by decide +kernel⟩,
   ⟨wHost, wDirty, by decide +kernel⟩,
   ⟨wHost, wDirty, by decide +kernel⟩,
   ⟨wHost, wDirty, by decide +kernel⟩,
   ⟨wHost, wDirty, by decide +kernel⟩,
   ⟨wHost, wDirty, by decide +kernel⟩,
   ⟨wHost, wDirty, by decide +kernel⟩,
   ⟨wHost, wDirty, by decide +kernel⟩,
   ⟨wHost, wDirty, by decide +kernel⟩,
   ⟨wHost, wDirty, by decide +kernel⟩,
   ⟨wHost, wDirty, by decide +kernel⟩,
   ⟨wHost, wDirty, by decide +kernel⟩,
   ⟨wHost, wDirty, by decide +kernel⟩,
   ⟨wHost, wDirty, by decide +kernel⟩,
   ⟨wHost, wDirty, by decide +kernel⟩,
   ⟨wHost, wDirty, by decide +kernel⟩,
   ⟨wHost, wDirty, by decide +kernel⟩,
   ⟨wHost, wDirty, by decide +kernel⟩,
   ⟨wHost, wDirty, by decide +kernel⟩,
   ⟨wHost, 0x77, wDirty, by decide +kernel⟩⟩

/-- The hypotheses of Obligations.NonOwnerRows, clause by clause. -/
theorem witness_NonOwnerRows :
    (∃ (s : State) (c : HostCmd), Takes s c [(8, 0, 6)] ∧ s.hostControls = false) ∧
    (∃ (s : State) (c : HostCmd), s.up = true ∧ Takes s c (openBits c.ops) ∧ s.hostControls = false) ∧
    (∃ (s : State) (c : HostCmd), s.up = true ∧ Takes s c [(0x08, 0, 16), (0x0A, 0, 1)] ∧ s.hostControls = false) ∧
    (∃ (s : State) (c : HostCmd), s.up = true ∧
    Takes s c [(0x08, 0, 16), (0x0A, 0, 8), (0x0B, 0, 8), (0x0C, 0, 16), (0x0E, 0, 1), (0x0F, 0, 8), (0x10, 0, 8)] ∧
    s.hostControls = false) ∧
    (∃ (s : State) (c : HostCmd), s.up = true ∧ Takes s c [(0x08, 0, 16), (0x0A, 0, 8)] ∧ s.hostControls = false) ∧
    (∃ (s : State) (c : HostCmd), s.up = true ∧ Takes s c [(0x08, 0, 16)] ∧ s.hostControls = false) ∧
    (∃ (s : State) (c : HostCmd), Takes s c schCommitBits ∧ s.hostControls = false) ∧
    (∃ (s : State) (c : HostCmd),
    Takes s c [(0x08, 0, 6), (0x09, 0, 2), (0x0A, 0, 6), (0x0B, 0, 4), (0x0C, 0, 1), (0x10, 0, 32)] ∧ s.hostControls = false) ∧
    (∃ (s : State) (c : HostCmd), Takes s c dsoFlipBits ∧ s.hostControls = false) ∧
    (∃ (s : State) (c : HostCmd), Takes s c timArmBits ∧ s.hostControls = false) ∧
    (∃ (s : State) (c : HostCmd), Takes s c cartBits ∧ s.hostControls = false) ∧
    (∃ (s : State) (c : HostCmd), Takes s c [(0x08, 0, 16)] ∧ s.hostControls = false) ∧
    (∃ (s : State) (c : HostCmd), Takes s c [(0x08, 0, 64), (0x10, 0, 8), (0x11, 0, 1)] ∧ s.hostControls = false) ∧
    (∃ (s : State) (c : HostCmd), Takes s c fabRouteBits ∧ s.hostControls = false) ∧
    (∃ (s : State) (c : HostCmd), Takes s c pwrReqBits ∧ s.hostControls = false) :=
  ⟨⟨wOther, wCmd 0 0, by decide +kernel⟩,
   ⟨wOther, wCmd 0 0, by decide +kernel⟩,
   ⟨wOther, wCmd 0 0, by decide +kernel⟩,
   ⟨wOther, wCmd 0 0, by decide +kernel⟩,
   ⟨wOther, wCmd 0 0, by decide +kernel⟩,
   ⟨wOther, wCmd 0 0, by decide +kernel⟩,
   ⟨wOther, wCmd 0 0, by decide +kernel⟩,
   ⟨wOther, wCmd 0 0, by decide +kernel⟩,
   ⟨wOther, wCmd 0 0, by decide +kernel⟩,
   ⟨wOther, wCmd 0 0, by decide +kernel⟩,
   ⟨wOther, wCmd 0 0, by decide +kernel⟩,
   ⟨wOther, wCmd 0 0, by decide +kernel⟩,
   ⟨wOther, wCmd 0 0, by decide +kernel⟩,
   ⟨wOther, wCmd 0 0, by decide +kernel⟩,
   ⟨wOther, wCmd 0 0, by decide +kernel⟩⟩

/-- The hypotheses of Obligations.DramArbiterPicks, clause by clause. -/
theorem witness_DramArbiterPicks :
    (∃ (a : ArbSt) (prio limit : Nat → Nat) (req : List Nat) (r : Nat), req ≠ [] ∧ req.Pairwise (· < ·) ∧
    ((req.all fun r => decide (r < 15)) = true) ∧ a.wait.length = 16 ∧ a.last.length = 4 ∧
    ((a.last.all fun x => decide (x < 16)) = true) ∧ ((req.all fun r => decide (prio r < 4)) = true) ∧ r ∈ req ∧
    max 1 (limit r) ≤ a.wait.getD r 0 ∧ (∀ q ∈ req, q < r → a.wait.getD q 0 < max 1 (limit q))) ∧
    (∃ (a : ArbSt) (prio limit : Nat → Nat) (req : List Nat), req ≠ [] ∧ req.Pairwise (· < ·) ∧
    ((req.all fun r => decide (r < 15)) = true) ∧ a.wait.length = 16 ∧ a.last.length = 4 ∧
    ((a.last.all fun x => decide (x < 16)) = true) ∧ ((req.all fun r => decide (prio r < 4)) = true) ∧
    (∀ q ∈ req, a.wait.getD q 0 < max 1 (limit q)) ∧ req = [a.owner]) ∧
    (∃ (a : ArbSt) (prio limit : Nat → Nat) (req : List Nat), req ≠ [] ∧ req.Pairwise (· < ·) ∧
    ((req.all fun r => decide (r < 15)) = true) ∧ a.wait.length = 16 ∧ a.last.length = 4 ∧
    ((a.last.all fun x => decide (x < 16)) = true) ∧ ((req.all fun r => decide (prio r < 4)) = true) ∧
    (∀ q ∈ req, a.wait.getD q 0 < max 1 (limit q)) ∧ req ≠ [a.owner]) ∧
    (∃ (a : ArbSt) (prio : Nat → Nat) (req : List Nat) (r : Nat), req ≠ [] ∧ req.Pairwise (· < ·) ∧
    ((req.all fun r => decide (r < 15)) = true) ∧ a.wait.length = 16 ∧ a.last.length = 4 ∧
    ((a.last.all fun x => decide (x < 16)) = true) ∧ ((req.all fun r => decide (prio r < 4)) = true) ∧ r < 16) :=
  ⟨⟨wArb, wPrio, fun r => if r = 4 then 3 else 64, [0, 4, 7], 4, by decide +kernel⟩,
   ⟨wArb, wPrio, fun r => if r = 4 then 3 else 64, [2], by decide +kernel⟩,
   ⟨wArb, wPrio, fun r => if r = 4 then 3 else 64, [1, 5, 9, 10], by decide +kernel⟩,
   ⟨wArb, wPrio, [1, 5, 9], 5, by decide +kernel⟩⟩

/-- The hypotheses of Obligations.LifecycleReset, clause by clause. -/
theorem witness_LifecycleReset :
    (∃ (s : State) (tgt cells : Nat), s.up = true ∧ s.keys.burning = some tgt ∧ 1 ≤ tgt ∧ tgt ≤ 4 ∧ s.keys.cells.length = 4 ∧
    s.keys.running = none ∧ 48 ≤ cells) ∧
    (∃ (s : State), s.boot.held = false ∧ s.boot.warmLow = false ∧ s.boot.romDone = false) :=
  ⟨⟨(wKeyed { fw := true, op := 7, args := [], dram := [] }).ksM fun k => { k with running := none, burning := some 2 }, 2, 60,
     by decide +kernel⟩,
   ⟨wHost, by decide +kernel⟩⟩

end Sys2Proof.Tests
end

section
/-! SUPPORT. The register bus: what raising an event does to the register file, one equation per way a write or a read of one word goes,
the snapshot, and the proof of O7. -/

namespace Sys2Proof.Proofs

open Sys2Proof.Machine Sys2Proof.Laws

/-! ### Registers that agree off a set -/

theorem regsAgreeOff_of_regs_eq {p : Nat → Prop} {s t : State} (h : t.regs = s.regs) : RegsAgreeOff p s t :=
  fun a _ => congrArg (RegFile.get · a) h

theorem regsAgreeOff_refl (p : Nat → Prop) (s : State) : RegsAgreeOff p s s := regsAgreeOff_of_regs_eq rfl

theorem regsAgreeOff_trans {p : Nat → Prop} {s t u : State} (h1 : RegsAgreeOff p s t) (h2 : RegsAgreeOff p t u) :
    RegsAgreeOff p s u := fun a ha => (h2 a ha).trans (h1 a ha)

theorem regsAgreeOff_mono {p q : Nat → Prop} {s t : State} (h : ∀ a, p a → q a) (hs : RegsAgreeOff p s t) :
    RegsAgreeOff q s t := fun a ha => hs a fun hp => ha (h a hp)

theorem regsAgreeOff_ite {p : Nat → Prop} {s t u : State} {c : Prop} [Decidable c] (ht : RegsAgreeOff p s t)
    (hu : RegsAgreeOff p s u) : RegsAgreeOff p s (if c then t else u) := by
  split <;> assumption

theorem regsAgreeOff_foldl {α : Type} {p : Nat → Prop} {g : State → α → State} (l : List α)
    (h : ∀ t, ∀ a ∈ l, RegsAgreeOff p t (g t a)) (s : State) : RegsAgreeOff p s (l.foldl g s) :=
  List.foldlRecOn l g (regsAgreeOff_refl p s) fun t ht a ha => regsAgreeOff_trans ht (h t a ha)

theorem regsAgreeOff_put {p : Nat → Prop} {s : State} {f : Fld} (v : Nat) (h : p f.addr) : RegsAgreeOff p s (s.put f v) :=
  fun _ ha => rd_put_other s v fun e => ha (e ▸ h)

theorem regsAgreeOff_bump {p : Nat → Prop} {s : State} {f : Fld} (h : p f.addr) : RegsAgreeOff p s (s.bump f) :=
  regsAgreeOff_ite (regsAgreeOff_put _ h) (regsAgreeOff_refl _ _)

/-- A field of a register outside the set reads the same. -/
theorem get_of_regsAgreeOff {p : Nat → Prop} {s t : State} {f : Fld} (h : RegsAgreeOff p s t) (hf : ¬ p f.addr) :
    t.get f = s.get f := by
  simp only [State.get, h _ hf]

/-! ### Raising an event changes the registers of EventReg alone (R98 to R100) -/

theorem eventReg_stat {k : Nat} (h : k < 16) : EventReg (A.EVT_STAT k) := .inl ⟨k, h, rfl⟩

theorem eventReg_drop : EventReg F.EVT_DROP.addr := .inr (.inl rfl)

theorem eventReg_ridx {n : Nat} (h : n < 256) : EventReg (A.GLB_RIDX n) := .inr (.inr (.inl ⟨n, h, rfl⟩))

theorem eventReg_evovf {n : Nat} (h : n ∈ [20, 21, 22, 23]) : EventReg (F.HWR_EVOVF n).addr :=
  .inr (.inr (.inr (.inl ⟨n, by simp at h; omega, by simp at h; omega, rfl⟩)))

theorem eventReg_pba {v : Nat} (h : v < 64) : EventReg (pbaBit 0 v).addr :=
  .inr (.inr (.inr (.inr ⟨v / 32, by omega, rfl⟩)))

/-- The tallies of GLB, and the registers below them, are none that an event changes. -/
theorem not_eventReg_of_lt {a : Nat} (h : a < 0x1000) : ¬ EventReg a := by
  rintro (⟨k, _, rfl⟩ | rfl | ⟨n, _, rfl⟩ | ⟨n, _, _, rfl⟩ | ⟨w, _, rfl⟩)
  · simp only [A.EVT_STAT] at h; omega
  · simp only [F.EVT_DROP, A.EVT_DROP] at h; omega
  · simp only [A.GLB_RIDX] at h; omega
  · simp only [F.HWR_EVOVF, A.HWR_EVOVF] at h; omega
  · simp only [A.MSIX_PBA] at h; omega

theorem ringStep_regs_agree {p : Nat → Prop} (s : State) {n : Nat} (h : p (A.GLB_RIDX n)) : RegsAgreeOff p s (s.ringStep n) :=
  regsAgreeOff_trans (regsAgreeOff_of_regs_eq rfl) (regsAgreeOff_put (f := F.GLB_RIDX_DEVIDX n) _ h)

theorem msix_regs_agree {p : Nat → Prop} (s : State) {fn v : Nat} (h : p (pbaBit fn v).addr) : RegsAgreeOff p s (s.msix fn v) :=
  regsAgreeOff_ite (regsAgreeOff_put _ h) (regsAgreeOff_of_regs_eq rfl)

theorem signal_regs_agree {p : Nat → Prop} (s : State) {v : Nat} (h : p (pbaBit 0 v).addr) : RegsAgreeOff p s (s.signal v) := by
  unfold State.signal
  split
  · exact msix_regs_agree _ h
  · split
    · exact regsAgreeOff_of_regs_eq rfl
    · exact regsAgreeOff_trans (regsAgreeOff_of_regs_eq rfl) (msix_regs_agree _ h)

theorem writeRecord_regs_agree (s : State) {n : Nat} (r : EvRec) (h : n < 256) : RegsAgreeOff EventReg s (s.writeRecord n r) :=
  have hv : s.get (F.EVT_GMAP_VEC (r.evnum / 8)) < 64 := get_lt s (F.EVT_GMAP_VEC (r.evnum / 8))
  regsAgreeOff_trans (regsAgreeOff_trans (regsAgreeOff_of_regs_eq rfl) (ringStep_regs_agree _ (eventReg_ridx h)))
    (signal_regs_agree _ (eventReg_pba hv))

theorem recordEvent_regs_agree (s : State) (r : EvRec) : RegsAgreeOff EventReg s (s.recordEvent r) :=
  have hn : s.get (F.EVT_GMAP_RING (r.evnum / 8)) < 256 := get_lt s (F.EVT_GMAP_RING (r.evnum / 8))
  regsAgreeOff_ite (regsAgreeOff_bump eventReg_drop) (regsAgreeOff_ite (writeRecord_regs_agree s r hn)
    (regsAgreeOff_ite (regsAgreeOff_of_regs_eq rfl)
      (regsAgreeOff_trans (regsAgreeOff_of_regs_eq rfl) (regsAgreeOff_bump eventReg_drop))))

theorem dispatch_regs_agree (s : State) (r : EvRec) (grantee : Nat) : RegsAgreeOff EventReg s (s.dispatch r grantee) := by
  have hm : ∀ t : State, ∀ o : Out, RegsAgreeOff EventReg t (t.emit o) := fun _ _ => regsAgreeOff_of_regs_eq rfl
  have ho : ∀ o : Out, RegsAgreeOff EventReg s (if s.ownerFid = 0 then s else s.emit o) := fun o =>
    regsAgreeOff_ite (regsAgreeOff_refl _ _) (hm s o)
  exact regsAgreeOff_ite (recordEvent_regs_agree s r) (regsAgreeOff_ite (hm s _)
    (regsAgreeOff_ite (ho _) (regsAgreeOff_trans (ho _) (hm _ _))))

theorem raiseCore_regs_agree (s : State) {r : EvRec} (grantee : Nat) (h : r.evnum < 512) :
    RegsAgreeOff EventReg s (s.raiseCore r grantee) :=
  regsAgreeOff_trans (regsAgreeOff_put _ (eventReg_stat (by omega)))
    (regsAgreeOff_ite (regsAgreeOff_refl _ _) (dispatch_regs_agree _ _ _))

theorem subscribe1_regs_agree {p : Nat → Prop} (s : State) {n : Nat} (r : EvRec) (h : p (F.HWR_EVOVF n).addr) :
    RegsAgreeOff p s (s.subscribe1 n r) := by
  unfold State.subscribe1
  split
  · exact regsAgreeOff_refl _ _
  · split
    · exact regsAgreeOff_of_regs_eq rfl
    · exact regsAgreeOff_bump h

theorem subscribed_regs_agree (s : State) (r : EvRec) : RegsAgreeOff EventReg s (s.subscribed r) :=
  regsAgreeOff_foldl _ (fun t _ hn => subscribe1_regs_agree t r (eventReg_evovf hn)) s

theorem raiseBytes_regs_agree (s : State) {ev : Nat} (masked : Bool) (grantee : Nat) (data : List (BitVec 8)) (h : ev < 512) :
    RegsAgreeOff EventReg s (s.raiseBytes ev masked grantee data) := by
  have hr : ∀ (t : State) (r : EvRec) (g : Nat), r.evnum < 512 → RegsAgreeOff EventReg t ((t.raiseCore r g).subscribed r) :=
    fun t r g hr => regsAgreeOff_trans (raiseCore_regs_agree t g hr) (subscribed_regs_agree _ _)
  exact regsAgreeOff_ite (regsAgreeOff_refl _ _) (regsAgreeOff_trans (hr _ _ _ h)
    (regsAgreeOff_foldl _ (fun u n _ => regsAgreeOff_ite (hr u _ 0 (by simp [State.eventOf])) (regsAgreeOff_refl _ _)) _))

theorem raise_regs_agree (s : State) {g bit : Nat} (vals : List Nat) (h : 8 * g + bit < 512) :
    RegsAgreeOff EventReg s (s.raise g bit vals) := raiseBytes_regs_agree _ _ _ _ h

/-- A count changes its register and, through the event of a first increment, those an event changes. -/
theorem tally_regs_agree (s : State) (f : Fld) : RegsAgreeOff (fun a => a = f.addr ∨ EventReg a) s (s.tally f) := by
  have hb : RegsAgreeOff (fun a => a = f.addr ∨ EventReg a) s (s.bump f) := regsAgreeOff_bump (.inl rfl)
  exact regsAgreeOff_ite (regsAgreeOff_trans hb (regsAgreeOff_mono (fun _ => .inr) (raise_regs_agree _ _ (by decide)))) hb

/-- A tally counts one, and stops at its largest value (R101). -/
theorem tally_get_same (s : State) {f : Fld} (hf : f.lo + f.width ≤ 32) (he : ¬ EventReg f.addr) :
    (s.tally f).get f = min (s.get f + 1) (2 ^ f.width - 1) := by
  unfold State.tally
  split
  · rw [get_of_regsAgreeOff (raise_regs_agree _ _ (by decide)) he, bump_get_same s hf]
  · exact bump_get_same s hf

/-! ### One word on the bus (R504) -/

/-- An aligned access of four bytes touches its word alone. -/
theorem wordsOf_word {a : Nat} (h : a % 4 = 0) : wordsOf a 4 = [(a, a, a + 4)] := by
  have h0 : (a + 3) / 4 = a / 4 := by omega
  have h1 : a / 4 * 4 = a := by omega
  simp [wordsOf, h0, h1]

theorem writeBytes_word (s : State) (r : Req) {a : Nat} (v : Word) (h : a % 4 = 0) :
    s.writeBytes r a 4 (BitVec.ofNat 64 v.toNat) = s.busWrite r a v := by
  have hv : v.toNat % 18446744073709551616 = v.toNat := Nat.mod_eq_of_lt (by have := v.isLt; omega)
  simp [State.writeBytes, wordsOf_word h, hv]

theorem readBytes_word (s : State) (r : Req) {a : Nat} (h : a % 4 = 0) :
    s.readBytes r a 4 = ((s.readBus r a).1, (List.range 4).map fun i => bitsOf (s.readBus r a).2 (8 * i) 8) := by
  simp [State.readBytes, wordsOf_word h]

/-- The download window lies above the first 8 MiB, where the registers of the device are (R75). -/
theorem inWindow_of_lt (s : State) (r : Req) {a : Nat} (h : a < 0x800000) : s.inWindow r a = false := by
  have : ¬ 0x800000 ≤ a := by omega
  simp [State.inWindow, this]

theorem inBar2_of_lt {a : Nat} (h : a < 0x800000) : inBar2 a = false := by
  have : ¬ 0x2000000 ≤ a := by omega
  simp [inBar2, this]

/-- A write by a party that may control the device: taken now in the Core domain and in a block that is Off, posted elsewhere (R23, R109). -/
theorem busWrite_of_mayControl {s : State} {r : Req} {a : Nat} {b : Blk} {n o : Nat} (v : Word) (hr : r ≠ .smbus)
    (hopen : s.busOpen r = true) (hmay : s.mayControl r = true) (hshut : s.shut r a = false) (ha : a < 0x800000)
    (hb : blockOf a = some (b, n, o)) :
    s.busWrite r a v =
      if crossDomain b ∧ !(s.offBlock b) then s.ctlM fun k => { k with posted := k.posted ++ [{ req := r, addr := a, data := v }] }
      else s.applyWrite r a v := by
  simp [State.busWrite, State.judged, hr, hopen, hmay, hshut, hb, inWindow_of_lt s r ha, inBar2_of_lt ha]

/-- The full personality hides no register from a host. -/
theorem shut_of_full {s : State} (h : s.boot.pers = 2) (r : Req) (a : Nat) : s.shut r a = false := by
  simp [State.shut, h]

/-- A register of GLB answers in every role. -/
theorem regHere_glb (s : State) {a n o : Nat} (hb : blockOf a = some (.glb, n, o)) : s.regHere a = regAt a := by
  simp [State.regHere, hb, State.offBlock]

theorem applyWrite_glb (s : State) (r : Req) {a n o : Nat} {d : RegDesc} (v : Word) (hb : blockOf a = some (.glb, n, o))
    (hd : regAt a = some d) : s.applyWrite r a v = s.regWrite r .glb n o a d v := by
  simp [State.applyWrite, hb, regHere_glb s hb, hd, State.blkHeld]

/-! ### The registers of the statement -/

theorem blockOf_ownprio : blockOf A.GLB_OWNPRIO = some (.glb, 0, 0x68) := by decide
theorem blockOf_id : blockOf A.GLB_ID = some (.glb, 0, 0) := by decide
theorem blockOf_timCtrl : blockOf A.TIM_CTRL = some (.tim, 0, 0) := by decide
theorem blockOf_dsticks : blockOf A.LANT_DSTICKS = some (.lant, 0, 8) := by decide

theorem regAt_ownprio : regAt A.GLB_OWNPRIO = some ⟨0x68, 1, 0, 1, 0, [⟨0, 8, .rw, 128⟩]⟩ := by decide
theorem regAt_id : regAt A.GLB_ID = some ⟨0x0, 1, 0, 1, 0, [⟨0, 8, .ro, 161⟩, ⟨8, 2, .ro, 0⟩, ⟨16, 16, .ro, 2112⟩]⟩ := by decide

/-! ### Writes -/

theorem exec_writeRegister (s : State) (r : Req) (a size : Nat) (v : BitVec 64) :
    exec (.writeRegister r a size v) s = .next (s.writeBytes r a size v) := rfl

/-- An aligned four-byte write by the host of an owner, under the full personality. -/
theorem writeBytes_of_owner {s : State} {a : Nat} {b : Blk} {n o : Nat} (v : Word) (hopen : s.busOpen .host = true)
    (hfull : s.boot.pers = 2) (hmay : s.mayControl .host = true) (hw : a % 4 = 0) (ha : a < 0x800000)
    (hb : blockOf a = some (b, n, o)) :
    s.writeBytes .host a 4 (BitVec.ofNat 64 v.toNat) =
      if crossDomain b ∧ !(s.offBlock b) then s.ctlM fun k => { k with posted := k.posted ++ [{ req := .host, addr := a, data := v }] }
      else s.applyWrite .host a v := by
  rw [writeBytes_word s .host v hw, busWrite_of_mayControl v (by decide) hopen hmay (shut_of_full hfull _ _) ha hb]

/-- GLB_OWNPRIO takes its one field (R10). -/
theorem applyWrite_ownprio (s : State) (r : Req) (v : Word) :
    s.applyWrite r A.GLB_OWNPRIO v = s.put F.GLB_OWNPRIO_PRIO (bitsOf v 0 8) :=
  applyWrite_glb s r v blockOf_ownprio regAt_ownprio

/-- GLB_ID has no writable field: the write is ignored and counted (R12). -/
theorem applyWrite_id (s : State) (r : Req) (v : Word) : s.applyWrite r A.GLB_ID v = s.tally F.GLB_IGNWR :=
  applyWrite_glb s r v blockOf_id regAt_id

theorem ownprioWrite_sets_prio (s : State) (v : Word) (hopen : s.busOpen .host = true) (hfull : s.boot.pers = 2)
    (hmay : s.mayControl .host = true) :
    Does (.writeRegister .host A.GLB_OWNPRIO 4 (BitVec.ofNat 64 v.toNat)) s fun t =>
      t.get F.GLB_OWNPRIO_PRIO = bitsOf v 0 8 ∧ RegsAgreeOff (fun a => a = A.GLB_OWNPRIO) s t ∧ t.outs = s.outs := by
  refine ⟨_, exec_writeRegister s _ _ _ _, ?_⟩
  have hwrite : s.writeBytes .host A.GLB_OWNPRIO 4 (BitVec.ofNat 64 v.toNat) = s.put F.GLB_OWNPRIO_PRIO (bitsOf v 0 8) :=
    (writeBytes_of_owner v hopen hfull hmay (by decide) (by decide) blockOf_ownprio).trans (applyWrite_ownprio s .host v)
  rw [hwrite]
  refine ⟨?_, regsAgreeOff_put _ rfl, rfl⟩
  rw [get_put_same s _ (by decide)]
  exact Nat.mod_eq_of_lt (bitsOf_lt v 0 8)

theorem idWrite_counted (s : State) (v : Word) (hopen : s.busOpen .host = true) (hfull : s.boot.pers = 2)
    (hmay : s.mayControl .host = true) :
    Does (.writeRegister .host A.GLB_ID 4 (BitVec.ofNat 64 v.toNat)) s fun t =>
      t.rd A.GLB_ID = s.rd A.GLB_ID ∧ t.get F.GLB_IGNWR = min (s.get F.GLB_IGNWR + 1) (2 ^ 32 - 1) := by
  refine ⟨_, exec_writeRegister s _ _ _ _, ?_⟩
  have hwrite : s.writeBytes .host A.GLB_ID 4 (BitVec.ofNat 64 v.toNat) = s.tally F.GLB_IGNWR :=
    (writeBytes_of_owner v hopen hfull hmay (by decide) (by decide) blockOf_id).trans (applyWrite_id s .host v)
  rw [hwrite]
  have hid : ¬ (A.GLB_ID = F.GLB_IGNWR.addr ∨ EventReg A.GLB_ID) :=
    not_or.2 ⟨by decide, not_eventReg_of_lt (by decide)⟩
  exact ⟨tally_regs_agree s _ _ hid, tally_get_same s (by decide) (not_eventReg_of_lt (by decide))⟩

theorem timCtrlWrite_posted (s : State) (v : Word) (hopen : s.busOpen .host = true) (hfull : s.boot.pers = 2)
    (hmay : s.mayControl .host = true) :
    Does (.writeRegister .host A.TIM_CTRL 4 (BitVec.ofNat 64 v.toNat)) s fun t =>
      t = s.ctlM fun k => { k with posted := k.posted ++ [{ req := .host, addr := A.TIM_CTRL, data := v }] } := by
  have hcross : crossDomain .tim ∧ !(s.offBlock .tim) := ⟨by decide, rfl⟩
  exact ⟨_, exec_writeRegister s _ _ _ _,
    (writeBytes_of_owner v hopen hfull hmay (by decide) (by decide) blockOf_timCtrl).trans (if_pos hcross)⟩

/-- A posted write that no earlier one of its requester to its block precedes takes effect (R23). -/
theorem postedWrite_takes_effect {s : State} {k : Nat} {p : PostedWrite} (hup : s.up = true) (hp : s.ctl.posted[k]? = some p)
    (hfirst : ∀ q ∈ s.ctl.posted.take k, q.req ≠ p.req ∨ q.blk ≠ p.blk) :
    Does (.crossDomainWriteEffect k) s fun t =>
      t = State.applyWrite (s.ctlM fun c => { c with posted := c.posted.eraseIdx k }) p.req p.addr p.data := by
  have hnone : ((s.ctl.posted.take k).any fun q => q.req == p.req && q.blk == p.blk) = false := by
    rw [List.any_eq_false]
    intro q hq hsame
    obtain ⟨hreq, hblk⟩ := by simpa using hsame
    exact (hfirst q hq).elim (· hreq) (· hblk)
  refine ⟨_, rfl, ?_⟩
  rw [whenUp_of hup]
  simp [hp, hnone]

/-! ### Reads (R24) -/

/-- A word of the Lantern, as every path but SMBus sees it outside a snapshot's view (R25). -/
theorem readWord_lant {s : State} {r : Req} {a : Nat} (ha : isLant a = true) (hr : r ≠ .smbus)
    (hview : s.bit F.GLB_SNAP_VIEW = false) : s.readWord r a = s.mirrorWord a := by
  simp [State.readWord, ha, hr, hview]

/-- A register read by the host under the full personality, with nothing posted. -/
theorem readBus_of_open {s : State} {a : Nat} (hopen : s.busOpen .host = true) (hfull : s.boot.pers = 2)
    (hposted : s.ctl.posted = []) (ha : a < 0x800000) :
    s.readBus .host a = ((s.readActs a).latch .host a, (s.heldHigh .host a).getD (s.readValue .host a)) := by
  simp [State.readBus, hopen, inWindow_of_lt s .host ha, shut_of_full hfull, hposted]

theorem readActs_dsticks (s : State) : s.readActs A.LANT_DSTICKS = s := by
  simp [State.readActs, blockOf_dsticks]

theorem readValue_dsticks {s : State} (hview : s.bit F.GLB_SNAP_VIEW = false) :
    s.readValue .host A.LANT_DSTICKS = s.mirrorWord A.LANT_DSTICKS := by
  simp [State.readValue, blockOf_dsticks, readActs_dsticks, readWord_lant (a := A.LANT_DSTICKS) rfl _ hview]

/-- A read of the low word latches the high word for its path, in place of what the path held. -/
theorem heldHigh_latch_dsticks (s : State) (r : Req) :
    (s.latch r A.LANT_DSTICKS).heldHigh r A.LANT_DSTICKSHI = some (s.readWord r A.LANT_DSTICKSHI) := by
  have hgone : ((s.ctl.holds.filter fun h => h.req != r).find? fun h => h.req == r && h.addr == A.LANT_DSTICKSHI) = none := by
    simp +contextual [List.find?_eq_none]
  simp [State.latch, highWords, State.heldHigh, List.find?_append, hgone]

theorem readBus_dsticks {s : State} (hopen : s.busOpen .host = true) (hfull : s.boot.pers = 2) (hposted : s.ctl.posted = [])
    (hview : s.bit F.GLB_SNAP_VIEW = false) (hheld : s.heldHigh .host A.LANT_DSTICKS = none) :
    s.readBus .host A.LANT_DSTICKS = (s.latch .host A.LANT_DSTICKS, s.mirrorWord A.LANT_DSTICKS) := by
  rw [readBus_of_open hopen hfull hposted (by decide), readActs_dsticks, hheld, readValue_dsticks hview]
  rfl

theorem latch_leaves (s : State) (r : Req) (a : Nat) : Leaves [.ctl] s (s.latch r a) :=
  leaves_ite (ctlM_leaves _ _) (ctlM_leaves _ _)

theorem dsticksRead_latches {s : State} (hopen : s.busOpen .host = true) (hfull : s.boot.pers = 2) (hposted : s.ctl.posted = [])
    (hview : s.bit F.GLB_SNAP_VIEW = false) (hheld : s.heldHigh .host A.LANT_DSTICKS = none) :
    Does (.wideCounterLowRead .host A.LANT_DSTICKS 4) s fun t =>
      t.heldHigh .host A.LANT_DSTICKSHI = some (s.mirrorWord A.LANT_DSTICKSHI) ∧ t.regs = s.regs ∧
      t.outs = s.outs ++ [.readData .host ((List.range 4).map fun i => bitsOf (s.mirrorWord A.LANT_DSTICKS) (8 * i) 8)] := by
  have hregs : (s.latch .host A.LANT_DSTICKS).regs = s.regs := latch_leaves s _ _ .regs (by decide)
  obtain ⟨houts, -, -⟩ := latch_leaves s .host A.LANT_DSTICKS .outs (by decide)
  refine ⟨_, rfl, ?_⟩
  rw [readBytes_word s .host (by decide), readBus_dsticks hopen hfull hposted hview hheld]
  refine ⟨?_, hregs, congrArg (· ++ _) houts⟩
  exact (heldHigh_latch_dsticks s .host).trans (congrArg some (readWord_lant rfl (by decide) hview))

/-! ### The snapshot (R26, R28) -/

theorem ns_lt (s : State) : s.ns < 2 ^ 30 := Nat.lt_trans (Nat.mod_lt _ (by decide)) (by decide)

/-- TAKE while no capture runs: VIEW is as written, the capture and its taker are kept, then BUSY, SEC and NS are set. -/
theorem writeSnap_take {s : State} (r : Req) {v : Word} (htake : bitsOf v 0 1 = 1) (hbusy : s.bit F.GLB_SNAP_BUSY = false) :
    ∃ u : State, s.writeSnap r v = ((u.put F.GLB_SNAP_BUSY 1).put F.GLB_SNAP_SEC_SEC s.sec).put F.GLB_SNAP_NS_NS s.ns ∧
      u.regs = (s.put F.GLB_SNAP_VIEW (bitsOf v 1 1)).regs ∧ u.ctl.snapTaker = s.reqFid r :=
  have hnotake : ¬ bitsOf v 0 1 = 0 := by omega
  ⟨_, (if_neg hnotake).trans (if_neg (by simp [hbusy])), rfl, rfl⟩

theorem get_of_regs_eq {s t : State} (h : t.regs = s.regs) (f : Fld) : t.get f = s.get f := by
  simp only [State.get, State.rd, h]

/-- What a capture that starts leaves in GLB_SNAP, GLB_SNAP_SEC and GLB_SNAP_NS. -/
theorem writeSnap_take_effect {s : State} (r : Req) {v : Word} (htake : bitsOf v 0 1 = 1) (hbusy : s.bit F.GLB_SNAP_BUSY = false) :
    (s.writeSnap r v).get F.GLB_SNAP_BUSY = 1 ∧ (s.writeSnap r v).get F.GLB_SNAP_VIEW = bitsOf v 1 1 ∧
      (s.writeSnap r v).get F.GLB_SNAP_SEC_SEC = s.sec % 2 ^ 32 ∧ (s.writeSnap r v).get F.GLB_SNAP_NS_NS = s.ns ∧
      (s.writeSnap r v).ctl.snapTaker = s.reqFid r ∧
      RegsAgreeOff (fun a => a = A.GLB_SNAP ∨ a = A.GLB_SNAP_SEC ∨ a = A.GLB_SNAP_NS) s (s.writeSnap r v) := by
  obtain ⟨u, hu, hregs, htaker⟩ := writeSnap_take r htake hbusy
  rw [hu]
  refine ⟨?busy, ?view, ?sec, ?ns, htaker, ?frame⟩
  case busy =>
    rw [get_put_other _ _ (by decide) (.inl (by decide)), get_put_other _ _ (by decide) (.inl (by decide)),
      get_put_same _ _ (by decide)]
    rfl
  case view =>
    rw [get_put_other _ _ (by decide) (.inl (by decide)), get_put_other _ _ (by decide) (.inl (by decide)),
      get_put_other _ _ (by decide) (.inr (by decide)), get_of_regs_eq hregs, get_put_same s _ (by decide)]
    exact Nat.mod_eq_of_lt (bitsOf_lt v 1 1)
  case sec => rw [get_put_other _ _ (by decide) (.inl (by decide)), get_put_same _ _ (by decide)]; rfl
  case ns => rw [get_put_same _ _ (by decide)]; exact Nat.mod_eq_of_lt (ns_lt s)
  case frame =>
    exact regsAgreeOff_trans (regsAgreeOff_trans (regsAgreeOff_trans (regsAgreeOff_trans (regsAgreeOff_put _ (.inl rfl))
      (regsAgreeOff_of_regs_eq hregs)) (regsAgreeOff_put _ (.inl rfl))) (regsAgreeOff_put _ (.inr (.inl rfl))))
      (regsAgreeOff_put _ (.inr (.inr rfl)))

/-- SNAP_TAKE writes GLB_SNAP with TAKE set, and VIEW as given. -/
theorem exec_snapTake_of_open {s : State} {r : Req} (view : Bool) (hopen : s.busOpen r = true) (hr : r ≠ .smbus) :
    exec (.snapTake r view) s = .next (s.writeSnap r (if view then 3 else 1)) :=
  congrArg Host.Outcome.next (if_neg (by simp [hopen, hr]))

theorem exec_snapTake_of_closed {s : State} {r : Req} (view : Bool) (hopen : s.busOpen r = false) :
    exec (.snapTake r view) s = .next s :=
  congrArg Host.Outcome.next (if_pos (by simp [hopen]))

theorem snapTake_captures {s : State} {r : Req} (view : Bool) (hopen : s.busOpen r = true) (hr : r ≠ .smbus)
    (hbusy : s.bit F.GLB_SNAP_BUSY = false) :
    Does (.snapTake r view) s fun t =>
      t.bit F.GLB_SNAP_BUSY = true ∧ t.bit F.GLB_SNAP_VIEW = view ∧ t.get F.GLB_SNAP_SEC_SEC = s.sec % 2 ^ 32 ∧
      t.get F.GLB_SNAP_NS_NS = s.ns ∧ t.ctl.snapTaker = s.reqFid r ∧
      RegsAgreeOff (fun a => a = A.GLB_SNAP ∨ a = A.GLB_SNAP_SEC ∨ a = A.GLB_SNAP_NS) s t := by
  have htake : bitsOf (if view then 3 else 1) 0 1 = 1 := by cases view <;> decide
  obtain ⟨hb, hv, hsec, hns, htaker, hframe⟩ := writeSnap_take_effect r htake hbusy
  refine ⟨_, exec_snapTake_of_open view hopen hr, ?_, ?_, hsec, hns, htaker, hframe⟩
  · rw [State.bit, hb]
    rfl
  · rw [State.bit, hv]
    cases view <;> decide

theorem exec_snapCaptureDone {s : State} (hup : s.up = true) (hbusy : s.bit F.GLB_SNAP_BUSY = true) :
    exec .snapCaptureDone s = .next (((s.put F.GLB_SNAP_BUSY 0).put F.GLB_SNAP_SEQ (s.get F.GLB_SNAP_SEQ + 1)).put
      F.GLB_SNAP_TAKER s.ctl.snapTaker) :=
  congrArg Host.Outcome.next ((whenUp_of hup _).trans (if_pos hbusy))

/-- The end of a capture (R28): each field of GLB_SNAP is apart from the others. -/
theorem snapCaptureDone_effect {s : State} (hup : s.up = true) (hbusy : s.bit F.GLB_SNAP_BUSY = true) :
    Does .snapCaptureDone s fun t =>
      t.bit F.GLB_SNAP_BUSY = false ∧ t.get F.GLB_SNAP_SEQ = (s.get F.GLB_SNAP_SEQ + 1) % 256 ∧
      t.get F.GLB_SNAP_TAKER = s.ctl.snapTaker % 64 ∧ t.bit F.GLB_SNAP_VIEW = s.bit F.GLB_SNAP_VIEW ∧
      RegsAgreeOff (fun a => a = A.GLB_SNAP) s t ∧ t.outs = s.outs := by
  refine ⟨_, exec_snapCaptureDone hup hbusy, ?busy, ?seq, ?taker, ?view, ?frame, rfl⟩
  case busy =>
    rw [State.bit, get_put_other _ _ (by decide) (.inr (by decide)), get_put_other _ _ (by decide) (.inr (by decide)),
      get_put_same s _ (by decide)]
    rfl
  case seq => rw [get_put_other _ _ (by decide) (.inr (by decide)), get_put_same _ _ (by decide)]; rfl
  case taker => rw [get_put_same _ _ (by decide)]; rfl
  case view =>
    rw [State.bit, get_put_other _ _ (by decide) (.inr (by decide)), get_put_other _ _ (by decide) (.inr (by decide)),
      get_put_other _ _ (by decide) (.inr (by decide)), State.bit]
  case frame =>
    exact regsAgreeOff_trans (regsAgreeOff_trans (regsAgreeOff_put _ rfl) (regsAgreeOff_put _ rfl)) (regsAgreeOff_put _ rfl)

theorem lanternMirrorUpdate_mirrors {s : State} (hup : s.up = true) :
    Does .lanternMirrorUpdate s fun t => t = s.ctlM fun k => { k with mirror := s.lantNow } :=
  ⟨_, rfl, whenUp_of hup _⟩

/-- Settles O7: clause by clause, the equation of the write, read or capture, and the rules of the fields it sets. -/
theorem registerRows : Obligations.RegisterRows :=
  ⟨ownprioWrite_sets_prio, idWrite_counted, timCtrlWrite_posted,
    fun _ _ _ hup hp hfirst => postedWrite_takes_effect hup hp hfirst,
    fun _ hopen hfull hposted hview hheld => dsticksRead_latches hopen hfull hposted hview hheld,
    fun _ _ view hopen hr hbusy => snapTake_captures view hopen hr hbusy,
    fun _ _ view hopen => exec_snapTake_of_closed view hopen,
    fun _ hup hbusy => snapCaptureDone_effect hup hbusy,
    fun _ hup => lanternMirrorUpdate_mirrors hup⟩

end Sys2Proof.Proofs
end

section
/-! SUPPORT. Frames as rewriting: each operation of the state is stripped from a goal `Leaves l s _` whose list `l` names the parts it
touches. -/

namespace Sys2Proof.Proofs

open Sys2Proof.Machine Sys2Proof.Laws

/-! ### Leaving the rest as it was is an equivalence -/

theorem leaves_symm {l : List Part} {s t : State} (h : Leaves l s t) : Leaves l t s := by
  intro p hp
  have hk := h p hp
  cases p <;> first | exact Eq.symm hk | exact ⟨hk.1.symm, hk.2.1.symm, hk.2.2.symm⟩

/-- An operation that touches listed parts alone may be stripped. -/
theorem leaves_congr {l m : List Part} {s t u : State} (h : Leaves m t u) (hm : m ⊆ l) : Leaves l s u ↔ Leaves l s t :=
  ⟨fun hu => leaves_trans hu (leaves_symm (leaves_mono hm h)), fun ht => leaves_trans ht (leaves_mono hm h)⟩

/-- The case of an operation that touches one part. -/
theorem leaves_congr_one {l : List Part} {q : Part} {s t u : State} (h : Leaves [q] t u) (hq : q ∈ l) : Leaves l s u ↔ Leaves l s t :=
  leaves_congr h (by simpa using hq)

@[simp] theorem leaves_self (l : List Part) (s : State) : Leaves l s s := leaves_refl l s

@[simp] theorem leaves_ite_iff {l : List Part} {s t u : State} {c : Prop} [Decidable c] :
    Leaves l s (if c then t else u) ↔ (c → Leaves l s t) ∧ (¬ c → Leaves l s u) := by
  split <;> simp [*]

@[simp] theorem leaves_foldl_iff {α : Type} {l : List Part} {s t : State} {g : State → α → State} (as : List α)
    (h : ∀ u a, Leaves l u (g u a)) : Leaves l s (as.foldl g t) ↔ Leaves l s t :=
  leaves_congr (leaves_foldl h as t) (List.Subset.refl l)

/-! ### Operations that touch one part -/

section
variable {l : List Part} {s t : State}

@[simp] theorem leaves_wr {a : Nat} {v : Word} (h : .regs ∈ l) : Leaves l s (t.wr a v) ↔ Leaves l s t :=
  leaves_congr_one (wr_leaves _ _ _) h

@[simp] theorem leaves_put {f : Fld} {v : Nat} (h : .regs ∈ l) : Leaves l s (t.put f v) ↔ Leaves l s t := leaves_wr h

@[simp] theorem leaves_putBit {f : Fld} {b : Bool} (h : .regs ∈ l) : Leaves l s (t.putBit f b) ↔ Leaves l s t := leaves_put h

@[simp] theorem leaves_addMod {f : Fld} {n : Nat} (h : .regs ∈ l) : Leaves l s (t.addMod f n) ↔ Leaves l s t := leaves_put h

@[simp] theorem leaves_bump {f : Fld} (h : .regs ∈ l) : Leaves l s (t.bump f) ↔ Leaves l s t := leaves_congr_one (bump_leaves _ _) h

@[simp] theorem leaves_emit {o : Out} (h : .outs ∈ l) : Leaves l s (t.emit o) ↔ Leaves l s t := leaves_congr_one (emit_leaves _ _) h

@[simp] theorem leaves_emits {os : List Out} (h : .outs ∈ l) : Leaves l s (t.emits os) ↔ Leaves l s t :=
  leaves_congr_one (emits_leaves _ _) h

@[simp] theorem leaves_ctlM {g : CtlSt → CtlSt} (h : .ctl ∈ l) : Leaves l s (t.ctlM g) ↔ Leaves l s t :=
  leaves_congr_one (ctlM_leaves _ _) h

@[simp] theorem leaves_hewM {g : HewSt → HewSt} (h : .hew ∈ l) : Leaves l s (t.hewM g) ↔ Leaves l s t :=
  leaves_congr_one (hewM_leaves _ _) h

@[simp] theorem leaves_bootM {g : BootSt → BootSt} (h : .boot ∈ l) : Leaves l s (t.bootM g) ↔ Leaves l s t :=
  leaves_congr_one (by rintro ⟨⟩ <;> simp [Part.kept]) h

@[simp] theorem leaves_ownM {g : OwnSt → OwnSt} (h : .own ∈ l) : Leaves l s (t.ownM g) ↔ Leaves l s t :=
  leaves_congr_one (by rintro ⟨⟩ <;> simp [Part.kept]) h

@[simp] theorem leaves_smbM {g : SmbSt → SmbSt} (h : .smb ∈ l) : Leaves l s (t.smbM g) ↔ Leaves l s t :=
  leaves_congr_one (by rintro ⟨⟩ <;> simp [Part.kept]) h

@[simp] theorem leaves_portM {p : Nat} {g : PortSt → PortSt} (h : .ports ∈ l) : Leaves l s (t.portM p g) ↔ Leaves l s t :=
  leaves_congr_one (by rintro ⟨⟩ <;> simp [Part.kept]) h

@[simp] theorem leaves_pcsM {p : Nat} {g : PcsSt → PcsSt} (h : .pcs ∈ l) : Leaves l s (t.pcsM p g) ↔ Leaves l s t :=
  leaves_congr_one (by rintro ⟨⟩ <;> simp [Part.kept]) h

@[simp] theorem leaves_linkM {p : Nat} {g : LinkSt → LinkSt} (h : .links ∈ l) : Leaves l s (t.linkM p g) ↔ Leaves l s t :=
  leaves_congr_one (by rintro ⟨⟩ <;> simp [Part.kept]) h

@[simp] theorem leaves_schM {p : Nat} {g : SchSt → SchSt} (h : .schs ∈ l) : Leaves l s (t.schM p g) ↔ Leaves l s t :=
  leaves_congr_one (by rintro ⟨⟩ <;> simp [Part.kept]) h

@[simp] theorem leaves_tunM {g : TunSt → TunSt} (h : .tun ∈ l) : Leaves l s (t.tunM g) ↔ Leaves l s t :=
  leaves_congr_one (by rintro ⟨⟩ <;> simp [Part.kept]) h

@[simp] theorem leaves_fabM {g : FabSt → FabSt} (h : .fab ∈ l) : Leaves l s (t.fabM g) ↔ Leaves l s t :=
  leaves_congr_one (by rintro ⟨⟩ <;> simp [Part.kept]) h

@[simp] theorem leaves_timM {g : TimSt → TimSt} (h : .tim ∈ l) : Leaves l s (t.timM g) ↔ Leaves l s t :=
  leaves_congr_one (by rintro ⟨⟩ <;> simp [Part.kept]) h

@[simp] theorem leaves_macM {n : Nat} {g : MacSt → MacSt} (h : .macs ∈ l) : Leaves l s (t.macM n g) ↔ Leaves l s t :=
  leaves_congr_one (by rintro ⟨⟩ <;> simp [Part.kept]) h

@[simp] theorem leaves_ksM {g : KeyStSt → KeyStSt} (h : .keys ∈ l) : Leaves l s (t.ksM g) ↔ Leaves l s t :=
  leaves_congr_one (by rintro ⟨⟩ <;> simp [Part.kept]) h

@[simp] theorem leaves_usbM {g : UsbSt → UsbSt} (h : .usb ∈ l) : Leaves l s (t.usbM g) ↔ Leaves l s t :=
  leaves_congr_one (by rintro ⟨⟩ <;> simp [Part.kept]) h

@[simp] theorem leaves_pdM {n : Nat} {g : PdSt → PdSt} (h : .pds ∈ l) : Leaves l s (t.pdM n g) ↔ Leaves l s t :=
  leaves_congr_one (by rintro ⟨⟩ <;> simp [Part.kept]) h

@[simp] theorem leaves_pwrM {g : PwrSt → PwrSt} (h : .pwr ∈ l) : Leaves l s (t.pwrM g) ↔ Leaves l s t :=
  leaves_congr_one (by rintro ⟨⟩ <;> simp [Part.kept]) h

@[simp] theorem leaves_crtM {g : CrtSt → CrtSt} (h : .crt ∈ l) : Leaves l s (t.crtM g) ↔ Leaves l s t :=
  leaves_congr_one (by rintro ⟨⟩ <;> simp [Part.kept]) h

end

end Sys2Proof.Proofs
end

section
/-! SUPPORT. What the boot ROM's first step does to the frame stores' content key, and the refutation of O60. -/

namespace Sys2Proof.Proofs

open Sys2Proof.Machine Sys2Proof.Laws

/-! ### Frames of the boot ROM's steps -/

section
variable {l : List Part} {s t : State}

@[simp] theorem leaves_keyRegs (h : .regs ∈ l) : Leaves l s t.keyRegs ↔ Leaves l s t := by simp [State.keyRegs, h]

@[simp] theorem leaves_setKey {n : Nat} {v : KeyVal} (h : [.regs, .keys] ⊆ l) : Leaves l s (t.setKey n v) ↔ Leaves l s t :=
  leaves_congr (by simp [State.setKey]) h

@[simp] theorem leaves_bootStop {st : Nat} (h : [.regs, .boot] ⊆ l) : Leaves l s (t.bootStop st) ↔ Leaves l s t :=
  leaves_congr (by simp [State.bootStop, State.presentFirst, State.present]) h

end

/-! ### The content key (R480) -/

/-- The content key that a root whose policy has CP gives the frame stores (R480), with its nonce. -/
def contentKey (r x : BitVec 256) : BitVec 256 :=
  BitVec.ofNat 256 (leNat (derive (leBytes 32 r.toNat) (label32 "DZ-STORE" (leBytes 24 x.toNat)) 32))

theorem setKey_draws (s : State) (n : Nat) (v : KeyVal) : (s.setKey n v).draws = s.draws :=
  (leaves_setKey (by simp)).2 (leaves_refl [.regs, .keys] s) .draws (by decide)

theorem loadRoot_store_key {s : State} {r : BitVec 256} {pol : Nat} (hr : s.rootKey = some (r, pol)) (hp : polBit pol 2 = true) :
    s.loadRoot.store.key = contentKey r (Config.freeRandom s.draws) := by
  simp only [State.loadRoot, hr, hp, if_true, State.draw, setKey_draws, contentKey]

theorem rootKey_of_provisioned {s : State} {r : BitVec 256} (hbad : s.keys.bad = []) (hlc : s.lcs = 1) (hr : s.keys.depRoot = some r) :
    s.rootKey = some (r, 0x7F) := by
  simp [State.rootKey, hbad, hlc, hr]

/-- The life-cycle registers and the unusable secrets, as step 1 of R69 leaves them where the OTP has no error. -/
def lampRegs (s : State) (st : Nat) : State :=
  ((((s.put F.KEY_LCS_CUR st).put F.KEY_LCS_BURNT st).put F.KEY_LCS_ROOT ([0, 1, 1, 2, 3].getD st 3)).putBit F.KEY_LCS_OTPERR false).ksM
    fun k => { k with bad := [] }

theorem lampStart_clean (s : State) : s.lampStart [] = (lampRegs s (lcOf s.keys.cells)).loadRoot := rfl

theorem lampRegs_lcs (s : State) {st : Nat} (h : st < 8) : (lampRegs s st).lcs = st := by
  unfold lampRegs State.lcs State.putBit
  rw [ksM_get, get_put_other _ _ (by decide) (.inr (by decide)), get_put_other _ _ (by decide) (.inr (by decide)),
    get_put_other _ _ (by decide) (.inr (by decide)), get_put_same _ _ (by decide)]
  exact Nat.mod_eq_of_lt h

theorem lampRegs_leaves (s : State) (st : Nat) : Leaves [.regs, .keys] s (lampRegs s st) := by simp [lampRegs]

/-- Step 1 of R69 gives the frame stores of a Provisioned device a new content key. -/
theorem lampStart_store_key {s : State} {r : BitVec 256} (hlc : lcOf s.keys.cells = 1) (hr : s.keys.depRoot = some r) :
    (s.lampStart []).store.key = contentKey r (Config.freeRandom s.draws) := by
  have hroot : (lampRegs s 1).rootKey = some (r, 0x7F) := rootKey_of_provisioned rfl (lampRegs_lcs s (by decide)) hr
  have hdraws : (lampRegs s 1).draws = s.draws := lampRegs_leaves s 1 .draws (by decide)
  rw [lampStart_clean, hlc, loadRoot_store_key hroot (by decide), hdraws]

/-! ### The counterexample -/

/-- A Provisioned device out of reset, its boot ROM yet to run, whose frame stores hold content key `k`. -/
def romDue (k : BitVec 256) : State :=
  { State.reset with
    boot := { BootSt.reset with held := false }
    keys := { KeyStSt.reset with cells := [48, 0, 0, 0], depRoot := some 0 }
    store := { slots := [], key := k } }

/-- BOOT_ROM_START without DRAM, after step 1 of R69, touches no more than the registers, the boot state and what goes out. -/
theorem bootRomStart_noDram_leaves {s t : State} (hheld : s.boot.held = false) (hwarm : s.boot.warmLow = false)
    (hdone : s.boot.romDone = false)
    (hx : exec (.bootRomStart [] false false 0 false 0 []) s = .next t) :
    Leaves [.regs, .boot, .outs]
      (((s.bootM fun b => { b with romDone := true }).putBit F.GLB_BOOT_BSTRAP (s.get F.GLB_STRAP_BOOT == 3)).lampStart []) t := by
  injection hx with hx
  subst hx
  simp [hheld, hwarm, hdone]

theorem lampStart_romDue_key (k : BitVec 256) :
    ((((romDue k).bootM fun b => { b with romDone := true }).putBit F.GLB_BOOT_BSTRAP ((romDue k).get F.GLB_STRAP_BOOT == 3)).lampStart
      []).store.key = contentKey 0 (Config.freeRandom 1) :=
  lampStart_store_key (r := 0) (by rw [putBit_keys, bootM_keys]; exact (by decide : lcOf [48, 0, 0, 0] = 1))
    (by rw [putBit_keys, bootM_keys]; rfl)

/-- Refutes O60: the boot ROM of a device whose root key has CP changes the frame stores, which the clause of BOOT_ROM_START does not
name. Step 1 of R69 puts the content key it derives (R480) in place of the one they held. -/
theorem not_unitFrames : ¬ Obligations.UnitFrames := by
  unfold Obligations.UnitFrames
  rintro ⟨-, -, -, hboot, -⟩
  let old : BitVec 256 := contentKey 0 (Config.freeRandom 1) + 1
  obtain ⟨t, hx, hframe⟩ := hboot (romDue old) [] false false 0 false 0 []
  have hsame : t.store = (romDue old).store := hframe .store (by decide)
  have hlamp := bootRomStart_noDram_leaves rfl rfl rfl hx .store (by decide)
  have hkey : old = contentKey 0 (Config.freeRandom 1) :=
    calc old = t.store.key := by rw [hsame]; rfl
      _ = contentKey 0 (Config.freeRandom 1) := by rw [show t.store = _ from hlamp, lampStart_romDue_key]
  exact absurd hkey (by simp [old])

end Sys2Proof.Proofs
end

section
/-! SUPPORT. Frames of the operations that the commands of at most four parts share, in the order of the model's chapters. -/

namespace Sys2Proof.Proofs

open Sys2Proof.Machine Sys2Proof.Laws

section
variable {l : List Part} {s t : State}

/-! ### Conditions under which a Hewer's command acts (chapter 18) -/

theorem anyMode_leaves {n : Nat} {g : State → State} (h : ∀ u, Leaves l u (g u)) : Leaves l s (s.anyMode n g) :=
  leaves_ite (leaves_refl _ _) (h _)

/-- A monitor call leaves what it leaves of a user Hewer that runs. -/
theorem monitor_leaves {n : Nat} {g : State → State} (h : ∀ u, Leaves l u (g u)) : Leaves l s (s.monitor n g) :=
  leaves_ite (h _) (leaves_refl _ _)

/-! ### Rings, events and completions (chapter 4) -/

@[simp] theorem leaves_setRing {r : RingSt} (h : .ctl ∈ l) : Leaves l s (t.setRing r) ↔ Leaves l s t := leaves_ctlM h

@[simp] theorem leaves_ringStep {n : Nat} (h : [.regs, .ctl] ⊆ l) : Leaves l s (t.ringStep n) ↔ Leaves l s t :=
  leaves_congr (by simp [State.ringStep]) h

@[simp] theorem leaves_take {c : HostCmd} (h : [.regs, .ctl] ⊆ l) : Leaves l s (t.take c) ↔ Leaves l s t :=
  leaves_congr (by simp [State.take]) h

@[simp] theorem leaves_msix {fn v : Nat} (h : [.regs, .outs] ⊆ l) : Leaves l s (t.msix fn v) ↔ Leaves l s t :=
  leaves_congr (msix_leaves t fn v) h

@[simp] theorem leaves_signal {v : Nat} (h : [.regs, .ctl, .outs] ⊆ l) : Leaves l s (t.signal v) ↔ Leaves l s t := by
  refine leaves_congr ?_ h
  unfold State.signal
  split
  · simp
  · split <;> simp

@[simp] theorem leaves_writeRecord {n : Nat} {r : EvRec} (h : [.regs, .ctl, .outs] ⊆ l) :
    Leaves l s (t.writeRecord n r) ↔ Leaves l s t := leaves_congr (by simp [State.writeRecord]) h

@[simp] theorem leaves_flushRecords {n : Nat} (h : [.regs, .ctl, .outs] ⊆ l) : Leaves l s (t.flushRecords n) ↔ Leaves l s t :=
  leaves_congr (by simp [State.flushRecords]) h

@[simp] theorem leaves_recordEvent {r : EvRec} (h : [.regs, .ctl, .outs] ⊆ l) : Leaves l s (t.recordEvent r) ↔ Leaves l s t :=
  leaves_congr (by simp [State.recordEvent]) h

@[simp] theorem leaves_dispatch {r : EvRec} {grantee : Nat} (h : [.regs, .ctl, .outs] ⊆ l) :
    Leaves l s (t.dispatch r grantee) ↔ Leaves l s t := leaves_congr (by simp [State.dispatch]) h

@[simp] theorem leaves_raiseBytes {ev grantee : Nat} {masked : Bool} {data : List (BitVec 8)} (h : [.regs, .ctl, .hew, .outs] ⊆ l) :
    Leaves l s (t.raiseBytes ev masked grantee data) ↔ Leaves l s t := leaves_congr (raiseBytes_leaves _ _ _ _ _) h

@[simp] theorem leaves_raiseWith {ev grantee : Nat} {masked : Bool} {vals : List Nat} (h : [.regs, .ctl, .hew, .outs] ⊆ l) :
    Leaves l s (t.raiseWith ev masked grantee vals) ↔ Leaves l s t := leaves_raiseBytes h

@[simp] theorem leaves_raise {g bit : Nat} {vals : List Nat} (h : [.regs, .ctl, .hew, .outs] ⊆ l) :
    Leaves l s (t.raise g bit vals) ↔ Leaves l s t := leaves_raiseWith h

@[simp] theorem leaves_tally {f : Fld} (h : [.regs, .ctl, .hew, .outs] ⊆ l) : Leaves l s (t.tally f) ↔ Leaves l s t :=
  leaves_congr (tally_leaves _ _) h

@[simp] theorem leaves_finish {k : InFlight} {code : Nat} {result : BitVec 448} (h : [.regs, .ctl, .hew, .outs] ⊆ l) :
    Leaves l s (t.finish k code result) ↔ Leaves l s t := leaves_congr (finish_leaves _ _ _ _) h

theorem onTarget_leaves {k : InFlight} {c : HostCmd} {here : State → State} (hl : [.regs, .ctl, .hew, .outs] ⊆ l)
    (hh : ∀ u, Leaves l u (here u)) : Leaves l s (s.onTarget k c here) :=
  leaves_ite (hh _) (leaves_ite ((leaves_finish hl).2 (leaves_refl _ _))
    (leaves_mono hl (leaves_trans (leaves_mono (by simp) (ctlM_leaves _ _)) (leaves_mono (by simp) (emit_leaves _ _)))))

/-- A command that only reads completes with its result, here or through a management request (R94). -/
theorem readCommand_leaves {op : Nat} {used : List (Nat × Nat × Nat)} {c : HostCmd} {read : State → State × Nat × BitVec 448}
    (h : ∀ u, (read u).1 = u) :
    Leaves eventParts s (s.command op false used c fun k u => u.onTarget k c fun v => State.answer k (read v)) :=
  command_leaves (List.Subset.refl _) fun k _ => onTarget_leaves (List.Subset.refl _) fun v => by
    rw [State.answer, h]
    exact finish_leaves v k _ _

theorem cartQuery_state (s : State) (who : Nat) (ops : BitVec 448) : (s.cartQuery who ops).1 = s := by
  unfold State.cartQuery
  dsimp only
  split <;> rfl

/-! ### Boot, ownership and SMBus (chapters 3 and 4) -/

@[simp] theorem leaves_reHold (h : .boot ∈ l) : Leaves l s t.reHold ↔ Leaves l s t := leaves_bootM h

@[simp] theorem leaves_smbAnswer {pre bytes : List Nat} (h : .outs ∈ l) : Leaves l s (t.smbAnswer pre bytes) ↔ Leaves l s t :=
  leaves_emit h

@[simp] theorem leaves_smbNack (h : .outs ∈ l) : Leaves l s t.smbNack ↔ Leaves l s t := leaves_emit h

@[simp] theorem leaves_alertRelease (h : [.smb, .outs] ⊆ l) : Leaves l s t.alertRelease ↔ Leaves l s t :=
  leaves_congr (by simp [State.alertRelease]) h

/-! ### Adit ports (chapter 5) -/

@[simp] theorem leaves_toDetect {p : Nat} (h : [.regs, .ports] ⊆ l) : Leaves l s (t.toDetect p) ↔ Leaves l s t :=
  leaves_congr (by simp [State.toDetect]) h

@[simp] theorem leaves_trainLane {p k : Nat} (h : [.ports, .outs] ⊆ l) : Leaves l s (t.trainLane p k) ↔ Leaves l s t :=
  leaves_congr (by simp [State.trainLane]) h

@[simp] theorem leaves_toTrain {p : Nat} (h : [.regs, .ports, .outs] ⊆ l) : Leaves l s (t.toTrain p) ↔ Leaves l s t :=
  leaves_congr (by simp [State.toTrain]) h

@[simp] theorem leaves_learnOne {p phys : Nat} (h : [.ports, .outs] ⊆ l) : Leaves l s (t.learnOne p phys) ↔ Leaves l s t :=
  leaves_congr (by simp [State.learnOne]) h

@[simp] theorem leaves_moveTaps {p k pre post : Nat} (h : [.regs, .ports] ⊆ l) :
    Leaves l s (t.moveTaps p k pre post) ↔ Leaves l s t := leaves_congr (by simp [State.moveTaps]) h

@[simp] theorem leaves_setRx {p m : Nat} (h : .regs ∈ l) : Leaves l s (t.setRx p m) ↔ Leaves l s t := by simp [State.setRx, h]

@[simp] theorem leaves_setTx {p m : Nat} (h : .regs ∈ l) : Leaves l s (t.setTx p m) ↔ Leaves l s t := by simp [State.setTx, h]

@[simp] theorem leaves_toLock {p rx tx : Nat} (h : [.regs, .ports, .pcs, .outs] ⊆ l) :
    Leaves l s (t.toLock p rx tx) ↔ Leaves l s t := leaves_congr (by simp [State.toLock, State.freshRx]) h

/-! ### The link layer (chapter 6) -/

@[simp] theorem leaves_creditAll {p : Nat} (h : .outs ∈ l) : Leaves l s (t.creditAll p) ↔ Leaves l s t := leaves_emits h

@[simp] theorem leaves_exitDim {p : Nat} (h : [.regs, .outs] ⊆ l) : Leaves l s (t.exitDim p) ↔ Leaves l s t :=
  leaves_congr (by simp [State.exitDim]) h

@[simp] theorem leaves_laneCtl {p mask kind arg : Nat} (h : [.regs, .outs] ⊆ l) :
    Leaves l s (t.laneCtl p mask kind arg) ↔ Leaves l s t := leaves_congr (by simp [State.laneCtl]) h

@[simp] theorem leaves_restripe {p on mask : Nat} (h : [.regs, .outs] ⊆ l) : Leaves l s (t.restripe p on mask) ↔ Leaves l s t :=
  leaves_congr (by simp [State.restripe]) h

@[simp] theorem leaves_flapEnd {p k : Nat} (h : [.regs, .ports] ⊆ l) : Leaves l s (t.flapEnd p k) ↔ Leaves l s t := by
  refine leaves_congr ?_ h
  unfold State.flapEnd
  split <;> simp

@[simp] theorem leaves_sendNak {p : Nat} (h : [.regs, .outs] ⊆ l) : Leaves l s (t.sendNak p) ↔ Leaves l s t :=
  leaves_congr (by simp [State.sendNak, State.sendLink]) h

/-! ### The map of tunnels and the scheduler (chapters 7 and 8) -/

@[simp] theorem leaves_takeMap {m : MapMsg} (h : [.regs, .tun] ⊆ l) : Leaves l s (t.takeMap m) ↔ Leaves l s t :=
  leaves_congr (by simp [State.takeMap, State.applyMap]) h

@[simp] theorem leaves_gapMap {new : Bool} {m : MapMsg} (h : [.regs, .tun] ⊆ l) : Leaves l s (t.gapMap new m) ↔ Leaves l s t :=
  leaves_congr (by simp [State.gapMap]) h

@[simp] theorem leaves_mapSeen {fid q : Nat} (h : .tun ∈ l) : Leaves l s (t.mapSeen fid q) ↔ Leaves l s t :=
  leaves_congr_one (by simp [State.mapSeen]) h

@[simp] theorem leaves_shaperTick {p : Nat} (h : .schs ∈ l) : Leaves l s (t.shaperTick p) ↔ Leaves l s t :=
  leaves_congr_one (by simp [State.shaperTick, State.retag]) h

@[simp] theorem leaves_sampleQueue {p q : Nat} (h : [.regs, .ctl, .outs] ⊆ l) : Leaves l s (t.sampleQueue p q) ↔ Leaves l s t := by
  refine leaves_congr ?_ h
  unfold State.sampleQueue
  split
  · simp
  · simp [State.sampleRecord]

@[simp] theorem leaves_writeObscfg {p : Nat} {v : Word} (h : .regs ∈ l) : Leaves l s (t.writeObscfg p v) ↔ Leaves l s t :=
  leaves_congr_one (by simp [State.writeObscfg, State.clearHigh]) h

/-! ### Time and Ethernet (chapter 12) -/

@[simp] theorem leaves_tportM {p : Nat} {g : TimPort → TimPort} (h : .tim ∈ l) : Leaves l s (t.tportM p g) ↔ Leaves l s t :=
  leaves_timM h

/-! ### Carts and the fabric (chapters 13 and 14) -/

@[simp] theorem leaves_cartTwice {fid coord id at_ : Nat} {b : CartBody} (h : [.crt, .outs] ⊆ l) :
    Leaves l s (t.cartTwice fid coord id at_ b) ↔ Leaves l s t := leaves_congr (by simp [State.cartTwice, State.cartSend]) h

@[simp] theorem leaves_cslotM {coord id : Nat} {g : CartSlot → CartSlot} (h : .crt ∈ l) :
    Leaves l s (t.cslotM coord id g) ↔ Leaves l s t := leaves_crtM h

@[simp] theorem leaves_sendAssign {uid fid : Nat} {bound : Bool} (h : [.fab, .outs] ⊆ l) :
    Leaves l s (t.sendAssign uid fid bound) ↔ Leaves l s t := leaves_congr (by simp [State.sendAssign]) h

/-! ### The USB hub (chapter 15) -/

@[simp] theorem leaves_usbReason {r port : Nat} (h : .regs ∈ l) : Leaves l s (t.usbReason r port) ↔ Leaves l s t :=
  leaves_congr_one (by simp [State.usbReason]) h

@[simp] theorem leaves_usbChange {k b : Nat} (h : .usb ∈ l) : Leaves l s (t.usbChange k b) ↔ Leaves l s t := leaves_usbM h

@[simp] theorem leaves_usbShow {k : Nat} (h : [.regs, .usb] ⊆ l) : Leaves l s (t.usbShow k) ↔ Leaves l s t := by
  refine leaves_congr ?_ h
  unfold State.usbShow
  split <;> simp

/-! ### Power delivery (chapter 16) -/

@[simp] theorem leaves_pdTerms {n : Nat} (h : .outs ∈ l) : Leaves l s (t.pdTerms n) ↔ Leaves l s t := by
  refine leaves_congr_one ?_ h
  unfold State.pdTerms
  split
  · simp
  · split <;> simp

@[simp] theorem leaves_putAdt {f : Fld} {v : Nat} (h : .regs ∈ l) : Leaves l s (t.putAdt f v) ↔ Leaves l s t :=
  leaves_congr_one (by simp [State.putAdt]) h

@[simp] theorem leaves_pdUnattach {n : Nat} (h : [.regs, .pds, .outs] ⊆ l) : Leaves l s (t.pdUnattach n) ↔ Leaves l s t :=
  leaves_congr (by simp [State.pdUnattach]) h

@[simp] theorem leaves_pdRestart (h : [.regs, .boot, .pds, .outs] ⊆ l) : Leaves l s t.pdRestart ↔ Leaves l s t :=
  leaves_congr (by simp [State.pdRestart]) h

@[simp] theorem leaves_pdSend {n : Nat} {m : PdMsg} (h : .outs ∈ l) : Leaves l s (t.pdSend n m) ↔ Leaves l s t := leaves_emit h

@[simp] theorem leaves_pdCaps {n : Nat} (h : [.pds, .outs] ⊆ l) : Leaves l s (t.pdCaps n) ↔ Leaves l s t :=
  leaves_congr (by simp [State.pdCaps]) h

@[simp] theorem leaves_pdCatch {n : Nat} (h : [.pds, .outs] ⊆ l) : Leaves l s (t.pdCatch n) ↔ Leaves l s t :=
  leaves_congr (by simp [State.pdCatch, State.pdApply]) h

@[simp] theorem leaves_pdRev {n rev : Nat} (h : .pds ∈ l) : Leaves l s (t.pdRev n rev) ↔ Leaves l s t := leaves_pdM h

@[simp] theorem leaves_vsel {n pos : Nat} (h : .outs ∈ l) : Leaves l s (t.vsel n pos) ↔ Leaves l s t := leaves_emits h

@[simp] theorem leaves_pdDisch {n : Nat} {on : Bool} (h : [.pds, .outs] ⊆ l) : Leaves l s (t.pdDisch n on) ↔ Leaves l s t :=
  leaves_congr (by simp [State.pdDisch]) h

@[simp] theorem leaves_pdGate {n : Nat} {on : Bool} (h : [.pds, .outs] ⊆ l) : Leaves l s (t.pdGate n on) ↔ Leaves l s t :=
  leaves_congr (by simp [State.pdGate]) h

@[simp] theorem leaves_sinkRequest {n : Nat} (h : [.regs, .pds, .outs] ⊆ l) : Leaves l s (t.sinkRequest n) ↔ Leaves l s t :=
  leaves_congr (by simp [State.sinkRequest]) h

/-! ### Hewers (chapters 17 and 18) -/

@[simp] theorem leaves_coreM {n : Nat} {g : HewerSt → HewerSt} (h : .hew ∈ l) : Leaves l s (t.coreM n g) ↔ Leaves l s t :=
  leaves_hewM h

@[simp] theorem leaves_dutyM {d : Nat} {g : DutySt → DutySt} (h : .hew ∈ l) : Leaves l s (t.dutyM d g) ↔ Leaves l s t :=
  leaves_hewM h

@[simp] theorem leaves_setX {n rd : Nat} {v : Word} (h : .hew ∈ l) : Leaves l s (t.setX n rd v) ↔ Leaves l s t :=
  leaves_congr_one (by simp [State.setX]) h

@[simp] theorem leaves_setA0 {n : Nat} {v : Word} (h : .hew ∈ l) : Leaves l s (t.setA0 n v) ↔ Leaves l s t := leaves_setX h

@[simp] theorem leaves_userHalt {n cause : Nat} (h : [.regs, .ctl, .hew, .outs] ⊆ l) :
    Leaves l s (t.userHalt n cause) ↔ Leaves l s t := leaves_congr (by simp [State.userHalt]) h

@[simp] theorem leaves_hewWfi {ns : List Nat} {wfi : Bool} (h : [.regs, .hew] ⊆ l) : Leaves l s (t.hewWfi ns wfi) ↔ Leaves l s t :=
  leaves_congr (by simp [State.hewWfi]) h

/-- A machine-mode instruction leaves what it leaves in machine mode, beside what the halt of a user program changes. -/
theorem machineOnly_leaves {n : Nat} {g : State → State} (hl : [.regs, .ctl, .hew, .outs] ⊆ l) (hg : ∀ u, Leaves l u (g u)) :
    Leaves l s (s.machineOnly n g) :=
  leaves_ite (leaves_refl _ _) (leaves_ite ((leaves_userHalt hl).2 (leaves_refl _ _)) (hg _))

theorem waitPoll_leaves (s : State) : Leaves [.hew] s s.waitPoll := by
  refine leaves_foldl (fun u n => ?_) _ s
  split <;> simp

end

end Sys2Proof.Proofs
end

section
/-! SUPPORT. The frame of each command that touches at most four parts of the machine, and the proof of O59. A row's condition
(domain, duty, mode) is taken off first; the frames of the operations then strip what it does. -/

namespace Sys2Proof.Proofs

open Sys2Proof.Machine Sys2Proof.Laws

/-! ### Resets and boot (chapter 3) -/

theorem porstNRelease_frame (s : State) : Does (.porstNRelease) s (Leaves [.regs, .boot, .pds, .outs] s) := ⟨_, rfl, by simp⟩

theorem railValid_frame (s : State) (rail : Nat) : Does (.railValid rail) s (Leaves [.boot] s) := ⟨_, rfl, by simp⟩

theorem bootPersonalityTimeout_frame (s : State) : Does (.bootPersonalityTimeout) s (Leaves [.regs, .boot] s) := ⟨_, rfl, by simp⟩

/-! ### Snapshots, rings, ownership and SMBus (chapters 1 and 4) -/

theorem snapCaptureDone_frame (s : State) : Does (.snapCaptureDone) s (Leaves [.regs] s) :=
  ⟨_, rfl, whenUp_leaves fun _ => by simp⟩

theorem nop_frame (s : State) (c : HostCmd) : Does (.nop c) s (Leaves [.regs, .ctl, .hew, .outs] s) :=
  ⟨_, rfl, command_leaves (List.Subset.refl _) fun _ _ => finish_leaves _ _ _ _⟩

theorem unknownOpcode_frame (s : State) (op : Nat) (c : HostCmd) :
    Does (.unknownOpcode op c) s (Leaves [.regs, .ctl, .hew, .outs] s) :=
  ⟨_, rfl, leaves_ite (leaves_refl _ _) (leaves_trans (leaves_trans (by simp) (tally_leaves _ _))
    (finish_leaves _ _ _ _))⟩

theorem holdoffExpiry_frame (s : State) (v : Nat) : Does (.holdoffExpiry v) s (Leaves [.regs, .ctl, .outs] s) := by
  refine ⟨_, rfl, whenUp_leaves fun s => ?_⟩
  split <;> simp

theorem eventRecordFlush_frame (s : State) (n : Nat) : Does (.eventRecordFlush n) s (Leaves [.regs, .ctl, .outs] s) :=
  ⟨_, rfl, whenUp_leaves fun _ => by simp⟩

theorem heartbeatSend_frame (s : State) : Does (.heartbeatSend) s (Leaves [.own, .outs] s) :=
  ⟨_, rfl, whenDuty_leaves fun _ => by simp [State.heartbeat]⟩

theorem claimSend_frame (s : State) : Does (.claimSend) s (Leaves [.own, .outs] s) :=
  ⟨_, rfl, whenDuty_leaves fun _ => by simp [State.claim]⟩

theorem smbusStatusRead_frame (s : State) (temp : BitVec 8) : Does (.smbusStatusRead temp) s (Leaves [.outs] s) :=
  ⟨_, rfl, emit_leaves _ _⟩

theorem smbusAddrWrite_frame (s : State) (a : Nat) (pec : Bool) : Does (.smbusAddrWrite a pec) s (Leaves [.smb, .outs] s) :=
  ⟨_, rfl, by simp⟩

theorem smbusAlertclr_frame (s : State) (v : Nat) (pec : Bool) : Does (.smbusAlertclr v pec) s (Leaves [.smb, .outs] s) :=
  ⟨_, rfl, by simp⟩

theorem smbusAlertResponse_frame (s : State) : Does (.smbusAlertResponse) s (Leaves [.smb, .outs] s) := ⟨_, rfl, by simp⟩

/-! ### Adit ports (chapter 5) -/

theorem enterMode_frame (s : State) (p : Nat) (dfp : Bool) (vdo : Nat) :
    Does (.enterMode p dfp vdo) s (Leaves [.regs, .ports] s) :=
  ⟨_, rfl, whenSerdes_leaves fun _ => by simp⟩

theorem portDetectStart_frame (s : State) (p : Nat) : Does (.portDetectStart p) s (Leaves [.regs, .ports] s) :=
  ⟨_, rfl, whenSerdes_leaves fun _ => by simp⟩

theorem receiverDetect_frame (s : State) (p lanes : Nat) : Does (.receiverDetect p lanes) s (Leaves [.regs, .ports, .outs] s) :=
  ⟨_, rfl, whenSerdes_leaves fun _ => by simp⟩

theorem trainingFrameReceive_frame (s : State) (p rate phys : Nat) (h : TrainHdr) (inverted ready : Bool) (pre post : Nat) :
    Does (.trainingFrameReceive p rate phys h inverted ready pre post) s (Leaves [.regs, .ports, .pcs, .outs] s) :=
  ⟨_, rfl, whenSerdes_leaves fun _ => by simp⟩

theorem fallbackIdleEnd_frame (s : State) (p : Nat) : Does (.fallbackIdleEnd p) s (Leaves [.regs, .ports, .outs] s) :=
  ⟨_, rfl, whenSerdes_leaves fun _ => by simp⟩

theorem retryDelayExpiry_frame (s : State) (p : Nat) : Does (.retryDelayExpiry p) s (Leaves [.regs, .ports] s) :=
  ⟨_, rfl, whenSerdes_leaves fun _ => by simp⟩

theorem dimEntry_frame (s : State) (p : Nat) : Does (.dimEntry p) s (Leaves [.regs, .outs] s) :=
  ⟨_, rfl, whenSerdes_leaves fun _ => by simp⟩

theorem dimReceive_frame (s : State) (p : Nat) : Does (.dimReceive p) s (Leaves [.regs] s) :=
  ⟨_, rfl, whenSerdes_leaves fun _ => by simp⟩

theorem dimExit_frame (s : State) (p : Nat) : Does (.dimExit p) s (Leaves [.regs, .outs] s) :=
  ⟨_, rfl, whenSerdes_leaves fun _ => by simp⟩

theorem spareRepeat_frame (s : State) (p : Nat) : Does (.spareRepeat p) s (Leaves [.regs, .outs] s) :=
  ⟨_, rfl, whenSerdes_leaves fun _ => by simp⟩

theorem lanectlSpareReceive_frame (s : State) (p lane : Nat) :
    Does (.lanectlSpareReceive p lane) s (Leaves [.regs, .ctl, .hew, .outs] s) :=
  ⟨_, rfl, whenSerdes_leaves fun _ => by simp [State.hearSpare]⟩

theorem lanectlJoinReceive_frame (s : State) (p lane : Nat) :
    Does (.lanectlJoinReceive p lane) s (Leaves [.regs, .ctl, .hew, .outs] s) :=
  ⟨_, rfl, whenSerdes_leaves fun _ => by simp [State.hearJoin]⟩

theorem sparedLaneJudge_frame (s : State) (p lane : Nat) (sig : Bool) :
    Does (.sparedLaneJudge p lane sig) s (Leaves [.regs, .ports, .outs] s) :=
  ⟨_, rfl, whenSerdes_leaves fun _ => by simp⟩

/-! ### The link layer (chapter 6) -/

theorem nakResendTimer_frame (s : State) (p : Nat) : Does (.nakResendTimer p) s (Leaves [.regs, .outs] s) :=
  ⟨_, rfl, whenSerdes_leaves fun _ => by simp⟩

theorem creditReceive_frame (s : State) (p : Nat) (w : LinkWord) (chk : BitVec 8) :
    Does (.creditReceive p w chk) s (Leaves [.regs, .links] s) :=
  ⟨_, rfl, whenSerdes_leaves fun _ => by simp [State.linkWord, State.creditHeard]⟩

theorem creditRefresh_frame (s : State) (p : Nat) : Does (.creditRefresh p) s (Leaves [.outs] s) :=
  ⟨_, rfl, whenSerdes_leaves fun _ => by simp⟩

/-! ### The map of tunnels, the scheduler and push rings (chapters 7, 8 and 10) -/

theorem mapUpdateReceive_frame (s : State) (fid : Nat) (m : MapMsg) :
    Does (.mapUpdateReceive fid m) s (Leaves [.regs, .tun, .outs] s) := by
  refine ⟨_, rfl, whenUp_leaves fun s => ?_⟩
  dsimp only
  split
  · simp
  · simp only [leaves_emit, leaves_mapSeen, List.mem_cons, true_or, or_true]
    split
    · simp
    · split
      · simp
      · split <;> simp

theorem mapUpdateRetry_frame (s : State) (fid seq : Nat) : Does (.mapUpdateRetry fid seq) s (Leaves [.outs] s) := by
  refine ⟨_, rfl, whenUp_leaves fun s => ?_⟩
  split <;> simp

theorem shaperTick_frame (s : State) : Does (.shaperTick) s (Leaves [.schs] s) := ⟨_, rfl, whenUp_leaves fun _ => by simp⟩

theorem meterTick_frame (s : State) : Does (.meterTick) s (Leaves [.meters] s) :=
  ⟨_, rfl, whenUp_leaves fun _ => by rintro ⟨⟩ <;> simp [Part.kept]⟩

theorem latencySample_frame (s : State) (p : Nat) : Does (.latencySample p) s (Leaves [.regs, .ctl, .outs] s) :=
  ⟨_, rfl, whenUp_leaves fun _ => by simp⟩

theorem highWaterClear_frame (s : State) (r : Req) (p : Nat) (v : Word) :
    Does (.highWaterClear r p v) s (Leaves [.regs, .ctl, .hew, .outs] s) :=
  ⟨_, rfl, leaves_ite (controlWrite_leaves (List.Subset.refl _) fun _ => by simp) (leaves_refl _ _)⟩

theorem pushDoorbell_frame (s : State) (k : Nat) (v : Word) : Does (.pushDoorbell k v) s (Leaves [.regs, .ctl, .hew, .outs] s) :=
  ⟨_, rfl, whenSerdes_leaves fun _ => by simp [State.pushDoorbell]⟩

/-! ### Time and Ethernet (chapter 12) -/

theorem linkSyncSend_frame (s : State) (x : SyncOut) : Does (.linkSyncSend x) s (Leaves [.regs, .tim, .outs] s) :=
  ⟨_, rfl, whenSerdes_leaves fun _ => by simp⟩

theorem syncMReceive_frame (s : State) (p : Nat) (x : SyncM) : Does (.syncMReceive p x) s (Leaves [.regs, .tim, .outs] s) :=
  ⟨_, rfl, whenSerdes_leaves fun _ => by simp [State.hearSyncM]⟩

theorem announceSend_frame (s : State) : Does (.announceSend) s (Leaves [.outs] s) := ⟨_, rfl, whenDuty_leaves fun _ => by simp⟩

theorem ppsOutPulse_frame (s : State) : Does (.ppsOutPulse) s (Leaves [.tim, .outs] s) := ⟨_, rfl, whenUp_leaves fun _ => by simp⟩

theorem ethernetLinkChange_frame (s : State) (n : Nat) (up : Bool) (speed : Nat) :
    Does (.ethernetLinkChange n up speed) s (Leaves [.regs, .ctl, .hew, .outs] s) :=
  ⟨_, rfl, whenSerdes_leaves fun _ => by simp [State.setMacLink]⟩

theorem mdioFrameDone_frame (s : State) (data : Nat) : Does (.mdioFrameDone data) s (Leaves [.regs] s) :=
  ⟨_, rfl, whenSerdes_leaves fun _ => by simp⟩

/-! ### Carts (chapter 13) -/

theorem cartQuery_frame (s : State) (c : HostCmd) : Does (.cartQuery c) s (Leaves [.regs, .ctl, .hew, .outs] s) :=
  ⟨_, rfl, readCommand_leaves fun _ => cartQuery_state _ _ _⟩

theorem cartSeqsResend_frame (s : State) (coord id : Nat) : Does (.cartSeqsResend coord id) s (Leaves [.crt, .outs] s) := by
  refine ⟨_, rfl, whenDuty_leaves fun s => ?_⟩
  split <;> simp

theorem cartDoneackReceive_frame (s : State) (coord id : Nat) : Does (.cartDoneackReceive coord id) s (Leaves [.crt] s) :=
  ⟨_, rfl, whenUp_leaves fun _ => (leaves_cslotM (by simp)).2 (leaves_refl _ _)⟩

theorem cartHoldAlarm_frame (s : State) (coord id : Nat) :
    Does (.cartHoldAlarm coord id) s (Leaves [.regs, .ctl, .hew, .outs] s) := by
  refine ⟨_, rfl, whenUp_leaves fun s => ?_⟩
  split <;> simp [State.cartEvent]

theorem cartSlotRelease_frame (s : State) (coord id : Nat) : Does (.cartSlotRelease coord id) s (Leaves [.crt] s) := by
  refine ⟨_, rfl, whenUp_leaves fun s => ?_⟩
  split <;> simp [State.dropSlot]

/-! ### The fabric (chapter 14) -/

theorem neighbourSend_frame (s : State) (p : Nat) : Does (.neighbourSend p) s (Leaves [.outs] s) :=
  ⟨_, rfl, whenDuty_leaves fun _ => by simp [State.sendNeighbour]⟩

theorem assignSend_frame (s : State) (uid : Nat) : Does (.assignSend uid) s (Leaves [.fab, .outs] s) := by
  refine ⟨_, rfl, whenDuty_leaves fun s => ?_⟩
  split
  · simp
  · split
    · simp
    · split <;> simp

theorem routeCompute_frame (s : State) : Does (.routeCompute) s (Leaves [.fab] s) := ⟨_, rfl, whenDuty_leaves fun _ => by simp⟩

theorem fabTopo_frame (s : State) (c : HostCmd) : Does (.fabTopo c) s (Leaves [.regs, .ctl, .hew, .outs] s) :=
  ⟨_, rfl, readCommand_leaves fun _ => rfl⟩

/-! ### The USB hub and Yalcel (chapter 15) -/

theorem usbRemoteWake_frame (s : State) : Does (.usbRemoteWake) s (Leaves [.usb, .outs] s) :=
  ⟨_, rfl, whenUp_leaves fun _ => by simp⟩

theorem ttSplitTransaction_frame (s : State) (k : Nat) (x : Split) (start : Bool) :
    Does (.ttSplitTransaction k x start) s (Leaves [.regs, .usb, .outs] s) :=
  ⟨_, rfl, whenUp_leaves fun _ => by simp⟩

theorem yalcelImageData_frame (s : State) (q : ImgPkt) : Does (.yalcelImageData q) s (Leaves [.regs, .ctl, .usb, .outs] s) := by
  refine ⟨_, rfl, whenUp_leaves fun s => ?_⟩
  split
  · simp
  · split
    · simp
    · split <;> simp

/-! ### Power delivery (chapter 16) -/

theorem drpToggle_frame (s : State) (n : Nat) : Does (.drpToggle n) s (Leaves [.pds, .outs] s) := ⟨_, rfl, by simp⟩

theorem pdRequestReceive_frame (s : State) (n pos : Nat) (q : PdReqIn) :
    Does (.pdRequestReceive n pos q) s (Leaves [.pds, .outs] s) :=
  ⟨_, rfl, by simp⟩

theorem pdEprModeReceive_frame (s : State) (n action : Nat) : Does (.pdEprModeReceive n action) s (Leaves [.pds, .outs] s) := by
  refine ⟨_, rfl, ?_⟩
  split
  · simp
  · dsimp only
    split <;> simp

theorem ppsRenew_frame (s : State) (n : Nat) : Does (.ppsRenew n) s (Leaves [.regs, .pds, .outs] s) := ⟨_, rfl, by simp⟩

theorem hardResetVbusOff_frame (s : State) (n : Nat) : Does (.hardResetVbusOff n) s (Leaves [.pds, .outs] s) := ⟨_, rfl, by simp⟩

theorem hardResetVbusRestore_frame (s : State) (n : Nat) : Does (.hardResetVbusRestore n) s (Leaves [.pds, .outs] s) :=
  ⟨_, rfl, by simp⟩

/-! ### Power states and Hewers (chapters 17 and 18) -/

theorem userHewerWfiTimeout_frame (s : State) (n : Nat) : Does (.userHewerWfiTimeout n) s (Leaves [.regs, .ctl, .hew, .outs] s) :=
  ⟨_, rfl, by simp⟩

theorem domainIdleStop_frame (s : State) (dom : Nat) : Does (.domainIdleStop dom) s (Leaves [.regs, .pwr, .hew] s) :=
  ⟨_, rfl, whenUp_leaves fun _ => by simp⟩

theorem ftime_frame (s : State) (n rd sel : Nat) : Does (.ftime n rd sel) s (Leaves [.hew] s) :=
  ⟨_, rfl, whenUp_leaves fun _ => anyMode_leaves fun _ => by simp⟩

theorem crc32_frame (s : State) (n rd : Nat) (acc : Word) (b : BitVec 8) : Does (.crc32 n rd acc b) s (Leaves [.hew] s) :=
  ⟨_, rfl, whenUp_leaves fun _ => anyMode_leaves fun _ => by simp⟩

theorem ckpt_frame (s : State) (n rd : Nat) (bytes : List (BitVec 8)) :
    Does (.ckpt n rd bytes) s (Leaves [.regs, .ctl, .hew, .outs] s) := by
  refine ⟨_, rfl, whenUp_leaves fun s => machineOnly_leaves (List.Subset.refl _) fun t => ?_⟩
  split <;> simp

theorem evr_frame (s : State) (n ev : Nat) (data : List (BitVec 8)) :
    Does (.evr n ev data) s (Leaves [.regs, .ctl, .hew, .outs] s) :=
  ⟨_, rfl, whenUp_leaves fun _ => machineOnly_leaves (List.Subset.refl _) fun _ => by simp⟩

theorem waitev_frame (s : State) (n rd : Nat) (mask pend : Word) :
    Does (.waitev n rd mask pend) s (Leaves [.regs, .ctl, .hew, .outs] s) :=
  ⟨_, rfl, whenUp_leaves fun _ => machineOnly_leaves (List.Subset.refl _) fun _ => by simp⟩

theorem hwkick_frame (s : State) (n : Nat) : Does (.hwkick n) s (Leaves [.regs, .ctl, .hew, .outs] s) :=
  ⟨_, rfl, whenUp_leaves fun _ => machineOnly_leaves (List.Subset.refl _) fun _ => by simp⟩

theorem mbRecv_frame (s : State) (n buf cap : Nat) : Does (.mbRecv n buf cap) s (Leaves [.regs, .hew, .outs] s) :=
  ⟨_, rfl, whenUp_leaves fun _ => monitor_leaves fun _ => by simp⟩

theorem mbSend_frame (s : State) (n buf : Nat) (bytes : List (BitVec 8)) :
    Does (.mbSend n buf bytes) s (Leaves [.regs, .ctl, .hew, .outs] s) :=
  ⟨_, rfl, whenUp_leaves fun _ => monitor_leaves fun _ => by simp⟩

theorem evSub_frame (s : State) (n ev on : Nat) : Does (.evSub n ev on) s (Leaves [.hew] s) :=
  ⟨_, rfl, whenUp_leaves fun _ => monitor_leaves fun _ => by simp⟩

theorem evNext_frame (s : State) (n buf : Nat) : Does (.evNext n buf) s (Leaves [.hew, .outs] s) := by
  refine ⟨_, rfl, whenUp_leaves fun s => monitor_leaves fun t => ?_⟩
  split <;> simp

theorem wait_frame (s : State) (n mask tmo : Nat) : Does (.wait n mask tmo) s (Leaves [.hew] s) :=
  ⟨_, rfl, whenUp_leaves fun _ => monitor_leaves fun _ => leaves_trans (by simp) (waitPoll_leaves _)⟩

theorem ptpRecv_frame (s : State) (n buf cap : Nat) : Does (.ptpRecv n buf cap) s (Leaves [.macs, .hew, .outs] s) := by
  refine ⟨_, rfl, whenUp_leaves fun s => monitor_leaves fun t => ?_⟩
  split
  · simp
  · split <;> simp

theorem ptpSend_frame (s : State) (n buf mac tsid : Nat) (tsreq : Bool) (bytes : List (BitVec 8)) :
    Does (.ptpSend n buf mac tsid tsreq bytes) s (Leaves [.macs, .hew] s) :=
  ⟨_, rfl, whenUp_leaves fun _ => monitor_leaves fun _ => by simp⟩

theorem exit_frame (s : State) (n : Nat) : Does (.exit n) s (Leaves [.regs] s) :=
  ⟨_, rfl, whenUp_leaves fun _ => monitor_leaves fun _ => by simp⟩

theorem userHewerException_frame (s : State) (n cause : Nat) :
    Does (.userHewerException n cause) s (Leaves [.regs, .ctl, .hew, .outs] s) :=
  ⟨_, rfl, whenUp_leaves fun _ => by simp⟩

theorem takeoverImageLoaded_frame (s : State) (d : Nat) (reloaded : Bool) :
    Does (.takeoverImageLoaded d reloaded) s (Leaves [.regs, .hew, .outs] s) := by
  refine ⟨_, rfl, whenUp_leaves fun s => ?_⟩
  split <;> simp

theorem dramTemperatureChange_frame (s : State) (temp : Nat) :
    Does (.dramTemperatureChange temp) s (Leaves [.regs, .ctl, .hew, .outs] s) :=
  ⟨_, rfl, whenMem_leaves fun _ => by simp⟩

/-! ### The rows without a chapter of their own -/

theorem warmrstNRelease_frame (s : State) : Does (.warmrstNRelease) s (Leaves [.boot] s) := ⟨_, rfl, by simp⟩

theorem lanternMirrorUpdate_frame (s : State) : Does (.lanternMirrorUpdate) s (Leaves [.ctl] s) :=
  ⟨_, rfl, whenUp_leaves fun _ => ctlM_leaves _ _⟩

theorem downstreamPortChange_frame (s : State) (k kind speed : Nat) :
    Does (.downstreamPortChange k kind speed) s (Leaves [.regs, .usb] s) := by
  refine ⟨_, rfl, whenUp_leaves fun s => ?_⟩
  split
  · simp
  · dsimp only
    split <;> simp

/-- Settles O59: row by row, the frames of the operations its command consists of. -/
theorem narrowFrames : Obligations.NarrowFrames :=
  ⟨porstNRelease_frame, railValid_frame, bootPersonalityTimeout_frame, snapCaptureDone_frame, nop_frame, unknownOpcode_frame,
    holdoffExpiry_frame, eventRecordFlush_frame, heartbeatSend_frame, claimSend_frame, smbusStatusRead_frame,
    smbusAddrWrite_frame, smbusAlertclr_frame, smbusAlertResponse_frame, enterMode_frame, portDetectStart_frame,
    receiverDetect_frame, trainingFrameReceive_frame, fallbackIdleEnd_frame, retryDelayExpiry_frame, dimEntry_frame,
    dimReceive_frame, dimExit_frame, spareRepeat_frame, lanectlSpareReceive_frame, lanectlJoinReceive_frame,
    sparedLaneJudge_frame, nakResendTimer_frame, creditReceive_frame, creditRefresh_frame, mapUpdateReceive_frame,
    mapUpdateRetry_frame, shaperTick_frame, meterTick_frame, latencySample_frame, highWaterClear_frame, pushDoorbell_frame,
    linkSyncSend_frame, syncMReceive_frame, announceSend_frame, ppsOutPulse_frame, ethernetLinkChange_frame,
    mdioFrameDone_frame, cartQuery_frame, cartSeqsResend_frame, cartDoneackReceive_frame, cartHoldAlarm_frame,
    cartSlotRelease_frame, neighbourSend_frame, assignSend_frame, routeCompute_frame, fabTopo_frame, usbRemoteWake_frame,
    ttSplitTransaction_frame, yalcelImageData_frame, drpToggle_frame, pdRequestReceive_frame, pdEprModeReceive_frame,
    ppsRenew_frame, hardResetVbusOff_frame, hardResetVbusRestore_frame, userHewerWfiTimeout_frame, domainIdleStop_frame,
    ftime_frame, crc32_frame, ckpt_frame, evr_frame, waitev_frame, hwkick_frame, mbRecv_frame, mbSend_frame, evSub_frame,
    evNext_frame, wait_frame, ptpRecv_frame, ptpSend_frame, exit_frame, userHewerException_frame, takeoverImageLoaded_frame,
    dramTemperatureChange_frame, warmrstNRelease_frame, lanternMirrorUpdate_frame, downstreamPortChange_frame⟩

end Sys2Proof.Proofs
end

section
/-! SUPPORT. What happens outside the boot block: one lemma per shared operation that it changes nothing of the boot state but the
dock ports' PCIE_PERST_N, of the frame stores or of the registers of GLB, and takes back nothing that has been sent. -/

namespace Sys2Proof.Proofs

open Sys2Proof.Machine Sys2Proof.Laws

/-- From `s` to `t` the boot state (the dock ports' PCIE_PERST_N apart), the frame stores and the registers below 0x1000 stay, and what
has been sent stays sent. -/
structure Spares (s t : State) : Prop where
  boot : t.boot = { s.boot with perstOut := t.boot.perstOut }
  store : t.store = s.store
  glb : RegsAgreeOff (fun a => 0x1000 ≤ a) s t
  outs : s.outs <+: t.outs

/-- An address that a block above GLB's control registers counts up from its base. -/
theorem above_base {b x : Nat} (h : 0x1000 ≤ b) : 0x1000 ≤ b + x := Nat.le_add_right_of_le h

namespace Spares

variable {s t u : State}

theorem refl (s : State) : Spares s s := ⟨rfl, rfl, regsAgreeOff_refl _ _, List.prefix_rfl⟩

theorem trans (h : Spares s t) (k : Spares t u) : Spares s u where
  boot := by rw [k.boot, h.boot]
  store := k.store.trans h.store
  glb := regsAgreeOff_trans h.glb k.glb
  outs := h.outs.trans k.outs

/-- A field of GLB reads the same. -/
theorem get (h : Spares s t) {f : Fld} (hf : f.addr < 0x1000) : t.get f = s.get f :=
  get_of_regsAgreeOff h.glb (Nat.not_le.2 hf)

theorem ite {c : Prop} [Decidable c] (h : Spares s t) (k : Spares s u) : Spares s (if c then t else u) := by
  split <;> assumption

theorem foldl {α : Type} {g : State → α → State} (h : Spares s t) (as : List α) (hg : ∀ u a, Spares s u → Spares s (g u a)) :
    Spares s (as.foldl g t) :=
  List.foldlRecOn as g h fun u hu a _ => hg u a hu

/-- An operation on another part of the state. -/
theorem same (h : Spares s t) (hb : u.boot = t.boot) (hst : u.store = t.store) (hr : u.regs = t.regs) (ho : u.outs = t.outs) :
    Spares s u :=
  h.trans ⟨by rw [hb], hst, regsAgreeOff_of_regs_eq hr, ho ▸ List.prefix_rfl⟩

/-! ### Registers, outputs and the parts of the state -/

theorem wr {a : Nat} {v : Word} (h : Spares s t) (ha : 0x1000 ≤ a) : Spares s (t.wr a v) :=
  h.trans ⟨rfl, rfl, fun _ hb => rd_wr_other t v fun e => hb (e ▸ ha), List.prefix_rfl⟩

theorem put {f : Fld} {v : Nat} (h : Spares s t) (hf : 0x1000 ≤ f.addr) : Spares s (t.put f v) := h.wr hf

theorem putBit {f : Fld} {b : Bool} (h : Spares s t) (hf : 0x1000 ≤ f.addr) : Spares s (t.putBit f b) := h.put hf

theorem addMod {f : Fld} {n : Nat} (h : Spares s t) (hf : 0x1000 ≤ f.addr) : Spares s (t.addMod f n) := h.put hf

theorem bump {f : Fld} (h : Spares s t) (hf : 0x1000 ≤ f.addr) : Spares s (t.bump f) := (h.put hf).ite h

theorem emit {o : Out} (h : Spares s t) : Spares s (t.emit o) :=
  h.trans ⟨rfl, rfl, regsAgreeOff_refl _ _, emit_prefix t o⟩

theorem emits {os : List Out} (h : Spares s t) : Spares s (t.emits os) := h.foldl os fun _ _ hu => hu.emit

theorem ctlM {g : CtlSt → CtlSt} (h : Spares s t) : Spares s (t.ctlM g) := h.same rfl rfl rfl rfl
theorem hewM {g : HewSt → HewSt} (h : Spares s t) : Spares s (t.hewM g) := h.same rfl rfl rfl rfl
theorem smbM {g : SmbSt → SmbSt} (h : Spares s t) : Spares s (t.smbM g) := h.same rfl rfl rfl rfl
theorem pdM {n : Nat} {g : PdSt → PdSt} (h : Spares s t) : Spares s (t.pdM n g) := h.same rfl rfl rfl rfl
theorem usbM {g : UsbSt → UsbSt} (h : Spares s t) : Spares s (t.usbM g) := h.same rfl rfl rfl rfl
theorem schM {p : Nat} {g : SchSt → SchSt} (h : Spares s t) : Spares s (t.schM p g) := h.same rfl rfl rfl rfl
theorem linkM {p : Nat} {g : LinkSt → LinkSt} (h : Spares s t) : Spares s (t.linkM p g) := h.same rfl rfl rfl rfl
theorem tunM {g : TunSt → TunSt} (h : Spares s t) : Spares s (t.tunM g) := h.same rfl rfl rfl rfl
theorem ksM {g : KeyStSt → KeyStSt} (h : Spares s t) : Spares s (t.ksM g) := h.same rfl rfl rfl rfl
theorem ctxM {i : Nat} {g : TunCtx → TunCtx} (h : Spares s t) : Spares s (t.ctxM i g) := h.tunM

/-! ### Events (R97 to R100) -/

theorem ringStep {n : Nat} (h : Spares s t) : Spares s (t.ringStep n) := h.ctlM.addMod (above_base (by decide))

theorem msix {fn v : Nat} (h : Spares s t) : Spares s (t.msix fn v) := (h.put (above_base (above_base (by decide)))).ite h.emit

theorem signal {v : Nat} (h : Spares s t) : Spares s (t.signal v) := by
  unfold State.signal
  split
  · exact h.msix
  · split
    · exact h.ctlM
    · exact h.ctlM.msix

theorem writeRecord {n : Nat} {r : EvRec} (h : Spares s t) : Spares s (t.writeRecord n r) := h.ctlM.emit.emit.ringStep.signal

theorem recordEvent {r : EvRec} (h : Spares s t) : Spares s (t.recordEvent r) :=
  (h.bump (by decide)).ite (h.writeRecord.ite (h.ctlM.ite (h.ctlM.bump (by decide))))

theorem dispatch {r : EvRec} {grantee : Nat} (h : Spares s t) : Spares s (t.dispatch r grantee) :=
  have ho : ∀ o : Out, Spares s (if t.ownerFid = 0 then t else t.emit o) := fun _ => h.ite h.emit
  h.recordEvent.ite (h.emit.ite ((ho _).ite (ho _).emit))

theorem raiseCore {r : EvRec} {grantee : Nat} (h : Spares s t) : Spares s (t.raiseCore r grantee) :=
  have hp : Spares s (t.put ⟨A.EVT_STAT (r.evnum / 32), r.evnum % 32, 1⟩ 1) := h.put (above_base (by decide))
  hp.ite hp.dispatch

theorem subscribe1 {n : Nat} {r : EvRec} (h : Spares s t) : Spares s (t.subscribe1 n r) :=
  h.ite (h.hewM.ite (h.bump (above_base (by decide))))

theorem subscribed {r : EvRec} (h : Spares s t) : Spares s (t.subscribed r) := h.foldl _ fun _ _ hu => hu.subscribe1

theorem raiseBytes {ev grantee : Nat} {masked : Bool} {data : List (BitVec 8)} (h : Spares s t) :
    Spares s (t.raiseBytes ev masked grantee data) :=
  h.ite (h.raiseCore.subscribed.foldl _ fun _ _ hu => hu.raiseCore.subscribed.ite hu)

theorem raiseWith {ev grantee : Nat} {masked : Bool} {vals : List Nat} (h : Spares s t) :
    Spares s (t.raiseWith ev masked grantee vals) := h.raiseBytes

theorem raise {g b : Nat} {vals : List Nat} (h : Spares s t) : Spares s (t.raise g b vals) := h.raiseWith

theorem alert {cause : Nat} (h : Spares s t) : Spares s (t.alert cause) := h.smbM.emit

/-! ### The fault log (R496) -/

theorem fltSet {x : FltSt} (h : Spares s t) : Spares s { t with flt := x } := h.same rfl rfl rfl rfl

theorem closeFault {o : OpenFault} (h : Spares s t) : Spares s (t.closeFault o) := by
  unfold State.closeFault
  extract_lets logged log closed counted
  have hlogged : Spares s logged := (h.put (above_base (by decide))).put (above_base (by decide))
  have hclosed : Spares s closed := hlogged.fltSet
  have hcounted : Spares s counted := hclosed.put (by decide)
  exact hcounted.ite hcounted.raise

theorem closeWarm (h : Spares s t) : Spares s t.closeWarm := h.foldl _ fun _ _ hu => hu.closeFault

/-! ### Power delivery (R32, R410) -/

theorem pdTrip {n row : Nat} (h : Spares s t) : Spares s (t.pdTrip n row) :=
  have ht : Spares s (((t.bump (F.PD_PROTCNT n)).raise (60 + n) 6 [row]).pdM n fun x => { x with trips := x.trips ||| 2 ^ row }) :=
    (h.bump (above_base (by decide))).raise.pdM
  ht.ite ht.emit

theorem pdOff {n : Nat} (h : Spares s t) : Spares s (t.pdOff n) :=
  (h.pdM.emit.pdM.emit.putBit (above_base (by decide))).emit

theorem putAdt {f : Fld} {v : Nat} (h : Spares s t) (hf : 0x1000 ≤ f.addr) : Spares s (t.putAdt f v) := (h.put hf).ite h

theorem pdTerms {n : Nat} (h : Spares s t) : Spares s (t.pdTerms n) := by
  unfold State.pdTerms
  split
  · exact h.emit
  · split <;> exact h.emit

theorem pdUnattach {n : Nat} (h : Spares s t) : Spares s (t.pdUnattach n) := by
  have hstat : 0x1000 ≤ A.PD_STAT n := above_base (by decide)
  unfold State.pdUnattach
  refine pdTerms (putAdt (wr (put (put (put (put (put (put (put (ite (put ?_ hstat) ?_) hstat) hstat) hstat) hstat) hstat) hstat) hstat)
    (above_base (by decide))) (above_base (by decide))) <;> exact h.pdM

theorem pdThermTrip (h : Spares s t) : Spares s t.pdThermTrip := h.foldl _ fun _ _ hu => hu.pdOff.pdUnattach

/-! ### Queues and admission (R17, R203) -/

theorem exitDim {p : Nat} (h : Spares s t) : Spares s (t.exitDim p) :=
  ite ((h.put (above_base (by decide))).put (above_base (by decide))).emit.emits h

theorem freeRx {p cls units : Nat} (h : Spares s t) : Spares s (t.freeRx p cls units) :=
  h.tunM.ite (ite (ite h.linkM.exitDim.emit h.linkM) h.linkM)

theorem release {q : QFrame} (h : Spares s t) : Spares s (t.release q) := by
  unfold State.release
  split
  · exact h.freeRx
  · exact h

theorem highWater {p q : Nat} (h : Spares s t) : Spares s (t.highWater p q) :=
  ite ((h.put (above_base (above_base (by decide)))).put (above_base (above_base (by decide)))) h

theorem dropQueued {p : Nat} {test : QFrame → Bool} (h : Spares s t) : Spares s (t.dropQueued p test) :=
  (h.foldl _ fun _ _ hu => hu.highWater).schM.foldl _ fun _ _ hu => hu.release

theorem enqueue {p : Nat} {q : QFrame} (h : Spares s t) : Spares s (t.enqueue p q) := by
  unfold State.enqueue
  dsimp only
  split
  · exact h.schM.schM.highWater
  · exact h.schM.schM

theorem sendEnd {c : TunCtx} {f : Frame} {fence : Option (Nat × Nat)} (h : Spares s t) : Spares s (t.sendEnd c f fence) := by
  unfold State.sendEnd
  split
  · exact h.enqueue
  · exact h

theorem countColour {i col : Nat} (h : Spares s t) : Spares s (t.countColour i col) := by
  unfold State.countColour
  split
  · exact h.ctxM
  · exact h.ctxM
  · exact h

theorem payMeter {m bits col : Nat} (h : Spares s t) : Spares s (t.payMeter m bits col) := by
  unfold State.payMeter
  split
  · exact h
  · split
    · exact h.same rfl rfl rfl rfl
    · exact h.same rfl rfl rfl rfl
    · exact h

theorem meterTest {c : TunCtx} {len : Nat} {yellow : Bool} (h : Spares s t) : Spares s (t.meterTest c len yellow).1 := by
  unfold State.meterTest
  split
  · exact h
  · have hc : ∀ col, Spares s (if c.first.counted then t else t.countColour c.idx col) := fun _ => h.ite h.countColour
    dsimp only
    rw [apply_ite Prod.fst]
    exact ctxM (((hc _).bump (by decide)).ite (hc _)) |>.ite (ctxM ((hc _).payMeter.ite (hc _)))

theorem admTest {c : TunCtx} {ring : Option Nat} {len : Nat} {yellow : Bool} (h : Spares s t) :
    Spares s (t.admTest c ring len yellow).1 := by
  have hm := (h.ctxM (i := c.idx) (g := fun d => { d with first := { d.first with ring := ring, pend := true } })).meterTest (c := c)
    (len := len) (yellow := yellow)
  unfold State.admTest
  dsimp only
  split
  · exact h.ctxM
  · split <;> rename_i heq <;> exact (congrArg Prod.fst heq) ▸ hm

theorem poolEvent {c : TunCtx} {len : Nat} (h : Spares s t) : Spares s (t.poolEvent c len) := by
  unfold State.poolEvent
  split
  · exact h.linkM.raise.ite ((h.hewM.raise.ite h).ite h)
  · exact h

theorem admits {c : TunCtx} {kind col : Nat} {bytes : List (BitVec 8)} {last : Bool} (h : Spares s t) :
    Spares s (t.admits c kind bytes last col) := h.ctxM.tunM.ite h.ctxM.sendEnd

theorem dropFirst {c : TunCtx} {a : Adm} (h : Spares s t) : Spares s (t.dropFirst c a) := by
  unfold State.dropFirst
  split
  · exact (h.ctxM.ctxM.bump (above_base (by decide))).ite h.ctxM.ctxM
  · exact h.ctxM.ctxM

theorem meet {c : TunCtx} {ring : Option Nat} {f : HeldFrame} (h : Spares s t) : Spares s (t.meet c ring f).1 := by
  have ha := h.admTest (c := c) (ring := ring) (len := f.bytes.length) (yellow := f.yellow)
  unfold State.meet
  split <;> rename_i heq <;> rw [heq] at ha <;> dsimp only at ha ⊢
  · exact ha.admits
  · exact ha.poolEvent
  · exact ha.dropFirst
  · exact ha.poolEvent.dropFirst

theorem tooLong {c : TunCtx} {len : Nat} (h : Spares s t) : Spares s (t.tooLong c len) :=
  have hd : Spares s ((t.bump F.TUN_TOOLONG).statDrop c.idx) := (h.bump (by decide)).ctxM
  hd.tunM.raiseWith.ite hd

theorem noTunnel {ep : Nat} (h : Spares s t) : Spares s (t.noTunnel ep) := (h.bump (above_base (by decide))).ite h

theorem ingress {ep typ kind : Nat} {bytes : List (BitVec 8)} {last yellow : Bool} (h : Spares s t) :
    Spares s (t.ingress ep typ kind bytes last yellow) := by
  unfold State.ingress State.ingressOf
  split
  · exact h.noTunnel
  · rename_i c _
    refine h.noTunnel.ite (h.tooLong.ite (h.ctxM.ite ?_))
    have hm := h.meet (c := c) (ring := none) (f := { bytes := bytes, kind := kind, last := last, yellow := yellow && typ == 5 })
    split <;> rename_i heq <;> rw [heq] at hm
    · exact hm
    · exact hm.ctxM.ctxM

theorem sendRefresh {k cause : Nat} (h : Spares s t) : Spares s (t.sendRefresh k cause) := by
  unfold State.sendRefresh State.outRecord
  split
  · exact h.ingress
  · exact h

/-! ### The USB upstream choice (R390, R391) -/

theorem ctlAbort {part : Option Nat} (h : Spares s t) : Spares s (t.ctlAbort part) := by
  unfold State.ctlAbort
  split
  · exact h
  · exact ite (h.bump (by decide)).usbM.raise (h.bump (by decide))

theorem usbSetup {dev : Nat} (h : Spares s t) : Spares s (t.usbSetup dev) := by
  unfold State.usbSetup
  split
  · exact h
  · exact h.ctlAbort.usbM

theorem usbPortOff {k : Nat} (h : Spares s t) : Spares s (t.usbPortOff k) :=
  have hp := (h.wr (a := A.USB_PORT k) (above_base (by decide))).usbM
  ite ((hp.put (by decide)).put (by decide)) hp.emit

theorem usbReason {r port : Nat} (h : Spares s t) : Spares s (t.usbReason r port) :=
  ite (((h.put (by decide)).put (by decide)).put (by decide)) h

theorem yalReport {r : Nat} (h : Spares s t) : Spares s (t.yalReport r) := ite h.usbM.emit h

theorem fwEnd {st err : Nat} (h : Spares s t) : Spares s (t.fwEnd st err) := by
  unfold State.fwEnd
  split
  · exact h
  · exact ((h.put (by decide)).put (by decide)).usbM.usbReason.yalReport.usbM.raise

theorem usbClear {part : Option Nat} (h : Spares s t) : Spares s (t.usbClear part) :=
  have hoff := h.ctlAbort.usbSetup.usbSetup.foldl [1, 2, 3, 4, 5, 6, 7] fun _ _ hu => hu.usbPortOff
  (((hoff.put (by decide)).put (by decide)).put (by decide)).usbM.fwEnd

theorem wakeLost (h : Spares s t) : Spares s t.wakeLost := ite ((h.put (by decide)).put (by decide)).raise h

theorem usbSwitch {w : Nat} {part : Option Nat} (h : Spares s t) : Spares s (t.usbSwitch w part) :=
  have hc := ((h.wakeLost.put (by decide)).put (by decide)).usbClear.usbM
  ite hc hc.emit.raise

theorem usbFollow (h : Spares s t) : Spares s t.usbFollow := ite h.usbM h.usbM.usbSwitch

/-! ### Boot (R62, R69) -/

theorem perstOut {b : Bool} (h : Spares s t) : Spares s (t.bootM fun x => { x with perstOut := b }) :=
  h.trans ⟨rfl, rfl, regsAgreeOff_refl _ _, List.prefix_rfl⟩

theorem releasePerst (h : Spares s t) : Spares s t.releasePerst := ite h.perstOut.emit h

theorem showPerst (h : Spares s t) : Spares s t.showPerst := h.putBit (by decide)

end Spares

end Sys2Proof.Proofs
end

section
/-! SUPPORT. Resets, supplies and boot (chapters 2 and 3): what a core reset leaves, what a DRAM rail's fall leaves, the ends of the
boot ROM, the download and the personalities, with the clauses of O6 about them. -/

namespace Sys2Proof.Proofs

open Sys2Proof.Machine Sys2Proof.Laws

/-- `get_put_other` with its conditions spelled out, so that `decide` meets them for named fields. -/
theorem get_put_apart (s : State) {f g : Fld} (v : Nat) (hf : f.lo + f.width ≤ 32)
    (h : f.addr ≠ g.addr ∨ f.lo + f.width ≤ g.lo ∨ g.lo + g.width ≤ f.lo) : (s.put f v).get g = s.get g :=
  get_put_other s v hf h

/-- What is sent after a first part of a run is sent by the whole run. -/
theorem sends_of_prefix {s t u : State} {o : Out} (hst : s.outs <+: t.outs) (h : Sends t u o) : Sends s u o := by
  obtain ⟨hpre, hmem⟩ := h
  obtain ⟨a, ha⟩ := hst
  refine ⟨List.IsPrefix.trans ⟨a, ha⟩ hpre, ?_⟩
  obtain ⟨b, hb⟩ := hpre
  rw [← hb, ← ha, List.append_assoc, List.drop_left]
  rw [← hb, List.drop_left] at hmem
  exact List.mem_append_right _ hmem

/-- What is sent between two parts of a run is sent by it. -/
theorem sends_between {s t u : State} {o : Out} (hst : s.outs <+: t.outs) (htu : (t.emit o).outs <+: u.outs) : Sends s u o :=
  sends_of_prefix hst (sends_trans (sends_emit t o) htu)

/-! ### A core reset (R58, R60 to R63) -/

/-- The boot state after a core reset, PCIE_PERST_N of the dock ports apart. -/
def coreBoot (b : BootSt) : BootSt :=
  { b with rstCnt := (b.rstCnt + 1) % 65536, romDone := false, wdt := false, pers := 0, startSlot := 0, penumbra := false,
           thrift := false, late := false, flashMode := 0, dir := none }

theorem rd_of_filtered {s b : State} {f : Nat → Bool} {a : Nat} (h : b.regs = s.regs.filter fun e => f e.1) (ha : f a = false) :
    b.rd a = regReset a := by
  have hnone : (s.regs.filter fun e => f e.1).find? (fun e => e.1 == a) = none := by
    rw [List.find?_eq_none]
    intro e he heq
    obtain ⟨-, hf⟩ := List.mem_filter.1 he
    rw [(beq_iff_eq).1 heq, ha] at hf
    exact Bool.noConfusion hf
  simp only [State.rd, RegFile.get, h, hnone]

/-- What is left is a state with the Lantern's registers alone, into which the try record and the rollback counter are put. -/
theorem lanternOnly_from (s : State) :
    ∃ b : State, (b.regs = s.regs.filter fun e => lanternReg e.1) ∧ b.boot = s.boot ∧ b.tun = TunSt.reset ∧ b.outs = s.outs ∧
      Leaves [.regs] b s.lanternOnly ∧
      Spares (((b.put F.GLB_BOOT_AFAIL (s.get F.GLB_BOOT_AFAIL)).put F.GLB_BOOT_BFAIL (s.get F.GLB_BOOT_BFAIL)).put F.GLB_BOOT_SVNCTR
        (s.get F.GLB_BOOT_SVNCTR)) s.lanternOnly := by
  have hk : ∀ u : State, Spares u ((((u.put F.KEY_LCS_CUR (s.get F.KEY_LCS_CUR)).put F.KEY_LCS_BURNT (s.get F.KEY_LCS_BURNT)).put
      F.KEY_LCS_PROGD (s.get F.KEY_LCS_PROGD)).put F.KEY_LCS_PARTIAL (s.get F.KEY_LCS_PARTIAL)) := fun u =>
    ((((Spares.refl u).put (by decide)).put (by decide)).put (by decide)).put (by decide)
  refine ⟨_, ?_, ?_, ?_, ?_, ?_, Spares.ite (((hk _).put (by decide)).put (by decide)) (hk _)⟩
  case refine_5 => simp [State.lanternOnly, State.fwLost]
  all_goals rfl

theorem lanternOnly_tun (s : State) : s.lanternOnly.tun = TunSt.reset := by
  obtain ⟨b, -, -, htun, -, h, -⟩ := lanternOnly_from s
  exact (h .tun (by decide)).trans htun

theorem lanternOnly_boot (s : State) : s.lanternOnly.boot = s.boot := by
  obtain ⟨b, -, hboot, -, -, h, -⟩ := lanternOnly_from s
  exact (h .boot (by decide)).trans hboot

theorem lanternOnly_outs (s : State) : s.lanternOnly.outs = s.outs := by
  obtain ⟨b, -, -, -, houts, h, -⟩ := lanternOnly_from s
  exact (h .outs (by decide)).1.trans houts

/-- The try record stays. -/
theorem lanternOnly_afail (s : State) : s.lanternOnly.get F.GLB_BOOT_AFAIL = s.get F.GLB_BOOT_AFAIL := by
  obtain ⟨b, -, -, -, -, -, h⟩ := lanternOnly_from s
  rw [h.get (by decide)]
  simp (disch := decide) only [get_put_apart, get_put_same]
  exact Nat.mod_eq_of_lt (get_lt s F.GLB_BOOT_AFAIL)

theorem lanternOnly_stat (s : State) : s.lanternOnly.get F.GLB_BOOT_STAT = 0 := by
  obtain ⟨b, hregs, -, -, -, -, h⟩ := lanternOnly_from s
  rw [h.get (by decide)]
  simp (disch := decide) only [get_put_apart]
  have hrd : b.rd F.GLB_BOOT_STAT.addr = regReset A.GLB_BOOT := rd_of_filtered hregs (by decide)
  rw [State.get, hrd]
  decide

/-- A core reset loses what lies outside the Lantern, records its cause, and drives pins. -/
theorem coreReset_from (s : State) (cause : Fld) :
    ∃ u, Spares (s.lanternOnly.bootM coreBoot) u ∧ Spares (u.put cause 1) (s.coreReset cause) := by
  refine ⟨([0, 1, 2].filter fun p => s.portState p != 0).foldl (fun u p => (u.put (F.ADT_STAT_LASTFAIL p) 11).emit (.lanes p 3 0))
    (s.lanternOnly.bootM coreBoot), (Spares.refl _).foldl _ fun _ _ hu => (hu.put (above_base (by decide))).emit, ?_⟩
  have hpin := ((Spares.refl ((([0, 1, 2].filter fun p => s.portState p != 0).foldl
    (fun u p => (u.put (F.ADT_STAT_LASTFAIL p) 11).emit (.lanes p 3 0)) (s.lanternOnly.bootM coreBoot)).put cause 1)).emit
    (o := .pin .rstoutN false)).showPerst
  exact Spares.ite (Spares.ite hpin.perstOut.emit hpin).emit (Spares.ite hpin.perstOut.emit hpin)

theorem coreReset_boot (s : State) (cause : Fld) :
    (s.coreReset cause).boot = { coreBoot s.boot with perstOut := (s.coreReset cause).boot.perstOut } := by
  obtain ⟨u, hu, ht⟩ := coreReset_from s cause
  have hub : (u.put cause 1).boot = { coreBoot s.boot with perstOut := u.boot.perstOut } := by
    have hu := hu.boot
    rwa [bootM_boot, lanternOnly_boot] at hu
  have ht := ht.boot
  rwa [hub] at ht

theorem coreReset_cause (s : State) {cause : Fld} (ha : cause.addr = A.GLB_RSTCAUSE) (hlo : cause.lo + 1 ≤ 32) (hw : cause.width = 1) :
    (s.coreReset cause).bit cause = true := by
  obtain ⟨u, -, ht⟩ := coreReset_from s cause
  have hget : (s.coreReset cause).get cause = 1 := by
    rw [ht.get (by rw [ha]; decide), get_put_same _ _ (by omega), hw]
    rfl
  rw [State.bit, hget]
  rfl

/-- The fields of GLB_BOOT are as the loss outside the Lantern leaves them. -/
theorem coreReset_glbBoot (s : State) {cause f : Fld} (ha : cause.addr = A.GLB_RSTCAUSE) (hf : f.addr = A.GLB_BOOT) :
    (s.coreReset cause).get f = s.lanternOnly.get f := by
  obtain ⟨u, hu, ht⟩ := coreReset_from s cause
  have hne : f.addr ≠ cause.addr := by rw [ha, hf]; decide
  have hlow : f.addr < 0x1000 := by rw [hf]; decide
  calc (s.coreReset cause).get f = (u.put cause 1).get f := ht.get hlow
    _ = u.get f := by rw [State.get, rd_put_other u 1 hne, State.get]
    _ = s.lanternOnly.get f := hu.get hlow

theorem coreReset_tun (s : State) (cause : Fld) : (s.coreReset cause).tun = TunSt.reset :=
  have h : Leaves [.regs, .boot, .outs] s.lanternOnly (s.coreReset cause) := by simp [State.coreReset, State.showPerst]
  (h .tun (by decide)).trans (lanternOnly_tun s)

theorem coreReset_outs (s : State) (cause : Fld) : s.outs <+: (s.coreReset cause).outs := by
  obtain ⟨u, hu, ht⟩ := coreReset_from s cause
  have hlost := hu.outs
  rw [bootM_outs, lanternOnly_outs] at hlost
  exact hlost.trans ht.outs

/-! ### Trips and rails (R32, R43) -/

theorem reHold_held (s : State) : s.reHold.boot.held =
    (s.boot.porstLow || s.boot.strapsDue || s.boot.thermTrip || s.boot.strapFault || s.boot.railsLow.any (· < 3)) := rfl

theorem reHold_railsLow (s : State) : s.reHold.boot.railsLow = s.boot.railsLow := rfl

/-- The device held in reset by a trip, the ports off. -/
def tripHeld (s : State) : State :=
  ((s.coreReset F.GLB_RSTCAUSE_THERM).bootM fun b => { b with thermTrip := true, portsOff := true }).reHold

theorem tripHeld_held (s : State) : (tripHeld s).boot.held = true := by simp [tripHeld, reHold_held]

/-- The trip of each attached port (R410). -/
def portsTrip (s : State) : State := ([0, 1, 2].filter s.pdAttached).foldl (fun u n => u.pdTrip n 4) s

theorem portsTrip_spares (s : State) : Spares s (portsTrip s) := (Spares.refl s).foldl _ fun _ _ hu => hu.pdTrip

theorem exec_thermalTrip {s : State} (h : s.boot.thermTrip = false) :
    exec .thermalTrip s = .next (((tripHeld (portsTrip s)).emit (.pin .thermtripN false)).pdThermTrip.alert 1) :=
  congrArg Host.Outcome.next (if_neg (by simp [h]))

theorem thermalTrip_holds {s : State} (h : s.boot.thermTrip = false) : Does (.thermalTrip) s fun t =>
    t.boot.thermTrip = true ∧ t.boot.held = true ∧ t.bit F.GLB_RSTCAUSE_THERM = true ∧ Sends s t (.pin .thermtripN false) := by
  have hafter := ((Spares.refl ((tripHeld (portsTrip s)).emit (.pin .thermtripN false))).pdThermTrip).alert (cause := 1)
  refine ⟨_, exec_thermalTrip h, congrArg BootSt.thermTrip hafter.boot, ?held, ?cause, ?pin⟩
  case held => exact (congrArg BootSt.held hafter.boot).trans (tripHeld_held _)
  case cause =>
    rw [State.bit, hafter.get (by decide)]
    exact coreReset_cause (portsTrip s) rfl (by decide) rfl
  case pin => exact sends_between ((portsTrip_spares s).outs.trans (coreReset_outs _ _)) hafter.outs

/-- A rail is noted as low. -/
def railLow (s : State) (rail : Nat) : State := s.bootM fun b => { b with railsLow := rail :: b.railsLow }

theorem exec_railBelowResetLevel {s : State} {rail : Nat} (hr : rail < 9) (hnew : rail ∉ s.boot.railsLow)
    (hon : s.get F.PWR_STAT_CUR ≠ 4) :
    exec (.railBelowResetLevel rail) s = .next (State.reHold (if rail < 3 then (railLow s rail).coreReset F.GLB_RSTCAUSE_RAIL
      else if rail < 5 then (railLow s rail).serdesReset else (railLow s rail).memReset)) := by
  have hrow : ¬ (9 ≤ rail ∨ rail ∈ s.boot.railsLow) := by simp [hnew, hr]
  have hpow : ∀ g : State → State, (railLow s rail).notOff g = g (railLow s rail) := fun _ => if_neg hon
  exact congrArg Host.Outcome.next ((if_neg hrow).trans (congrArg State.reHold (hpow _)))

theorem coreRail_resets {s : State} {rail : Nat} (hr : rail < 3) (hnew : rail ∉ s.boot.railsLow) (hon : s.get F.PWR_STAT_CUR ≠ 4) :
    Does (.railBelowResetLevel rail) s fun t =>
      t.boot.held = true ∧ rail ∈ t.boot.railsLow ∧ t.bit F.GLB_RSTCAUSE_RAIL = true ∧ t.tun = TunSt.reset := by
  have hlow : ((railLow s rail).coreReset F.GLB_RSTCAUSE_RAIL).boot.railsLow = rail :: s.boot.railsLow :=
    congrArg BootSt.railsLow (coreReset_boot _ _)
  refine ⟨_, exec_railBelowResetLevel (by omega) hnew hon, ?_⟩
  rw [if_pos hr]
  refine ⟨?held, ?low, coreReset_cause (railLow s rail) rfl (by decide) rfl, coreReset_tun _ _⟩
  case held => simp [reHold_held, hlow, hr]
  case low => exact hlow ▸ List.mem_cons_self

/-- A word is found in a list of registers as before where those that are dropped lie elsewhere. -/
theorem find_filter_kept (l : List (Nat × Word)) {f : Nat → Bool} {a : Nat} (h : f a = false) :
    (l.filter fun e => !f e.1).find? (fun e => e.1 == a) = l.find? fun e => e.1 == a := by
  rw [List.find?_filter]
  congr 1
  funext e
  by_cases he : e.1 = a <;> simp [he, h]

theorem Spares.clearRegs {s t : State} {f : Nat → Bool} (h : Spares s t) (hf : ∀ a < 0x1000, f a = false) : Spares s (t.clearRegs f) := by
  refine h.trans ⟨rfl, rfl, fun a ha => ?_, List.prefix_rfl⟩
  simp only [State.rd, State.clearRegs, RegFile.get, find_filter_kept _ (hf a (Nat.not_le.1 ha))]

theorem memReg_low : ∀ a < 0x1000, memReg a = false := by
  intro a ha
  simp only [memReg, windowReg, Bool.or_eq_false_iff, Bool.and_eq_false_iff, decide_eq_false_iff_not]
  omega

/-- MEM's reset drops queued frames and registers, then the frame stores' contents, and then asks for REFRESH. -/
theorem memReset_from (s : State) :
    ∃ u v : State, Spares s u ∧ v.boot = u.boot ∧ v.regs = u.regs ∧ v.store.slots = [] ∧ Spares v s.memReset := by
  unfold State.memReset
  extract_lets cleared store
  have hcleared : Spares s cleared := ((Spares.refl s).foldl _ fun _ _ hu => hu.dropQueued).clearRegs memReg_low
  refine ⟨cleared, _, hcleared, ?_, ?_, ?_, (Spares.refl _).foldl _ fun _ _ hu => hu.sendRefresh⟩ <;> rfl

/-- A DRAM rail's fall loses the frame stores and leaves the boot state and GLB. -/
theorem memReset_effect (s : State) :
    s.memReset.store.slots = [] ∧ s.memReset.boot.railsLow = s.boot.railsLow ∧ s.memReset.boot.rstCnt = s.boot.rstCnt ∧
      s.memReset.role = s.role := by
  obtain ⟨u, v, hu, hboot, hregs, hslots, hv⟩ := memReset_from s
  refine ⟨?store, ?rails, ?count, ?role⟩
  case store => rw [hv.store, hslots]
  case rails => rw [hv.boot, hboot, hu.boot]
  case count => rw [hv.boot, hboot, hu.boot]
  case role =>
    calc s.memReset.role = v.role := hv.get (by decide)
      _ = u.role := get_of_regs_eq hregs _
      _ = s.role := hu.get (by decide)

theorem dramRail_loses_store {s : State} {rail : Nat} (h5 : 5 ≤ rail) (hr : rail < 9) (hnew : rail ∉ s.boot.railsLow)
    (hon : s.get F.PWR_STAT_CUR ≠ 4) :
    Does (.railBelowResetLevel rail) s fun t =>
      rail ∈ t.boot.railsLow ∧ t.store.slots = [] ∧ t.boot.rstCnt = s.boot.rstCnt ∧ t.role = s.role := by
  obtain ⟨hstore, hrails, hcount, hrole⟩ := memReset_effect (railLow s rail)
  refine ⟨_, exec_railBelowResetLevel hr hnew hon, ?_⟩
  rw [if_neg (by omega), if_neg (by omega)]
  generalize (railLow s rail).memReset = t at hstore hrails hcount hrole
  refine ⟨?low, hstore, hcount, hrole⟩
  case low =>
    rw [reHold_railsLow, hrails]
    exact List.mem_cons_self

theorem lastRail_releases {s : State} {rail : Nat} (hlow : s.boot.railsLow = [rail]) (hporst : s.boot.porstLow = false)
    (hstraps : s.boot.strapsDue = false) (htrip : s.boot.thermTrip = false) (hfault : s.boot.strapFault = false)
    (hon : s.get F.PWR_STAT_CUR ≠ 4) :
    Does (.railValid rail) s fun t => t.boot.held = false ∧ t.boot.railsLow = [] ∧ t.regs = s.regs := by
  have hnone : s.boot.railsLow.filter (· != rail) = [] := by simp [hlow]
  refine ⟨_, congrArg Host.Outcome.next (if_neg hon), ?held, hnone, rfl⟩
  case held =>
    rw [reHold_held]
    simp [hporst, hstraps, htrip, hfault, hnone]

/-! ### Personalities (R76) -/

/-- Presenting a personality changes GLB_BOOT.PERS alone of the registers. -/
theorem present_get (s : State) {f : Fld} (h : FldApart F.GLB_BOOT_PERS f) : s.present.get f = s.get f :=
  get_put_other _ _ (by decide) h

theorem presentFirst_get (s : State) {f : Fld} (h : FldApart F.GLB_BOOT_PERS f) : s.presentFirst.get f = s.get f := by
  unfold State.presentFirst
  split
  · exact present_get s h
  · rfl

theorem presentFirst_boot (s : State) : s.presentFirst.boot = { s.boot with pers := s.presentFirst.boot.pers } := by
  unfold State.presentFirst
  split <;> rfl

theorem presentFirst_outs (s : State) : s.presentFirst.outs = s.outs := by
  unfold State.presentFirst
  split <;> rfl

theorem bootStop_stat (s : State) {st : Nat} (h : st < 16) : (s.bootStop st).get F.GLB_BOOT_STAT = st := by
  rw [State.bootStop, presentFirst_get _ (.inr (by decide)), get_put_same _ _ (by decide)]
  exact Nat.mod_eq_of_lt h

theorem bootStop_get (s : State) (st : Nat) {f : Fld} (h : f.addr ≠ A.GLB_BOOT) : (s.bootStop st).get f = s.get f := by
  rw [State.bootStop, presentFirst_get _ (.inl h.symm), get_put_other _ _ (by decide) (.inl h.symm)]

theorem bootStop_boot (s : State) (st : Nat) : (s.bootStop st).boot = { s.boot with pers := (s.bootStop st).boot.pers } :=
  presentFirst_boot _

theorem bootStop_outs (s : State) (st : Nat) : (s.bootStop st).outs = s.outs := presentFirst_outs _

theorem bootTimeout_presents {s : State} (hhost : s.isHost = true) (hperst : s.own.perstHigh = true) (hrom : s.boot.romDone = true)
    (hpers : s.boot.pers = 0) (hstat : s.get F.GLB_BOOT_STAT < 3) :
    Does (.bootPersonalityTimeout) s fun t =>
      t.boot.pers = 1 ∧ t.get F.GLB_BOOT_LATE = 1 ∧ RegsAgreeOff (fun a => a = A.GLB_BOOT) s t ∧ t.outs = s.outs := by
  refine ⟨_, congrArg Host.Outcome.next (if_pos ⟨hhost, hperst, hrom, hpers, hstat⟩), rfl, ?late,
    regsAgreeOff_trans (regsAgreeOff_of_regs_eq rfl) (regsAgreeOff_put _ rfl), rfl⟩
  case late => rw [get_put_same _ _ (by decide)]; rfl

/-! ### The boot ROM (R69) -/

/-- The first step of the boot ROM has run (R467, R469). -/
def romLamp (s : State) (otp : List (Nat × Nat)) : State :=
  ((s.bootM fun b => { b with romDone := true }).putBit F.GLB_BOOT_BSTRAP (s.get F.GLB_STRAP_BOOT == 3)).lampStart otp

/-- RSTOUT_N rises, the flash is reset, and its mode is found. -/
def romOut (t : State) (found : Bool) (modes : Nat) (dqs : Bool) : State :=
  ((t.emit (.pin .rstoutN true)).emit (.pulse .spiResetN false 10000)).bootM fun b =>
    { b with flashMode := if found then flashMode (modes % 8 + (if dqs then 8 else 0)) else 0 }

/-- What the life-cycle state and the OTP's errors give, up to the loading of the root. -/
def lampErrs (s : State) (otp : List (Nat × Nat)) : State :=
  let st := lcOf s.keys.cells
  let errs := otp.filter fun e => needsOtp st e.1 e.2
  let t := (((s.put F.KEY_LCS_CUR st).put F.KEY_LCS_BURNT st).put F.KEY_LCS_ROOT ([0, 1, 1, 2, 3].getD st 3)).putBit F.KEY_LCS_OTPERR (errs != [])
  let t := t.ksM fun k => { k with bad := errs.flatMap fun e => otpSpoils e.1 e.2 }
  (errs.map (·.1)).eraseDups.foldl (fun u row => u.raise 4 3 [row, 0, 0, 0]) t

theorem lampStart_eq (s : State) (otp : List (Nat × Nat)) : s.lampStart otp = (lampErrs s otp).loadRoot := rfl

theorem lampErrs_spares (s : State) (otp : List (Nat × Nat)) : Spares s (lampErrs s otp) :=
  (((((Spares.refl s).put (by decide)).put (by decide)).put (by decide)).putBit (by decide)).ksM.foldl _ fun _ _ hu => hu.raise

/-- KEY_LCS is no register that an event changes. -/
theorem not_eventReg_keyLcs : ¬ EventReg A.KEY_LCS := by
  rintro (⟨k, hk, h⟩ | h | ⟨n, hn, h⟩ | ⟨n, hn, hn', h⟩ | ⟨w, hw, h⟩)
  · simp only [A.KEY_LCS, A.EVT_STAT] at h; omega
  · exact absurd h (by decide)
  · simp only [A.KEY_LCS, A.GLB_RIDX] at h; omega
  · simp only [A.KEY_LCS, F.HWR_EVOVF, A.HWR_EVOVF] at h; omega
  · simp only [A.KEY_LCS, A.MSIX_PBA] at h; omega

theorem lampErrs_lcs (s : State) (otp : List (Nat × Nat)) (h : lcOf s.keys.cells < 8) :
    (lampErrs s otp).get F.KEY_LCS_CUR = lcOf s.keys.cells := by
  have hraise : ∀ (l : List Nat) (t : State), RegsAgreeOff EventReg t (l.foldl (fun u row => u.raise 4 3 [row, 0, 0, 0]) t) :=
    fun l t => regsAgreeOff_foldl l (fun u _ _ => raise_regs_agree u _ (by decide)) t
  rw [lampErrs, get_of_regsAgreeOff (hraise _ _) not_eventReg_keyLcs, ksM_get, State.putBit]
  simp (disch := decide) only [get_put_apart, get_put_same]
  exact Nat.mod_eq_of_lt h

/-- What holds from each step of the loading of the root to the next holds of all of it. -/
theorem loadRoot_relates {R : State → State → Prop} (hrefl : ∀ t, R t t) (htrans : ∀ {s t u}, R s t → R t u → R s u)
    (hregs : ∀ t : State, R t t.keyRegs) (hkey : ∀ (t : State) n v, R t (t.setKey n v)) (hdraw : ∀ t : State, R t t.draw.2)
    (hstore : ∀ (t : State) x, R t { t with store := x }) (s : State) : R s s.loadRoot := by
  have hdrawn : ∀ v w : KeyVal, R s ((s.setKey 0 v).setKey 1 w).draw.2 := fun v w =>
    htrans (htrans (hkey _ _ _) (hkey _ _ _)) (hdraw _)
  have hfold : ∀ (g : State → Nat → State) (l : List Nat) (t : State), (∀ u i, R u (g u i)) → R t (l.foldl g t) := fun g l t hg =>
    List.foldlRecOn l g (hrefl t) fun _ hu i _ => htrans hu (hg _ i)
  unfold State.loadRoot
  split
  · exact hregs s
  · dsimp only
    split
    · refine htrans (htrans (htrans (hdrawn _ _) (hfold _ _ _ fun u i => ?_)) (hkey _ _ _)) (hstore _ _)
      split
      · exact hkey _ _ _
      · exact hrefl u
    · exact hdrawn _ _

theorem loadRoot_leaves (s : State) : Leaves [.regs, .keys, .store, .draws] s s.loadRoot :=
  loadRoot_relates (leaves_refl _) leaves_trans (fun _ => by simp) (fun _ _ _ => by simp)
    (by rintro t ⟨⟩ <;> simp [State.draw, Part.kept]) (by rintro t x ⟨⟩ <;> simp [Part.kept]) s

/-- The keys' registers are no life-cycle register. -/
theorem keyRegs_agree (s : State) : RegsAgreeOff (fun a => a ≠ A.KEY_LCS) s s.keyRegs :=
  regsAgreeOff_trans (regsAgreeOff_trans (regsAgreeOff_trans (regsAgreeOff_put _ (by decide)) (regsAgreeOff_put _ (by decide)))
    (regsAgreeOff_put _ (by decide))) (regsAgreeOff_put _ (by decide))

theorem loadRoot_lcs (s : State) : s.loadRoot.get F.KEY_LCS_CUR = s.get F.KEY_LCS_CUR :=
  have h : RegsAgreeOff (fun a => a ≠ A.KEY_LCS) s s.loadRoot :=
    loadRoot_relates (regsAgreeOff_refl _) regsAgreeOff_trans keyRegs_agree
      (fun _ _ _ => regsAgreeOff_trans (regsAgreeOff_of_regs_eq rfl) (keyRegs_agree _)) (fun _ => regsAgreeOff_of_regs_eq rfl)
      (fun _ _ => regsAgreeOff_of_regs_eq rfl) s
  get_of_regsAgreeOff h (by decide)

/-- The boot ROM's first step: the life-cycle state is that of the cells, and the boot state and what has been sent stay. -/
theorem romLamp_effect (s : State) (otp : List (Nat × Nat)) (h : lcOf s.keys.cells < 4) :
    (romLamp s otp).get F.KEY_LCS_CUR = lcOf s.keys.cells ∧ (romLamp s otp).boot.romDone = true ∧ s.outs <+: (romLamp s otp).outs := by
  have hroot := loadRoot_leaves (lampErrs ((s.bootM fun b => { b with romDone := true }).putBit F.GLB_BOOT_BSTRAP
    (s.get F.GLB_STRAP_BOOT == 3)) otp)
  have herrs := lampErrs_spares ((s.bootM fun b => { b with romDone := true }).putBit F.GLB_BOOT_BSTRAP (s.get F.GLB_STRAP_BOOT == 3)) otp
  rw [romLamp, lampStart_eq]
  refine ⟨?lcs, ?rom, ?outs⟩
  case lcs => rw [loadRoot_lcs, lampErrs_lcs _ _ (by simp; omega)]; rfl
  case rom => rw [hroot .boot (by decide), herrs.boot]; rfl
  case outs => exact herrs.outs.trans (prefix_of_leaves (by decide) hroot)

/-- The same once RSTOUT_N has risen. -/
theorem romOut_effect (s : State) (otp : List (Nat × Nat)) (found : Bool) (modes : Nat) (dqs : Bool) (h : lcOf s.keys.cells < 4) :
    (romOut (romLamp s otp) found modes dqs).get F.KEY_LCS_CUR = lcOf s.keys.cells ∧
      (romOut (romLamp s otp) found modes dqs).boot.romDone = true ∧
      Sends s (romOut (romLamp s otp) found modes dqs) (.pin .rstoutN true) := by
  obtain ⟨hlcs, hdone, houts⟩ := romLamp_effect s otp h
  refine ⟨?lcs, ?rom, sends_between houts (emit_prefix _ (.pulse .spiResetN false 10000))⟩
  case lcs => rw [romOut, bootM_get, emit_get, emit_get, hlcs]
  case rom => rw [romOut, bootM_boot, emit_boot, emit_boot, hdone]

/-- The boot ROM runs: what it does once DRAM has trained or failed. -/
theorem exec_bootRomStart {s : State} {otp : List (Nat × Nat)} (dram found : Bool) (modes : Nat) (dqs : Bool) (size : Nat)
    (runs : List (Nat × List (BitVec 8))) (hheld : s.boot.held = false) (hwarm : s.boot.warmLow = false) (hrom : s.boot.romDone = false)
    (hlc : lcOf s.keys.cells < 4) :
    exec (.bootRomStart otp dram found modes dqs size runs) s = .next (
      let t := romOut (romLamp s otp) found modes dqs
      if !dram then (t.put F.MEM_DRAMSTAT_STATE 0).bootStop 8
      else
        let t := t.put F.MEM_DRAMSTAT_STATE 1
        if s.get F.GLB_STRAP_BOOT = 2 then (if s.role = 2 then t.bootStop 6 else t.bootStop 4)
        else if found then t.bootFlash { modes := modes % 8 + (if dqs then 8 else 0), size := size, runs := runs }
        else t.noImage) := by
  obtain ⟨hlcs, -, -⟩ := romLamp_effect s otp hlc
  have hrun : ¬ (s.boot.held ∨ s.boot.warmLow ∨ s.boot.romDone) := by simp [hheld, hwarm, hrom]
  have hlive : ¬ (romLamp s otp).lcs = 4 := by
    rw [State.lcs, hlcs]
    omega
  exact congrArg Host.Outcome.next ((if_neg hrun).trans (if_neg hlive))

theorem bootRom_withoutDram {s : State} (otp : List (Nat × Nat)) (found : Bool) (modes : Nat) (dqs : Bool) (size : Nat)
    (runs : List (Nat × List (BitVec 8))) (hheld : s.boot.held = false) (hwarm : s.boot.warmLow = false) (hrom : s.boot.romDone = false)
    (hlc : lcOf s.keys.cells < 4) :
    Does (.bootRomStart otp false found modes dqs size runs) s fun t =>
      t.get F.GLB_BOOT_STAT = 8 ∧ t.boot.romDone = true ∧ t.get F.KEY_LCS_CUR = lcOf s.keys.cells ∧
      Sends s t (.pin .rstoutN true) := by
  obtain ⟨hlcs, hdone, hsent⟩ := romOut_effect s otp found modes dqs hlc
  refine ⟨_, exec_bootRomStart false found modes dqs size runs hheld hwarm hrom hlc, ?_⟩
  rw [if_pos (by decide)]
  generalize romOut (romLamp s otp) found modes dqs = t at hlcs hdone hsent
  refine ⟨bootStop_stat _ (by decide), ?rom, ?lcs, ?pin⟩
  case rom => rw [bootStop_boot, put_boot, hdone]
  case lcs => rw [bootStop_get _ _ (by decide), get_put_apart _ _ (by decide) (by decide), hlcs]
  case pin => rwa [Sends, bootStop_outs, put_outs]

theorem bootRom_downloadStrap {s : State} (otp : List (Nat × Nat)) (found : Bool) (modes : Nat) (dqs : Bool) (size : Nat)
    (runs : List (Nat × List (BitVec 8))) (hheld : s.boot.held = false) (hwarm : s.boot.warmLow = false) (hrom : s.boot.romDone = false)
    (hlc : lcOf s.keys.cells < 4) (hstrap : s.get F.GLB_STRAP_BOOT = 2) (hrole : s.role ≠ 2) :
    Does (.bootRomStart otp true found modes dqs size runs) s fun t =>
      t.get F.GLB_BOOT_STAT = 4 ∧ t.get F.MEM_DRAMSTAT_STATE = 1 ∧ t.boot.romDone = true := by
  obtain ⟨-, hdone, -⟩ := romOut_effect s otp found modes dqs hlc
  refine ⟨_, exec_bootRomStart true found modes dqs size runs hheld hwarm hrom hlc, ?_⟩
  rw [if_neg (by decide), if_pos hstrap, if_neg hrole]
  generalize romOut (romLamp s otp) found modes dqs = t at hdone
  refine ⟨bootStop_stat _ (by decide), ?dram, ?rom⟩
  case dram =>
    rw [bootStop_get _ _ (by decide), get_put_same _ _ (by decide)]
    rfl
  case rom => rw [bootStop_boot, put_boot, hdone]

/-! ### Ready, the watchdog and the download (R69, R73 to R75) -/

/-- The firmware's signal has been taken: STAT, READY and the try record, and the watchdog stops. -/
def readyTaken (s : State) : State :=
  ((((s.put F.GLB_BOOT_STAT 3).put F.GLB_BOOT_READY 1).put F.GLB_BOOT_AFAIL 0).put F.GLB_BOOT_BFAIL 0).bootM fun b => { b with wdt := false }

theorem exec_firmwareReady {s : State} {slot : Nat} (hstat : s.get F.GLB_BOOT_STAT = 2) (hslot : slot % 2 = s.boot.startSlot) :
    exec (.firmwareReady slot) s = .next (readyTaken s).closeWarm.presentFirst.releasePerst.usbFollow := by
  have hown : s.bit F.GLB_BOOT_DLOAD ∨ slot % 2 = s.boot.startSlot := .inr hslot
  exact congrArg Host.Outcome.next ((if_neg (by simp [hstat])).trans
    (congrArg (fun t : State => t.closeWarm.presentFirst.releasePerst.usbFollow) (if_pos hown)))

theorem firmwareReady_effect {s : State} {slot : Nat} (hstat : s.get F.GLB_BOOT_STAT = 2) (hslot : slot % 2 = s.boot.startSlot) :
    Does (.firmwareReady slot) s fun t =>
      t.get F.GLB_BOOT_STAT = 3 ∧ t.get F.GLB_BOOT_READY = 1 ∧ t.get F.GLB_BOOT_AFAIL = 0 ∧ t.get F.GLB_BOOT_BFAIL = 0 ∧
      t.boot.wdt = false := by
  have hclosed := (Spares.refl (readyTaken s)).closeWarm
  have hafter := (Spares.refl (readyTaken s).closeWarm.presentFirst).releasePerst.usbFollow
  have hget : ∀ f : Fld, f.addr < 0x1000 → FldApart F.GLB_BOOT_PERS f →
      ((readyTaken s).closeWarm.presentFirst.releasePerst.usbFollow).get f = (readyTaken s).get f := fun f hlow hpers =>
    (hafter.get hlow).trans ((presentFirst_get _ hpers).trans (hclosed.get hlow))
  refine ⟨_, exec_firmwareReady hstat hslot, ?stat, ?ready, ?afail, ?bfail, ?wdt⟩
  case wdt => rw [hafter.boot, presentFirst_boot, hclosed.boot]; rfl
  all_goals
    rw [hget _ (by decide) (.inr (by decide)), readyTaken, bootM_get]
    simp (disch := decide) only [get_put_apart, get_put_same]
    decide

theorem bootWatchdog_marks {s : State} (hwdt : s.boot.wdt = true) (hflash : s.bit F.GLB_BOOT_DLOAD = false) (hslot : s.boot.startSlot = 0) :
    Does (.bootWatchdogExpiry) s fun t =>
      t.bit F.GLB_RSTCAUSE_BOOTWDT = true ∧ t.boot.wdt = false ∧ t.get F.GLB_BOOT_AFAIL = 1 ∧ t.get F.GLB_BOOT_STAT = 0 := by
  have hmark : (if s.bit F.GLB_BOOT_DLOAD then s else s.markFailed s.boot.startSlot) = s.put F.GLB_BOOT_AFAIL 1 := by
    simp [hflash, hslot, State.markFailed]
  refine ⟨(s.put F.GLB_BOOT_AFAIL 1).coreReset F.GLB_RSTCAUSE_BOOTWDT, ?step, coreReset_cause _ rfl (by decide) rfl, ?wdt, ?afail, ?stat⟩
  case step => exact congrArg Host.Outcome.next ((if_pos hwdt).trans (congrArg (State.coreReset · F.GLB_RSTCAUSE_BOOTWDT) hmark))
  case wdt => exact congrArg BootSt.wdt (coreReset_boot _ _)
  case afail =>
    rw [coreReset_glbBoot _ rfl rfl, lanternOnly_afail, get_put_same _ _ (by decide)]
    rfl
  case stat => rw [coreReset_glbBoot _ rfl rfl, lanternOnly_stat]

theorem startHewers_spares {s t : State} {entry : Nat} (h : Spares s t) : Spares s (t.startHewers entry) := by
  refine Spares.put (Spares.put (Spares.foldl h.hewM _ fun u n hu => ?_) (by decide)) (by decide)
  exact (((hu.put (above_base (by decide))).put (above_base (by decide))).put (above_base (by decide))).hewM

/-- A started image leaves the length that the host wrote. -/
theorem startImage_dlen (s : State) (img : List (BitVec 8)) : (s.startImage img).get F.GLB_DLEN_LEN = s.get F.GLB_DLEN_LEN := by
  unfold State.startImage
  extract_lets started measured
  have hstarted : started.get F.GLB_DLEN_LEN = s.get F.GLB_DLEN_LEN := by
    simp (disch := decide) only [started, get_put_apart]
  exact (((startHewers_spares (Spares.refl _)).emits).get (by decide)).trans hstarted

theorem downloadCheck_dlen (s : State) (img : List (BitVec 8)) : (s.downloadCheck img).get F.GLB_DLEN_LEN = s.get F.GLB_DLEN_LEN := by
  unfold State.downloadCheck
  split
  · rw [startImage_dlen]
    simp (disch := decide) only [get_put_apart]
  · exact get_put_apart _ _ (by decide) (by decide)

theorem dlenWrite_takes {s : State} {len : BitVec 32} (hheld : s.boot.held = false) (hhost : s.isHost = true)
    (hstat : s.get F.GLB_BOOT_STAT = 4) (hlen : bitsOf len 0 24 ≤ 0x800000) :
    Does (.downloadLengthWrite .host len) s fun t => t.get F.GLB_DLEN_LEN = bitsOf len 0 24 := by
  have hwrite : s.writeDlen .host len = (s.put F.GLB_DLEN_LEN (bitsOf len 0 24)).downloadCheck (s.window (bitsOf len 0 24)) :=
    (if_pos ⟨rfl, hhost, hstat⟩).trans (if_neg (Nat.not_lt.2 hlen))
  refine ⟨_, congrArg Host.Outcome.next ((if_neg (by simp [hheld])).trans hwrite),
    ((downloadCheck_dlen _ _).trans (get_put_same s _ (by decide))).trans (Nat.mod_eq_of_lt (bitsOf_lt len 0 24))⟩

end Sys2Proof.Proofs
end

section
/-! SUPPORT. The host's PCIe reset and link (R61, R76, R103): what a condition of R103 that changes leads to, what the loss of the host
leaves of a device with nothing under way, and the proof of O6. -/

namespace Sys2Proof.Proofs

open Sys2Proof.Machine Sys2Proof.Laws

/-! ### Frames -/

section
variable {l : List Part} {s t : State}

@[simp] theorem leaves_pcxM {g : PcxSt → PcxSt} (h : .pcx ∈ l) : Leaves l s (t.pcxM g) ↔ Leaves l s t :=
  leaves_congr_one (by rintro ⟨⟩ <;> simp [Part.kept, State.pcxM]) h

@[simp] theorem leaves_alert {cause : Nat} (h : [.smb, .outs] ⊆ l) : Leaves l s (t.alert cause) ↔ Leaves l s t :=
  leaves_congr (by simp [State.alert]) h

@[simp] theorem leaves_setAlive {c : Nat} {v : Bool} (h : [.regs, .own] ⊆ l) : Leaves l s (t.setAlive c v) ↔ Leaves l s t := by
  refine leaves_congr ?_ h
  unfold State.setAlive
  split <;> simp

@[simp] theorem leaves_endYield {code : Nat} (h : [.regs, .ctl, .own, .hew, .outs] ⊆ l) :
    Leaves l s (t.endYield code) ↔ Leaves l s t := by
  refine leaves_congr ?_ h
  unfold State.endYield
  split
  · have hdone : ∀ k : InFlight, Leaves [.regs, .ctl, .own, .hew, .outs] t
        ((t.ownM fun o => { o with yielding := none, noClaim := false }).finish k code 0) := fun k =>
      (leaves_finish (by simp)).2 (by simp)
    exact leaves_ite ((leaves_raise (by simp)).2 (hdone _)) (hdone _)
  · simp

@[simp] theorem leaves_hostLost (h : [.regs, .ctl, .own, .hew, .outs] ⊆ l) : Leaves l s t.hostLost ↔ Leaves l s t := by
  refine leaves_congr ?_ h
  unfold State.hostLost
  split
  · dsimp only
    split <;> simp
  · simp

@[simp] theorem leaves_claim (h : [.own, .outs] ⊆ l) : Leaves l s t.claim ↔ Leaves l s t := leaves_congr (by simp [State.claim]) h

@[simp] theorem leaves_elect {noClaim : Bool} (h : [.regs, .ctl, .own, .hew, .outs] ⊆ l) :
    Leaves l s (t.elect noClaim) ↔ Leaves l s t := leaves_congr (by simp [State.elect, State.electWith]) h

@[simp] theorem leaves_become {gen : Nat} (h : [.regs, .ctl, .own, .smb, .hew, .outs] ⊆ l) :
    Leaves l s (t.become gen) ↔ Leaves l s t := leaves_congr (by simp [State.become, State.setOwner, State.heartbeat]) h

@[simp] theorem leaves_aliveChange {c : Nat} {v : Bool} (h : [.regs, .ctl, .own, .smb, .hew, .outs] ⊆ l) :
    Leaves l s (t.aliveChange c v) ↔ Leaves l s t := leaves_congr (by simp [State.aliveChange, State.hostGained]) h

@[simp] theorem leaves_refreshWake (h : [.pcx, .outs] ⊆ l) : Leaves l s t.refreshWake ↔ Leaves l s t :=
  leaves_congr (by simp [State.refreshWake]) h

@[simp] theorem leaves_tellDock {c : TunCtx} {field v : Nat} (h : [.ctl, .outs] ⊆ l) :
    Leaves l s (t.tellDock c field v) ↔ Leaves l s t := leaves_congr (by simp [State.tellDock]) h

end

/-! ### The conditions of R103 -/

/-- The three conditions of R103 beside the keepalive. -/
def conditions (s : State) : Bool × Bool × Bool := (s.own.perstHigh, s.own.linkUp, s.own.bme)

theorem conditions_of_own {s t : State} (h : t.own = s.own) : conditions t = conditions s := by simp only [conditions, h]

theorem endYield_conditions (s : State) (code : Nat) : conditions (s.endYield code) = conditions s := by
  unfold State.endYield
  split
  · have hdone : ∀ (t : State) (k : InFlight), conditions ((t.ownM fun o => { o with yielding := none, noClaim := false }).finish k code 0) =
        conditions t := fun t k => (conditions_of_own (finish_leaves (t.ownM _) k code 0 .own (by decide))).trans rfl
    dsimp only
    split
    · exact (conditions_of_own (raise_leaves _ _ _ _ .own (by decide))).trans (hdone _ _)
    · exact hdone _ _
  · rfl

theorem hostLost_conditions (s : State) : conditions s.hostLost = conditions s := by
  unfold State.hostLost
  split
  · have hraised : ∀ (t : State) (vals : List Nat), conditions (t.raise 0 1 vals) = conditions t := fun t vals =>
      conditions_of_own (raise_leaves _ _ _ _ .own (by decide))
    dsimp only
    split
    · split
      · exact hraised _ _
      · exact (endYield_conditions _ _).trans (hraised _ _)
    · exact hraised _ _
  · rfl

theorem elect_conditions (s : State) (noClaim : Bool) : conditions (s.elect noClaim) = conditions s := by
  have hraised : ∀ t : State, conditions (t.raiseWith 2 false 0 []) = conditions t := fun t =>
    conditions_of_own (raiseWith_leaves _ _ _ _ _ .own (by decide))
  unfold State.elect State.electWith
  dsimp only
  split
  · exact hraised _
  · exact hraised _

theorem setOwner_conditions (s : State) (st fid gen : Nat) (rank : Option Rank) : conditions (s.setOwner st fid gen rank) = conditions s := by
  have hraised : ∀ (t : State) (vals : List Nat), conditions (t.raise 0 1 vals) = conditions t := fun t vals =>
    conditions_of_own (raise_leaves _ _ _ _ .own (by decide))
  have halert : ∀ t : State, conditions (t.alert 3) = conditions t := fun _ => rfl
  unfold State.setOwner
  rw [halert, hraised]
  rfl

theorem become_conditions (s : State) (gen : Nat) : conditions (s.become gen) = conditions s := by
  have hsend : ∀ t : State, conditions t.heartbeat = conditions t := fun _ => rfl
  rw [State.become, hsend, setOwner_conditions]
  exact conditions_of_own (put_own _ _ _)

theorem hostGained_conditions (s : State) : conditions s.hostGained = conditions s := by
  unfold State.hostGained
  split
  · split
    · exact elect_conditions _ _
    · split
      · exact become_conditions _ _
      · rfl
  · rfl

/-- What follows from a change of a condition changes none of them. -/
theorem aliveChange_conditions (s : State) (c : Nat) (v : Bool) : conditions (s.aliveChange c v) = conditions (s.setAlive c v) := by
  unfold State.aliveChange
  dsimp only
  split
  · exact hostLost_conditions _
  · split
    · exact hostGained_conditions _
    · rfl

/-- The registers that a gain of the host may change: GLB_OWNER, TUN_STAT, and those of the events. -/
def OwnerReg (a : Nat) : Prop := a = A.GLB_OWNER ∨ a = A.TUN_STAT ∨ EventReg a

theorem elect_regs_agree (s : State) (noClaim : Bool) : RegsAgreeOff OwnerReg s (s.elect noClaim) := by
  have hput : RegsAgreeOff OwnerReg s ((s.put F.GLB_OWNER_STATE 2).put F.GLB_OWNER_OWNFID 0) :=
    regsAgreeOff_trans (regsAgreeOff_put _ (.inl rfl)) (regsAgreeOff_put _ (.inl rfl))
  have hraise : ∀ t : State, RegsAgreeOff OwnerReg t (t.raiseWith 2 false 0 []) := fun t =>
    regsAgreeOff_mono (fun _ h => .inr (.inr h)) (raiseBytes_regs_agree t false 0 _ (by decide))
  have hown : ∀ (t : State) (g : OwnSt → OwnSt), RegsAgreeOff OwnerReg t (t.ownM g) := fun _ _ => regsAgreeOff_of_regs_eq rfl
  have hclaim : ∀ (t : State) (c : Bool), RegsAgreeOff OwnerReg t (if c then t.claim else t) := fun t c =>
    have hregs : t.claim.regs = t.regs := (leaves_claim (l := [.own, .outs]) (by simp)).2 (leaves_refl _ t) .regs (by decide)
    regsAgreeOff_ite (regsAgreeOff_of_regs_eq hregs) (regsAgreeOff_refl _ _)
  exact regsAgreeOff_trans (regsAgreeOff_trans (regsAgreeOff_trans hput (hown _ _)) (hraise _)) (hclaim _ _)

theorem setOwner_regs_agree (s : State) (st fid gen : Nat) (rank : Option Rank) : RegsAgreeOff OwnerReg s (s.setOwner st fid gen rank) := by
  have hraise : ∀ (t : State) (vals : List Nat), RegsAgreeOff OwnerReg t (t.raise 0 1 vals) := fun t vals =>
    regsAgreeOff_mono (fun _ h => .inr (.inr h)) (raise_regs_agree t vals (by decide))
  have halert : ∀ t : State, RegsAgreeOff OwnerReg t (t.alert 3) := fun _ => regsAgreeOff_of_regs_eq rfl
  have hput : RegsAgreeOff OwnerReg s (((s.put F.GLB_OWNER_STATE st).put F.GLB_OWNER_OWNFID fid).put F.GLB_OWNER_GEN gen) :=
    regsAgreeOff_trans (regsAgreeOff_trans (regsAgreeOff_put _ (.inl rfl)) (regsAgreeOff_put _ (.inl rfl))) (regsAgreeOff_put _ (.inl rfl))
  have hown : ∀ (t : State) (g : OwnSt → OwnSt), RegsAgreeOff OwnerReg t (t.ownM g) := fun _ _ => regsAgreeOff_of_regs_eq rfl
  exact regsAgreeOff_trans (regsAgreeOff_trans (regsAgreeOff_trans hput (hown _ _)) (hraise _ _)) (halert _)

theorem become_regs_agree (s : State) (gen : Nat) : RegsAgreeOff OwnerReg s (s.become gen) := by
  have hsend : ∀ t : State, RegsAgreeOff OwnerReg t t.heartbeat := fun _ => regsAgreeOff_of_regs_eq rfl
  exact regsAgreeOff_trans (regsAgreeOff_trans (regsAgreeOff_put _ (.inr (.inl rfl))) (setOwner_regs_agree _ _ _ _ _)) (hsend _)

theorem hostGained_regs_agree (s : State) : RegsAgreeOff OwnerReg s s.hostGained :=
  regsAgreeOff_ite (regsAgreeOff_ite (elect_regs_agree _ _) (regsAgreeOff_ite (become_regs_agree _ _) (regsAgreeOff_refl _ _)))
    (regsAgreeOff_refl _ _)

/-- A pin condition that begins to hold does not end the host's life. -/
theorem hostAlive_setAlive {s : State} {c : Nat} (hc : c < 2) (h : s.hostAlive = true) : (s.setAlive c true).hostAlive = true := by
  simp only [State.hostAlive, Bool.and_eq_true] at h
  obtain ⟨⟨⟨⟨hhost, hperst⟩, hlink⟩, hbme⟩, halive⟩ := h
  have hcond : (s.setAlive c true).own.perstHigh = true ∧ (s.setAlive c true).own.linkUp = true := by
    rcases (by omega : c = 0 ∨ c = 1) with rfl | rfl
    · exact ⟨rfl, hlink⟩
    · exact ⟨hperst, rfl⟩
  have hrest : (s.setAlive c true).isHost = s.isHost ∧ (s.setAlive c true).own.bme = s.own.bme ∧
      (s.setAlive c true).bit F.GLB_ALIVE_EXPIRED = s.bit F.GLB_ALIVE_EXPIRED := by
    rcases (by omega : c = 0 ∨ c = 1) with rfl | rfl <;> exact ⟨rfl, rfl, rfl⟩
  simp only [State.hostAlive, hcond, hrest, hhost, hbme, halive, Bool.and_self]

theorem aliveChange_true_regs_agree (s : State) {c : Nat} (hc : c < 2) : RegsAgreeOff OwnerReg s (s.aliveChange c true) := by
  have hset : (s.setAlive c true).regs = s.regs := by
    rcases (by omega : c = 0 ∨ c = 1) with rfl | rfl <;> rfl
  have hstays : (s.hostAlive && !(s.setAlive c true).hostAlive) = false := by
    cases h : s.hostAlive
    · rfl
    · rw [hostAlive_setAlive hc h]; rfl
  unfold State.aliveChange
  dsimp only
  rw [hstays, if_neg (by decide)]
  exact regsAgreeOff_trans (regsAgreeOff_of_regs_eq hset) (regsAgreeOff_ite (hostGained_regs_agree _) (regsAgreeOff_refl _ _))

/-! ### PCIE_PERST_N rises, the link comes up (R76, R103) -/

theorem not_ownerReg_of_lt {a : Nat} (h : a < 0x1000) (ho : a ≠ A.GLB_OWNER) : ¬ OwnerReg a := by
  rintro (rfl | rfl | he)
  · exact ho rfl
  · exact absurd h (by decide)
  · exact not_eventReg_of_lt h he

theorem not_ownerReg_pcxStat : ¬ OwnerReg A.PCX_STAT := by
  rintro (h | h | ⟨k, hk, h⟩ | h | ⟨n, hn, h⟩ | ⟨n, hn, hn', h⟩ | ⟨w, hw, h⟩)
  · exact absurd h (by decide)
  · exact absurd h (by decide)
  · simp only [A.PCX_STAT, A.EVT_STAT] at h; omega
  · exact absurd h (by decide)
  · simp only [A.PCX_STAT, A.GLB_RIDX] at h; omega
  · simp only [A.PCX_STAT, F.HWR_EVOVF, A.HWR_EVOVF] at h; omega
  · simp only [A.PCX_STAT, A.MSIX_PBA] at h; omega

theorem refreshWake_leaves (s : State) : Leaves [.pcx, .outs] s s.refreshWake := (leaves_refreshWake (by simp)).2 (leaves_refl _ s)

/-- The personality that GLB_BOOT.STAT allows a host whose 900 ms have not passed. -/
theorem present_pers {s : State} (hhost : s.isHost = true) (hperst : s.own.perstHigh = true) (hlate : s.boot.late = false) :
    s.present.boot.pers = (if s.get F.GLB_BOOT_STAT = 3 then 2
      else if 4 ≤ s.get F.GLB_BOOT_STAT ∨ s.bit F.GLB_BOOT_DLOAD = true then 1 else 0) := by
  rw [State.present, putBit_boot, bootM_boot]
  simp [hhost, hperst, hlate]

/-- The state in which PCIE_PERST_N has risen and the host may be alive. -/
def perstHigh (s : State) : State := (s.aliveChange 0 true).bootM fun b => { b with late := false }

theorem perstHigh_effect (s : State) :
    (perstHigh s).own.perstHigh = true ∧ (perstHigh s).boot.late = false ∧
      ∀ f : Fld, f.addr < 0x1000 → f.addr ≠ A.GLB_OWNER → (perstHigh s).get f = s.get f := by
  refine ⟨?perst, rfl, fun f hlow ho => ?reg⟩
  case perst => exact congrArg Prod.fst (aliveChange_conditions s 0 true)
  case reg =>
    exact (bootM_get _ _ _).trans (get_of_regsAgreeOff (aliveChange_true_regs_agree s (by decide)) (not_ownerReg_of_lt hlow ho))

theorem exec_pciePerstRelease {s : State} (hhost : s.isHost = true) (hlow : s.own.perstHigh = false) (hheld : s.boot.held = false) :
    exec .pciePerstRelease s = .next (perstHigh s).showPerst.present.refreshWake :=
  congrArg Host.Outcome.next ((if_neg (by simp [hhost, hlow])).trans (if_neg (by simp [hheld])))

theorem perstRelease_presents {s : State} (hhost : s.isHost = true) (hlow : s.own.perstHigh = false) (hheld : s.boot.held = false) :
    Does (.pciePerstRelease) s fun t =>
      t.own.perstHigh = true ∧
      t.boot.pers = (if s.get F.GLB_BOOT_STAT = 3 then 2 else if 4 ≤ s.get F.GLB_BOOT_STAT ∨ s.bit F.GLB_BOOT_DLOAD = true then 1
        else 0) := by
  obtain ⟨hperst, hlate, hget⟩ := perstHigh_effect s
  refine ⟨_, exec_pciePerstRelease hhost hlow hheld, ?_⟩
  have hwake := refreshWake_leaves (perstHigh s).showPerst.present
  generalize perstHigh s = t at hperst hlate hget hwake
  have hshown : Spares t t.showPerst := (Spares.refl t).showPerst
  have hreg : ∀ f : Fld, f.addr < 0x1000 → f.addr ≠ A.GLB_OWNER → t.showPerst.get f = s.get f := fun f hf ho =>
    (hshown.get hf).trans (hget f hf ho)
  have hhere : t.showPerst.isHost = true := by
    rwa [State.isHost, State.role, hreg _ (by decide) (by decide)]
  refine ⟨(congrArg OwnSt.perstHigh (hwake .own (by decide))).trans hperst, ?pers⟩
  case pers =>
    rw [hwake .boot (by decide), present_pers hhere hperst ((congrArg BootSt.late hshown.boot).trans hlate), State.bit,
      hreg _ (by decide) (by decide), hreg _ (by decide) (by decide)]
    rfl

/-- The link's registers show it up. -/
def linkShown (s : State) (speed width : Nat) : State :=
  (((s.put F.PCX_STAT_LINKUP 1).put F.PCX_STAT_SPEED speed).put F.PCX_STAT_WIDTH width).pcxM fun x => { x with l2 := false }

theorem exec_linkUp {s : State} {speed width : Nat} (hhost : s.isHost = true) (hperst : s.own.perstHigh = true) (hup : s.serdesUp = true)
    (hfits : s.pcieFits speed width = true) :
    exec (.pcieUpstreamLinkChange 0 speed width) s =
      .next ((((linkShown s speed width).raise 43 0 [0, speed, width, 0]).aliveChange 1 true).refreshWake) :=
  congrArg Host.Outcome.next (if_neg (by simp [hhost, hperst, hup, hfits]))

/-- A speed and width that fit their fields (R50, Table 9-2). -/
theorem pcieFits_fields {s : State} {speed width : Nat} (h : s.pcieFits speed width = true) : speed < 8 ∧ width < 8 := by
  simp only [State.pcieFits, Bool.and_eq_true, decide_eq_true_eq, List.mem_cons, List.not_mem_nil, or_false] at h
  have hmax : s.pcieMax ≤ 5 := by
    unfold State.pcieMax
    omega
  omega

theorem linkUp_shows {s : State} {speed width : Nat} (hhost : s.isHost = true) (hperst : s.own.perstHigh = true) (hup : s.serdesUp = true)
    (hfits : s.pcieFits speed width = true) :
    Does (.pcieUpstreamLinkChange 0 speed width) s fun t =>
      t.bit F.PCX_STAT_LINKUP = true ∧ t.get F.PCX_STAT_SPEED = speed ∧ t.get F.PCX_STAT_WIDTH = width ∧ t.own.linkUp = true := by
  obtain ⟨hspeed, hwidth⟩ := pcieFits_fields hfits
  have hwake := refreshWake_leaves (((linkShown s speed width).raise 43 0 [0, speed, width, 0]).aliveChange 1 true)
  have hcond := aliveChange_conditions ((linkShown s speed width).raise 43 0 [0, speed, width, 0]) 1 true
  have hget : ∀ f : Fld, f.addr = A.PCX_STAT →
      (((linkShown s speed width).raise 43 0 [0, speed, width, 0]).aliveChange 1 true).refreshWake.get f = (linkShown s speed width).get f := by
    intro f hf
    have hreg : ¬ OwnerReg f.addr := hf ▸ not_ownerReg_pcxStat
    rw [get_of_regs_eq (hwake .regs (by decide)), get_of_regsAgreeOff (aliveChange_true_regs_agree _ (by decide)) hreg,
      get_of_regsAgreeOff (raise_regs_agree _ _ (by decide)) fun he => hreg (.inr (.inr he))]
  have hshown : ∀ f : Fld, (linkShown s speed width).get f =
      (((s.put F.PCX_STAT_LINKUP 1).put F.PCX_STAT_SPEED speed).put F.PCX_STAT_WIDTH width).get f := fun _ => rfl
  refine ⟨_, exec_linkUp hhost hperst hup hfits, ?up, ?speed, ?width, ?link⟩
  case up =>
    rw [State.bit, hget _ rfl, hshown]
    simp (disch := decide) only [get_put_apart, get_put_same]
    decide
  case speed =>
    rw [hget _ rfl, hshown]
    simp (disch := decide) only [get_put_apart, get_put_same]
    exact Nat.mod_eq_of_lt hspeed
  case width =>
    rw [hget _ rfl, hshown, get_put_same _ _ (by decide)]
    exact Nat.mod_eq_of_lt hwidth
  case link => exact (congrArg OwnSt.linkUp (hwake .own (by decide))).trans (congrArg (fun c => c.2.1) hcond)

end Sys2Proof.Proofs
end

section
/-! SUPPORT. The loss of the host (R61): a device with nothing under way stays so, with its ownership and boot state as they were; and
the proof of O6. -/

namespace Sys2Proof.Proofs

open Sys2Proof.Machine Sys2Proof.Laws

/-- From `s` to `t` nothing comes under way, and the ownership and boot state stay. -/
structure StaysQuiet (s t : State) : Prop where
  quiet : Quiet t
  own : t.own = s.own
  boot : t.boot = s.boot

/-- Nothing is under way where carts, tunnels and the bridge are as they were. -/
theorem quiet_of_leaves {l : List Part} {s t : State} (hl : .crt ∉ l ∧ .tun ∉ l ∧ .pcx ∉ l) (h : Leaves l s t) (hq : Quiet s) : Quiet t := by
  obtain ⟨hcrt, htun, hpcx⟩ := hl
  rwa [Quiet, h .crt hcrt, h .tun htun, h .pcx hpcx]

namespace StaysQuiet

variable {s t u : State}

theorem refl (h : Quiet s) : StaysQuiet s s := ⟨h, rfl, rfl⟩

/-- Registers, events and outputs put nothing under way. -/
theorem events (h : StaysQuiet s t) (k : Leaves eventParts t u) : StaysQuiet s u :=
  ⟨quiet_of_leaves (by decide) k h.quiet, (k .own (by decide)).trans h.own, (k .boot (by decide)).trans h.boot⟩

/-- A change of the bridge that leaves hot-plug's moves and what waits for them. -/
theorem pcxM {g : PcxSt → PcxSt} (h : StaysQuiet s t) (hhp : ∀ x, (g x).hp = x.hp := by intro; rfl)
    (hasks : ∀ x, (g x).asks = x.asks := by intro; rfl) : StaysQuiet s (t.pcxM g) := by
  obtain ⟨⟨hloop, hcos, hnext, hp, asks, hdrift⟩, hown, hboot⟩ := h
  exact ⟨⟨hloop, hcos, hnext, (hhp _).trans hp, (hasks _).trans asks, hdrift⟩, hown, hboot⟩

theorem ite {c : Prop} [Decidable c] (h : StaysQuiet s t) (k : StaysQuiet s u) : StaysQuiet s (if c then t else u) := by
  split <;> assumption

theorem foldl {α : Type} {g : State → α → State} (h : StaysQuiet s t) (as : List α)
    (hg : ∀ u a, StaysQuiet s u → StaysQuiet s (g u a)) : StaysQuiet s (as.foldl g t) :=
  List.foldlRecOn as g h fun u hu a _ => hg u a hu

theorem put {f : Fld} {v : Nat} (h : StaysQuiet s t) : StaysQuiet s (t.put f v) := h.events (by simp)
theorem putBit {f : Fld} {b : Bool} (h : StaysQuiet s t) : StaysQuiet s (t.putBit f b) := h.put
theorem emit {o : Out} (h : StaysQuiet s t) : StaysQuiet s (t.emit o) := h.events (by simp)
theorem raise {g b : Nat} {vals : List Nat} (h : StaysQuiet s t) : StaysQuiet s (t.raise g b vals) := h.events (by simp)

/-! ### Slots and dock ports follow (R231, R234) -/

theorem answerAsks {k : Nat} {link : Bool} (h : StaysQuiet s t) : StaysQuiet s (t.answerAsks k link) := by
  obtain ⟨-, -, -, -, hasks, -⟩ := h.quiet
  rw [State.answerAsks, hasks]
  exact h

theorem slotM {k : Nat} {g : SlotSt → SlotSt} (h : StaysQuiet s t) : StaysQuiet s (t.slotM k g) := h.pcxM

theorem tellSlot {k : Nat} (h : StaysQuiet s t) : StaysQuiet s (t.tellSlot k) := by
  unfold State.tellSlot
  split
  · exact h.slotM.ite h
  · exact h.ite (h.slotM.foldl _ fun _ _ hu => hu.events (by simp))

theorem slotIrq {k : Nat} (h : StaysQuiet s t) : StaysQuiet s (t.slotIrq k) := (h.emit.ite h).ite h

theorem refreshSlot {k : Nat} (h : StaysQuiet s t) : StaysQuiet s (t.refreshSlot k) :=
  ite h.putBit.put.put.put.tellSlot
    (ite h.putBit.put.put.put.tellSlot.putBit.putBit.slotM.slotIrq.raise.answerAsks
      h.putBit.put.put.put.tellSlot.putBit.putBit.slotM.slotIrq.raise)

theorem dockDown {k : Nat} (h : StaysQuiet s t) : StaysQuiet s (t.dockDown k) :=
  ite ((ite h.put.put.put.put h.put.put.put).pcxM).raise h

theorem slotPower {k : Nat} (h : StaysQuiet s t) : StaysQuiet s (t.slotPower k) := h.emit.ite h

theorem dockEnable {k : Nat} {was : Bool} (h : StaysQuiet s t) : StaysQuiet s (t.dockEnable k was) :=
  ite h.putBit.slotPower (ite h.putBit.slotPower.emit.dockDown h.putBit.slotPower.emit)

theorem refreshPort {k : Nat} (h : StaysQuiet s t) : StaysQuiet s (t.refreshPort k) :=
  ite h.putBit.put (h.putBit.put.pcxM).dockEnable

theorem pcxRefresh (h : StaysQuiet s t) : StaysQuiet s t.pcxRefresh := by
  have hslots : StaysQuiet s (if t.isHost then (List.range 16).foldl (fun u k => u.refreshSlot k) t else t) :=
    (h.foldl _ fun _ _ hu => hu.refreshSlot).ite h
  exact (hslots.foldl _ fun _ _ hu => hu.refreshPort).ite hslots

/-! ### The host's side of the link (R61, R244, R252) -/

theorem refreshWake (h : StaysQuiet s t) : StaysQuiet s t.refreshWake :=
  h.ite (h.pcxM).emit

theorem discardBufs {test : RaBuf → Bool} {cause : Nat} (h : StaysQuiet s t) : StaysQuiet s (t.discardBufs test cause) := by
  refine (h.pcxM).foldl _ fun u b hu => hu.events ?_
  unfold State.discardBuf
  split
  · simp [State.logDiscard]
  · simp

theorem pcieHostLost (h : StaysQuiet s t) : StaysQuiet s t.pcieHostLost := (h.discardBufs.pcxM).refreshWake

theorem nicRefresh (h : StaysQuiet s t) : StaysQuiet s t.nicRefresh := by
  refine h.ite (h.foldl _ fun u f hu => hu.events ?_)
  simp

/-! ### What waits for the host (R251, R347) -/

theorem hotRun_of_none (n : Nat) {s : State} (h : s.pcx.hp = []) : State.hotRun n s = s := by
  cases n with
  | zero => rfl
  | succ n => rw [State.hotRun, h]

theorem hotHostLost (h : StaysQuiet s t) : StaysQuiet s t.hotHostLost := by
  obtain ⟨-, -, -, hhp, hasks, -⟩ := h.quiet
  have hpoll : t.hotPoll = t := hotRun_of_none _ hhp
  rw [State.hotHostLost, hasks]
  exact h.ite (by rw [List.filter_nil, List.foldl_nil, hpoll]; exact h)

theorem cartRun_of_none (n : Nat) {s : State} (h : s.crt.loop = []) : State.cartRun n s = s := by
  cases n with
  | zero => rfl
  | succ n => rw [State.cartRun, h]

theorem ownCheck (h : StaysQuiet s t) : StaysQuiet s t.ownCheck := by
  obtain ⟨⟨hloop, hcos, hnext, hhp, hasks, hdrift⟩, hown, hboot⟩ := h
  unfold State.ownCheck
  dsimp only
  rw [hcos, List.filter_nil, List.foldl_nil, hnext, List.foldl_nil, tunM_pcx, hhp, List.foldl_nil]
  exact ite ⟨⟨hloop, hcos, hnext, hhp, hasks, hdrift⟩, hown, hboot⟩ ⟨⟨hloop, hcos, rfl, hhp, hasks, hdrift⟩, hown, hboot⟩

theorem cartFlush (h : StaysQuiet s t) : StaysQuiet s t.cartFlush := by
  have hchecked := h.ownCheck
  obtain ⟨hloop, -, -, -, -, -⟩ := h.quiet
  obtain ⟨hloop', -, -, -, -, hdrift⟩ := hchecked.quiet
  rw [State.cartFlush, cartRun_of_none _ hloop, cartRun_of_none _ hloop', State.flushLoop, hdrift]
  exact hchecked

theorem hostGone (h : StaysQuiet s t) : StaysQuiet s t.hostGone := h.hotHostLost.pcieHostLost.pcxRefresh.nicRefresh.cartFlush

end StaysQuiet

/-! ### PCIE_PERST_N falls (R61) -/

theorem portsReset_leaves (s : State) : Leaves [.regs, .ctl, .outs] s s.portsReset := by
  have huntell : ∀ (u : State) (k : Nat), Leaves [.regs, .ctl, .outs] u (u.untellSlot k) := fun u k => by
    unfold State.untellSlot
    split <;> simp
  exact leaves_trans (leaves_foldl huntell _ _) (leaves_foldl (fun _ _ => by simp) _ _)

theorem clearRegs_leaves (s : State) (f : Nat → Bool) : Leaves [.regs] s (s.clearRegs f) := by
  rintro ⟨⟩ <;> simp [State.clearRegs, Part.kept]

theorem setBridge_leaves (s : State) (x : PcxSt) (ns : List NicSt) (ys : List SrcSt) :
    Leaves [.pcx, .nics, .srcs] s { s with pcx := x, nics := ns, srcs := ys } := by
  rintro ⟨⟩ <;> simp [Part.kept]

/-- The block's reset leaves hot-plug's moves, and everything but the bridge, the NICs and the sources. -/
theorem pcxBlockReset_effect (s : State) :
    Leaves [.regs, .ctl, .pcx, .nics, .srcs, .outs] s s.pcxBlockReset ∧ s.pcxBlockReset.pcx.hp = s.pcx.hp ∧
      s.pcxBlockReset.pcx.asks = s.pcx.asks := by
  unfold State.pcxBlockReset
  extract_lets t x
  have hreset : Leaves [.regs, .ctl, .outs] s t :=
    (leaves_putBit (by simp)).2 (leaves_trans (portsReset_leaves s) (leaves_mono (by simp) (clearRegs_leaves _ _)))
  have hpcx : x = s.pcx := hreset .pcx (by decide)
  clear_value x t
  refine ⟨leaves_trans (leaves_mono (by simp) hreset) (leaves_mono (by simp) (setBridge_leaves t _ _ _)), ?hp, ?asks⟩
  case hp => rw [← hpcx]
  case asks => rw [← hpcx]

theorem present_leaves (s : State) : Leaves [.regs, .boot] s s.present := by simp [State.present]

/-- No condition of R103 but the keepalive holds any more. -/
def hostDead (s : State) : State := ((s.aliveChange 0 false).setAlive 1 false).setAlive 2 false

theorem hostDead_own (s : State) :
    (hostDead s).own.perstHigh = false ∧ (hostDead s).own.linkUp = false ∧ (hostDead s).own.bme = false :=
  ⟨congrArg Prod.fst (aliveChange_conditions s 0 false), rfl, rfl⟩

theorem hostDead_quiet {s : State} (h : Quiet s) : Quiet (hostDead s) :=
  quiet_of_leaves (l := [.regs, .ctl, .own, .smb, .hew, .outs]) (by decide) (by simp [hostDead]) h

theorem exec_pciePerstAssert {s : State} (hhost : s.isHost = true) (hperst : s.own.perstHigh = true) :
    exec .pciePerstAssert s = .next (hostDead s).pcxBlockReset.present.hostGone :=
  congrArg Host.Outcome.next (if_neg (by simp [hhost, hperst]))

theorem perstAssert_ends {s : State} (hhost : s.isHost = true) (hperst : s.own.perstHigh = true) (hquiet : Quiet s) :
    Does (.pciePerstAssert) s fun t =>
      t.own.perstHigh = false ∧ t.own.linkUp = false ∧ t.own.bme = false ∧ t.boot.pers = 0 := by
  obtain ⟨hlow, hlink, hbme⟩ := hostDead_own s
  obtain ⟨hreset, hhp, hasks⟩ := pcxBlockReset_effect (hostDead s)
  have hquiet' := hostDead_quiet hquiet
  refine ⟨_, exec_pciePerstAssert hhost hperst, ?_⟩
  generalize hostDead s = t at hlow hlink hbme hreset hhp hasks hquiet'
  have hown : t.pcxBlockReset.own = t.own := hreset .own (by decide)
  have hshown := present_leaves t.pcxBlockReset
  have hstill : Quiet t.pcxBlockReset.present := by
    obtain ⟨hloop, hcos, hnext, hp, asks, hdrift⟩ := hquiet'
    refine quiet_of_leaves (by decide) hshown ?_
    rw [Quiet, hreset .crt (by decide), hreset .tun (by decide), hhp, hasks]
    exact ⟨hloop, hcos, hnext, hp, asks, hdrift⟩
  have hgone := (StaysQuiet.refl hstill).hostGone
  have hend : t.pcxBlockReset.present.hostGone.own = t.own := hgone.own.trans ((hshown .own (by decide)).trans hown)
  refine ⟨?perst, ?link, ?bme, ?pers⟩
  case perst => rw [hend, hlow]
  case link => rw [hend, hlink]
  case bme => rw [hend, hbme]
  case pers =>
    rw [hgone.boot, State.present, putBit_boot, bootM_boot, hown]
    simp [hlow]

/-- Settles O6: clause by clause, the equation of the step, then what its operations leave of the fields that the clause names. -/
theorem bootSupplyRows : Obligations.BootSupplyRows :=
  ⟨fun _ htrip => thermalTrip_holds htrip,
    fun _ _ hr hnew hon => coreRail_resets hr hnew hon,
    fun _ _ h5 hr hnew hon => dramRail_loses_store h5 hr hnew hon,
    fun _ _ hlow hporst hstraps htrip hfault hon => lastRail_releases hlow hporst hstraps htrip hfault hon,
    fun _ otp found modes dqs size runs hheld hwarm hrom hlc => bootRom_withoutDram otp found modes dqs size runs hheld hwarm hrom hlc,
    fun _ otp found modes dqs size runs hheld hwarm hrom hlc hstrap hrole =>
      bootRom_downloadStrap otp found modes dqs size runs hheld hwarm hrom hlc hstrap hrole,
    fun _ _ hstat hslot => firmwareReady_effect hstat hslot,
    fun _ hwdt hflash hslot => bootWatchdog_marks hwdt hflash hslot,
    fun _ _ hheld hhost hstat hlen => dlenWrite_takes hheld hhost hstat hlen,
    fun _ hhost hperst hrom hpers hstat => bootTimeout_presents hhost hperst hrom hpers hstat,
    fun _ hhost hperst hquiet => perstAssert_ends hhost hperst hquiet,
    fun _ hhost hlow hheld => perstRelease_presents hhost hlow hheld,
    fun _ _ _ hhost hperst hup hfits => linkUp_shows hhost hperst hup hfits⟩

end Sys2Proof.Proofs
end

section
/-! SUPPORT. What a power-on reset starts from, and what a core and a warm reset keep (R58, R80), register by register, with the proof
of O48. -/

namespace Sys2Proof.Proofs

open Sys2Proof.Machine Sys2Proof.Laws

/-! ### The state at Lantern power-on -/

theorem reset_rd (a : Nat) : State.reset.rd a = regReset a := rfl

/-- The last word of BAR0 lies in no block of Table 22-1. -/
theorem regReset_lastWord : regReset 0xFFFFFC = 0 := by decide

/-- Settles O48: the parts of the state by definition, the registers by the reset values of their tables. -/
theorem resetValues : Obligations.ResetValues := by
  refine ⟨rfl, rfl, rfl, rfl, rfl, ?prio, ?owner, ?boot, ?fid, regReset_lastWord⟩
  all_goals decide

/-! ### Registers set again after a reset -/

/-- Words written one after another change the registers they are written to alone. -/
theorem foldl_wr_regs_agree (l : List (Nat × Word)) (s : State) :
    RegsAgreeOff (fun a => a ∈ l.map (·.1)) s (l.foldl (fun t e => t.wr e.1 e.2) s) :=
  regsAgreeOff_foldl l (fun t _ he _ ha => rd_wr_other t _ fun heq => ha (heq ▸ List.mem_map_of_mem he)) s

/-- Words in rising order of address, written over a register at its reset value, leave what they hold for it. -/
theorem foldl_wr_rd {l : List (Nat × Word)} (hl : (l.map (·.1)).Pairwise (· < ·)) {s : State} {a : Nat} (h : s.rd a = regReset a) :
    (l.foldl (fun t e => t.wr e.1 e.2) s).rd a = RegFile.get l a := by
  induction l generalizing s with
  | nil => exact h
  | cons e l ih =>
    obtain ⟨hlow, hl⟩ := List.pairwise_cons.1 hl
    rw [List.foldl_cons]
    by_cases ha : e.1 = a
    · subst ha
      rw [foldl_wr_regs_agree l _ e.1 fun hm => lt_irrefl _ (hlow _ hm), rd_wr_same]
      simp [RegFile.get]
    · rw [ih hl ((rd_wr_other s _ (Ne.symm ha)).trans h)]
      simp [RegFile.get, ha]

/-- A register that the test of a filter accepts reads as before. -/
theorem rd_of_kept {s b : State} {f : Nat → Bool} {a : Nat} (h : b.regs = s.regs.filter fun e => f e.1) (ha : f a = true) :
    b.rd a = s.rd a := by
  have hf : (s.regs.filter fun e => f e.1).find? (fun e => e.1 == a) = s.regs.find? fun e => e.1 == a := by
    simpa using find_filter_kept s.regs (f := fun x => !f x) (a := a) (by simp [ha])
  simp only [State.rd, RegFile.get, h, hf]

@[simp] theorem leaves_restore {l : List Part} {s t old : State} {keep : Nat → Bool} (h : .regs ∈ l) :
    Leaves l s (t.restore old keep) ↔ Leaves l s t := leaves_foldl_iff _ fun _ _ => (leaves_wr h).2 (leaves_self _ _)

theorem restore_regs_agree (s old : State) (keep : Nat → Bool) : RegsAgreeOff (fun a => keep a = true) s (s.restore old keep) := by
  refine regsAgreeOff_mono (fun a ha => ?_) (foldl_wr_regs_agree _ s)
  obtain ⟨e, he, rfl⟩ := List.mem_map.1 ha
  exact (List.mem_filter.1 he).2

theorem restore_rd_kept {s old : State} {keep : Nat → Bool} {a : Nat} (hold : RegsCanonical old) (hs : s.rd a = regReset a)
    (ha : keep a = true) : (s.restore old keep).rd a = old.rd a := by
  have hsorted : ((old.regs.filter fun e => keep e.1).map (·.1)).Pairwise (· < ·) := by
    have hwf := filter_canonical (fun e => keep e.1) hold
    simp only [RegFile.wf, Bool.and_eq_true, decide_eq_true_eq] at hwf
    exact hwf.1
  exact (foldl_wr_rd hsorted hs).trans (rd_of_kept (b := { old with regs := old.regs.filter fun e => keep e.1 }) rfl ha)

/-! ### What a core reset leaves (R58) -/

/-- The sampled straps lie in the Lantern (R66). -/
theorem lanternOnly_strap (s : State) {f : Fld} (hf : f.addr = A.GLB_STRAP) : s.lanternOnly.get f = s.get f := by
  obtain ⟨b, hregs, -, -, -, -, h⟩ := lanternOnly_from s
  have hrd : b.rd A.GLB_STRAP = s.rd A.GLB_STRAP := rd_of_kept hregs (by decide)
  rw [h.get (by rw [hf]; decide)]
  simp only [State.get, hf]
  rw [rd_put_other _ _ (by decide), rd_put_other _ _ (by decide), rd_put_other _ _ (by decide), hrd]

theorem coreReset_strap (s : State) {cause f : Fld} (ha : cause.addr = A.GLB_RSTCAUSE) (hf : f.addr = A.GLB_STRAP) :
    (s.coreReset cause).get f = s.get f := by
  obtain ⟨u, hu, ht⟩ := coreReset_from s cause
  have hlow : f.addr < 0x1000 := by rw [hf]; decide
  calc (s.coreReset cause).get f = (u.put cause 1).get f := ht.get hlow
    _ = u.get f := by rw [State.get, rd_put_other u 1 (by rw [ha, hf]; decide), State.get]
    _ = s.lanternOnly.get f := hu.get hlow
    _ = s.get f := lanternOnly_strap s hf

theorem coreReset_role (s : State) {cause : Fld} (ha : cause.addr = A.GLB_RSTCAUSE) : (s.coreReset cause).role = s.role :=
  coreReset_strap s ha rfl

theorem coreReset_stat (s : State) {cause : Fld} (ha : cause.addr = A.GLB_RSTCAUSE) : (s.coreReset cause).get F.GLB_BOOT_STAT = 0 :=
  (coreReset_glbBoot s ha rfl).trans (lanternOnly_stat s)

theorem coreReset_rstCnt (s : State) (cause : Fld) : (s.coreReset cause).boot.rstCnt = (s.boot.rstCnt + 1) % 65536 :=
  congrArg BootSt.rstCnt (coreReset_boot s cause)

theorem fwLost_flt (s old : State) : (s.fwLost old).flt = s.flt :=
  (by simp [State.fwLost] : Leaves [.regs] s (s.fwLost old)) .flt (by decide)

theorem coreReset_strapFault (s : State) (cause : Fld) : (s.coreReset cause).boot.strapFault = s.boot.strapFault := by
  rw [coreReset_boot]
  rfl

/-- RSTOUT_N goes low (R62). -/
theorem coreReset_sends (s : State) (cause : Fld) : Sends s (s.coreReset cause) (.pin .rstoutN false) := by
  unfold State.coreReset
  extract_lets dark lost darkened shown dock
  have hdark : Spares lost darkened := (Spares.refl lost).foldl dark fun _ _ hu => (hu.put (above_base (by decide))).emit
  have hbefore : s.outs <+: (darkened.put cause 1).outs := by
    have hlost : lost.outs = s.outs := lanternOnly_outs s
    rw [put_outs, ← hlost]
    exact hdark.outs
  have hshown : Spares ((darkened.put cause 1).emit (.pin .rstoutN false)) shown := (Spares.refl _).showPerst
  have hdock : Spares ((darkened.put cause 1).emit (.pin .rstoutN false)) dock := hshown.perstOut.emit.ite hshown
  exact sends_between hbefore (hdock.emit.ite hdock).outs

theorem lanternOnly_flt (s : State) : s.lanternOnly.flt = State.reset.flt := by
  simp only [State.lanternOnly, fwLost_flt, put_flt]

theorem coreReset_flt (s : State) (cause : Fld) : (s.coreReset cause).flt = State.reset.flt :=
  have h : Leaves [.regs, .boot, .outs] s.lanternOnly (s.coreReset cause) := by simp [State.coreReset, State.showPerst]
  (h .flt (by decide)).trans (lanternOnly_flt s)

/-- The registers of the block FLT and the rest of its 64 KiB (Table 22-1). -/
abbrev FltReg (a : Nat) : Prop := 0x14000 ≤ a ∧ a < 0x20000

theorem not_fltReg_adtStat (p : Nat) : ¬ FltReg (F.ADT_STAT_LASTFAIL p).addr := by
  simp only [FltReg, F.ADT_STAT_LASTFAIL, A.ADT_STAT]
  omega

theorem fwLost_regs_agree (s old : State) : RegsAgreeOff (fun a => a = A.USB_YALSTAT) s (s.fwLost old) :=
  regsAgreeOff_ite (regsAgreeOff_trans (regsAgreeOff_put _ rfl) (regsAgreeOff_put _ rfl)) (regsAgreeOff_refl _ _)

/-- FLT lies outside the Lantern. -/
theorem lanternReg_flt {a : Nat} (h : FltReg a) : lanternReg a = false := by
  obtain ⟨hlo, hhi⟩ := h
  simp only [lanternReg, Bool.or_eq_false_iff, Bool.and_eq_false_iff, decide_eq_false_iff_not, List.mem_cons, List.not_mem_nil, or_false]
  simp only [A.KEY_OTP, A.GLB_STRAP, A.GLB_RSTCAUSE, A.GLB_UIDLO, A.GLB_UIDHI, A.PCX_ID]
  omega

/-- The registers of FLT return to their reset values. -/
theorem lanternOnly_fltRegs (s : State) {a : Nat} (h : FltReg a) : s.lanternOnly.rd a = regReset a := by
  have hput : ∀ {u : State} {f : Fld} {v : Nat}, ¬ FltReg f.addr → (u.put f v).rd a = u.rd a :=
    fun hf => rd_put_other _ _ fun e => hf (e ▸ h)
  have hyal : a ≠ A.USB_YALSTAT := fun e => absurd (e ▸ h) (by decide)
  rw [State.lanternOnly, fwLost_regs_agree _ _ a hyal]
  rw [hput (by decide), hput (by decide), hput (by decide), hput (by decide), hput (by decide), hput (by decide), hput (by decide)]
  exact rd_of_filtered rfl (lanternReg_flt h)

theorem coreReset_fltRegs (s : State) {cause : Fld} (ha : cause.addr = A.GLB_RSTCAUSE) {a : Nat} (h : FltReg a) :
    (s.coreReset cause).rd a = regReset a := by
  have hagree : RegsAgreeOff (fun a => ¬ FltReg a) s.lanternOnly (s.coreReset cause) := by
    unfold State.coreReset
    extract_lets dark lost darkened shown dock
    have hdarkened : RegsAgreeOff (fun a => ¬ FltReg a) lost darkened := regsAgreeOff_foldl dark (fun _ p _ =>
      regsAgreeOff_trans (regsAgreeOff_put 11 (not_fltReg_adtStat p)) (regsAgreeOff_of_regs_eq (emit_regs _ _))) lost
    have hcause : RegsAgreeOff (fun a => ¬ FltReg a) darkened ((darkened.put cause 1).emit (.pin .rstoutN false)) :=
      regsAgreeOff_put (f := cause) 1 (by rw [ha]; decide)
    have hshown : RegsAgreeOff (fun a => ¬ FltReg a) lost shown :=
      regsAgreeOff_trans hdarkened (regsAgreeOff_trans hcause (regsAgreeOff_put _ (by decide)))
    have hdock : RegsAgreeOff (fun a => ¬ FltReg a) lost dock := regsAgreeOff_ite hshown hshown
    exact regsAgreeOff_ite hdock hdock
  exact (hagree a (not_not_intro h)).trans (lanternOnly_fltRegs s h)

/-! ### What a warm reset leaves beside that (R58, R496) -/

/-- The fault log lies in FLT. -/
theorem fltReg_of_logReg {a : Nat} (h : logReg a = true) : FltReg a := by
  simp only [logReg, Bool.or_eq_true, Bool.and_eq_true, decide_eq_true_eq, List.mem_cons, List.not_mem_nil, or_false] at h
  simp only [A.FLT_SEQ, A.FLT_HEAD, A.FLT_RDSEQ, A.FLT_OPEN, A.FLT_ENT0] at h
  unfold FltReg
  omega

/-- The registers that a warm reset sets again. -/
def warmKept (a : Nat) : Bool := logReg a || windowReg a

theorem warmKept_low {a : Nat} (h : a < 0x1000) : ¬ warmKept a = true := by
  rw [warmKept, Bool.or_eq_true]
  rintro (hlog | hwindow)
  · have := (fltReg_of_logReg hlog).1
    omega
  · simp only [windowReg, Bool.and_eq_true, decide_eq_true_eq] at hwindow
    omega

/-- After the registers it sets again a warm reset writes JTAG's unlock and DRAM's state. -/
theorem warmReset_regs_agree (s : State) (cause : Fld) :
    RegsAgreeOff (fun a => a = A.KEY_LCS ∨ a = A.MEM_DRAMSTAT) ((s.coreReset cause).restore s warmKept) (s.warmReset cause) := by
  unfold State.warmReset
  extract_lets kept written
  have hkept : RegsAgreeOff (fun a => a = A.KEY_LCS ∨ a = A.MEM_DRAMSTAT) ((s.coreReset cause).restore s warmKept) kept :=
    regsAgreeOff_of_regs_eq rfl
  exact regsAgreeOff_trans hkept (regsAgreeOff_trans (regsAgreeOff_put (f := F.KEY_LCS_JTAGUNL) _ (.inl rfl))
    (regsAgreeOff_put (f := F.MEM_DRAMSTAT_STATE) _ (.inr rfl)))

/-- The fields of GLB are as the core reset leaves them. -/
theorem warmReset_get (s : State) (cause : Fld) {f : Fld} (hf : f.addr < 0x1000) : (s.warmReset cause).get f = (s.coreReset cause).get f := by
  have hlast : ¬ (f.addr = A.KEY_LCS ∨ f.addr = A.MEM_DRAMSTAT) := by
    simp only [A.KEY_LCS, A.MEM_DRAMSTAT]
    omega
  rw [get_of_regsAgreeOff (warmReset_regs_agree s cause) hlast, get_of_regsAgreeOff (restore_regs_agree _ s _) (warmKept_low hf)]

/-- The fault log stays. -/
theorem warmReset_log {s : State} (hs : RegsCanonical s) {cause : Fld} (ha : cause.addr = A.GLB_RSTCAUSE) :
    RegsAgreeOff (fun a => ¬ (logReg a = true)) s (s.warmReset cause) := by
  intro a hlog
  have hlog : logReg a = true := not_not.1 hlog
  have hflt := fltReg_of_logReg hlog
  have hlast : ¬ (a = A.KEY_LCS ∨ a = A.MEM_DRAMSTAT) := by
    simp only [FltReg, A.KEY_LCS, A.MEM_DRAMSTAT] at hflt ⊢
    omega
  rw [warmReset_regs_agree s cause a hlast]
  exact restore_rd_kept hs (coreReset_fltRegs s ha hflt) (by rw [warmKept, hlog, Bool.true_or])

theorem warmReset_tun (s : State) (cause : Fld) : (s.warmReset cause).tun = TunSt.reset :=
  have h : Leaves [.regs] (s.coreReset cause) ((s.coreReset cause).restore s warmKept) := by simp
  (h .tun (by decide)).trans (coreReset_tun s cause)

theorem warmReset_flt (s : State) (cause : Fld) : (s.warmReset cause).flt = s.flt := rfl

/-! ### What a power-on reset leaves (R43, R57, R58) -/

/-- What a power-on reset may leave off its reset value, GLB_BOOT apart: straps, unique ID, the Lamp Room, PCX, USB and PD. -/
def PowerOnReg (a : Nat) : Prop := a ∈ [A.GLB_STRAP, A.GLB_UIDLO, A.GLB_UIDHI] ∨ (0x10000 ≤ a ∧ a < 0x14000) ∨ 0x100000 ≤ a

/-- The registers that a power-on reset keeps: the OTP and the identity. -/
def otpReg (a : Nat) : Bool :=
  (decide (A.KEY_OTP 0 ≤ a) && decide (a ≤ A.KEY_OTP 59)) || a ∈ [A.GLB_UIDLO, A.GLB_UIDHI, A.PCX_ID]

theorem powerOnReg_of_otpReg {a : Nat} (h : otpReg a = true) : PowerOnReg a := by
  simp only [otpReg, Bool.or_eq_true, Bool.and_eq_true, decide_eq_true_eq, List.mem_cons, List.not_mem_nil, or_false] at h
  simp only [PowerOnReg, List.mem_cons, List.not_mem_nil, or_false]
  simp only [A.KEY_OTP, A.GLB_UIDLO, A.GLB_UIDHI, A.PCX_ID, A.GLB_STRAP] at h ⊢
  omega

theorem pdOff_regs_agree (s : State) (n : Nat) : RegsAgreeOff PowerOnReg s (s.pdOff n) := by
  have hoff : ((s.pdGate n false).pdDisch n true).regs = s.regs :=
    ((by simp : Leaves [.pds, .outs] s ((s.pdGate n false).pdDisch n true)) .regs (by decide))
  unfold State.pdOff State.pdVconn State.putBit
  exact regsAgreeOff_trans (regsAgreeOff_of_regs_eq hoff) (regsAgreeOff_trans
    (regsAgreeOff_put (f := F.PD_STAT_VCONN n) _ (.inr (.inr (Nat.le_add_right_of_le (by decide))))) (regsAgreeOff_of_regs_eq (emit_regs _ _)))

/-- One port at the Lantern's start. -/
def portStart (vbus : List Nat) (s : State) (n : Nat) : State :=
  ((s.pdOff n).put (F.PD_VBUS_VBUS n) (min (vbus.getD n 0) 1023)).pdM n fun x => { x with skip := decide (475000 < vbus.getD n 0 * 5625) }

theorem portStart_regs_agree (vbus : List Nat) (s : State) (n : Nat) : RegsAgreeOff PowerOnReg s (portStart vbus s n) :=
  regsAgreeOff_trans (pdOff_regs_agree s n)
    (regsAgreeOff_put (f := F.PD_VBUS_VBUS n) _ (.inr (.inr (Nat.le_add_right_of_le (by decide)))))

/-- PD0 starts as a Sink that a source may wake (R57). -/
def deadBattery (s : State) : State :=
  (((s.put F.GLB_STRAP_DBRD 1).put (F.PD_STAT_DBSINK 0) 1).put (F.PD_STAT_STATE 0) 1).pdTerms 0

theorem pdStart_eq (s : State) (dbrd : Bool) (vbus : List Nat) :
    s.pdStart dbrd vbus = if dbrd then deadBattery ([0, 1, 2].foldl (portStart vbus) s) else [0, 1, 2].foldl (portStart vbus) s := rfl

theorem deadBattery_regs_agree (s : State) : RegsAgreeOff PowerOnReg s (deadBattery s) := by
  have hterms : ∀ t : State, RegsAgreeOff PowerOnReg t (t.pdTerms 0) := fun t =>
    regsAgreeOff_of_regs_eq (((leaves_pdTerms (l := [.outs]) (by simp)).2 (leaves_self _ t)) .regs (by decide))
  exact regsAgreeOff_trans (regsAgreeOff_put (f := F.GLB_STRAP_DBRD) 1 (.inl (by decide)))
    (regsAgreeOff_trans (regsAgreeOff_put (f := F.PD_STAT_DBSINK 0) 1 (.inr (.inr (by decide))))
      (regsAgreeOff_trans (regsAgreeOff_put (f := F.PD_STAT_STATE 0) 1 (.inr (.inr (by decide)))) (hterms _)))

theorem deadBattery_outs (s : State) : s.outs <+: (deadBattery s).outs := by
  have hterms : ∀ t : State, t.outs <+: (t.pdTerms 0).outs := fun t => (Spares.refl t).pdTerms.outs
  have h := hterms (((s.put F.GLB_STRAP_DBRD 1).put (F.PD_STAT_DBSINK 0) 1).put (F.PD_STAT_STATE 0) 1)
  rwa [put_outs, put_outs, put_outs] at h

theorem pdStart_regs_agree (s : State) (dbrd : Bool) (vbus : List Nat) : RegsAgreeOff PowerOnReg s (s.pdStart dbrd vbus) := by
  have hports : RegsAgreeOff PowerOnReg s ([0, 1, 2].foldl (portStart vbus) s) :=
    regsAgreeOff_foldl _ (fun t n _ => portStart_regs_agree vbus t n) s
  rw [pdStart_eq]
  exact regsAgreeOff_ite (regsAgreeOff_trans hports (deadBattery_regs_agree _)) hports

theorem pdStart_outs (s : State) (dbrd : Bool) (vbus : List Nat) : s.outs <+: (s.pdStart dbrd vbus).outs := by
  have hports : s.outs <+: ([0, 1, 2].foldl (portStart vbus) s).outs :=
    prefix_foldl (fun t n => (((Spares.refl t).pdOff (n := n)).put (f := F.PD_VBUS_VBUS n) (above_base (by decide))).pdM.outs) _ s
  rw [pdStart_eq]
  split
  · exact hports.trans (deadBattery_outs _)
  · exact hports

theorem pdStart_leaves (s : State) (dbrd : Bool) (vbus : List Nat) : Leaves [.regs, .pds, .outs] s (s.pdStart dbrd vbus) := by
  simp [State.pdStart, State.pdOff, State.pdVconn]

/-- A power-on reset from the state it starts from: the rollback counter, KEY_LCS as the Lamp Room has it, RSTOUT_N low, and the ports'
start. -/
def powerOnFrom (b s : State) (x : PowerUp) : State :=
  ((((b.put F.GLB_BOOT_SVNCTR (s.get F.GLB_BOOT_SVNCTR)).restore s.lanternOnly fun a =>
    a == A.KEY_LCS).emit (.pin .rstoutN false)).fwLost s).pdStart x.dbrd x.vbus

/-- A power-on reset starts from a state with the OTP's registers alone. -/
theorem exec_powerOnReset (s : State) (x : PowerUp) :
    ∃ b : State, (b.regs = s.lanternOnly.regs.filter fun e => otpReg e.1) ∧ b.boot.strapFault = false ∧ b.boot.held = true ∧
      b.tun = TunSt.reset ∧ b.outs = s.outs ∧ exec (.powerOnReset x) s = .next (powerOnFrom b s x) := by
  refine ⟨_, ?_, ?_, ?_, ?_, ?_, rfl⟩ <;> rfl

theorem powerOnFrom_leaves (b s : State) (x : PowerUp) : Leaves [.regs, .pds, .outs] b (powerOnFrom b s x) :=
  leaves_trans (by simp [State.fwLost]) (pdStart_leaves _ _ _)

theorem powerOnFrom_regs_agree (b s : State) (x : PowerUp) :
    RegsAgreeOff PowerOnReg (b.put F.GLB_BOOT_SVNCTR (s.get F.GLB_BOOT_SVNCTR)) (powerOnFrom b s x) := by
  have hlcs : ∀ t : State, RegsAgreeOff PowerOnReg t (t.restore s.lanternOnly fun a => a == A.KEY_LCS) := fun t =>
    regsAgreeOff_mono (fun a ha => .inr (.inl (by rw [beq_iff_eq.1 ha]; decide))) (restore_regs_agree t _ _)
  have hyal : ∀ t : State, RegsAgreeOff PowerOnReg t (t.fwLost s) := fun t =>
    regsAgreeOff_mono (fun a ha => .inr (.inr (by rw [ha]; decide))) (fwLost_regs_agree t s)
  exact regsAgreeOff_trans (regsAgreeOff_trans (regsAgreeOff_trans (hlcs _) (regsAgreeOff_of_regs_eq (emit_regs _ _))) (hyal _))
    (pdStart_regs_agree _ _ _)

theorem powerOnFrom_sends (b s : State) (x : PowerUp) : Sends b (powerOnFrom b s x) (.pin .rstoutN false) := by
  have hyal : ∀ t : State, (t.fwLost s).outs = t.outs := fun t =>
    ((by simp [State.fwLost] : Leaves [.regs] t (t.fwLost s)) .outs (by decide)).1
  have hrestored : Leaves [.regs] b ((b.put F.GLB_BOOT_SVNCTR (s.get F.GLB_BOOT_SVNCTR)).restore s.lanternOnly fun a =>
      a == A.KEY_LCS) := by simp
  refine sends_between (prefix_of_leaves (by decide) hrestored) ?_
  rw [← hyal]
  exact pdStart_outs _ _ _

/-- A power-on reset holds the device, notes its cause, and leaves nothing of the registers of the blocks outside the Lantern. -/
theorem powerOn_resets (s : State) (x : PowerUp) : Does (.powerOnReset x) s fun t =>
    t.boot.held = true ∧ t.bit F.GLB_RSTCAUSE_POR = true ∧ t.get F.GLB_BOOT_STAT = 0 ∧ t.tun = TunSt.reset ∧
      Sends s t (.pin .rstoutN false) ∧ RegsAgreeOff (fun a => ¬(0x60000 ≤ a ∧ a < 0x100000)) State.reset t := by
  obtain ⟨b, hregs, -, hheld, htun, houts, hexec⟩ := exec_powerOnReset s x
  have hbase : RegsAgreeOff PowerOnReg State.reset b := fun a ha =>
    (rd_of_filtered hregs (Bool.eq_false_iff.2 fun h => ha (powerOnReg_of_otpReg h))).trans (reset_rd a).symm
  have hagree := powerOnFrom_regs_agree b s x
  have hleaves := powerOnFrom_leaves b s x
  have hsends := powerOnFrom_sends b s x
  have hnone : ∀ a, a ∈ [A.GLB_RSTCAUSE, A.GLB_BOOT] ∨ (0x60000 ≤ a ∧ a < 0x100000) → ¬ PowerOnReg a := by
    intro a ha
    simp only [PowerOnReg, List.mem_cons, List.not_mem_nil, or_false] at ha ⊢
    simp only [A.GLB_RSTCAUSE, A.GLB_BOOT, A.GLB_STRAP, A.GLB_UIDLO, A.GLB_UIDHI] at ha ⊢
    omega
  refine ⟨_, hexec, ?held, ?cause, ?stat, ?tun, ?pin, ?regs⟩
  case held => exact (congrArg BootSt.held (hleaves .boot (by decide))).trans hheld
  case cause =>
    rw [State.bit, get_of_regsAgreeOff hagree (hnone _ (by decide)), get_put_apart _ _ (by decide) (by decide),
      get_of_regsAgreeOff hbase (hnone _ (by decide))]
    decide
  case stat =>
    rw [get_of_regsAgreeOff hagree (hnone _ (by decide)), get_put_apart _ _ (by decide) (by decide),
      get_of_regsAgreeOff hbase (hnone _ (by decide))]
    decide
  case tun => exact (hleaves .tun (by decide)).trans htun
  case pin => rwa [Sends, houts] at hsends
  case regs =>
    intro a ha
    have ha : 0x60000 ≤ a ∧ a < 0x100000 := not_not.1 ha
    have hboot : a ≠ F.GLB_BOOT_SVNCTR.addr := by
      simp only [F.GLB_BOOT_SVNCTR, A.GLB_BOOT]
      omega
    rw [hagree a (hnone a (.inr ha)), rd_put_other _ _ hboot, hbase a (hnone a (.inr ha))]

theorem powerOn_clears_strapFault (s : State) (x : PowerUp) : Does (.powerOnReset x) s fun t => t.boot.strapFault = false := by
  obtain ⟨b, -, hfault, -, -, -, hexec⟩ := exec_powerOnReset s x
  exact ⟨_, hexec, (congrArg BootSt.strapFault (powerOnFrom_leaves _ s x .boot (by decide))).trans hfault⟩

end Sys2Proof.Proofs
end

section
/-! SUPPORT. Reset pins, straps and reset writes (R64 to R67, R80), one equation per way a command goes, with the proof of O5. -/

namespace Sys2Proof.Proofs

open Sys2Proof.Machine Sys2Proof.Laws

/-! ### PORST_N (R64, R65) -/

/-- THERMTRIP_N rises where a trip has held it low. -/
def tripEnded (s : State) : State := if s.boot.thermTrip then s.emit (.pin .thermtripN true) else s

theorem tripEnded_boot (s : State) : (tripEnded s).boot = s.boot := by
  unfold tripEnded
  split <;> rfl

theorem tripEnded_role (s : State) : (tripEnded s).role = s.role := by
  unfold tripEnded
  split <;> rfl

theorem tripEnded_outs (s : State) : s.outs <+: (tripEnded s).outs := by
  unfold tripEnded
  split
  · exact emit_prefix s _
  · exact List.prefix_rfl

/-- The device after the core reset of PORST_N, which stays low. -/
def porstReset (s : State) : State :=
  (((tripEnded s).coreReset F.GLB_RSTCAUSE_PORST).bootM fun b => { b with porstLow := true, strapsDue := false, thermTrip := false }).reHold

theorem exec_porstNAssert {s : State} (h : s.boot.porstLow = false) : exec .porstNAssert s = .next (porstReset s) :=
  congrArg Host.Outcome.next (if_neg (by simp [h]))

theorem exec_porstNAssert_low {s : State} (h : s.boot.porstLow = true) : exec .porstNAssert s = .next s :=
  congrArg Host.Outcome.next (if_pos h)

theorem porstReset_held (s : State) : (porstReset s).boot.held = true := by simp [porstReset, reHold_held]

theorem porstReset_strapFault (s : State) : (porstReset s).boot.strapFault = s.boot.strapFault := by
  have h := coreReset_strapFault (tripEnded s) F.GLB_RSTCAUSE_PORST
  rwa [tripEnded_boot] at h

/-- Of the registers a core reset is all that PORST_N does. -/
theorem porstReset_get (s : State) (f : Fld) : (porstReset s).get f = ((tripEnded s).coreReset F.GLB_RSTCAUSE_PORST).get f := rfl

theorem porstAssert_resets {s : State} (h : s.boot.porstLow = false) : Does (.porstNAssert) s fun t =>
    t.boot.held = true ∧ t.boot.porstLow = true ∧ t.bit F.GLB_RSTCAUSE_PORST = true ∧ t.role = s.role ∧ t.tun = TunSt.reset ∧
      Sends s t (.pin .rstoutN false) ∧ t.boot.rstCnt = (s.boot.rstCnt + 1) % 65536 := by
  refine ⟨_, exec_porstNAssert h, porstReset_held s, rfl, ?cause, ?role, coreReset_tun _ _,
    sends_of_prefix (tripEnded_outs s) (coreReset_sends _ _), ?count⟩
  case cause => exact coreReset_cause (tripEnded s) (cause := F.GLB_RSTCAUSE_PORST) rfl (by decide) rfl
  case role => rw [State.role, porstReset_get, coreReset_strap _ rfl rfl, ← State.role, tripEnded_role]
  case count =>
    have hcount := coreReset_rstCnt (tripEnded s) F.GLB_RSTCAUSE_PORST
    rwa [tripEnded_boot] at hcount

/-- PORST_N is high and the straps are due. -/
def porstRisen (s : State) : State := (s.bootM fun b => { b with porstLow := false, strapsDue := true }).reHold

theorem exec_porstNRelease {s : State} (h : s.boot.porstLow = true) : exec .porstNRelease s = .next (porstRisen s).pdRestart :=
  congrArg Host.Outcome.next (if_pos h)

theorem exec_porstNRelease_high {s : State} (h : s.boot.porstLow = false) : exec .porstNRelease s = .next s :=
  congrArg Host.Outcome.next (if_neg (by simp [h]))

theorem porstRisen_held (s : State) : (porstRisen s).boot.held = true := by simp [porstRisen, reHold_held]

/-- The ports' restart leaves the boot state but the trip's hold on the ports, which ends. -/
theorem pdRestart_boot (s : State) : s.pdRestart.boot = { s.boot with portsOff := false } := by
  unfold State.pdRestart
  split
  case isTrue hoff =>
    have h : Leaves [.regs, .pds, .outs] (s.bootM fun b => { b with portsOff := false })
      ([0, 1, 2].foldl (fun u n => u.pdUnattach n) (s.bootM fun b => { b with portsOff := false })) := by simp
    exact h .boot (by decide)
  case isFalse hoff => rw [← Bool.eq_false_iff.2 hoff]

theorem pdRestart_of_on {s : State} (h : s.boot.portsOff = false) : s.pdRestart = s := if_neg (by simp [h])

theorem porstRelease_due {s : State} (h : s.boot.porstLow = true) : Does (.porstNRelease) s fun t =>
    t.boot.porstLow = false ∧ t.boot.strapsDue = true ∧ t.boot.held = true ∧ t.boot.portsOff = false := by
  have hboot := pdRestart_boot (porstRisen s)
  exact ⟨_, exec_porstNRelease h, congrArg BootSt.porstLow hboot, congrArg BootSt.strapsDue hboot,
    (congrArg BootSt.held hboot).trans (porstRisen_held s), congrArg BootSt.portsOff hboot⟩

/-- Without a trip before it the release of PORST_N sends nothing and changes no register. -/
theorem porstRelease_untripped {s : State} (h : s.boot.porstLow = true) (hon : s.boot.portsOff = false) :
    Does (.porstNRelease) s fun t =>
      t.boot.porstLow = false ∧ t.boot.strapsDue = true ∧ t.boot.held = true ∧ t.regs = s.regs ∧ t.outs = s.outs :=
  ⟨porstRisen s, (exec_porstNRelease h).trans (congrArg Host.Outcome.next (pdRestart_of_on (s := porstRisen s) hon)), rfl, rfl,
    porstRisen_held s, rfl, rfl⟩

/-! ### Straps (R65 to R67) -/

/-- The straps that every sample takes. -/
def strapsTaken (s : State) (boot fids lanes : Nat) : State :=
  ((s.put F.GLB_STRAP_BOOT boot).put F.GLB_STRAP_FIDS fids).put F.GLB_STRAP_PCIEBIF lanes

/-- What the first sample after a power-on reset takes beside them. -/
def roleTaken (s : State) (role smba : Nat) : State :=
  (((s.put F.GLB_STRAP_ROLE role).put F.GLB_STRAP_SMBA smba).bootM fun b => { b with roleLatched := true, strapFault := role % 4 == 3 }).emit
    (.pin .usbSwitch (role % 4 == 0))

/-- ROLE 11 is a strap fault, which SMB_ALERT_N tells. -/
def faultTold (s : State) (role : Nat) : State := if role % 4 = 3 then s.alert 0 else s

/-- The end of a sample. -/
def sampled (s : State) : State := (s.bootM fun b => { b with strapsDue := false }).reHold.showPerst

theorem exec_strapSample_first {s : State} (role boot smba fids lanes : Nat) (hdue : s.boot.strapsDue = true)
    (hnew : s.boot.roleLatched = false) :
    exec (.strapSample role boot smba fids lanes) s =
      .next (sampled (faultTold (roleTaken (strapsTaken s boot fids lanes) role smba) role)) :=
  have hlatch : ¬ s.boot.roleLatched = true := Bool.eq_false_iff.1 hnew
  congrArg Host.Outcome.next ((if_neg (by simp [hdue])).trans (congrArg sampled (if_neg hlatch)))

theorem exec_strapSample_again {s : State} (role boot smba fids lanes : Nat) (hdue : s.boot.strapsDue = true)
    (hold : s.boot.roleLatched = true) :
    exec (.strapSample role boot smba fids lanes) s = .next (sampled (strapsTaken s boot fids lanes)) :=
  congrArg Host.Outcome.next ((if_neg (by simp [hdue])).trans (congrArg sampled (if_pos hold)))

theorem exec_strapSample_notDue {s : State} (role boot smba fids lanes : Nat) (hdue : s.boot.strapsDue = false) :
    exec (.strapSample role boot smba fids lanes) s = .next s :=
  congrArg Host.Outcome.next (if_pos (by simp [hdue]))

theorem sampled_get (s : State) {f : Fld} (hf : f.addr = A.GLB_STRAP) : (sampled s).get f = s.get f :=
  get_put_apart _ _ (by decide) (.inl (by rw [hf]; decide))

theorem sampled_held {s : State} (h : s.boot.strapFault = true) : (sampled s).boot.held = true := by
  simp [sampled, State.showPerst, reHold_held, h]

theorem sampled_strapFault (s : State) : (sampled s).boot.strapFault = s.boot.strapFault := rfl

theorem sampled_smb (s : State) : (sampled s).smb = s.smb := rfl

theorem sampled_outs (s : State) : (sampled s).outs = s.outs := rfl

theorem faultTold_get (s : State) (role : Nat) (f : Fld) : (faultTold s role).get f = s.get f := by
  unfold faultTold
  split <;> rfl

theorem faultTold_boot (s : State) (role : Nat) : (faultTold s role).boot = s.boot := by
  unfold faultTold
  split <;> rfl

/-- A first sample's value of a field of GLB_STRAP. -/
theorem firstSample_get (s : State) (role boot smba fids lanes : Nat) {f : Fld} (hf : f.addr = A.GLB_STRAP) :
    (sampled (faultTold (roleTaken (strapsTaken s boot fids lanes) role smba) role)).get f =
      (((strapsTaken s boot fids lanes).put F.GLB_STRAP_ROLE role).put F.GLB_STRAP_SMBA smba).get f := by
  rw [sampled_get _ hf, faultTold_get, roleTaken, emit_get, bootM_get]

theorem firstSample_role (s : State) (role boot smba fids lanes : Nat) :
    (sampled (faultTold (roleTaken (strapsTaken s boot fids lanes) role smba) role)).role = role % 4 := by
  rw [State.role, firstSample_get _ _ _ _ _ _ rfl, get_put_apart _ _ (by decide) (by decide), get_put_same _ _ (by decide)]
  rfl

theorem firstSample_takes {s : State} {role boot smba fids lanes : Nat} (hrole : role < 4) (hboot : boot < 4) (hsmba : smba < 8)
    (hfids : fids < 64) (hlanes : lanes < 4) (hdue : s.boot.strapsDue = true) (hnew : s.boot.roleLatched = false) :
    Does (.strapSample role boot smba fids lanes) s fun t =>
      t.role = role ∧ t.get F.GLB_STRAP_SMBA = smba ∧ t.get F.GLB_STRAP_BOOT = boot ∧ t.get F.GLB_STRAP_FIDS = fids ∧
        t.get F.GLB_STRAP_PCIEBIF = lanes ∧ t.boot.roleLatched = true ∧ t.boot.strapsDue = false ∧
        t.boot.strapFault = (role == 3) ∧ (role = 3 → t.boot.held = true) := by
  have hfault : (faultTold (roleTaken (strapsTaken s boot fids lanes) role smba) role).boot.strapFault = (role == 3) := by
    rw [faultTold_boot]
    exact congrArg (· == 3) (Nat.mod_eq_of_lt hrole)
  refine ⟨_, exec_strapSample_first role boot smba fids lanes hdue hnew, ?roleRead, ?smbaRead, ?bootRead, ?fidsRead, ?lanesRead,
    ?latched, rfl, hfault, ?held⟩
  case latched => exact congrArg BootSt.roleLatched (faultTold_boot _ role)
  case held => exact fun h => sampled_held (hfault.trans (beq_iff_eq.2 h))
  case roleRead => rw [firstSample_role, Nat.mod_eq_of_lt hrole]
  all_goals
    rw [firstSample_get _ _ _ _ _ _ rfl, strapsTaken]
    simp (disch := decide) only [get_put_apart, get_put_same]
  case smbaRead => exact Nat.mod_eq_of_lt hsmba
  case bootRead => exact Nat.mod_eq_of_lt hboot
  case fidsRead => exact Nat.mod_eq_of_lt hfids
  case lanesRead => exact Nat.mod_eq_of_lt hlanes

theorem laterSample_role (s : State) (boot fids lanes : Nat) : (sampled (strapsTaken s boot fids lanes)).role = s.role := by
  rw [State.role, sampled_get _ rfl, strapsTaken]
  simp (disch := decide) only [get_put_apart]
  rfl

theorem laterSample_keeps {s : State} (role boot smba fids lanes : Nat) (hdue : s.boot.strapsDue = true)
    (hold : s.boot.roleLatched = true) : Does (.strapSample role boot smba fids lanes) s fun t =>
      t.role = s.role ∧ t.get F.GLB_STRAP_SMBA = s.get F.GLB_STRAP_SMBA ∧ t.get F.GLB_STRAP_BOOT = boot % 4 := by
  refine ⟨_, exec_strapSample_again role boot smba fids lanes hdue hold, laterSample_role s boot fids lanes, ?smba, ?boot⟩
  all_goals
    rw [sampled_get _ rfl, strapsTaken]
    simp (disch := decide) only [get_put_apart, get_put_same]
  case boot => rfl

/-! ### WARMRST_N and reset writes (R64, R80) -/

theorem exec_warmrstNAssert {s : State} (hlow : s.boot.warmLow = false) (hheld : s.boot.held = false) :
    exec .warmrstNAssert s = .next ((s.warmReset F.GLB_RSTCAUSE_WARMPIN).bootM fun b => { b with warmLow := true }) :=
  congrArg Host.Outcome.next ((if_neg (by simp [hlow])).trans
    (congrArg (fun t : State => t.bootM fun b => { b with warmLow := true }) (if_neg (by simp [hheld]))))

theorem warmReset_cause (s : State) {cause : Fld} (ha : cause.addr = A.GLB_RSTCAUSE) (hlo : cause.lo + 1 ≤ 32) (hw : cause.width = 1) :
    (s.warmReset cause).bit cause = true := by
  rw [State.bit, warmReset_get s cause (by rw [ha]; decide)]
  exact coreReset_cause s ha hlo hw

theorem warmPin_resets {s : State} (hlow : s.boot.warmLow = false) (hheld : s.boot.held = false) (hs : RegsCanonical s) :
    Does (.warmrstNAssert) s fun t =>
      t.boot.warmLow = true ∧ t.bit F.GLB_RSTCAUSE_WARMPIN = true ∧ t.flt = s.flt ∧
        RegsAgreeOff (fun a => ¬(logReg a = true)) s t ∧ t.tun = TunSt.reset := by
  refine ⟨_, exec_warmrstNAssert hlow hheld, rfl, ?cause, ?flt, ?log, ?tun⟩
  case cause => rw [bootM_bit, warmReset_cause s rfl (by decide) rfl]
  case flt => rw [bootM_flt, warmReset_flt]
  case log => exact regsAgreeOff_trans (warmReset_log hs rfl) (regsAgreeOff_of_regs_eq (bootM_regs _ _))
  case tun => rw [bootM_tun, warmReset_tun]

theorem exec_warmrstNRelease (s : State) : exec .warmrstNRelease s = .next (s.bootM fun b => { b with warmLow := false }) := rfl

/-- A control write of GLB by a party of Table 4-12 acts. -/
theorem glbWrite_of_mayControl {s : State} {r : Req} (hopen : s.busOpen r = true) (hr : r ≠ .smbus) (hmay : s.mayControl r = true)
    (g : State → State) : s.glbWrite r g = g s := by
  simp [State.glbWrite, hopen, hr, hmay]

theorem exec_softwareCoreReset {s : State} {r : Req} (hopen : s.busOpen r = true) (hr : r ≠ .smbus) (hmay : s.mayControl r = true) :
    exec (.softwareCoreReset r) s = .next (s.coreReset F.GLB_RSTCAUSE_SWCORE) :=
  congrArg Host.Outcome.next ((glbWrite_of_mayControl hopen hr hmay _).trans ((if_neg (by decide)).trans (if_pos (by decide))))

theorem exec_softwareWarmReset {s : State} {r : Req} (hopen : s.busOpen r = true) (hr : r ≠ .smbus) (hmay : s.mayControl r = true) :
    exec (.softwareWarmReset r) s = .next (s.warmReset F.GLB_RSTCAUSE_SWWARM) :=
  congrArg Host.Outcome.next ((glbWrite_of_mayControl hopen hr hmay _).trans ((if_neg (by decide)).trans (if_neg (by decide))))

theorem softwareCore_resets {s : State} {r : Req} (hopen : s.busOpen r = true) (hr : r ≠ .smbus) (hmay : s.mayControl r = true) :
    Does (.softwareCoreReset r) s fun t =>
      t.bit F.GLB_RSTCAUSE_SWCORE = true ∧ t.role = s.role ∧ t.get F.GLB_BOOT_STAT = 0 ∧ t.tun = TunSt.reset ∧
        t.flt = State.reset.flt ∧ t.boot.rstCnt = (s.boot.rstCnt + 1) % 65536 :=
  ⟨_, exec_softwareCoreReset hopen hr hmay, coreReset_cause s rfl (by decide) rfl, coreReset_role s rfl, coreReset_stat s rfl,
    coreReset_tun s _, coreReset_flt s _, coreReset_rstCnt s _⟩

theorem softwareWarm_resets {s : State} {r : Req} (hopen : s.busOpen r = true) (hr : r ≠ .smbus) (hmay : s.mayControl r = true)
    (hs : RegsCanonical s) : Does (.softwareWarmReset r) s fun t =>
      t.bit F.GLB_RSTCAUSE_SWWARM = true ∧ t.role = s.role ∧ t.get F.GLB_BOOT_STAT = 0 ∧ t.tun = TunSt.reset ∧ t.flt = s.flt ∧
        RegsAgreeOff (fun a => ¬(logReg a = true)) s t :=
  ⟨_, exec_softwareWarmReset hopen hr hmay, warmReset_cause s rfl (by decide) rfl,
    (warmReset_get s _ (by decide)).trans (coreReset_role s rfl), (warmReset_get s _ (by decide)).trans (coreReset_stat s rfl),
    warmReset_tun s _, warmReset_flt s _, warmReset_log hs rfl⟩

/-- Settles O5: clause by clause, the equation of the command, then what its reset leaves of the fields that the clause names. -/
theorem resetRows : Obligations.ResetRows :=
  ⟨powerOn_resets,
    fun _ hhigh => porstAssert_resets hhigh,
    fun _ hlow hon => porstRelease_untripped hlow hon,
    fun _ hlow => porstRelease_due hlow,
    fun _ _ _ _ _ _ hrole hboot hsmba hfids hlanes hdue hnew => firstSample_takes hrole hboot hsmba hfids hlanes hdue hnew,
    fun _ role boot smba fids lanes hdue hold => laterSample_keeps role boot smba fids lanes hdue hold,
    fun _ hlow hheld hs => warmPin_resets hlow hheld hs,
    fun s => ⟨_, exec_warmrstNRelease s, rfl⟩,
    fun _ _ hopen hr hmay => softwareCore_resets hopen hr hmay,
    fun _ _ hopen hr hmay hs => softwareWarm_resets hopen hr hmay hs⟩

end Sys2Proof.Proofs
end

section
/-! SUPPORT. The strap fault (R67): it outlasts pins, samples, rails and the SMBus, with the proof of O54. -/

namespace Sys2Proof.Proofs

open Sys2Proof.Machine Sys2Proof.Laws

/-! ### The sample that latches ROLE 11 -/

/-- The strap fault is cause 0 of SMB_ALERT_N (R112). -/
theorem alert_causes_strapFault (s : State) : (s.alert 0).smb.causes % 2 = 1 := by
  have hbit : (s.smb.causes ||| 1) % 2 = 1 := by
    rw [← Nat.and_one_is_mod, Nat.and_or_distrib_right]
    rcases Nat.mod_two_eq_zero_or_one s.smb.causes with h | h <;> simp [Nat.and_one_is_mod, h]
  exact hbit

/-- SMB_ALERT_N goes low. -/
theorem alert_sends (s : State) (cause : Nat) : Sends s (s.alert cause) (.pin .smbAlertN false) :=
  sends_emit (s.smbM fun b => { b with causes := b.causes ||| 2 ^ cause }) _

theorem faultTold_of_fault (s : State) : faultTold s 3 = s.alert 0 := if_pos (by decide)

theorem roleTaken_outs (s : State) (role boot smba fids lanes : Nat) :
    s.outs <+: (roleTaken (strapsTaken s boot fids lanes) role smba).outs := by
  rw [roleTaken, emit_outs, bootM_outs, put_outs, put_outs, strapsTaken, put_outs, put_outs, put_outs]
  exact List.prefix_append _ _

theorem faultSample_holds {s : State} (boot smba fids lanes : Nat) (hdue : s.boot.strapsDue = true) (hnew : s.boot.roleLatched = false) :
    Does (.strapSample 3 boot smba fids lanes) s fun t =>
      t.role = 3 ∧ t.boot.strapFault = true ∧ t.boot.held = true ∧ t.smb.causes % 2 = 1 ∧ Sends s t (.pin .smbAlertN false) := by
  have hrole := firstSample_role s 3 boot smba fids lanes
  have houts := roleTaken_outs s 3 boot smba fids lanes
  have hfault : (roleTaken (strapsTaken s boot fids lanes) 3 smba).boot.strapFault = true := rfl
  refine ⟨_, exec_strapSample_first 3 boot smba fids lanes hdue hnew, hrole, ?_⟩
  generalize roleTaken (strapsTaken s boot fids lanes) 3 smba = u at houts hfault
  rw [faultTold_of_fault]
  refine ⟨?fault, ?held, ?causes, ?alert⟩
  case fault => rwa [sampled_strapFault]
  case held => exact sampled_held hfault
  case causes => rw [sampled_smb, alert_causes_strapFault]
  case alert =>
    rw [Sends, sampled_outs]
    exact sends_of_prefix houts (alert_sends u 0)

/-! ### What does not end it -/

theorem laterSample_holds {s : State} (role boot smba fids lanes : Nat) (hold : s.boot.roleLatched = true)
    (hfault : s.boot.strapFault = true) (hheld : s.boot.held = true) : Does (.strapSample role boot smba fids lanes) s fun t =>
      t.role = s.role ∧ t.boot.strapFault = true ∧ t.boot.held = true := by
  cases hdue : s.boot.strapsDue
  case false => exact ⟨s, exec_strapSample_notDue role boot smba fids lanes hdue, rfl, hfault, hheld⟩
  case true =>
    have hkept : (strapsTaken s boot fids lanes).boot.strapFault = true := hfault
    exact ⟨_, exec_strapSample_again role boot smba fids lanes hdue hold, laterSample_role s boot fids lanes,
      (sampled_strapFault _).trans hkept, sampled_held hkept⟩

theorem porstAssert_holds {s : State} (hfault : s.boot.strapFault = true) (hheld : s.boot.held = true) :
    Does (.porstNAssert) s fun t => t.boot.strapFault = true ∧ t.boot.held = true := by
  cases hlow : s.boot.porstLow
  case false => exact ⟨_, exec_porstNAssert hlow, (porstReset_strapFault s).trans hfault, porstReset_held s⟩
  case true => exact ⟨s, exec_porstNAssert_low hlow, hfault, hheld⟩

theorem porstRelease_holds {s : State} (hfault : s.boot.strapFault = true) (hheld : s.boot.held = true) :
    Does (.porstNRelease) s fun t => t.boot.strapFault = true ∧ t.boot.held = true := by
  cases hlow : s.boot.porstLow
  case false => exact ⟨s, exec_porstNRelease_high hlow, hfault, hheld⟩
  case true =>
    have hboot := pdRestart_boot (porstRisen s)
    exact ⟨_, exec_porstNRelease hlow, (congrArg BootSt.strapFault hboot).trans hfault,
      (congrArg BootSt.held hboot).trans (porstRisen_held s)⟩

/-- A rail is no longer noted as low. -/
def railBack (s : State) (rail : Nat) : State := s.bootM fun b => { b with railsLow := b.railsLow.filter (· != rail) }

theorem exec_railValid (s : State) (rail : Nat) :
    exec (.railValid rail) s = .next (if s.get F.PWR_STAT_CUR = 4 then railBack s rail else (railBack s rail).reHold) := rfl

theorem railValid_holds {s : State} (rail : Nat) (hfault : s.boot.strapFault = true) (hheld : s.boot.held = true) :
    Does (.railValid rail) s fun t => t.boot.strapFault = true ∧ t.boot.held = true := by
  have hback : (railBack s rail).boot.strapFault = true := hfault
  refine ⟨_, exec_railValid s rail, ?_⟩
  split
  · exact ⟨hback, hheld⟩
  · exact ⟨hback, by simp [reHold_held, hback]⟩

/-! ### SMBus under the fault (R111, R112) -/

theorem exec_smbusStatusRead (s : State) (temp : BitVec 8) : exec (.smbusStatusRead temp) s =
    .next (s.smbBlock 0x00 [s.role + (if s.boot.strapFault then 4 else 0), s.get F.GLB_BOOT_STAT, s.get F.PWR_STAT_CUR,
      s.get F.PWR_STAT_TGT, temp.toNat, s.ownerFid, s.fid, (if s.boot.thermTrip then 1 else 0) + (if s.boot.penumbra then 2 else 0) +
        (if s.smb.causes = 0 then 0 else 4) + (if s.smb.unavail then 8 else 0)]) := rfl

theorem statusRead_shows {s : State} (temp : BitVec 8) (hrole : s.role = 3) (hfault : s.boot.strapFault = true) :
    Does (.smbusStatusRead temp) s fun t =>
      t = s.smbBlock 0x00 [7, s.get F.GLB_BOOT_STAT, s.get F.PWR_STAT_CUR, s.get F.PWR_STAT_TGT, temp.toNat, s.ownerFid, s.fid,
        (if s.boot.thermTrip then 1 else 0) + (if s.boot.penumbra then 2 else 0) + (if s.smb.causes = 0 then 0 else 4) +
          (if s.smb.unavail then 8 else 0)] := by
  refine ⟨_, exec_smbusStatusRead s temp, ?_⟩
  rw [hrole, if_pos hfault]

/-- What SMBus answers a command with leaves the alert's causes and SMB_ALERT_N. -/
theorem answered_keeps_alert {s : State} {o : Out} (ho : o ≠ .pin .smbAlertN true) (h : s.smb.causes % 2 = 1) :
    (s.emit o).smb.causes % 2 = 1 ∧ Out.pin .smbAlertN true ∉ (s.emit o).outs.drop s.outs.length := by
  refine ⟨h, ?_⟩
  rw [emit_outs, List.drop_left, List.mem_singleton]
  exact ho.symm

/-- Under the fault a release of the alert clears the other causes and leaves SMB_ALERT_N low. -/
theorem alertRelease_of_fault {s : State} (h : s.smb.causes % 2 = 1) :
    s.alertRelease = s.smbM fun b => { b with causes := b.causes % 2 } := if_pos (.inl h)

theorem alertclr_keeps {s : State} (v : Nat) (pec : Bool) (h : s.smb.causes % 2 = 1) : Does (.smbusAlertclr v pec) s fun t =>
    t.smb.causes % 2 = 1 ∧ Out.pin .smbAlertN true ∉ t.outs.drop s.outs.length := by
  by_cases hbad : !pec ∨ v ≠ 1
  · exact ⟨s.smbNack, congrArg Host.Outcome.next (if_pos hbad), answered_keeps_alert (by decide) h⟩
  · refine ⟨_, congrArg Host.Outcome.next ((if_neg hbad).trans (alertRelease_of_fault h)), (Nat.mod_mod _ 2).trans h, ?_⟩
    simp

theorem alertResponse_keeps {s : State} (h : s.smb.causes % 2 = 1) : Does (.smbusAlertResponse) s fun t =>
    t.smb.causes % 2 = 1 ∧ Out.pin .smbAlertN true ∉ t.outs.drop s.outs.length := by
  have hwaits : ¬ s.smb.causes = 0 := by omega
  obtain ⟨hcauses, hpin⟩ := answered_keeps_alert (o := .readData .smbus ([s.smbAddr] ++
    [(crc8 (([0x19] ++ [s.smbAddr]).map (BitVec.ofNat 8))).toNat])) (by simp) h
  refine ⟨_, congrArg Host.Outcome.next ((if_neg hwaits).trans (alertRelease_of_fault (s := s.smbAnswer [0x19] [s.smbAddr]) h)), ?_, hpin⟩
  exact (Nat.mod_mod _ 2).trans hcauses

/-- Settles O54: the sample that latches the fault, the commands that leave it, and the power-on reset that ends it. -/
theorem strapFaultHolds : Obligations.StrapFaultHolds :=
  ⟨fun _ boot smba fids lanes hdue hnew => faultSample_holds boot smba fids lanes hdue hnew,
    fun _ temp hrole hfault => statusRead_shows temp hrole hfault,
    fun _ hfault hheld => porstAssert_holds hfault hheld,
    fun _ hfault hheld => porstRelease_holds hfault hheld,
    fun _ role boot smba fids lanes hold hfault hheld => laterSample_holds role boot smba fids lanes hold hfault hheld,
    fun _ rail hfault hheld => railValid_holds rail hfault hheld,
    fun _ v pec hcause => alertclr_keeps v pec hcause,
    fun _ hcause => alertResponse_keeps hcause,
    powerOn_clears_strapFault⟩

end Sys2Proof.Proofs
end

section
/-! SUPPORT. What has been sent stays sent: the predicate, and its rules for registers, events and completions. -/

namespace Sys2Proof.Proofs

open Sys2Proof.Machine Sys2Proof.Laws

/-- From `s` to `t` nothing that has been sent is taken back. -/
def Grows (s t : State) : Prop := s.outs <+: t.outs

theorem Spares.grows {s t : State} (h : Spares s t) : Grows s t := h.outs

namespace Grows

variable {s t u : State}

theorem refl (s : State) : Grows s s := List.prefix_rfl

theorem trans (h : Grows s t) (k : Grows t u) : Grows s u := List.IsPrefix.trans h k

theorem ite {c : Prop} [Decidable c] (h : Grows s t) (k : Grows s u) : Grows s (if c then t else u) := by
  split <;> assumption

theorem foldl {α : Type} {g : State → α → State} (h : Grows s t) (as : List α) (hg : ∀ u a, Grows s u → Grows s (g u a)) :
    Grows s (as.foldl g t) :=
  List.foldlRecOn as g h fun u hu a _ => hg u a hu

/-- An operation that sends nothing. -/
theorem same (h : Grows s t) (ho : u.outs = t.outs) : Grows s u := h.trans (by rw [Grows, ho])

/-! ### Registers, outputs and the parts of the state -/

theorem wr {a : Nat} {v : Word} (h : Grows s t) : Grows s (t.wr a v) := h
theorem put {f : Fld} {v : Nat} (h : Grows s t) : Grows s (t.put f v) := h
theorem putBit {f : Fld} {b : Bool} (h : Grows s t) : Grows s (t.putBit f b) := h
theorem addMod {f : Fld} {n : Nat} (h : Grows s t) : Grows s (t.addMod f n) := h
theorem bump {f : Fld} (h : Grows s t) : Grows s (t.bump f) := h.same (bump_outs t f)
theorem emit {o : Out} (h : Grows s t) : Grows s (t.emit o) := h.trans (emit_prefix t o)
theorem emits {os : List Out} (h : Grows s t) : Grows s (t.emits os) := h.foldl os fun _ _ hu => hu.emit
theorem ctlM {g : CtlSt → CtlSt} (h : Grows s t) : Grows s (t.ctlM g) := h
theorem ownM {g : OwnSt → OwnSt} (h : Grows s t) : Grows s (t.ownM g) := h
theorem hewM {g : HewSt → HewSt} (h : Grows s t) : Grows s (t.hewM g) := h

/-! ### Events, tallies and completions (R97 to R101, R89) -/

theorem setRing {r : RingSt} (h : Grows s t) : Grows s (t.setRing r) := h
theorem ringStep {n : Nat} (h : Grows s t) : Grows s (t.ringStep n) := h
theorem take {c : HostCmd} (h : Grows s t) : Grows s (t.take c) := h
theorem msix {fn v : Nat} (h : Grows s t) : Grows s (t.msix fn v) := h.put.ite h.emit
theorem signal {v : Nat} (h : Grows s t) : Grows s (t.signal v) := h.trans (Spares.refl t).signal.grows
theorem writeRecord {n : Nat} {r : EvRec} (h : Grows s t) : Grows s (t.writeRecord n r) := h.trans (Spares.refl t).writeRecord.grows
theorem raiseBytes {ev grantee : Nat} {masked : Bool} {data : List (BitVec 8)} (h : Grows s t) :
    Grows s (t.raiseBytes ev masked grantee data) := h.trans (Spares.refl t).raiseBytes.grows
theorem raiseWith {ev grantee : Nat} {masked : Bool} {vals : List Nat} (h : Grows s t) :
    Grows s (t.raiseWith ev masked grantee vals) := h.raiseBytes
theorem raise {g b : Nat} {vals : List Nat} (h : Grows s t) : Grows s (t.raise g b vals) := h.raiseWith
theorem tally {f : Fld} (h : Grows s t) : Grows s (t.tally f) := h.bump.raise.ite h.bump

theorem writeCpl {n : Nat} {c : Cpl} (h : Grows s t) : Grows s (t.writeCpl n c) := h.emit.emit.ringStep.signal.ite h.emit.emit.ringStep

theorem complete {c : Cpl} (h : Grows s t) : Grows s (t.complete c) := h.writeCpl.ite h.ctlM

theorem finish {k : InFlight} {code : Nat} {result : BitVec 448} (h : Grows s t) : Grows s (t.finish k code result) := h.ctlM.complete

theorem flushCpl (h : Grows s t) : Grows s t.flushCpl := h.ctlM.foldl _ fun _ _ hu => hu.complete

theorem reply {r : Reply} {code : Nat} {result : BitVec 448} (h : Grows s t) : Grows s (t.reply r code result) := by
  cases r with
  | host k => exact h.finish
  | mgmt fid id => exact h.emit
  | noOne => exact h

/-- What is sent from a state that has taken nothing back is sent from the first state on. -/
theorem sends {o : Out} (h : Grows s t) (k : Sends t u o) : Sends s u o := sends_of_prefix h k

end Grows

end Sys2Proof.Proofs
end

section
/-! SUPPORT. What an event, a tally or a completion leaves of a ring it does not write. -/

namespace Sys2Proof.Proofs

open Sys2Proof.Machine Sys2Proof.Laws

/-- From `s` to `t` ring `n` keeps its configuration, its indices and what the device holds of it. -/
structure KeepsRing (n : Nat) (s t : State) : Prop where
  cfg : t.rd (A.GLB_RCFG n) = s.rd (A.GLB_RCFG n)
  idx : t.rd (A.GLB_RIDX n) = s.rd (A.GLB_RIDX n)
  ring : t.ring n = s.ring n

theorem ring_of_rings_eq {s t : State} (h : t.ctl.rings = s.ctl.rings) (n : Nat) : t.ring n = s.ring n := by
  simp only [State.ring, h]

/-- What a look for ring `n` finds is a state of ring `n`. -/
theorem ring_ring (s : State) (n : Nat) : (s.ring n).ring = n := by
  unfold State.ring
  cases h : s.ctl.rings.find? (fun r => r.ring == n) with
  | none => rfl
  | some r => simpa using List.find?_some h

/-- A list in which `r` replaces what has its number, or to which it is added, answers `r` for that number. -/
theorem find_putBy_same (l : List RingSt) (r : RingSt) :
    (putBy (fun x => x.ring == r.ring) r l).find? (fun x => x.ring == r.ring) = some r := by
  unfold putBy
  split
  case isTrue hany =>
    have hsame : ((fun x : RingSt => x.ring == r.ring) ∘ fun y => if y.ring == r.ring then r else y) = fun x => x.ring == r.ring := by
      funext x
      by_cases hx : x.ring = r.ring <;> simp [hx]
    obtain ⟨x, hx, hr⟩ := List.any_eq_true.1 hany
    have hsome : (l.find? fun x => x.ring == r.ring).isSome = true := List.find?_isSome.2 ⟨x, hx, hr⟩
    obtain ⟨y, hy⟩ := Option.isSome_iff_exists.1 hsome
    have hyr : y.ring = r.ring := by simpa using List.find?_some hy
    rw [List.find?_map, hsame, hy]
    simp [hyr]
  case isFalse hany =>
    have hnone : l.find? (fun x => x.ring == r.ring) = none := by simpa using hany
    simp [List.find?_append, hnone]

/-- It answers for another number what it answered before. -/
theorem find_putBy_other (l : List RingSt) {r : RingSt} {n : Nat} (h : r.ring ≠ n) :
    (putBy (fun x => x.ring == r.ring) r l).find? (fun x => x.ring == n) = l.find? (fun x => x.ring == n) := by
  unfold putBy
  split
  case isTrue =>
    have hsame : ((fun x : RingSt => x.ring == n) ∘ fun y => if y.ring == r.ring then r else y) = fun x => x.ring == n := by
      funext x
      by_cases hx : x.ring = r.ring <;> simp [hx]
    rw [List.find?_map, hsame]
    cases hf : l.find? (fun x => x.ring == n) with
    | none => rfl
    | some y =>
      have hy : y.ring = n := by simpa using List.find?_some hf
      simp [hy, h.symm]
  case isFalse => simp [List.find?_append, h]

theorem ring_setRing_same (s : State) (r : RingSt) : (s.setRing r).ring r.ring = r := by
  simp [State.ring, State.setRing, find_putBy_same]

theorem ring_setRing_other (s : State) {r : RingSt} {n : Nat} (h : r.ring ≠ n) : (s.setRing r).ring n = s.ring n := by
  simp [State.ring, State.setRing, find_putBy_other _ h]

namespace KeepsRing

variable {n : Nat} {s t u : State}

theorem refl (n : Nat) (s : State) : KeepsRing n s s := ⟨rfl, rfl, rfl⟩

theorem trans (h : KeepsRing n s t) (k : KeepsRing n t u) : KeepsRing n s u :=
  ⟨k.cfg.trans h.cfg, k.idx.trans h.idx, k.ring.trans h.ring⟩

theorem ite {c : Prop} [Decidable c] (h : KeepsRing n s t) (k : KeepsRing n s u) : KeepsRing n s (if c then t else u) := by
  split <;> assumption

theorem foldl {α : Type} {g : State → α → State} (h : KeepsRing n s t) (as : List α)
    (hg : ∀ u a, KeepsRing n s u → KeepsRing n s (g u a)) : KeepsRing n s (as.foldl g t) :=
  List.foldlRecOn as g h fun u hu a _ => hg u a hu

/-- An operation on another part of the state. -/
theorem same (h : KeepsRing n s t) (hr : u.regs = t.regs) (hc : u.ctl.rings = t.ctl.rings) : KeepsRing n s u :=
  h.trans ⟨congrArg (RegFile.get · _) hr, congrArg (RegFile.get · _) hr, ring_of_rings_eq hc n⟩

/-! ### What it says of the ring's fields -/

theorem type (h : KeepsRing n s t) : t.get (F.GLB_RCFG_TYPE n) = s.get (F.GLB_RCFG_TYPE n) := congrArg (bitsOf · 0 3) h.cfg

theorem devIdx (h : KeepsRing n s t) : t.get (F.GLB_RIDX_DEVIDX n) = s.get (F.GLB_RIDX_DEVIDX n) := congrArg (bitsOf · 0 16) h.idx

theorem hostIdx (h : KeepsRing n s t) : t.get (F.GLB_RIDX_HOSTIDX n) = s.get (F.GLB_RIDX_HOSTIDX n) :=
  congrArg (bitsOf · 16 16) h.idx

theorem cap (h : KeepsRing n s t) : t.ringCap n = s.ringCap n := by
  have hlog : t.get (F.GLB_RCFG_LOG2SZ n) = s.get (F.GLB_RCFG_LOG2SZ n) := congrArg (bitsOf · 8 5) h.cfg
  simp only [State.ringCap, hlog, h.type]

theorem phase (h : KeepsRing n s t) : t.ringPhase n = s.ringPhase n := by simp only [State.ringPhase, h.ring, h.cap]

theorem free (h : KeepsRing n s t) : t.ringFree n = s.ringFree n := by
  simp only [State.ringFree, State.ringUnread, h.cap, h.devIdx, h.hostIdx, h.ring]

theorem ready (h : KeepsRing n s t) : t.cplReady n = s.cplReady n := by simp only [State.cplReady, h.type, h.free]

/-! ### Operations elsewhere -/

theorem emit {o : Out} (h : KeepsRing n s t) : KeepsRing n s (t.emit o) := h.same rfl rfl

theorem hewM {g : HewSt → HewSt} (h : KeepsRing n s t) : KeepsRing n s (t.hewM g) := h.same rfl rfl

theorem setRing {r : RingSt} (h : KeepsRing n s t) (hr : r.ring ≠ n) : KeepsRing n s (t.setRing r) :=
  h.trans ⟨rfl, rfl, ring_setRing_other t hr⟩

section
variable (hn : n < 256)
include hn

/-- A field outside the ring table. -/
theorem put {f : Fld} {v : Nat} (h : KeepsRing n s t) (hf : f.addr < 0x1000 ∨ 0x2000 ≤ f.addr) : KeepsRing n s (t.put f v) :=
  h.trans ⟨rd_put_other t v (by simp only [A.GLB_RCFG]; omega), rd_put_other t v (by simp only [A.GLB_RIDX]; omega), rfl⟩

theorem bump {f : Fld} (h : KeepsRing n s t) (hf : f.addr < 0x1000 ∨ 0x2000 ≤ f.addr) : KeepsRing n s (t.bump f) :=
  (h.put hn hf).ite h

omit hn in
theorem ringStep {m : Nat} (h : KeepsRing n s t) (hm : m ≠ n) : KeepsRing n s (t.ringStep m) :=
  have hring := h.setRing (r := { t.ring m with
    total := (t.ring m).total + 1
    laps := if t.hostFills m then (t.ringWaiting m - 1) / 65536 else (t.ringUnread m + 1) / 65536 }) (by rwa [← ring_ring t m] at hm)
  hring.trans ⟨rd_put_other _ _ (by simp only [F.GLB_RIDX_DEVIDX, A.GLB_RCFG, A.GLB_RIDX]; omega),
    rd_put_other _ _ (by simp only [F.GLB_RIDX_DEVIDX, A.GLB_RIDX]; omega), rfl⟩

theorem msix {fn v : Nat} (h : KeepsRing n s t) : KeepsRing n s (t.msix fn v) :=
  (h.put hn (.inr (by simp only [pbaBit, A.MSIX_PBA]; omega))).ite h.emit

theorem signal {v : Nat} (h : KeepsRing n s t) : KeepsRing n s (t.signal v) := by
  unfold State.signal
  split
  · exact h.msix hn
  · split
    · exact h.same rfl rfl
    · have hv := h.same (u := t.ctlM fun k => { k with vecs := k.vecs ++ [(v, false)] }) rfl rfl
      exact hv.msix hn

theorem writeRecord {m : Nat} {r : EvRec} (h : KeepsRing n s t) (hm : m ≠ n) : KeepsRing n s (t.writeRecord m r) := by
  have hring := h.setRing (r := { t.ring m with seq := ((t.ring m).seq + 1) % 65536, dropped := false }) (by rwa [← ring_ring t m] at hm)
  exact (hring.emit.emit.ringStep hm).signal hn

/-! ### Events and tallies, where the ring is no event ring -/

variable (hty : s.get (F.GLB_RCFG_TYPE n) ≠ 3)
include hty

theorem recordEvent {r : EvRec} (h : KeepsRing n s t) : KeepsRing n s (t.recordEvent r) := by
  unfold State.recordEvent
  dsimp only
  generalize hg : t.get (F.EVT_GMAP_RING (r.evnum / 8)) = m
  have hdrop : ∀ u, KeepsRing n s u → KeepsRing n s (u.bump F.EVT_DROP) := fun _ hu => hu.bump hn (.inr (by decide))
  by_cases hev : t.get (F.GLB_RCFG_TYPE m) = 3
  · have hm : m ≠ n := by
      rintro rfl
      exact hty (h.type ▸ hev)
    have hmr : (t.ring m).ring ≠ n := by rwa [ring_ring]
    refine (hdrop _ h).ite ((h.writeRecord hn hm).ite (KeepsRing.ite ?_ (hdrop _ ?_))) <;> exact h.setRing hmr
  · rw [if_pos (.inr hev)]
    exact hdrop _ h

theorem dispatch {r : EvRec} {grantee : Nat} (h : KeepsRing n s t) : KeepsRing n s (t.dispatch r grantee) :=
  have ho : ∀ o : Out, KeepsRing n s (if t.ownerFid = 0 then t else t.emit o) := fun _ => h.ite h.emit
  (h.recordEvent hn hty).ite (h.emit.ite ((ho _).ite (ho _).emit))

theorem raiseCore {r : EvRec} {grantee : Nat} (h : KeepsRing n s t) : KeepsRing n s (t.raiseCore r grantee) :=
  have hp : KeepsRing n s (t.put ⟨A.EVT_STAT (r.evnum / 32), r.evnum % 32, 1⟩ 1) :=
    h.put hn (.inr (by simp only [A.EVT_STAT]; omega))
  hp.ite (hp.dispatch hn hty)

omit hty in
theorem subscribed {r : EvRec} (h : KeepsRing n s t) : KeepsRing n s (t.subscribed r) :=
  h.foldl _ fun _ _ hu => hu.ite (hu.hewM.ite (hu.bump hn (.inr (by simp only [F.HWR_EVOVF, A.HWR_EVOVF]; omega))))

theorem raiseBytes {ev grantee : Nat} {masked : Bool} {data : List (BitVec 8)} (h : KeepsRing n s t) :
    KeepsRing n s (t.raiseBytes ev masked grantee data) :=
  h.ite (((h.raiseCore hn hty).subscribed hn).foldl _ fun _ _ hu => ((hu.raiseCore hn hty).subscribed hn).ite hu)

theorem raise {g b : Nat} {vals : List Nat} (h : KeepsRing n s t) : KeepsRing n s (t.raise g b vals) := h.raiseBytes hn hty

theorem tally {f : Fld} (h : KeepsRing n s t) (hf : f.addr < 0x1000 ∨ 0x2000 ≤ f.addr) : KeepsRing n s (t.tally f) :=
  ((h.bump hn hf).raise hn hty).ite (h.bump hn hf)

end

end KeepsRing

end Sys2Proof.Proofs
end

section
/-! SUPPORT. Commands from a ring (R89, R90, R109): when one is turned away, when it is taken, and what its completion sends. -/

namespace Sys2Proof.Proofs

open Sys2Proof.Machine Sys2Proof.Laws

/-! ### Completions (R88, R89) -/

theorem writeCpl_sends (s : State) (n : Nat) (k : Cpl) :
    Sends s (s.writeCpl n k) (.completion n (s.get (F.GLB_RIDX_DEVIDX n)) (s.ringPhase n) k) := by
  have hsent := sends_between (u := s.writeCpl n k) (t := s.emit (.hostWrite (s.slotHere n) (Cpl.bytes k (s.ringPhase n))))
    (o := .completion n (s.get (F.GLB_RIDX_DEVIDX n)) (s.ringPhase n) k) (emit_prefix _ _)
  have hrest := Grows.refl ((s.emit (.hostWrite (s.slotHere n) (Cpl.bytes k (s.ringPhase n)))).emit
    (.completion n (s.get (F.GLB_RIDX_DEVIDX n)) (s.ringPhase n) k))
  exact hsent (hrest.ringStep.signal.ite hrest.ringStep)

theorem complete_sends {s : State} {k : Cpl} (h : s.cplReady k.pair = true) :
    Sends s (s.complete k) (.completion k.pair (s.get (F.GLB_RIDX_DEVIDX k.pair)) (s.ringPhase k.pair) k) := by
  rw [State.complete, if_pos h]
  exact writeCpl_sends s k.pair k

theorem finish_sends {s : State} {k : InFlight} (code : Nat) (result : BitVec 448) (h : s.cplReady k.pair = true) :
    Sends s (s.finish k code result)
      (.completion k.pair (s.get (F.GLB_RIDX_DEVIDX k.pair)) (s.ringPhase k.pair) (k.cpl code result)) :=
  complete_sends (s := s.ctlM fun x => { x with inflight := x.inflight.filter fun u => !(u.same k) }) h

theorem writeCpl_regs_agree (s : State) {n : Nat} (k : Cpl) (h : n < 256) : RegsAgreeOff EventReg s (s.writeCpl n k) := by
  have hstep : RegsAgreeOff EventReg s (((s.emit (.hostWrite (s.slotHere n) (Cpl.bytes k (s.ringPhase n)))).emit
      (.completion n (s.get (F.GLB_RIDX_DEVIDX n)) (s.ringPhase n) k)).ringStep n) :=
    regsAgreeOff_trans (regsAgreeOff_of_regs_eq rfl) (ringStep_regs_agree _ (eventReg_ridx h))
  have hv : s.get (F.GLB_RCFG_VEC n) < 64 := get_lt s (F.GLB_RCFG_VEC n)
  exact regsAgreeOff_ite (regsAgreeOff_trans hstep (signal_regs_agree _ (eventReg_pba hv))) hstep

/-- A completion changes its ring's index, and what its vector's message changes. -/
theorem finish_regs_agree (s : State) {k : InFlight} (code : Nat) (result : BitVec 448) (h : k.pair < 256) :
    RegsAgreeOff EventReg s (s.finish k code result) :=
  regsAgreeOff_trans (regsAgreeOff_of_regs_eq rfl)
    (regsAgreeOff_ite (writeCpl_regs_agree _ (k.cpl code result) h) (regsAgreeOff_of_regs_eq rfl))

/-! ### The ring a command comes from, and its completion ring -/

/-- A ring that can give a command is a command ring, and its completion ring can take an entry. -/
theorem rings_of_canTake {s : State} {c : HostCmd} (h : s.canTake c = true) :
    s.get (F.GLB_RCFG_TYPE c.ring) = 1 ∧ s.cplReady (s.get (F.GLB_RCFG_PAIR c.ring)) = true := by
  simp only [State.canTake, Bool.and_eq_true, beq_iff_eq] at h
  obtain ⟨⟨⟨⟨⟨⟨-, htype⟩, -⟩, hready⟩, -⟩, -⟩, -⟩ := h
  exact ⟨htype, hready⟩

theorem type_of_cplReady {s : State} {n : Nat} (h : s.cplReady n = true) : s.get (F.GLB_RCFG_TYPE n) = 2 := by
  simp only [State.cplReady, Bool.and_eq_true, beq_iff_eq] at h
  obtain ⟨htype, -⟩ := h
  exact htype

theorem pair_lt (s : State) (n : Nat) : s.get (F.GLB_RCFG_PAIR n) < 256 := get_lt s (F.GLB_RCFG_PAIR n)

/-- Taking a command moves its ring's index alone. -/
theorem take_regs_agree {p : Nat → Prop} (s : State) {c : HostCmd} (h : p (A.GLB_RIDX c.ring)) : RegsAgreeOff p s (s.take c) :=
  regsAgreeOff_trans (regsAgreeOff_of_regs_eq rfl) (ringStep_regs_agree _ h)

/-- A field of another register than the ring's indices reads the same once a command is taken. -/
theorem take_get (s : State) (c : HostCmd) {f : Fld} (h : f.addr ≠ A.GLB_RIDX c.ring) : (s.take c).get f = s.get f :=
  get_of_regsAgreeOff (p := (· = A.GLB_RIDX c.ring)) (take_regs_agree s rfl) h

theorem take_get_of_lt (s : State) (c : HostCmd) {f : Fld} (h : f.addr < 0x1000) : (s.take c).get f = s.get f :=
  take_get s c (by simp only [A.GLB_RIDX]; omega)

theorem take_keepsRing {s : State} {c : HostCmd} {n : Nat} (h : c.ring ≠ n) : KeepsRing n s (s.take c) :=
  ((KeepsRing.refl n s).same (u := s.ctlM fun k => { k with serial := k.serial + 1 }) rfl rfl).ringStep h

theorem take_keepsPair {s : State} {c : HostCmd} (h : s.canTake c = true) :
    KeepsRing (s.get (F.GLB_RCFG_PAIR c.ring)) s (s.take c) := by
  obtain ⟨htype, hready⟩ := rings_of_canTake h
  refine take_keepsRing fun e => ?_
  have := type_of_cplReady hready
  rw [← e, htype] at this
  exact absurd this (by decide)

/-- A taken command's completion, at the place its completion ring had when it was taken. -/
theorem finish_answers {s u : State} {c : HostCmd} (op code : Nat) (result : BitVec 448) (htake : s.canTake c = true)
    (hring : KeepsRing (s.get (F.GLB_RCFG_PAIR c.ring)) s u) (hsent : Grows s u) :
    Answers s (u.finish (s.ticket op c) code result) c op code result := by
  obtain ⟨-, hready⟩ := rings_of_canTake htake
  have hsends := finish_sends (s := u) (k := s.ticket op c) code result (hring.ready.trans hready)
  have hidx : u.get (F.GLB_RIDX_DEVIDX (s.ticket op c).pair) = s.get (F.GLB_RIDX_DEVIDX (s.get (F.GLB_RCFG_PAIR c.ring))) := hring.devIdx
  have hphase : u.ringPhase (s.ticket op c).pair = s.ringPhase (s.get (F.GLB_RCFG_PAIR c.ring)) := hring.phase
  rw [hidx, hphase] at hsends
  exact hsent.sends hsends

/-! ### Turned away (R90, R109) -/

theorem command_of_reserved {s : State} {c : HostCmd} {used : List (Nat × Nat × Nat)} (op : Nat) (control : Bool)
    (body : InFlight → State → State) (htake : s.canTake c = true) (hbad : cmdClean c used = false) :
    s.command op control used c body = ((s.take c).tally F.GLB_CMDIGN).finish (s.ticket op c) 0x02 0 :=
  (if_pos htake).trans (if_pos (by rw [hbad]; rfl))

theorem command_of_nonOwner {s : State} {c : HostCmd} {used : List (Nat × Nat × Nat)} (op : Nat) (body : InFlight → State → State)
    (htake : s.canTake c = true) (hclean : cmdClean c used = true) (hown : s.hostControls = false) :
    s.command op true used c body = ((s.take c).tally F.GLB_NOWNCMD).finish (s.ticket op c) 0x04 0 :=
  (if_pos htake).trans ((if_neg (by simp [hclean])).trans (if_pos (by simp [hown])))

/-- What taking a command, counting it and completing it does. -/
theorem turnedAway_of_tally {s : State} {c : HostCmd} {f : Fld} (op code : Nat) (hf : f.addr < 0x1000 ∧ f.lo = 0 ∧ f.width = 32)
    (hring : c.ring < 256) (htake : s.canTake c = true) :
    TurnedAway s (((s.take c).tally f).finish (s.ticket op c) code 0) c op code f := by
  obtain ⟨hlow, hlo, hwidth⟩ := hf
  have hpair : (s.ticket op c).pair < 256 := pair_lt s c.ring
  have hkeeps := take_keepsPair htake
  have htype : s.get (F.GLB_RCFG_TYPE (s.get (F.GLB_RCFG_PAIR c.ring))) ≠ 3 := by
    obtain ⟨-, hready⟩ := rings_of_canTake htake
    rw [type_of_cplReady hready]
    decide
  have hframe : RegsAgreeOff (fun a => a = f.addr ∨ EventReg a) s (s.take c) :=
    take_regs_agree s (.inr (eventReg_ridx hring))
  refine ⟨finish_answers op code 0 htake (hkeeps.tally hpair htype (.inl hlow)) (Grows.refl s).take.tally, ?count, ?regs, ?parts⟩
  case count =>
    rw [get_of_regsAgreeOff (finish_regs_agree _ code 0 hpair) (not_eventReg_of_lt hlow),
      tally_get_same _ (by omega) (not_eventReg_of_lt hlow), take_get_of_lt s c hlow, hwidth]
  case regs =>
    exact regsAgreeOff_trans (regsAgreeOff_trans hframe (tally_regs_agree _ f))
      (regsAgreeOff_mono (fun _ => .inr) (finish_regs_agree _ code 0 hpair))
  case parts => simp

theorem turnedAway_of_reserved {s : State} {c : HostCmd} {used : List (Nat × Nat × Nat)} (op : Nat) (control : Bool)
    (body : InFlight → State → State) (hring : c.ring < 256) (htake : s.canTake c = true) (hbad : cmdClean c used = false) :
    TurnedAway s (s.command op control used c body) c op 0x02 F.GLB_CMDIGN := by
  rw [command_of_reserved op control body htake hbad]
  exact turnedAway_of_tally op 0x02 (by decide) hring htake

theorem turnedAway_of_nonOwner {s : State} {c : HostCmd} {used : List (Nat × Nat × Nat)} (op : Nat) (body : InFlight → State → State)
    (h : Takes s c used) (hown : s.hostControls = false) : TurnedAway s (s.command op true used c body) c op 0x04 F.GLB_NOWNCMD := by
  obtain ⟨hring, htake, hclean, -⟩ := h
  rw [command_of_nonOwner op body htake hclean hown]
  exact turnedAway_of_tally op 0x04 (by decide) hring htake

end Sys2Proof.Proofs
end

section
/-! SUPPORT. Commands that are not executed, opcode by opcode, with the proofs of O55 and O56. -/

namespace Sys2Proof.Proofs

open Sys2Proof.Machine Sys2Proof.Laws

/-- A tunnel command is turned away before what waited inside the device goes on. -/
theorem does_tunCommand {s : State} {i : Instr} {c : HostCmd} {op code tid : Nat} {f : Fld} {used : List (Nat × Nat × Nat)}
    {ans : List DevAns} (hx : exec i s = .next (s.whenUp fun s => s.tunCommand op used c tid ans)) (hup : s.up = true)
    (h : ∀ body : InFlight → State → State, TurnedAway s (s.command op true used c body) c op code f) :
    Does i s fun t => ∃ u, TurnedAway s u c op code f ∧ t = u.flushLoop :=
  ⟨_, hx, _, h _, whenUp_of hup _⟩

theorem unknownOpcode_turnedAway {s : State} {op : Nat} {c : HostCmd} (hop : op < 256) (hnew : op ∉ opcodes) (hring : c.ring < 256)
    (htake : s.canTake c = true) : Does (.unknownOpcode op c) s fun t => TurnedAway s t c op 0x01 F.GLB_CMDIGN :=
  ⟨_, congrArg Host.Outcome.next (if_neg (by simp [hnew, htake]; omega)), turnedAway_of_tally op 0x01 (by decide) hring htake⟩

/-- Settles O55: each opcode's command is `command` with its bits, which turns the command away before its body. -/
theorem badReservedRows : Obligations.BadReservedRows :=
  ⟨fun _ _ hring htake hbad => ⟨_, rfl, turnedAway_of_reserved _ _ _ hring htake hbad⟩,
    fun _ _ hring htake hbad => ⟨_, rfl, turnedAway_of_reserved _ _ _ hring htake hbad⟩,
    fun _ _ hring htake hbad => ⟨_, rfl, turnedAway_of_reserved _ _ _ hring htake hbad⟩,
    fun _ _ hring htake hbad => ⟨_, rfl, turnedAway_of_reserved _ _ _ hring htake hbad⟩,
    fun _ _ _ hup hring htake hbad => does_tunCommand rfl hup fun _ => turnedAway_of_reserved _ _ _ hring htake hbad,
    fun _ _ _ hup hring htake hbad => does_tunCommand rfl hup fun _ => turnedAway_of_reserved _ _ _ hring htake hbad,
    fun _ _ hup hring htake hbad => does_tunCommand rfl hup fun _ => turnedAway_of_reserved _ _ _ hring htake hbad,
    fun _ _ hup hring htake hbad => does_tunCommand rfl hup fun _ => turnedAway_of_reserved _ _ _ hring htake hbad,
    fun _ _ hup hring htake hbad => does_tunCommand rfl hup fun _ => turnedAway_of_reserved _ _ _ hring htake hbad,
    fun _ _ hring htake hbad => ⟨_, rfl, turnedAway_of_reserved _ _ _ hring htake hbad⟩,
    fun _ _ hring htake hbad => ⟨_, rfl, turnedAway_of_reserved _ _ _ hring htake hbad⟩,
    fun _ _ _ hring htake hbad => ⟨_, rfl, turnedAway_of_reserved _ _ _ hring htake hbad⟩,
    fun _ _ hring htake hbad => ⟨_, rfl, turnedAway_of_reserved _ _ _ hring htake hbad⟩,
    fun _ _ hring htake hbad => ⟨_, rfl, turnedAway_of_reserved _ _ _ hring htake hbad⟩,
    fun _ _ _ hring htake hbad => ⟨_, rfl, turnedAway_of_reserved _ _ _ hring htake hbad⟩,
    fun _ _ hring htake hbad => ⟨_, rfl, turnedAway_of_reserved _ _ _ hring htake hbad⟩,
    fun _ _ hring htake hbad => ⟨_, rfl, _, turnedAway_of_reserved _ _ _ hring htake hbad, rfl⟩,
    fun _ _ hring htake hbad => ⟨_, rfl, turnedAway_of_reserved _ _ _ hring htake hbad⟩,
    fun _ _ hring htake hbad => ⟨_, rfl, turnedAway_of_reserved _ _ _ hring htake hbad⟩,
    fun _ _ hring htake hbad => ⟨_, rfl, turnedAway_of_reserved _ _ _ hring htake hbad⟩,
    fun _ _ hring htake hbad => ⟨_, rfl, turnedAway_of_reserved _ _ _ hring htake hbad⟩,
    fun _ _ _ hop hnew hring htake => unknownOpcode_turnedAway hop hnew hring htake⟩

/-- Settles O56: each control opcode's command is `command` as a control command, which turns a host away that does not control. -/
theorem nonOwnerRows : Obligations.NonOwnerRows :=
  ⟨fun _ _ h hown => ⟨_, rfl, turnedAway_of_nonOwner _ _ h hown⟩,
    fun _ _ _ hup h hown => does_tunCommand rfl hup fun _ => turnedAway_of_nonOwner _ _ h hown,
    fun _ _ _ hup h hown => does_tunCommand rfl hup fun _ => turnedAway_of_nonOwner _ _ h hown,
    fun _ _ hup h hown => does_tunCommand rfl hup fun _ => turnedAway_of_nonOwner _ _ h hown,
    fun _ _ hup h hown => does_tunCommand rfl hup fun _ => turnedAway_of_nonOwner _ _ h hown,
    fun _ _ hup h hown => does_tunCommand rfl hup fun _ => turnedAway_of_nonOwner _ _ h hown,
    fun _ _ h hown => ⟨_, rfl, turnedAway_of_nonOwner _ _ h hown⟩,
    fun _ _ _ h hown => ⟨_, rfl, turnedAway_of_nonOwner _ _ h hown⟩,
    fun _ _ h hown => ⟨_, rfl, turnedAway_of_nonOwner _ _ h hown⟩,
    fun _ _ h hown => ⟨_, rfl, turnedAway_of_nonOwner _ _ h hown⟩,
    fun _ _ _ h hown => ⟨_, rfl, turnedAway_of_nonOwner _ _ h hown⟩,
    fun _ _ h hown => ⟨_, rfl, _, turnedAway_of_nonOwner _ _ h hown, rfl⟩,
    fun _ _ h hown => ⟨_, rfl, turnedAway_of_nonOwner _ _ h hown⟩,
    fun _ _ h hown => ⟨_, rfl, turnedAway_of_nonOwner _ _ h hown⟩,
    fun _ _ h hown => ⟨_, rfl, turnedAway_of_nonOwner _ _ h hown⟩⟩

end Sys2Proof.Proofs
end

section
/-! SUPPORT. The refutation of O4: a heartbeat also forgets the yield by which this device became OWNER. -/

namespace Sys2Proof.Proofs

open Sys2Proof.Machine Sys2Proof.Laws

/-- HEARTBEAT_SEND drops what this device remembers of the yield it took (R108), beside the heartbeat. -/
theorem exec_heartbeatSend {s : State} (hup : s.up = true) (hduty : s.dutyRuns 0 = true) (howner : s.get F.GLB_OWNER_STATE = 3)
    (halive : s.hostAlive = true) :
    exec .heartbeatSend s = .next (s.ownM fun o => { o with yieldFrom := none }).heartbeat :=
  congrArg Host.Outcome.next ((if_pos (by simp [hup, hduty])).trans (if_pos ⟨howner, halive⟩))

/-- A host bridge with an alive host that has just become OWNER by the yield of an owner of the lowest rank. -/
def yieldedOwner : State :=
  { State.reset with
    boot := { BootSt.reset with held := false }
    own := { OwnSt.reset with perstHigh := true, linkUp := true, bme := true, yieldFrom := some { prio := 0, uid := 0 } } }
    |>.put F.GLB_OWNER_STATE 3

/-- Refutes O4: the clause of HEARTBEAT_SEND says that the heartbeat is its whole effect, but at an owner by a yield it also ends
`yieldFrom`. -/
theorem not_electionRows : ¬ Obligations.ElectionRows := by
  unfold Obligations.ElectionRows
  rintro ⟨hsend, -⟩
  obtain ⟨t, hx, ht⟩ := hsend yieldedOwner (by decide) (by decide) (by decide) (by decide)
  rw [exec_heartbeatSend (by decide) (by decide) (by decide) (by decide)] at hx
  injection hx with hx
  have hyield : (none : Option Rank) = some { prio := 0, uid := 0 } := congrArg (fun u : State => u.own.yieldFrom) (hx.trans ht)
  exact absurd hyield (by decide)

end Sys2Proof.Proofs
end

section
/-! SUPPORT. The SMBus target (R110 to R112, R429), with the proof of O8. -/

namespace Sys2Proof.Proofs

open Sys2Proof.Machine Sys2Proof.Laws

/-! ### Reads over SMBus (R111) -/

section
variable {l : List Part} {s t : State}

@[simp] theorem leaves_nicM {n : Nat} {g : NicSt → NicSt} (h : .nics ∈ l) : Leaves l s (t.nicM n g) ↔ Leaves l s t :=
  leaves_congr_one (by rintro ⟨⟩ <;> simp [Part.kept]) h

@[simp] theorem leaves_popMac {n : Nat} (h : [.regs, .macs] ⊆ l) : Leaves l s (t.popMac n) ↔ Leaves l s t := by
  refine leaves_congr ?_ h
  unfold State.popMac
  split <;> simp

@[simp] theorem leaves_popNic {n : Nat} (h : [.regs, .nics] ⊆ l) : Leaves l s (t.popNic n) ↔ Leaves l s t := by
  refine leaves_congr ?_ h
  unfold State.popNic
  split <;> simp

@[simp] theorem leaves_readActs {a : Nat} (h : [.regs, .macs, .nics, .hew, .draws] ⊆ l) :
    Leaves l s (t.readActs a) ↔ Leaves l s t := by
  refine leaves_congr ?_ h
  have hdraw : Leaves [.regs, .macs, .nics, .hew, .draws] t { t with draws := t.draws + 1 } := by
    rintro ⟨⟩ <;> simp [Part.kept]
  unfold State.readActs
  split
  · simp
  · simp
  · exact hdraw
  · simp
  · simp

end

theorem Spares.macM {s t : State} {n : Nat} {g : MacSt → MacSt} (h : Spares s t) : Spares s (t.macM n g) := h.same rfl rfl rfl rfl

theorem Spares.nicM {s t : State} {n : Nat} {g : NicSt → NicSt} (h : Spares s t) : Spares s (t.nicM n g) := h.same rfl rfl rfl rfl

theorem Spares.popMac {s t : State} {n : Nat} (h : Spares s t) : Spares s (t.popMac n) := by
  have hstat : 0x1000 ≤ A.ETH_GLSTAT n := above_base (by decide)
  have h0 : 0x1000 ≤ A.ETH_GLINT0 n := above_base (by decide)
  have h1 : 0x1000 ≤ A.ETH_GLINT1 n := above_base (by decide)
  have h2 : 0x1000 ≤ A.ETH_GLINT2 n := above_base (by decide)
  have h3 : 0x1000 ≤ A.ETH_GLINT3 n := above_base (by decide)
  unfold State.popMac
  split
  · exact h.put h0
  · exact (((((((h.macM).put hstat).put h0).put h0).put h0).wr h1).wr h2).wr h3

theorem Spares.popNic {s t : State} {n : Nat} (h : Spares s t) : Spares s (t.popNic n) := by
  have hstat : 0x1000 ≤ A.NIC_GLSTAT n := above_base (by decide)
  have h0 : 0x1000 ≤ A.NIC_GLINT0 n := above_base (by decide)
  have h1 : 0x1000 ≤ A.NIC_GLINT1 n := above_base (by decide)
  have h2 : 0x1000 ≤ A.NIC_GLINT2 n := above_base (by decide)
  have h3 : 0x1000 ≤ A.NIC_GLINT3 n := above_base (by decide)
  unfold State.popNic
  split
  · exact h.put h0
  · exact (((((((h.nicM).put hstat).put h0).put h0).put h0).wr h1).wr h2).wr h3

theorem Spares.readActs {s t : State} {a : Nat} (h : Spares s t) : Spares s (t.readActs a) := by
  unfold State.readActs
  split
  · exact h.ite h.popMac
  · exact h.ite h.popNic
  · exact h.same rfl rfl rfl rfl
  · exact h.hewM.ite h
  · exact h

/-- A read over SMBus sends nothing and leaves the registers of GLB. -/
theorem readBus_smbus (s : State) (a : Nat) : (s.readBus .smbus a).1.outs = s.outs ∧ Spares s (s.readBus .smbus a).1 := by
  have hmark : ∀ b : Bool, Spares s (s.smbM fun x => { x with unavail := b }) := fun _ => (Spares.refl s).smbM
  have hlatch : ∀ u : State, (u.latch .smbus a).outs = u.outs ∧ (u.latch .smbus a).regs = u.regs ∧ (u.latch .smbus a).boot = u.boot ∧
      (u.latch .smbus a).store = u.store := fun u => by
    unfold State.latch
    dsimp only
    split <;> exact ⟨rfl, rfl, rfl, rfl⟩
  unfold State.readBus
  rw [if_pos rfl]
  extract_lets dark
  clear_value dark
  cases dark with
  | true => exact ⟨rfl, hmark true⟩
  | false =>
    obtain ⟨houts, hregs, hboot, hstore⟩ := hlatch ((s.smbM fun x => { x with unavail := false }).readActs a)
    have hacts : Leaves [.regs, .macs, .nics, .hew, .draws, .smb] s ((s.smbM fun x => { x with unavail := false }).readActs a) := by simp
    exact ⟨houts.trans (hacts .outs (by decide)).1, (hmark false).readActs.same hboot hstore hregs houts⟩

theorem smbAddr_of_spares {s t : State} (h : Spares s t) : t.smbAddr = s.smbAddr := by
  rw [State.smbAddr, h.get (by decide), State.smbAddr]

/-! ### Commands -/

theorem addrWrite_takes {s : State} {a : Nat} (hword : a % 4 = 0) (hlt : a < 2 ^ 24) :
    Does (.smbusAddrWrite a true) s fun t => t = s.smbM fun b => { b with addr := a } :=
  ⟨_, congrArg Host.Outcome.next (if_neg (by simp [hword]; omega)), rfl⟩

/-- The word read goes out in a block, under the straps' address, and ADDR moves on by a word. -/
theorem dataRead_advances (s : State) : Does (.smbusDataRead) s fun t =>
    t.smb.addr = (s.smb.addr + 4) % 2 ^ 24 ∧
    t.outs = (s.smbBlock 0x02 ((leBytes 4 (s.readBus .smbus s.smb.addr).2.toNat).map (·.toNat))).outs := by
  obtain ⟨houts, hspares⟩ := readBus_smbus s s.smb.addr
  refine ⟨_, rfl, rfl, ?_⟩
  have haddr := smbAddr_of_spares hspares
  generalize s.readBus .smbus s.smb.addr = r at houts haddr
  simp only [State.smbBlock, State.smbAnswer, emit_outs, smbM_outs, houts]
  rw [← haddr]
  rfl

/-- On its way to a state the device puts a request into the pending slot (R429). -/
theorem pwrRequest_pends {s : State} {v : Nat} (hcur : s.get F.PWR_STAT_CUR ≠ 4) (hheld : s.boot.held = false)
    (hphase : s.get F.PWR_STAT_PHASE = 5) : (s.pwrRequest v).1 = s.setPend (some v) := by
  unfold State.pwrRequest
  simp [hcur, hheld, hphase]

theorem not_eventReg_pwrStat : ¬ EventReg A.PWR_STAT := by
  rintro (⟨k, hk, h⟩ | h | ⟨n, hn, h⟩ | ⟨n, hn, hn', h⟩ | ⟨w, hw, h⟩)
  · simp only [A.PWR_STAT, A.EVT_STAT] at h; omega
  · exact absurd h (by decide)
  · simp only [A.PWR_STAT, A.GLB_RIDX] at h; omega
  · simp only [A.PWR_STAT, F.HWR_EVOVF, A.HWR_EVOVF] at h; omega
  · simp only [A.PWR_STAT, A.MSIX_PBA] at h; omega

/-- The event of a replaced request changes no field of PWR_STAT. -/
theorem setPend_get (s : State) (v : Nat) {f : Fld} (hf : f.addr = A.PWR_STAT) :
    (s.setPend (some v)).get f = ((s.put F.PWR_STAT_PEND v).put F.PWR_STAT_PENDV 1).get f := by
  unfold State.setPend
  dsimp only
  split
  · exact get_of_regsAgreeOff (raise_regs_agree _ _ (by decide)) (hf ▸ not_eventReg_pwrStat)
  · rfl

theorem pwrreq_pends {s : State} {v : Nat} (hv : v ≤ 4) (hcur : s.get F.PWR_STAT_CUR ≠ 4) (hheld : s.boot.held = false)
    (hphase : s.get F.PWR_STAT_PHASE = 5) : Does (.smbusPwrreq v true) s fun t =>
      t.get F.PWR_STAT_PEND = v ∧ t.bit F.PWR_STAT_PENDV = true ∧ t.get F.PWR_STAT_CUR = s.get F.PWR_STAT_CUR := by
  have hpec : ¬ ((!true) = true ∨ 4 < v) := by simp; omega
  refine ⟨_, congrArg Host.Outcome.next ((if_neg hpec).trans (pwrRequest_pends hcur hheld hphase)), ?pend, ?valid, ?cur⟩
  case pend =>
    rw [setPend_get s v rfl]
    simp (disch := decide) only [get_put_apart, get_put_same]
    exact Nat.mod_eq_of_lt (by change v < 8; omega)
  case valid =>
    rw [State.bit, setPend_get s v rfl]
    simp (disch := decide) only [get_put_same]
    decide
  case cur =>
    rw [setPend_get s v rfl]
    simp (disch := decide) only [get_put_apart]

/-- Without a strap fault a release of the alert clears every cause and lets SMB_ALERT_N rise (R112). -/
theorem alertRelease_of_clear {s : State} (hclear : s.smb.causes % 2 = 0) (hsome : s.smb.causes ≠ 0) :
    s.alertRelease = (s.smbM fun b => { b with causes := 0 }).emit (.pin .smbAlertN true) := by
  have hmod : (s.smbM fun b => { b with causes := b.causes % 2 }) = s.smbM fun b => { b with causes := 0 } := by
    simp only [State.smbM, hclear]
  have hlow : ¬ (s.smb.causes % 2 = 1 ∨ s.smb.causes = 0) := by omega
  rw [State.alertRelease, if_neg hlow, hmod]

theorem alertRelease_effect (s : State) :
    Grows s s.alertRelease ∧ s.alertRelease.smb.causes = s.smb.causes % 2 ∧ s.alertRelease.regs = s.regs := by
  unfold State.alertRelease
  dsimp only
  split
  · exact ⟨Grows.refl s, rfl, rfl⟩
  · exact ⟨Grows.emit (t := s.smbM _) (Grows.refl s), rfl, rfl⟩

theorem alertResponse_answers {s : State} (hsome : s.smb.causes ≠ 0) : Does (.smbusAlertResponse) s fun t =>
    Sends s t (.readData .smbus [2 * (0x60 + s.get F.GLB_STRAP_SMBA), (crc8 ([0x19, 2 * (0x60 + s.get F.GLB_STRAP_SMBA)].map
      (BitVec.ofNat 8))).toNat]) ∧
    t.smb.causes = s.smb.causes % 2 ∧ t.regs = s.regs := by
  obtain ⟨hgrows, hcauses, hregs⟩ := alertRelease_effect (s.smbAnswer [0x19] [s.smbAddr])
  exact ⟨_, congrArg Host.Outcome.next (if_neg hsome), sends_trans (sends_emit s _) hgrows, hcauses, hregs⟩

/-- Settles O8: each command's answer, from the address it reads to the causes it leaves. -/
theorem smbusRows : Obligations.SmbusRows :=
  ⟨fun s temp => ⟨_, exec_smbusStatusRead s temp, rfl⟩,
    fun _ _ hword hlt => addrWrite_takes hword hlt,
    dataRead_advances,
    fun _ _ hv hcur hheld hphase => pwrreq_pends hv hcur hheld hphase,
    fun _ hclear hsome => ⟨_, congrArg Host.Outcome.next (if_neg (by decide)), alertRelease_of_clear hclear hsome⟩,
    fun _ hsome => alertResponse_answers hsome⟩

end Sys2Proof.Proofs
end

section
/-! SUPPORT. What has been sent stays sent: admission, queues, routing and time. -/

namespace Sys2Proof.Proofs.Grows

open Sys2Proof.Machine Sys2Proof.Laws

variable {s t : State}

theorem fst_ite {α : Type} {c : Prop} [Decidable c] {p q : State × α} (h : Grows s p.1) (k : Grows s q.1) :
    Grows s (if c then p else q).1 := by
  split <;> assumption

theorem fstFoldl {α β : Type} {g : State × β → α → State × β} {p : State × β} (h : Grows s p.1) (as : List α)
    (hg : ∀ p a, Grows s p.1 → Grows s (g p a).1) : Grows s (as.foldl g p).1 :=
  List.foldlRecOn (motive := fun p => Grows s p.1) as g h fun p hp a _ => hg p a hp

theorem of_fst {α : Type} {p : State × α} {u : State} {a : α} (h : Grows s p.1) (hp : p = (u, a)) : Grows s u := by
  rwa [hp] at h

/-! ### Parts of the state, accesses -/

theorem bootM {g : BootSt → BootSt} (h : Grows s t) : Grows s (t.bootM g) := h

theorem smbM {g : SmbSt → SmbSt} (h : Grows s t) : Grows s (t.smbM g) := h

theorem coreM {n : Nat} {g : HewerSt → HewerSt} (h : Grows s t) : Grows s (t.coreM n g) := h.hewM

theorem glbWrite {r : Req} {g : State → State} (h : Grows s t) (hg : ∀ u, Grows s u → Grows s (g u)) :
    Grows s (t.glbWrite r g) :=
  h.ite ((hg _ h).ite h.tally)

theorem controlWrite {r : Req} {g : State → State}
    (h : Grows s t) (hg : ∀ u, Grows s u → Grows s (g u)) : Grows s (t.controlWrite r g) :=
  h.tally.ite (h.glbWrite fun _ ha => hg _ ha)

/-! ### The fault log -/

theorem loseEntry {e : Nat} (h : Grows s t) : Grows s (t.loseEntry e) := ((h.raise.ite h).bump).ite h

theorem writeEntry {e seq cls flags group unit rel detail recov : Nat}
    (h : Grows s t) : Grows s (t.writeEntry e seq cls flags group unit rel detail recov) :=
  h.put.put.put.put.put.put.put.put

theorem logFault {cls unit group : Nat} {masked : Bool} {detail : Nat}
    (h : Grows s t) : Grows s (t.logFault cls unit group masked detail) := by
  unfold State.logFault
  extract_lets +onlyGivenNames _ _ _ _ _ u
  have hu : Grows s u := h.loseEntry.writeEntry.put.put
  clear_value u
  extract_lets +onlyGivenNames _ v
  have hv : Grows s v := hu
  clear_value v
  extract_lets _ w x y z
  have hw : Grows s w := hv.ite hv
  have hx : Grows s x := hw.put.bump
  have hy : Grows s y := hx.bump
  have hz : Grows s z := hy.raiseWith.ite hy.raise
  exact hz.ite hz.raiseWith

theorem closeFault {o : OpenFault} (h : Grows s t) : Grows s (t.closeFault o) := h.trans (Spares.refl t).closeFault.grows

theorem closeFaults {p : OpenFault → Bool} (h : Grows s t) : Grows s (t.closeFaults p) := h.foldl _ fun _ _ ha => ha.closeFault

/-! ### Ownership -/

theorem alert {cause : Nat} (h : Grows s t) : Grows s (t.alert cause) := h.trans (Spares.refl t).alert.grows

theorem setOwner {st fid gen : Nat} {rank : Option Rank} (h : Grows s t) : Grows s (t.setOwner st fid gen rank) :=
  h.put.put.put.ownM.raise.alert

theorem heartbeat (h : Grows s t) : Grows s t.heartbeat := h.emit

theorem claim (h : Grows s t) : Grows s t.claim := h.ownM.emit

theorem electWith {noClaim masked : Bool} (h : Grows s t) : Grows s (t.electWith noClaim masked) := by
  unfold State.electWith
  extract_lets u v
  have hu : Grows s u := h.put.put.ownM
  have hv : Grows s v := hu.raiseWith
  exact hv.claim.ite hv

theorem elect {noClaim : Bool} (h : Grows s t) : Grows s (t.elect noClaim) := h.electWith

theorem endYield {code : Nat} (h : Grows s t) : Grows s (t.endYield code) := by
  unfold State.endYield
  split
  · extract_lets u
    have hu : Grows s u := h.ownM.finish
    exact hu.raise.ite hu
  · exact h

theorem become {gen : Nat} (h : Grows s t) : Grows s (t.become gen) := h.put.setOwner.heartbeat

theorem hostLost (h : Grows s t) : Grows s t.hostLost := by
  unfold State.hostLost
  split
  · extract_lets u
    have hu : Grows s u := h.put.ownM.raise
    split
    · exact hu.ite hu.endYield
    · exact hu
  · exact h

theorem hostGained (h : Grows s t) : Grows s t.hostGained := (h.elect.ite (h.become.ite h)).ite h

theorem setAlive {cond : Nat} {v : Bool} (h : Grows s t) : Grows s (t.setAlive cond v) := by
  unfold State.setAlive
  split
  · exact h.ownM
  · exact h.ownM
  · exact h.ownM
  · exact h.putBit

theorem aliveChange {cond : Nat} {v : Bool} (h : Grows s t) : Grows s (t.aliveChange cond v) := by
  unfold State.aliveChange
  extract_lets u
  have hu : Grows s u := h.setAlive
  exact hu.hostLost.ite (hu.hostGained.ite hu)

/-! ### Keys -/

theorem ksM {g : KeyStSt → KeyStSt} (h : Grows s t) : Grows s (t.ksM g) := h

theorem keyRegs (h : Grows s t) : Grows s t.keyRegs := h.putBit.put.put.put

theorem eraseKey {n : Nat} (h : Grows s t) : Grows s (t.eraseKey n) := h.ksM.keyRegs

theorem dropLinkKeys {p : Nat} (h : Grows s t) : Grows s (t.dropLinkKeys p) := (h.foldl _ fun _ _ ha => ha.eraseKey).ite h

/-! ### Contexts, offers and paths -/

theorem portM {p : Nat} {g : PortSt → PortSt} (h : Grows s t) : Grows s (t.portM p g) := h

theorem linkM {p : Nat} {g : LinkSt → LinkSt} (h : Grows s t) : Grows s (t.linkM p g) := h

theorem schM {p : Nat} {g : SchSt → SchSt} (h : Grows s t) : Grows s (t.schM p g) := h

theorem tunM {g : TunSt → TunSt} (h : Grows s t) : Grows s (t.tunM g) := h

theorem fabM {g : FabSt → FabSt} (h : Grows s t) : Grows s (t.fabM g) := h

theorem ctxM {idx : Nat} {g : TunCtx → TunCtx} (h : Grows s t) : Grows s (t.ctxM idx g) := h

theorem offerGone {ring ep : Nat} (h : Grows s t) : Grows s (t.offerGone ring ep) := h.tunM

theorem release {q : QFrame} (h : Grows s t) : Grows s (t.release q) := h.trans (Spares.refl t).release.grows

theorem highWater {p q : Nat} (h : Grows s t) : Grows s (t.highWater p q) := h.trans (Spares.refl t).highWater.grows

theorem enqueue {p : Nat} {q : QFrame} (h : Grows s t) : Grows s (t.enqueue p q) := h.trans (Spares.refl t).enqueue.grows

theorem dropQueued {p : Nat} {test : QFrame → Bool} (h : Grows s t) : Grows s (t.dropQueued p test) :=
  h.trans (Spares.refl t).dropQueued.grows

theorem spillEvent {p : Nat} (h : Grows s t) : Grows s (t.spillEvent p) := h.hewM.raise.ite h

theorem sendTransit {c : TunCtx} {f : Frame} {from_ : Option (Nat × Nat)} {since : Nat}
    (h : Grows s t) : Grows s (t.sendTransit c f from_ since) := by
  unfold State.sendTransit
  dsimp only
  split
  · exact h.release.bump.spillEvent.ite h.enqueue
  · exact h.release.bump.ite h.release.bump

theorem sendEnd {c : TunCtx} {f : Frame} {fence : Option (Nat × Nat)} (h : Grows s t) : Grows s (t.sendEnd c f fence) :=
  h.trans (Spares.refl t).sendEnd.grows

theorem tunEvent {par : TunPar} {bit : Nat} {data : List Nat} (h : Grows s t) : Grows s (t.tunEvent par bit data) := h.raiseWith

/-! ### PCIe slots -/

theorem pcxM {g : PcxSt → PcxSt} (h : Grows s t) : Grows s (t.pcxM g) := h

theorem slotM {k : Nat} {g : SlotSt → SlotSt} (h : Grows s t) : Grows s (t.slotM k g) := h.pcxM

theorem dportM {k : Nat} {g : DockPort → DockPort} (h : Grows s t) : Grows s (t.dportM k g) := h.pcxM

theorem slotMsi {k : Nat} (h : Grows s t) : Grows s (t.slotMsi k) := h.emit.ite h

theorem portError {k bit : Nat} {hdr : List (BitVec 8)} {send : Bool} (h : Grows s t) : Grows s (t.portError k bit hdr send) := by
  unfold State.portError
  extract_lets +onlyGivenNames _ u
  have hu : Grows s u := h.slotM
  split
  · exact hu
  · extract_lets +onlyGivenNames v
    have hv : Grows s v := hu.slotMsi
    exact hv.ite (hv.emit.ite hv.emit)

theorem slotIrq {k : Nat} (h : Grows s t) : Grows s (t.slotIrq k) := h.slotMsi.ite h

theorem answerAsk {a : SlotAsk} (h : Grows s t) : Grows s (t.answerAsk a) := by
  unfold State.answerAsk
  extract_lets u
  have hu : Grows s u := h.pcxM
  exact hu.pcxM.ite hu.emit

theorem answerAsks {k : Nat} {link : Bool} (h : Grows s t) : Grows s (t.answerAsks k link) := h.foldl _ fun _ _ ha => ha.answerAsk

theorem tellDock {l : TunCtx} {field v : Nat} (h : Grows s t) : Grows s (t.tellDock l field v) := h.ctlM.emit

theorem tellSlot {k : Nat} (h : Grows s t) : Grows s (t.tellSlot k) := by
  unfold State.tellSlot
  split
  · exact h.slotM.ite h
  · exact h.ite (h.slotM.foldl _ fun _ _ ha => ha.tellDock)

theorem refreshSlot {k : Nat} (h : Grows s t) : Grows s (t.refreshSlot k) := by
  unfold State.refreshSlot
  split
  · extract_lets +onlyGivenNames _ _ u v
    have hu : Grows s u := h.putBit.put.put.put
    have hv : Grows s v := hu.tellSlot
    split
    · exact hv
    · extract_lets +onlyGivenNames w x y
      have hw : Grows s w := hv.putBit.putBit
      have hx : Grows s x := hw.slotM.slotIrq
      have hy : Grows s y := hx.raise
      exact hy.answerAsks.ite hy

theorem dockDown {k : Nat} (h : Grows s t) : Grows s (t.dockDown k) := by
  unfold State.dockDown
  split
  · extract_lets u
    have hu : Grows s u := h.put.put.put
    exact ((hu.put.ite hu).pcxM).raise
  · exact h

theorem slotPower {k : Nat} (h : Grows s t) : Grows s (t.slotPower k) := h.emit.ite h

theorem dockEnable {k : Nat} {was : Bool} (h : Grows s t) : Grows s (t.dockEnable k was) := by
  unfold State.dockEnable
  extract_lets _ u
  have hu : Grows s u := h.putBit.slotPower
  exact hu.ite (hu.emit.dockDown.ite hu.emit)

theorem refreshPort {k : Nat} (h : Grows s t) : Grows s (t.refreshPort k) := by
  unfold State.refreshPort
  extract_lets _ u
  have hu : Grows s u := h.putBit.put
  exact hu.ite hu.dportM.dockEnable

theorem pcxRefresh (h : Grows s t) : Grows s t.pcxRefresh := by
  unfold State.pcxRefresh
  extract_lets u
  have hu : Grows s u := (h.foldl _ fun _ _ ha => ha.refreshSlot).ite h
  exact (hu.foldl _ fun _ _ ha => ha.refreshPort).ite hu

/-! ### Admission -/

theorem statM {idx : Nat} {g : TunStat → TunStat} (h : Grows s t) : Grows s (t.statM idx g) := h.ctxM

theorem statDrop {idx : Nat} (h : Grows s t) : Grows s (t.statDrop idx) := h.statM

theorem firstM {idx : Nat} {g : Offer → Offer} (h : Grows s t) : Grows s (t.firstM idx g) := h.ctxM

theorem admTest {c : TunCtx} {ring : Option Nat} {len : Nat} {yellow : Bool}
    (h : Grows s t) : Grows s (t.admTest c ring len yellow).1 :=
  h.trans (Spares.refl t).admTest.grows

theorem poolEvent {c : TunCtx} {len : Nat} (h : Grows s t) : Grows s (t.poolEvent c len) :=
  h.trans (Spares.refl t).poolEvent.grows

theorem tooLong {c : TunCtx} {len : Nat} (h : Grows s t) : Grows s (t.tooLong c len) := h.trans (Spares.refl t).tooLong.grows

theorem noTunnel {ep : Nat} (h : Grows s t) : Grows s (t.noTunnel ep) := h.trans (Spares.refl t).noTunnel.grows

theorem meet {c : TunCtx} {ring : Option Nat} {h' : HeldFrame} (h : Grows s t) : Grows s (t.meet c ring h').1 :=
  h.trans (Spares.refl t).meet.grows

theorem ingressOf {ring : Option Nat} {ep typ kind : Nat} {bytes : List (BitVec 8)} {last yellow : Bool} (h : Grows s t) :
    Grows s (t.ingressOf ring ep typ kind bytes last yellow) := by
  unfold State.ingressOf
  split
  · exact h.noTunnel
  · split
    · exact h.noTunnel
    · split
      · exact h.tooLong
      · dsimp only
        split
        · exact h.ctxM
        · split
          next hm => exact h.meet.of_fst hm
          next hm => exact (h.meet.of_fst hm).firstM.ctxM

theorem ingress {ep typ kind : Nat} {bytes : List (BitVec 8)} {last yellow : Bool}
    (h : Grows s t) : Grows s (t.ingress ep typ kind bytes last yellow) :=
  h.trans (Spares.refl t).ingress.grows

theorem offerRing {ring ep typ len : Nat} {yellow : Bool} (h : Grows s t) : Grows s (t.offerRing ring ep typ len yellow).1 := by
  unfold State.offerRing
  split
  · exact h
  · split
    · exact h
    · split
      · exact h
      · split
        · exact h
        · split
          next hm => exact (h.admTest.of_fst hm).poolEvent
          next hm => exact h.admTest.of_fst hm

theorem flushHeld {n idx : Nat} (h : Grows s t) : Grows s (t.flushHeld n idx) := by
  induction n generalizing t with
  | zero => exact h
  | succ n ih =>
    unfold State.flushHeld
    split
    · exact h
    · split
      · exact h
      · split
        · exact (h.noTunnel.foldl _ fun _ _ ha => ha.noTunnel).ctxM
        · split
          · exact h
          · split
            next hm => exact h.meet.of_fst hm
            next hm => exact ih (h.meet.of_fst hm).ctxM

theorem flushAllHeld (h : Grows s t) : Grows s t.flushAllHeld := h.foldl _ fun _ _ ha => ha.ite ha.flushHeld

theorem resend {idx : Nat} (h : Grows s t) : Grows s (t.resend idx) := by
  unfold State.resend
  split
  · exact h
  · exact h.ite ((((h.foldl _ fun _ _ ha => ha.dropQueued).statM).ctxM).foldl _ fun _ _ ha => ha.sendEnd)

theorem pauseOne {idx : Nat} (h : Grows s t) : Grows s (t.pauseOne idx) := by
  unfold State.pauseOne
  split
  · exact h
  · exact h.ite (h.ctxM.tunEvent.ite (h.ctxM.resend.tunEvent.flushHeld.ite h))

theorem refreshPause (h : Grows s t) : Grows s t.refreshPause := (h.foldl _ fun _ _ ha => ha.pauseOne).pcxRefresh

theorem pauseFar {fid by_ : Nat} (h : Grows s t) : Grows s (t.pauseFar fid by_) :=
  (h.foldl _ fun _ _ ha => ha.ite (ha.ctxM.tunEvent.ite (ha.ctxM.ite (ha.ctxM.tunEvent.ite ha)))).pcxRefresh

/-! ### Queues and credits -/

theorem retag {p : Nat} (h : Grows s t) : Grows s (t.retag p) := h.schM

theorem grantQueue {p q : Nat} (h : Grows s t) : Grows s (t.grantQueue p q) := h.schM

theorem calMiss {p slot cause : Nat} (h : Grows s t) : Grows s (t.calMiss p slot cause) := by
  unfold State.calMiss
  extract_lets u
  have hu : Grows s u := h.bump
  exact hu.ite hu.schM.raise

theorem slotBegin {p k : Nat} (h : Grows s t) : Grows s (t.slotBegin p k) := by
  unfold State.slotBegin
  extract_lets +onlyGivenNames _ u
  have hu : Grows s u := h.put
  split
  · split
    · exact hu
    · split
      · exact hu.grantQueue.ite hu.calMiss
      · exact hu.calMiss
  · extract_lets +onlyGivenNames _
    split
    · exact hu.calMiss
    · split
      · exact hu.grantQueue
      · exact hu
  · exact hu

theorem copyRegs {src dst n : Nat} (h : Grows s t) : Grows s (t.copyRegs src dst n) :=
  (h.foldl _ fun _ _ ha => ha.wr).foldl _ fun _ _ ha => ha.wr

theorem copyShadow {p : Nat} (h : Grows s t) : Grows s (t.copyShadow p) := h.copyRegs.copyRegs.copyRegs.copyRegs.copyRegs

theorem blockDone {group bit t0 : Nat} (h : Grows s t) : Grows s (t.blockDone group bit t0) := by
  unfold State.blockDone
  split
  · exact h
  · exact ite (reply h) h

theorem lateCommit {p t0 : Nat} {g : Staged} (h : Grows s t) : Grows s (t.lateCommit p t0 g) := by
  unfold State.lateCommit
  split
  · exact h.raise
  · exact h

theorem drainDone {p now_ : Nat} (h : Grows s t) : Grows s (t.drainDone p now_) := by
  unfold State.drainDone
  split
  · exact h
  · extract_lets _ u
    have hu : Grows s u := h.schM.put
    exact (hu.put.ite hu).raise

theorem drainSettle {p : Nat} (h : Grows s t) : Grows s (t.drainSettle p) := by
  unfold State.drainSettle
  split
  · exact h.drainDone
  · exact h

theorem swap {p : Nat} (h : Grows s t) : Grows s (t.swap p) := by
  unfold State.swap
  split
  · extract_lets u v w x y z
    have hu : Grows s u := h.copyShadow.schM
    have hv : Grows s v := hu.put.put.addMod
    have hw : Grows s w := hv.foldl _ fun _ _ ha => ha.slotBegin
    have hx : Grows s x := hw.lateCommit
    have hy : Grows s y := by
      unfold y
      split
      · exact hx.ite hx.lateCommit
      · exact hx
    have hz : Grows s z := hy.retag.blockDone
    exact hz.ite hz.drainSettle
  · exact h

/-! ### Time -/

theorem timM {g : TimSt → TimSt} (h : Grows s t) : Grows s (t.timM g) := h

theorem tportM {p : Nat} {g : TimPort → TimPort} (h : Grows s t) : Grows s (t.tportM p g) := h.timM

theorem setStep {v : Nat} (h : Grows s t) : Grows s (t.setStep v) := h.put.put

theorem enterHoldover {cause : Nat} (h : Grows s t) : Grows s (t.enterHoldover cause) := h.ite h.put.timM.raiseWith.logFault

theorem leaveHoldover (h : Grows s t) : Grows s t.leaveHoldover := by
  unfold State.leaveHoldover
  split
  · exact h.put.timM.raise.closeFaults
  · exact h.put

theorem setPstates {slave : Option Nat} (h : Grows s t) : Grows s (t.setPstates slave) :=
  h.foldl _ fun _ _ ha => ha.ite ha.put.raise

theorem setGm {a : Announce} {self : Bool} (h : Grows s t) : Grows s (t.setGm a self) := by
  unfold State.setGm
  extract_lets u
  have hu : Grows s u := h.put.put.put.timM
  exact hu.ite hu.raise

theorem selectSelf (h : Grows s t) : Grows s t.selectSelf := by
  unfold State.selectSelf
  extract_lets u
  have hu : Grows s u := h.setGm
  exact (hu.ite (hu.put.ite hu.enterHoldover)).setPstates

theorem timeSelect {settle : Bool} (h : Grows s t) : Grows s (t.timeSelect settle) := by
  unfold State.timeSelect
  split
  · split
    · exact h.selectSelf
    · extract_lets +onlyGivenNames _ u
      have hu : Grows s u := h.setGm.put.setPstates
      split
      · extract_lets +onlyGivenNames v
        have hv : Grows s v := hu.timM
        exact hv.ite hv.enterHoldover
      · exact hu
  · exact h.setPstates.ite h.selectSelf

theorem timePortDark {p : Nat} (h : Grows s t) : Grows s (t.timePortDark p) := h.tportM.timeSelect

theorem setClock {v : Nat} (h : Grows s t) : Grows s (t.setClock v) := h

theorem stepClock {d : Int} (h : Grows s t) : Grows s (t.stepClock d) := h.setClock

theorem servo {theta : Int} {tau : Nat} (h : Grows s t) : Grows s (t.servo theta tau) :=
  h.ite (h.stepClock.setStep.raise.ite h.timM.setStep)

theorem offsetAlarm {theta : Int} (h : Grows s t) : Grows s (t.offsetAlarm theta) := h.timM.raise.ite h

theorem acceptSample {theta : Int} {delay : Option Int} {tau : Nat}
    (h : Grows s t) : Grows s (t.acceptSample theta delay tau) := by
  unfold State.acceptSample
  extract_lets u v w
  have hu : Grows s u := h.leaveHoldover.ite (h.put.ite h)
  have hv : Grows s v := hu.put
  have hw : Grows s w := by
    unfold w
    split
    · exact hv.put.timM
    · exact hv
  exact hw.offsetAlarm.servo

/-! ### Failover -/

theorem holdRec {r : Rec} (h : Grows s t) : Grows s (t.holdRec r) := h.fabM

theorem fabStat (h : Grows s t) : Grows s t.fabStat := h.put.put.put

theorem graphNote {before : List Rec} {chg : Nat} (h : Grows s t) : Grows s (t.graphNote before chg) :=
  h.fabStat.ite ((h.fabM.fabStat.foldl _ fun _ _ ha => ha.raise).foldl _ fun _ _ ha => ha.raise.pauseFar)

theorem originate (h : Grows s t) : Grows s t.originate := by
  unfold State.originate
  extract_lets u
  have hu : Grows s u := h.fabM
  exact hu.holdRec.emit.graphNote

theorem moveQueue {p : Nat} (h : Grows s t) : Grows s (t.moveQueue p) := by
  unfold State.moveQueue
  extract_lets _ _ u
  have hu : Grows s u := (h.foldl _ fun _ _ ha => ha.highWater).schM
  refine hu.foldl _ fun _ _ ha => ?_
  split
  · exact ha.release.bump
  · split
    · split
      · split
        · exact ha.enqueue
        · exact ha.release
      · exact ha.sendTransit
    · exact ha.release

theorem forgetFrom {p : Nat} (h : Grows s t) : Grows s (t.forgetFrom p) := h

theorem resendFor {ds : List Nat} {link : Nat} (h : Grows s t) : Grows s (t.resendFor ds link) :=
  h.foldl _ fun _ _ ha => ha.ctxM.resend.ite ha

theorem setFabState {st cause : Nat} (h : Grows s t) : Grows s (t.setFabState st cause) := h.ite h.put.put.originate.refreshPause

theorem judgeRank (h : Grows s t) : Grows s t.judgeRank := h.setFabState.ite h.setFabState

theorem judgeLeave (h : Grows s t) : Grows s t.judgeLeave := h.ite h.judgeRank

theorem leaveUp {p : Nat} {fault : Bool} (h : Grows s t) : Grows s (t.leaveUp p fault) := by
  unfold State.leaveUp
  extract_lets +onlyGivenNames _ _ u v _ _ w x y z
  have hu : Grows s u := h.portM
  have hv : Grows s v := hu.foldl _ fun _ _ ha => ha.put
  have hw : Grows s w := hv.foldl _ fun _ _ ha => ha.bump
  have hx : Grows s x := hw.ite hw.raiseWith
  have hy : Grows s y := hx.ite hx.raise
  have hz : Grows s z := hy.moveQueue.resendFor
  clear_value z
  extract_lets +onlyGivenNames _ logged _ u'
  have hlogged : Grows s logged := hz.logFault
  clear_value logged
  have hu' : Grows s u' := ite hlogged hz
  exact hu'.refreshPause.originate.judgeLeave

theorem goDark {p cause : Nat} {fault : Bool} (h : Grows s t) : Grows s (t.goDark p cause fault) := by
  unfold State.goDark
  split
  · exact h.put.ite h
  · extract_lets +onlyGivenNames _ _ _ u v w _ x
    have hu : Grows s u := h.wr.put.put
    have hv : Grows s v := hu.wr.wr.wr
    have hw : Grows s w := hv.foldl _ fun _ _ ha => ha.put
    have hx : Grows s x := hw.linkM.dropLinkKeys
    clear_value x
    extract_lets +onlyGivenNames _ u v w
    have hu : Grows s u := hx.portM
    have hv : Grows s v := hu.emit.raise
    have hw : Grows s w := hv.fabM
    extract_lets x y z
    have hx : Grows s x := hw.timePortDark.ite hw
    have hy : Grows s y := hx.drainSettle.swap
    have hz : Grows s z := hy.forgetFrom.ite hy
    exact hz.leaveUp.ite (hz.moveQueue.ite hz)

end Sys2Proof.Proofs.Grows
end

section
/-! SUPPORT. What has been sent stays sent: what the frames of a tunnel bring. -/

namespace Sys2Proof.Proofs.Grows

open Sys2Proof.Machine Sys2Proof.Laws

variable {s t : State}

/-! ### Triggers and probes -/

theorem sourceSample {theta : Int} (h : Grows s t) : Grows s (t.sourceSample theta) := by
  unfold State.sourceSample
  extract_lets u
  have hu : Grows s u := h.timM.timeSelect
  exact hu.acceptSample.ite hu

theorem writeExtoff {v : Word} (h : Grows s t) : Grows s (t.writeExtoff v) := by
  unfold State.writeExtoff
  extract_lets u v
  have hu : Grows s u := h.wr
  have hv : Grows s v := hu.bump.ite hu
  exact hv.sourceSample.ite hv

theorem writeTimCtrl {v : Word} (h : Grows s t) : Grows s (t.writeTimCtrl v) := by
  unfold State.writeTimCtrl
  extract_lets u v
  have hu : Grows s u := h.wr
  have hv : Grows s v := hu.timM.ite hu
  exact hv.ite hv.timM.timeSelect

theorem writeSetns {v : Word} (h : Grows s t) : Grows s (t.writeSetns v) := h.put.ite (h.bump.ite h.put.setClock.raise)

theorem setTrig {k : Nat} {x : Option Trig} (h : Grows s t) : Grows s (t.setTrig k x) := h.timM.putBit

theorem writeProbe {v : Word} (h : Grows s t) : Grows s (t.writeProbe v) := by
  unfold State.writeProbe
  split
  · exact h.put
  · split
    · exact h.bump.ite h.put.timM.ingress
    · exact h.bump

theorem hearProbe {c : TunCtx} {bytes : List (BitVec 8)} (h : Grows s t) : Grows s (t.hearProbe c bytes) := h.ingress

theorem hearReply {c : TunCtx} {bytes : List (BitVec 8)} (h : Grows s t) : Grows s (t.hearReply c bytes) := by
  unfold State.hearReply
  split
  · exact h.timM.raise.ite h
  · exact h

theorem timeDeliver {c : TunCtx} {bytes : List (BitVec 8)} (h : Grows s t) : Grows s (t.timeDeliver c bytes) := by
  unfold State.timeDeliver
  split
  · exact h.hearProbe
  · exact h.hearReply
  · exact h

/-! ### MACs and NICs -/

theorem macM {n : Nat} {g : MacSt → MacSt} (h : Grows s t) : Grows s (t.macM n g) := h

theorem nicM {f : Nat} {g : NicSt → NicSt} (h : Grows s t) : Grows s (t.nicM f g) := h

theorem macDeliver {c : TunCtx} {f : Frame} (h : Grows s t) : Grows s (t.macDeliver c f) := h.bump.ite (h.bump.ite h.macM)

theorem setMacLink {n : Nat} {up : Bool} {speed : Nat} (h : Grows s t) : Grows s (t.setMacLink n up speed) := by
  unfold State.setMacLink
  extract_lets _ u
  have hu : Grows s u := h.putBit
  exact (hu.put.ite hu).raiseWith

theorem writeEthCtrl {n : Nat} {v : Word} (h : Grows s t) : Grows s (t.writeEthCtrl n v) := by
  unfold State.writeEthCtrl
  extract_lets u
  have hu : Grows s u := h.wr
  exact hu.setMacLink.ite hu

theorem writeMdio {v : Word} (h : Grows s t) : Grows s (t.writeMdio v) := h.wr.ite (h.bump.ite h.wr.emit)

theorem nicRefresh (h : Grows s t) : Grows s t.nicRefresh := by
  unfold State.nicRefresh
  split
  · exact h
  · refine h.foldl _ fun _ _ ha => ?_
    extract_lets _ _ _ u
    have hu : Grows s u := ha.putBit.putBit.putBit.put
    exact hu.ite hu.raise.msix

theorem hearLink {r : EvRec} (h : Grows s t) : Grows s (t.hearLink r) := by
  unfold State.hearLink
  dsimp only
  split
  · split
    · exact h.nicM.nicRefresh
    · exact h
  · exact h

theorem setNicQ {f : Nat} {x : NicQ} (h : Grows s t) : Grows s (t.setNicQ f x) := h.nicM

theorem writeNicCfg {f : Nat} {tx : Bool} {q : Nat} {v : Word} (h : Grows s t) : Grows s (t.writeNicCfg f tx q v) := by
  unfold State.writeNicCfg
  split
  · extract_lets u
    have hu : Grows s u := h.wr
    exact hu.wr.setNicQ.ite (((hu.offerGone.ite hu).setNicQ).ite hu)
  · exact h.tally

theorem nicDoorbell {f : Nat} {tx : Bool} {q : Nat} {v : Word} {bufs : List NicBuf}
    (h : Grows s t) : Grows s (t.nicDoorbell f tx q v bufs) := by
  unfold State.nicDoorbell
  extract_lets +onlyGivenNames _
  split
  · exact h.tally
  · extract_lets +onlyGivenNames u
    have hu : Grows s u := h.put
    exact hu.ite hu.setNicQ

theorem nicWriteback {f : Nat} {tx : Bool} {q status len hash : Nat} {stamp : Int} {flags : Nat}
    (h : Grows s t) : Grows s (t.nicWriteback f tx q status len hash stamp flags) := by
  unfold State.nicWriteback
  extract_lets _ _ u
  have hu : Grows s u := h.emits.emit.setNicQ.addMod
  exact hu.msix.ite hu

theorem nicDeliver {c : TunCtx} {fr : Frame} (h : Grows s t) : Grows s (t.nicDeliver c fr).1 := by
  unfold State.nicDeliver
  extract_lets +onlyGivenNames _
  split
  · exact h.bump
  · split
    · exact h
    · split
      · split
        · exact h.bump.fst_ite h
        · extract_lets +onlyGivenNames _ u
          have hu : Grows s u := h.setNicQ
          exact hu.nicWriteback.fst_ite hu.emit.nicWriteback

/-! ### Capture -/

theorem srcM {k : Nat} {g : SrcSt → SrcSt} (h : Grows s t) : Grows s (t.srcM k g) := h

theorem pushWriteback {k status : Nat} (h : Grows s t) : Grows s (t.pushWriteback k status) := by
  unfold State.pushWriteback
  extract_lets _ _ u v
  have hu : Grows s u := h.emit.emit
  have hv : Grows s v := hu.srcM.addMod
  exact hv.msix.ite hv

theorem pushEnded {k : Nat} (h : Grows s t) : Grows s (t.pushEnded k) := h.srcM.pushWriteback.ite h

theorem srcOpened {k : Nat} (h : Grows s t) : Grows s (t.srcOpened k) := h.pushEnded.srcM.put

theorem srcClosed {k : Nat} (h : Grows s t) : Grows s (t.srcClosed k) := h.pushEnded.srcM

theorem sendRxIds {k : Nat} (h : Grows s t) : Grows s (t.sendRxIds k) := h.emit.ite h

theorem setInHdcp {k st : Nat} (h : Grows s t) : Grows s (t.setInHdcp k st) := by
  unfold State.setInHdcp
  split
  · exact h
  · extract_lets u
    have hu : Grows s u := h.putBit.srcM
    exact (hu.ite hu.sendRxIds).raise

theorem showEdid {k : Nat} {old : List (BitVec 8)} (h : Grows s t) : Grows s (t.showEdid k old) := h.emit.ite h

theorem writeDscCtrl {k : Nat} {v : Word} (h : Grows s t) : Grows s (t.writeDscCtrl k v) := by
  unfold State.writeDscCtrl
  split
  · exact h
  · extract_lets u _ v w x y
    have hu : Grows s u := h.wr
    have hv : Grows s v := hu.ite hu.emit
    have hw : Grows s w := hv.emit.ite hv
    have hx : Grows s x := hw.emit.ite hw
    have hy : Grows s y := hx.setInHdcp.ite hx
    exact hy.emit.ite hy

theorem writeInval {k : Nat} {v : Word} (h : Grows s t) : Grows s (t.writeInval k v) := h.srcM.ite h

theorem writePushCfg {k : Nat} {v : Word} (h : Grows s t) : Grows s (t.writePushCfg k v) := by
  unfold State.writePushCfg
  split
  · exact h.tally
  · extract_lets u
    have hu : Grows s u := h.wr
    exact hu.wr.srcM.ite hu

theorem pushDoorbell {k : Nat} {v : Word} (h : Grows s t) : Grows s (t.pushDoorbell k v) := h.tally.ite h.put

theorem hearRefresh {k : Nat} (h : Grows s t) : Grows s (t.hearRefresh k) := by
  unfold State.hearRefresh
  extract_lets u
  have hu : Grows s u := h.raise
  exact hu.srcM.ite hu.raise

theorem hearSink {k : Nat} {b : List (BitVec 8)} (h : Grows s t) : Grows s (t.hearSink k b) := by
  unfold State.hearSink
  extract_lets +onlyGivenNames u
  have hu : Grows s u := h.srcM
  split
  · extract_lets +onlyGivenNames _ v
    have hv : Grows s v := (hu.foldl _ fun _ _ ha => ha.put).showEdid
    exact hv.emit.ite hv
  · exact hu

theorem hearRxIds {k : Nat} (h : Grows s t) : Grows s (t.hearRxIds k) := h.sendRxIds.ite h

theorem srcRecord {k : Nat} {bytes : List (BitVec 8)} (h : Grows s t) : Grows s (t.srcRecord k bytes) := by
  unfold State.srcRecord
  split
  · exact h.hearRefresh.ite h.bump
  · exact h.hearSink.ite h.bump
  · exact h.srcM.hearRxIds.ite h.bump
  · exact h.bump

/-! ### Display outputs -/

theorem doutM {k : Nat} {g : OutSt → OutSt} (h : Grows s t) : Grows s (t.doutM k g) := h

theorem outBits {k : Nat} (h : Grows s t) : Grows s (t.outBits k) := h.putBit.putBit.putBit

theorem outRecord {k type : Nat} {body : List (BitVec 8)} (h : Grows s t) : Grows s (t.outRecord k type body) := by
  unfold State.outRecord
  split
  · exact h.ingress
  · exact h

theorem sendRefresh {k cause : Nat} (h : Grows s t) : Grows s (t.sendRefresh k cause) := h.trans (Spares.refl t).sendRefresh.grows

theorem outErr {k err : Nat} (h : Grows s t) : Grows s (t.outErr k err) := h.put.raise

theorem outState {k : Nat} (h : Grows s t) : Grows s (t.outState k) := by
  unfold State.outState
  extract_lets u
  have hu : Grows s u := h.putBit
  split
  · exact hu.put
  · split
    · exact hu.put
    · exact hu.put.ite hu.put.put.put

theorem setHdcp {k st : Nat} (h : Grows s t) : Grows s (t.setHdcp k st) := h.ite h.put.putBit.raise

theorem startHdcp {k : Nat} (h : Grows s t) : Grows s (t.startHdcp k) := by
  unfold State.startHdcp
  split
  · exact h.setHdcp
  · split
    · exact h.setHdcp
    · split
      · exact h.setHdcp
      · exact h.outRecord.setHdcp

theorem setTiming {k : Nat} {t' : OutTiming} (h : Grows s t) : Grows s (t.setTiming k t') := h.wr.wr.wr.wr.wr

theorem dropGenlock {k : Nat} (h : Grows s t) : Grows s (t.dropGenlock k) := by
  unfold State.dropGenlock
  extract_lets u
  have hu : Grows s u := h.put.put
  exact hu.raise.ite hu

theorem latchHeld {k : Nat} {v : Word} (h : Grows s t) : Grows s (t.latchHeld k v) := h.doutM.ite h

theorem writeOutCtrl {k : Nat} {v : Word} {timing : Option OutTiming} (h : Grows s t) : Grows s (t.writeOutCtrl k v timing) := by
  unfold State.writeOutCtrl
  split
  · exact h
  · extract_lets +onlyGivenNames _ u
    have hu : Grows s u := h.sendRefresh.ite h
    split
    · extract_lets +onlyGivenNames v
      have hv : Grows s v := by
        unfold v
        split
        · exact hu.setTiming.ite hu
        · exact hu
      split
      · exact hu.outErr
      · extract_lets +onlyGivenNames w x
        have hw : Grows s w := hv.latchHeld.wr.put.doutM.outState
        have hx : Grows s x := by
          unfold x
          split
          · exact hw.raise
          · exact hw
        exact hx.sendRefresh.startHdcp
    · split
      · exact hu.outErr
      · extract_lets +onlyGivenNames _ v w
        have hv : Grows s v := hu.latchHeld.wr.outState
        have hw : Grows s w := hv.dropGenlock.ite hv
        exact hw.ite hw.startHdcp

theorem judgeMode {k : Nat} (h : Grows s t) : Grows s (t.judgeMode k) := by
  unfold State.judgeMode
  extract_lets _ _ u
  have hu : Grows s u := h.doutM
  exact hu.outErr.ite hu.put

theorem hearMode {k : Nat} {m : PicMode} (h : Grows s t) : Grows s (t.hearMode k m) := by
  unfold State.hearMode
  extract_lets +onlyGivenNames _
  split
  · exact h.doutM
  · extract_lets +onlyGivenNames u v
    have hu : Grows s u := h.doutM.outBits
    have hv : Grows s v := hu.sendRefresh
    exact hv.ite hv.judgeMode

theorem hearPps {k : Nat} {b : List (BitVec 8)} (h : Grows s t) : Grows s (t.hearPps k b) := by
  unfold State.hearPps
  extract_lets u
  have hu : Grows s u := h.doutM
  exact hu.judgeMode.ite hu

theorem hearFrameEnd {k : Nat} {b : List (BitVec 8)} (h : Grows s t) : Grows s (t.hearFrameEnd k b).1 := by
  unfold State.hearFrameEnd
  extract_lets +onlyGivenNames _
  split
  · exact h
  · extract_lets +onlyGivenNames _ _ u v
    have hu : Grows s u := h.bump.ite h
    have hv : Grows s v := hu.doutM.outBits
    split
    · extract_lets +onlyGivenNames w
      have hw : Grows s w := hv.bump
      exact hw.doutM.raise.fst_ite hw
    · exact hv

theorem outHear {k : Nat} {bytes : List (BitVec 8)} (h : Grows s t) : Grows s (t.outHear k bytes).1 := by
  unfold State.outHear
  split
  · exact h.hearMode.fst_ite h.bump
  · exact (h.fst_ite h.hearFrameEnd).fst_ite h.bump
  · exact h.doutM.fst_ite h.bump
  · exact h.hearPps.fst_ite h.bump
  · exact h.bump

theorem storeTile {slot : Nat} {words : List Word} {prot : Bool} (h : Grows s t) : Grows s (t.storeTile slot words prot) :=
  h.ite h

theorem decodeError {k tid : Nat} (h : Grows s t) : Grows s (t.decodeError k tid) := h.doutM.bump.raiseWith.sendRefresh

theorem placeTile {k tid : Nat} {hdr data : List (BitVec 8)} (h : Grows s t) : Grows s (t.placeTile k tid hdr data) := by
  unfold State.placeTile
  dsimp only
  split
  · exact h.decodeError
  · split
    · exact h.doutM.storeTile.outBits
    · exact h
    · exact h.decodeError

theorem outFragment {k tid : Nat} {b : List (BitVec 8)} {last : Bool} (h : Grows s t) : Grows s (t.outFragment k tid b last).1 :=
  h.fst_ite (h.decodeError.fst_ite (h.fst_ite (h.placeTile.fst_ite h.doutM)))

theorem displayDeliver {c : TunCtx} {f : Frame} (h : Grows s t) : Grows s (t.displayDeliver c f).1 :=
  (h.srcRecord.fst_ite h.bump).fst_ite (h.outFragment.fst_ite h.outHear)

theorem outOpened {k : Nat} (h : Grows s t) : Grows s (t.outOpened k) := h.doutM.outBits.sendRefresh

theorem outMoved {k : Nat} (h : Grows s t) : Grows s (t.outMoved k) := h.doutM.outBits

theorem outArrived {k : Nat} (h : Grows s t) : Grows s (t.outArrived k) := by
  unfold State.outArrived
  extract_lets u
  have hu : Grows s u := h.outMoved
  exact hu.sendRefresh.ite hu

/-! ### PCIe tunnels -/

theorem pcieSend {m : TunCtx} {bytes : List (BitVec 8)} {last : Bool} (h : Grows s t) : Grows s (t.pcieSend m bytes last) :=
  h.ingress

theorem synthesize {lead pos : Nat} {hdr : List (BitVec 8)} {status owed : Nat}
    (h : Grows s t) : Grows s (t.synthesize lead pos hdr status owed) := by
  unfold State.synthesize
  split
  · exact h
  · exact h.pcieSend.bump.raise

theorem unexpected {tid : Nat} (h : Grows s t) : Grows s (t.unexpected tid) := by
  unfold State.unexpected
  extract_lets u
  have hu : Grows s u := h.bump
  exact hu.pcxM.raise.ite hu

theorem abortBundle {lead : Nat} (h : Grows s t) : Grows s (t.abortBundle lead) :=
  ((h.foldl _ fun _ _ ha => (ha.emit.ite ha).raise).pcxM).tunM

theorem logDiscard {slot addr len cause : Nat} (h : Grows s t) : Grows s (t.logDiscard slot addr len cause) :=
  h.put.put.put.put.put.put.put.put.bump.raise

theorem discardBuf {b : RaBuf} {cause : Nat} (h : Grows s t) : Grows s (t.discardBuf b cause) := by
  unfold State.discardBuf
  split
  · exact h.logDiscard
  · exact h

theorem discardBufs {test : RaBuf → Bool} {cause : Nat} (h : Grows s t) : Grows s (t.discardBufs test cause) :=
  h.pcxM.foldl _ fun _ _ ha => ha.discardBuf

theorem fillBuf {slot addr : Nat} {bytes : List (BitVec 8)} (h : Grows s t) : Grows s (t.fillBuf slot addr bytes) := by
  unfold State.fillBuf
  split
  · exact h
  · split
    · exact h.pcxM
    · extract_lets u
      have hu : Grows s u := by
        unfold u
        split
        · exact h
        · split
          · exact h.pcxM.discardBuf
          · exact h
      exact hu.pcxM

theorem postedFail {c : TunCtx} {reason : Nat} {bytes : List (BitVec 8)}
    (h : Grows s t) : Grows s (t.postedFail c reason bytes) := by
  unfold State.postedFail
  extract_lets +onlyGivenNames _ _ _ _ u v
  have hu : Grows s u := h.put.put.put.put.put.put.put.put.put.put.bump
  have hv : Grows s v := hu.raise
  split
  · exact hv
  · split
    · exact hv.pcxM.pcieSend
    · extract_lets +onlyGivenNames w
      have hw : Grows s w := hv.bump
      exact hw.pcxM.raise.ite hw

theorem aheadArrive {o : ReqOut} {bytes : List (BitVec 8)} (h : Grows s t) : Grows s (t.aheadArrive o bytes) := by
  unfold State.aheadArrive
  extract_lets _ _ _ _ _ _ u
  have hu : Grows s u := (h.emit.ite h).ite h.emit
  exact hu.ite (hu.logDiscard.ite hu.fillBuf)

theorem cplFromFabric {c : TunCtx} {bytes : List (BitVec 8)} (h : Grows s t) : Grows s (t.cplFromFabric c bytes) := by
  unfold State.cplFromFabric
  dsimp only
  split
  · exact h.unexpected
  · exact (h.emit.ite h.aheadArrive).pcxM

theorem acsLog {c : TunCtx} {bytes : List (BitVec 8)} (h : Grows s t) : Grows s (t.acsLog c bytes) := h.portError

theorem postedFromFabric {c : TunCtx} {bytes : List (BitVec 8)} (h : Grows s t) : Grows s (t.postedFromFabric c bytes) :=
  h.postedFail.ite (h.postedFail.ite (h.acsLog.ite h.emit))

theorem requestFromFabric {c : TunCtx} {bytes : List (BitVec 8)} (h : Grows s t) : Grows s (t.requestFromFabric c bytes) :=
  h.synthesize.ite (h.acsLog.synthesize.ite h.pcxM.emit)

theorem refreshWake (h : Grows s t) : Grows s t.refreshWake := h.ite h.pcxM.emit

theorem hearSummary {c : TunCtx} {bytes : List (BitVec 8)} (h : Grows s t) : Grows s (t.hearSummary c bytes) := by
  have hask : ∀ u : State, Grows s u → Grows s (if u.isHost then u.pcxRefresh.refreshWake else u) := fun _ hu =>
    hu.pcxRefresh.refreshWake.ite hu
  unfold State.hearSummary
  dsimp only
  refine ite (ite ((hask _ h.pcxM).foldl _ fun _ _ ha => ?_) (hask _ h.pcxM)) h
  split
  · exact ha.emit.emit.ite ha
  · exact ha

theorem hearNotice {c : TunCtx} {bytes : List (BitVec 8)} (h : Grows s t) : Grows s (t.hearNotice c bytes) :=
  h.raise.portError.ite h

theorem hearSideband {c : TunCtx} {bytes : List (BitVec 8)} (h : Grows s t) : Grows s (t.hearSideband c bytes) := by
  unfold State.hearSideband
  split
  · exact h.hearSummary
  · exact h.hearNotice
  · exact h

theorem pcieDeliver {c : TunCtx} {bytes : List (BitVec 8)} (h : Grows s t) : Grows s (t.pcieDeliver c bytes) := by
  unfold State.pcieDeliver
  split
  · exact h.postedFromFabric
  · exact h.requestFromFabric
  · exact h.cplFromFabric
  · exact h.hearSideband

/-! ### Rings -/

theorem dropHeld {n : Nat} (h : Grows s t) : Grows s (t.dropHeld n) := (h.foldl _ fun _ _ ha => ha.bump).setRing

theorem enableRing {n : Nat} {v : Word} (h : Grows s t) : Grows s (t.enableRing n v) := h.wr.wr.setRing.flushCpl

theorem disableRing {n : Nat} {v : Word} (h : Grows s t) : Grows s (t.disableRing n v) := by
  unfold State.disableRing
  extract_lets u
  have hu : Grows s u := h.dropHeld.wr
  exact hu.offerGone.ite hu

theorem writeRcfg {n : Nat} {v : Word} (h : Grows s t) : Grows s (t.writeRcfg n v) :=
  h.enableRing.ite (h.disableRing.ite (h.wr.ite h.tally))

/-! ### Host data -/

theorem descBack {n status len : Nat} (h : Grows s t) : Grows s (t.descBack n status len) := h.emit.emit

theorem dataOutBack {n status len : Nat} (h : Grows s t) : Grows s (t.dataOutBack n status len) := h.descBack.emit.ringStep

theorem dataInBack {n status len eseq src ns : Nat} (h : Grows s t) : Grows s (t.dataInBack n status len eseq src ns) := by
  unfold State.dataInBack
  extract_lets u v _ w
  have hu : Grows s u := h.emit
  have hv : Grows s v := hu.descBack.emit.ringStep
  have hw : Grows s w := hv.setRing
  exact hw.signal.ite hw

theorem flushDataIn {n status : Nat} (h : Grows s t) : Grows s (t.flushDataIn n status) :=
  (h.foldl _ fun _ _ ha => ha.dataInBack).ite h

theorem flushDataOut {n status : Nat} (h : Grows s t) : Grows s (t.flushDataOut n status) :=
  (h.foldl _ fun _ _ ha => ha.dataOutBack).ite h

theorem hostDeliver {c : TunCtx} {q : QFrame} (h : Grows s t) : Grows s (t.hostDeliver c q).1 := by
  unfold State.hostDeliver
  extract_lets _ _ _ u
  have hu : Grows s u := h.ite h.flushDataIn
  split
  · exact hu.statDrop.fst_ite hu
  · exact hu.dataInBack.fst_ite hu.emit.dataInBack

theorem handed {p : State × Bool} (h : Grows s p.1) : Grows s (handed p).1 := h

theorem handOver {c : TunCtx} {q : QFrame} (h : Grows s t) : Grows s (t.handOver c q).1 := by
  unfold State.handOver
  dsimp only
  split
  · exact h.pcieDeliver
  · exact handed h.displayDeliver
  · exact handed h.displayDeliver
  · exact h.macDeliver
  · exact handed h.nicDeliver
  · exact h.timeDeliver
  · exact h.hostDeliver
  · exact h

theorem countDeliver {idx len : Nat} {h' : Handed} (h : Grows s t) : Grows s (t.countDeliver idx len h') := h.statM.ite h

theorem deliver {c : TunCtx} {q : QFrame} (h : Grows s t) : Grows s (t.deliver c q) := by
  unfold State.deliver
  have hover : Grows s (if c.waiting = [] then t.handOver c q else (t, .waits)).1 := h.handOver.fst_ite h
  split
  next hm => exact (hover.of_fst hm).ctxM
  next hm => exact (hover.of_fst hm).countDeliver.release

theorem flushWaiting {n idx : Nat} (h : Grows s t) : Grows s (t.flushWaiting n idx) := by
  induction n generalizing t with
  | zero => exact h
  | succ n ih =>
    unfold State.flushWaiting
    split
    · exact h
    · split
      · exact h
      · split
        next hm => exact h.handOver.of_fst hm
        next hm => exact ih (h.handOver.of_fst hm).ctxM.countDeliver.release

theorem freeCopies {idx eseq : Nat} (h : Grows s t) : Grows s (t.freeCopies idx eseq) := by
  unfold State.freeCopies
  split
  · exact h
  · split
    · exact h
    · exact h.ctxM.flushAllHeld

theorem arriveLocal {q : QFrame} (h : Grows s t) : Grows s (t.arriveLocal q) := by
  unfold State.arriveLocal
  split
  · exact h
  · split
    · exact h
    · split
      · exact h
      · exact h.ite (h.ctxM.freeCopies.deliver.ite h)

theorem passDrift {n : Nat} (h : Grows s t) : Grows s (State.passDrift n t) := by
  induction n generalizing t with
  | zero => exact h
  | succ n ih =>
    unfold State.passDrift
    split
    · exact h
    · exact ih h.tunM.arriveLocal

theorem flushLoop (h : Grows s t) : Grows s t.flushLoop := h.passDrift

theorem readSegs {d : DataOut} (h : Grows s t) : Grows s (t.readSegs d) := h.emits

end Sys2Proof.Proofs.Grows
end

section
/-! SUPPORT. What has been sent stays sent: tunnels and hot plug. -/

namespace Sys2Proof.Proofs.Grows

open Sys2Proof.Machine Sys2Proof.Laws

variable {s t : State}

/-! ### Tunnels -/

theorem endsChanged (h : Grows s t) : Grows s t.endsChanged := h.pcxRefresh.nicRefresh.refreshWake

theorem dropHeldFrames {c : TunCtx} (h : Grows s t) : Grows s (t.dropHeldFrames c) := (h.foldl _ fun _ _ ha => ha.noTunnel).ctxM

theorem unbindRings {c : TunCtx} (h : Grows s t) : Grows s (t.unbindRings c) := h.flushDataOut.flushDataIn

theorem forgetFarMac {c : TunCtx} (h : Grows s t) : Grows s (t.forgetFarMac c) := h.nicM.ite h

theorem endClosed {c : TunCtx} (h : Grows s t) : Grows s (t.endClosed c) := by
  unfold State.endClosed
  split
  · split
    · extract_lets u
      have hu : Grows s u := h.abortBundle
      exact hu.discardBufs.slotM.ite hu
    · exact h.pcxM
  · exact h.srcClosed
  · exact h.outMoved
  · exact h.forgetFarMac
  · exact h.timM.ite h
  · exact h.unbindRings
  · exact h

theorem endOpened {c : TunCtx} (h : Grows s t) : Grows s (t.endOpened c) := by
  unfold State.endOpened
  split
  · exact h.srcOpened
  · exact h.outOpened
  · exact h

theorem endArrived {c : TunCtx} (h : Grows s t) : Grows s (t.endArrived c) := h.outArrived.ite h.endOpened

theorem forgetSummary {c : TunCtx} (h : Grows s t) : Grows s (t.forgetSummary c) := h.pcxM.ite h

theorem endMoved {c : TunCtx} (h : Grows s t) : Grows s (t.endMoved c) := by
  unfold State.endMoved
  split
  · exact h.abortBundle.ite h.forgetSummary
  · exact h.srcOpened
  · exact h.outMoved.flushWaiting
  · exact h.forgetFarMac.nicRefresh
  · exact h

theorem freeCtxOf {c : TunCtx} (h : Grows s t) : Grows s (t.freeCtxOf c) :=
  ((((h.dropHeldFrames.endClosed.ite h).foldl _ fun _ _ ha => ha.dropQueued).foldl _ fun _ _ ha => ha.release).tunM).endsChanged

theorem removeTid {tid : Nat} (h : Grows s t) : Grows s (t.removeTid tid) := h.foldl _ fun _ _ ha => ha.freeCtxOf

theorem rewriteCtx {c : TunCtx} {pos : Nat} {p : TunPar} {q : Option Seqs}
    (h : Grows s t) : Grows s (t.rewriteCtx c pos p q) := by
  unfold State.rewriteCtx
  extract_lets _ _ u v w
  have hu : Grows s u := h.dropHeldFrames.endClosed.ite (h.unbindRings.ite h)
  have hv : Grows s v := hu.ctxM
  have hw : Grows s w := hv.endMoved.ite hv
  exact hw.tunEvent.ite hw

theorem installAt {p : TunPar} {pos : Nat} {q : Option Seqs} {renew : Bool}
    (h : Grows s t) : Grows s (t.installAt p pos q renew).1 := by
  unfold State.installAt
  extract_lets +onlyGivenNames _
  split
  · exact h.rewriteCtx
  · split
    · exact h
    · extract_lets +onlyGivenNames u
      have hu : Grows s u := h.tunM
      exact hu.tunEvent.ite hu

theorem installHere {p : TunPar} {qa qb : Option Seqs} {renew : Bool} (h : Grows s t) :
    Grows s (t.installHere p qa qb renew).1 := by
  unfold State.installHere
  split
  · exact h
  · extract_lets +onlyGivenNames _ u _ _
    have hu : Grows s u := h.ite h.removeTid
    split
    next hm =>
      have hv := of_fst (fstFoldl (p := (u, 0, 0, 0)) hu _ fun ⟨_, _, _, _⟩ _ ha => ha.installAt) hm
      extract_lets w
      have hw : Grows s w := hv.foldl _ fun _ _ ha => ha.freeCtxOf
      exact hw.fst_ite (hw.fst_ite hw.removeTid)

theorem activateCtx {c : TunCtx} {fresh : Bool} (h : Grows s t) : Grows s (t.activateCtx c fresh) := by
  unfold State.activateCtx
  extract_lets _ u v w x
  have hu : Grows s u := h.ctxM
  have hv : Grows s v := hu.forgetSummary.ite hu
  have hw : Grows s w := hv.tunEvent.ite hv
  have hx : Grows s x := hw.tunEvent.ite hw
  exact (((hx.endOpened.ite hx.endArrived).ite hx).pauseOne).flushHeld

theorem activateTid {tid : Nat} {fresh : Bool} (h : Grows s t) : Grows s (t.activateTid tid fresh) :=
  (h.foldl _ fun _ _ ha => ha.activateCtx).endsChanged

theorem quiesceTid {tid : Nat} (h : Grows s t) : Grows s (t.quiesceTid tid) := h.tunM.endsChanged

theorem closeCtx {c : TunCtx} (h : Grows s t) : Grows s (t.closeCtx c) := h.dropHeldFrames.ctxM.endClosed.tunEvent

theorem closeTid {tid : Nat} (h : Grows s t) : Grows s (t.closeTid tid) := (h.foldl _ fun _ _ ha => ha.closeCtx).endsChanged

theorem grantTid {tid fid : Nat} (h : Grows s t) : Grows s (t.grantTid tid fid) := by
  unfold State.grantTid
  refine h.foldl _ fun _ _ ha => ?_
  extract_lets _ _ u
  have hu : Grows s u := ha.ctxM.tunEvent
  exact hu.flushDataOut.flushDataIn.ite hu

theorem sendMap {to_ : List Nat} {full last : Bool} {tids : List MapEntry} {binds : List Binding}
    (h : Grows s t) : Grows s (t.sendMap to_ full last tids binds) :=
  h.ite h.tunM.emits

theorem mirrorTid {tid : Nat} (h : Grows s t) : Grows s (t.mirrorTid tid) := h.sendMap

theorem releaseTid {tid : Nat} {left : List Nat} (h : Grows s t) : Grows s (t.releaseTid tid left) := by
  unfold State.releaseTid
  split
  · exact h
  · split
    · extract_lets u
      have hu : Grows s u := h.tunM.mirrorTid
      exact hu.ite hu.tunEvent
    · exact h.tunM

theorem tunDone {who : TunFor} {code : Nat} {result : BitVec 448} (h : Grows s t) : Grows s (t.tunDone who code result) := by
  unfold State.tunDone
  split
  · exact h.finish
  · exact h.pcxM

theorem toAll {ds : List Nat} {m : Msg} {here : State → State}
    (h : Grows s t) (hhere : ∀ u, Grows s u → Grows s (here u)) : Grows s (t.toAll ds m here) :=
  h.foldl _ fun _ _ ha => (hhere _ ha).ite ha.emit

theorem installOne {p : TunPar} {qa qb : Option Seqs} {renew : Bool} {ans : List DevAns} {d : Nat}
    (h : Grows s t) : Grows s (t.installOne p qa qb renew ans d).1 := by
  unfold State.installOne
  split
  · exact h.installHere
  · extract_lets u
    have hu : Grows s u := h.emit
    split
    · exact hu
    · exact hu

theorem installAll {p : TunPar} {qa qb : Option Seqs} {renew : Bool} {ans : List DevAns} {ds : List Nat}
    (h : Grows s t) : Grows s (t.installAll p qa qb renew ans ds).1 :=
  h.fstFoldl _ fun _ _ ha => ha.installOne

theorem removeAll {tid : Nat} {ans : List DevAns} {ds : List Nat} (h : Grows s t) : Grows s (t.removeAll tid ans ds).1 :=
  h.toAll fun _ ha => ha.removeTid

theorem openGo {who : TunFor} {p : TunPar} {ans : List DevAns} (h : Grows s t) : Grows s (t.openGo who p ans) := by
  unfold State.openGo
  extract_lets +onlyGivenNames _
  split
  · exact h.tunDone
  · extract_lets +onlyGivenNames u
    have hu : Grows s u := h.tunM.mirrorTid
    split
    next hm =>
      have hv := hu.installAll.of_fst hm
      dsimp only
      split
      · exact hv.removeAll.releaseTid.tunDone
      · split
        · exact (hv.toAll fun _ ha => ha.activateTid).removeAll.releaseTid.tunDone
        · exact (hv.toAll fun _ ha => ha.activateTid).tunDone

theorem openWith {who : TunFor} {p : TunPar} {ans : List DevAns} (h : Grows s t) : Grows s (t.openWith who p ans) := by
  unfold State.openWith
  split
  · exact h.tunDone
  · split
    · exact h.tunDone
    · split
      · exact h.tunDone
      · exact h.openGo

theorem doOpen {who : TunFor} {target : Nat} {ops : BitVec 448} {ans : List DevAns}
    (h : Grows s t) : Grows s (t.doOpen who target ops ans) :=
  h.tunDone.ite h.openWith

theorem closeOne {tid : Nat} {ans : List DevAns} (h : Grows s t) : Grows s (t.closeOne tid ans).1 := by
  unfold State.closeOne
  split
  · exact h
  · exact ((h.toAll fun _ ha => ha.closeTid).removeAll).releaseTid

theorem closeGo {who : TunFor} {tid : Nat} {ans : List DevAns} (h : Grows s t) : Grows s (t.closeGo who tid ans) := by
  unfold State.closeGo
  split
  next hm => exact (Grows.of_fst (h.fstFoldl (p := (t, 0)) _ fun ⟨_, _⟩ _ ha => ha.closeOne) hm).tunDone

theorem toEnds {tid : Nat} {m : Nat → Msg} {here : Nat → State → State}
    (h : Grows s t) (hhere : ∀ c u, Grows s u → Grows s (here c u)) : Grows s (t.toEnds tid m here) := by
  unfold State.toEnds
  refine h.foldl _ fun _ _ ha => ?_
  split
  · exact ha.toAll fun _ hb => hhere _ _ hb
  · exact ha

theorem quiesceAll {tid : Nat} (h : Grows s t) : Grows s (t.quiesceAll tid) := h.toEnds fun _ _ ha => ha.quiesceTid

theorem tunFail {who : TunFor} {reason : Nat} (h : Grows s t) : Grows s (t.tunFail who reason) := h.tunDone

theorem doClose {who : TunFor} {target tid : Nat} {drain : Bool} {ans : List DevAns}
    (h : Grows s t) : Grows s (t.doClose who target tid drain ans) := by
  unfold State.doClose
  split
  · exact h.tunFail
  · split
    · exact h.tunFail
    · split
      · exact h.tunFail
      · split
        · exact h.tunFail
        · extract_lets u
          have hu : Grows s u := h.quiesceAll
          exact hu.tunM.ite hu.closeGo

theorem doRetarget {w : TunWait} {target end_ : Nat} (h : Grows s t) : Grows s (t.doRetarget w target end_) := by
  unfold State.doRetarget
  split
  · exact h.tunFail
  · split
    · exact h.tunFail
    · split
      · exact h.tunFail
      · split
        · exact h.tunFail
        · split
          · exact h.tunFail
          · split
            · exact h.tunFail
            · exact h.tunDone
            · exact h.quiesceAll.tunM

theorem doGrant {who : TunFor} {target tid to_ : Nat} {revoke : Bool}
    (h : Grows s t) : Grows s (t.doGrant who target tid to_ revoke) := by
  unfold State.doGrant
  split
  · exact h.tunFail
  · split
    · exact h.tunFail
    · split
      · exact h.tunFail
      · exact h.tunFail.ite ((((h.toAll fun _ ha => ha.grantTid).tunM).mirrorTid).tunDone)

theorem tunStart {x : TunNext} (h : Grows s t) : Grows s (t.tunStart x) := by
  unfold State.tunStart
  dsimp only
  split
  · exact h.tunDone
  · split
    · exact h.doOpen
    · exact h.doClose
    · exact h.doRetarget
    · exact h.doGrant
    · exact h.doGrant

theorem tunResume {n : Nat} (h : Grows s t) : Grows s (State.tunResume n t) := by
  induction n generalizing t with
  | zero => exact h
  | succ n ih =>
    unfold State.tunResume
    split
    · exact h
    · exact ih h.tunM.tunStart

/-! ### Hot plug -/

theorem slotControl {fid id k field v : Nat} (h : Grows s t) : Grows s (t.slotControl fid id k field v) := by
  unfold State.slotControl
  extract_lets +onlyGivenNames _
  split
  · exact h
  · split
    · split
      · extract_lets +onlyGivenNames u
        have hu : Grows s u := h.slotM.slotIrq.pcxM
        exact hu.ite hu.answerAsks
      · exact h.slotM.pcxM.tellSlot
    · exact h.slotM.refreshSlot
    · exact h.pcxM.answerAsks.ite h.pcxM
    · exact h.pcxM
    · exact h.slotM.ite h.slotM.tellSlot
    · exact h

theorem sendSlot {fid k field v : Nat} (h : Grows s t) : Grows s (t.sendSlot fid k field v) := by
  unfold State.sendSlot
  extract_lets u
  have hu : Grows s u := h.ctlM
  exact hu.slotControl.ite hu.emit

theorem hotEnds {h' : HotPlug} (h : Grows s t) : Grows s (t.hotEnds h') := by
  unfold State.hotEnds
  split
  · exact h
  · extract_lets u v
    have hu : Grows s u := h.ite h.sendSlot
    have hv : Grows s v := hu.sendSlot.ite hu
    exact hv.ite hv.sendSlot

theorem hotDone {h' : HotPlug} {code reason link : Nat} (h : Grows s t) : Grows s (t.hotDone h' code reason link) := by
  unfold State.hotDone
  extract_lets u v
  have hu : Grows s u := h.pcxM.hotEnds
  have hv : Grows s v := hu.finish
  exact hv.raise.ite hv

end Sys2Proof.Proofs.Grows
end

section
/-! SUPPORT. What has been sent stays sent: ports and what hangs on them. -/

namespace Sys2Proof.Proofs.Grows

open Sys2Proof.Machine Sys2Proof.Laws

variable {s t : State}

/-! ### Ports -/

theorem toDetect {p : Nat} (h : Grows s t) : Grows s (t.toDetect p) := h.put.portM

theorem leaveMode {p cause : Nat} (h : Grows s t) : Grows s (t.leaveMode p cause) := h.ite h.goDark.put.put.portM

theorem retrain {p : Nat} {fault : Bool} (h : Grows s t) : Grows s (t.retrain p fault) := by
  unfold State.retrain
  split
  · exact h
  · extract_lets u
    have hu : Grows s u := h.goDark.portM
    exact hu.toDetect.ite hu

theorem writeAdtCtrl {p : Nat} {v : Word} (h : Grows s t) : Grows s (t.writeAdtCtrl p v) := by
  unfold State.writeAdtCtrl
  split
  · exact h
  · extract_lets u
    have hu : Grows s u := h.wr
    exact (hu.ite hu.goDark).ite (hu.retrain.ite hu)

/-! ### USB -/

theorem usbM {g : UsbSt → UsbSt} (h : Grows s t) : Grows s (t.usbM g) := h

theorem fwEnd {st err : Nat} (h : Grows s t) : Grows s (t.fwEnd st err) := h.trans (Spares.refl t).fwEnd.grows

theorem usbFollow (h : Grows s t) : Grows s t.usbFollow := h.trans (Spares.refl t).usbFollow.grows

theorem usbHardReset {p : Nat} (h : Grows s t) : Grows s (t.usbHardReset p) := h.usbM.usbFollow.ite h

theorem usbChange {k b : Nat} (h : Grows s t) : Grows s (t.usbChange k b) := h.usbM

theorem usbShow {k : Nat} (h : Grows s t) : Grows s (t.usbShow k) := by
  unfold State.usbShow
  split
  · exact h.put.put.usbChange
  · exact h

theorem yalFollow (h : Grows s t) : Grows s t.yalFollow := h.ite (h.usbShow.ite h.put.put.put.put.put.put.usbChange.fwEnd)

/-! ### USB PD -/

theorem pdM {n : Nat} {g : PdSt → PdSt} (h : Grows s t) : Grows s (t.pdM n g) := h

theorem pdSend {n : Nat} {m : PdMsg} (h : Grows s t) : Grows s (t.pdSend n m) := h.emit

theorem pdGate {n : Nat} {on : Bool} (h : Grows s t) : Grows s (t.pdGate n on) := h.pdM.emit

theorem pdTerms {n : Nat} (h : Grows s t) : Grows s (t.pdTerms n) := h.trans (Spares.refl t).pdTerms.grows

theorem pdUnattach {n : Nat} (h : Grows s t) : Grows s (t.pdUnattach n) := h.trans (Spares.refl t).pdUnattach.grows

theorem pdOff {n : Nat} (h : Grows s t) : Grows s (t.pdOff n) := h.trans (Spares.refl t).pdOff.grows

theorem pdCaps {n : Nat} (h : Grows s t) : Grows s (t.pdCaps n) := h.pdM.pdSend

theorem pdApply {n : Nat} (h : Grows s t) : Grows s (t.pdApply n) := by
  unfold State.pdApply
  extract_lets u
  have hu : Grows s u := h.pdM
  exact hu.pdCaps.ite hu.pdSend

theorem pdHardReset {n : Nat} {received : Bool} (h : Grows s t) : Grows s (t.pdHardReset n received) := by
  unfold State.pdHardReset
  extract_lets +onlyGivenNames _
  split
  · exact h.bump.pdM
  · extract_lets +onlyGivenNames _ _ u v w x y z left
    have hu : Grows s u := h.bump.raise
    have hv : Grows s v := hu.ite hu.pdSend
    have hw : Grows s w := hv.leaveMode.ite hv
    have hx : Grows s x := hw.putBit.putBit.put.put.wr
    have hy : Grows s y := hx.pdM
    have hz : Grows s z := hy.put
    have hleft : Grows s left := hz.usbHardReset
    exact (hleft.ite hleft.pdGate).ite hleft.pdOff.put.pdM.emit.raise

theorem writePdCtrl {n : Nat} {v : Word} (h : Grows s t) : Grows s (t.writePdCtrl n v) := by
  unfold State.writePdCtrl
  extract_lets +onlyGivenNames _ u _ _ x y _ left z
  have hu : Grows s u := h.wr
  have hx : Grows s x := hu.ite hu.pdM
  have hy : Grows s y := hx.ite (hx.pdM.ite hx.bump)
  have hleft : Grows s left := hy.leaveMode.ite hy
  have hz : Grows s z := hy.put.pdTerms.ite ((hleft.pdOff.raise.ite hleft).pdUnattach.usbFollow.ite (hy.pdTerms.ite hy))
  exact hz.pdHardReset.ite hz

theorem tableNew {n : Nat} {src : Bool} (h : Grows s t) : Grows s (t.tableNew n src) := by
  unfold State.tableNew
  extract_lets u
  have hu : Grows s u := by
    unfold u
    split
    · exact h.raise
    · exact h
  exact hu.pdM.bump.ite (hu.ite (hu.pdM.ite hu.pdApply))

theorem writePdo {n : Nat} {src : Bool} {k : Nat} {v : Word} (h : Grows s t) : Grows s (t.writePdo n src k v) := h.wr.tableNew

/-! ### Hewers -/

theorem setX {n rd : Nat} {v : Word} (h : Grows s t) : Grows s (t.setX n rd v) := h.ite h.coreM

theorem setA0 {n : Nat} {v : Word} (h : Grows s t) : Grows s (t.setA0 n v) := h.setX

theorem startHewers {entry : Nat} (h : Grows s t) : Grows s (t.startHewers entry) :=
  ((h.hewM.foldl _ fun _ _ ha => ha.put.put.put.coreM).put).put

theorem waitPoll (h : Grows s t) : Grows s t.waitPoll := by
  unfold State.waitPoll
  refine h.foldl _ fun _ _ ha => ?_
  split
  · exact ha.coreM.setA0.ite (ha.coreM.setA0.ite ha)
  · exact ha

theorem writeHwrCtrl {n : Nat} {v : Word} (h : Grows s t) : Grows s (t.writeHwrCtrl n v) := by
  unfold State.writeHwrCtrl
  split
  · exact h.bump
  · extract_lets u
    have hu : Grows s u := h.put
    exact hu.put.coreM.emit.ite hu

theorem writeGwin {n : Nat} {v : Word} (h : Grows s t) : Grows s (t.writeGwin n v) := h.bump.ite h.put.put

theorem writeMbctl {n : Nat} {v : Word} (h : Grows s t) : Grows s (t.writeMbctl n v) :=
  h.bump.ite (h.put.ite (h.bump.ite h.coreM.put.put.waitPoll))

end Sys2Proof.Proofs.Grows
end

section
/-! SUPPORT. What has been sent stays sent: schedules, power and carts. -/

namespace Sys2Proof.Proofs.Grows

open Sys2Proof.Machine Sys2Proof.Laws

variable {s t : State}

/-! ### Schedules -/

theorem stageBlock {b : Nat} {g : Staged} (h : Grows s t) : Grows s (t.stageBlock b g) := ite (put h) h.schM.put.put

theorem unstageCart {cart : Nat} (h : Grows s t) : Grows s (t.unstageCart cart) := by
  unfold State.unstageCart
  extract_lets u
  have hu : Grows s u := h.foldl _ fun _ _ ha => ha.schM.put.put.ite ha
  exact ite (put hu) hu

theorem clearHigh {p : Nat} (h : Grows s t) : Grows s (t.clearHigh p) := h.foldl _ fun _ _ ha => ha.wr

theorem writeObscfg {p : Nat} {v : Word} (h : Grows s t) : Grows s (t.writeObscfg p v) := by
  unfold State.writeObscfg
  extract_lets u
  have hu : Grows s u := h.put
  exact hu.clearHigh.ite hu

/-! ### Power -/

theorem pwrM {g : PwrSt → PwrSt} (h : Grows s t) : Grows s (t.pwrM g) := h

theorem hewWfi {ns : List Nat} {wfi : Bool} (h : Grows s t) : Grows s (t.hewWfi ns wfi) :=
  h.foldl _ fun _ _ ha => ha.put.coreM.ite ha

theorem setPend {p : Option Nat} (h : Grows s t) : Grows s (t.setPend p) := by
  unfold State.setPend
  extract_lets u
  have hu : Grows s u := by
    unfold u
    split
    · exact h.put.put
    · exact h.put.put
  exact hu.raise.ite hu

theorem beginExit {tgt : Nat} (h : Grows s t) : Grows s (t.beginExit tgt) := by
  unfold State.beginExit
  extract_lets u v
  have hu : Grows s u := h.put.put.pwrM
  have hv : Grows s v := hu.put.put
  exact hv.put.put.ite hv

theorem beginTarget {st : Nat} (h : Grows s t) : Grows s (t.beginTarget st) := h.beginExit.ite h.put.put.pwrM.hewWfi

theorem refusedBy {st blk : Nat} (h : Grows s t) : Grows s (t.refusedBy st blk) := h.put.put.put

theorem pwrRequest {st : Nat} (h : Grows s t) : Grows s (t.pwrRequest st).1 := by
  unfold State.pwrRequest
  dsimp only
  split
  · exact h
  · split
    · dsimp only
      exact h.setPend
    · split
      · split
        · exact h
        · split
          · exact h.refusedBy
          · dsimp only
            exact h.beginTarget
      · split
        · split
          · exact h.refusedBy
          · dsimp only
            exact (h.setPend.ite h).put.pwrM
        · dsimp only
          exact h.setPend

/-! ### Carts -/

theorem crtM {g : CrtSt → CrtSt} (h : Grows s t) : Grows s (t.crtM g) := h

theorem cartM {id : Nat} {g : CartCo → CartCo} (h : Grows s t) : Grows s (t.cartM id g) := h.crtM

theorem cslotM {coord id : Nat} {g : CartSlot → CartSlot} (h : Grows s t) : Grows s (t.cslotM coord id g) := h.crtM

theorem putSlot {c : CartSlot} (h : Grows s t) : Grows s (t.putSlot c) := h.cslotM

theorem dropSlot {c : CartSlot} (h : Grows s t) : Grows s (t.dropSlot c) := h.crtM

theorem cartSend {fid coord id t' : Nat} {b : CartBody} (h : Grows s t) : Grows s (t.cartSend fid coord id t' b) :=
  h.crtM.ite h.emit

theorem cartTwice {fid coord id t' : Nat} {b : CartBody} (h : Grows s t) : Grows s (t.cartTwice fid coord id t' b) := by
  unfold State.cartTwice
  extract_lets u
  have hu : Grows s u := h.cartSend
  exact hu.emit.ite hu

theorem cartEvent {bit coord id : Nat} {data : List Nat} (h : Grows s t) : Grows s (t.cartEvent bit coord id data) := h.raise

theorem stageDrain {c : CartSlot} {tid : Nat} {drain : Bool} (h : Grows s t) : Grows s (t.stageDrain c tid drain).1 :=
  h.quiesceTid.fst_ite h

theorem stageRoom {c : CartSlot} {a : CartAct} (h : Grows s t) : Grows s (t.stageRoom c a).1 := by
  unfold State.stageRoom
  extract_lets +onlyGivenNames _ _
  split
  split
  · exact h
  · split
    · split
      · exact h.installHere
      · exact h
    · exact h.fst_ite h

theorem stageTun {c : CartSlot} {a : CartAct} (h : Grows s t) : Grows s (t.stageTun c a).1 := by
  have hroom : Grows s (t.stageRoom c a).1 := h.stageRoom
  unfold State.stageTun
  extract_lets +onlyGivenNames _
  split
  · exact h
  · extract_lets +onlyGivenNames _
    refine fst_ite h (fst_ite h (fst_ite hroom (fst_ite hroom (fst_ite hroom ?_))))
    split
    · exact hroom.stageDrain
    · exact hroom.stageDrain
    · exact hroom

theorem stageAct {c : CartSlot} {a : CartAct} (h : Grows s t) : Grows s (t.stageAct c a).1 := by
  unfold State.stageAct
  split
  · split
    · exact h
    · extract_lets _ u
      have hu : Grows s u := h.foldl _ fun _ _ ha => ha.stageBlock
      exact hu
  · exact h.fst_ite (h.fst_ite (h.foldl _ fun _ _ ha => ha.doutM.outBits))
  · exact h.fst_ite (h.fst_ite (h.foldl _ fun _ _ ha => ha.put))
  · exact h
  · exact h
  · exact h.stageTun

theorem unquiesce {tid : Nat} (h : Grows s t) : Grows s (t.unquiesce tid) := h.foldl _ fun _ _ ha => ha.ctxM.pauseOne.flushHeld

theorem undoCart {c : CartSlot} (h : Grows s t) : Grows s (t.undoCart c) :=
  have hquiet := (h.foldl c.made fun _ _ ha => ha.removeTid).foldl c.quies fun _ _ ha => ha.unquiesce
  (hquiet.unstageCart.foldl _ fun _ _ ha => ha.doutM.outBits.ite ha).foldl _ fun _ _ ha => ha.put

theorem refuse {c : CartSlot} {cause idx sub : Nat} (h : Grows s t) : Grows s (t.refuse c cause idx sub) :=
  h.undoCart.dropSlot.bump.bump.cartEvent.cartEvent.cartSend

theorem cartAsk {c : CartSlot} (h : Grows s t) : Grows s (t.cartAsk c) := by
  unfold State.cartAsk
  extract_lets u
  have hu : Grows s u := h.cartSend
  exact (hu.foldl _ fun _ _ ha => ha.cartSend).ite hu

theorem cartHold {c : CartSlot} (h : Grows s t) : Grows s (t.cartHold c) := h.putSlot.cartAsk

theorem voteReady {c : CartSlot} (h : Grows s t) : Grows s (t.voteReady c) := by
  unfold State.voteReady
  extract_lets _ u
  have hu : Grows s u := h.putSlot.cartSend
  exact hu.cartHold.ite hu

theorem hearPrepare {coord id t' : Nat} {parts : List Nat} {acts : List CartAct}
    (h : Grows s t) : Grows s (t.hearPrepare coord id t' parts acts) := by
  unfold State.hearPrepare
  split
  · exact h
  · extract_lets +onlyGivenNames _ u _ v
    have hu : Grows s u := h.crtM
    have hv : Grows s v.1 := hu.fstFoldl _ fun _ _ ha => ha.stageAct
    split
    · exact hv.refuse
    · extract_lets +onlyGivenNames w
      have hw : Grows s w := hv.putSlot
      exact hw.ite hw.voteReady

theorem commitRetarget {c : CartSlot} {n : TunPar} {endB on : Bool}
    (h : Grows s t) : Grows s (t.commitRetarget c n endB on).1 := by
  unfold State.commitRetarget
  extract_lets +onlyGivenNames _ _ _ _ _ _
  split
  · exact h.removeTid
  · split
    · split
      · split
        · extract_lets +onlyGivenNames u
          have hu : Grows s u := h.installHere.activateTid
          exact hu.fst_ite hu.cartTwice
    · split
      · split
        · exact h.installHere.activateTid
        · exact h.installHere.tunM.activateTid
      · exact h.installHere.activateTid

theorem commitAct {c : CartSlot} {t' : Nat} {a : CartAct} (h : Grows s t) : Grows s (t.commitAct c t' a).1 := by
  unfold State.commitAct
  split
  · exact h.foldl _ fun _ _ ha => Grows.ite ha ha.schM
  · exact (h.installHere.ite h).activateTid
  · exact h.closeTid.removeTid
  · exact h.commitRetarget
  · exact h.grantTid
  · exact h.foldl _ fun _ _ ha => ha.doutM.outBits
  · exact h.foldl _ fun _ _ ha => ha.put.setTrig
  · exact h.pwrRequest
  · extract_lets u
    have hu : Grows s u := h.setOwner.ite h
    exact hu.ite (hu.become.ite hu.emit.elect)

theorem commitWaiting {c : CartSlot} {t' : Nat} {l : List CartAct} (h : Grows s t) : Grows s (t.commitWaiting c t' l).1 := by
  unfold State.commitWaiting
  refine h.fstFoldl _ fun _ _ ha => ?_
  split
  · extract_lets u
    have hu : Grows s u.1 := ha.commitAct
    exact hu
  · exact ha

theorem commitAll {c : CartSlot} {t' : Nat} (h : Grows s t) : Grows s (t.commitAll c t').1 := by
  unfold State.commitAll
  extract_lets +onlyGivenNames u v
  have hu : Grows s u.1 := by
    refine h.fstFoldl (p := (t, c, [])) _ fun _ _ ha => ?_
    extract_lets +onlyGivenNames _
    split
    · exact ha.commitWaiting
    · exact ha.commitAct.commitWaiting
  exact hu.fstFoldl (p := (u.1, u.2.1)) _ fun _ _ ha => ha.commitAct

theorem sendDone {c : CartSlot} (h : Grows s t) : Grows s (t.sendDone c) := h.cartSend

theorem cartFinish {c : CartSlot} (h : Grows s t) : Grows s (t.cartFinish c) := h.putSlot.sendDone

theorem cartApply {c : CartSlot} {go : Bool} (h : Grows s t) : Grows s (t.cartApply c go) := by
  unfold State.cartApply
  extract_lets _ _ u _ _ v w x
  have hu : Grows s u.1 := h.commitAll.fst_ite h.undoCart
  have hv : Grows s v := hu.bump
  have hw : Grows s w := by
    unfold w
    split <;> exact hv.cartEvent
  have hx : Grows s x := hw.ite hw.bump.put
  exact hx.cartFinish.ite hx.putSlot

theorem cartResolve {c : CartSlot} {go : Bool} (h : Grows s t) : Grows s (t.cartResolve c go) := h.putSlot.ite (h.cartApply.ite h)

theorem hearDecision {src coord id t' : Nat} {go : Bool} (h : Grows s t) : Grows s (t.hearDecision src coord id t' go) := by
  unfold State.hearDecision
  split
  · exact h.cartSend.ite h
  · extract_lets _ u
    have hu : Grows s u := h.ite ((h.foldl _ fun _ _ ha => ha.cartSend).putSlot)
    exact (hu.sendDone.ite hu).ite hu.cartResolve

theorem hearQuery {src coord id t' : Nat} (h : Grows s t) : Grows s (t.hearQuery src coord id t') := h.cartSend

theorem hearAnswer {src coord id a : Nat} (h : Grows s t) : Grows s (t.hearAnswer src coord id a) := by
  unfold State.hearAnswer
  split
  · exact h
  · split
    · exact h
    · extract_lets _ u
      have hu : Grows s u := h.putSlot
      exact hu.cartResolve.ite (hu.cartResolve.ite (hu.cartResolve.ite hu))

theorem hearSeqs {coord id tid : Nat} {endB : Bool} {rx tx : Nat}
    (h : Grows s t) : Grows s (t.hearSeqs coord id tid endB rx tx) := by
  unfold State.hearSeqs
  split
  · exact h
  · split
    · exact h.ite h.putSlot
    · split
      · exact h
      · extract_lets _ _ u
        have hu : Grows s u := by
          unfold u
          split
          · exact h.rewriteCtx.activateTid
          · exact h
        exact hu.cartFinish.ite hu.putSlot

theorem sendDecisions {c : CartCo} (h : Grows s t) : Grows s (t.sendDecisions c) := h.foldl _ fun _ _ ha => ha.cartTwice

theorem cartMap {c : CartCo} (h : Grows s t) : Grows s (t.cartMap c) := by
  unfold State.cartMap
  dsimp only
  refine h.foldl _ fun _ _ ha => ?_
  split
  · exact ha.ite ha.releaseTid
  · exact ha.releaseTid.ite ha
  · exact ha.tunM.mirrorTid.ite ha
  · exact ha.tunM.mirrorTid.ite ha
  · exact ha

theorem cartLate {c : CartCo} {src : Nat} (h : Grows s t) : Grows s (t.cartLate c src) := by
  unfold State.cartLate
  dsimp only
  refine h.foldl _ fun _ _ ha => ?_
  split
  · exact ha.releaseTid.ite ha
  · exact ha

theorem cartComplete {c : CartCo} (h : Grows s t) : Grows s (t.cartComplete c) := by
  unfold State.cartComplete
  split
  · exact h
  · extract_lets +onlyGivenNames _ _
    split
    · extract_lets +onlyGivenNames _ u
      have hu : Grows s u := h.cartMap.cartM.finish
      exact hu.tunResume

theorem cartSettle {id : Nat} {late : Bool} (h : Grows s t) : Grows s (t.cartSettle id late) := by
  unfold State.cartSettle
  split
  · exact h
  · split
    · exact h
    · extract_lets _ _ u
      have hu : Grows s u := h.cartComplete.ite h
      exact hu.crtM.ite hu

theorem cartDecide {id dec code reason fid idx sub : Nat}
    (h : Grows s t) : Grows s (t.cartDecide id dec code reason fid idx sub) := by
  unfold State.cartDecide
  split
  · exact h
  · exact h.cartM.sendDecisions.cartSettle

theorem hearVote {src id : Nat} {ready : Bool} {cause idx sub : Nat}
    (h : Grows s t) : Grows s (t.hearVote src id ready cause idx sub) := by
  unfold State.hearVote
  split
  · exact h
  · split
    · exact h
    · split
      · exact h.cartM.cartDecide
      · extract_lets _ u
        have hu : Grows s u := h.cartM
        exact (hu.cartDecide.ite hu.cartDecide).ite hu

theorem hearDone {src id t' out late freed : Nat} (h : Grows s t) : Grows s (t.hearDone src id t' out late freed) := by
  unfold State.hearDone
  split
  · exact h
  · extract_lets +onlyGivenNames u
    have hu : Grows s u := h.cartSend
    split
    · exact hu
    · extract_lets +onlyGivenNames v w
      have hv : Grows s v := hu.cartM
      have hw : Grows s w := hv.cartEvent.ite hv
      exact (hw.cartLate.ite hw).cartSettle

theorem hearDoneack {coord id : Nat} (h : Grows s t) : Grows s (t.hearDoneack coord id) := h.cslotM

theorem hearCart {src coord id t' : Nat} {x : CartBody} (h : Grows s t) : Grows s (t.hearCart src coord id t' x) := by
  unfold State.hearCart
  split
  · exact h.hearPrepare
  · exact h.hearVote
  · exact h.hearDecision
  · exact h.hearDecision
  · exact h.hearQuery
  · exact h.hearAnswer
  · exact h.hearDone
  · exact h.hearDoneack
  · exact h.hearSeqs

theorem cartRun {n : Nat} (h : Grows s t) : Grows s (State.cartRun n t) := by
  induction n generalizing t with
  | zero => exact h
  | succ n ih =>
    unfold State.cartRun
    split
    · exact h
    · exact ih h.crtM.hearCart

theorem ownCheck (h : Grows s t) : Grows s t.ownCheck := by
  unfold State.ownCheck
  split
  · exact h
  · extract_lets u v
    have hu : Grows s u := h.foldl _ fun _ _ ha => ha.cartDecide
    have hv : Grows s v := hu.tunM.foldl _ fun _ _ ha => ha.finish
    exact hv.foldl _ fun _ _ ha => ha.hotDone

theorem cartFlush (h : Grows s t) : Grows s t.cartFlush := h.cartRun.ownCheck.cartRun.flushLoop

end Sys2Proof.Proofs.Grows
end

section
/-! SUPPORT. What has been sent stays sent: resets, keys and register accesses. -/

namespace Sys2Proof.Proofs.Grows

open Sys2Proof.Machine Sys2Proof.Laws

variable {s t : State}

/-! ### Resets -/

theorem coreReset {cause : Fld} (h : Grows s t) : Grows s (t.coreReset cause) := h.trans (coreReset_outs t cause)

theorem restore {old : State} {keep : Nat → Bool} (h : Grows s t) : Grows s (t.restore old keep) := h.foldl _ fun _ _ ha => ha.wr

theorem warmReset {cause : Fld} (h : Grows s t) : Grows s (t.warmReset cause) := by
  unfold State.warmReset
  extract_lets u v
  have hu : Grows s u := h.coreReset.restore.bootM
  have hv : Grows s v := hu.put.put
  exact hv

theorem writeRst {r : Req} {v : Word} (h : Grows s t) : Grows s (t.writeRst r v) :=
  h.glbWrite fun _ ha => ha.tally.ite (ha.coreReset.ite ha.warmReset)

theorem startImage {img : List (BitVec 8)} (h : Grows s t) : Grows s (t.startImage img) := h.put.put.ksM.bootM.startHewers.emits

theorem downloadCheck {img : List (BitVec 8)} (h : Grows s t) : Grows s (t.downloadCheck img) := h.put.put.startImage.ite h.put

theorem writeDlen {r : Req} {v : Word} (h : Grows s t) : Grows s (t.writeDlen r v) :=
  (h.tally.ite h.put.downloadCheck).ite (h.glbWrite fun _ ha => ha.tally)

/-! ### The key store -/

theorem useNonce (h : Grows s t) : Grows s t.useNonce := h.put.foldl _ fun _ _ ha => ha.put

theorem keyNext (h : Grows s t) : Grows s t.keyNext := by
  unfold State.keyNext
  split
  · exact h.keyRegs
  · split
    · exact h.keyRegs
    · exact h.ksM.keyRegs

theorem keyQueue {o : KeyOp} (h : Grows s t) : Grows s (t.keyQueue o) := h.ksM.keyNext

theorem keyIssue {r : Req} {op : Nat} {args dram : List (BitVec 8)} (h : Grows s t) : Grows s (t.keyIssue r op args dram) := by
  unfold State.keyIssue
  split
  · exact h.ite h.keyQueue
  · exact h.controlWrite fun _ ha => ha.tally.ite ha.put.keyQueue

theorem lcRefuse {tgt cause : Nat} (h : Grows s t) : Grows s (t.lcRefuse tgt cause) := h.raise

theorem lcRequest {tgt : Nat} (h : Grows s t) : Grows s (t.lcRequest tgt) :=
  h.lcRefuse.ite (h.lcRefuse.ite ((h.useNonce.ksM.ite h.useNonce.lcRefuse).ite h.ksM))

theorem writeLcreq {r : Req} {v : Word} (h : Grows s t) : Grows s (t.writeLcreq r v) :=
  h.controlWrite fun _ ha => ha.tally.ite ha.lcRequest

theorem writeNonce {r : Req} {v : Word} (h : Grows s t) : Grows s (t.writeNonce r v) :=
  h.controlWrite fun u (ha : Grows s u) => ha.ite ((Grows.put (t := u.draw.2) ha).foldl _ fun _ _ hb => hb.put)

/-! ### Register writes -/

theorem ignored {a : Nat} (h : Grows s t) : Grows s (t.ignored a) := by
  unfold State.ignored
  split
  · exact h.tally.ite h.tally
  · exact h.tally

theorem mirrorAll (h : Grows s t) : Grows s t.mirrorAll := h.ctlM

theorem writeSnap {r : Req} {v : Word} (h : Grows s t) : Grows s (t.writeSnap r v) := by
  unfold State.writeSnap
  extract_lets +onlyGivenNames u _ v
  have hu : Grows s u := h.put
  have hv : Grows s v := hu
  exact hu.ite (hu.tally.ite hv.put.put.put)

theorem plainWrite {a : Nat} {d : RegDesc} {v : Word} (h : Grows s t) : Grows s (t.plainWrite a d v) := h.wr.ite h.ignored

theorem writeAlive {v : Word} (h : Grows s t) : Grows s (t.writeAlive v) := by
  unfold State.writeAlive
  extract_lets u
  have hu : Grows s u := h.put
  exact hu.aliveChange.ite hu

theorem writeCrdcfg {p c : Nat} {v : Word} (h : Grows s t) : Grows s (t.writeCrdcfg p c v) := h.tally.ite h.put

theorem portPower (h : Grows s t) : Grows s t.portPower := h.ite (h.foldl _ fun _ _ ha => ha.slotPower)

theorem writeRingReg {a : Nat} {d : RegDesc} {v : Word} (h : Grows s t) : Grows s (t.writeRingReg a d v) := by
  unfold State.writeRingReg
  dsimp only
  split
  · exact h.plainWrite.ite h.tally
  · exact h.plainWrite.ite h.tally
  · exact h.writeRcfg
  · exact h.tally

theorem writeHewerReg {n o a : Nat} {d : RegDesc} {v : Word} (h : Grows s t) : Grows s (t.writeHewerReg n o a d v) := by
  unfold State.writeHewerReg
  split
  · exact h.writeHwrCtrl
  · exact h.writeGwin
  · exact h.writeMbctl
  · exact h.tally.ite h.plainWrite

theorem writePushReg {k o a : Nat} {d : RegDesc} {v : Word} (h : Grows s t) : Grows s (t.writePushReg k o a d v) := by
  unfold State.writePushReg
  split
  · exact h.tally.ite h.plainWrite
  · exact h.tally.ite h.plainWrite
  · exact h.writePushCfg
  · exact h.pushDoorbell
  · exact h.plainWrite

theorem writeNicReg {f o a : Nat} {d : RegDesc} {v : Word} (h : Grows s t) : Grows s (t.writeNicReg f o a d v) := by
  unfold State.writeNicReg
  split
  · exact h.plainWrite
  · dsimp only
    split
    · exact h.tally.ite h.plainWrite
    · exact h.tally.ite h.plainWrite
    · exact h.writeNicCfg
    · exact h.nicDoorbell
    · exact h.plainWrite

theorem writeWake {d : RegDesc} {v : Word} (h : Grows s t) : Grows s (t.writeWake d v) := by
  unfold State.writeWake
  extract_lets u
  have hu : Grows s u := h.plainWrite
  exact hu.put.ite hu

theorem writeMsix {fn o a : Nat} {d : RegDesc} {v : Word} (h : Grows s t) : Grows s (t.writeMsix fn o a d v) := by
  unfold State.writeMsix
  extract_lets u
  have hu : Grows s u := h.plainWrite
  exact hu.put.msix.ite hu

theorem clampWrite {a : Nat} {d : RegDesc} {v : Word} {f : Fld} {lo hi : Nat}
    (h : Grows s t) : Grows s (t.clampWrite a d v f lo hi) := by
  unfold State.clampWrite
  extract_lets u
  have hu : Grows s u := h.plainWrite
  exact hu.put

theorem regWrite {r : Req} {b : Blk} {n o a : Nat} {d : RegDesc} {v : Word}
    (h : Grows s t) : Grows s (t.regWrite r b n o a d v) := by
  unfold State.regWrite
  split
  · exact h.writeRst.ite (h.writeDlen.ite (h.writeSnap.ite (h.writeAlive.ite (h.writeRingReg.ite h.plainWrite))))
  · exact h.writeLcreq.ite (h.writeNonce.ite ((h.keyIssue.ite (h.controlWrite fun _ ha => ha.put)).ite h.plainWrite))
  · exact h.writeHewerReg.ite h.plainWrite
  · exact h.tally.ite (h.clampWrite.ite h.plainWrite)
  · exact h.writeAdtCtrl.ite (h.plainWrite.ite (h.writeCrdcfg.ite h.plainWrite))
  · exact h.tally.ite (h.writeObscfg.ite h.plainWrite)
  · exact h.writeTimCtrl.ite (h.writeExtoff.ite (h.writeSetns.ite (h.writeProbe.ite (h.clampWrite.ite h.plainWrite))))
  · exact h.plainWrite.portPower.ite h.plainWrite
  · split
    · split
      · exact h.writeDscCtrl
      · exact h.writeInval
      · exact h.plainWrite
    · exact h.plainWrite.showEdid.ite h.plainWrite
  · exact (h.writeOutCtrl.ite (h.tally.ite h.plainWrite)).ite h.plainWrite
  · exact h.writeEthCtrl.ite (h.writeMdio.ite h.plainWrite)
  · exact h.plainWrite.usbFollow.yalFollow.ite h.plainWrite
  · exact h.writePdCtrl.ite (h.writePdo.ite (h.writePdo.ite (h.plainWrite.tableNew.ite (h.clampWrite.ite h.plainWrite))))
  · exact h.writeWake.ite h.plainWrite
  · exact h.writeNicReg
  · exact h.writePushReg
  · exact h.writeMsix
  · exact h.tally.ite h.plainWrite
  · exact h.clampWrite.ite h.plainWrite
  · exact h.plainWrite
  · exact h.plainWrite
  · exact h.plainWrite
  · exact h.plainWrite
  · exact h.plainWrite

theorem applyWrite {r : Req} {a : Nat} {v : Word} (h : Grows s t) : Grows s (t.applyWrite r a v) := by
  unfold State.applyWrite
  split
  · split
    · exact h
    · extract_lets u
      have hu : Grows s u := h.regWrite
      exact hu.mirrorAll.ite hu
  · exact h.ignored

theorem flushPosted {r : Req} {b : Option Blk} (h : Grows s t) : Grows s (t.flushPosted r b) :=
  h.ctlM.foldl _ fun _ _ ha => ha.applyWrite

theorem readActs {a : Nat} (h : Grows s t) : Grows s (t.readActs a) := h.trans (Spares.refl t).readActs.grows

theorem latch {r : Req} {a : Nat} (h : Grows s t) : Grows s (t.latch r a) := h.ctlM.ite h.ctlM

theorem readBus {r : Req} {a : Nat} (h : Grows s t) : Grows s (t.readBus r a).1 := by
  unfold State.readBus
  extract_lets +onlyGivenNames _
  split
  · extract_lets +onlyGivenNames _
    split
    · exact h.smbM
    · extract_lets +onlyGivenNames u
      have hu : Grows s u := h.smbM
      exact hu.readActs.latch
  · split
    · exact h
    · split
      · exact h
      · split
        · exact h
        · extract_lets +onlyGivenNames u
          have hu : Grows s u := h.flushPosted.ite h
          exact hu.readActs.latch

/-! ### Management -/

theorem regRead {f : Nat} {ops : BitVec 448} (h : Grows s t) : Grows s (t.regRead f ops).1 := by
  unfold State.regRead
  split
  · exact h
  · extract_lets u
    have hu : Grows s u.1 := h.fstFoldl _ fun _ _ ha => ha.readBus
    exact hu

end Sys2Proof.Proofs.Grows
end

section
/-! SUPPORT. Commands that are taken (R89, R91 to R94): the state their work starts from, and the management requests they leave as. -/

namespace Sys2Proof.Proofs

open Sys2Proof.Machine Sys2Proof.Laws

/-- The state in which a command's work is done: it has left its ring and is in progress. -/
def taken (s : State) (op : Nat) (c : HostCmd) : State :=
  (s.take c).ctlM fun k => { k with inflight := k.inflight ++ [s.ticket op c] }

theorem command_of_takes {s : State} {c : HostCmd} {used : List (Nat × Nat × Nat)} {op : Nat} {control : Bool}
    (body : InFlight → State → State) (h : Takes s c used) (hduty : opDuty op < 18) (hown : control = true → s.hostControls = true) :
    s.command op control used c body = body (s.ticket op c) (taken s op c) := by
  obtain ⟨-, htake, hclean, hmanned⟩ := h
  have hruns : s.dutyRuns (opDuty op) = true := List.all_eq_true.1 hmanned _ (List.mem_range.2 hduty)
  have hnot : ¬ (control && !s.hostControls) = true := by
    cases control with
    | false => simp
    | true => simp [hown rfl]
  exact (if_pos htake).trans ((if_neg (by simp [hclean])).trans ((if_neg hnot).trans (if_neg (by simp [State.unserved, hruns]))))

section
variable {s : State} {c : HostCmd} (op : Nat)

theorem taken_grows (s : State) (c : HostCmd) : Grows s (taken s op c) := Grows.refl s

theorem taken_keepsPair (h : s.canTake c = true) : KeepsRing (s.get (F.GLB_RCFG_PAIR c.ring)) s (taken s op c) :=
  (take_keepsPair h).same rfl rfl

/-- A register outside the ring table is as it was. -/
theorem taken_get (hring : c.ring < 256) {f : Fld} (h : f.addr < 0x1000 ∨ 0x2000 ≤ f.addr) : (taken s op c).get f = s.get f :=
  take_get s c (by simp only [A.GLB_RIDX]; omega)

theorem taken_fid (hring : c.ring < 256) : (taken s op c).fid = s.fid := taken_get op hring (by decide)

theorem taken_reachable (hring : c.ring < 256) (d : Nat) : (taken s op c).reachable d = s.reachable d := by
  have hget : ∀ f : Fld, f.addr = A.FAB_RT d → (taken s op c).bit f = s.bit f := fun f hf => by
    rw [State.bit, taken_get op hring (.inr (by rw [hf]; simp only [A.FAB_RT]; omega)), State.bit]
  rw [State.reachable, hget _ rfl, hget _ rfl, State.reachable]

/-- A command for another device leaves as a management request (R94). -/
theorem onTarget_sends {c : HostCmd} {k : InFlight} (here : State → State) (hother : c.target.toNat ≠ 0) (hfid : c.target.toNat ≠ s.fid)
    (hroute : s.reachable c.target.toNat = true) :
    Sends s (s.onTarget k c here) (.msg (.fid c.target.toNat) (.mgmtReq s.ctl.nextReq k.opcode c.ops)) := by
  rw [State.onTarget, if_neg (by simp [hother, hfid]), if_neg (by simp [hroute])]
  exact sends_of_prefix List.prefix_rfl (sends_emit (s.ctlM _) _)

/-- The same of a command of this host. -/
theorem takenOnTarget_sends (here : State → State) (hring : c.ring < 256) (hother : c.target.toNat ≠ 0)
    (hfid : c.target.toNat ≠ s.fid) (hroute : s.reachable c.target.toNat = true) :
    Sends s ((taken s op c).onTarget (s.ticket op c) c here) (.msg (.fid c.target.toNat) (.mgmtReq s.ctl.nextReq op c.ops)) :=
  (taken_grows op s c).sends (onTarget_sends here hother (by rwa [taken_fid op hring]) (by rwa [taken_reachable op hring]))

end

/-! ### NOP, REG_READ and REG_WRITE -/

theorem nop_answers {s : State} {c : HostCmd} (h : Takes s c []) : Does (.nop c) s fun t => Answers s t c 0x00 0x00 0 := by
  have ⟨hring, htake, _, _⟩ := h
  exact ⟨_, congrArg Host.Outcome.next (command_of_takes _ h (by decide) (by simp)),
    finish_answers 0x00 0x00 0 htake (taken_keepsPair 0x00 htake) (taken_grows 0x00 s c)⟩

theorem unknownOpcode_counted {s : State} {op : Nat} {c : HostCmd} (hop : op < 256) (hnew : op ∉ opcodes) (hring : c.ring < 256)
    (htake : s.canTake c = true) : Does (.unknownOpcode op c) s fun t =>
      Answers s t c op 0x01 0 ∧ t.get F.GLB_CMDIGN = min (s.get F.GLB_CMDIGN + 1) (2 ^ 32 - 1) := by
  obtain ⟨t, hx, hanswer, hcount, -, -⟩ := unknownOpcode_turnedAway hop hnew hring htake
  exact ⟨t, hx, hanswer, hcount⟩

theorem regRead_leaves {s : State} {c : HostCmd} (h : Takes s c regReadBits) (hrange : regRange c.ops = true)
    (hother : c.target.toNat ≠ 0) (hfid : c.target.toNat ≠ s.fid) (hroute : s.reachable c.target.toNat = true) :
    Does (.regRead c) s fun t => Sends s t (.msg (.fid c.target.toNat) (.mgmtReq s.ctl.nextReq 0x01 c.ops)) := by
  have ⟨hring, _, _, _⟩ := h
  exact ⟨_, congrArg Host.Outcome.next ((command_of_takes _ h (by decide) (by simp)).trans (if_neg (by simp [hrange]))),
    takenOnTarget_sends 0x01 _ hring hother hfid hroute⟩

theorem regRead_refused {s : State} {c : HostCmd} (h : Takes s c regReadBits) (hrange : regRange c.ops = false) :
    Does (.regRead c) s fun t => Answers s t c 0x01 0x03 0 := by
  have ⟨_, htake, _, _⟩ := h
  exact ⟨_, congrArg Host.Outcome.next ((command_of_takes _ h (by decide) (by simp)).trans (if_pos (by simp [hrange]))),
    finish_answers 0x01 0x03 0 htake (taken_keepsPair 0x01 htake) (taken_grows 0x01 s c)⟩

theorem regWrite_leaves {s : State} {c : HostCmd} (h : Takes s c regWriteBits) (hrange : regRange c.ops = true)
    (hother : c.target.toNat ≠ 0) (hfid : c.target.toNat ≠ s.fid) (hroute : s.reachable c.target.toNat = true)
    (hyield : s.own.yielding = none) :
    Does (.regWrite c) s fun t => Sends s t (.msg (.fid c.target.toNat) (.mgmtReq s.ctl.nextReq 0x02 c.ops)) := by
  have ⟨hring, _, _, _⟩ := h
  have hstays : (taken s 0x02 c).own.yielding.isSome = false := by
    change s.own.yielding.isSome = false
    rw [hyield]
    rfl
  exact ⟨_, congrArg Host.Outcome.next ((command_of_takes _ h (by decide) (by simp)).trans
      ((if_neg (by simp [hrange])).trans (if_neg (by simp [hstays])))),
    takenOnTarget_sends 0x02 _ hring hother hfid hroute⟩

/-! ### Answers to management requests (R94, R106) -/

theorem mgmtRsp_completes {s : State} (f : Nat) {id code : Nat} (result : BitVec 448) {k : InFlight} (hup : s.up = true)
    (hk : s.waiting id = some k) (hcode : code ≠ 0x04) (hready : s.cplReady k.pair = true) :
    Does (.mgmtRspReceive f (.mgmtRsp id code result)) s fun t =>
      Sends s t (.completion k.pair (s.get (F.GLB_RIDX_DEVIDX k.pair)) (s.ringPhase k.pair) (k.cpl code result)) := by
  have hheard : s.hearRsp id code result = s.finish k code result := by simp [State.hearRsp, hk, hcode]
  exact ⟨_, congrArg Host.Outcome.next ((whenUp_of hup _).trans hheard), finish_sends code result hready⟩

theorem mgmtTimeout_completes {s : State} {id : Nat} {k : InFlight} (hup : s.up = true) (hk : s.waiting id = some k)
    (hready : s.cplReady k.pair = true) : Does (.managementTimeout id) s fun t =>
      Sends s t (.completion k.pair (s.get (F.GLB_RIDX_DEVIDX k.pair)) (s.ringPhase k.pair) (k.cpl 0x06 0)) := by
  refine ⟨_, congrArg Host.Outcome.next (whenUp_of hup _), ?_⟩
  rw [hk]
  exact finish_sends 0x06 0 hready

end Sys2Proof.Proofs
end

section
/-! SUPPORT. The requests that the management agent executes for another device (R94), and the statement O2. -/

namespace Sys2Proof.Proofs

open Sys2Proof.Machine Sys2Proof.Laws

theorem mgmtReq_execs {s : State} (f id op : Nat) (ops : BitVec 448) (hheld : s.boot.held = false)
    (hcore : s.get F.PWR_STAT_CUR < 3) :
    exec (.mgmtReqReceive f (.mgmtReq id op ops)) s = .next (s.mgmtExec f id op ops).cartFlush :=
  congrArg Host.Outcome.next (if_neg (by simp [hheld, hcore]))

/-- What the management agent answers goes out, whatever the steps after it send. -/
theorem reply_cartFlush_sends {s t : State} {f id code : Nat} {result : BitVec 448} (h : Grows s t) :
    Sends s (t.reply (.mgmt f id) code result).cartFlush (.msg (.fid f) (.mgmtRsp id code result)) :=
  sends_between h (Grows.refl (t.emit _)).cartFlush

theorem regRead_code {s : State} (f : Nat) {ops : BitVec 448} (h : regRange ops = true) : (s.regRead f ops).2.1 = 0 := by
  rw [State.regRead, if_neg (by simp [h])]

theorem mgmtReq_regRead {s : State} (f id : Nat) {ops : BitVec 448} (hheld : s.boot.held = false)
    (hcore : s.get F.PWR_STAT_CUR < 3) (hrange : regRange ops = true) : Does (.mgmtReqReceive f (.mgmtReq id 0x01 ops)) s fun t =>
      Sends s t (.msg (.fid f) (.mgmtRsp id 0x00 (s.regRead f ops).2.2)) := by
  have hexec : s.mgmtExec f id 0x01 ops = (s.regRead f ops).1.reply (.mgmt f id) 0 (s.regRead f ops).2.2 := by
    rw [← regRead_code f hrange]
    rfl
  refine ⟨_, mgmtReq_execs f id 0x01 ops hheld hcore, ?_⟩
  rw [hexec]
  exact reply_cartFlush_sends (Grows.refl s).regRead

theorem mgmtReq_refused {s : State} {f : Nat} (id : Nat) (ops : BitVec 448) (hheld : s.boot.held = false)
    (hcore : s.get F.PWR_STAT_CUR < 3) (howner : f ≠ s.ownerFid) : Does (.mgmtReqReceive f (.mgmtReq id 0x50 ops)) s fun t =>
      Sends s t (.msg (.fid f) (.mgmtRsp id 0x04 0)) := by
  have hexec : s.mgmtExec f id 0x50 ops = s.reply (.mgmt f id) 0x04 0 := if_neg (by simp [howner])
  refine ⟨_, mgmtReq_execs f id 0x50 ops hheld hcore, ?_⟩
  rw [hexec]
  exact reply_cartFlush_sends (Grows.refl s)

/-- Settles O2: a command is taken, and completes or leaves as a request; what the agent answers stays sent. -/
theorem commandRows : Obligations.CommandRows := by
  unfold Obligations.CommandRows
  exact ⟨fun _ _ h => nop_answers h,
    fun _ _ _ hop hnew hring htake => unknownOpcode_counted hop hnew hring htake,
    fun _ _ h hrange hother hfid hroute => regRead_leaves h hrange hother hfid hroute,
    fun _ _ h hrange => regRead_refused h hrange,
    fun _ _ h hrange hother hfid hroute hyield => regWrite_leaves h hrange hother hfid hroute hyield,
    fun _ f id _ hheld hcore hrange => mgmtReq_regRead f id hheld hcore hrange,
    fun _ _ id ops hheld hcore howner => mgmtReq_refused id ops hheld hcore howner,
    fun _ f _ _ result _ hup hk hcode hready => mgmtRsp_completes f result hup hk hcode hready,
    fun _ _ _ hup hk hready => mgmtTimeout_completes hup hk hready⟩

end Sys2Proof.Proofs
end

section
/-! SUPPORT. What the steps of ownership set and leave (R103 to R108). -/

namespace Sys2Proof.Proofs

open Sys2Proof.Machine Sys2Proof.Laws

/-! ### GLB_OWNER -/

/-- The blocks between the Hewers and the pending bits of MSI-X. -/
theorem not_eventReg_of_between {a : Nat} (hlo : 0x26000 ≤ a) (hhi : a < 0x1082000) : ¬ EventReg a := by
  rintro (⟨k, hk, h⟩ | h | ⟨n, hn, h⟩ | ⟨n, hn, hn', h⟩ | ⟨w, hw, h⟩)
  · simp only [A.EVT_STAT] at h; omega
  · simp only [F.EVT_DROP, A.EVT_DROP] at h; omega
  · simp only [A.GLB_RIDX] at h; omega
  · simp only [F.HWR_EVOVF, A.HWR_EVOVF] at h; omega
  · simp only [A.MSIX_PBA] at h; omega

section
variable (s : State) (st fid gen : Nat) (rank : Option Rank)

/-- Of GLB_OWNER the owner-change event leaves what was set. -/
theorem setOwner_get {f : Fld} (hf : ¬ EventReg f.addr) : (s.setOwner st fid gen rank).get f =
    (((s.put F.GLB_OWNER_STATE st).put F.GLB_OWNER_OWNFID fid).put F.GLB_OWNER_GEN gen).get f := by
  have hown : ∀ (t : State) (g : OwnSt → OwnSt), RegsAgreeOff EventReg t (t.ownM g) := fun _ _ => regsAgreeOff_of_regs_eq rfl
  have hraise : ∀ (t : State) (vals : List Nat), RegsAgreeOff EventReg t (t.raise 0 1 vals) := fun t vals =>
    raise_regs_agree t vals (by decide)
  have halert : ∀ t : State, RegsAgreeOff EventReg t (t.alert 3) := fun _ => regsAgreeOff_of_regs_eq rfl
  exact get_of_regsAgreeOff (regsAgreeOff_trans (regsAgreeOff_trans (hown _ _) (hraise _ _)) (halert _)) hf

theorem setOwner_state (h : st < 4) : (s.setOwner st fid gen rank).get F.GLB_OWNER_STATE = st := by
  rw [setOwner_get _ _ _ _ _ (not_eventReg_of_lt (by decide)), get_put_apart _ _ (by decide) (by decide),
    get_put_apart _ _ (by decide) (by decide), get_put_same _ _ (by decide)]
  exact Nat.mod_eq_of_lt h

theorem setOwner_fid (h : fid < 64) : (s.setOwner st fid gen rank).get F.GLB_OWNER_OWNFID = fid := by
  rw [setOwner_get _ _ _ _ _ (not_eventReg_of_lt (by decide)), get_put_apart _ _ (by decide) (by decide), get_put_same _ _ (by decide)]
  exact Nat.mod_eq_of_lt h

theorem setOwner_gen (h : gen < 65536) : (s.setOwner st fid gen rank).get F.GLB_OWNER_GEN = gen := by
  rw [setOwner_get _ _ _ _ _ (not_eventReg_of_lt (by decide)), get_put_same _ _ (by decide)]
  exact Nat.mod_eq_of_lt h

theorem setOwner_rank : (s.setOwner st fid gen rank).own.ownerRank = rank :=
  congrArg OwnSt.ownerRank (raise_leaves _ _ _ _ .own (by decide))

end

/-- An owner is OWNER of the generation, by its own FID, and its heartbeat goes out. -/
theorem become_effect (s : State) {gen : Nat} (h : gen < 65536) :
    (s.become gen).get F.GLB_OWNER_STATE = 3 ∧ (s.become gen).get F.GLB_OWNER_OWNFID = s.fid ∧
      (s.become gen).get F.GLB_OWNER_GEN = gen ∧ (s.become gen).get F.TUN_STAT_MAPVALID = 1 ∧ Sends s (s.become gen) (.msg .broadcast (.heartbeat s.fid s.rank gen)) := by
  have hset : ∀ {f : Fld}, 0x26000 ≤ f.addr → f.addr < 0x1082000 →
      ((s.put F.TUN_STAT_MAPVALID 1).setOwner 3 s.fid gen (some s.rank)).get f = (s.put F.TUN_STAT_MAPVALID 1).get f := by
    intro f hlo hhi
    have hne : A.GLB_OWNER ≠ f.addr := by simp only [A.GLB_OWNER]; omega
    rw [setOwner_get _ _ _ _ _ (not_eventReg_of_between hlo hhi), get_put_apart _ _ (by decide) (.inl hne),
      get_put_apart _ _ (by decide) (.inl hne), get_put_apart _ _ (by decide) (.inl hne)]
  have hgen := setOwner_gen (s.put F.TUN_STAT_MAPVALID 1) 3 s.fid gen (some s.rank) h
  have hvalid := hset (f := F.TUN_STAT_MAPVALID) (by decide) (by decide)
  have hfid := hset (f := F.FAB_ID_FID) (by decide) (by decide)
  rw [get_put_same _ _ (by decide)] at hvalid
  rw [get_put_apart _ _ (by decide) (by decide)] at hfid
  refine ⟨setOwner_state _ _ _ _ _ (by decide), setOwner_fid _ _ _ _ _ (get_lt _ _), hgen, hvalid, ?_⟩
  change ((s.put F.TUN_STAT_MAPVALID 1).setOwner 3 s.fid gen (some s.rank)).fid = s.fid at hfid
  rw [State.become, State.heartbeat, hfid, setOwner_rank, hgen]
  exact (Grows.refl s).put.setOwner.sends (sends_emit _ _)

/-- Entering ELECTING leaves no owner. -/
theorem elect_effect (s : State) (noClaim : Bool) :
    (s.elect noClaim).get F.GLB_OWNER_STATE = 2 ∧ (s.elect noClaim).get F.GLB_OWNER_OWNFID = 0 := by
  have hget : ∀ {f : Fld}, f.addr < 0x1000 →
      (s.elect noClaim).get f = ((s.put F.GLB_OWNER_STATE 2).put F.GLB_OWNER_OWNFID 0).get f := by
    intro f hf
    have hown : ∀ (t : State) (g : OwnSt → OwnSt), RegsAgreeOff EventReg t (t.ownM g) := fun _ _ => regsAgreeOff_of_regs_eq rfl
    have hraise : ∀ t : State, RegsAgreeOff EventReg t (t.raiseWith 2 false 0 []) := fun t =>
      raiseBytes_regs_agree t false 0 _ (by decide)
    have hclaim : ∀ (t : State) (c : Bool), RegsAgreeOff EventReg t (if c then t.claim else t) := fun t c =>
      regsAgreeOff_ite (regsAgreeOff_of_regs_eq rfl) (regsAgreeOff_refl _ _)
    exact get_of_regsAgreeOff (regsAgreeOff_trans (regsAgreeOff_trans (hown _ _) (hraise _)) (hclaim _ _)) (not_eventReg_of_lt hf)
  rw [hget (by decide), hget (by decide)]
  constructor
  · rw [get_put_apart _ _ (by decide) (by decide), get_put_same _ _ (by decide)]
    rfl
  · rw [get_put_same _ _ (by decide)]
    rfl

/-! ### Where nothing waits for ownership -/

theorem ownCheck_of_quiet {s : State} (h : Quiet s) : s.ownCheck = s := by
  obtain ⟨-, hcos, hnext, hhp, -, -⟩ := h
  have hnone : (s.tunM fun u => { u with next := [] }) = s := by
    have htun : { s.tun with next := [] } = s.tun := by rw [← hnext]
    rw [State.tunM, htun]
  unfold State.ownCheck
  dsimp only
  rw [hcos, List.filter_nil, List.foldl_nil, hnext, List.foldl_nil, hnone, hhp, List.foldl_nil, ite_self]

/-- No cart, no tunnel command and no move of the bridge goes on. -/
theorem cartFlush_of_quiet {s : State} (h : Quiet s) : s.cartFlush = s := by
  have hcheck := ownCheck_of_quiet h
  obtain ⟨hloop, -, -, -, -, hdrift⟩ := h
  rw [State.cartFlush, StaysQuiet.cartRun_of_none _ hloop, hcheck, StaysQuiet.cartRun_of_none _ hloop, State.flushLoop, hdrift]
  rfl

theorem hotHostLost_of_quiet {s : State} (h : Quiet s) : s.hotHostLost = s := by
  obtain ⟨-, -, -, hhp, hasks, -⟩ := h
  rw [State.hotHostLost, hasks, List.filter_nil, List.foldl_nil, State.hotPoll, StaysQuiet.hotRun_of_none _ hhp, ite_self]

/-! ### The conditions of a live host (R103) -/

namespace Spares

variable {s t : State}

theorem writeCpl {n : Nat} {c : Cpl} (h : Spares s t) : Spares s (t.writeCpl n c) := h.emit.emit.ringStep.signal.ite h.emit.emit.ringStep

theorem complete {c : Cpl} (h : Spares s t) : Spares s (t.complete c) := h.writeCpl.ite h.ctlM

theorem finish {k : InFlight} {code : Nat} {result : BitVec 448} (h : Spares s t) : Spares s (t.finish k code result) := h.ctlM.complete

theorem ownM {g : OwnSt → OwnSt} (h : Spares s t) : Spares s (t.ownM g) := h.same rfl rfl rfl rfl

theorem endYield {code : Nat} (h : Spares s t) : Spares s (t.endYield code) := by
  unfold State.endYield
  split
  · exact h.ownM.finish.raise.ite h.ownM.finish
  · exact h

end Spares

/-- An owner whose host is lost is FOLLOWER; of GLB's control registers that is all. -/
theorem hostLost_owner {s : State} (h : s.get F.GLB_OWNER_STATE = 3) : Spares (s.put F.GLB_OWNER_STATE 1) s.hostLost := by
  have hraised : ∀ vals, Spares (s.put F.GLB_OWNER_STATE 1)
      (((s.put F.GLB_OWNER_STATE 1).ownM fun o => { o with wasOwner := true }).raise 0 1 vals) := fun _ =>
    (Spares.refl _).ownM.raise
  unfold State.hostLost
  rw [if_pos h]
  dsimp only
  split
  · exact (hraised _).ite (hraised _).endYield
  · exact hraised _

/-- A field of GLB outside GLB_OWNER. -/
theorem hostLost_get (s : State) {f : Fld} (hf : f.addr < 0x1000) (ho : A.GLB_OWNER ≠ f.addr) : s.hostLost.get f = s.get f := by
  by_cases h : s.get F.GLB_OWNER_STATE = 3
  · exact ((hostLost_owner h).get hf).trans (get_put_apart _ _ (by decide) (.inl ho))
  · rw [State.hostLost, if_neg h]

theorem aliveChange_get (s : State) (cond : Nat) (v : Bool) {f : Fld} (hf : f.addr < 0x1000) (ho : A.GLB_OWNER ≠ f.addr) :
    (s.aliveChange cond v).get f = (s.setAlive cond v).get f := by
  have hgained : (s.setAlive cond v).hostGained.get f = (s.setAlive cond v).get f :=
    get_of_regsAgreeOff (hostGained_regs_agree _) (not_ownerReg_of_lt hf ho.symm)
  unfold State.aliveChange
  dsimp only
  split
  · exact hostLost_get _ hf ho
  · split
    · exact hgained
    · rfl

theorem hostLost_hostAlive (s : State) : s.hostLost.hostAlive = s.hostAlive := by
  have hconds := hostLost_conditions s
  simp only [conditions, Prod.mk.injEq] at hconds
  obtain ⟨hperst, hlink, hbme⟩ := hconds
  have hrole := hostLost_get s (f := F.GLB_STRAP_ROLE) (by decide) (by decide)
  have hexpired := hostLost_get s (f := F.GLB_ALIVE_EXPIRED) (by decide) (by decide)
  simp only [State.hostAlive, State.isHost, State.role, State.bit, hperst, hlink, hbme, hrole, hexpired]

theorem setAlive_get (s : State) (cond : Nat) (v : Bool) {f : Fld} (hf : A.GLB_ALIVE ≠ f.addr) : (s.setAlive cond v).get f = s.get f := by
  unfold State.setAlive
  split
  · rfl
  · rfl
  · rfl
  · exact get_put_apart _ _ (by decide) (.inl hf)

/-- Without one of its conditions a host is not alive. -/
theorem setAlive_dead (s : State) {cond : Nat} (h : cond < 4) : (s.setAlive cond false).hostAlive = false := by
  match cond, h with
  | 0, _ => simp [State.hostAlive, State.setAlive]
  | 1, _ => simp [State.hostAlive, State.setAlive]
  | 2, _ => simp [State.hostAlive, State.setAlive]
  | 3, _ =>
    have hexpired : (s.setAlive 3 false).bit F.GLB_ALIVE_EXPIRED = true := bit_putBit_same _ _ (by decide) rfl
    rw [State.hostAlive, hexpired, Bool.not_true, Bool.and_false]

/-- An owner whose host is lost by a condition is FOLLOWER, and its host is not alive. -/
theorem aliveChange_lost {s : State} {cond : Nat} (hcond : cond < 4) (halive : s.hostAlive = true)
    (howner : s.get F.GLB_OWNER_STATE = 3) :
    (s.aliveChange cond false).get F.GLB_OWNER_STATE = 1 ∧ (s.aliveChange cond false).hostAlive = false := by
  have hdead := setAlive_dead s hcond
  have hchange : s.aliveChange cond false = (s.setAlive cond false).hostLost := if_pos (by simp [halive, hdead])
  have hstate := (hostLost_owner ((setAlive_get s cond false (by decide)).trans howner)).get (f := F.GLB_OWNER_STATE) (by decide)
  rw [get_put_same _ _ (by decide)] at hstate
  rw [hchange]
  exact ⟨hstate, (hostLost_hostAlive _).trans hdead⟩

/-- A bridge in NONE whose host becomes alive starts an election. -/
theorem aliveChange_gained {s : State} {cond : Nat} (hdead : s.hostAlive = false) (halive : (s.setAlive cond true).hostAlive = true)
    (hnone : s.get F.GLB_OWNER_STATE = 0) : (s.aliveChange cond true).get F.GLB_OWNER_STATE = 2 := by
  have hchange : s.aliveChange cond true = (s.setAlive cond true).hostGained :=
    (if_neg (by simp [hdead])).trans (if_pos (by simp [hdead, halive]))
  have hstate := (setAlive_get s cond true (f := F.GLB_OWNER_STATE) (by decide)).trans hnone
  rw [hchange, State.hostGained, if_pos halive, if_pos hstate]
  exact (elect_effect _ _).1

theorem aliveChange_expired (s : State) (v : Bool) : (s.aliveChange 3 v).bit F.GLB_ALIVE_EXPIRED = !v := by
  rw [State.bit, aliveChange_get _ _ _ (by decide) (by decide), ← State.bit]
  exact bit_putBit_same _ _ (by decide) rfl

end Sys2Proof.Proofs
end

section
/-! SUPPORT. Handing the fabric over and the conditions of a live host, with the proof of O3. -/

namespace Sys2Proof.Proofs

open Sys2Proof.Machine Sys2Proof.Laws

/-! ### OWN_YIELD, YIELD and RELEASE (R108) -/

theorem ownYield_starts {s : State} {c : HostCmd} (h : Takes s c [(8, 0, 6)]) (howner : s.hostControls = true)
    (hother : opAt c 8 1 ≠ s.fid) (hhost : s.hostInGraph (opAt c 8 1) = true) : Does (.ownYield c) s fun t =>
      t.own.yielding = some { ticket := s.ticket 0x08 c, tofid := opAt c 8 1, sent := false } := by
  have ⟨hring, _, _, _⟩ := h
  have hhere : ¬ (opAt c 8 1 = (taken s 0x08 c).fid ∧ opAt c 8 1 ≠ 0) := by simp [taken_fid 0x08 hring, hother]
  exact ⟨_, congrArg Host.Outcome.next ((command_of_takes _ h (by decide) fun _ => howner).trans
    ((if_neg hhere).trans (if_pos (.inr hhost)))), rfl⟩

/-- With no command in progress the yield that is agreed goes out. -/
theorem yieldCommandsDrained_next {s : State} {y : YieldSt} (hup : s.up = true) (hyield : s.own.yielding = some y)
    (hsent : y.sent = false) (howner : s.get F.GLB_OWNER_STATE = 3) (hdone : s.ctl.inflight = []) :
    exec .yieldCommandsDrained s =
      .next (let t := s.ownM fun o => { o with yielding := some { y with sent := true } }
        if y.tofid = 0 then ((t.emit (.msg .broadcast .release)).elect true).cartFlush
        else t.emit (.msg (.fid y.tofid) (.yield y.tofid ((s.get F.GLB_OWNER_GEN + 1) % 65536)))) := by
  have hgo : ¬ (y.sent = true ∨ (s.ctl.inflight.any fun t => !(t.same y.ticket) && !(readOps.contains t.opcode)) = true ∨
      s.get F.GLB_OWNER_STATE ≠ 3) := by
    simp [hsent, hdone, howner]
  refine congrArg Host.Outcome.next ((whenUp_of hup _).trans ?_)
  dsimp only
  rw [hyield]
  exact if_neg hgo

theorem yield_goesOut {s : State} {y : YieldSt} (hup : s.up = true) (hyield : s.own.yielding = some y) (hsent : y.sent = false)
    (hto : y.tofid ≠ 0) (howner : s.get F.GLB_OWNER_STATE = 3) (hdone : s.ctl.inflight = []) :
    Does .yieldCommandsDrained s fun t =>
      Sends s t (.msg (.fid y.tofid) (.yield y.tofid ((s.get F.GLB_OWNER_GEN + 1) % 65536))) ∧
      t.own.yielding = some { y with sent := true } ∧ t.regs = s.regs :=
  ⟨_, (yieldCommandsDrained_next hup hyield hsent howner hdone).trans (congrArg Host.Outcome.next (if_neg hto)),
    sends_emit (s.ownM _) _, rfl, rfl⟩

theorem release_goesOut {s : State} {y : YieldSt} (hup : s.up = true) (hyield : s.own.yielding = some y) (hsent : y.sent = false)
    (hto : y.tofid = 0) (howner : s.get F.GLB_OWNER_STATE = 3) (hdone : s.ctl.inflight = []) :
    Does .yieldCommandsDrained s fun t => Sends s t (.msg .broadcast .release) :=
  ⟨_, (yieldCommandsDrained_next hup hyield hsent howner hdone).trans (congrArg Host.Outcome.next (if_pos hto)),
    sends_between (Grows.refl s).ownM (Grows.refl (State.emit _ _)).elect.cartFlush⟩

theorem yieldReceive_owns {s : State} {gen : Nat} (rank : Rank) (hup : s.up = true) (halive : s.hostAlive = true)
    (hyield : s.own.yielding = none) (hfrom : s.own.yieldFrom = none) (hgen : gen < 65536) :
    Does (.yieldReceive s.fid gen rank) s fun t =>
      t.get F.GLB_OWNER_STATE = 3 ∧ t.get F.GLB_OWNER_OWNFID = s.fid ∧ t.get F.GLB_OWNER_GEN = gen ∧
      t.get F.TUN_STAT_MAPVALID = 1 ∧ Sends s t (.msg .broadcast (.heartbeat s.fid s.rank gen)) := by
  refine ⟨s.takeYield gen rank, congrArg Host.Outcome.next ((whenUp_of hup _).trans ((if_neg (by simp [halive])).trans ?_)),
    become_effect s hgen⟩
  rw [hyield, hfrom]

theorem yieldTimeout_completes {s : State} {y : YieldSt} (hup : s.up = true) (hyield : s.own.yielding = some y) (hsent : y.sent = true)
    (hto : y.tofid ≠ 0) (hready : s.cplReady y.ticket.pair = true) : Does .yieldTimeout s fun t =>
      t.own.yielding = none ∧ Sends s t (.completion y.ticket.pair (s.get (F.GLB_RIDX_DEVIDX y.ticket.pair))
        (s.ringPhase y.ticket.pair) (y.ticket.cpl 0x30 0)) := by
  refine ⟨(s.ownM fun o => { o with yielding := none, noClaim := false }).finish y.ticket 0x30 0,
    congrArg Host.Outcome.next ((whenUp_of hup _).trans ?_), congrArg OwnSt.yielding (finish_leaves _ _ _ _ .own (by decide)),
    finish_sends (s := s.ownM _) 0x30 0 hready⟩
  rw [hyield]
  refine (if_pos ⟨hsent, hto⟩).trans ?_
  rw [State.endYield, hyield]
  rfl

theorem releaseReceive_elects {s : State} (hup : s.up = true) (hquiet : Quiet s) : Does .releaseReceive s fun t =>
    t.get F.GLB_OWNER_STATE = 2 ∧ t.get F.GLB_OWNER_OWNFID = 0 := by
  have hstill : Quiet (s.elect false) :=
    quiet_of_leaves (l := [.regs, .ctl, .own, .hew, .outs]) (by decide) ((leaves_elect (by simp)).2 (leaves_refl _ _)) hquiet
  exact ⟨_, congrArg Host.Outcome.next ((whenUp_of hup _).trans (cartFlush_of_quiet hstill)), elect_effect s false⟩

/-! ### The host is lost and comes back (R103) -/

/-- Where nothing waits for the host, nothing follows a change of its conditions. -/
theorem aliveChange_alone {s : State} (cond : Nat) (v : Bool) (hquiet : Quiet s) :
    (s.aliveChange cond v).hotHostLost.cartFlush = s.aliveChange cond v := by
  have hstill : Quiet (s.aliveChange cond v) :=
    quiet_of_leaves (l := [.regs, .ctl, .own, .smb, .hew, .outs]) (by decide) ((leaves_aliveChange (by simp)).2 (leaves_refl _ _)) hquiet
  rw [hotHostLost_of_quiet hstill, cartFlush_of_quiet hstill]

theorem hostAliveLost_follower {s : State} {cond : Nat} (hup : s.up = true) (hcond : cond < 4) (halive : s.hostAlive = true)
    (howner : s.get F.GLB_OWNER_STATE = 3) (hquiet : Quiet s) : Does (.hostAliveLost cond) s fun t =>
      t.get F.GLB_OWNER_STATE = 1 ∧ t.hostAlive = false :=
  ⟨_, congrArg Host.Outcome.next ((if_pos hup).trans (aliveChange_alone cond false hquiet)), aliveChange_lost hcond halive howner⟩

theorem hostAliveLost_down {s : State} {cond : Nat} (hdown : s.up = false) (hcond : cond ≠ 0) : exec (.hostAliveLost cond) s = .next s :=
  congrArg Host.Outcome.next ((if_neg (by simp [hdown])).trans (if_neg hcond))

theorem hostAliveGained_elects {s : State} {cond : Nat} (hup : s.up = true) (hdead : s.hostAlive = false)
    (halive : (s.setAlive cond true).hostAlive = true) (hnone : s.get F.GLB_OWNER_STATE = 0) : Does (.hostAliveGained cond) s fun t =>
      t.get F.GLB_OWNER_STATE = 2 :=
  ⟨_, congrArg Host.Outcome.next (whenUp_of hup _), aliveChange_gained hdead halive hnone⟩

theorem aliveKick_clears {s : State} (hup : s.up = true) : Does .aliveKick s fun t => t.bit F.GLB_ALIVE_EXPIRED = false :=
  ⟨_, congrArg Host.Outcome.next (whenUp_of hup _), aliveChange_expired s true⟩

theorem keepaliveExpiry_expires {s : State} (hup : s.up = true) (htmo : s.get F.GLB_ALIVE_TMO ≠ 0) (hquiet : Quiet s) :
    Does .keepaliveExpiry s fun t => t.bit F.GLB_ALIVE_EXPIRED = true :=
  ⟨_, congrArg Host.Outcome.next ((whenUp_of hup _).trans ((if_neg htmo).trans (aliveChange_alone 3 false hquiet))),
    aliveChange_expired s false⟩

/-- Settles O3: the steps of a yield, and what follows from a condition of a live host. -/
theorem yieldAndAliveRows : Obligations.YieldAndAliveRows := by
  unfold Obligations.YieldAndAliveRows
  exact ⟨fun _ _ h howner _ hother hhost => ownYield_starts h howner hother hhost,
    fun _ _ hup hyield hsent hto howner hdone => yield_goesOut hup hyield hsent hto howner hdone,
    fun _ _ hup hyield hsent hto howner hdone => release_goesOut hup hyield hsent hto howner hdone,
    fun _ _ rank hup halive hyield hfrom hgen => yieldReceive_owns rank hup halive hyield hfrom hgen,
    fun _ _ hup hyield hsent hto hready => yieldTimeout_completes hup hyield hsent hto hready,
    fun _ hup hquiet => releaseReceive_elects hup hquiet,
    fun _ _ hup hcond halive howner _ hquiet => hostAliveLost_follower hup hcond halive howner hquiet,
    fun _ _ hdown hcond => hostAliveLost_down hdown hcond,
    fun _ _ hup hdead halive hnone => hostAliveGained_elects hup hdead halive hnone,
    fun _ hup => aliveKick_clears hup,
    fun _ hup htmo hquiet => keepaliveExpiry_expires hup htmo hquiet⟩

end Sys2Proof.Proofs
end

section
/-! SUPPORT. A frame that a data ring offers leaves the ring as it is. -/

namespace Sys2Proof.Proofs

open Sys2Proof.Machine Sys2Proof.Laws

/-- Ring `n`, no event ring, is in `t` as it was in `s`. -/
structure HoldsRing (n : Nat) (s t : State) : Prop where
  lt : n < 256
  type : s.get (F.GLB_RCFG_TYPE n) ≠ 3
  keeps : KeepsRing n s t

/-- An address that a block beyond the ring table counts up from its base. -/
theorem beyond {b x : Nat} (h : 0x2000 ≤ b) : 0x2000 ≤ b + x := Nat.le_add_right_of_le h

namespace HoldsRing

variable {n : Nat} {s t u : State}

theorem refl (hn : n < 256) (hty : s.get (F.GLB_RCFG_TYPE n) ≠ 3) : HoldsRing n s s := ⟨hn, hty, .refl n s⟩

theorem ite {c : Prop} [Decidable c] (h : HoldsRing n s t) (k : HoldsRing n s u) : HoldsRing n s (if c then t else u) := by
  split <;> assumption

theorem of_fst {α : Type} {p : State × α} {a : α} (h : HoldsRing n s p.1) (hp : p = (u, a)) : HoldsRing n s u := by
  rwa [hp] at h

/-- An operation on another part of the state. -/
theorem same (h : HoldsRing n s t) (hr : u.regs = t.regs) (hc : u.ctl.rings = t.ctl.rings) : HoldsRing n s u :=
  ⟨h.lt, h.type, h.keeps.same hr hc⟩

theorem emits {os : List Out} (h : HoldsRing n s t) : HoldsRing n s (t.emits os) :=
  ⟨h.lt, h.type, h.keeps.foldl os fun _ _ hu => hu.emit⟩

theorem hewM {g : HewSt → HewSt} (h : HoldsRing n s t) : HoldsRing n s (t.hewM g) := h.same rfl rfl

theorem put {f : Fld} {v : Nat} (h : HoldsRing n s t) (hf : 0x2000 ≤ f.addr) : HoldsRing n s (t.put f v) :=
  ⟨h.lt, h.type, h.keeps.put h.lt (.inr hf)⟩

theorem bump {f : Fld} (h : HoldsRing n s t) (hf : 0x2000 ≤ f.addr) : HoldsRing n s (t.bump f) := (h.put hf).ite h

theorem raiseWith {ev grantee : Nat} {masked : Bool} {vals : List Nat} (h : HoldsRing n s t) :
    HoldsRing n s (t.raiseWith ev masked grantee vals) := ⟨h.lt, h.type, h.keeps.raiseBytes h.lt h.type⟩

theorem raise {g b : Nat} {vals : List Nat} (h : HoldsRing n s t) : HoldsRing n s (t.raise g b vals) := h.raiseWith

/-! ### Admission (R17, R213, R215) -/

theorem tunM {g : TunSt → TunSt} (h : HoldsRing n s t) : HoldsRing n s (t.tunM g) := h.same rfl rfl

theorem ctxM {idx : Nat} {g : TunCtx → TunCtx} (h : HoldsRing n s t) : HoldsRing n s (t.ctxM idx g) := h.tunM

theorem firstM {idx : Nat} {g : Offer → Offer} (h : HoldsRing n s t) : HoldsRing n s (t.firstM idx g) := h.ctxM

theorem statM {idx : Nat} {g : TunStat → TunStat} (h : HoldsRing n s t) : HoldsRing n s (t.statM idx g) := h.ctxM

theorem countColour {idx col : Nat} (h : HoldsRing n s t) : HoldsRing n s (t.countColour idx col) := by
  unfold State.countColour
  split
  · exact h.statM
  · exact h.statM
  · exact h

theorem setMeter {x : MeterSt} (h : HoldsRing n s t) : HoldsRing n s (t.setMeter x) := h.same rfl rfl

theorem payMeter {m bits col : Nat} (h : HoldsRing n s t) : HoldsRing n s (t.payMeter m bits col) := by
  unfold State.payMeter
  split
  · exact h
  · split
    · exact h.setMeter
    · exact h.setMeter
    · exact h

theorem meterTest {c : TunCtx} {len : Nat} {yellow : Bool} (h : HoldsRing n s t) : HoldsRing n s (t.meterTest c len yellow).1 := by
  unfold State.meterTest
  split
  · exact h
  · extract_lets +onlyGivenNames _ _ _ u
    have hu : HoldsRing n s u := h.ite h.countColour
    have hheld : HoldsRing n s (u.bump F.SCH_METHOLD) := hu.bump (by decide)
    split
    · dsimp only
      exact (hheld.ite hu).firstM
    · dsimp only
      exact (hu.payMeter.ite hu).firstM

theorem admTest {c : TunCtx} {ring : Option Nat} {len : Nat} {yellow : Bool} (h : HoldsRing n s t) :
    HoldsRing n s (t.admTest c ring len yellow).1 := by
  unfold State.admTest
  extract_lets +onlyGivenNames u
  have hu : HoldsRing n s u := h.firstM
  split
  · exact hu
  · split
    next hm => exact hu.meterTest.of_fst hm
    next hm => exact hu.meterTest.of_fst hm

theorem linkM {p : Nat} {g : LinkSt → LinkSt} (h : HoldsRing n s t) : HoldsRing n s (t.linkM p g) := h.same rfl rfl

theorem spillEvent {p : Nat} (h : HoldsRing n s t) : HoldsRing n s (t.spillEvent p) := h.hewM.raise.ite h

theorem poolEvent {c : TunCtx} {len : Nat} (h : HoldsRing n s t) : HoldsRing n s (t.poolEvent c len) := by
  unfold State.poolEvent
  split
  · exact h.linkM.raise.ite (h.spillEvent.ite h)
  · exact h

theorem offerRing {ring ep typ len : Nat} {yellow : Bool} (h : HoldsRing n s t) :
    HoldsRing n s (t.offerRing ring ep typ len yellow).1 := by
  unfold State.offerRing
  split
  · exact h
  · split
    · exact h
    · split
      · exact h
      · split
        · exact h
        · split
          next hm => exact (h.admTest.of_fst hm).poolEvent
          next hm => exact h.admTest.of_fst hm

theorem noTunnel {ep : Nat} (h : HoldsRing n s t) : HoldsRing n s (t.noTunnel ep) := (h.bump (beyond (by decide))).ite h

theorem statDrop {idx : Nat} (h : HoldsRing n s t) : HoldsRing n s (t.statDrop idx) := h.statM

theorem tunEvent {par : TunPar} {bit : Nat} {data : List Nat} (h : HoldsRing n s t) :
    HoldsRing n s (t.tunEvent par bit data) := h.raiseWith

theorem tooLong {c : TunCtx} {len : Nat} (h : HoldsRing n s t) : HoldsRing n s (t.tooLong c len) := by
  unfold State.tooLong
  extract_lets u
  have hu : HoldsRing n s u := (h.bump (by decide)).statDrop
  exact hu.tunM.tunEvent.ite hu

theorem schM {p : Nat} {g : SchSt → SchSt} (h : HoldsRing n s t) : HoldsRing n s (t.schM p g) := h.same rfl rfl

theorem spillTurn {p : Nat} (h : HoldsRing n s t) : HoldsRing n s (t.spillTurn p) := h.schM

theorem highWater {p q : Nat} (h : HoldsRing n s t) : HoldsRing n s (t.highWater p q) :=
  ((h.put (beyond (beyond (by decide)))).put (beyond (beyond (by decide)))).ite h

theorem enqueue {p : Nat} {q : QFrame} (h : HoldsRing n s t) : HoldsRing n s (t.enqueue p q) := by
  unfold State.enqueue
  extract_lets u _ _ v
  have hu : HoldsRing n s u := h.spillTurn
  have hv : HoldsRing n s v := hu.schM
  split
  · exact hv.highWater
  · exact hv

theorem sendEnd {c : TunCtx} {f : Frame} {fence : Option (Nat × Nat)} (h : HoldsRing n s t) :
    HoldsRing n s (t.sendEnd c f fence) := by
  unfold State.sendEnd
  split
  · exact h.enqueue
  · exact h

theorem admits {c : TunCtx} {kind : Nat} {bytes : List (BitVec 8)} {last : Bool} {col : Nat} (h : HoldsRing n s t) :
    HoldsRing n s (t.admits c kind bytes last col) := by
  unfold State.admits
  extract_lets _ _ u
  have hu : HoldsRing n s u := h.ctxM
  exact hu.tunM.ite hu.sendEnd

theorem dropFirst {c : TunCtx} {a : Adm} (h : HoldsRing n s t) : HoldsRing n s (t.dropFirst c a) := by
  unfold State.dropFirst
  extract_lets u
  have hu : HoldsRing n s u := h.firstM.statDrop
  split
  · exact (hu.bump (beyond (by decide))).ite hu
  · exact hu

theorem meet {c : TunCtx} {ring : Option Nat} {f : HeldFrame} (h : HoldsRing n s t) : HoldsRing n s (t.meet c ring f).1 := by
  unfold State.meet
  split
  next hm => exact (h.admTest.of_fst hm).admits
  next hm => exact (h.admTest.of_fst hm).poolEvent
  next hm =>
    dsimp only
    exact (h.admTest.of_fst hm).dropFirst
  next hm => exact (h.admTest.of_fst hm).poolEvent.dropFirst

theorem ingressOf {ring : Option Nat} {ep typ kind : Nat} {bytes : List (BitVec 8)} {last yellow : Bool} (h : HoldsRing n s t) :
    HoldsRing n s (t.ingressOf ring ep typ kind bytes last yellow) := by
  unfold State.ingressOf
  split
  · exact h.noTunnel
  · split
    · exact h.noTunnel
    · split
      · exact h.tooLong
      · dsimp only
        split
        · exact h.ctxM
        · split
          next hm => exact h.meet.of_fst hm
          next hm => exact (h.meet.of_fst hm).firstM.ctxM

end HoldsRing

end Sys2Proof.Proofs
end

section
/-! SUPPORT. Rings and doorbells (R84 to R87): what a write of GLB_RCFG and a doorbell set and leave. -/

namespace Sys2Proof.Proofs

open Sys2Proof.Machine Sys2Proof.Laws

/-! ### Writes of GLB_RCFG (R86) -/

/-- A field that a mask leaves whole. -/
theorem bitsOf_and {v m : Word} {lo width : Nat} (h : ∀ i < width, m.toNat.testBit (lo + i) = true) :
    bitsOf (v &&& m) lo width = bitsOf v lo width := by
  apply Nat.eq_of_testBit_eq
  intro i
  simp only [bitsOf, Nat.testBit_mod_two_pow, Nat.testBit_div_two_pow, BitVec.toNat_and, Nat.testBit_and]
  by_cases hi : i < width
  · rw [Nat.add_comm i lo, h i hi, Bool.and_true]
  · simp [hi]

theorem rcfg_type (v : Word) : bitsOf (v &&& 0xFF7F1F07#32) 0 3 = bitsOf v 0 3 := bitsOf_and (by decide)

theorem rcfg_size (v : Word) : bitsOf (v &&& 0xFF7F1F07#32) 8 5 = bitsOf v 8 5 := bitsOf_and (by decide)

section
variable {s : State} {n : Nat} {v : Word}

theorem writeRcfg_enables (htype : s.get (F.GLB_RCFG_TYPE n) = 0) (hlo : 1 ≤ bitsOf v 0 3) (hhi : bitsOf v 0 3 ≤ 5)
    (hmin : 4 ≤ bitsOf v 8 5) (hmax : bitsOf v 8 5 ≤ 16) : s.writeRcfg n v = s.enableRing n v :=
  if_pos ⟨htype, by rwa [rcfg_type], by rwa [rcfg_type], by rwa [rcfg_size], by rwa [rcfg_size]⟩

theorem writeRcfg_disables (htype : 1 ≤ s.get (F.GLB_RCFG_TYPE n)) (hoff : bitsOf v 0 3 = 0) : s.writeRcfg n v = s.disableRing n v :=
  (if_neg fun h => by rw [rcfg_type, hoff] at h; omega).trans (if_pos ⟨htype, by rwa [rcfg_type]⟩)

/-- The bits that an enabled ring keeps are among the writable ones. -/
theorem rcfg_fixed (v : Word) : v &&& 0xFF7F1F07#32 &&& 0xFF001F07#32 = v &&& 0xFF001F07#32 := by
  rw [BitVec.and_assoc]
  rfl

theorem writeRcfg_changes (htype : 1 ≤ s.get (F.GLB_RCFG_TYPE n))
    (hfixed : s.rd (A.GLB_RCFG n) &&& 0xFF001F07#32 = v &&& 0xFF001F07#32) (hnew : s.rd (A.GLB_RCFG n) ≠ v &&& 0xFF7F1F07#32) :
    s.writeRcfg n v = s.wr (A.GLB_RCFG n) (v &&& 0xFF7F1F07#32) := by
  have hold : 1 ≤ bitsOf (s.rd (A.GLB_RCFG n)) 0 3 := htype
  have htypes : bitsOf (s.rd (A.GLB_RCFG n)) 0 3 = bitsOf (v &&& 0xFF7F1F07#32) 0 3 := by
    have hm : ∀ w : Word, bitsOf (w &&& 0xFF001F07#32) 0 3 = bitsOf w 0 3 := fun _ => bitsOf_and (by decide)
    rw [rcfg_type, ← hm, hfixed, hm]
  exact (if_neg fun h => by omega).trans ((if_neg fun h => by omega).trans (if_pos ⟨hfixed.trans (rcfg_fixed v).symm, hnew⟩))

end

theorem flushCpl_of_none {s : State} (h : s.ctl.heldCpl = []) : s.flushCpl = s.ctlM fun k => { k with heldCpl := [] } := by
  rw [State.flushCpl, h]
  rfl

/-- What is put in place of a ring's state is that ring's state. -/
theorem ring_setRing {s u : State} {n : Nat} {r : RingSt} (hr : r.ring = (s.ring n).ring) : (u.setRing r).ring n = r := by
  have hn : r.ring = n := hr.trans (ring_ring s n)
  have hsame := ring_setRing_same u r
  rwa [hn] at hsame

theorem enableRing_effect {s : State} (n : Nat) (v : Word) (hheld : s.ctl.heldCpl = []) :
    (s.enableRing n v).rd (A.GLB_RCFG n) = v &&& 0xFF7F1F07#32 ∧ (s.enableRing n v).rd (A.GLB_RIDX n) = 0 ∧
    ((s.enableRing n v).ring n).total = 0 ∧ ((s.enableRing n v).ring n).held = [] ∧ (s.enableRing n v).outs = s.outs ∧
    RegsAgreeOff (fun a => a = A.GLB_RCFG n ∨ a = A.GLB_RIDX n) s (s.enableRing n v) := by
  have hnothing : s.enableRing n v = (((s.wr (A.GLB_RCFG n) (v &&& 0xFF7F1F07#32)).wr (A.GLB_RIDX n) 0).setRing (RingSt.new n)).ctlM
      fun k => { k with heldCpl := [] } := flushCpl_of_none hheld
  have hring : (s.enableRing n v).ring n = RingSt.new n := by
    rw [hnothing]
    exact ring_setRing_same _ (RingSt.new n)
  rw [hring, hnothing]
  refine ⟨?_, rd_wr_same _ _ _, rfl, rfl, rfl, ?_⟩
  · exact (rd_wr_other _ _ (by simp only [A.GLB_RCFG, A.GLB_RIDX]; omega)).trans (rd_wr_same _ _ _)
  · intro a ha
    exact (rd_wr_other _ _ fun h => ha (.inr h)).trans (rd_wr_other _ _ fun h => ha (.inl h))

theorem disableRing_effect (s : State) (n : Nat) (v : Word) :
    (s.disableRing n v).rd (A.GLB_RCFG n) = v &&& 0xFF7F1F07#32 ∧ ((s.disableRing n v).ring n).held = [] ∧
    ((s.disableRing n v).ring n).posted = [] ∧ (s.disableRing n v).outs = s.outs ∧
    RegsAgreeOff (fun a => a = A.GLB_RCFG n ∨ a = A.EVT_DROP) s (s.disableRing n v) := by
  have hsame : (s.disableRing n v).regs = ((s.dropHeld n).wr (A.GLB_RCFG n) (v &&& 0xFF7F1F07#32)).regs ∧
      (s.disableRing n v).ctl = (s.dropHeld n).ctl ∧ (s.disableRing n v).outs = (s.dropHeld n).outs := by
    unfold State.disableRing
    dsimp only
    split <;> exact ⟨rfl, rfl, rfl⟩
  obtain ⟨hregs, hctl, houts⟩ := hsame
  have hring : (s.disableRing n v).ring n = { s.ring n with held := [], posted := [] } :=
    (ring_of_rings_eq (congrArg CtlSt.rings hctl) n).trans (ring_setRing (s := s) rfl)
  have hdropped : RegsAgreeOff (fun a => a = A.GLB_RCFG n ∨ a = A.EVT_DROP) s (s.dropHeld n) :=
    regsAgreeOff_trans (regsAgreeOff_foldl _ (fun _ _ _ => regsAgreeOff_bump (.inr rfl)) s) (regsAgreeOff_of_regs_eq rfl)
  have hsilent : (s.dropHeld n).outs = s.outs :=
    List.foldlRecOn (motive := fun t : State => t.outs = s.outs) _ _ rfl fun t ht _ _ => (bump_outs t _).trans ht
  rw [hring]
  refine ⟨?_, rfl, rfl, houts.trans hsilent, ?_⟩
  · exact (congrArg (RegFile.get · _) hregs).trans (rd_wr_same _ _ _)
  · intro a ha
    exact (congrArg (RegFile.get · a) hregs).trans ((rd_wr_other _ _ fun h => ha (.inl h)).trans (hdropped a ha))

/-! ### Doorbells (R87) -/

/-- The host index of ring `n` stands, whatever ring the device steps. -/
def HoldsHostIdx (n : Nat) (s t : State) : Prop := t.get (F.GLB_RIDX_HOSTIDX n) = s.get (F.GLB_RIDX_HOSTIDX n)

namespace HoldsHostIdx

variable {n : Nat} {s t : State}

theorem ite {u : State} {c : Prop} [Decidable c] (h : HoldsHostIdx n s t) (k : HoldsHostIdx n s u) :
    HoldsHostIdx n s (if c then t else u) := by
  split <;> assumption

theorem foldl {α : Type} {g : State → α → State} (h : HoldsHostIdx n s t) (as : List α)
    (hg : ∀ u a, HoldsHostIdx n s u → HoldsHostIdx n s (g u a)) : HoldsHostIdx n s (as.foldl g t) :=
  List.foldlRecOn as g h fun u hu a _ => hg u a hu

theorem emit {o : Out} (h : HoldsHostIdx n s t) : HoldsHostIdx n s (t.emit o) := h
theorem ctlM {g : CtlSt → CtlSt} (h : HoldsHostIdx n s t) : HoldsHostIdx n s (t.ctlM g) := h
theorem setRing {r : RingSt} (h : HoldsHostIdx n s t) : HoldsHostIdx n s (t.setRing r) := h

theorem ringStep {m : Nat} (h : HoldsHostIdx n s t) : HoldsHostIdx n s (t.ringStep m) :=
  (get_put_apart _ _ (by simp [F.GLB_RIDX_DEVIDX]) (.inr (.inl (by simp [F.GLB_RIDX_DEVIDX, F.GLB_RIDX_HOSTIDX])))).trans h

section
variable (hn : n < 256)
include hn

theorem msix {fn v : Nat} (h : HoldsHostIdx n s t) : HoldsHostIdx n s (t.msix fn v) := by
  have hpend : (t.put (pbaBit fn v) 1).get (F.GLB_RIDX_HOSTIDX n) = t.get (F.GLB_RIDX_HOSTIDX n) :=
    get_put_apart _ _ (by simp only [pbaBit]; omega) (.inl (by simp only [pbaBit, A.MSIX_PBA, F.GLB_RIDX_HOSTIDX, A.GLB_RIDX]; omega))
  exact ite (hpend.trans h) h.emit

theorem signal {v : Nat} (h : HoldsHostIdx n s t) : HoldsHostIdx n s (t.signal v) := by
  unfold State.signal
  split
  · exact h.msix hn
  · split
    · exact h
    · exact h.ctlM.msix hn

theorem writeCpl {m : Nat} {c : Cpl} (h : HoldsHostIdx n s t) : HoldsHostIdx n s (t.writeCpl m c) :=
  (h.emit.emit.ringStep.signal hn).ite h.emit.emit.ringStep

theorem flushCpl (h : HoldsHostIdx n s t) : HoldsHostIdx n s t.flushCpl :=
  h.ctlM.foldl _ fun _ _ hu => (hu.writeCpl hn).ite hu.ctlM

theorem writeRecord {m : Nat} {r : EvRec} (h : HoldsHostIdx n s t) : HoldsHostIdx n s (t.writeRecord m r) :=
  h.setRing.emit.emit.ringStep.signal hn

theorem flushRecords {m : Nat} (h : HoldsHostIdx n s t) : HoldsHostIdx n s (t.flushRecords m) :=
  h.setRing.foldl _ fun _ _ hu => (hu.writeRecord hn).ite hu.setRing

/-- What a valid doorbell lets go on leaves the index it sets. -/
theorem ringDoorbell (s : State) (v : Word) (bufs : List PostedBuf) :
    (s.ringDoorbell n v bufs).get (F.GLB_RIDX_HOSTIDX n) = bitsOf v 0 16 := by
  have hset : (s.setHostIdx n (bitsOf v 0 16)).get (F.GLB_RIDX_HOSTIDX n) = bitsOf v 0 16 :=
    (get_put_same _ _ (by simp [F.GLB_RIDX_HOSTIDX])).trans (Nat.mod_eq_of_lt (bitsOf_lt v 0 16))
  have hstart : HoldsHostIdx n (s.setHostIdx n (bitsOf v 0 16)) (s.setHostIdx n (bitsOf v 0 16)) := rfl
  unfold State.ringDoorbell
  dsimp only
  split
  · exact (hstart.flushCpl hn).trans hset
  · exact (hstart.flushRecords hn).trans hset
  · exact hset
  · exact hset

end

end HoldsHostIdx

theorem flushRecords_leaves (s : State) (n : Nat) : Leaves eventParts s (s.flushRecords n) :=
  leaves_trans (leaves_mono (by simp) (setRing_leaves _ _)) (leaves_foldl (fun _ _ =>
    leaves_ite (writeRecord_leaves _ _ _) (leaves_mono (by simp) (setRing_leaves _ _))) _ _)

theorem ringDoorbell_tun (s : State) (n : Nat) (v : Word) (bufs : List PostedBuf) : (s.ringDoorbell n v bufs).tun = s.tun := by
  unfold State.ringDoorbell
  dsimp only
  split
  · exact flushCpl_leaves _ .tun (by decide)
  · exact flushRecords_leaves _ n .tun (by decide)
  · rfl
  · rfl

/-- With no frame that waits for a buffer none is handed over. -/
theorem flushAllWaiting_of_none {s : State} (h : ∀ c ∈ s.tun.ctxs, c.waiting = []) : s.flushAllWaiting = s :=
  List.foldlRecOn (motive := fun t => t = s) _ _ rfl fun t ht c hc => by rw [if_pos (h c hc), ht]

theorem doorbell_sets {s : State} {n : Nat} {v : Word} (bufs : List PostedBuf) (hn : n < 256) (hopen : s.fnOpen = true)
    (hok : s.doorbellOk n v = true) (hnone : ∀ c ∈ s.tun.ctxs, c.waiting = []) : Does (.doorbell n v bufs) s fun t =>
      t.get (F.GLB_RIDX_HOSTIDX n) = bitsOf v 0 16 := by
  have hrest : (s.ringDoorbell n v bufs).flushAllWaiting = s.ringDoorbell n v bufs :=
    flushAllWaiting_of_none (by rwa [ringDoorbell_tun])
  exact ⟨_, congrArg Host.Outcome.next ((if_neg (by simp [hopen]; omega)).trans ((if_pos hok).trans hrest)),
    HoldsHostIdx.ringDoorbell hn s v bufs⟩

/-- A doorbell of a disabled ring is counted, and the ring stays as it is. -/
theorem doorbell_disabled {s : State} {n : Nat} (v : Word) (bufs : List PostedBuf) (hn : n < 256) (hopen : s.fnOpen = true)
    (htype : s.get (F.GLB_RCFG_TYPE n) = 0) : Does (.doorbell n v bufs) s fun t =>
      t.get F.GLB_DBIGN = min (s.get F.GLB_DBIGN + 1) (2 ^ 32 - 1) ∧
      t.get (F.GLB_RIDX_HOSTIDX n) = s.get (F.GLB_RIDX_HOSTIDX n) ∧ t.rd (A.GLB_RCFG n) = s.rd (A.GLB_RCFG n) := by
  have hbad : s.doorbellOk n v = false := by simp [State.doorbellOk, htype]
  have hkeeps : KeepsRing n s (s.tally F.GLB_DBIGN) := (KeepsRing.refl n s).tally hn (by simp [htype]) (.inl (by decide))
  exact ⟨_, congrArg Host.Outcome.next ((if_neg (by simp [hopen]; omega)).trans (if_neg (by simp [hbad]))),
    tally_get_same _ (by decide) (not_eventReg_of_lt (by decide)), hkeeps.hostIdx, hkeeps.cfg⟩

theorem doorbell_closed {s : State} (n : Nat) (v : Word) (bufs : List PostedBuf) (hclosed : s.fnOpen = false) :
    exec (.doorbell n v bufs) s = .next s :=
  congrArg Host.Outcome.next (if_pos (by simp [hclosed]))

end Sys2Proof.Proofs
end

section
/-! SUPPORT. Vectors, event records and data-out descriptors (R95 to R100), with the proof of O1. -/

namespace Sys2Proof.Proofs

open Sys2Proof.Machine Sys2Proof.Laws

/-! ### The holdoff of a vector (R98) -/

theorem holdoffExpiry_msix {s : State} {v : Nat} (hup : s.up = true) (hpending : s.ctl.vecs.find? (fun e => e.1 == v) = some (v, true)) :
    exec (.holdoffExpiry v) s =
      .next ((s.ctlM fun k => { k with vecs := updBy (fun e => e.1 == v) (fun e => (e.1, false)) k.vecs }).msix 0 v) := by
  refine congrArg Host.Outcome.next ((whenUp_of hup _).trans ?_)
  rw [hpending]

theorem holdoffExpiry_sends {s : State} {v : Nat} (hup : s.up = true) (hpending : s.ctl.vecs.find? (fun e => e.1 == v) = some (v, true))
    (hmask : s.bit (F.MSIX_CTRL_MASK 0 v) = false) : Does (.holdoffExpiry v) s fun t =>
      t.outs = s.outs ++ [.msix 0 v (s.get (F.MSIX_ADDRLO_ADDR 0 v) * 4 + s.get (F.MSIX_ADDRHI_ADDR 0 v) * 2 ^ 32)
        (s.rd (A.MSIX_DATA 0 v))] ∧ t.regs = s.regs := by
  refine ⟨_, (holdoffExpiry_msix hup hpending).trans (congrArg Host.Outcome.next (if_neg ?_)), rfl, rfl⟩
  exact fun h => absurd (hmask.symm.trans h) (by decide)

theorem holdoffExpiry_pends {s : State} {v : Nat} (hup : s.up = true) (hpending : s.ctl.vecs.find? (fun e => e.1 == v) = some (v, true))
    (hmask : s.bit (F.MSIX_CTRL_MASK 0 v) = true) : Does (.holdoffExpiry v) s fun t =>
      t.outs = s.outs ∧ t.regs = (s.put (pbaBit 0 v) 1).regs :=
  ⟨_, (holdoffExpiry_msix hup hpending).trans (congrArg Host.Outcome.next (if_pos hmask)), rfl, rfl⟩

/-! ### Event records (R99, R100) -/

theorem writeRecord_sends (s : State) (n : Nat) (r : EvRec) : Sends s (s.writeRecord n r)
    (.record n (s.get (F.GLB_RIDX_DEVIDX n)) (((s.ring n).seq + 1) % 65536) (s.ringPhase n) (s.ring n).dropped r) :=
  sends_between (Grows.refl s).setRing.emit (Grows.refl (State.emit _ _)).ringStep.signal

theorem eventFrame_recorded {s : State} {r : EvRec} {n : Nat} (hup : s.up = true) (hhost : s.isHost = true)
    (hen : s.get (F.EVT_GMAP_EN (r.evnum / 8)) = 1) (hmap : s.get (F.EVT_GMAP_RING (r.evnum / 8)) = n)
    (htype : s.get (F.GLB_RCFG_TYPE n) = 3) (hheld : (s.ring n).held = []) (hfree : 0 < s.ringFree n) :
    Does (.eventFrameReceive r) s fun t =>
      Sends s t (.record n (s.get (F.GLB_RIDX_DEVIDX n)) (((s.ring n).seq + 1) % 65536) (s.ringPhase n) (s.ring n).dropped
        { r with remote := true }) := by
  subst hmap
  have hwritten : s.recordEvent { r with remote := true } =
      s.writeRecord (s.get (F.EVT_GMAP_RING (r.evnum / 8))) { r with remote := true } :=
    (if_neg (by simp [hen, htype])).trans (if_pos ⟨hheld, hfree⟩)
  refine ⟨_, congrArg Host.Outcome.next ((whenUp_of hup _).trans (if_pos hhost)), ?_⟩
  rw [hwritten]
  exact sends_trans (writeRecord_sends s _ _) (Grows.refl _).hearLink

theorem eventRecordFlush_writes {s : State} {n : Nat} {r : EvRec} {rest : List EvRec} (hup : s.up = true)
    (htype : s.get (F.GLB_RCFG_TYPE n) = 3) (hheld : (s.ring n).held = r :: rest) (hfree : 0 < s.ringFree n) :
    Does (.eventRecordFlush n) s fun t =>
      Sends s t (.record n (s.get (F.GLB_RIDX_DEVIDX n)) (((s.ring n).seq + 1) % 65536) (s.ringPhase n) (s.ring n).dropped r) := by
  refine ⟨_, congrArg Host.Outcome.next ((whenUp_of hup _).trans (if_pos htype)), ?_⟩
  have hring : (s.setRing { s.ring n with held := [] }).ring n = { s.ring n with held := [] } := ring_setRing (s := s) rfl
  have hroom : ((s.setRing { s.ring n with held := [] }).ring n).held = [] ∧ 0 < (s.setRing { s.ring n with held := [] }).ringFree n := by
    refine ⟨by rw [hring], ?_⟩
    rw [State.ringFree, State.ringUnread, hring]
    exact hfree
  have hphase : (s.setRing { s.ring n with held := [] }).ringPhase n = s.ringPhase n := by
    rw [State.ringPhase, hring]
    rfl
  have hfirst := writeRecord_sends (s.setRing { s.ring n with held := [] }) n r
  rw [hphase, hring] at hfirst
  rw [State.flushRecords, hheld, List.foldl_cons, if_pos hroom]
  exact sends_trans hfirst ((Grows.refl _).foldl rest fun _ _ hu => hu.writeRecord.ite hu.setRing)

/-! ### Data-out descriptors (R95, R96) -/

theorem dataOutBack_sends (s : State) (n status len : Nat) : Sends s (s.dataOutBack n status len)
    (.writeback n (s.get (F.GLB_RIDX_DEVIDX n)) (s.ringPhase n) status len) :=
  sends_between (Grows.refl s).descBack (Grows.refl (State.emit _ _)).ringStep

/-- The state in which the frame of a descriptor has been offered, read and admitted. -/
def offered (s : State) (n : Nat) (c : TunCtx) (d : DataOut) : State :=
  ((s.offerRing n c.ep 8 d.len false).1.readSegs d).ingressOf (some n) c.ep 8 0x11 (DataOut.frame d) false false

theorem offered_grows (s : State) (n : Nat) (c : TunCtx) (d : DataOut) : Grows s (offered s n c d) :=
  (Grows.refl s).offerRing.readSegs.ingressOf

theorem offered_holds {s : State} {n : Nat} (c : TunCtx) (d : DataOut) (hn : n < 256) (htype : s.get (F.GLB_RCFG_TYPE n) ≠ 3) :
    HoldsRing n s (offered s n c d) := (HoldsRing.refl hn htype).offerRing.emits.ingressOf

section
variable {s : State} {n : Nat} (d : DataOut) (hup : s.up = true) (hhost : s.isHost = true) (htype : s.get (F.GLB_RCFG_TYPE n) = 4)
  (hwaits : s.ringWaiting n ≠ 0)
include hup hhost htype hwaits

theorem dataOut_closed (hend : s.dataEnd n = none) : Does (.dataOutDescriptor n d) s fun t =>
    Sends s t (.writeback n (s.get (F.GLB_RIDX_DEVIDX n)) (s.ringPhase n) 0x07 0) := by
  refine ⟨s.dataOutBack n 0x07 0,
    congrArg Host.Outcome.next ((whenUp_of hup _).trans ((if_neg (by simp [hhost, htype, hwaits])).trans ?_)),
    dataOutBack_sends s n 0x07 0⟩
  rw [hend]

/-- A good descriptor of an end that may be used is offered; one that need not wait is read, taken and written back. -/
theorem dataOut_taken {c : TunCtx} (hn : n < 256) (hend : s.dataEnd n = some c) (hopen : c.state ≠ 4) (huse : s.mayUse c = true)
    (hop : d.opcode = 1) (hclean : d.clean = true) (hseg : 1 ≤ d.nseg) (hsegs : d.nseg ≤ 4) (hlen : 1 ≤ d.len)
    (hmax : d.len ≤ lenMax c.par.cls) (hsum : (d.segs.map (·.2)).sum = d.len)
    (hgo : (s.offerRing n c.ep 8 d.len false).2 ≠ 1) : Does (.dataOutDescriptor n d) s fun t =>
      Sends s t (.writeback n (s.get (F.GLB_RIDX_DEVIDX n)) (s.ringPhase n) 0x00 d.len) := by
  have hgood : ¬ (d.nseg = 0 ∨ 4 < d.nseg ∨ d.len = 0 ∨ (d.segs.map (·.2)).sum ≠ d.len) := by simp [hsum]; omega
  refine ⟨((offered s n c d).dataOutBack n 0x00 d.len).flushLoop,
    congrArg Host.Outcome.next ((whenUp_of hup _).trans ((if_neg (by simp [hhost, htype, hwaits])).trans ?_)), ?_⟩
  · rw [hend]
    refine (if_neg hopen).trans ((if_neg (by simp [huse])).trans ((if_neg (by simp [hop])).trans ((if_neg (by simp [hclean])).trans
      ((if_neg (by omega)).trans ((if_neg hgood).trans ?_)))))
    split
    next hm => exact absurd (congrArg Prod.snd hm) hgo
    next hm => rw [offered, hm]
  · obtain ⟨-, -, hring⟩ := offered_holds (s := s) c d hn (by simp [htype])
    have hback := dataOutBack_sends (offered s n c d) n 0x00 d.len
    rw [hring.devIdx, hring.phase] at hback
    exact sends_trans ((offered_grows s n c d).sends hback) (Grows.refl _).flushLoop

end

/-- A write of GLB_RCFG while the host's bus is open. -/
theorem rcfgWrite_of {s : State} {n : Nat} (v : Word) (hn : n < 256) (hbus : s.busOpen .host = true) :
    (if n < 256 ∧ s.busOpen .host = true then s.writeRcfg n v else s) = s.writeRcfg n v := if_pos ⟨hn, hbus⟩

/-- Settles O1: rings, doorbells, vectors, event records and data-out descriptors, each by the rules of the state it changes. -/
theorem ringAndEventRows : Obligations.RingAndEventRows := by
  unfold Obligations.RingAndEventRows
  exact ⟨fun _ n v hn hbus htype hlo hhi hmin hmax hheld =>
      ⟨_, congrArg Host.Outcome.next ((rcfgWrite_of v hn hbus).trans (writeRcfg_enables htype hlo hhi hmin hmax)),
        enableRing_effect n v hheld⟩,
    fun s n v hn hbus htype hoff =>
      ⟨_, congrArg Host.Outcome.next ((rcfgWrite_of v hn hbus).trans (writeRcfg_disables htype hoff)), disableRing_effect s n v⟩,
    fun _ _ v hn hbus htype hfixed hnew =>
      ⟨_, congrArg Host.Outcome.next ((rcfgWrite_of v hn hbus).trans (writeRcfg_changes htype hfixed hnew)), rfl⟩,
    fun _ _ _ bufs hn hopen hok hnone => doorbell_sets bufs hn hopen hok hnone,
    fun _ _ v bufs hn hopen htype => doorbell_disabled v bufs hn hopen htype,
    fun _ n v bufs hclosed => doorbell_closed n v bufs hclosed,
    fun _ _ hup hpending hmask => holdoffExpiry_sends hup hpending hmask,
    fun _ _ hup hpending hmask => holdoffExpiry_pends hup hpending hmask,
    fun _ _ hup hhost _ hen htype hheld hfree => eventFrame_recorded hup hhost hen rfl htype hheld hfree,
    fun _ _ _ _ hup _ htype hheld hfree => eventRecordFlush_writes hup htype hheld hfree,
    fun _ _ d _ hup hn hhost htype hwaits hend hopen huse hop hclean hseg hsegs hlen _ hmax hsum _ hgo =>
      dataOut_taken d hup hhost htype hwaits hn hend hopen huse hop hclean hseg hsegs hlen hmax hsum hgo,
    fun _ _ d hup _ hhost htype hwaits hend => dataOut_closed d hup hhost htype hwaits hend⟩

end Sys2Proof.Proofs
end

section
/-! SUPPORT. What events, completions, the fault log, the keys and the schedules leave of the Adit ports: their bring-up state, and the
fields that neither a ring's index nor the close of a fault reaches. -/

namespace Sys2Proof.Proofs

open Sys2Proof.Machine Sys2Proof.Laws

/-! ### Fields of the Adit ports -/

/-- Where the registers of the Adit ports and PWR_STAT lie. -/
abbrev PortAddr (a : Nat) : Prop := a = A.PWR_STAT ∨ 0x40000 ≤ a ∧ a < 0x70000

/-- A field of these registers that neither a completion's ring index nor the close of a fault reaches, whatever number the state gives
the ring or the entry. -/
structure PortFld (f : Fld) : Prop where
  addr : PortAddr f.addr
  index : ∀ n, FldApart (F.GLB_RIDX_DEVIDX n) f
  done : ∀ e, FldApart ⟨A.FLT_ENT1 e, 10, 1⟩ f
  recov : ∀ e, FldApart (F.FLT_ENT7 e) f

theorem portFld_of {a lo width : Nat} (ha : PortAddr a) (hindex : a % 16 ≠ 12 ∨ 16 ≤ lo)
    (hdone : a % 32 ≠ 4 ∨ lo + width ≤ 10 ∨ 11 ≤ lo) (hrecov : a % 32 ≠ 28) : PortFld ⟨a, lo, width⟩ where
  addr := ha
  index n := by simp only [FldApart, F.GLB_RIDX_DEVIDX, A.GLB_RIDX]; omega
  done e := by simp only [FldApart, A.FLT_ENT1]; omega
  recov e := by simp only [FldApart, F.FLT_ENT7, A.FLT_ENT7]; omega

/-- A field of port `p`, its address given as port 0's. -/
theorem portFld_of_base {p b lo width : Nat} (hp : p < 3)
    (h : 0x40000 ≤ b ∧ b < 0x50000 ∧ (b % 16 ≠ 12 ∨ 16 ≤ lo) ∧ (b % 32 ≠ 4 ∨ lo + width ≤ 10 ∨ 11 ≤ lo) ∧ b % 32 ≠ 28) :
    PortFld ⟨b + 0x10000 * p, lo, width⟩ :=
  portFld_of (.inr (by omega)) (by omega) (by omega) (by omega)

theorem portFld_pwrCur : PortFld F.PWR_STAT_CUR := portFld_of (.inl rfl) (by decide) (by decide) (by decide)
theorem portFld_pwrPhase : PortFld F.PWR_STAT_PHASE := portFld_of (.inl rfl) (by decide) (by decide) (by decide)

section
variable {p : Nat} (hp : p < 3)
include hp

theorem portFld_ctrlEn : PortFld (F.ADT_CTRL_EN p) := portFld_of_base hp (by decide)
theorem portFld_ctrlDark : PortFld (F.ADT_CTRL_DARK p) := portFld_of_base hp (by decide)
theorem portFld_state : PortFld (F.ADT_STAT_STATE p) := portFld_of_base hp (by decide)
theorem portFld_txLanes : PortFld (F.ADT_STAT_TXLANES p) := portFld_of_base hp (by decide)
theorem portFld_rxLanes : PortFld (F.ADT_STAT_RXLANES p) := portFld_of_base hp (by decide)
theorem portFld_lastFail : PortFld (F.ADT_STAT_LASTFAIL p) := portFld_of_base hp (by decide)
theorem portFld_entered : PortFld (F.ADT_ALT_ENTERED p) := portFld_of_base hp (by decide)
theorem portFld_txUse : PortFld (F.ADT_LANE_TXUSE p) := portFld_of_base hp (by decide)
theorem portFld_rxUse : PortFld (F.ADT_LANE_RXUSE p) := portFld_of_base hp (by decide)
theorem portFld_skew : PortFld (F.ADT_SKEW_SKEW p) := portFld_of_base hp (by decide)

theorem portFld_rxCause (l : Nat) : PortFld (rxCause p l) := by
  unfold rxCause
  split <;> exact portFld_of_base hp (by decide)

end

/-- No event reaches the registers of a port. -/
theorem not_portAddr_of_eventReg {a : Nat} (h : EventReg a) : ¬ PortAddr a := by
  rintro (rfl | ⟨hlo, hhi⟩) <;> obtain ⟨k, hk, he⟩ | he | ⟨n, hn, he⟩ | ⟨n, hn, hn', he⟩ | ⟨w, hw, he⟩ := h
  all_goals simp only [A.PWR_STAT, A.EVT_STAT, F.EVT_DROP, A.EVT_DROP, A.GLB_RIDX, F.HWR_EVOVF, A.HWR_EVOVF, A.MSIX_PBA] at he
  all_goals omega

/-! ### Keeping the ports -/

/-- From `s` to `t` the ports' fields, their bring-up state, and what tells whether they run stay as they were. -/
structure KeepsPorts (s t : State) : Prop where
  get : ∀ f, PortFld f → t.get f = s.get f
  ports : t.ports = s.ports
  boot : t.boot = s.boot
  pwr : t.pwr = s.pwr

namespace KeepsPorts

variable {s t u : State}

theorem refl (s : State) : KeepsPorts s s := ⟨fun _ _ => rfl, rfl, rfl, rfl⟩

theorem trans (h : KeepsPorts s t) (k : KeepsPorts t u) : KeepsPorts s u :=
  ⟨fun f hf => (k.get f hf).trans (h.get f hf), k.ports.trans h.ports, k.boot.trans h.boot, k.pwr.trans h.pwr⟩

theorem ite {c : Prop} [Decidable c] (h : KeepsPorts s t) (k : KeepsPorts s u) : KeepsPorts s (if c then t else u) := by
  split <;> assumption

theorem foldl {α : Type} {g : State → α → State} (h : KeepsPorts s t) (as : List α)
    (hg : ∀ u, ∀ a ∈ as, KeepsPorts s u → KeepsPorts s (g u a)) : KeepsPorts s (as.foldl g t) :=
  List.foldlRecOn as g h fun u hu a ha => hg u a ha hu

/-- An operation on another part of the state. -/
theorem same (h : KeepsPorts s t) (hr : u.regs = t.regs) (hp : u.ports = t.ports) (hb : u.boot = t.boot) (hw : u.pwr = t.pwr) :
    KeepsPorts s u :=
  h.trans ⟨fun _ _ => by simp only [State.get, State.rd, hr], hp, hb, hw⟩

/-- An operation that changes registers elsewhere and none of the parts. -/
theorem elsewhere {l : List Part} {q : Nat → Prop} (h : KeepsPorts s t) (hl : Leaves l t u)
    (hparts : Part.ports ∉ l ∧ Part.boot ∉ l ∧ Part.pwr ∉ l) (hr : RegsAgreeOff q t u) (hq : ∀ a, q a → ¬ PortAddr a) :
    KeepsPorts s u :=
  h.trans ⟨fun _ hf => get_of_regsAgreeOff hr fun hqa => hq _ hqa hf.addr, hl .ports hparts.1, hl .boot hparts.2.1, hl .pwr hparts.2.2⟩

theorem event (h : KeepsPorts s t) (hl : Leaves eventParts t u) (hr : RegsAgreeOff EventReg t u) : KeepsPorts s u :=
  h.elsewhere hl (by decide) hr fun _ => not_portAddr_of_eventReg

/-! ### Registers, outputs and the parts of the state -/

theorem wr {a : Nat} {v : Word} (h : KeepsPorts s t) (ha : ¬ PortAddr a) : KeepsPorts s (t.wr a v) :=
  h.elsewhere (wr_leaves t a v) (by decide) (q := (· = a)) (fun _ hb => rd_wr_other t v hb) fun _ e => e ▸ ha

theorem put {f : Fld} {v : Nat} (h : KeepsPorts s t) (hf : ¬ PortAddr f.addr) : KeepsPorts s (t.put f v) := h.wr hf

theorem putBit {f : Fld} {b : Bool} (h : KeepsPorts s t) (hf : ¬ PortAddr f.addr) : KeepsPorts s (t.putBit f b) := h.put hf

theorem addMod {f : Fld} {n : Nat} (h : KeepsPorts s t) (hf : ¬ PortAddr f.addr) : KeepsPorts s (t.addMod f n) := h.put hf

theorem bump {f : Fld} (h : KeepsPorts s t) (hf : ¬ PortAddr f.addr) : KeepsPorts s (t.bump f) := (h.put hf).ite h

/-- A field apart from those of the ports, wherever it lies. -/
theorem putApart {f : Fld} {v : Nat} (h : KeepsPorts s t) (hf : f.lo + f.width ≤ 32) (ha : ∀ g, PortFld g → FldApart f g) :
    KeepsPorts s (t.put f v) :=
  h.trans ⟨fun g hg => get_put_other t v hf (ha g hg), rfl, rfl, rfl⟩

theorem emit {o : Out} (h : KeepsPorts s t) : KeepsPorts s (t.emit o) := h.same rfl rfl rfl rfl
theorem ctlM {g : CtlSt → CtlSt} (h : KeepsPorts s t) : KeepsPorts s (t.ctlM g) := h.same rfl rfl rfl rfl
theorem ksM {g : KeyStSt → KeyStSt} (h : KeepsPorts s t) : KeepsPorts s (t.ksM g) := h.same rfl rfl rfl rfl
theorem schM {p : Nat} {g : SchSt → SchSt} (h : KeepsPorts s t) : KeepsPorts s (t.schM p g) := h.same rfl rfl rfl rfl
theorem linkM {p : Nat} {g : LinkSt → LinkSt} (h : KeepsPorts s t) : KeepsPorts s (t.linkM p g) := h.same rfl rfl rfl rfl
theorem fabM {g : FabSt → FabSt} (h : KeepsPorts s t) : KeepsPorts s (t.fabM g) := h.same rfl rfl rfl rfl
theorem fltSet {x : FltSt} (h : KeepsPorts s t) : KeepsPorts s { t with flt := x } := h.same rfl rfl rfl rfl
theorem commitsSet {x : List CommitReq} (h : KeepsPorts s t) : KeepsPorts s { t with commits := x } := h.same rfl rfl rfl rfl

/-! ### Events and completions (R89, R97 to R100) -/

theorem raiseWith {ev grantee : Nat} {masked : Bool} {vals : List Nat} (h : KeepsPorts s t) (hev : ev < 512) :
    KeepsPorts s (t.raiseWith ev masked grantee vals) :=
  h.event (raiseWith_leaves _ _ _ _ _) (raiseBytes_regs_agree _ _ _ _ hev)

theorem raise {g b : Nat} {vals : List Nat} (h : KeepsPorts s t) (hev : 8 * g + b < 512) : KeepsPorts s (t.raise g b vals) :=
  h.raiseWith hev

theorem signal {v : Nat} (h : KeepsPorts s t) (hv : v < 64) : KeepsPorts s (t.signal v) :=
  h.event (signal_leaves _ _) (signal_regs_agree _ (eventReg_pba hv))

theorem ringStep {n : Nat} (h : KeepsPorts s t) : KeepsPorts s (t.ringStep n) :=
  h.ctlM.putApart (f := F.GLB_RIDX_DEVIDX n) (by simp [F.GLB_RIDX_DEVIDX]) fun _ hg => hg.index n

theorem writeCpl {n : Nat} {c : Cpl} (h : KeepsPorts s t) : KeepsPorts s (t.writeCpl n c) :=
  (h.emit.emit.ringStep.signal (get_lt t (F.GLB_RCFG_VEC n))).ite h.emit.emit.ringStep

theorem complete {c : Cpl} (h : KeepsPorts s t) : KeepsPorts s (t.complete c) := h.writeCpl.ite h.ctlM

theorem finish {k : InFlight} {code : Nat} {result : BitVec 448} (h : KeepsPorts s t) : KeepsPorts s (t.finish k code result) :=
  h.ctlM.complete

theorem reply {r : Reply} {code : Nat} {result : BitVec 448} (h : KeepsPorts s t) : KeepsPorts s (t.reply r code result) := by
  cases r with
  | host k => exact h.finish
  | mgmt fid id => exact h.emit
  | noOne => exact h

/-! ### The fault log (R493 to R497) -/

theorem loseEntry {e : Nat} (h : KeepsPorts s t) : KeepsPorts s (t.loseEntry e) :=
  (((h.raise (by decide)).ite h).bump (by decide)).ite h

theorem writeEntry {e seq cls flags group unit rel detail recov : Nat} (h : KeepsPorts s t) (he : e < 256) :
    KeepsPorts s (t.writeEntry e seq cls flags group unit rel detail recov) := by
  have hent : ∀ k, k < 32 → ¬ PortAddr (0x15000 + k + 32 * e) := fun k hk => by simp only [PortAddr, A.PWR_STAT]; omega
  exact ((((((((h.put (hent 0 (by decide))).put (hent 4 (by decide))).put (hent 8 (by decide))).put (hent 12 (by decide))).put
    (hent 16 (by decide))).put (hent 20 (by decide))).put (hent 24 (by decide))).put (hent 28 (by decide)))

theorem logFault {cls unit group : Nat} {masked : Bool} {detail : Nat} (h : KeepsPorts s t) (hcls : cls < 8) :
    KeepsPorts s (t.logFault cls unit group masked detail) := by
  have htally : ¬ PortAddr (F.FLT_CLS cls).addr := by simp only [PortAddr, A.PWR_STAT, F.FLT_CLS, A.FLT_CLS]; omega
  unfold State.logFault
  extract_lets +onlyGivenNames _ _ _ _ _ u
  have hu : KeepsPorts s u :=
    ((h.loseEntry.writeEntry (get_lt t F.FLT_HEAD_NEXT)).put (f := F.FLT_HEAD_NEXT) (by decide)).put (f := F.FLT_SEQ_NEXT) (by decide)
  clear_value u
  extract_lets +onlyGivenNames _ v
  have hv : KeepsPorts s v := hu.fltSet
  clear_value v
  extract_lets _ w x y z
  have hw : KeepsPorts s w := hv.ite hv.fltSet
  have hx : KeepsPorts s x := (hw.put (by decide)).bump htally
  have hy : KeepsPorts s y := hx.bump (by split <;> decide)
  have hz : KeepsPorts s z := (hy.raiseWith (by decide)).ite (hy.raise (by decide))
  exact hz.ite (hz.raiseWith (by decide))

theorem closeFault {o : OpenFault} (h : KeepsPorts s t) : KeepsPorts s (t.closeFault o) := by
  unfold State.closeFault
  extract_lets logged log closed counted
  have hlogged : KeepsPorts s logged :=
    (h.putApart (f := F.FLT_ENT7 o.idx) le_rfl fun _ hg => hg.recov o.idx).putApart (f := ⟨A.FLT_ENT1 o.idx, 10, 1⟩) (by norm_num)
      fun _ hg => hg.done o.idx
  have hcounted : KeepsPorts s counted := hlogged.fltSet.put (by decide)
  exact hcounted.ite (hcounted.raise (by decide))

theorem closeFaults {q : OpenFault → Bool} (h : KeepsPorts s t) : KeepsPorts s (t.closeFaults q) :=
  h.foldl _ fun _ _ _ hu => hu.closeFault

/-! ### The keys of a link (R474, R479) -/

theorem keyRegs (h : KeepsPorts s t) : KeepsPorts s t.keyRegs :=
  (((h.putBit (by decide)).put (by decide)).put (by decide)).put (by decide)

theorem eraseKey {n : Nat} (h : KeepsPorts s t) : KeepsPorts s (t.eraseKey n) := h.ksM.keyRegs

theorem dropLinkKeys {p : Nat} (h : KeepsPorts s t) : KeepsPorts s (t.dropLinkKeys p) :=
  (h.foldl _ fun _ _ _ hu => hu.eraseKey).ite h

/-! ### Schedules (R205, R216, R219) -/

/-- The block of a port's scheduler, and what follows it. -/
theorem not_portAddr_of_sch {a : Nat} (h : 0xA0000 ≤ a) : ¬ PortAddr a := by
  simp only [PortAddr, A.PWR_STAT]
  omega

theorem copyRegs {src dst n : Nat} (h : KeepsPorts s t) (hdst : 0xA0000 ≤ dst) : KeepsPorts s (t.copyRegs src dst n) := by
  refine (h.foldl _ fun u e he hu => hu.wr (not_portAddr_of_sch ?_)).foldl _ fun u e _ hu =>
    hu.wr (not_portAddr_of_sch (Nat.le_add_right_of_le hdst))
  simp only [List.mem_filter, Bool.and_eq_true, decide_eq_true_eq] at he
  omega

theorem copyShadow {p : Nat} (h : KeepsPorts s t) : KeepsPorts s (t.copyShadow p) := by
  have hb : ∀ n, 0xA0000 ≤ A.SCH_CTRL p + n := fun n => by simp only [A.SCH_CTRL]; omega
  exact ((((h.copyRegs (hb _)).copyRegs (hb _)).copyRegs (hb _)).copyRegs (hb _)).copyRegs (hb _)

theorem retag {p : Nat} (h : KeepsPorts s t) : KeepsPorts s (t.retag p) := h.schM

theorem grantQueue {p q : Nat} (h : KeepsPorts s t) : KeepsPorts s (t.grantQueue p q) := h.schM

section
variable {p : Nat} (hp : p < 3)
include hp

theorem calMiss {slot cause : Nat} (h : KeepsPorts s t) : KeepsPorts s (t.calMiss p slot cause) := by
  unfold State.calMiss
  extract_lets u
  have hu : KeepsPorts s u := h.bump (not_portAddr_of_sch (Nat.le_add_right_of_le (by decide)))
  exact hu.ite (hu.schM.raise (by omega))

theorem slotBegin {k : Nat} (h : KeepsPorts s t) : KeepsPorts s (t.slotBegin p k) := by
  unfold State.slotBegin
  extract_lets +onlyGivenNames _ u
  have hu : KeepsPorts s u := h.put (not_portAddr_of_sch (Nat.le_add_right_of_le (by decide)))
  split
  · split
    · exact hu
    · split
      · exact hu.grantQueue.ite (calMiss hp hu)
      · exact calMiss hp hu
  · extract_lets +onlyGivenNames _
    split
    · exact calMiss hp hu
    · split
      · exact hu.grantQueue
      · exact hu
  · exact hu

theorem lateCommit {t0 : Nat} {g : Staged} (h : KeepsPorts s t) : KeepsPorts s (t.lateCommit p t0 g) := by
  unfold State.lateCommit
  split
  · exact h.raise (by omega)
  · exact h

theorem drainDone {now_ : Nat} (h : KeepsPorts s t) : KeepsPorts s (t.drainDone p now_) := by
  have hdrain : ¬ PortAddr (A.SCH_DRAIN p) := not_portAddr_of_sch (Nat.le_add_right_of_le (by decide))
  unfold State.drainDone
  split
  · exact h
  · extract_lets _ u
    have hu : KeepsPorts s u := h.schM.put hdrain
    exact ((hu.put hdrain).ite hu).raise (by omega)

theorem drainSettle (h : KeepsPorts s t) : KeepsPorts s (t.drainSettle p) := by
  unfold State.drainSettle
  split
  · exact drainDone hp h
  · exact h

omit hp in
theorem blockDone {group bit t0 : Nat} (h : KeepsPorts s t) : KeepsPorts s (t.blockDone group bit t0) := by
  unfold State.blockDone
  split
  · exact h
  · exact h.commitsSet.reply.ite h.commitsSet

theorem swap (h : KeepsPorts s t) : KeepsPorts s (t.swap p) := by
  have hstat : ¬ PortAddr (A.SCH_STAT p) := not_portAddr_of_sch (Nat.le_add_right_of_le (by decide))
  unfold State.swap
  split
  · extract_lets u v w x y z
    have hu : KeepsPorts s u := h.copyShadow.schM
    have hv : KeepsPorts s v := ((hu.put hstat).put hstat).addMod (not_portAddr_of_sch (Nat.le_add_right_of_le (by decide)))
    have hw : KeepsPorts s w := hv.foldl _ fun _ _ _ ha => slotBegin hp ha
    have hx : KeepsPorts s x := lateCommit hp hw
    have hy : KeepsPorts s y := by
      unfold y
      split
      · exact hx.ite (lateCommit hp hx)
      · exact hx
    have hz : KeepsPorts s z := hy.retag.blockDone
    exact hz.ite (drainSettle hp hz)
  · exact h

end

end KeepsPorts

end Sys2Proof.Proofs
end

section
/-! SUPPORT. A port that goes DARK, and one that enters DETECT (R115, R125, R127, R129). -/

namespace Sys2Proof.Proofs

open Sys2Proof.Machine Sys2Proof.Laws

/-! ### The bring-up state of a port -/

theorem port_portM (s : State) (p : Nat) (g : PortSt → PortSt) :
    (s.portM p g).port p = if p < s.ports.length then g (s.port p) else PortSt.reset := by
  by_cases h : p < s.ports.length
  · simp [State.port, h]
  · simp [State.port, h]

theorem port_portM_same {s : State} {p : Nat} (g : PortSt → PortSt) (h : p < s.ports.length) : (s.portM p g).port p = g (s.port p) :=
  (port_portM s p g).trans (if_pos h)

/-- What a change does not concern stays, of a port that does not exist too. -/
theorem port_portM_of {α : Type} (φ : PortSt → α) (s : State) (p : Nat) {g : PortSt → PortSt} (h : ∀ x, φ (g x) = φ x) :
    φ ((s.portM p g).port p) = φ (s.port p) := by
  rw [port_portM]
  split
  · exact h _
  · rename_i hp
    rw [State.port, List.getD_eq_default _ _ (Nat.le_of_not_lt hp)]

/-- A port that is other than at reset is one of the device's. -/
theorem lt_of_port_ne {s : State} {p : Nat} (h : s.port p ≠ PortSt.reset) : p < s.ports.length := by
  by_contra hp
  exact h (List.getD_eq_default _ _ (Nat.le_of_not_lt hp))

theorem lit_of_state {s : State} {p : Nat} (hp : p < 3) : s.lit p = true ↔ s.portState p = 5 ∨ s.portState p = 6 := by
  simp [State.lit, hp]

theorem lt_of_lit {s : State} {p : Nat} (h : s.lit p = true) : p < 3 := by
  simp only [State.lit, Bool.and_eq_true, decide_eq_true_eq] at h
  exact h.1

theorem state_of_lit {s : State} {p : Nat} (h : s.lit p = true) : s.portState p = 5 ∨ s.portState p = 6 :=
  (lit_of_state (lt_of_lit h)).1 h

theorem bit_of_get {s t : State} {f : Fld} (h : t.get f = s.get f) : t.bit f = s.bit f := congrArg (· == 1) h

/-! ### Whether a port runs and may leave DARK -/

theorem serdesUp_congr {s t : State} (hboot : t.boot = s.boot) (hcur : t.get F.PWR_STAT_CUR = s.get F.PWR_STAT_CUR)
    (hphase : t.get F.PWR_STAT_PHASE = s.get F.PWR_STAT_PHASE) : t.serdesUp = s.serdesUp := by
  simp only [State.serdesUp, State.up, hboot, hcur, hphase]

theorem deepAsleep_congr {s t : State} (hpwr : t.pwr = s.pwr) (hcur : t.get F.PWR_STAT_CUR = s.get F.PWR_STAT_CUR)
    (hphase : t.get F.PWR_STAT_PHASE = s.get F.PWR_STAT_PHASE) : t.deepAsleep = s.deepAsleep := by
  simp only [State.deepAsleep, hpwr, hcur, hphase]

theorem mayDetect_iff (s : State) (p : Nat) :
    s.mayDetect p = true ↔ p < 3 ∧ s.portState p = 0 ∧ s.bit (F.ADT_CTRL_EN p) = true ∧ s.bit (F.ADT_CTRL_DARK p) = false ∧
      s.bit (F.ADT_ALT_ENTERED p) = true ∧ (s.port p).retry = false ∧ s.deepAsleep = false ∧ s.serdesUp = true := by
  simp [State.mayDetect, and_assoc]

/-! ### DETECT (R125) -/

theorem toDetect_regs_agree (s : State) (p : Nat) : RegsAgreeOff (fun a => a = A.ADT_STAT p) s (s.toDetect p) :=
  regsAgreeOff_trans (regsAgreeOff_put (f := F.ADT_STAT_STATE p) 1 rfl) (regsAgreeOff_of_regs_eq (portM_regs _ _ _))

theorem toDetect_state (s : State) (p : Nat) : (s.toDetect p).portState p = 1 :=
  (portM_get _ _ _ _).trans (get_put_same s 1 (by simp [F.ADT_STAT_STATE]))

theorem toDetect_lastFail (s : State) (p : Nat) : (s.toDetect p).get (F.ADT_STAT_LASTFAIL p) = s.get (F.ADT_STAT_LASTFAIL p) :=
  (portM_get _ _ _ _).trans (get_put_apart s 1 (by simp [F.ADT_STAT_STATE]) (by simp [F.ADT_STAT_STATE, F.ADT_STAT_LASTFAIL]))

theorem toDetect_outs (s : State) (p : Nat) : (s.toDetect p).outs = s.outs :=
  ((by simp : Leaves [.regs, .ports] s (s.toDetect p)) .outs (by decide)).1

theorem toDetect_retry (s : State) (p : Nat) : ((s.toDetect p).port p).retry = (s.port p).retry :=
  port_portM_of PortSt.retry (s.put (F.ADT_STAT_STATE p) 1) p fun _ => rfl

/-! ### DARK (R125, R135, R157) -/

/-- What DARK leaves of a port's bring-up state. -/
def darkPort (x : PortSt) : PortSt :=
  { PortSt.reset with rateMax := x.rateMax, frames := x.frames, shared := x.shared, rate := x.rate, retry := x.retry, inRoute := x.inRoute }

/-- ADTn_STAT of a port as it goes DARK. -/
def darkStat (s : State) (p cause : Nat) : State :=
  ((s.wr (A.ADT_STAT p) 0).put (F.ADT_STAT_RATE p) (s.get (F.ADT_STAT_RATE p))).put (F.ADT_STAT_LASTFAIL p) cause

/-- The registers of lanes, link and keys of a port as it goes DARK, and those of the peer's capabilities. -/
def darkLink (s : State) (p cause : Nat) : State :=
  (List.range 16).foldl (fun u k => u.put (F.ADT_PEERCAP p k) 0)
    ((((darkStat s p cause).wr (A.ADT_LANE p) 0).wr (A.ADT_LLSTAT p) 0).wr (A.ADT_KEYSTAT p) 0)

/-- The link of a port that goes DARK, and its keys, are lost. -/
def darkKeys (s : State) (p cause : Nat) : State :=
  ((darkLink s p cause).linkM p fun l => { LinkSt.reset with poolAt := l.poolAt, pool := l.pool }).dropLinkKeys p

/-- A port as it goes DARK, up to its lanes going idle. -/
def darkLanes (s : State) (p cause : Nat) : State := ((darkKeys s p cause).portM p darkPort).emit (.lanes p 3 0)

/-- What follows when a port has gone DARK from the state `left`. -/
def afterDark (s : State) (p cause left : Nat) (wasUp fault : Bool) : State :=
  let t := (s.raise (12 + 4 * p) 1 [cause, left]).fabM fun f => { f with neigh := f.neigh.filter fun e => e.1 != p }
  let t := if left = 5 ∨ left = 6 then t.timePortDark p else t
  let t := (t.drainSettle p).swap p
  let t := if left = 5 ∨ left = 6 then t.forgetFrom p else t
  if wasUp then t.leaveUp p fault else if left = 5 ∨ left = 6 then t.moveQueue p else t

theorem goDark_of_ne {s : State} {p : Nat} (cause : Nat) (fault : Bool) (h : s.portState p ≠ 0) :
    s.goDark p cause fault = afterDark (darkLanes s p cause) p cause (s.portState p) (s.portUp p) fault := if_neg h

theorem Grows.afterDark {s t : State} {p cause left : Nat} {wasUp fault : Bool} (h : Grows s t) :
    Grows s (afterDark t p cause left wasUp fault) := by
  unfold Proofs.afterDark
  extract_lets u v w x
  have hu : Grows s u := h.raise.fabM
  have hv : Grows s v := hu.timePortDark.ite hu
  have hw : Grows s w := hv.drainSettle.swap
  have hx : Grows s x := hw.forgetFrom.ite hw
  exact hx.leaveUp.ite (hx.moveQueue.ite hx)

theorem darkLink_grows (s : State) (p cause : Nat) : Grows s (darkLink s p cause) :=
  (Grows.refl s).wr.put.put.wr.wr.wr.foldl _ fun _ _ ha => ha.put

/-- The lanes of a port that goes DARK go to electrical idle. -/
theorem goDark_sends {s : State} {p : Nat} (cause : Nat) (fault : Bool) (h : s.portState p ≠ 0) :
    Sends s (s.goDark p cause fault) (.lanes p 3 0) := by
  rw [goDark_of_ne cause fault h]
  exact sends_between (t := (darkKeys s p cause).portM p darkPort) (darkLink_grows s p cause).linkM.dropLinkKeys.portM
    (Grows.refl _).afterDark

theorem KeepsPorts.afterDark {s t : State} {p cause left : Nat} {fault : Bool} (h : KeepsPorts s t) (hp : p < 3)
    (hlit : ¬(left = 5 ∨ left = 6)) : KeepsPorts s (afterDark t p cause left false fault) := by
  unfold Proofs.afterDark
  simp only [hlit, if_false, Bool.false_eq_true]
  exact swap hp (drainSettle hp (h.raise (by omega)).fabM)

theorem darkStat_state (s : State) (p cause : Nat) : (darkStat s p cause).portState p = 0 := by
  rw [State.portState, darkStat, get_put_apart _ _ (by simp [F.ADT_STAT_LASTFAIL]) (by simp [F.ADT_STAT_LASTFAIL, F.ADT_STAT_STATE]),
    get_put_apart _ _ (by simp [F.ADT_STAT_RATE]) (by simp [F.ADT_STAT_RATE, F.ADT_STAT_STATE])]
  simp [State.get, F.ADT_STAT_STATE, bitsOf]

theorem darkStat_lastFail (s : State) (p : Nat) {cause : Nat} (h : cause < 16) :
    (darkStat s p cause).get (F.ADT_STAT_LASTFAIL p) = cause :=
  (get_put_same _ cause (by simp [F.ADT_STAT_LASTFAIL])).trans (Nat.mod_eq_of_lt h)

theorem darkStat_regs_agree (s : State) (p cause : Nat) : RegsAgreeOff (fun a => a = A.ADT_STAT p) s (darkStat s p cause) :=
  regsAgreeOff_trans (regsAgreeOff_trans (fun _ ha => rd_wr_other s 0 ha) (regsAgreeOff_put (f := F.ADT_STAT_RATE p) _ rfl))
    (regsAgreeOff_put (f := F.ADT_STAT_LASTFAIL p) _ rfl)

/-- The registers that DARK clears beside ADTn_STAT lie from ADTn_LANE to ADTn_KEYSTAT. -/
theorem darkLink_regs_agree (s : State) (p cause : Nat) :
    RegsAgreeOff (fun a => A.ADT_LANE p ≤ a ∧ a ≤ A.ADT_KEYSTAT p) (darkStat s p cause) (darkLink s p cause) := by
  have hwr : ∀ (t : State) (a : Nat), A.ADT_LANE p ≤ a ∧ a ≤ A.ADT_KEYSTAT p →
      RegsAgreeOff (fun a => A.ADT_LANE p ≤ a ∧ a ≤ A.ADT_KEYSTAT p) t (t.wr a 0) :=
    fun t a ha _ hb => rd_wr_other t 0 fun e => hb (e ▸ ha)
  refine regsAgreeOff_trans (regsAgreeOff_trans (regsAgreeOff_trans (hwr _ _ ?_) (hwr _ _ ?_)) (hwr _ _ ?_))
    (regsAgreeOff_foldl _ (fun t k hk => regsAgreeOff_put (f := F.ADT_PEERCAP p k) 0 ?_) _)
  · simp only [A.ADT_LANE, A.ADT_KEYSTAT]; omega
  · simp only [A.ADT_LANE, A.ADT_LLSTAT, A.ADT_KEYSTAT]; omega
  · simp only [A.ADT_LANE, A.ADT_KEYSTAT]; omega
  · have := List.mem_range.1 hk
    simp only [A.ADT_LANE, A.ADT_KEYSTAT, F.ADT_PEERCAP, A.ADT_PEERCAP]; omega

theorem darkLink_leaves (s : State) (p cause : Nat) : Leaves [.regs] s (darkLink s p cause) := by simp [darkLink, darkStat]

theorem darkKeys_keeps (s : State) (p cause : Nat) : KeepsPorts (darkLink s p cause) (darkKeys s p cause) :=
  (KeepsPorts.refl _).linkM.dropLinkKeys

theorem darkLanes_get (s : State) {p cause : Nat} {f : Fld} (hf : PortFld f) (ha : f.addr < A.ADT_LANE p) :
    (darkLanes s p cause).get f = (darkStat s p cause).get f := by
  rw [darkLanes, emit_get, portM_get, (darkKeys_keeps s p cause).get f hf,
    get_of_regsAgreeOff (darkLink_regs_agree s p cause) fun h => Nat.not_le.2 ha h.1]

theorem darkLanes_boot (s : State) (p cause : Nat) : (darkLanes s p cause).boot = s.boot := by
  rw [darkLanes, emit_boot, portM_boot, (darkKeys_keeps s p cause).boot, darkLink_leaves s p cause .boot (by decide)]

theorem darkLanes_pwr (s : State) (p cause : Nat) : (darkLanes s p cause).pwr = s.pwr := by
  rw [darkLanes, emit_pwr, portM_pwr, (darkKeys_keeps s p cause).pwr, darkLink_leaves s p cause .pwr (by decide)]

theorem darkLanes_ports (s : State) (p cause : Nat) : (darkLanes s p cause).ports = s.ports.modify p darkPort := by
  rw [darkLanes, emit_ports, portM_ports, (darkKeys_keeps s p cause).ports, darkLink_leaves s p cause .ports (by decide)]

/-- A port that was not Lit has gone DARK for a cause: its state, and what its next bring-up rests on. -/
structure WentDark (s t : State) (p cause : Nat) : Prop where
  state : t.portState p = 0
  lastFail : t.get (F.ADT_STAT_LASTFAIL p) = cause
  en : t.bit (F.ADT_CTRL_EN p) = s.bit (F.ADT_CTRL_EN p)
  dark : t.bit (F.ADT_CTRL_DARK p) = s.bit (F.ADT_CTRL_DARK p)
  entered : t.bit (F.ADT_ALT_ENTERED p) = s.bit (F.ADT_ALT_ENTERED p)
  asleep : t.deepAsleep = s.deepAsleep
  runs : t.serdesUp = s.serdesUp
  ports : t.ports = s.ports.modify p darkPort

theorem goDark_wentDark {s : State} {p cause : Nat} (fault : Bool) (hp : p < 3) (hstate : s.portState p ≠ 0) (hlit : s.lit p = false)
    (hcause : cause < 16) : WentDark s (s.goDark p cause fault) p cause := by
  have hleft : ¬(s.portState p = 5 ∨ s.portState p = 6) := by rw [← lit_of_state hp, hlit]; simp
  have hup : s.portUp p = false := by simp [State.portUp, hlit]
  rw [goDark_of_ne cause fault hstate, hup]
  have hkeep : KeepsPorts (darkLanes s p cause) (afterDark (darkLanes s p cause) p cause (s.portState p) false fault) :=
    (KeepsPorts.refl _).afterDark hp hleft
  generalize afterDark (darkLanes s p cause) p cause (s.portState p) false fault = t at hkeep
  have hboot : t.boot = s.boot := hkeep.boot.trans (darkLanes_boot s p cause)
  have hpwr : t.pwr = s.pwr := hkeep.pwr.trans (darkLanes_pwr s p cause)
  have hstat : ∀ f, PortFld f → f.addr < A.ADT_LANE p → t.get f = (darkStat s p cause).get f :=
    fun f hf ha => (hkeep.get f hf).trans (darkLanes_get s hf ha)
  have hget : ∀ f, PortFld f → f.addr < A.ADT_LANE p ∧ f.addr ≠ A.ADT_STAT p → t.get f = s.get f :=
    fun f hf ha => (hstat f hf ha.1).trans (get_of_regsAgreeOff (darkStat_regs_agree s p cause) ha.2)
  have hcur := hget _ portFld_pwrCur (by simp only [F.PWR_STAT_CUR, A.PWR_STAT, A.ADT_LANE, A.ADT_STAT]; omega)
  have hphase := hget _ portFld_pwrPhase (by simp only [F.PWR_STAT_PHASE, A.PWR_STAT, A.ADT_LANE, A.ADT_STAT]; omega)
  exact {
    state := (hstat _ (portFld_state hp) (by simp [F.ADT_STAT_STATE, A.ADT_STAT, A.ADT_LANE])).trans (darkStat_state s p cause)
    lastFail := (hstat _ (portFld_lastFail hp) (by simp [F.ADT_STAT_LASTFAIL, A.ADT_STAT, A.ADT_LANE])).trans
      (darkStat_lastFail s p hcause)
    en := bit_of_get (hget _ (portFld_ctrlEn hp) (by simp [F.ADT_CTRL_EN, A.ADT_CTRL, A.ADT_LANE, A.ADT_STAT]))
    dark := bit_of_get (hget _ (portFld_ctrlDark hp) (by simp [F.ADT_CTRL_DARK, A.ADT_CTRL, A.ADT_LANE, A.ADT_STAT]))
    entered := bit_of_get (hget _ (portFld_entered hp) (by simp [F.ADT_ALT_ENTERED, A.ADT_ALT, A.ADT_LANE, A.ADT_STAT]))
    asleep := deepAsleep_congr hpwr hcur hphase
    runs := serdesUp_congr hboot hcur hphase
    ports := hkeep.ports.trans (darkLanes_ports s p cause) }

end Sys2Proof.Proofs
end

section
/-! SUPPORT. The alternate mode and the control bits of an Adit port (R115, R125, R127, R129), with the proof of O9. -/

namespace Sys2Proof.Proofs

open Sys2Proof.Machine Sys2Proof.Laws

/-! ### Enter Mode (R114, R115) -/

/-- The rates that this port's Mode VDO and the far one share. -/
def sharedRates (s : State) (p vdo : Nat) : Nat :=
  (List.range 3).foldl (fun a k => if vdo / 2 ^ k % 2 = 1 ∧ s.ownRates p / 2 ^ k % 2 = 1 then a + 2 ^ k else a) 0

theorem ownRates_odd (s : State) (p : Nat) : s.ownRates p % 2 = 1 := by
  simp only [State.ownRates, Nat.pow_succ]
  have := Nat.two_pow_pos (min 2 (s.port p).rateMax)
  omega

/-- Every Mode VDO of this device carries RATE 0, so one that carries it too shares it. -/
theorem sharedRates_ne_zero (s : State) (p : Nat) {vdo : Nat} (h : vdo % 2 = 1) : sharedRates s p vdo ≠ 0 := by
  simp only [sharedRates, List.range_succ, List.range_zero, List.nil_append, List.cons_append, List.foldl_cons, List.foldl_nil, pow_zero,
    Nat.div_one, ownRates_odd, h, and_self, if_true]
  split <;> split <;> omega

/-- The state of a port whose mode has just been entered. -/
def modeEntered (s : State) (p : Nat) (dfp : Bool) (shared : Nat) : State :=
  ((s.put (F.ADT_ALT_ENTERED p) 1).putBit (F.ADT_ALT_DFP p) dfp).portM p fun x =>
    { x with shared := shared, rate := topRate shared, retry := false }

section
variable (s : State) (p : Nat) (dfp : Bool) (shared : Nat)

theorem modeEntered_regs_agree : RegsAgreeOff (fun a => a = A.ADT_ALT p) s (modeEntered s p dfp shared) :=
  regsAgreeOff_trans (regsAgreeOff_trans (regsAgreeOff_put (f := F.ADT_ALT_ENTERED p) 1 rfl)
    (regsAgreeOff_put (f := F.ADT_ALT_DFP p) (if dfp then 1 else 0) rfl)) (regsAgreeOff_of_regs_eq (portM_regs _ _ _))

theorem modeEntered_leaves : Leaves [.regs, .ports] s (modeEntered s p dfp shared) := by simp [modeEntered]

theorem modeEntered_entered : (modeEntered s p dfp shared).bit (F.ADT_ALT_ENTERED p) = true := by
  have hget : (modeEntered s p dfp shared).get (F.ADT_ALT_ENTERED p) = 1 :=
    (portM_get _ _ _ _).trans <| (get_put_apart _ _ (by simp [F.ADT_ALT_DFP]) (by simp [F.ADT_ALT_DFP, F.ADT_ALT_ENTERED])).trans
      (get_put_same s 1 (by simp [F.ADT_ALT_ENTERED]))
  simp [State.bit, hget]

theorem modeEntered_dfp : (modeEntered s p dfp shared).bit (F.ADT_ALT_DFP p) = dfp :=
  (portM_bit _ _ _ _).trans (bit_putBit_same (s.put (F.ADT_ALT_ENTERED p) 1) dfp (by simp [F.ADT_ALT_DFP]) rfl)

theorem modeEntered_retry : ((modeEntered s p dfp shared).port p).retry = false := by
  rw [modeEntered, port_portM]
  split <;> rfl

end

theorem exec_enterMode {s : State} {p : Nat} (dfp : Bool) {vdo : Nat} (hrun : s.serdesUp = true) (hp : p < 3) (hver : vdo / 32 % 8 = 1)
    (hrate : vdo % 2 = 1) (hout : s.bit (F.ADT_ALT_ENTERED p) = false) :
    exec (.enterMode p dfp vdo) s = .next
      (if (modeEntered s p dfp (sharedRates s p vdo)).mayDetect p then (modeEntered s p dfp (sharedRates s p vdo)).toDetect p
        else modeEntered s p dfp (sharedRates s p vdo)) := by
  have hshared := sharedRates_ne_zero s p hrate
  have hnot : ¬(3 ≤ p ∨ vdo / 32 % 8 ≠ 1 ∨ sharedRates s p vdo = 0 ∨ s.bit (F.ADT_ALT_ENTERED p) = true) := by
    simp only [hout, Bool.false_eq_true, or_false]
    omega
  exact congrArg Host.Outcome.next ((whenSerdes_of hrun _).trans (if_neg hnot))

theorem enterMode_detects {s : State} {p : Nat} (dfp : Bool) {vdo : Nat} (hrun : s.serdesUp = true) (hp : p < 3) (hver : vdo / 32 % 8 = 1)
    (hrate : vdo % 2 = 1) (hout : s.bit (F.ADT_ALT_ENTERED p) = false) (hen : s.bit (F.ADT_CTRL_EN p) = true)
    (hdark : s.bit (F.ADT_CTRL_DARK p) = false) (hstate : s.portState p = 0) (hdeep : s.deepAsleep = false) :
    Does (.enterMode p dfp vdo) s fun t =>
      t.bit (F.ADT_ALT_ENTERED p) = true ∧ t.bit (F.ADT_ALT_DFP p) = dfp ∧ t.portState p = 1 ∧ t.outs = s.outs ∧
      RegsAgreeOff (fun a => a = A.ADT_ALT p ∨ a = A.ADT_STAT p) s t := by
  have hexec := exec_enterMode dfp hrun hp hver hrate hout
  generalize sharedRates s p vdo = shared at hexec
  have hregs := modeEntered_regs_agree s p dfp shared
  have hparts := modeEntered_leaves s p dfp shared
  have hkept : ∀ f : Fld, f.addr ≠ A.ADT_ALT p → (modeEntered s p dfp shared).get f = s.get f := fun f hf =>
    get_of_regsAgreeOff hregs hf
  have hcur := hkept F.PWR_STAT_CUR (by simp only [F.PWR_STAT_CUR, A.PWR_STAT, A.ADT_ALT]; omega)
  have hphase := hkept F.PWR_STAT_PHASE (by simp only [F.PWR_STAT_PHASE, A.PWR_STAT, A.ADT_ALT]; omega)
  have hmay : (modeEntered s p dfp shared).mayDetect p = true := (mayDetect_iff _ p).2
    ⟨hp, (hkept _ (by simp [F.ADT_STAT_STATE, A.ADT_STAT, A.ADT_ALT])).trans hstate,
      (bit_of_get (hkept _ (by simp [F.ADT_CTRL_EN, A.ADT_CTRL, A.ADT_ALT]))).trans hen,
      (bit_of_get (hkept _ (by simp [F.ADT_CTRL_DARK, A.ADT_CTRL, A.ADT_ALT]))).trans hdark,
      modeEntered_entered s p dfp shared, modeEntered_retry s p dfp shared,
      (deepAsleep_congr (s := s) (t := modeEntered s p dfp shared) (hparts .pwr (by decide)) hcur hphase).trans hdeep,
      (serdesUp_congr (s := s) (t := modeEntered s p dfp shared) (hparts .boot (by decide)) hcur hphase).trans hrun⟩
  have hdetect := toDetect_regs_agree (modeEntered s p dfp shared) p
  have halt : ∀ f : Fld, f.addr = A.ADT_ALT p → ((modeEntered s p dfp shared).toDetect p).get f = (modeEntered s p dfp shared).get f :=
    fun f hf => get_of_regsAgreeOff hdetect (by simp [hf, A.ADT_ALT, A.ADT_STAT])
  exact ⟨(modeEntered s p dfp shared).toDetect p, hexec.trans (congrArg Host.Outcome.next (if_pos hmay)),
    (bit_of_get (halt _ rfl)).trans (modeEntered_entered s p dfp shared), (bit_of_get (halt _ rfl)).trans (modeEntered_dfp s p dfp shared),
    toDetect_state _ p, (toDetect_outs _ p).trans (hparts .outs (by decide)).1,
    regsAgreeOff_trans (regsAgreeOff_mono (fun _ => .inl) hregs) (regsAgreeOff_mono (fun _ => .inr) hdetect)⟩

/-! ### Exit Mode (R115, R129) -/

theorem leaveMode_of_lt (s : State) {p : Nat} (cause : Nat) (hp : p < 3) :
    s.leaveMode p cause = (((s.goDark p cause (s.lit p)).put (F.ADT_ALT_ENTERED p) 0).put (F.ADT_ALT_DFP p) 0).portM p fun x =>
      { x with retry := false, shared := 0 } := if_neg (Nat.not_le.2 hp)

/-- Leaving the mode changes ADTn_ALT alone of the registers, beside going DARK. -/
theorem leaveMode_regs_agree (s : State) {p : Nat} (cause : Nat) (hp : p < 3) :
    RegsAgreeOff (fun a => a = A.ADT_ALT p) (s.goDark p cause (s.lit p)) (s.leaveMode p cause) := by
  rw [leaveMode_of_lt s cause hp]
  exact regsAgreeOff_trans (regsAgreeOff_trans (regsAgreeOff_put (f := F.ADT_ALT_ENTERED p) 0 rfl)
    (regsAgreeOff_put (f := F.ADT_ALT_DFP p) 0 rfl)) (regsAgreeOff_of_regs_eq (portM_regs _ _ _))

theorem leaveMode_entered (s : State) {p : Nat} (cause : Nat) (hp : p < 3) : (s.leaveMode p cause).bit (F.ADT_ALT_ENTERED p) = false := by
  have hget : (s.leaveMode p cause).get (F.ADT_ALT_ENTERED p) = 0 := by
    rw [leaveMode_of_lt s cause hp, portM_get, get_put_apart _ _ (by simp [F.ADT_ALT_DFP]) (by simp [F.ADT_ALT_DFP, F.ADT_ALT_ENTERED]),
      get_put_same _ _ (by simp [F.ADT_ALT_ENTERED]), Nat.zero_mod]
  simp [State.bit, hget]

theorem leaveMode_sends {s : State} {p : Nat} (cause : Nat) (hp : p < 3) (hstate : s.portState p ≠ 0) :
    Sends s (s.leaveMode p cause) (.lanes p 3 0) := by
  have hgrows : Grows (s.goDark p cause (s.lit p)) (s.leaveMode p cause) := by
    rw [leaveMode_of_lt s cause hp]
    exact (Grows.refl _).put.put.portM
  exact sends_trans (goDark_sends cause (s.lit p) hstate) hgrows

theorem exec_exitMode {s : State} {p : Nat} (hrun : s.serdesUp = true) (hin : s.bit (F.ADT_ALT_ENTERED p) = true) :
    exec (.exitMode p) s = .next (s.leaveMode p 7) := congrArg Host.Outcome.next ((whenSerdes_of hrun _).trans (if_pos hin))

theorem exitMode_darkens {s : State} {p : Nat} (hrun : s.serdesUp = true) (hp : p < 3) (hin : s.bit (F.ADT_ALT_ENTERED p) = true)
    (hstate : s.portState p ≠ 0) (hlit : s.lit p = false) : Does (.exitMode p) s fun t =>
      t.bit (F.ADT_ALT_ENTERED p) = false ∧ t.portState p = 0 ∧ t.get (F.ADT_STAT_LASTFAIL p) = 7 ∧ Sends s t (.lanes p 3 0) := by
  have hdark := goDark_wentDark (s.lit p) hp hstate hlit (by decide : 7 < 16)
  have hstat : ∀ f : Fld, f.addr = A.ADT_STAT p → (s.leaveMode p 7).get f = (s.goDark p 7 (s.lit p)).get f := fun f hf =>
    get_of_regsAgreeOff (leaveMode_regs_agree s 7 hp) (by simp [hf, A.ADT_STAT, A.ADT_ALT])
  exact ⟨_, exec_exitMode hrun hin, leaveMode_entered s 7 hp, (hstat _ rfl).trans hdark.state, (hstat _ rfl).trans hdark.lastFail,
    leaveMode_sends 7 hp hstate⟩

/-! ### ADTn_CTRL (R23, R129) -/

/-- A field that none of the bits set lies in. -/
theorem bitsOf_or {v m : Word} {lo width : Nat} (h : ∀ i < width, m.toNat.testBit (lo + i) = false) :
    bitsOf (v ||| m) lo width = bitsOf v lo width := by
  apply Nat.eq_of_testBit_eq
  intro i
  simp only [bitsOf, Nat.testBit_mod_two_pow, Nat.testBit_div_two_pow, BitVec.toNat_or, Nat.testBit_or]
  by_cases hi : i < width
  · rw [Nat.add_comm i lo, h i hi, Bool.or_false]
  · simp [hi]

/-- A bit that is set. -/
theorem bitsOf_or_set {v m : Word} {lo : Nat} (h : m.toNat.testBit lo = true) : bitsOf (v ||| m) lo 1 = 1 := by
  have hbit : (v ||| m).toNat.testBit lo = true := by simp [h]
  simpa [bitsOf, Nat.testBit_eq_decide_div_mod_eq] using hbit

/-- Nothing posted to a block takes effect where nothing is posted. -/
theorem inOrder_of_nil {s : State} (h : s.ctl.posted = []) (r : Req) (b : Blk) : s.inOrder r b = s := by
  obtain ⟨_, _, _, ⟨_, _, _, _, _, _, _, _, _, _, _⟩, _⟩ := s
  cases h
  rfl

/-- A control write of a party that may make it, with the bus as it is and nothing posted. -/
theorem ctrlWrite_of {s : State} {r : Req} (hrun : s.serdesUp = true) (hposted : s.ctl.posted = []) (hopen : s.busOpen r = true)
    (hr : r ≠ .smbus) (hpers : s.boot.pers ≠ 1) (hmay : s.mayControl r = true) (g : State → State) :
    ((s.inOrder r .adt).controlWrite r fun t => t.whenSerdes g) = g s := by
  rw [inOrder_of_nil hposted, State.controlWrite, if_neg (by simp [hpers]), glbWrite_of_mayControl hopen hr hmay, whenSerdes_of hrun]

section
variable {s : State} {r : Req} {p : Nat} (hrun : s.serdesUp = true) (hposted : s.ctl.posted = []) (hp : p < 3)
  (hopen : s.busOpen r = true) (hr : r ≠ .smbus) (hpers : s.boot.pers ≠ 1) (hmay : s.mayControl r = true)
include hrun hposted hp hopen hr hpers hmay

theorem exec_retrain : exec (.retrain r p) s = .next (s.writeAdtCtrl p (s.rd (A.ADT_CTRL p) ||| 0x20#32)) :=
  congrArg Host.Outcome.next ((if_neg (Nat.not_le.2 hp)).trans (ctrlWrite_of hrun hposted hopen hr hpers hmay _))

theorem exec_darkCommand : exec (.darkCommand r p) s = .next (s.writeAdtCtrl p (s.rd (A.ADT_CTRL p) ||| 0x40#32)) :=
  congrArg Host.Outcome.next ((if_neg (Nat.not_le.2 hp)).trans (ctrlWrite_of hrun hposted hopen hr hpers hmay _))

end

/-- ADTn_CTRL as a control write leaves it: RETRAIN reads as 0. -/
def ctrlWritten (s : State) (p : Nat) (v : Word) : State := s.wr (A.ADT_CTRL p) (v &&& 0x5F#32)

theorem ctrlWritten_get (s : State) (p : Nat) (v : Word) {f : Fld} (hf : f.addr ≠ A.ADT_CTRL p) : (ctrlWritten s p v).get f = s.get f := by
  simp only [State.get, ctrlWritten, rd_wr_other s _ hf]

/-- A field of ADTn_CTRL beside RETRAIN reads as it is written. -/
theorem ctrlWritten_get_ctrl (s : State) (p : Nat) (v : Word) {lo width : Nat}
    (h : ∀ i < width, (0x5F#32 : Word).toNat.testBit (lo + i) = true) : (ctrlWritten s p v).get ⟨A.ADT_CTRL p, lo, width⟩ = bitsOf v lo width := by
  rw [State.get, ctrlWritten, rd_wr_same, bitsOf_and h]

theorem ctrlWritten_state (s : State) (p : Nat) (v : Word) : (ctrlWritten s p v).portState p = s.portState p :=
  ctrlWritten_get s p v (by simp [F.ADT_STAT_STATE, A.ADT_STAT, A.ADT_CTRL])

theorem ctrlWritten_lit (s : State) (p : Nat) (v : Word) : (ctrlWritten s p v).lit p = s.lit p := by
  rw [State.lit, ctrlWritten_state, State.lit]

theorem writeAdtCtrl_retrain {s : State} {p : Nat} (hp : p < 3) (hen : s.bit (F.ADT_CTRL_EN p) = true)
    (hdark : s.bit (F.ADT_CTRL_DARK p) = false) :
    s.writeAdtCtrl p (s.rd (A.ADT_CTRL p) ||| 0x20#32) = (ctrlWritten s p (s.rd (A.ADT_CTRL p) ||| 0x20#32)).retrain p false := by
  have hen' : bitsOf (s.rd (A.ADT_CTRL p) ||| 0x20#32) 0 1 ≠ 0 := by
    rw [bitsOf_or (by decide), show bitsOf (s.rd (A.ADT_CTRL p)) 0 1 = 1 from beq_iff_eq.1 hen]
    decide
  have hdark' : bitsOf (s.rd (A.ADT_CTRL p) ||| 0x20#32) 6 1 ≠ 1 := by
    rw [bitsOf_or (by decide)]
    exact beq_eq_false_iff_ne.1 hdark
  exact (if_neg (Nat.not_le.2 hp)).trans ((if_neg (not_or.2 ⟨hen', hdark'⟩)).trans (if_pos (bitsOf_or_set (by decide))))

theorem writeAdtCtrl_dark {s : State} {p : Nat} (hp : p < 3) (hstate : s.portState p ≠ 0) :
    s.writeAdtCtrl p (s.rd (A.ADT_CTRL p) ||| 0x40#32) = (ctrlWritten s p (s.rd (A.ADT_CTRL p) ||| 0x40#32)).goDark p 10 false :=
  (if_neg (Nat.not_le.2 hp)).trans ((if_pos (.inr (bitsOf_or_set (by decide)))).trans (if_neg ((ctrlWritten_state s p _).symm ▸ hstate)))

/-- RETRAIN of an enabled port that is not Lit: DARK with its cause, and DETECT at once. -/
theorem retrain_of_unlit {s : State} {p : Nat} (hp : p < 3) (hstate : s.portState p ≠ 0) (hlit : s.lit p = false)
    (hen : s.bit (F.ADT_CTRL_EN p) = true) (hdark : s.bit (F.ADT_CTRL_DARK p) = false) (hin : s.bit (F.ADT_ALT_ENTERED p) = true)
    (hdeep : s.deepAsleep = false) (hrun : s.serdesUp = true) :
    (s.retrain p false).portState p = 1 ∧ (s.retrain p false).get (F.ADT_STAT_LASTFAIL p) = 10 ∧
      Sends s (s.retrain p false) (.lanes p 3 0) := by
  have hwent := goDark_wentDark false hp hstate hlit (by decide : 10 < 16)
  have hretry : (((s.goDark p 10 false).portM p fun x => { x with rate := topRate x.shared, retry := false }).port p).retry = false := by
    rw [port_portM]
    split <;> rfl
  have hmay : ((s.goDark p 10 false).portM p fun x => { x with rate := topRate x.shared, retry := false }).mayDetect p = true :=
    (mayDetect_iff _ p).2 ⟨hp, hwent.state, hwent.en.trans hen, hwent.dark.trans hdark, hwent.entered.trans hin, hretry, hwent.asleep.trans hdeep,
      hwent.runs.trans hrun⟩
  have hretrain : s.retrain p false = ((s.goDark p 10 false).portM p fun x => { x with rate := topRate x.shared, retry := false }).toDetect p :=
    (if_neg (Nat.not_le.2 hp)).trans (if_pos hmay)
  rw [hretrain]
  exact ⟨toDetect_state _ p, (toDetect_lastFail _ p).trans hwent.lastFail,
    sends_trans (goDark_sends 10 false hstate) (Grows.refl (s.goDark p 10 false)).portM.toDetect⟩

section
variable {s : State} {r : Req} {p : Nat} (hrun : s.serdesUp = true) (hposted : s.ctl.posted = []) (hp : p < 3)
  (hopen : s.busOpen r = true) (hr : r ≠ .smbus) (hpers : s.boot.pers ≠ 1) (hmay : s.mayControl r = true)
include hrun hposted hp hopen hr hpers hmay

theorem retrain_detects (hen : s.bit (F.ADT_CTRL_EN p) = true) (hdark : s.bit (F.ADT_CTRL_DARK p) = false)
    (hin : s.bit (F.ADT_ALT_ENTERED p) = true) (hdeep : s.deepAsleep = false) (hstate : s.portState p ≠ 0) (hlit : s.lit p = false) :
    Does (.retrain r p) s fun t => t.portState p = 1 ∧ t.get (F.ADT_STAT_LASTFAIL p) = 10 ∧ Sends s t (.lanes p 3 0) := by
  refine ⟨_, exec_retrain hrun hposted hp hopen hr hpers hmay, ?_⟩
  rw [writeAdtCtrl_retrain hp hen hdark]
  have hkept : ∀ f : Fld, f.addr ≠ A.ADT_CTRL p → (ctrlWritten s p (s.rd (A.ADT_CTRL p) ||| 0x20#32)).get f = s.get f := fun f hf =>
    ctrlWritten_get s p _ hf
  have hcur := hkept F.PWR_STAT_CUR (by simp only [F.PWR_STAT_CUR, A.PWR_STAT, A.ADT_CTRL]; omega)
  have hphase := hkept F.PWR_STAT_PHASE (by simp only [F.PWR_STAT_PHASE, A.PWR_STAT, A.ADT_CTRL]; omega)
  have hctrl : ∀ lo, (0x5F#32 : Word).toNat.testBit lo = true → (0x20#32 : Word).toNat.testBit lo = false →
      (ctrlWritten s p (s.rd (A.ADT_CTRL p) ||| 0x20#32)).get ⟨A.ADT_CTRL p, lo, 1⟩ = s.get ⟨A.ADT_CTRL p, lo, 1⟩ := fun lo hkeep hset =>
    (ctrlWritten_get_ctrl s p _ (by simpa using hkeep)).trans (bitsOf_or (by simpa using hset))
  exact retrain_of_unlit hp ((ctrlWritten_state s p _).symm ▸ hstate) ((ctrlWritten_lit s p _).trans hlit)
    ((bit_of_get (hctrl 0 (by decide) (by decide))).trans hen) ((bit_of_get (hctrl 6 (by decide) (by decide))).trans hdark)
    ((bit_of_get (hkept _ (by simp [F.ADT_ALT_ENTERED, A.ADT_ALT, A.ADT_CTRL]))).trans hin)
    ((deepAsleep_congr (s := s) (t := ctrlWritten s p _) rfl hcur hphase).trans hdeep)
    ((serdesUp_congr (s := s) (t := ctrlWritten s p _) rfl hcur hphase).trans hrun)

theorem darkCommand_sends (hstate : s.portState p ≠ 0) : Does (.darkCommand r p) s fun t => Sends s t (.lanes p 3 0) := by
  refine ⟨_, exec_darkCommand hrun hposted hp hopen hr hpers hmay, ?_⟩
  rw [writeAdtCtrl_dark hp hstate]
  exact goDark_sends (s := ctrlWritten s p (s.rd (A.ADT_CTRL p) ||| 0x40#32)) 10 false ((ctrlWritten_state s p _).symm ▸ hstate)

theorem darkCommand_darkens (hstate : s.portState p ≠ 0) (hlit : s.lit p = false) : Does (.darkCommand r p) s fun t =>
    t.portState p = 0 ∧ t.get (F.ADT_STAT_LASTFAIL p) = 10 ∧ t.bit (F.ADT_CTRL_DARK p) = true ∧ Sends s t (.lanes p 3 0) := by
  refine ⟨_, exec_darkCommand hrun hposted hp hopen hr hpers hmay, ?_⟩
  rw [writeAdtCtrl_dark hp hstate]
  have hstate' : (ctrlWritten s p (s.rd (A.ADT_CTRL p) ||| 0x40#32)).portState p ≠ 0 := (ctrlWritten_state s p _).symm ▸ hstate
  have hwent := goDark_wentDark false hp hstate' ((ctrlWritten_lit s p _).trans hlit) (by decide : 10 < 16)
  have hset : (ctrlWritten s p (s.rd (A.ADT_CTRL p) ||| 0x40#32)).get (F.ADT_CTRL_DARK p) = 1 :=
    (ctrlWritten_get_ctrl s p _ (by decide)).trans (bitsOf_or_set (by decide))
  exact ⟨hwent.state, hwent.lastFail, hwent.dark.trans (by simp [State.bit, hset]),
    goDark_sends (s := ctrlWritten s p (s.rd (A.ADT_CTRL p) ||| 0x40#32)) 10 false hstate'⟩

end

/-! ### DETECT, the retry delay, and an exchange that times out (R125, R127) -/

theorem portDetectStart_detects {s : State} {p : Nat} (hrun : s.serdesUp = true) (hmay : s.mayDetect p = true) :
    Does (.portDetectStart p) s fun t => t.portState p = 1 ∧ t.outs = s.outs ∧ RegsAgreeOff (fun a => a = A.ADT_STAT p) s t :=
  ⟨s.toDetect p, congrArg Host.Outcome.next ((whenSerdes_of hrun _).trans (if_pos hmay)), toDetect_state s p, toDetect_outs s p, toDetect_regs_agree s p⟩

theorem retryDelayExpiry_detects {s : State} {p : Nat} (hrun : s.serdesUp = true) (hp : p < 3) (hstate : s.portState p = 0)
    (hen : s.bit (F.ADT_CTRL_EN p) = true) (hdark : s.bit (F.ADT_CTRL_DARK p) = false) (hin : s.bit (F.ADT_ALT_ENTERED p) = true)
    (hdeep : s.deepAsleep = false) : Does (.retryDelayExpiry p) s fun t =>
      t.portState p = 1 ∧ (t.port p).retry = false ∧ RegsAgreeOff (fun a => a = A.ADT_STAT p) s t := by
  have hretry : ((s.portM p fun x => { x with retry := false }).port p).retry = false := by
    rw [port_portM]
    split <;> rfl
  have hmay : (s.portM p fun x => { x with retry := false }).mayDetect p = true :=
    (mayDetect_iff _ p).2 ⟨hp, hstate, hen, hdark, hin, hretry, hdeep, hrun⟩
  exact ⟨_, congrArg Host.Outcome.next ((whenSerdes_of hrun _).trans (if_pos hmay)), toDetect_state _ p, (toDetect_retry _ p).trans hretry,
    toDetect_regs_agree (s.portM p fun x => { x with retry := false }) p⟩

theorem exchangeTimeout_darkens {s : State} {p : Nat} (hrun : s.serdesUp = true) (hlen : p < s.ports.length) (hp : p < 3)
    (hstate : s.portState p = 4) : Does (.exchangeTimeout p) s fun t =>
      t.portState p = 0 ∧ t.get (F.ADT_STAT_LASTFAIL p) = 3 ∧ (t.port p).retry = true ∧ Sends s t (.lanes p 3 0) := by
  have hne : s.portState p ≠ 0 := by omega
  have hwent := goDark_wentDark false hp hne (by simp [State.lit, hstate]) (by decide : 3 < 16)
  have hlen' : p < (s.goDark p 3 false).ports.length := by simpa [hwent.ports] using hlen
  exact ⟨_, congrArg Host.Outcome.next ((whenSerdes_of hrun _).trans (if_pos ⟨hp, hstate⟩)), hwent.state, hwent.lastFail,
    by rw [port_portM_same _ hlen'], goDark_sends 3 false hne⟩

/-- Settles O9: clause by clause, the equation of the command, then what DARK or DETECT makes of the port. -/
theorem aditModeRows : Obligations.AditModeRows := by
  unfold Obligations.AditModeRows
  exact ⟨fun _ _ dfp _ hrun hp hver hrate hout hen hdark hstate hdeep =>
      enterMode_detects dfp hrun hp hver hrate hout hen hdark hstate hdeep,
    fun _ _ hrun hp hin hstate hlit => exitMode_darkens hrun hp hin hstate hlit,
    fun _ _ hrun hp hin hlit => ⟨_, exec_exitMode hrun hin, leaveMode_sends 7 hp (by have := state_of_lit hlit; omega)⟩,
    fun _ _ _ hrun hposted hp hopen hr hpers hmay hen hdark hin hdeep hstate hlit =>
      retrain_detects hrun hposted hp hopen hr hpers hmay hen hdark hin hdeep hstate hlit,
    fun _ _ _ hrun hposted hp hopen hr hpers hmay hstate hlit => darkCommand_darkens hrun hposted hp hopen hr hpers hmay hstate hlit,
    fun _ _ _ hrun hposted hp hopen hr hpers hmay hlit =>
      darkCommand_sends hrun hposted hp hopen hr hpers hmay (by have := state_of_lit hlit; omega),
    fun _ _ hrun hmay => portDetectStart_detects hrun hmay,
    fun _ _ hrun hp hstate hen hdark hin hdeep => retryDelayExpiry_detects hrun hp hstate hen hdark hin hdeep,
    fun _ _ hrun hlen hp hstate => exchangeTimeout_darkens hrun hlen hp hstate⟩

end Sys2Proof.Proofs
end

section
/-! SUPPORT. Training, lock, rates that fail, and the entry to EXCHANGE (R124 to R129): what each sets and leaves of a port. -/

namespace Sys2Proof.Proofs

open Sys2Proof.Machine Sys2Proof.Laws

theorem port_of_ports_eq {s t : State} (h : t.ports = s.ports) (p : Nat) : t.port p = s.port p := by simp only [State.port, h]

/-! ### Training frames (R124) -/

theorem trainLane_regs (s : State) (p l : Nat) : (s.trainLane p l).regs = s.regs :=
  (by simp : Leaves [.ports, .outs] s (s.trainLane p l)) .regs (by decide)

/-- A lane's training frames count themselves alone. -/
theorem trainLane_port {α : Type} (φ : PortSt → α) (hφ : ∀ x n, φ { x with frames := n } = φ x) (s : State) (p l : Nat) :
    φ ((s.trainLane p l).port p) = φ (s.port p) := port_portM_of φ s p fun x => hφ x (x.frames + 1)

theorem Grows.trainLane {s t : State} {p l : Nat} (h : Grows s t) : Grows s (t.trainLane p l) := h.portM.emit

theorem trainLanes_regs (s : State) (p : Nat) (ls : List Nat) : (ls.foldl (fun u l => u.trainLane p l) s).regs = s.regs :=
  List.foldlRecOn (motive := fun u => u.regs = s.regs) ls _ rfl fun u hu l _ => (trainLane_regs u p l).trans hu

theorem trainLanes_port {α : Type} (φ : PortSt → α) (hφ : ∀ x n, φ { x with frames := n } = φ x) (s : State) (p : Nat) (ls : List Nat) :
    φ ((ls.foldl (fun u l => u.trainLane p l) s).port p) = φ (s.port p) :=
  List.foldlRecOn (motive := fun u => φ (u.port p) = φ (s.port p)) ls _ rfl fun u hu l _ => (trainLane_port φ hφ u p l).trans hu

/-! ### TRAIN -/

/-- The registers of a port that enters TRAIN: its state, its rate, its taps. -/
def trainRegs (s : State) (p : Nat) : State :=
  ((s.put (F.ADT_STAT_STATE p) 2).put (F.ADT_STAT_RATE p) (s.port p).rate).wr (A.ADT_EQ p) 0x08040804

/-- A port that enters TRAIN starts with nothing heard. -/
def trainPort (x : PortSt) : PortSt :=
  { x with idle := false, rxReady := 0, farReady := 0, locked := 0, status := [0, 0, 0, 0], wants := [0, 0, 0, 0] }

theorem toTrain_eq (s : State) (p : Nat) : s.toTrain p =
    (lanesOf (s.port p).lanes).foldl (fun u l => u.trainLane p l)
      (((trainRegs s p).portM p trainPort).emit (.lanes p (s.port p).rate (s.port p).drives)) := rfl

theorem toTrain_regs (s : State) (p : Nat) : (s.toTrain p).regs = (trainRegs s p).regs := by
  rw [toTrain_eq, trainLanes_regs, emit_regs, portM_regs]

theorem trainRegs_regs_agree (s : State) (p : Nat) : RegsAgreeOff (fun a => a = A.ADT_STAT p ∨ a = A.ADT_EQ p) s (trainRegs s p) :=
  regsAgreeOff_trans (regsAgreeOff_trans (regsAgreeOff_put (f := F.ADT_STAT_STATE p) 2 (.inl rfl))
    (regsAgreeOff_put (f := F.ADT_STAT_RATE p) _ (.inl rfl))) fun _ ha => rd_wr_other _ _ fun e => ha (.inr e)

theorem toTrain_regs_agree (s : State) (p : Nat) : RegsAgreeOff (fun a => a = A.ADT_STAT p ∨ a = A.ADT_EQ p) s (s.toTrain p) :=
  regsAgreeOff_trans (trainRegs_regs_agree s p) (regsAgreeOff_of_regs_eq (toTrain_regs s p))

/-- The fields of ADTn_STAT, which lies apart from ADTn_EQ. -/
theorem trainRegs_get_stat (s : State) (p lo width : Nat) : (trainRegs s p).get ⟨A.ADT_STAT p, lo, width⟩ =
    ((s.put (F.ADT_STAT_STATE p) 2).put (F.ADT_STAT_RATE p) (s.port p).rate).get ⟨A.ADT_STAT p, lo, width⟩ := by
  rw [State.get, trainRegs, rd_wr_other _ _ (by simp [A.ADT_STAT, A.ADT_EQ]), State.get]

theorem toTrain_state (s : State) (p : Nat) : (s.toTrain p).portState p = 2 := by
  rw [State.portState, get_of_regs_eq (toTrain_regs s p)]
  exact (trainRegs_get_stat s p 0 4).trans ((get_put_apart _ _ (by simp [F.ADT_STAT_RATE]) (by simp [F.ADT_STAT_RATE])).trans
    (get_put_same s 2 (by simp [F.ADT_STAT_STATE])))

theorem toTrain_rate (s : State) (p : Nat) : (s.toTrain p).get (F.ADT_STAT_RATE p) = (s.port p).rate % 4 := by
  rw [get_of_regs_eq (toTrain_regs s p)]
  exact (trainRegs_get_stat s p 4 2).trans (get_put_same _ _ (by simp [F.ADT_STAT_RATE]))

theorem toTrain_idle (s : State) (p : Nat) : ((s.toTrain p).port p).idle = false := by
  rw [toTrain_eq, trainLanes_port PortSt.idle fun _ _ => rfl]
  rw [port_of_ports_eq (emit_ports _ _), port_portM]
  split <;> rfl

/-- The lanes are driven at the port's rate. -/
theorem toTrain_sends (s : State) (p : Nat) : Sends s (s.toTrain p) (.lanes p (s.port p).rate (s.port p).drives) := by
  rw [toTrain_eq]
  exact sends_between (t := (trainRegs s p).portM p trainPort) (Grows.refl s).put.put.wr.portM
    ((Grows.refl _).foldl _ fun _ _ hu => hu.trainLane)

/-! ### LOCK (R127) -/

/-- The registers of a port that enters LOCK on the lanes `rx` and `tx`. -/
def lockRegs (s : State) (p rx tx : Nat) : State := ((s.put (F.ADT_STAT_STATE p) 3).setTx p tx).setRx p rx

/-- A port that enters LOCK, before the lanes it goes without are failed. -/
def lockStart (s : State) (p rx tx : Nat) : State :=
  (((lockRegs s p rx tx).portM p fun x => { x with locked := 0 }).freshRx p).emit (.stream p (s.get (F.ADT_STAT_RATE p)) tx (s.port p).lanes)

theorem toLock_eq {s : State} {p : Nat} (rx tx : Nat) (hone : (s.port p).one = false) : s.toLock p rx tx =
    [0, 1].foldl (fun u l => if rx / 2 ^ l % 2 = 0 then u.put (rxCause p l) 6 else u) (lockStart s p rx tx) :=
  if_neg (by simp [hone])

theorem lockStart_get (s : State) (p rx tx : Nat) (f : Fld) : (lockStart s p rx tx).get f = (lockRegs s p rx tx).get f := by
  rw [lockStart, emit_get, State.freshRx, get_of_regs_eq (pcsM_regs _ _ _), portM_get]

section
variable (s : State) (p rx tx : Nat)

theorem lockRegs_state : (lockRegs s p rx tx).portState p = 3 := by
  simp only [lockRegs, State.setRx, State.setTx, State.portState]
  rw [get_put_apart _ _ (by simp [F.ADT_STAT_RXLANES]) (by simp [F.ADT_STAT_RXLANES, F.ADT_STAT_STATE]),
    get_put_apart _ _ (by simp [F.ADT_LANE_RXUSE]) (by simp [F.ADT_LANE_RXUSE, F.ADT_STAT_STATE, A.ADT_LANE, A.ADT_STAT]),
    get_put_apart _ _ (by simp [F.ADT_STAT_TXLANES]) (by simp [F.ADT_STAT_TXLANES, F.ADT_STAT_STATE]),
    get_put_apart _ _ (by simp [F.ADT_LANE_TXUSE]) (by simp [F.ADT_LANE_TXUSE, F.ADT_STAT_STATE, A.ADT_LANE, A.ADT_STAT]),
    get_put_same _ _ (by simp [F.ADT_STAT_STATE])]
  rfl

theorem setRx_rxLanes : (s.setRx p rx).get (F.ADT_STAT_RXLANES p) = rx % 4 := get_put_same _ _ (by simp [F.ADT_STAT_RXLANES])

theorem setTx_txLanes : (s.setTx p tx).get (F.ADT_STAT_TXLANES p) = tx % 4 := get_put_same _ _ (by simp [F.ADT_STAT_TXLANES])

theorem setRx_rxUse : (s.setRx p rx).get (F.ADT_LANE_RXUSE p) = rx % 4 :=
  (get_put_apart _ _ (by simp [F.ADT_STAT_RXLANES]) (by simp [F.ADT_STAT_RXLANES, F.ADT_LANE_RXUSE, A.ADT_LANE, A.ADT_STAT])).trans
    (get_put_same _ _ (by simp [F.ADT_LANE_RXUSE]))

theorem setTx_txUse : (s.setTx p tx).get (F.ADT_LANE_TXUSE p) = tx % 4 :=
  (get_put_apart _ _ (by simp [F.ADT_STAT_TXLANES]) (by simp [F.ADT_STAT_TXLANES, F.ADT_LANE_TXUSE, A.ADT_LANE, A.ADT_STAT])).trans
    (get_put_same _ _ (by simp [F.ADT_LANE_TXUSE]))

theorem lockRegs_rxLanes : (lockRegs s p rx tx).get (F.ADT_STAT_RXLANES p) = rx % 4 := setRx_rxLanes _ p rx

theorem lockRegs_txLanes : (lockRegs s p rx tx).get (F.ADT_STAT_TXLANES p) = tx % 4 := by
  rw [lockRegs, State.setRx, get_put_apart _ _ (by simp [F.ADT_STAT_RXLANES]) (by simp [F.ADT_STAT_RXLANES, F.ADT_STAT_TXLANES]),
    get_put_apart _ _ (by simp [F.ADT_LANE_RXUSE]) (by simp [F.ADT_LANE_RXUSE, F.ADT_STAT_TXLANES, A.ADT_LANE, A.ADT_STAT])]
  exact setTx_txLanes _ p tx

end

/-- With both lanes none is failed. -/
theorem toLock_both {s : State} {p : Nat} (hone : (s.port p).one = false) : s.toLock p 3 3 = lockStart s p 3 3 := by
  rw [toLock_eq 3 3 hone, List.foldl_cons, List.foldl_cons, List.foldl_nil, if_neg (by decide), if_neg (by decide)]

/-- With lane 0 alone, lane 1 is failed with cause 6. -/
theorem toLock_lane0 {s : State} {p : Nat} (hone : (s.port p).one = false) :
    s.toLock p 1 1 = (lockStart s p 1 1).put (F.ADT_LANE_RXCAUSE1 p) 6 := by
  rw [toLock_eq 1 1 hone, List.foldl_cons, List.foldl_cons, List.foldl_nil, if_pos (by decide : 1 / 2 ^ 1 % 2 = 0),
    if_neg (by decide : ¬1 / 2 ^ 0 % 2 = 0), rxCause, if_neg (by decide : ¬1 = 0)]

/-! ### A rate that fails (R127) -/

section
variable {s : State} {p : Nat} (cause : Nat)

/-- A port whose rate above RATE 0 has failed, before its lanes go idle. -/
def rateLowered (s : State) (p cause : Nat) : State :=
  (((((s.put (F.ADT_STAT_LASTFAIL p) cause).put (F.ADT_STAT_STATE p) 2).portM p fun x => { x with rate := x.rate - 1, idle := true }).wr
    (A.ADT_LANE p) 0).put (F.ADT_STAT_TXLANES p) 0).put (F.ADT_STAT_RXLANES p) 0

theorem rateFailed_of_ne (h : (s.port p).rate ≠ 0) : s.rateFailed p cause = (rateLowered s p cause).emit (.lanes p 3 0) := if_neg h

theorem rateLowered_leaves (s : State) (p : Nat) : Leaves [.regs, .ports] s (rateLowered s p cause) := by simp [rateLowered]

theorem rateFailed_outs (h : (s.port p).rate ≠ 0) : (s.rateFailed p cause).outs = s.outs ++ [.lanes p 3 0] := by
  rw [rateFailed_of_ne cause h, emit_outs, (rateLowered_leaves cause s p .outs (by decide)).1]

/-- The fields of ADTn_STAT beside the lanes'. -/
theorem rateLowered_get (s : State) (p : Nat) {lo width : Nat} (h : lo + width ≤ 6 ∨ 10 ≤ lo) :
    (rateLowered s p cause).get ⟨A.ADT_STAT p, lo, width⟩ =
    ((s.put (F.ADT_STAT_LASTFAIL p) cause).put (F.ADT_STAT_STATE p) 2).get ⟨A.ADT_STAT p, lo, width⟩ := by
  rw [rateLowered, get_put_apart _ _ (by simp [F.ADT_STAT_RXLANES]) (by simp [F.ADT_STAT_RXLANES]; omega),
    get_put_apart _ _ (by simp [F.ADT_STAT_TXLANES]) (by simp [F.ADT_STAT_TXLANES]; omega), State.get,
    rd_wr_other _ _ (by simp [A.ADT_STAT, A.ADT_LANE]), portM_rd, State.get]

theorem rateFailed_state (h : (s.port p).rate ≠ 0) : (s.rateFailed p cause).portState p = 2 := by
  rw [State.portState, rateFailed_of_ne cause h, emit_get]
  exact (rateLowered_get cause s p (by decide)).trans (get_put_same _ 2 (by simp [F.ADT_STAT_STATE]))

theorem rateFailed_lastFail (h : (s.port p).rate ≠ 0) (hcause : cause < 16) : (s.rateFailed p cause).get (F.ADT_STAT_LASTFAIL p) = cause := by
  rw [rateFailed_of_ne cause h, emit_get]
  exact (rateLowered_get cause s p (by decide)).trans ((get_put_apart _ 2 (by simp [F.ADT_STAT_STATE]) (by simp [F.ADT_STAT_STATE])).trans
    ((get_put_same s cause (by simp [F.ADT_STAT_LASTFAIL])).trans (Nat.mod_eq_of_lt hcause)))

theorem rateFailed_port (h : (s.port p).rate ≠ 0) :
    (s.rateFailed p cause).port p = { s.port p with rate := (s.port p).rate - 1, idle := true } := by
  have hlen : p < s.ports.length := lt_of_port_ne fun e => h (congrArg PortSt.rate e)
  have hports : (s.rateFailed p cause).ports = (s.portM p fun x => { x with rate := x.rate - 1, idle := true }).ports := by
    rw [rateFailed_of_ne cause h, emit_ports, rateLowered, put_ports, put_ports, wr_ports, portM_ports, put_ports, put_ports, portM_ports]
  rw [port_of_ports_eq hports, port_portM_same _ hlen]

end

/-! ### EXCHANGE (R127, R129) -/

theorem exitDim_of_unlit {s : State} {p : Nat} (h : s.lit p = false) : s.exitDim p = s := if_neg (by simp [h])

/-- What follows a request to spare a lane: the event and the LANE fault. -/
theorem askSpare_keeps (s : State) {p : Nat} (l cause : Nat) (hp : p < 3) :
    KeepsPorts ((s.portM p fun x => { x with asking := x.asking + 2 ^ l }).laneCtl p (s.get (F.ADT_LANE_TXUSE p)) 1 l) (s.askSpare p l cause) :=
  ((KeepsPorts.refl _).raiseWith (by omega)).logFault (by decide)

/-- From `t` to `u` a port that is not Lit stays so: its fields stay, and the peer's capability frame. -/
structure KeepsUnlit (p : Nat) (t u : State) : Prop where
  get : ∀ f, PortFld f → u.get f = t.get f
  peerCap : (u.port p).peerCap = (t.port p).peerCap

theorem askSpare_keepsUnlit {s : State} {p : Nat} (l cause : Nat) (hp : p < 3) (hlit : s.lit p = false) :
    KeepsUnlit p s (s.askSpare p l cause) := by
  have hkeep := askSpare_keeps s l cause hp
  rw [State.laneCtl, exitDim_of_unlit (s := s.portM p _) hlit] at hkeep
  refine ⟨fun f hf => hkeep.get f hf, ?_⟩
  rw [State.port, hkeep.ports, emit_ports]
  exact port_portM_of PortSt.peerCap s p fun _ => rfl

theorem KeepsUnlit.lit {p : Nat} {t u : State} (h : KeepsUnlit p t u) (hp : p < 3) : u.lit p = t.lit p := by
  simp only [State.lit, State.portState, h.get _ (portFld_state hp)]

/-- A port as it enters EXCHANGE, before the lanes that failed are told. -/
def exchangeStart (s : State) (p : Nat) : State :=
  (s.put (F.ADT_STAT_STATE p) 4).portM p fun x =>
    { x with cap := (s.rd (A.ADT_CAPCFG p)).toNat, fidReq := if s.fid = 0 then s.strapFid else s.fid, peerCap := [], gotAck := false, ackSent := false }

theorem exchangeStart_state (s : State) (p : Nat) : (exchangeStart s p).portState p = 4 :=
  (portM_get _ _ _ _).trans (get_put_same s 4 (by simp [F.ADT_STAT_STATE]))

theorem exchangeStart_peerCap (s : State) (p : Nat) : ((exchangeStart s p).port p).peerCap = [] := by
  rw [exchangeStart, port_portM]
  split <;> rfl

theorem exchangeStart_regs_agree (s : State) (p : Nat) : RegsAgreeOff (fun a => a = A.ADT_STAT p) s (exchangeStart s p) :=
  regsAgreeOff_trans (regsAgreeOff_put (f := F.ADT_STAT_STATE p) 4 rfl) (regsAgreeOff_of_regs_eq (portM_regs _ _ _))

/-- The lanes that training or LOCK failed are told, which leaves the port in EXCHANGE. -/
theorem toExchange_keepsUnlit (s : State) {p : Nat} (hp : p < 3) : KeepsUnlit p (exchangeStart s p) (s.toExchange p) := by
  unfold State.toExchange
  extract_lets t u
  have hrefl : KeepsUnlit p t t := ⟨fun _ _ => rfl, rfl⟩
  have hunlit : t.lit p = false := by
    have hstate : t.portState p = 4 := exchangeStart_state s p
    simp [State.lit, hstate]
  have hu : KeepsUnlit p t u := List.foldlRecOn _ _ hrefl fun v hv l _ =>
    have hask := askSpare_keepsUnlit l (s.get (rxCause p l)) hp ((hv.lit hp).trans hunlit)
    ⟨fun f hf => (hask.get f hf).trans (hv.get f hf), hask.peerCap.trans hv.peerCap⟩
  split
  · exact hrefl
  · exact List.foldlRecOn _ _ hu fun v hv l _ =>
      have hraise : KeepsPorts v (v.raiseWith (8 * (12 + 4 * p) + 2) true 0 [l, 1, 6]) := (KeepsPorts.refl v).raiseWith (by omega)
      ⟨fun f hf => (hraise.get f hf).trans (hv.get f hf), by rw [State.port, hraise.ports]; exact hv.peerCap⟩

end Sys2Proof.Proofs
end

section
/-! SUPPORT. Receiver detection, training and lock (R123 to R127), with the proof of O10. -/

namespace Sys2Proof.Proofs

open Sys2Proof.Machine Sys2Proof.Laws

/-! ### Receiver detection (R125) -/

theorem receiverDetect_trains {s : State} {p lanes : Nat} (hrun : s.serdesUp = true) (hp : p < 3) (hstate : s.portState p = 1)
    (hone : (s.port p).one = false) (hlanes : lanes % 4 ≠ 0) : Does (.receiverDetect p lanes) s fun t =>
      t.portState p = 2 ∧ t.get (F.ADT_STAT_RATE p) = (s.port p).rate % 4 ∧ Sends s t (.lanes p (s.port p).rate 3) ∧
      RegsAgreeOff (fun a => a = A.ADT_STAT p ∨ a = A.ADT_EQ p) s t := by
  let u := s.portM p fun x => { x with det := lanes % 4 }
  have hexec : exec (.receiverDetect p lanes) s = .next (u.toTrain p) := by
    have hdet : (if (s.port p).one then lanes % 2 else lanes % 4) = lanes % 4 := if_neg (by simp [hone])
    refine congrArg Host.Outcome.next ((whenSerdes_of hrun _).trans ?_)
    simp only [hdet]
    exact if_pos ⟨hp, hstate, hlanes⟩
  have hrate : (u.port p).rate = (s.port p).rate := port_portM_of PortSt.rate s p fun _ => rfl
  have hdrives : (u.port p).drives = 3 := by
    have h1 : (u.port p).one = false :=
      (port_portM_of PortSt.one s p (g := fun x => { x with det := lanes % 4 }) fun _ => rfl).trans hone
    simp [PortSt.drives, h1]
  have hsends : Sends u (u.toTrain p) (.lanes p (u.port p).rate (u.port p).drives) := toTrain_sends u p
  rw [hrate, hdrives] at hsends
  exact ⟨_, hexec, toTrain_state u p, (toTrain_rate u p).trans (by rw [hrate]), hsends, toTrain_regs_agree u p⟩

/-! ### Training frames (R116, R124) -/

/-- What a training frame on a lane tells of the port. -/
def heardPort (l : Nat) (h : TrainHdr) (inverted ready : Bool) (pre post : Nat) (x : PortSt) : PortSt :=
  { x with
    rxSwap := l != h.lane
    inv := if inverted = (x.inv / 2 ^ l % 2 == 1) then x.inv else if inverted then x.inv + 2 ^ l else x.inv - 2 ^ l
    wants := (x.wants.set (2 * h.lane) pre).set (2 * h.lane + 1) post
    rxReady := if ready && x.rxReady / 2 ^ h.lane % 2 == 0 then x.rxReady + 2 ^ h.lane else x.rxReady
    farReady := if h.ready && x.farReady / 2 ^ h.lane % 2 == 0 then x.farReady + 2 ^ h.lane else x.farReady }

/-- A port in TRAIN that has heard a training frame and answered it with its taps. -/
def trainHeard (s : State) (p l : Nat) (h : TrainHdr) (inverted ready : Bool) (pre post : Nat) : State :=
  ((s.portM p (heardPort l h inverted ready pre post)).moveTaps p h.lane h.reqPre h.reqPost).trainLane p h.lane

/-- Once both ends are READY on every lane of the port, it enters LOCK. -/
def lockWhenReady (s : State) (p : Nat) : State :=
  let x := s.port p
  if x.rxReady % (x.lanes + 1) = x.lanes ∧ x.farReady % (x.lanes + 1) = x.lanes then s.toLock p x.lanes x.lanes else s

theorem moveTaps_port {α : Type} (φ : PortSt → α) (hφ : ∀ x n, φ { x with status := n } = φ x) (s : State) (p l pre post : Nat) :
    φ ((s.moveTaps p l pre post).port p) = φ (s.port p) := by
  unfold State.moveTaps
  extract_lets a b x y
  refine (port_portM_of φ ((s.put a x.1).put b y.1) p fun z => hφ z _).trans ?_
  rw [port_of_ports_eq ((put_ports _ _ _).trans (put_ports _ _ _))]

/-- A training frame on a lane of both, in a port that has both: the port answers it, and enters LOCK once both ends are READY. -/
theorem exec_trainingFrameReceive {s : State} {p l : Nat} {h : TrainHdr} (inverted ready : Bool) (pre post : Nat) (hrun : s.serdesUp = true)
    (hp : p < 3) (hl : l < 2) (hlane : h.lane < 2) (hhdr : h.one = false) (hstate : s.portState p = 2) (hidle : (s.port p).idle = false)
    (hrate : (s.port p).rate < 3) (hone : (s.port p).one = false) (hown : (s.port p).ownOne = false) :
    exec (.trainingFrameReceive p (s.port p).rate l h inverted ready pre post) s =
      .next (lockWhenReady (trainHeard s p l h inverted ready pre post) p) := by
  have hnot : ¬(3 ≤ p ∨ 2 < (s.port p).rate ∨ 1 < l ∨ 1 < h.lane ∨ (s.portState p ≠ 1 ∧ s.portState p ≠ 2) ∨
      ((s.port p).ownOne = true ∧ l = 1)) := by
    simp only [hown, Bool.false_eq_true, false_and, or_false]
    omega
  refine congrArg Host.Outcome.next ((whenSerdes_of hrun _).trans ((if_neg hnot).trans ?_))
  simp only [hstate, show ¬(2 = 1) by decide, Nat.lt_irrefl, hidle, hhdr, hone, Bool.false_eq_true, or_self, if_false]
  rfl

/-- In a port with both lanes. -/
theorem lockWhenReady_of {s : State} {p : Nat} (hone : (s.port p).one = false) :
    lockWhenReady s p = if (s.port p).rxReady % 4 = 3 ∧ (s.port p).farReady % 4 = 3 then s.toLock p 3 3 else s := by
  simp [lockWhenReady, PortSt.lanes, hone]

section
variable (s : State) (p l : Nat) (h : TrainHdr) (inverted ready : Bool) (pre post : Nat)

/-- What a training frame told of the port, its taps' status and the frames begun apart. -/
theorem trainHeard_port {α : Type} (φ : PortSt → α) (hstatus : ∀ x n, φ { x with status := n } = φ x)
    (hframes : ∀ x n, φ { x with frames := n } = φ x) :
    φ ((trainHeard s p l h inverted ready pre post).port p) = φ ((s.portM p (heardPort l h inverted ready pre post)).port p) :=
  (trainLane_port φ hframes _ p _).trans (moveTaps_port φ hstatus _ p _ _ _)

theorem trainHeard_one : ((trainHeard s p l h inverted ready pre post).port p).one = (s.port p).one :=
  (trainHeard_port s p l h inverted ready pre post PortSt.one (fun _ _ => rfl) fun _ _ => rfl).trans (port_portM_of PortSt.one s p fun _ => rfl)

theorem trainHeard_regs : (trainHeard s p l h inverted ready pre post).regs = (s.moveTaps p h.lane h.reqPre h.reqPost).regs := by
  rw [trainHeard, trainLane_regs]
  simp only [State.moveTaps, portM_regs, portM_get]
  rfl

end

theorem tapMove_lt {v lim : Nat} (req : Nat) (hv : v < 64) (hlim : lim < 64) : tapMove v req lim < 64 := by
  unfold tapMove
  split <;> omega

theorem tapMove_fits (s : State) (f : Fld) {lim : Nat} (req : Nat) (hf : f.width = 6) (hlim : lim < 64) :
    tapMove (s.get f) req lim % 2 ^ f.width = tapMove (s.get f) req lim := by
  have hv : s.get f < 64 := (get_lt s f).trans_eq (by rw [hf]; rfl)
  rw [hf]
  exact Nat.mod_eq_of_lt (tapMove_lt req hv hlim)

section
variable (s : State) (p pre post : Nat)

theorem moveTaps_lane0_regs : (s.moveTaps p 0 pre post).regs =
    ((s.put (F.ADT_EQ_PRE0 p) (tapMove (s.get (F.ADT_EQ_PRE0 p)) pre 16)).put (F.ADT_EQ_POST0 p) (tapMove (s.get (F.ADT_EQ_POST0 p)) post 22)).regs := by
  rw [State.moveTaps, portM_regs, if_pos rfl, if_pos rfl, tapAnswer, tapAnswer]

theorem moveTaps_pre0 : (s.moveTaps p 0 pre post).get (F.ADT_EQ_PRE0 p) = tapMove (s.get (F.ADT_EQ_PRE0 p)) pre 16 := by
  rw [get_of_regs_eq (moveTaps_lane0_regs s p pre post), get_put_apart _ _ (by simp [F.ADT_EQ_POST0]) (by simp [F.ADT_EQ_POST0, F.ADT_EQ_PRE0]),
    get_put_same _ _ (by simp [F.ADT_EQ_PRE0]), tapMove_fits s (F.ADT_EQ_PRE0 p) pre rfl (by decide)]

theorem moveTaps_post0 : (s.moveTaps p 0 pre post).get (F.ADT_EQ_POST0 p) = tapMove (s.get (F.ADT_EQ_POST0 p)) post 22 := by
  rw [get_of_regs_eq (moveTaps_lane0_regs s p pre post), get_put_same _ _ (by simp [F.ADT_EQ_POST0]),
    tapMove_fits s (F.ADT_EQ_POST0 p) post rfl (by decide)]

theorem moveTaps_lane0_regs_agree : RegsAgreeOff (fun a => a = A.ADT_EQ p) s (s.moveTaps p 0 pre post) :=
  regsAgreeOff_trans (regsAgreeOff_trans (regsAgreeOff_put (f := F.ADT_EQ_PRE0 p) _ rfl) (regsAgreeOff_put (f := F.ADT_EQ_POST0 p) _ rfl))
    (regsAgreeOff_of_regs_eq (moveTaps_lane0_regs s p pre post))

end

section
variable {s : State} {p : Nat} {h : TrainHdr} (pre post : Nat) (hrun : s.serdesUp = true) (hp : p < 3) (hhdr : h.one = false)
  (hstate : s.portState p = 2) (hidle : (s.port p).idle = false) (hrate : (s.port p).rate < 3) (hone : (s.port p).one = false)
  (hown : (s.port p).ownOne = false)
include hrun hp hhdr hstate hidle hrate hone hown

/-- While no lane of this end is READY, a frame moves the taps and leaves the port in TRAIN. -/
theorem trainingFrameReceive_movesTaps (hlane : h.lane = 0) (hrx : (s.port p).rxReady = 0) :
    Does (.trainingFrameReceive p (s.port p).rate 0 h false false pre post) s fun t =>
      t.get (F.ADT_EQ_PRE0 p) = tapMove (s.get (F.ADT_EQ_PRE0 p)) h.reqPre 16 ∧
      t.get (F.ADT_EQ_POST0 p) = tapMove (s.get (F.ADT_EQ_POST0 p)) h.reqPost 22 ∧ t.portState p = 2 ∧
      RegsAgreeOff (fun a => a = A.ADT_EQ p) s t := by
  have hrx' : ((trainHeard s p 0 h false false pre post).port p).rxReady = 0 :=
    (trainHeard_port s p 0 h false false pre post PortSt.rxReady (fun _ _ => rfl) fun _ _ => rfl).trans
      ((port_portM_of PortSt.rxReady s p (g := heardPort 0 h false false pre post) fun _ => rfl).trans hrx)
  have hstays : lockWhenReady (trainHeard s p 0 h false false pre post) p = trainHeard s p 0 h false false pre post :=
    (lockWhenReady_of ((trainHeard_one s p 0 h false false pre post).trans hone)).trans (if_neg (by simp [hrx']))
  have hexec := exec_trainingFrameReceive false false pre post hrun hp (by decide : 0 < 2) (by omega) hhdr hstate hidle hrate hone hown
  have hregs := trainHeard_regs s p 0 h false false pre post
  rw [hlane] at hregs
  have hagree := regsAgreeOff_trans (moveTaps_lane0_regs_agree s p h.reqPre h.reqPost) (regsAgreeOff_of_regs_eq hregs)
  exact ⟨_, hexec.trans (congrArg Host.Outcome.next hstays), (get_of_regs_eq hregs _).trans (moveTaps_pre0 s p h.reqPre h.reqPost),
    (get_of_regs_eq hregs _).trans (moveTaps_post0 s p h.reqPre h.reqPost),
    (get_of_regsAgreeOff hagree (by simp [F.ADT_STAT_STATE, A.ADT_STAT, A.ADT_EQ])).trans hstate, hagree⟩

/-- The last READY of both ends takes the port to LOCK on both lanes. -/
theorem trainingFrameReceive_locks (hlen : p < s.ports.length) (hlane : h.lane = 1) (hready : h.ready = true) (hrx : (s.port p).rxReady = 1)
    (hfar : (s.port p).farReady = 1) : Does (.trainingFrameReceive p (s.port p).rate 1 h false true pre post) s fun t =>
      t.portState p = 3 ∧ t.get (F.ADT_STAT_TXLANES p) = 3 ∧ t.get (F.ADT_STAT_RXLANES p) = 3 := by
  have hheard := fun (φ : PortSt → Nat) hstatus hframes => (trainHeard_port s p 1 h false true pre post φ hstatus hframes).trans
    (congrArg φ (port_portM_same (heardPort 1 h false true pre post) hlen))
  have hrx' : ((trainHeard s p 1 h false true pre post).port p).rxReady = 3 :=
    (hheard PortSt.rxReady (fun _ _ => rfl) fun _ _ => rfl).trans (by simp [heardPort, hlane, hrx])
  have hfar' : ((trainHeard s p 1 h false true pre post).port p).farReady = 3 :=
    (hheard PortSt.farReady (fun _ _ => rfl) fun _ _ => rfl).trans (by simp [heardPort, hlane, hready, hfar])
  have hone' := (trainHeard_one s p 1 h false true pre post).trans hone
  have hlocks : lockWhenReady (trainHeard s p 1 h false true pre post) p = lockStart (trainHeard s p 1 h false true pre post) p 3 3 :=
    (lockWhenReady_of hone').trans ((if_pos (by simp [hrx', hfar'])).trans (toLock_both hone'))
  have hexec := exec_trainingFrameReceive false true pre post hrun hp (by decide : 1 < 2) (by omega) hhdr hstate hidle hrate hone hown
  exact ⟨_, hexec.trans (congrArg Host.Outcome.next hlocks), (lockStart_get _ _ _ _ _).trans (lockRegs_state _ p 3 3),
    (lockStart_get _ _ _ _ _).trans (lockRegs_txLanes _ p 3 3), (lockStart_get _ _ _ _ _).trans (lockRegs_rxLanes _ p 3 3)⟩

end

/-! ### A rate that trains in part, or fails (R127) -/

section
variable {s : State} {p : Nat} (hrun : s.serdesUp = true) (hp : p < 3)
include hrun hp

/-- Lane 0 alone READY both ways: LOCK on it, lane 1 failed with cause 6. -/
theorem trainTimeout_locks (hstate : s.portState p = 2) (hidle : (s.port p).idle = false) (hrx : (s.port p).rxReady = 1)
    (hfar : (s.port p).farReady = 1) (hone : (s.port p).one = false) : Does (.trainTimeout p) s fun t =>
      t.portState p = 3 ∧ t.get (F.ADT_STAT_TXLANES p) = 1 ∧ t.get (F.ADT_STAT_RXLANES p) = 1 ∧ t.get (F.ADT_LANE_RXCAUSE1 p) = 6 := by
  have hexec : exec (.trainTimeout p) s = .next ((lockStart s p 1 1).put (F.ADT_LANE_RXCAUSE1 p) 6) := by
    have hready : ¬((s.port p).rxReady = 0 ∨ (s.port p).farReady = 0) := by omega
    refine congrArg Host.Outcome.next ((whenSerdes_of hrun _).trans ((if_pos ⟨hp, hstate, by simp [hidle]⟩).trans ((if_neg hready).trans ?_)))
    rw [hrx, hfar, toLock_lane0 hone]
  have hstat : ∀ f : Fld, f.addr = A.ADT_STAT p →
      ((lockStart s p 1 1).put (F.ADT_LANE_RXCAUSE1 p) 6).get f = (lockRegs s p 1 1).get f := fun f hf =>
    (get_put_apart _ _ (by simp [F.ADT_LANE_RXCAUSE1]) (.inl (by simp [F.ADT_LANE_RXCAUSE1, hf, A.ADT_LANE, A.ADT_STAT]))).trans
      (lockStart_get s p 1 1 f)
  exact ⟨_, hexec, (hstat _ rfl).trans (lockRegs_state s p 1 1), (hstat _ rfl).trans (lockRegs_txLanes s p 1 1),
    (hstat _ rfl).trans (lockRegs_rxLanes s p 1 1), get_put_same _ 6 (by simp [F.ADT_LANE_RXCAUSE1])⟩

theorem trainTimeout_fallsBack (hstate : s.portState p = 2) (hidle : (s.port p).idle = false) (hrx : (s.port p).rxReady = 0)
    (hrate : (s.port p).rate ≠ 0) : Does (.trainTimeout p) s fun t =>
      t.portState p = 2 ∧ t.get (F.ADT_STAT_LASTFAIL p) = 1 ∧ (t.port p).rate = (s.port p).rate - 1 ∧ (t.port p).idle = true ∧
      t.outs = s.outs ++ [.lanes p 3 0] := by
  have hexec : exec (.trainTimeout p) s = .next (s.rateFailed p 1) :=
    congrArg Host.Outcome.next ((whenSerdes_of hrun _).trans ((if_pos ⟨hp, hstate, by simp [hidle]⟩).trans (if_pos (.inl hrx))))
  have hport := rateFailed_port 1 hrate
  exact ⟨_, hexec, rateFailed_state 1 hrate, rateFailed_lastFail 1 hrate (by decide), congrArg PortSt.rate hport, congrArg PortSt.idle hport,
    rateFailed_outs 1 hrate⟩

theorem lockTimeout_fallsBack (hstate : s.portState p = 3) (hrate : (s.port p).rate ≠ 0) : Does (.lockTimeout p) s fun t =>
    t.portState p = 2 ∧ t.get (F.ADT_STAT_LASTFAIL p) = 2 ∧ (t.port p).rate = (s.port p).rate - 1 ∧ t.outs = s.outs ++ [.lanes p 3 0] := by
  have hexec : exec (.lockTimeout p) s = .next (s.rateFailed p 2) :=
    congrArg Host.Outcome.next ((whenSerdes_of hrun _).trans (if_pos ⟨hp, hstate⟩))
  exact ⟨_, hexec, rateFailed_state 2 hrate, rateFailed_lastFail 2 hrate (by decide), congrArg PortSt.rate (rateFailed_port 2 hrate),
    rateFailed_outs 2 hrate⟩

theorem fallbackIdleEnd_trains (hstate : s.portState p = 2) (hidle : (s.port p).idle = true) : Does (.fallbackIdleEnd p) s fun t =>
    t.portState p = 2 ∧ (t.port p).idle = false ∧ t.get (F.ADT_STAT_RATE p) = (s.port p).rate % 4 ∧
    Sends s t (.lanes p (s.port p).rate (s.port p).drives) :=
  ⟨_, congrArg Host.Outcome.next ((whenSerdes_of hrun _).trans (if_pos ⟨hp, hstate, hidle⟩)), toTrain_state s p, toTrain_idle s p,
    toTrain_rate s p, toTrain_sends s p⟩

end

/-! ### Markers in LOCK (R123) -/

/-- A port in LOCK whose marker on lane 0 has come in. -/
def lane0Deskewed (s : State) (p : Nat) (skew : Int) : State :=
  ((s.put (F.ADT_SKEW_SKEW p) (skew % 8192).toNat).rxM p 0 fun r => { r with since := some 0, seek := 0 }).portM p fun x =>
    if x.locked / 2 ^ 0 % 2 = 1 then x else { x with locked := x.locked + 2 ^ 0 }

theorem lane0Deskewed_get (s : State) (p : Nat) (skew : Int) (f : Fld) :
    (lane0Deskewed s p skew).get f = (s.put (F.ADT_SKEW_SKEW p) (skew % 8192).toNat).get f :=
  (portM_get _ _ _ _).trans (rxM_get _ _ _ _ _)

theorem lane0Deskewed_locked {s : State} {p : Nat} (skew : Int) (hlen : p < s.ports.length) : ((lane0Deskewed s p skew).port p).locked % 2 = 1 := by
  have hlen' : p < ((s.put (F.ADT_SKEW_SKEW p) (skew % 8192).toNat).rxM p 0 fun r => { r with since := some 0, seek := 0 }).ports.length := by
    rw [rxM_ports, put_ports]
    exact hlen
  rw [lane0Deskewed, port_portM_same _ hlen']
  split
  · omega
  · simp only [pow_zero]
    omega

section
variable {s : State} {p : Nat} (hrun : s.serdesUp = true) (hp : p < 3)
include hrun hp

theorem exec_markerReceive_lock (skew : Int) (hstate : s.portState p = 3) (hdim : s.bit (F.ADT_STAT_RXDIM p) = false)
    (hlock : (s.rxLane p 0).lock = true) : exec (.markerReceive p 0 skew) s = .next ((lane0Deskewed s p skew).lockDone p) := by
  have hnot : ¬(3 ≤ p ∨ 2 ≤ 0 ∨ s.portState p < 3 ∨ 6 < s.portState p ∨ s.bit (F.ADT_STAT_RXDIM p) ∨ !(s.rxLane p 0).lock) := by
    simp only [hdim, hlock, Bool.not_true, Bool.false_eq_true, or_false, hstate]
    omega
  refine congrArg Host.Outcome.next ((whenSerdes_of hrun _).trans ((if_neg hnot).trans ((if_pos hstate).trans (congrArg (State.lockDone · p) ?_))))
  exact if_neg (by simp)

/-- The last lane's lock takes the port to EXCHANGE. -/
theorem markerReceive_exchanges (skew : Int) (hlen : p < s.ports.length) (hstate : s.portState p = 3)
    (hdim : s.bit (F.ADT_STAT_RXDIM p) = false) (hlock : (s.rxLane p 0).lock = true) (huse : s.get (F.ADT_LANE_RXUSE p) = 1) :
    Does (.markerReceive p 0 skew) s fun t =>
      t.portState p = 4 ∧ t.get (F.ADT_SKEW_SKEW p) = (skew % 8192).toNat ∧ (t.port p).peerCap = [] := by
  have huse' : (lane0Deskewed s p skew).get (F.ADT_LANE_RXUSE p) = 1 := (lane0Deskewed_get s p skew _).trans
    ((get_put_apart _ _ (by simp [F.ADT_SKEW_SKEW]) (.inl (by simp [F.ADT_SKEW_SKEW, F.ADT_LANE_RXUSE, A.ADT_SKEW, A.ADT_LANE]))).trans huse)
  have hdone : (lane0Deskewed s p skew).lockDone p = (lane0Deskewed s p skew).toExchange p :=
    if_pos (by simp [huse', lanesOf, lane0Deskewed_locked skew hlen])
  have hkeep := toExchange_keepsUnlit (lane0Deskewed s p skew) hp
  have hskew : (exchangeStart (lane0Deskewed s p skew) p).get (F.ADT_SKEW_SKEW p) = (skew % 8192).toNat :=
    (get_of_regsAgreeOff (exchangeStart_regs_agree _ p) (by simp [F.ADT_SKEW_SKEW, A.ADT_SKEW, A.ADT_STAT])).trans
      ((lane0Deskewed_get s p skew _).trans ((get_put_same s _ (by simp [F.ADT_SKEW_SKEW])).trans
        (Nat.mod_eq_of_lt (by simp only [F.ADT_SKEW_SKEW]; omega))))
  exact ⟨_, (exec_markerReceive_lock hrun hp skew hstate hdim hlock).trans (congrArg Host.Outcome.next hdone),
    (hkeep.get _ (portFld_state hp)).trans (exchangeStart_state _ p), (hkeep.get _ (portFld_skew hp)).trans hskew,
    hkeep.peerCap.trans (exchangeStart_peerCap _ p)⟩

end

/-- Settles O10: clause by clause, the equation of the command, then what TRAIN, LOCK or EXCHANGE makes of the port. -/
theorem trainingRows : Obligations.TrainingRows := by
  unfold Obligations.TrainingRows
  exact ⟨fun _ _ _ hrun hp hstate hone hlanes => receiverDetect_trains hrun hp hstate hone hlanes,
    fun _ _ _ pre post hrun hp hlane hhdr _ hstate hidle hrate hrx _ hone hown =>
      trainingFrameReceive_movesTaps pre post hrun hp hhdr hstate hidle hrate hone hown hlane hrx,
    fun _ _ _ pre post hrun hp hlen hlane hhdr hready hstate hidle hrate hrx hfar hone hown =>
      trainingFrameReceive_locks pre post hrun hp hhdr hstate hidle hrate hone hown hlen hlane hready hrx hfar,
    fun _ _ hrun hp hstate hidle hrx hfar hone => trainTimeout_locks hrun hp hstate hidle hrx hfar hone,
    fun _ _ hrun hp hstate hidle hrx hrate => trainTimeout_fallsBack hrun hp hstate hidle hrx hrate,
    fun _ _ hrun hp hstate hidle => fallbackIdleEnd_trains hrun hp hstate hidle,
    fun _ _ skew hrun hp hlen hstate hdim hlock huse => markerReceive_exchanges hrun hp skew hlen hstate hdim hlock huse,
    fun _ _ hrun hp hstate hrate => lockTimeout_fallsBack hrun hp hstate hrate⟩

end Sys2Proof.Proofs
end

section
/-! SUPPORT. LANECTL blocks, striping, rejoins and failures of a lane (R136 to R138): what each sends, and what it leaves of the registers. -/

namespace Sys2Proof.Proofs

open Sys2Proof.Machine Sys2Proof.Laws

theorem carrying_of_lit {s : State} {p : Nat} (h : s.lit p = true) : s.carrying p = true := by
  have := lt_of_lit h
  have := state_of_lit h
  simp only [State.carrying, Bool.and_eq_true, decide_eq_true_eq]
  omega

/-! ### The fields of ADTn_LANE -/

section
variable (p l : Nat)

theorem rxCause_addr : (rxCause p l).addr = A.ADT_LANE p := by
  unfold rxCause
  split <;> rfl

theorem rxCause_bounds : 4 ≤ (rxCause p l).lo ∧ (rxCause p l).lo + (rxCause p l).width ≤ 12 := by
  unfold rxCause
  split <;> simp [F.ADT_LANE_RXCAUSE0, F.ADT_LANE_RXCAUSE1]

theorem rxCause_width : (rxCause p l).width = 4 := by
  unfold rxCause
  split <;> rfl

theorem flaps_bounds : 12 ≤ (flaps p l).lo ∧ (flaps p l).lo + (flaps p l).width ≤ 16 := by
  unfold flaps
  split <;> simp [F.ADT_LANE_FLAPS0, F.ADT_LANE_FLAPS1]

theorem rxHold_bounds : 16 ≤ (rxHold p l).lo ∧ (rxHold p l).lo + (rxHold p l).width ≤ 18 := by
  unfold rxHold
  split <;> simp [F.ADT_LANE_RXHOLD0, F.ADT_LANE_RXHOLD1]

end

/-! ### LANECTL blocks (Table 5-3, R137) -/

theorem exitDim_regs_agree (s : State) (p : Nat) : RegsAgreeOff (fun a => a = A.ADT_STAT p) s (s.exitDim p) := by
  refine regsAgreeOff_ite (regsAgreeOff_trans (regsAgreeOff_trans (regsAgreeOff_put (f := F.ADT_STAT_TXDIM p) 0 rfl)
    (regsAgreeOff_put (f := F.ADT_STAT_STATE p) 5 rfl)) (regsAgreeOff_of_regs_eq ?_)) (regsAgreeOff_refl _ s)
  rw [State.creditAll, emits_regs, emit_regs]

section
variable (s : State) (p mask kind arg : Nat)

/-- A LANECTL block changes no register but ADTn_STAT, where the port leaves Dim for it. -/
theorem laneCtl_get {f : Fld} (hf : f.addr ≠ A.ADT_STAT p) : (s.laneCtl p mask kind arg).get f = s.get f :=
  (emit_get _ _ _).trans (get_of_regsAgreeOff (exitDim_regs_agree s p) hf)

theorem laneCtl_sends : Sends s (s.laneCtl p mask kind arg) (.blocks p 0x5A mask kind arg 1) :=
  (Spares.refl s).exitDim.grows.sends (sends_emit _ _)

end

section
variable (s : State) (p on mask : Nat)

theorem restripe_sends_lanectl : Sends s (s.restripe p on mask) (.blocks p 0x5A on 3 mask 1) :=
  sends_trans (laneCtl_sends s p on 3 mask) (Grows.refl _).emit.put.put

theorem restripe_sends_stripe : Sends s (s.restripe p on mask) (.stripe p mask) :=
  sends_between (laneCtl_sends s p on 3 mask).1 (Grows.refl _).put.put

end

/-! ### Rejoins that fail (R138) -/

section
variable {s : State} {p l : Nat} {f : Fld}

/-- The end of a rejoin's 60 s reaches the lane's count of failures alone. -/
theorem flapEnd_get (hf : FldApart (flaps p l) f) : (s.flapEnd p l).get f = s.get f := by
  have hfit : (flaps p l).lo + (flaps p l).width ≤ 32 := (flaps_bounds p l).2.trans (by decide)
  unfold State.flapEnd
  split
  · split
    · exact (portM_get _ _ _ _).trans (get_put_other s 0 hfit hf)
    · rfl
  · rfl

theorem flapEnd_one : ((s.flapEnd p l).port p).one = (s.port p).one := by
  unfold State.flapEnd
  split
  · split
    · refine (port_portM_of PortSt.one (s.put (flaps p l) 0) p fun _ => by split <;> rfl).trans ?_
      rw [port_of_ports_eq (put_ports _ _ _)]
    · rfl
  · rfl

theorem flapEnd_lanePasses : (s.flapEnd p l).lanePasses p l = s.lanePasses p l := by
  have hleaves : Leaves [.regs, .ports] s (s.flapEnd p l) := by simp
  have hpcs : (s.flapEnd p l).pcs = s.pcs := hleaves .pcs (by decide)
  have huptime : (s.flapEnd p l).uptime = s.uptime := hleaves .uptime (by decide)
  simp only [State.lanePasses, State.rxLane, State.coding, hpcs, huptime]

theorem flapEnd_grows (s : State) (p l : Nat) : Grows s (s.flapEnd p l) :=
  (Grows.refl s).same ((by simp : Leaves [.regs, .ports] s (s.flapEnd p l)) .outs (by decide)).1

/-- A counted failure reaches the lane's count and its hold alone, of the ports' fields. -/
theorem flap_get (hp : p < 3) (hfld : PortFld f) (hf : f.lo + f.width ≤ 12) : (s.flap p l).get f = s.get f := by
  have hflaps := flaps_bounds p l
  have hhold := rxHold_bounds p l
  have hfit : (flaps p l).lo + (flaps p l).width ≤ 32 := by omega
  have hapart : FldApart (flaps p l) f := by
    simp only [FldApart]
    omega
  have hheld : FldApart (rxHold p l) f := by
    simp only [FldApart]
    omega
  unfold State.flap
  extract_lets u v
  have hu : u.get f = s.get f := flapEnd_get hapart
  have hv : v.get f = s.get f := (get_put_other u _ hfit hapart).trans hu
  have hraise : KeepsPorts (v.put (rxHold p l) 1) ((v.put (rxHold p l) 1).raise (12 + 4 * p) 7 [l]) :=
    (KeepsPorts.refl _).raise (by omega)
  exact iteInduction (motive := fun w : State => w.get f = s.get f) (fun _ => hu) fun _ =>
    iteInduction (motive := fun w : State => w.get f = s.get f)
      (fun _ => (hraise.get f hfld).trans ((get_put_other v 1 (by omega) hheld).trans hv)) fun _ => hv

theorem flap_grows (s : State) (p l : Nat) : Grows s (s.flap p l) := by
  have hend := flapEnd_grows s p l
  exact hend.ite (hend.put.put.raise.ite hend.put)

end

/-! ### Failed lanes (R136, R137) -/

/-- Asking for a lane to be spared sends SPARE on the lanes transmitted on. -/
theorem askSpare_sends (s : State) (p l cause : Nat) :
    Sends s (s.askSpare p l cause) (.blocks p 0x5A (s.get (F.ADT_LANE_TXUSE p)) 1 l 1) :=
  sends_trans ((Grows.refl s).portM.sends (laneCtl_sends _ p _ 1 l)) (Grows.refl _).raiseWith.logFault

theorem askSpare_get {s : State} {p : Nat} (l cause : Nat) {f : Fld} (hp : p < 3) (hfld : PortFld f) (hf : f.addr ≠ A.ADT_STAT p) :
    (s.askSpare p l cause).get f = s.get f :=
  ((askSpare_keeps s l cause hp).get f hfld).trans ((laneCtl_get _ p _ 1 l hf).trans (portM_get _ _ _ _))

/-- A port whose lane has failed, its cause written. -/
def laneFaulted (s : State) (p l cause : Nat) : State :=
  ((s.offend p l cause).put (rxCause p l) cause).portM p fun x =>
    if l = 0 then { x with skewKept := (s.offend p l cause).get (F.ADT_SKEW_SKEW p) } else x

theorem laneFaulted_get (s : State) (p l cause : Nat) (f : Fld) :
    (laneFaulted s p l cause).get f = (s.put (rxCause p l) cause).get f := portM_get _ _ _ _

theorem laneFaulted_grows (s : State) (p l cause : Nat) : Grows s (laneFaulted s p l cause) :=
  Grows.portM (Grows.put ((Grows.refl s).same (rxM_outs s p l _)))

/-- A lane of two that fails in a Lit port is asked to be spared. -/
theorem laneFailed_of_both {s : State} {p l : Nat} (cause : Nat) (hlit : s.lit p = true) (hl : l < 2) (hboth : s.working p = [0, 1]) :
    s.laneFailed p l cause = ((laneFaulted s p l cause).flap p l).askSpare p l cause := by
  have hstate := state_of_lit hlit
  have hmem : (s.working p).contains l = true := by
    rw [hboth]
    simp only [List.contains_cons, List.contains_nil, Bool.or_false, Bool.or_eq_true, beq_iff_eq]
    omega
  have hnot : ¬(s.portState p < 3 ∨ 6 < s.portState p ∨ !((s.working p).contains l)) := by
    simp only [hmem, Bool.not_true, Bool.false_eq_true, or_false]
    omega
  exact (if_neg hnot).trans ((if_neg (by simp [hboth, show (s.offend p l cause).working p = s.working p from rfl])).trans
    (if_neg (by change ¬s.portState p = 3; omega)))

/-! ### Lanes that rejoin (R138) -/

/-- A lane that is back reaches its cause alone, of the ports' fields. -/
theorem laneBack_get {s : State} {p l : Nat} {f : Fld} (hp : p < 3) (hfld : PortFld f) (hf : FldApart (rxCause p l) f) :
    (s.laneBack p l).get f = s.get f := by
  have hfit : (rxCause p l).lo + (rxCause p l).width ≤ 32 := (rxCause_bounds p l).2.trans (by decide)
  have hraise : KeepsPorts (s.put (rxCause p l) 0) ((s.put (rxCause p l) 0).raise (12 + 4 * p) 3 [l]) := (KeepsPorts.refl _).raise (by omega)
  exact (portM_get _ _ _ _).trans ((hraise.get f hfld).trans (get_put_other s 0 hfit hf))

/-- A new stripe sets the lanes received on, and what follows leaves them. -/
theorem hearStripe_get {s : State} {p mask : Nat} {f : Fld} (hlit : s.lit p = true) (hmask : mask ≠ 0) (hmask4 : mask < 4) (hfld : PortFld f)
    (hf : ∀ l, FldApart (rxCause p l) f) : (s.hearStripe p mask).get f = (s.setRx p mask).get f := by
  have hp := lt_of_lit hlit
  have hnot : ¬(!(s.carrying p) ∨ mask = 0 ∨ 4 ≤ mask) := by
    simp only [carrying_of_lit hlit, Bool.not_true, Bool.false_eq_true, false_or]
    omega
  unfold State.hearStripe
  rw [if_neg hnot]
  extract_lets old t row u v
  have ht : t.get f = (s.setRx p mask).get f := portM_get _ _ _ _
  have hu : u.get f = t.get f := List.foldlRecOn (motive := fun w : State => w.get f = t.get f) _ _ rfl fun w hw l _ => (rxM_get w p l _ f).trans hw
  have hv : v.get f = u.get f := List.foldlRecOn (motive := fun w : State => w.get f = u.get f) _ _ rfl fun w hw l _ => by
    split
    · exact (laneBack_get hp hfld (hf l)).trans hw
    · exact hw
  split
  · exact ((KeepsPorts.refl v).closeFaults.get f hfld).trans (hv.trans (hu.trans ht))
  · exact hv.trans (hu.trans ht)

end Sys2Proof.Proofs
end

section
/-! SUPPORT. Lane sparing (R136 to R138), with the proof of O12. -/

namespace Sys2Proof.Proofs

open Sys2Proof.Machine Sys2Proof.Laws

theorem lanesOf_single {l : Nat} (h : l < 2) : lanesOf (2 ^ l) = [l] := by
  obtain rfl | rfl : l = 0 ∨ l = 1 := by omega
  · decide
  · decide

/-- The mask of the lane that goes on where one of both is left out. -/
theorem other_lane {l : Nat} (h : l < 2) : 3 / 2 ^ l % 2 = 1 ∧ 3 ≠ 2 ^ l ∧ (3 - 2 ^ l) % 4 = 3 - 2 ^ l := by
  obtain rfl | rfl : l = 0 ∨ l = 1 := by omega
  · decide
  · decide

/-- What follows a new stripe leaves the lanes transmitted on. -/
theorem txLanes_of_restripe {s t : State} {p on mask : Nat} (hp : p < 3) (h : KeepsPorts (s.restripe p on mask) t) :
    t.get (F.ADT_LANE_TXUSE p) = mask % 4 ∧ t.get (F.ADT_STAT_TXLANES p) = mask % 4 :=
  ⟨(h.get _ (portFld_txUse hp)).trans (setTx_txUse _ p mask), (h.get _ (portFld_txLanes hp)).trans (setTx_txLanes _ p mask)⟩

section
variable {s : State} {p lane : Nat} (hrun : s.serdesUp = true) (hlit : s.lit p = true)
include hrun hlit

theorem laneFailure_asks {cause : Nat} (hlane : lane < 2) (hcause : cause < 16) (hdim : s.bit (F.ADT_STAT_RXDIM p) = false)
    (hboth : s.working p = [0, 1]) : Does (.laneFailure p lane cause) s fun t =>
      t.get (rxCause p lane) = cause ∧ Sends s t (.blocks p 0x5A (s.get (F.ADT_LANE_TXUSE p)) 1 lane 1) := by
  have hp := lt_of_lit hlit
  have hnot : ¬(3 ≤ p ∨ s.bit (F.ADT_STAT_RXDIM p) ∨ 2 ≤ lane) := by
    simp only [hdim, Bool.false_eq_true, false_or]
    omega
  have hexec : exec (.laneFailure p lane cause) s = .next (((laneFaulted s p lane cause).flap p lane).askSpare p lane cause) :=
    congrArg Host.Outcome.next ((whenSerdes_of hrun _).trans ((if_neg hnot).trans (laneFailed_of_both cause hlit hlane hboth)))
  have hbounds := rxCause_bounds p lane
  have hwritten : (laneFaulted s p lane cause).get (rxCause p lane) = cause :=
    (laneFaulted_get s p lane cause _).trans ((get_put_same s cause (by omega)).trans
      (by rw [rxCause_width]; exact Nat.mod_eq_of_lt hcause))
  have huse : ((laneFaulted s p lane cause).flap p lane).get (F.ADT_LANE_TXUSE p) = s.get (F.ADT_LANE_TXUSE p) :=
    (flap_get hp (portFld_txUse hp) (by simp [F.ADT_LANE_TXUSE])).trans ((laneFaulted_get s p lane cause _).trans
      (get_put_apart s cause (by omega) (by simp only [F.ADT_LANE_TXUSE]; omega)))
  have hsends := askSpare_sends ((laneFaulted s p lane cause).flap p lane) p lane cause
  rw [huse] at hsends
  exact ⟨_, hexec, (askSpare_get lane cause hp (portFld_rxCause hp lane) (by simp [rxCause_addr, A.ADT_LANE, A.ADT_STAT])).trans
      ((flap_get hp (portFld_rxCause hp lane) hbounds.2).trans hwritten),
    ((laneFaulted_grows s p lane cause).trans (flap_grows _ p lane)).sends hsends⟩

/-- SPARE is sent again for the lane that is asked for. -/
theorem spareRepeat_asks (hlane : lane < 2) (hasking : (s.port p).asking = 2 ^ lane) : Does (.spareRepeat p) s fun t =>
    Sends s t (.blocks p 0x5A (s.get (F.ADT_LANE_TXUSE p)) 1 lane 1) := by
  have hexec : exec (.spareRepeat p) s = .next (s.laneCtl p (s.get (F.ADT_LANE_TXUSE p)) 1 lane) := by
    refine congrArg Host.Outcome.next ((whenSerdes_of hrun _).trans ((if_pos (carrying_of_lit hlit)).trans ?_))
    rw [hasking, lanesOf_single hlane, List.foldl_cons, List.foldl_nil]
  exact ⟨_, hexec, laneCtl_sends s p _ 1 lane⟩

/-- A transmitter on both lanes that hears SPARE goes on with the other lane. -/
theorem lanectlSpareReceive_stripes (hlane : lane < 2) (huse : s.get (F.ADT_LANE_TXUSE p) = 3) :
    Does (.lanectlSpareReceive p lane) s fun t =>
      t.get (F.ADT_LANE_TXUSE p) = 3 - 2 ^ lane ∧ t.get (F.ADT_STAT_TXLANES p) = 3 - 2 ^ lane ∧
      Sends s t (.blocks p 0x5A (3 - 2 ^ lane) 3 (3 - 2 ^ lane) 1) ∧ Sends s t (.stripe p (3 - 2 ^ lane)) := by
  have hp := lt_of_lit hlit
  obtain ⟨hin, hboth, hmask⟩ := other_lane hlane
  let u := s.restripe p (3 - 2 ^ lane) (3 - 2 ^ lane)
  have hexec : exec (.lanectlSpareReceive p lane) s = .next (u.raiseWith (8 * (12 + 4 * p) + 2) true 0 [lane, 1]) := by
    have hnot : ¬(!(s.carrying p) ∨ 2 ≤ lane) := by simp [carrying_of_lit hlit, hlane]
    refine congrArg Host.Outcome.next ((whenSerdes_of hrun _).trans ((if_neg hnot).trans ?_))
    rw [huse, if_neg (by rw [hin]; decide), if_neg hboth]
  have hlanes := txLanes_of_restripe (t := u.raiseWith (8 * (12 + 4 * p) + 2) true 0 [lane, 1]) hp ((KeepsPorts.refl u).raiseWith (by omega))
  rw [hmask] at hlanes
  have hgrows : Grows u (u.raiseWith (8 * (12 + 4 * p) + 2) true 0 [lane, 1]) := (Grows.refl u).raiseWith
  exact ⟨_, hexec, hlanes.1, hlanes.2, sends_trans (restripe_sends_lanectl s p _ _) hgrows, sends_trans (restripe_sends_stripe s p _ _) hgrows⟩

theorem lanectlStripeReceive_sets {mask : Nat} (hmask : 1 ≤ mask) (hmask4 : mask < 4) : Does (.lanectlStripeReceive p mask) s fun t =>
    t.get (F.ADT_LANE_RXUSE p) = mask ∧ t.get (F.ADT_STAT_RXLANES p) = mask := by
  have hp := lt_of_lit hlit
  have hcauses := rxCause_bounds p
  have hmod : mask % 4 = mask := Nat.mod_eq_of_lt hmask4
  exact ⟨_, congrArg Host.Outcome.next (whenSerdes_of hrun _),
    (hearStripe_get hlit (by omega) hmask4 (portFld_rxUse hp) fun l => .inr (.inr (by simp only [F.ADT_LANE_RXUSE]; exact (hcauses l).1))).trans
      ((setRx_rxUse s p mask).trans hmod),
    (hearStripe_get hlit (by omega) hmask4 (portFld_rxLanes hp) fun l => .inl (by simp [rxCause_addr, F.ADT_STAT_RXLANES, A.ADT_LANE, A.ADT_STAT])).trans
      ((setRx_rxLanes s p mask).trans hmod)⟩

/-- A transmitter on one lane that hears JOIN stripes on both. -/
theorem lanectlJoinReceive_stripes (hlane : lane < 2) (hone : (s.port p).one = false) (huse : s.get (F.ADT_LANE_TXUSE p) ≠ 3) :
    Does (.lanectlJoinReceive p lane) s fun t =>
      t.get (F.ADT_LANE_TXUSE p) = 3 ∧ t.get (F.ADT_STAT_TXLANES p) = 3 ∧
      Sends s t (.blocks p 0x5A (s.get (F.ADT_LANE_TXUSE p)) 3 3 1) ∧ Sends s t (.stripe p 3) := by
  have hp := lt_of_lit hlit
  let u := s.restripe p (s.get (F.ADT_LANE_TXUSE p)) 3
  have hexec : exec (.lanectlJoinReceive p lane) s = .next (u.raise (12 + 4 * p) 3 [lane, 1]) := by
    have hnot : ¬(!(s.carrying p) ∨ 2 ≤ lane ∨ (s.port p).one) := by simp [carrying_of_lit hlit, hlane, hone]
    exact congrArg Host.Outcome.next ((whenSerdes_of hrun _).trans ((if_neg hnot).trans (if_neg huse)))
  have hlanes := txLanes_of_restripe (t := u.raise (12 + 4 * p) 3 [lane, 1]) hp ((KeepsPorts.refl u).raise (by omega))
  have hgrows : Grows u (u.raise (12 + 4 * p) 3 [lane, 1]) := (Grows.refl u).raise
  exact ⟨_, hexec, hlanes.1, hlanes.2, sends_trans (restripe_sends_lanectl s p _ _) hgrows, sends_trans (restripe_sends_stripe s p _ _) hgrows⟩

/-- A spared lane that passed its second is asked to join. -/
theorem sparedLaneJudge_asks (hlane : lane < 2) (hspared : s.get (F.ADT_LANE_RXUSE p) / 2 ^ lane % 2 = 0) (hone : (s.port p).one = false)
    (hhold : s.bit (rxHold p lane) = false) (hpasses : s.lanePasses p lane = true) : Does (.sparedLaneJudge p lane true) s fun t =>
      Sends s t (.blocks p 0x5A (s.get (F.ADT_LANE_TXUSE p)) 2 lane 1) := by
  have hflaps := flaps_bounds p lane
  have hbounds := rxHold_bounds p lane
  have hrx : (s.flapEnd p lane).get (F.ADT_LANE_RXUSE p) = s.get (F.ADT_LANE_RXUSE p) :=
    flapEnd_get (.inr (.inr (by simp only [F.ADT_LANE_RXUSE]; omega)))
  have htx : (s.flapEnd p lane).get (F.ADT_LANE_TXUSE p) = s.get (F.ADT_LANE_TXUSE p) :=
    flapEnd_get (.inr (.inr (by simp only [F.ADT_LANE_TXUSE]; omega)))
  have hheld : (s.flapEnd p lane).bit (rxHold p lane) = false := (bit_of_get (flapEnd_get (.inr (.inl (by omega))))).trans hhold
  have hexec : exec (.sparedLaneJudge p lane true) s =
      .next ((s.flapEnd p lane).laneCtl p ((s.flapEnd p lane).get (F.ADT_LANE_TXUSE p)) 2 lane) := by
    have hnot : ¬(!(s.carrying p) ∨ 2 ≤ lane) := by simp [carrying_of_lit hlit, hlane]
    refine congrArg Host.Outcome.next ((whenSerdes_of hrun _).trans ((if_neg hnot).trans (if_pos ?_)))
    simp only [hrx, hspared, flapEnd_one, hone, hheld, flapEnd_lanePasses, hpasses, beq_self_eq_true, Bool.not_false, Bool.and_self]
  rw [htx] at hexec
  exact ⟨_, hexec, (flapEnd_grows s p lane).sends (laneCtl_sends _ p _ 2 lane)⟩

end

/-- Settles O12: clause by clause, the equation of the command, then what it sends and the lanes it leaves in use. -/
theorem sparingRows : Obligations.SparingRows := by
  unfold Obligations.SparingRows
  exact ⟨fun _ _ _ _ hrun hlit hlane hcause hdim hboth => laneFailure_asks hrun hlit hlane hcause hdim hboth,
    fun _ _ _ hrun hlit hlane hasking => spareRepeat_asks hrun hlit hlane hasking,
    fun _ _ _ hrun hlit hlane huse => lanectlSpareReceive_stripes hrun hlit hlane huse,
    fun _ _ _ hrun hlit hmask hmask4 => lanectlStripeReceive_sets hrun hlit hmask hmask4,
    fun _ _ _ hrun hlit hlane hone huse => lanectlJoinReceive_stripes hrun hlit hlane hone huse,
    fun _ _ _ hrun hlit hlane hspared hone hhold hpasses => sparedLaneJudge_asks hrun hlit hlane hspared hone hhold hpasses⟩

end Sys2Proof.Proofs
end

section
/-! SUPPORT. The refutation of O11: a codeword on a lane that is lost can set free what waits on the other lane. -/

namespace Sys2Proof.Proofs

open Sys2Proof.Machine Sys2Proof.Laws

theorem exec_codewordReceive {s : State} {p phys : Nat} {cw : BitVec 5440} (hrun : s.serdesUp = true) (hp : p < 3) (hphys : phys < 2)
    (hlock : 3 ≤ s.portState p) (hhalt : s.portState p ≠ 7) (hdim : s.bit (F.ADT_STAT_RXDIM p) = false) :
    exec (.codewordReceive p phys cw) s = .next (s.hearCodeword p phys cw) :=
  congrArg Host.Outcome.next ((whenSerdes_of hrun _).trans (if_neg (by simp only [hdim, Bool.false_eq_true, or_false]; omega)))

/-- The codeword that waits on lane 1: LANECTL STRIPE for lane 1 alone, then IDLE. -/
def stripeCodeword : List (Option Block) :=
  some (Block.control 0x5A [3, 2]) :: List.replicate 79 (some Block.idle)

/-- Port 0 Lit and received on both lanes. Lane 0 has lost its lock and is asked to be spared; on lane 1 a codeword with STRIPE waits for
the one that stands beside it on lane 0. -/
def askedLane : State :=
  { State.reset with
    boot := { BootSt.reset with held := false }
    ports := [{ PortSt.reset with asking := 1 }, PortSt.reset, PortSt.reset]
    pcs := [{ PcsSt.reset with rx := [RxLane.fresh 0, { RxLane.fresh 0 with lock := true, since := some 1, fifo := [(0, stripeCodeword)] }] },
      PcsSt.reset, PcsSt.reset] }
  |>.put (F.ADT_STAT_STATE 0) 5 |>.put (F.ADT_LANE_RXUSE 0) 3 |>.put (F.ADT_DEGCFG_THR 0) 0

/-- A codeword of 0 with two symbols in error. -/
def spoiltCodeword : BitVec 5440 := BitVec.ofNat 5440 (1 + 2 ^ 300)

theorem spoiltCodeword_decodes : rsDecode spoiltCodeword = some (2, 0) := by decide +kernel

/-- As lane 0 is lost, the codeword on lane 1 waits no longer: its STRIPE takes lane 0 out of use. -/
theorem askedLane_restripes : (askedLane.hearCodeword 0 0 spoiltCodeword).rd (A.ADT_LANE 0) ≠ askedLane.rd (A.ADT_LANE 0) := by
  have hflip : flipCw ((askedLane.port 0).inv / 2 ^ 0 % 2 == 1) spoiltCodeword = spoiltCodeword := rfl
  have hswap : (askedLane.port 0).rxSwap = false := rfl
  simp only [State.hearCodeword, hswap, Bool.false_eq_true, if_false, hflip, spoiltCodeword_decodes]
  decide +kernel

/-- Refutes O11: the clause of a codeword with symbols in error says that it changes no register but FECCOR0, but one on a lane asked to be
spared lets the waiting codewords of the other lane be heard (R137), and a STRIPE among them changes ADTn_LANE. -/
theorem not_exchangeDimRows : ¬ Obligations.ExchangeDimRows := by
  unfold Obligations.ExchangeDimRows
  rintro ⟨-, -, -, hcw, -⟩
  obtain ⟨t, hx, -, hregs, -⟩ := hcw askedLane 0 1 0 spoiltCodeword (by decide) (by decide) (by decide) (by decide) (by decide) (by decide)
    (by decide) spoiltCodeword_decodes (by decide) (by decide) (by decide) (by decide) (by decide)
  rw [exec_codewordReceive (by decide) (by decide) (by decide) (by decide) (by decide) (by decide)] at hx
  injection hx with hx
  exact askedLane_restripes (by rw [hx]; exact hregs _ (by decide))

end Sys2Proof.Proofs
end

section
/-! SUPPORT. The Pelfer header (R144, R147): its fields are the digits of one number, and the HCRC stands below them. With the proof of O52. -/

namespace Sys2Proof.Proofs

open Sys2Proof.Machine Sys2Proof.Laws

/-- Each field of Table 6-1 holds a value of its width. -/
structure FieldsFit (f : Frame) : Prop where
  dst : f.dst < 64
  src : f.src < 64
  tid : f.tid < 4096
  cls : f.cls < 8
  kind : f.kind < 32
  len : f.len < 16384
  hseq : f.hseq < 4096
  eseq : f.eseq < 65536
  ttl : f.ttl < 64
  flags : f.flags < 256
  rsvd : f.rsvd < 2 ^ 24

/-- The fields take the 112 bits above HCRC. -/
theorem headerTop_lt (f : Frame) : headerTop f < 2 ^ 112 := by
  unfold headerTop
  omega

theorem packHeader_toNat (f : Frame) :
    (packHeader f).toNat = headerTop f * 65536 + (crc16 (beBytes 14 (headerTop f))).toNat := by
  have htop := headerTop_lt f
  have hcrc := (crc16 (beBytes 14 (headerTop f))).isLt
  rw [packHeader, BitVec.toNat_ofNat, Nat.mod_eq_of_lt (by omega)]

theorem packHeader_top (f : Frame) : (packHeader f).toNat / 65536 = headerTop f := by
  have hcrc := (crc16 (beBytes 14 (headerTop f))).isLt
  rw [packHeader_toNat]
  omega

theorem packHeader_crc (f : Frame) : (packHeader f).toNat % 65536 = (crc16 (beBytes 14 (headerTop f))).toNat := by
  have hcrc := (crc16 (beBytes 14 (headerTop f))).isLt
  rw [packHeader_toNat]
  omega

/-- The HCRC of a packed header checks (R147). -/
theorem headerOk_packHeader (f : Frame) : headerOk (packHeader f) = true := by
  rw [headerOk, packHeader_top, packHeader_crc, beq_self_eq_true]

/-- The fields of a frame are the digits that unpacking reads. -/
theorem unpackHeader_packHeader {f : Frame} (h : FieldsFit f) : unpackHeader (packHeader f) f.payload = f := by
  obtain ⟨hdst, hsrc, htid, hcls, hkind, hlen, hhseq, heseq, httl, hflags, hrsvd⟩ := h
  obtain ⟨dst, src, tid, cls, kind, len, hseq, eseq, ttl, flags, rsvd, payload⟩ := f
  dsimp only at *
  simp only [unpackHeader, packHeader_top, headerTop, Nat.mod_eq_of_lt hdst, Nat.mod_eq_of_lt hsrc, Nat.mod_eq_of_lt htid,
    Nat.mod_eq_of_lt hcls, Nat.mod_eq_of_lt hkind, Nat.mod_eq_of_lt hlen, Nat.mod_eq_of_lt hhseq, Nat.mod_eq_of_lt heseq,
    Nat.mod_eq_of_lt httl, Nat.mod_eq_of_lt hflags, Nat.mod_eq_of_lt hrsvd, Frame.mk.injEq, and_true]
  refine ⟨?_, ?_, ?_, ?_, ?_, ?_, ?_, ?_, ?_, ?_, ?_⟩ <;> omega

/-- The low bits of a number are those of a field and what lies below it. -/
theorem mod_split (n lo width : Nat) : n % 2 ^ (lo + width) = n / 2 ^ lo % 2 ^ width * 2 ^ lo + n % 2 ^ lo := by
  rw [Nat.pow_add, Nat.mod_mul, Nat.mul_comm, Nat.add_comm]

/-- The digits that unpacking reads are all of the number above HCRC. -/
theorem headerTop_unpackHeader (h : BitVec 128) (payload : List (BitVec 8)) : headerTop (unpackHeader h payload) = h.toNat / 65536 := by
  have hlt : h.toNat / 65536 < 2 ^ 112 := by omega
  simp only [headerTop, unpackHeader, Nat.mod_mod]
  generalize h.toNat / 65536 = n at hlt
  calc _ = n % 2 ^ 112 := by
        rw [mod_split n 106 6, mod_split n 100 6, mod_split n 88 12, mod_split n 85 3, mod_split n 80 5, mod_split n 66 14,
          mod_split n 54 12, mod_split n 38 16, mod_split n 32 6, mod_split n 24 8]
        simp only [Nat.reducePow, Nat.add_assoc]
    _ = n := Nat.mod_eq_of_lt hlt

/-- A header whose HCRC checks is the header of the frame it spells. -/
theorem packHeader_unpackHeader {h : BitVec 128} (payload : List (BitVec 8)) (hok : headerOk h = true) :
    packHeader (unpackHeader h payload) = h := by
  have hcrc : (crc16 (beBytes 14 (h.toNat / 65536))).toNat = h.toNat % 65536 := by simpa [headerOk] using hok
  apply BitVec.eq_of_toNat_eq
  rw [packHeader_toNat, headerTop_unpackHeader, hcrc]
  omega

/-- Settles O52: packing sets the digits that unpacking reads, and HCRC is a function of those digits. -/
theorem headerRoundTrip : Obligations.HeaderRoundTrip := by
  unfold Obligations.HeaderRoundTrip
  exact ⟨fun f hdst hsrc htid hcls hkind hlen hhseq heseq httl hflags hrsvd =>
      ⟨unpackHeader_packHeader ⟨hdst, hsrc, htid, hcls, hkind, hlen, hhseq, heseq, httl, hflags, hrsvd⟩, headerOk_packHeader f⟩,
    fun _ payload hok => packHeader_unpackHeader payload hok⟩

end Sys2Proof.Proofs
end

section
/-! SUPPORT. The refutation of O15: what a neighbour held in Quarantine sends on the link's keys is dropped. -/

namespace Sys2Proof.Proofs

open Sys2Proof.Machine Sys2Proof.Laws

/-- A key exchange message of a neighbour held in Quarantine is dropped and counted (R368). -/
theorem exec_keyxReceive_of_peerQuar {s : State} {p : Nat} (m : Msg) (hrun : s.serdesUp = true) (hlit : s.lit p = true)
    (hq : s.quarantined = false) (henc : s.enc p = true) (hpeer : s.peerQuar p = true) :
    exec (.keyxReceive p m) s = .next (s.bump F.FAB_NOROUTE) := by
  have htaken : ¬(!(s.lit p) ∨ !(s.enc p) ∨ s.quarantined) := by simp [hlit, henc, hq]
  exact congrArg Host.Outcome.next ((whenSerdes_of hrun _).trans ((if_neg htaken).trans (if_pos hpeer)))

/-- Port 0 Lit and encrypted, its key exchange done; the RECORD held of the neighbour there says that it is in Quarantine. -/
def quarantinedPeer : State :=
  { State.reset with
    boot := { BootSt.reset with held := false }
    fab := { FabSt.reset with
      neigh := [(0, { uid := 7, fid := 0, src := 0, role := 1, port := 0, rstCnt := 0 })]
      recs := [{ r := { uid := 7, fid := 0, src := 0, role := 1, quar := true, qcause := 1, seq := 0, chg := 0, rstCnt := 0, ports := [] },
                 at_ := 0 }] } }
  |>.put (F.ADT_STAT_STATE 0) 5 |>.put (F.ADT_STAT_ENC 0) 1 |>.put (F.ADT_KEYSTAT_KX 0) 2

/-- Refutes O15: its first clause says that the hello of a peer's rekey is answered with KEYRDY, with no condition on the neighbour, but
one held in Quarantine is not heard (R368): its hello sends nothing out. -/
theorem not_keyExchangeRows : ¬ Obligations.KeyExchangeRows := by
  unfold Obligations.KeyExchangeRows
  rintro ⟨hhello, -⟩
  obtain ⟨t, hx, -, hsent⟩ := hhello quarantinedPeer 0 0 0 [] (by decide) (by decide) (by decide) (by decide) (by decide) (by decide)
  rw [exec_keyxReceive_of_peerQuar _ (by decide) (by decide) (by decide) (by decide) (by decide)] at hx
  injection hx with hx
  have hquiet : t.outs = [] := by rw [← hx, bump_outs]; rfl
  simp [hquiet] at hsent

end Sys2Proof.Proofs
end

section
/-! SUPPORT. What has been sent stays sent: the offer of frames to a port, and the frames that go on from it. -/

namespace Sys2Proof.Proofs.Grows

open Sys2Proof.Machine Sys2Proof.Laws

variable {s t : State}

/-! ### Keys and LINK words -/

theorem exitDim {p : Nat} (h : Grows s t) : Grows s (t.exitDim p) := h.trans (Spares.refl t).exitDim.grows

theorem sendLink {p : Nat} {w : LinkWord} (h : Grows s t) : Grows s (t.sendLink p w) := h.exitDim.emit.ite h

theorem freeRx {p cls units : Nat} (h : Grows s t) : Grows s (t.freeRx p cls units) := h.trans (Spares.refl t).freeRx.grows

theorem keyM {p : Nat} {g : KeySt → KeySt} (h : Grows s t) : Grows s (t.keyM p g) := h.linkM

theorem setKey {n : Nat} {v : KeyVal} (h : Grows s t) : Grows s (t.setKey n v) := h.ksM.keyRegs

theorem startKx {p : Nat} {rekey answer : Bool} (h : Grows s t) : Grows s (t.startKx p rekey answer) := by
  have hdrawn : ∀ n, Grows s { t with draws := n } := fun _ => h
  exact h.ite (hdrawn _).setKey.keyM.put.emit

theorem overdue {p : Nat} (h : Grows s t) : Grows s (t.overdue p) := h.keyM.raise.ite h

/-! ### Transmission (R154, R201, R206, R209) -/

theorem reserve {f : Frame} (h : Grows s t) : Grows s (t.reserve f) := h.ite h.tunM

theorem transmit {p : Nat} {f : Frame} {stomp : Bool} (h : Grows s t) : Grows s (t.transmit p f stomp) := by
  unfold State.transmit
  extract_lets +onlyGivenNames w u numbered copied sent
  have hnumbered : Grows s numbered := (h.reserve.ite h).put
  have hsent : Grows s sent := hnumbered.linkM.keyM.emit
  exact hsent.overdue.ite (hsent.startKx.ite hsent)

theorem chargeClass {p cls size : Nat} (h : Grows s t) : Grows s (t.chargeClass p cls size) := h.ite h.schM

theorem chargeQueue {p q size : Nat} (h : Grows s t) : Grows s (t.chargeQueue p q size) := h.ite h.schM

theorem sendQueued {p : Nat} {q : QFrame} {stomp : Bool} (h : Grows s t) : Grows s (t.sendQueued p q stomp) := by
  unfold State.sendQueued
  extract_lets counted
  have hcounted : Grows s counted := by
    unfold counted
    split
    · exact h.highWater.statM
    · exact h
  exact hcounted.schM.drainDone.transmit.release

theorem sendFab {p : Nat} {q : QFrame} {stomp : Bool} (h : Grows s t) : Grows s (t.sendFab p q stomp) := h.chargeClass.sendQueued

theorem sendCal {p k : Nat} {q : QFrame} {stomp : Bool} (h : Grows s t) : Grows s (t.sendCal p k q stomp) :=
  h.chargeClass.sendQueued.schM.schM

theorem advanceV {p q fin : Nat} (h : Grows s t) : Grows s (t.advanceV p q fin) := by
  unfold State.advanceV
  extract_lets tagged
  have htagged : Grows s tagged := h.schM.retag
  split
  · exact htagged
  · exact htagged.schM

theorem sendWfq {p : Nat} {tag : Tag} {q : QFrame} {stomp : Bool} (h : Grows s t) : Grows s (t.sendWfq p tag q stomp) :=
  h.chargeClass.chargeQueue.sendQueued.schM.advanceV

theorem sendHead {p cls : Nat} {w : Option Nat} {stomp : Bool} (h : Grows s t) : Grows s (t.sendHead p w cls stomp) := by
  unfold State.sendHead
  split
  · split
    · exact h.sendFab.ite h
    · exact h
  · split
    · exact h
    · refine h.ite (h.sendCal.ite ?_)
      extract_lets tagged
      have htagged : Grows s tagged := h.retag
      split
      · exact htagged.sendWfq
      · exact htagged

theorem cutTurn {cls : Nat} {stomp : Bool} {w : Option Nat × Nat} (h : Grows s t) : Grows s (t.cutTurn cls stomp w) :=
  h.ite (h.ite h.exitDim.sendHead)

/-! ### Frames from a port (R151, R161, R165, R166, R374, R376) -/

theorem sendFabric {f : Frame} {from_ : Option (Nat × Nat)} {skip : Option Nat} (h : Grows s t) : Grows s (t.sendFabric f from_ skip) := by
  unfold State.sendFabric
  extract_lets q ps sent
  have hsent : Grows s sent := (h.foldl _ fun _ _ ha => ha.enqueue).release
  refine (hsent.bump.ite hsent).ite ?_
  split
  · exact h.enqueue
  · exact h.release.bump

theorem endRes {f : Frame} (h : Grows s t) : Grows s (t.endRes f) := h.tunM.ite h

theorem ttlDrop {p : Nat} {f : Frame} (h : Grows s t) : Grows s (t.ttlDrop p f) := h.bump.raise

theorem hearAck {tid eseq : Nat} {again : Bool} (h : Grows s t) : Grows s (t.hearAck tid again eseq) := by
  unfold State.hearAck
  split
  · exact h
  · exact h.freeCopies.ite h.freeCopies.resend.ctxM

theorem hearAcks (bytes : List (BitVec 8)) (h : Grows s t) : Grows s (State.hearAcks bytes t) := by
  induction bytes, t using State.hearAcks.induct with
  | case1 t a b c d rest w ih =>
    rw [State.hearAcks]
    exact ih h.hearAck
  | case2 bytes t hshort =>
    rw [State.hearAcks]
    · exact h
    · exact hshort

theorem owe {c : TunCtx} {again : Bool} {eseq : Nat} (h : Grows s t) : Grows s (t.owe c again eseq) := h.tunM

theorem arrive {p : Nat} {c : TunCtx} {q : QFrame} (h : Grows s t) : Grows s (t.arrive p c q) := by
  unfold State.arrive
  extract_lets last
  split
  · exact h.ctxM.owe.deliver
  · exact h.bump.statM.owe.release
  · exact h.bump.statM.owe.release

theorem forward {p : Nat} {f : Frame} {from_ : Nat × Nat} (h : Grows s t) : Grows s (t.forward p f from_) := by
  unfold State.forward
  extract_lets q g
  refine h.release.bump.ite (h.release.ite ((h.sendFabric.ite h.release).ite (ite ?transit ?here)))
  case transit =>
    refine h.release.ttlDrop.ite (h.sendFabric.ite ?_)
    split
    · exact (h.endRes.ite h).sendTransit
    · exact h.release.bump
  case here =>
    refine ite ((hearAcks _ h.release).ite h.release) ?_
    split
    · exact h.release.bump.ite (h.endRes.ite h).arrive
    · exact h.release.bump

theorem route {p : Nat} {f : Frame} {from_ : Nat × Nat} (h : Grows s t) : Grows s (t.route p f from_) :=
  h.forward.foldl _ fun _ _ ha => ha.cutTurn

end Sys2Proof.Proofs.Grows
end

section
/-! SUPPORT. LINK words, a port's link layer and hop retry (R153 to R157). -/

namespace Sys2Proof.Proofs

open Sys2Proof.Machine Sys2Proof.Laws

/-! ### The link layer of a port -/

theorem link_linkM_same {s : State} {p : Nat} (g : LinkSt → LinkSt) (h : p < s.links.length) : (s.linkM p g).link p = g (s.link p) := by
  simp [State.link, h]

/-- A port whose link layer is other than at reset is one of the device's. -/
theorem lt_of_link_ne {s : State} {p : Nat} (h : s.link p ≠ LinkSt.reset) : p < s.links.length := by
  by_contra hp
  exact h (List.getD_eq_default _ _ (Nat.le_of_not_lt hp))

theorem lt_of_replay {s : State} {p : Nat} (h : (s.link p).replay ≠ []) : p < s.links.length :=
  lt_of_link_ne fun e => h (by rw [e]; rfl)

theorem lt_of_resend {s : State} {p : Nat} (h : (s.link p).resend ≠ []) : p < s.links.length :=
  lt_of_link_ne fun e => h (by rw [e]; rfl)

theorem lit_congr {s t : State} {p : Nat} (h : t.get (F.ADT_STAT_STATE p) = s.get (F.ADT_STAT_STATE p)) : t.lit p = s.lit p := by
  simp only [State.lit, State.portState, h]

/-! ### LINK words (R153) -/

section
variable {s : State} {p : Nat}

/-- A LINK word of a known kind that passes its check acts. -/
theorem linkWord_of_kind {w : LinkWord} {k : Nat} {act : State → State} (hlit : s.lit p = true) (hkind : w.kind = k) (hpos : 0 < k)
    (hle : k ≤ 4) : s.linkWord p w (linkCheck w.kind w.arg) k act = act s := by
  have hgood : ¬(linkCheck w.kind w.arg ≠ linkCheck w.kind w.arg ∨ w.kind = 0 ∨ 4 < w.kind) := by simp; omega
  exact (if_neg (by simp [hlit])).trans ((if_neg hgood).trans (if_pos hkind))

theorem sendLink_of_lit {w : LinkWord} (hlit : s.lit p = true) : s.sendLink p w = (s.exitDim p).emit (.link p w) := if_pos hlit

theorem sendLink_sends {w : LinkWord} (hlit : s.lit p = true) : Sends s (s.sendLink p w) (.link p w) := by
  rw [sendLink_of_lit hlit]
  exact (Spares.refl s).exitDim.grows.sends (sends_emit _ _)

/-- A LINK word changes no register but ADTn_STAT, where the port leaves Dim for it. -/
theorem sendLink_regs_agree (s : State) (p : Nat) (w : LinkWord) : RegsAgreeOff (fun a => a = A.ADT_STAT p) s (s.sendLink p w) :=
  regsAgreeOff_ite (regsAgreeOff_trans (exitDim_regs_agree s p) (regsAgreeOff_of_regs_eq rfl)) (regsAgreeOff_refl _ _)

theorem sendLink_get {w : LinkWord} {f : Fld} (hf : f.addr ≠ A.ADT_STAT p) : (s.sendLink p w).get f = s.get f :=
  get_of_regsAgreeOff (sendLink_regs_agree s p w) hf

/-! ### ACK and NAK (R155, R156) -/

theorem sendAck_sends (hlit : s.lit p = true) : Sends s (s.sendAck p) (.link p { kind := 1, arg := ackArg (s.lastHseq p) }) :=
  sendLink_sends hlit

theorem sendNak_sends (hlit : s.lit p = true) : Sends s (s.sendNak p) (.link p { kind := 2, arg := ackArg (s.lastHseq p) }) := by
  refine (Grows.refl s).put.bump.sends (sendLink_sends ((lit_congr ?_).trans hlit))
  rw [bump_get_other _ (by simp [F.ADT_NAKTX]) (.inl (by simp [F.ADT_NAKTX, A.ADT_NAKTX, F.ADT_STAT_STATE, A.ADT_STAT])),
    get_put_other _ _ (by simp [F.ADT_LLSTAT_NAKOUT]) (.inl (by simp [F.ADT_LLSTAT_NAKOUT, A.ADT_LLSTAT, F.ADT_STAT_STATE, A.ADT_STAT]))]

theorem sendNak_nakout (s : State) (p : Nat) : (s.sendNak p).bit (F.ADT_LLSTAT_NAKOUT p) = true := by
  unfold State.sendNak State.bit
  rw [sendLink_get (by simp [F.ADT_LLSTAT_NAKOUT, A.ADT_LLSTAT, A.ADT_STAT]),
    bump_get_other _ (by simp [F.ADT_NAKTX]) (.inl (by simp [F.ADT_NAKTX, A.ADT_NAKTX, F.ADT_LLSTAT_NAKOUT, A.ADT_LLSTAT])),
    get_put_same _ _ (by simp [F.ADT_LLSTAT_NAKOUT])]
  rfl

theorem sendNak_naktx (s : State) (p : Nat) :
    (s.sendNak p).get (F.ADT_NAKTX p) = min (s.get (F.ADT_NAKTX p) + 1) (2 ^ 32 - 1) := by
  unfold State.sendNak
  rw [sendLink_get (by simp [F.ADT_NAKTX, A.ADT_NAKTX, A.ADT_STAT]), bump_get_same _ (by simp [F.ADT_NAKTX]),
    get_put_other _ _ (by simp [F.ADT_LLSTAT_NAKOUT]) (.inl (by simp [F.ADT_LLSTAT_NAKOUT, A.ADT_LLSTAT, F.ADT_NAKTX, A.ADT_NAKTX]))]
  rfl

/-- A NAK changes no other register than ADTn_LLSTAT, ADTn_NAKTX and ADTn_STAT. -/
theorem sendNak_get {f : Fld} (hstat : f.addr ≠ A.ADT_STAT p) (hll : A.ADT_LLSTAT p ≠ f.addr) (htx : A.ADT_NAKTX p ≠ f.addr) :
    (s.sendNak p).get f = s.get f := by
  unfold State.sendNak
  rw [sendLink_get hstat, bump_get_other _ (by simp [F.ADT_NAKTX]) (.inl htx),
    get_put_other _ _ (by simp [F.ADT_LLSTAT_NAKOUT]) (.inl hll)]

/-- An ACK or NAK frees the copies up to the one it names. -/
theorem ackTo_of_found {i h : Nat} (nak : Bool) (hfound : (s.link p).replay.findIdx? (fun w => w.f.hseq == h) = some i) :
    ∃ g : LinkSt → LinkSt, s.ackTo p h nak = some (s.linkM p g) ∧
      ∀ l, (g l).replay = l.replay.drop (i + 1) ∧ (g l).replays = 0 := by
  unfold State.ackTo
  dsimp only
  rw [hfound]
  exact ⟨_, rfl, fun _ => ⟨rfl, rfl⟩⟩

theorem ne_nil_of_findIdx {α : Type} {l : List α} {q : α → Bool} {i : Nat} (h : l.findIdx? q = some i) : l ≠ [] := by
  rintro rfl
  simp at h

/-- A replay within REPLIM sends every outstanding frame again (R156). -/
theorem replayAll_of_room (hsome : (s.link p).replay ≠ []) (hroom : (s.link p).replays < s.replim p) :
    s.replayAll p = (s.bump (F.ADT_REPLAY p)).linkM p fun l => { l with replays := l.replays + 1, resend := l.replay } := by
  obtain ⟨w, rest, h⟩ := List.exists_cons_of_ne_nil hsome
  unfold State.replayAll
  rw [h]
  exact if_neg (Nat.not_le_of_lt hroom)

theorem replim_pos (s : State) (p : Nat) : 0 < s.replim p := Nat.le_max_left _ _

end

end Sys2Proof.Proofs
end

section
/-! SUPPORT. A frame that a port receives, the CREDIT words it hears and those it sends: the clauses of O14 about the hop (R149, R155,
R160). -/

namespace Sys2Proof.Proofs

open Sys2Proof.Machine Sys2Proof.Laws

section
variable {s : State} {p : Nat}

/-! ### A good frame (R149, R155) -/

/-- The frame accepted is the last one accepted in order. -/
theorem lastHseq_of_rxhseq {h : Nat} (hh : h < 4096) (hrx : s.get (F.ADT_LLSTAT_RXHSEQ p) = (h + 1) % 4096) : s.lastHseq p = h := by
  unfold State.lastHseq
  rw [hrx]
  omega

/-- The acceptance of an unencrypted frame answers an ACK that names it. -/
theorem acceptHop_sends {f : Frame} (hlit : s.lit p = true) (hclear : flagOf f.flags 0 = false) (hh : f.hseq < 4096) :
    Sends s (s.acceptHop p f) (.link p { kind := 1, arg := ackArg f.hseq }) := by
  have haccept : s.acceptHop p f = ((s.put (F.ADT_LLSTAT_RXHSEQ p) (f.hseq + 1)).put (F.ADT_LLSTAT_NAKOUT p) 0).sendAck p := by
    unfold State.acceptHop
    simp only [hclear, Bool.false_eq_true, if_false]
  have hrx : ((s.put (F.ADT_LLSTAT_RXHSEQ p) (f.hseq + 1)).put (F.ADT_LLSTAT_NAKOUT p) 0).get (F.ADT_LLSTAT_RXHSEQ p) =
      (f.hseq + 1) % 4096 := by
    rw [get_put_other _ _ (by simp [F.ADT_LLSTAT_NAKOUT]) (.inr (.inr (by simp [F.ADT_LLSTAT_NAKOUT, F.ADT_LLSTAT_RXHSEQ]))),
      get_put_same _ _ (by simp [F.ADT_LLSTAT_RXHSEQ])]
    rfl
  have hlit' : ((s.put (F.ADT_LLSTAT_RXHSEQ p) (f.hseq + 1)).put (F.ADT_LLSTAT_NAKOUT p) 0).lit p = true := by
    refine (lit_congr ?_).trans hlit
    rw [get_put_other _ _ (by simp [F.ADT_LLSTAT_NAKOUT]) (.inl (by simp [F.ADT_LLSTAT_NAKOUT, A.ADT_LLSTAT, F.ADT_STAT_STATE, A.ADT_STAT])),
      get_put_other _ _ (by simp [F.ADT_LLSTAT_RXHSEQ]) (.inl (by simp [F.ADT_LLSTAT_RXHSEQ, A.ADT_LLSTAT, F.ADT_STAT_STATE, A.ADT_STAT]))]
  have hsent := sendAck_sends hlit'
  rw [lastHseq_of_rxhseq hh hrx] at hsent
  rw [haccept]
  exact (Grows.refl s).put.put.sends hsent

theorem Grows.holdOf {t x : State} {f : Frame} {u : Nat} {from_ : Nat × Nat} (h : Grows s t) (hx : t.holdOf p f u = some (x, from_)) :
    Grows s x := by
  unfold State.holdOf at hx
  split at hx
  · cases hx
    exact h
  · split at hx
    · cases hx
      exact h
    · split at hx
      · cases hx
        exact h.tunM
      · cases hx

/-- A frame whose length and trailer are right is accepted; what follows takes nothing back. -/
theorem takeFrame_grows {hdr : BitVec 128} {body : List (BitVec 8)} {tag : Option (BitVec 128)}
    (hplain : s.decrypt p (unpackHeader hdr body) hdr body tag = some body) (hlen : body.length = (unpackHeader hdr body).len + 4)
    (hcrc : BitVec.ofNat 32 (leNat (body.drop (unpackHeader hdr body).len)) = trailerOf (body.take (unpackHeader hdr body).len) false) :
    Grows (s.acceptHop p { unpackHeader hdr body with payload := body.take (unpackHeader hdr body).len })
      (s.takeFrame p hdr body tag false) := by
  unfold State.takeFrame
  extract_lets raw
  simp only [Bool.false_eq_true, if_false, raw, hplain]
  rw [if_neg (by simp [hlen, hcrc]), if_neg (by simp [hcrc])]
  refine Grows.ite ((Grows.refl _).bump.ite (Grows.refl _).bump.freeRx) ?_
  split
  next hheld => exact ((Grows.refl _).holdOf hheld).route.flushLoop
  next => exact (Grows.refl _).bump.raise

theorem decrypt_of_clear {f : Frame} {hdr : BitVec 128} {body : List (BitVec 8)} {tag : Option (BitVec 128)}
    (hclear : flagOf f.flags 0 = false) (hkey : (s.link p).key.rxOn = false) : s.decrypt p f hdr body tag = some body := by
  simp [State.decrypt, hclear, hkey]

end

theorem frameReceive_acknowledges (s : State) (p : Nat) (hdr : BitVec 128) (body : List (BitVec 8)) (hrun : s.serdesUp = true)
    (hlit : s.lit p = true) (hhdr : headerOk hdr = true) (hseq : (unpackHeader hdr []).hseq = s.get (F.ADT_LLSTAT_RXHSEQ p))
    (hclear : flagOf (unpackHeader hdr []).flags 0 = false) (hkey : (s.link p).key.rxOn = false)
    (hlen : body.length = (unpackHeader hdr []).len + 4)
    (hcrc : BitVec.ofNat 32 (leNat (body.drop (unpackHeader hdr []).len)) = trailerOf (body.take (unpackHeader hdr []).len) false) :
    Does (.frameReceive p hdr body none 0) s fun t =>
      Sends s t (.link p { kind := 1, arg := ackArg (unpackHeader hdr []).hseq }) := by
  have hheard : s.hearFrame p hdr body none 0 = s.takeFrame p hdr body none false :=
    (if_neg (by simp [hlit])).trans ((if_neg (by simp [hhdr])).trans (if_pos hseq))
  have hh : (unpackHeader hdr []).hseq < 4096 := hseq ▸ get_lt s (F.ADT_LLSTAT_RXHSEQ p)
  refine ⟨_, congrArg Host.Outcome.next ((whenSerdes_of hrun _).trans hheard), ?_⟩
  exact sends_trans (acceptHop_sends hlit hclear hh) (takeFrame_grows (decrypt_of_clear hclear hkey) hlen hcrc)

/-! ### A bad header (R149, R155) -/

theorem frameReceive_rejects (s : State) (p : Nat) (hdr : BitVec 128) (body : List (BitVec 8)) (tag : Option (BitVec 128))
    (hrun : s.serdesUp = true) (hlit : s.lit p = true) (hhdr : headerOk hdr = false) (hnak : s.bit (F.ADT_LLSTAT_NAKOUT p) = false) :
    Does (.frameReceive p hdr body tag 0) s fun t =>
      t.bit (F.ADT_LLSTAT_NAKOUT p) = true ∧ t.get (F.ADT_HCRCERR p) = min (s.get (F.ADT_HCRCERR p) + 1) (2 ^ 32 - 1) ∧
      Sends s t (.link p { kind := 2, arg := ackArg (s.lastHseq p) }) := by
  have hother : ∀ f : Fld, A.ADT_HCRCERR p ≠ f.addr → (s.bump (F.ADT_HCRCERR p)).get f = s.get f := fun f hf =>
    bump_get_other _ (by simp [F.ADT_HCRCERR]) (.inl hf)
  have hnone : (s.bump (F.ADT_HCRCERR p)).bit (F.ADT_LLSTAT_NAKOUT p) = false :=
    (bit_of_get (hother _ (by simp [F.ADT_LLSTAT_NAKOUT, A.ADT_LLSTAT, A.ADT_HCRCERR]))).trans hnak
  have hheard : s.hearFrame p hdr body tag 0 = (s.bump (F.ADT_HCRCERR p)).sendNak p :=
    (if_neg (by simp [hlit])).trans ((if_pos (by simp [hhdr])).trans (if_neg (by simp [hnone])))
  have hlit' : (s.bump (F.ADT_HCRCERR p)).lit p = true :=
    (lit_congr (hother _ (by simp [F.ADT_STAT_STATE, A.ADT_STAT, A.ADT_HCRCERR]))).trans hlit
  have hlast : (s.bump (F.ADT_HCRCERR p)).lastHseq p = s.lastHseq p := by
    rw [State.lastHseq, hother _ (by simp [F.ADT_LLSTAT_RXHSEQ, A.ADT_LLSTAT, A.ADT_HCRCERR]), State.lastHseq]
  refine ⟨_, congrArg Host.Outcome.next ((whenSerdes_of hrun _).trans hheard), sendNak_nakout _ _, ?_, ?_⟩
  · rw [sendNak_get (by simp [F.ADT_HCRCERR, A.ADT_HCRCERR, A.ADT_STAT]) (by simp [F.ADT_HCRCERR, A.ADT_HCRCERR, A.ADT_LLSTAT])
      (by simp [F.ADT_HCRCERR, A.ADT_HCRCERR, A.ADT_NAKTX]), bump_get_same _ (by simp [F.ADT_HCRCERR])]
    rfl
  · rw [← hlast]
    exact (Grows.refl s).bump.sends (sendNak_sends hlit')

/-! ### Credits (R160) -/

/-- Bit `c` of a mask that takes it where it lacks it. -/
theorem bit_of_set (m c : Nat) : (if m / 2 ^ c % 2 = 1 then m else m + 2 ^ c) / 2 ^ c % 2 = 1 := by
  split
  · assumption
  · rw [Nat.add_div_right _ (Nat.two_pow_pos c)]
    omega

theorem creditReceive_sets (s : State) (p : Nat) (w : LinkWord) (hrun : s.serdesUp = true) (hlit : s.lit p = true) (hkind : w.kind = 3)
    (hp : p < s.links.length) (hlimits : (s.link p).txLimit.length = 8) :
    Does (.creditReceive p w (linkCheck w.kind w.arg)) s fun t =>
      (t.link p).txLimit.getD (w.arg.toNat % 8) 0 = w.arg.toNat / 256 % 65536 ∧
      (t.link p).txSeen / 2 ^ (w.arg.toNat % 8) % 2 = 1 ∧ t.regs = s.regs ∧ t.outs = s.outs := by
  have hheard := linkWord_of_kind (act := fun t => t.creditHeard p w) hlit hkind (by decide) (by decide)
  refine ⟨s.creditHeard p w, congrArg Host.Outcome.next ((whenSerdes_of hrun _).trans hheard), ?_, ?_, rfl, rfl⟩
  · have hclass : w.arg.toNat % 8 < (s.link p).txLimit.length := by omega
    simp [State.creditHeard, link_linkM_same _ hp, hclass]
  · simp only [State.creditHeard, link_linkM_same _ hp]
    exact bit_of_set _ _

theorem creditRefresh_sends (s : State) (p : Nat) (hrun : s.serdesUp = true) (hlit : s.lit p = true)
    (hdim : s.bit (F.ADT_STAT_TXDIM p) = false) : Does (.creditRefresh p) s fun t =>
      t = s.emits ((s.creditClasses p).map fun c => .link p (s.creditWord p c)) :=
  ⟨_, congrArg Host.Outcome.next ((whenSerdes_of hrun _).trans (if_pos ⟨hlit, by simp [hdim]⟩)), rfl⟩

end Sys2Proof.Proofs
end

section
/-! SUPPORT. Egress queues, contexts, held frames and resends: what each operation leaves, and what it makes of its own part (R166 to R168,
R203). -/

namespace Sys2Proof.Proofs

open Sys2Proof.Machine Sys2Proof.Laws

variable {s : State}

/-! ### Egress queues (R203, R456) -/

theorem sch_schM_same {p : Nat} (g : SchSt → SchSt) (h : p < s.schs.length) : (s.schM p g).sch p = g (s.sch p) := by
  simp [State.sch, h]

theorem highWater_leaves (s : State) (p q : Nat) : Leaves [.regs] s (s.highWater p q) := leaves_ite (by simp) (by simp)

theorem enqueue_leaves (s : State) (p : Nat) (q : QFrame) : Leaves [.regs, .schs] s (s.enqueue p q) := by
  unfold State.enqueue
  dsimp only
  split
  · exact leaves_trans (by simp [State.spillTurn]) (leaves_mono (by simp) (highWater_leaves _ _ _))
  · simp [State.spillTurn]

theorem enqueue_tun (s : State) (p : Nat) (q : QFrame) : (s.enqueue p q).tun = s.tun := enqueue_leaves s p q .tun (by decide)

theorem enqueue_outs (s : State) (p : Nat) (q : QFrame) : (s.enqueue p q).outs = s.outs := (enqueue_leaves s p q .outs (by decide)).1

/-- Frames that come back from DRAM are the same frames in the same order. -/
theorem unspill_map {α : Type} {φ : QFrame → α} (hφ : ∀ q b, φ { q with dram := b } = φ q) (high have_ : Nat) (l : List QFrame) :
    (unspill high have_ l).map φ = l.map φ := by
  induction l generalizing have_ with
  | nil => rfl
  | cons q l ih =>
    unfold unspill
    split
    · simp [ih]
    · split
      · simp [ih, hφ]
      · rfl

theorem spillTurn_queue {α : Type} {φ : QFrame → α} (hφ : ∀ q b, φ { q with dram := b } = φ q) {p : Nat} (hp : p < s.schs.length) :
    ((s.spillTurn p).sch p).queue.map φ = (s.sch p).queue.map φ := by
  rw [State.spillTurn, sch_schM_same _ hp]
  split
  · exact unspill_map hφ _ _ _
  · split
    · exact unspill_map hφ _ _ _
    · rfl

/-- A frame that joins a port's queues is behind those that stand there. -/
theorem enqueue_queue {α : Type} {φ : QFrame → α} (hφ : ∀ q b, φ { q with dram := b } = φ q) {p : Nat} {q : QFrame}
    (hp : p < s.schs.length) : ((s.enqueue p q).sch p).queue.map φ = (s.sch p).queue.map φ ++ [φ q] := by
  have hp' : p < (s.spillTurn p).schs.length := by simpa [State.spillTurn] using hp
  have hjoin : ∀ g : SchSt → SchSt, (∀ c, (g c).queue.map φ = c.queue.map φ ++ [φ q]) →
      (((s.spillTurn p).schM p g).sch p).queue.map φ = (s.sch p).queue.map φ ++ [φ q] := fun g hg => by
    rw [sch_schM_same g hp', hg, spillTurn_queue hφ hp]
  have hhigh : ∀ (t : State) (k : Nat), (t.highWater p k).sch p = t.sch p := fun t k => by
    rw [State.sch, highWater_leaves t p k .schs (by decide), State.sch]
  unfold State.enqueue
  dsimp only
  split
  · rw [hhigh]
    exact hjoin _ fun c => by simp [hφ]
  · exact hjoin _ fun c => by simp [hφ]

/-- A frame of TID 0 to a device that the route table reaches joins the fabric queue of its port (R376). -/
theorem sendFabric_of_hop {f : Frame} {from_ : Option (Nat × Nat)} {skip : Option Nat} {p : Nat} (hdst : f.dst ≠ 63)
    (hhop : s.tableHop f.dst f.cls false false = some p) :
    s.sendFabric f from_ skip = s.enqueue p { queue := none, f := f, at_ := s.now, from_ := from_, fence := none } := by
  unfold State.sendFabric
  dsimp only
  rw [if_neg hdst, hhop]

theorem sendEnd_tun (s : State) (c : TunCtx) (f : Frame) (fence : Option (Nat × Nat)) : (s.sendEnd c f fence).tun = s.tun := by
  unfold State.sendEnd
  split
  · exact enqueue_tun _ _ _
  · rfl

theorem sendEnd_of_egress {c : TunCtx} {f : Frame} {fence : Option (Nat × Nat)} {p : Nat} (h : s.egressOf c = some p) :
    s.sendEnd c f fence = s.enqueue p { queue := some c.idx, f := f, at_ := s.now, from_ := none, fence := fence } := by
  unfold State.sendEnd
  rw [h]

/-- Frames of this device hold nothing that their leaving frees. -/
theorem release_own (s : State) (l : List QFrame) (h : ∀ q ∈ l, q.from_ = none) : l.foldl (fun u q => u.release q) s = s :=
  List.foldlRecOn (motive := fun t => t = s) _ _ rfl fun t ht q hq => by rw [State.release, h q hq]; exact ht

theorem dropQueued_tun (p : Nat) {test : QFrame → Bool} (h : ∀ q, test q = true → q.from_ = none) :
    (s.dropQueued p test).tun = s.tun := by
  unfold State.dropQueued
  dsimp only
  rw [release_own _ _ fun q hq => h q (List.mem_filter.1 hq).2]
  exact (leaves_foldl (fun u q => highWater_leaves u p q) _ s) .tun (by decide)

/-! ### Contexts -/

theorem ctx_congr {t : State} (h : t.tun = s.tun) (i : Nat) : t.ctx i = s.ctx i := by rw [State.ctx, h, State.ctx]

/-- A change of a context that keeps its index is what is found there. -/
theorem ctx_ctxM (s : State) (i : Nat) {g : TunCtx → TunCtx} (hg : ∀ d, (g d).idx = d.idx) : (s.ctxM i g).ctx i = (s.ctx i).map g := by
  have hsame : (fun c : TunCtx => c.idx == i) ∘ (fun c => if c.idx == i then g c else c) = fun c => c.idx == i := by
    funext c
    simp only [Function.comp_apply]
    split
    · rw [hg]
    · rfl
  change (s.tun.ctxs.map fun c => if c.idx == i then g c else c).find? (fun c => c.idx == i) = (s.tun.ctxs.find? fun c => c.idx == i).map g
  rw [List.find?_map, hsame]
  cases h : s.tun.ctxs.find? fun c => c.idx == i with
  | none => rfl
  | some c =>
    have hidx := List.find?_some h
    simp only [Option.map_some, hidx, if_true]

theorem ctx_ctxM_of {i : Nat} {c : TunCtx} {g : TunCtx → TunCtx} (hg : ∀ d, (g d).idx = d.idx) (h : s.ctx i = some c) :
    (s.ctxM i g).ctx i = some (g c) := by
  rw [ctx_ctxM s i hg, h]
  rfl

/-! ### Held frames and the Drift -/

theorem flushAllHeld_of_none (h : ∀ c ∈ s.tun.ctxs, c.held = []) : s.flushAllHeld = s :=
  List.foldlRecOn (motive := fun t => t = s) _ _ rfl fun t ht c hc => by rw [if_pos (h c hc), ht]

theorem flushLoop_of_none (h : s.tun.loop = []) : s.flushLoop = s := by
  rw [State.flushLoop, h]
  rfl

/-- With nothing held back, an acknowledgement frees the copies up to the one it names (R166). -/
theorem freeCopies_of_found {i eseq k : Nat} {c : TunCtx} (hctx : s.ctx i = some c)
    (hfound : c.copies.findIdx? (fun x => x.f.eseq == eseq) = some k) (hheld : ∀ d ∈ s.tun.ctxs, d.held = []) :
    s.freeCopies i eseq = s.ctxM i fun d => { d with copies := d.copies.drop (k + 1), ack := eseq } := by
  unfold State.freeCopies
  rw [hctx]
  dsimp only
  rw [hfound]
  refine flushAllHeld_of_none fun d hd => ?_
  obtain ⟨e, he, rfl⟩ := List.mem_map.1 hd
  split <;> exact hheld e he

/-! ### Resends (R168) -/

/-- A resend counts the copies; nothing else of the tunnels changes, but that what started the last resend no longer counts. -/
theorem resend_tun {i : Nat} {c : TunCtx} (hctx : s.ctx i = some c) (hend : c.isEnd = true) (hlocal : c.local_ = false)
    (hcopies : c.copies ≠ []) :
    (s.resend i).tun = ((s.statM i fun k => { k with resend := satAdd k.resend c.copies.length }).ctxM i fun d =>
      { d with lastResend := none }).tun := by
  have hdrop : ([0, 1, 2].foldl (fun u p => u.dropQueued p fun e => e.queue == some i && e.from_.isNone) s).tun = s.tun :=
    List.foldlRecOn (motive := fun t : State => t.tun = s.tun) _ _ rfl fun t ht p _ =>
      (dropQueued_tun p fun q hq => Option.isNone_iff_eq_none.1 (Bool.and_eq_true_iff.1 hq).2).trans ht
  have hsent : ∀ (t : State) (f : Copy → Frame), (c.copies.foldl (fun u k => u.sendEnd c (f k) k.fence) t).tun = t.tun := fun t f =>
    List.foldlRecOn (motive := fun u : State => u.tun = t.tun) _ _ rfl fun u hu k _ => (sendEnd_tun _ _ _ _).trans hu
  unfold State.resend
  rw [hctx]
  dsimp only
  rw [if_neg (by simp [hend, hlocal, hcopies]), hsent]
  simp only [State.statM, State.ctxM, State.tunM, hdrop]

end Sys2Proof.Proofs
end

section
/-! SUPPORT. End-to-end acknowledgements, and O14 (R166 to R168). -/

namespace Sys2Proof.Proofs

open Sys2Proof.Machine Sys2Proof.Laws

/-! ### The acknowledgements owed (R166) -/

theorem leBytes_length (n v : Nat) : (leBytes n v).length = n := by
  induction n generalizing v with
  | zero => rfl
  | succ n ih => simp [leBytes, ih]

theorem leNat_leBytes (n v : Nat) : leNat (leBytes n v) = v % 256 ^ n := by
  induction n generalizing v with
  | zero => simp [leBytes, leNat, Nat.mod_one]
  | succ n ih => simp [leBytes, leNat, ih, Nat.pow_succ', Nat.mod_mul]

/-- One entry owed makes one frame. -/
theorem ackFrames_one (src dst : Nat) (a : OwedAck) : ackFrames src dst 1 [a] =
    [{ dst := dst, src := src, tid := 0, cls := 0, kind := 1, len := 4, hseq := 0, eseq := 0, ttl := 63, flags := 0, rsvd := 0,
       payload := a.entry }] := by
  simp [ackFrames, OwedAck.entry, leBytes_length]

/-- E2E_ACK_SEND with one entry owed sends one frame toward its device. -/
theorem ackSend_of_one {s : State} {a : OwedAck} (howed : s.tun.owed = [a]) :
    (s.tun.owed.map (·.dst)).eraseDups.foldl (fun t d =>
      (ackFrames s.fid d (s.tun.owed.length / 256 + 1) (s.tun.owed.filter fun a => a.dst == d)).foldl (fun u f => u.sendFabric f none none) t)
      (s.tunM fun t => { t with owed := [] }) =
    (s.tunM fun t => { t with owed := [] }).sendFabric
      { dst := a.dst, src := s.fid, tid := 0, cls := 0, kind := 1, len := 4, hseq := 0, eseq := 0, ttl := 63, flags := 0, rsvd := 0,
        payload := a.entry } none none := by
  simp [howed, List.eraseDups_cons, ackFrames_one]

theorem e2eAckSend_sends (s : State) (a : OwedAck) (p : Nat) (hup : s.up = true) (howed : s.tun.owed = [a]) (hdst : a.dst ≠ 63)
    (hhop : s.tableHop a.dst 0 false false = some p) (hp : p < s.schs.length) : Does (.e2eAckSend) s fun t =>
      t.tun.owed = [] ∧
      (t.sch p).queue.map (fun e => e.f) = (s.sch p).queue.map (fun e => e.f) ++
        [{ dst := a.dst, src := s.fid, tid := 0, cls := 0, kind := 1, len := 4, hseq := 0, eseq := 0, ttl := 63, flags := 0, rsvd := 0, payload := a.entry }] := by
  have hsent := (ackSend_of_one howed).trans (sendFabric_of_hop (s := s.tunM fun t => { t with owed := [] }) hdst hhop)
  refine ⟨_, congrArg Host.Outcome.next ((whenUp_of hup _).trans hsent), ?_, ?_⟩
  · rw [enqueue_tun]
    rfl
  · exact enqueue_queue (fun _ _ => rfl) hp

/-! ### An acknowledgement that arrives (R166) -/

theorem hearAcks_short {bytes : List (BitVec 8)} (s : State) (h : bytes.length < 4) : State.hearAcks bytes s = s := by
  unfold State.hearAcks
  split
  · simp at h
    omega
  · rfl

/-- A payload of one entry is one acknowledgement. -/
theorem hearAcks_leBytes (s : State) {v : Nat} (hv : v < 256 ^ 4) :
    State.hearAcks (leBytes 4 v) s = s.hearAck (v % 4096) (v / 4096 % 2 == 1) (v / 65536) := by
  have hentry : leNat (leBytes 4 v) = v := by rw [leNat_leBytes, Nat.mod_eq_of_lt hv]
  change State.hearAcks [] (s.hearAck (leNat (leBytes 4 v) % 4096) (leNat (leBytes 4 v) / 4096 % 2 == 1) (leNat (leBytes 4 v) / 65536)) = _
  rw [hearAcks_short _ (by simp), hentry]

/-- An acknowledgement that asks for no resend frees copies alone. -/
theorem hearAck_frees {s : State} {tid eseq : Nat} {c : TunCtx}
    (hend : s.tun.ctxs.find? (fun c => c.par.tid == tid && c.isEnd && !c.local_) = some c) :
    s.hearAck tid false eseq = s.freeCopies c.idx eseq := by
  unfold State.hearAck
  rw [hend]
  rfl

theorem e2eAckReceive_frees (s : State) (tid eseq i : Nat) (c : TunCtx) (hup : s.up = true) (htid : tid < 4096) (heseq : eseq < 65536)
    (hend : s.tun.ctxs.find? (fun c => c.par.tid == tid && c.isEnd && !c.local_) = some c) (hctx : s.ctx c.idx = some c)
    (hfound : c.copies.findIdx? (fun k => k.f.eseq == eseq) = some i) (hheld : ∀ d ∈ s.tun.ctxs, d.held = []) :
    Does (.e2eAckReceive (leBytes 4 (tid + 65536 * eseq))) s fun t =>
      t.ctx c.idx = some { c with copies := c.copies.drop (i + 1), ack := eseq } ∧ t.regs = s.regs ∧ t.outs = s.outs := by
  have hshort : (leBytes 4 (tid + 65536 * eseq)).take 1024 = leBytes 4 (tid + 65536 * eseq) :=
    List.take_of_length_le (by rw [leBytes_length]; decide)
  have hack : s.hearAck ((tid + 65536 * eseq) % 4096) ((tid + 65536 * eseq) / 4096 % 2 == 1) ((tid + 65536 * eseq) / 65536) =
      s.hearAck tid false eseq := by
    rw [show (tid + 65536 * eseq) % 4096 = tid by omega, show (tid + 65536 * eseq) / 4096 % 2 = 0 by omega,
      show (tid + 65536 * eseq) / 65536 = eseq by omega]
    rfl
  have hheard : State.hearAcks ((leBytes 4 (tid + 65536 * eseq)).take 1024) s =
      s.ctxM c.idx fun d => { d with copies := d.copies.drop (i + 1), ack := eseq } := by
    rw [hshort, hearAcks_leBytes s (by omega), hack, hearAck_frees hend, freeCopies_of_found hctx hfound hheld]
  exact ⟨_, congrArg Host.Outcome.next ((whenUp_of hup _).trans hheard), ctx_ctxM_of (fun _ => rfl) hctx, rfl, rfl⟩

/-! ### No acknowledgement in time (R167) -/

theorem e2eTimeout_resends (s : State) (tid : Nat) (c : TunCtx) (hup : s.up = true)
    (hend : s.tun.ctxs.find? (fun c => c.par.tid == tid && c.isEnd && !c.local_ && !c.copies.isEmpty) = some c)
    (hctx : s.ctx c.idx = some c) (hrun : c.paused = 0) : Does (.e2eTimeout tid) s fun t =>
      (t.ctx c.idx).map (fun d => d.stat.resend) = some (satAdd c.stat.resend c.copies.length) ∧
      (t.ctx c.idx).map (fun d => d.lastResend) = some none := by
  have hc := List.find?_some hend
  simp only [Bool.and_eq_true, Bool.not_eq_true', List.isEmpty_eq_false_iff] at hc
  obtain ⟨⟨⟨-, hisEnd⟩, hlocal⟩, hcopies⟩ := hc
  have hcounted : (s.statM c.idx fun k => { k with resend := satAdd k.resend c.copies.length }).ctx c.idx =
      some { c with stat := { c.stat with resend := satAdd c.stat.resend c.copies.length } } := ctx_ctxM_of (fun _ => rfl) hctx
  have hsent : (s.resend c.idx).ctx c.idx = some { c with stat := { c.stat with resend := satAdd c.stat.resend c.copies.length }, lastResend := none } := by
    rw [ctx_congr (resend_tun hctx hisEnd hlocal hcopies)]
    exact ctx_ctxM_of (g := fun d => { d with lastResend := none }) (fun _ => rfl) hcounted
  refine ⟨s.resend c.idx, congrArg Host.Outcome.next ((whenUp_of hup _).trans ?_), by rw [hsent]; rfl, by rw [hsent]; rfl⟩
  rw [hend]
  exact if_pos hrun

/-- Settles O14, clause by clause. -/
theorem receiveCreditRows : Obligations.ReceiveCreditRows :=
  ⟨frameReceive_acknowledges, frameReceive_rejects, creditReceive_sets, creditRefresh_sends, e2eAckSend_sends, e2eAckReceive_frees,
    e2eTimeout_resends⟩

end Sys2Proof.Proofs
end

section
/-! SUPPORT. What a port sends: the scheduler's offer, resends and replays; the clauses of O13 about the hop (R154, R156, R201). -/

namespace Sys2Proof.Proofs

open Sys2Proof.Machine Sys2Proof.Laws

variable {s : State} {p : Nat}

/-! ### What leaves ADTn_LLSTAT as it is -/

theorem raise_llstat (s : State) {g b : Nat} (vals : List Nat) (hp : p < 3) (hev : 8 * g + b < 512) :
    (s.raise g b vals).rd (A.ADT_LLSTAT p) = s.rd (A.ADT_LLSTAT p) :=
  raise_regs_agree s vals hev _ (not_eventReg_of_between (by simp only [A.ADT_LLSTAT]; omega) (by simp only [A.ADT_LLSTAT]; omega))

theorem setKey_llstat (s : State) (p n : Nat) (v : KeyVal) : (s.setKey n v).rd (A.ADT_LLSTAT p) = s.rd (A.ADT_LLSTAT p) := by
  have hkey : ∀ f : Fld, f.addr < 0x40000 → A.ADT_LLSTAT p ≠ f.addr := fun f hf => by simp only [A.ADT_LLSTAT]; omega
  rw [State.setKey, State.keyRegs, rd_put_other _ _ (hkey _ (by decide)), rd_put_other _ _ (hkey _ (by decide)),
    rd_put_other _ _ (hkey _ (by decide)), State.putBit, rd_put_other _ _ (hkey _ (by decide))]
  rfl

theorem ephemeral_llstat (s : State) (p : Nat) : (s.ephemeral p).1.rd (A.ADT_LLSTAT p) = s.rd (A.ADT_LLSTAT p) := by
  unfold State.ephemeral
  dsimp only
  rw [setKey_llstat]
  rfl

theorem startKx_llstat (s : State) (p : Nat) (rekey answer : Bool) :
    (s.startKx p rekey answer).rd (A.ADT_LLSTAT p) = s.rd (A.ADT_LLSTAT p) := by
  unfold State.startKx
  split
  · rfl
  · rw [emit_rd, rd_put_other _ _ (by simp [F.ADT_KEYSTAT_KX, A.ADT_KEYSTAT, A.ADT_LLSTAT]), State.keyM,
      linkM_rd, ephemeral_llstat]
    rfl

theorem overdue_llstat (s : State) (hp : p < 3) : (s.overdue p).rd (A.ADT_LLSTAT p) = s.rd (A.ADT_LLSTAT p) := by
  unfold State.overdue
  split
  · exact raise_llstat _ _ hp (by omega)
  · rfl

theorem sendLink_llstat (s : State) (p e : Nat) (w : LinkWord) : (s.sendLink e w).rd (A.ADT_LLSTAT p) = s.rd (A.ADT_LLSTAT p) :=
  sendLink_regs_agree s e w _ (by simp only [A.ADT_LLSTAT, A.ADT_STAT]; omega)

theorem release_llstat (s : State) (p : Nat) (q : QFrame) : (s.release q).rd (A.ADT_LLSTAT p) = s.rd (A.ADT_LLSTAT p) := by
  unfold State.release
  split
  · unfold State.freeRx
    split
    · rfl
    · dsimp only
      split
      · exact sendLink_llstat _ _ _ _
      · rfl
  · rfl

theorem drainDone_llstat (s : State) (n : Nat) (hp : p < 3) : (s.drainDone p n).rd (A.ADT_LLSTAT p) = s.rd (A.ADT_LLSTAT p) := by
  have hdrain : A.ADT_LLSTAT p ≠ A.SCH_DRAIN p := by simp only [A.ADT_LLSTAT, A.SCH_DRAIN]; omega
  unfold State.drainDone
  split
  · rfl
  · dsimp only
    rw [raise_llstat _ _ hp (by omega)]
    split
    · rw [rd_put_other (f := F.SCH_DRAIN_MAX p) _ _ hdrain, rd_put_other (f := F.SCH_DRAIN_LAST p) _ _ hdrain]
      rfl
    · rw [rd_put_other (f := F.SCH_DRAIN_LAST p) _ _ hdrain]
      rfl

theorem drainDone_leaves (s : State) (p n : Nat) : Leaves [.regs, .ctl, .schs, .hew, .outs] s (s.drainDone p n) := by
  unfold State.drainDone
  split
  · simp
  · dsimp only
    simp

theorem chargeClass_leaves (s : State) (p cls size : Nat) : Leaves [.schs] s (s.chargeClass p cls size) := leaves_ite (by simp) (by simp)

/-! ### Transmission (R154) -/

/-- What a frame looks like on the link depends on the port's link layer, the keys and the next HSEQ. -/
theorem wireOf_congr {t : State} (hlinks : t.links = s.links) (hkeys : t.keys = s.keys)
    (hll : t.rd (A.ADT_LLSTAT p) = s.rd (A.ADT_LLSTAT p)) (f : Frame) (stomp : Bool) : t.wireOf p f stomp = s.wireOf p f stomp := by
  have hhseq : t.get (F.ADT_LLSTAT_TXHSEQ p) = s.get (F.ADT_LLSTAT_TXHSEQ p) := congrArg (bitsOf · 0 12) hll
  have hlink : t.link p = s.link p := by rw [State.link, hlinks, State.link]
  have hkey : t.linkKey = s.linkKey := by
    funext n
    simp only [State.linkKey, State.slotAt, hkeys]
  simp only [State.wireOf, hlink, hkey, hhseq]

theorem wireOf_hseq (s : State) (p : Nat) (f : Frame) (stomp : Bool) :
    (s.wireOf p f stomp).f.hseq = s.get (F.ADT_LLSTAT_TXHSEQ p) := by
  unfold State.wireOf
  dsimp only
  split <;> rfl

theorem transmit_sends (s : State) (p : Nat) (f : Frame) (stomp : Bool) :
    Sends s (s.transmit p f stomp) (.frame p (s.wireOf p f stomp)) := by
  unfold State.transmit
  extract_lets +onlyGivenNames w u numbered copied sent
  have hnumbered : Grows s numbered := ((Grows.refl s).reserve.ite (Grows.refl s)).put
  have hsent : Sends s sent (.frame p w) := hnumbered.linkM.keyM.sends (sends_emit _ _)
  have hafter : Grows sent sent := Grows.refl sent
  exact sends_trans hsent (hafter.overdue.ite (hafter.startKx.ite hafter))

theorem transmit_txhseq (s : State) (f : Frame) (stomp : Bool) (hp : p < 3) :
    (s.transmit p f stomp).get (F.ADT_LLSTAT_TXHSEQ p) = (s.get (F.ADT_LLSTAT_TXHSEQ p) + 1) % 4096 := by
  unfold State.transmit
  extract_lets +onlyGivenNames w u numbered copied sent k
  have hsent : sent.get (F.ADT_LLSTAT_TXHSEQ p) = (s.get (F.ADT_LLSTAT_TXHSEQ p) + 1) % 4096 := by
    rw [← wireOf_hseq s p f stomp]
    exact get_put_same _ _ (by simp [F.ADT_LLSTAT_TXHSEQ])
  have hkept : ∀ t : State, t.rd (A.ADT_LLSTAT p) = sent.rd (A.ADT_LLSTAT p) →
      t.get (F.ADT_LLSTAT_TXHSEQ p) = (s.get (F.ADT_LLSTAT_TXHSEQ p) + 1) % 4096 := fun t ht =>
    (congrArg (bitsOf · 0 12) ht).trans hsent
  split
  · exact hkept _ (overdue_llstat _ hp)
  · split
    · exact hkept _ (startKx_llstat _ _ _ _)
    · exact hsent

theorem sendQueued_fabric {q : QFrame} (stomp : Bool) (h : q.queue = none) : s.sendQueued p q stomp =
    (((s.schM p fun c => { c with queue := c.queue.erase q }).drainDone p s.now).transmit p q.f stomp).release q := by
  unfold State.sendQueued
  rw [h]

/-- The head of a fabric queue leaves as the next frame of the link (R201 step 1). -/
theorem sendFab_sends {q : QFrame} {stomp : Bool} (hp : p < 3) (hfab : q.queue = none) :
    Sends s (s.sendFab p q stomp) (.frame p (s.wireOf p q.f stomp)) ∧
      (s.sendFab p q stomp).get (F.ADT_LLSTAT_TXHSEQ p) = (s.get (F.ADT_LLSTAT_TXHSEQ p) + 1) % 4096 := by
  rw [State.sendFab, sendQueued_fabric stomp hfab]
  set charged := s.chargeClass p q.f.cls (s.sizeOn p q.f)
  have hcharged : Leaves [.schs] s charged := chargeClass_leaves _ _ _ _
  set u := (charged.schM p fun c => { c with queue := c.queue.erase q }).drainDone p charged.now with hu
  have hleaves : Leaves [.regs, .ctl, .schs, .hew, .outs] s u :=
    leaves_trans (leaves_mono (by simp) hcharged) (leaves_trans (by simp) (drainDone_leaves _ _ _))
  have hll : u.rd (A.ADT_LLSTAT p) = s.rd (A.ADT_LLSTAT p) := by
    rw [hu, drainDone_llstat _ _ hp, schM_rd, State.rd, hcharged .regs (by decide), State.rd]
  have hgrows : Grows s u := (Grows.refl s).chargeClass.schM.drainDone
  have hsent := transmit_sends u p q.f stomp
  rw [wireOf_congr (hleaves .links (by decide)) (hleaves .keys (by decide)) hll] at hsent
  refine ⟨sends_trans (hgrows.sends hsent) (Grows.refl _).release, ?_⟩
  calc ((u.transmit p q.f stomp).release q).get (F.ADT_LLSTAT_TXHSEQ p)
      = (u.transmit p q.f stomp).get (F.ADT_LLSTAT_TXHSEQ p) := congrArg (bitsOf · 0 12) (release_llstat _ p q)
    _ = (u.get (F.ADT_LLSTAT_TXHSEQ p) + 1) % 4096 := transmit_txhseq u q.f stomp hp
    _ = (s.get (F.ADT_LLSTAT_TXHSEQ p) + 1) % 4096 := congrArg (fun w => (bitsOf w 0 12 + 1) % 4096) hll

/-! ### The scheduler's offer (R201) -/

theorem postMail_of_none (h : s.mail = []) : s.postMail = s := by
  unfold State.postMail
  rw [h, List.foldl_nil, ← h]

theorem sendTurn_of_lit (hlit : s.lit p = true) (hdim : s.bit (F.ADT_STAT_TXDIM p) = false) : s.sendTurn p = s.sendNext p :=
  (if_neg (by simp [hlit])).trans (if_neg (by simp [hdim]))

/-- SCHEDULER_OFFER with no message to post, at a port in LIT. -/
theorem exec_schedulerOffer (hrun : s.serdesUp = true) (hmail : s.mail = []) (hlit : s.lit p = true)
    (hdim : s.bit (F.ADT_STAT_TXDIM p) = false) : exec (.schedulerOffer p) s = .next (s.sendNext p) :=
  congrArg Host.Outcome.next ((whenSerdes_of hrun _).trans ((congrArg (State.sendTurn · p) (postMail_of_none hmail)).trans
    (sendTurn_of_lit hlit hdim)))

theorem schedulerOffer_resends (s : State) (p : Nat) (w : Wire) (rest : List Wire) (hrun : s.serdesUp = true) (hmail : s.mail = [])
    (hlit : s.lit p = true) (hdim : s.bit (F.ADT_STAT_TXDIM p) = false) (hresend : (s.link p).resend = w :: rest) :
    Does (.schedulerOffer p) s fun t => (t.link p).resend = rest ∧ t.outs = s.outs ++ [.frame p w] ∧ t.regs = s.regs := by
  have hnext : s.sendNext p = (s.linkM p fun l => { l with resend := rest }).emit (.frame p w) := by
    unfold State.sendNext
    rw [hresend]
  have hlink : ((s.linkM p fun l => { l with resend := rest }).link p).resend = rest := by
    rw [link_linkM_same _ (lt_of_resend (by rw [hresend]; exact List.cons_ne_nil _ _))]
  exact ⟨_, (exec_schedulerOffer hrun hmail hlit hdim).trans (congrArg _ hnext), hlink, rfl, rfl⟩

/-- The head of fabric class 6 comes before every other new frame. -/
theorem offer_of_fabHead {q : QFrame} (hq : s.fabHead p 6 = some q) (hok : s.headOk p q = true) (hwin : s.windowOk p q.f = true) :
    s.offer p = s.sendFab p q false := by
  unfold State.offer
  simp [hq, hok, hwin]

theorem schedulerOffer_offers (s : State) (p : Nat) (q : QFrame) (hrun : s.serdesUp = true) (hmail : s.mail = [])
    (hlit : s.lit p = true) (_hp : p < s.links.length) (hdim : s.bit (F.ADT_STAT_TXDIM p) = false) (hresend : (s.link p).resend = [])
    (hdrain : (s.sch p).draining = none) (hkey : (s.link p).key.overdue = false) (hq : s.fabHead p 6 = some q)
    (hok : s.headOk p q = true) (hwin : s.windowOk p q.f = true) : Does (.schedulerOffer p) s fun t =>
      Sends s t (.frame p (s.wireOf p q.f false)) ∧ t.get (F.ADT_LLSTAT_TXHSEQ p) = (s.get (F.ADT_LLSTAT_TXHSEQ p) + 1) % 4096 := by
  have hfab := List.find?_some hq
  simp only [Bool.and_eq_true, Option.isNone_iff_eq_none] at hfab
  have hnext : s.sendNext p = s.sendFab p q false := by
    unfold State.sendNext
    rw [hresend, ← offer_of_fabHead hq hok hwin]
    simp [hdrain, hkey]
  exact ⟨_, (exec_schedulerOffer hrun hmail hlit hdim).trans (congrArg _ hnext), sendFab_sends (lt_of_lit hlit) hfab.1⟩

/-! ### ACK, NAK and replays (R155, R156) -/

theorem ackReceive_frees (s : State) (p i : Nat) (w : LinkWord) (hrun : s.serdesUp = true) (hlit : s.lit p = true) (hkind : w.kind = 1)
    (hfound : (s.link p).replay.findIdx? (fun x => x.f.hseq == w.arg.toNat % 4096) = some i) :
    Does (.ackReceive p w (linkCheck w.kind w.arg)) s fun t =>
      (t.link p).replay = (s.link p).replay.drop (i + 1) ∧ (t.link p).replays = 0 ∧ t.regs = s.regs ∧ t.outs = s.outs := by
  obtain ⟨g, hack, hg⟩ := ackTo_of_found (s := s) (p := p) false hfound
  have hheard := linkWord_of_kind (act := fun t => t.ackWord p w) hlit hkind (by decide) (by decide)
  have hword : s.ackWord p w = s.linkM p g := by
    rw [State.ackWord, hack]
    rfl
  have hfreed : (s.linkM p g).link p = g (s.link p) := link_linkM_same _ (lt_of_replay (ne_nil_of_findIdx hfound))
  exact ⟨_, congrArg Host.Outcome.next ((whenSerdes_of hrun _).trans (hheard.trans hword)), by rw [hfreed, (hg _).1],
    by rw [hfreed, (hg _).2], rfl, rfl⟩

theorem replayAll_counts (hsome : (s.link p).replay ≠ []) (hroom : (s.link p).replays < s.replim p) :
    ((s.replayAll p).link p).replay = (s.link p).replay ∧ ((s.replayAll p).link p).resend = (s.link p).replay ∧
      ((s.replayAll p).link p).replays = (s.link p).replays + 1 ∧
      (s.replayAll p).get (F.ADT_REPLAY p) = min (s.get (F.ADT_REPLAY p) + 1) (2 ^ 32 - 1) ∧ (s.replayAll p).outs = s.outs := by
  have hlink : (s.bump (F.ADT_REPLAY p)).link p = s.link p := by rw [State.link, bump_links, State.link]
  have hp : p < (s.bump (F.ADT_REPLAY p)).links.length := lt_of_replay (by rwa [hlink])
  rw [replayAll_of_room hsome hroom, link_linkM_same _ hp, hlink, linkM_get, bump_get_same _ (by simp [F.ADT_REPLAY]), linkM_outs,
    bump_outs]
  exact ⟨rfl, rfl, rfl, rfl, rfl⟩

theorem nakReceive_replays (s : State) (p i : Nat) (w : LinkWord) (hrun : s.serdesUp = true) (hlit : s.lit p = true) (_hp : p < 3)
    (hkind : w.kind = 2) (hfound : (s.link p).replay.findIdx? (fun x => x.f.hseq == w.arg.toNat % 4096) = some i)
    (hrest : (s.link p).replay.drop (i + 1) ≠ []) : Does (.nakReceive p w (linkCheck w.kind w.arg)) s fun t =>
      (t.link p).replay = (s.link p).replay.drop (i + 1) ∧ (t.link p).resend = (s.link p).replay.drop (i + 1) ∧
      t.get (F.ADT_NAKRX p) = min (s.get (F.ADT_NAKRX p) + 1) (2 ^ 32 - 1) ∧
      t.get (F.ADT_REPLAY p) = min (s.get (F.ADT_REPLAY p) + 1) (2 ^ 32 - 1) := by
  set n := s.bump (F.ADT_NAKRX p) with hn
  have hlink : n.link p = s.link p := by rw [hn, State.link, bump_links, State.link]
  have hfound' : (n.link p).replay.findIdx? (fun x => x.f.hseq == w.arg.toNat % 4096) = some i := by rwa [hlink]
  obtain ⟨g, hack, hg⟩ := ackTo_of_found true hfound'
  have hheard := linkWord_of_kind (act := fun t => t.nakWord p w) hlit hkind (by decide) (by decide)
  have hword : s.nakWord p w = (n.linkM p g).replayAll p := by
    unfold State.nakWord
    dsimp only
    rw [← hn, hack]
  have hfreed : (n.linkM p g).link p = g (s.link p) := by
    rw [link_linkM_same _ (lt_of_replay (ne_nil_of_findIdx hfound')), hlink]
  obtain ⟨hreplay, hreplays⟩ := hg (s.link p)
  have hsome : ((n.linkM p g).link p).replay ≠ [] := by rwa [hfreed, hreplay]
  have hroom : ((n.linkM p g).link p).replays < (n.linkM p g).replim p := by
    rw [hfreed, hreplays]
    exact replim_pos _ _
  obtain ⟨hkept, hresend, -, hcount, -⟩ := replayAll_counts hsome hroom
  refine ⟨_, congrArg Host.Outcome.next ((whenSerdes_of hrun _).trans (hheard.trans hword)), ?_, ?_, ?_, ?_⟩
  · rw [hkept, hfreed, hreplay]
  · rw [hresend, hfreed, hreplay]
  · rw [replayAll_of_room hsome hroom, linkM_get, bump_get_other _ (by simp [F.ADT_REPLAY])
      (.inl (by simp [F.ADT_REPLAY, A.ADT_REPLAY, F.ADT_NAKRX, A.ADT_NAKRX])), linkM_get, hn, bump_get_same _ (by simp [F.ADT_NAKRX])]
    rfl
  · rw [hcount, linkM_get, hn, bump_get_other _ (by simp [F.ADT_NAKRX])
      (.inl (by simp [F.ADT_REPLAY, A.ADT_REPLAY, F.ADT_NAKRX, A.ADT_NAKRX]))]

theorem replayTimeout_replays (s : State) (p : Nat) (hrun : s.serdesUp = true) (hlit : s.lit p = true) (hsome : (s.link p).replay ≠ [])
    (hroom : (s.link p).replays < s.replim p) : Does (.replayTimeout p) s fun t =>
      (t.link p).resend = (s.link p).replay ∧ (t.link p).replays = (s.link p).replays + 1 ∧
      t.get (F.ADT_REPLAY p) = min (s.get (F.ADT_REPLAY p) + 1) (2 ^ 32 - 1) ∧ t.outs = s.outs :=
  ⟨_, congrArg Host.Outcome.next ((whenSerdes_of hrun _).trans (if_pos hlit)), (replayAll_counts hsome hroom).2⟩

theorem nakResendTimer_sends (s : State) (p : Nat) (hrun : s.serdesUp = true) (hlit : s.lit p = true)
    (hnak : s.bit (F.ADT_LLSTAT_NAKOUT p) = true) : Does (.nakResendTimer p) s fun t =>
      Sends s t (.link p { kind := 2, arg := ackArg (s.lastHseq p) }) ∧
      t.get (F.ADT_NAKTX p) = min (s.get (F.ADT_NAKTX p) + 1) (2 ^ 32 - 1) :=
  ⟨_, congrArg Host.Outcome.next ((whenSerdes_of hrun _).trans (if_pos ⟨hlit, hnak⟩)), sendNak_sends hlit, sendNak_naktx s p⟩

end Sys2Proof.Proofs
end

section
/-! SUPPORT. The admission of a frame at an end, and O13 (R17, R213). -/

namespace Sys2Proof.Proofs

open Sys2Proof.Machine Sys2Proof.Laws

variable {s : State} {c : TunCtx} {kind col : Nat} {bytes : List (BitVec 8)} {last : Bool}

/-! ### The test of the frame that stands first (R17, R213) -/

theorem firstM_id (s : State) (i : Nat) : s.firstM i id = s := by
  simp [State.firstM, State.ctxM, State.tunM, updBy]

/-- Two changes of the entries that pass a test, of which the first keeps the test. -/
theorem updBy_updBy {α : Type} {q : α → Bool} {g h : α → α} (hg : ∀ x, q (g x) = q x) (l : List α) :
    updBy q h (updBy q g l) = updBy q (h ∘ g) l := by
  simp only [updBy, List.map_map]
  refine List.map_congr_left fun x _ => ?_
  by_cases hx : q x = true <;> simp [hx, hg]

theorem ctxM_ctxM {i : Nat} {g h : TunCtx → TunCtx} (hg : ∀ d, (g d).idx = d.idx) : (s.ctxM i g).ctxM i h = s.ctxM i (h ∘ g) :=
  congrArg (fun l => { s with tun := { s.tun with ctxs := l } }) (updBy_updBy (fun d => by rw [hg]) s.tun.ctxs)

theorem firstM_firstM (s : State) (i : Nat) (g h : Offer → Offer) : (s.firstM i g).firstM i h = s.firstM i (h ∘ g) :=
  ctxM_ctxM (g := fun d => { d with first := g d.first }) (h := fun d => { d with first := h d.first }) fun _ => rfl

theorem firstM_ctx {g : Offer → Offer} (h : s.ctx c.idx = some c) :
    (s.firstM c.idx g).ctx c.idx = some { c with first := g c.first } :=
  ctx_ctxM_of (g := fun d => { d with first := g d.first }) (fun _ => rfl) h

/-- What a change of the frame that stands first at an end leaves of the room there is. -/
theorem roomTest_firstM (s : State) (i : Nat) (g : Offer → Offer) (c : TunCtx) (len col : Nat) :
    (s.firstM i g).roomTest c len col = s.roomTest c len col := by
  have hocc : ∀ p, (s.firstM i g).e2eOcc p = s.e2eOcc p := fun p => by
    simp only [State.e2eOcc, State.firstM, State.ctxM, State.tunM, updBy, List.map_map]
    congr 2
    funext d
    simp only [Function.comp_apply]
    split <;> rfl
  have hpool : ∀ p, (s.firstM i g).poolFull c p len = s.poolFull c p len := fun p => by simp only [State.poolFull, hocc]
  have hegress : (s.firstM i g).egressOf c = s.egressOf c := rfl
  have hspill : ∀ p n, (s.firstM i g).spillFull p n = s.spillFull p n := fun _ _ => rfl
  have hget : ∀ f, (s.firstM i g).get f = s.get f := fun _ => rfl
  simp only [State.roomTest, hegress, hpool, hspill, hocc, hget]

theorem roomTest_of_room {p len : Nat} (hlocal : c.local_ = false) (hegress : s.egressOf c = some p)
    (hpool : s.poolFull c p len = false) (hspill : s.spillFull p (20 + len) = false) : s.roomTest c len 0 = .pass 0 := by
  simp [State.roomTest, hlocal, hegress, hpool, hspill]

/-- Without a meter the first test of a frame finds it green. -/
theorem meterTest_unpaid (s : State) (len : Nat) (yellow : Bool) (hmen : c.par.men = false) (hpaid : c.first.paid = none) :
    ∃ g, s.meterTest c len yellow = (s.firstM c.idx g, some 0) := by
  unfold State.meterTest
  simp [hpaid, hmen, State.countColour]

theorem meterTest_unmetered (s : State) (len : Nat) (yellow : Bool) (hmen : c.par.men = false) :
    ∃ g col, s.meterTest c len yellow = (s.firstM c.idx g, some col) := by
  cases hpaid : c.first.paid with
  | none =>
    obtain ⟨g, h⟩ := meterTest_unpaid s len yellow hmen hpaid
    exact ⟨g, 0, h⟩
  | some col =>
    refine ⟨id, col, ?_⟩
    rw [firstM_id, State.meterTest, hpaid]

/-- Without a meter a test changes nothing but how the frame stands at its end. -/
theorem admTest_unmetered (s : State) (ring : Option Nat) (len : Nat) (yellow : Bool) (hmen : c.par.men = false) :
    ∃ g, (s.admTest c ring len yellow).1 = s.firstM c.idx g := by
  unfold State.admTest
  dsimp only
  split
  · exact ⟨fun o => { o with ring := ring, pend := true }, rfl⟩
  · obtain ⟨g, col, h⟩ := meterTest_unmetered (s.firstM c.idx fun o => { o with ring := ring, pend := true }) len yellow hmen
    rw [h]
    exact ⟨_, firstM_firstM _ _ _ _⟩

theorem admTest_passes {p len : Nat} (ring : Option Nat) (yellow : Bool) (hopen : c.state = 2) (hrun : c.paused = 0)
    (hmen : c.par.men = false) (hpaid : c.first.paid = none) (hlocal : c.local_ = false) (hegress : s.egressOf c = some p)
    (hpool : s.poolFull c p len = false) (hspill : s.spillFull p (20 + len) = false) : (s.admTest c ring len yellow).2 = .pass 0 := by
  obtain ⟨g, h⟩ := meterTest_unpaid (s.firstM c.idx fun o => { o with ring := ring, pend := true }) len yellow hmen hpaid
  unfold State.admTest
  dsimp only
  rw [if_neg (by simp [hopen, hrun]), h]
  dsimp only
  rw [if_neg (by simp), roomTest_firstM, roomTest_firstM, roomTest_of_room hlocal hegress hpool hspill]

theorem meet_of_pass {ring : Option Nat} {f : HeldFrame} (h : (s.admTest c ring f.bytes.length f.yellow).2 = .pass col) :
    s.meet c ring f = ((s.admTest c ring f.bytes.length f.yellow).1.admits c f.kind f.bytes f.last col, false) := by
  unfold State.meet
  generalize s.admTest c ring f.bytes.length f.yellow = r at h ⊢
  obtain ⟨t, a⟩ := r
  obtain rfl : a = .pass col := h
  rfl

/-! ### Admission (R17 steps 4 to 7) -/

/-- A frame toward another device takes the end's TXESEQ and is sent; the end's copies, its first place and its counts follow. -/
theorem admits_of_remote (s : State) (c : TunCtx) (kind col : Nat) (bytes : List (BitVec 8)) (last : Bool) (hlocal : c.local_ = false) :
    ∃ g : TunCtx → TunCtx, (∀ d, (g d).idx = d.idx ∧ (g d).tx = (d.tx + 1) % 65536) ∧
      s.admits c kind bytes last col = (s.ctxM c.idx g).sendEnd c
        { dst := c.far, src := s.fid, tid := c.par.tid, cls := c.par.cls, kind := kind, len := bytes.length, hseq := 0, eseq := c.tx,
          ttl := 63, flags := (if col = 1 ∧ c.par.cls = 5 then 4 else 0) + (if last ∧ (kind = 0x0A ∨ kind = 0x0D) then 8 else 0),
          rsvd := 0, payload := bytes } (s.fenceOf c kind bytes) := by
  unfold State.admits
  dsimp only
  rw [if_neg (by simp [hlocal])]
  refine ⟨_, ?_, rfl⟩
  exact fun d => ⟨rfl, rfl⟩

theorem admits_tx (hlocal : c.local_ = false) {d : TunCtx} (hctx : s.ctx c.idx = some d) :
    ∃ e, (s.admits c kind bytes last col).ctx c.idx = some e ∧ e.tx = (d.tx + 1) % 65536 := by
  obtain ⟨g, hg, h⟩ := admits_of_remote s c kind col bytes last hlocal
  refine ⟨g d, ?_, (hg d).2⟩
  rw [h, ctx_congr (sendEnd_tun _ _ _ _)]
  exact ctx_ctxM_of (fun d => (hg d).1) hctx

theorem admits_loop (hlocal : c.local_ = false) : (s.admits c kind bytes last col).tun.loop = s.tun.loop := by
  obtain ⟨g, -, h⟩ := admits_of_remote s c kind col bytes last hlocal
  rw [h, sendEnd_tun]
  rfl

/-- A green frame toward another device joins its queue on the egress port. -/
theorem admits_queue {p : Nat} (hlocal : c.local_ = false) (hegress : s.egressOf c = some p) (hp : p < s.schs.length) :
    ((s.admits c kind bytes last 0).sch p).queue.map (fun q => (q.queue, q.f)) = (s.sch p).queue.map (fun q => (q.queue, q.f)) ++
      [(some c.idx,
        { dst := c.far, src := s.fid, tid := c.par.tid, cls := c.par.cls, kind := kind, len := bytes.length, hseq := 0, eseq := c.tx,
          ttl := 63, flags := (if last ∧ (kind = 0x0A ∨ kind = 0x0D) then 8 else 0), rsvd := 0, payload := bytes })] ∧
      (s.admits c kind bytes last 0).outs = s.outs := by
  obtain ⟨g, -, h⟩ := admits_of_remote s c kind 0 bytes last hlocal
  have hegress' : (s.ctxM c.idx g).egressOf c = some p := hegress
  rw [h, sendEnd_of_egress hegress', enqueue_queue (s := s.ctxM c.idx g) (fun _ _ => rfl) hp, enqueue_outs, if_neg (by simp), Nat.zero_add]
  exact ⟨rfl, rfl⟩

/-! ### A frame from an interface (R17) -/

theorem foreignFrameIngress_admits (s : State) (ep typ kind p : Nat) (bytes : List (BitVec 8)) (last : Bool) (c : TunCtx)
    (hup : s.up = true) (hkind : kind ∈ typeKinds typ) (hbytes : bytes ≠ []) (hend : s.endAt ep typ = some c)
    (hctx : s.ctx c.idx = some c) (hopen : c.state = 2) (hrun : c.paused = 0) (hheld : c.held = []) (hpend : c.first.pend = false)
    (hpaid : c.first.paid = none) (hmen : c.par.men = false) (hlocal : c.local_ = false) (hlen : bytes.length ≤ lenMax c.par.cls)
    (hegress : s.egressOf c = some p) (hp : p < s.schs.length) (hpool : s.poolFull c p bytes.length = false)
    (hspill : s.spillFull p (20 + bytes.length) = false) (_hfence : s.fenceOf c kind bytes = none) (hloop : s.tun.loop = []) :
    Does (.foreignFrameIngress ep typ kind bytes last false) s fun t =>
      (t.ctx c.idx).map (fun d => d.tx) = some ((c.tx + 1) % 65536) ∧
      (t.sch p).queue.map (fun q => (q.queue, q.f)) = (s.sch p).queue.map (fun q => (q.queue, q.f)) ++ [(some c.idx,
        { dst := c.far, src := s.fid, tid := c.par.tid, cls := c.par.cls, kind := kind, len := bytes.length, hseq := 0, eseq := c.tx, ttl := 63, flags := (if last ∧ (kind = 0x0A ∨ kind = 0x0D) then 8 else 0), rsvd := 0, payload := bytes })]
        ∧
      t.outs = s.outs := by
  obtain ⟨g, htest⟩ := admTest_unmetered s none bytes.length false hmen
  have hpass : (s.admTest c none bytes.length false).2 = .pass 0 :=
    admTest_passes none false hopen hrun hmen hpaid hlocal hegress hpool hspill
  have hmet : s.meet c none { bytes := bytes, kind := kind, last := last, yellow := false } =
      ((s.firstM c.idx g).admits c kind bytes last 0, false) := by
    rw [meet_of_pass (f := { bytes := bytes, kind := kind, last := last, yellow := false }) hpass, htest]
  have hingress : s.ingress ep typ kind bytes last false = (s.firstM c.idx g).admits c kind bytes last 0 := by
    unfold State.ingress State.ingressOf
    rw [hend]
    dsimp only
    rw [if_neg (by omega), if_neg (by omega), if_neg (by simp [TunCtx.behind, hpend, hheld]), Bool.false_and, hmet]
  have hdone : ((s.firstM c.idx g).admits c kind bytes last 0).flushLoop = (s.firstM c.idx g).admits c kind bytes last 0 :=
    flushLoop_of_none ((admits_loop hlocal).trans hloop)
  obtain ⟨e, hfound, htx⟩ := admits_tx (kind := kind) (col := 0) (bytes := bytes) (last := last) hlocal (firstM_ctx (g := g) hctx)
  refine ⟨_, congrArg Host.Outcome.next ((whenUp_of hup _).trans ((if_pos ⟨hkind, hbytes⟩).trans
    ((congrArg State.flushLoop hingress).trans hdone))), ?_, admits_queue hlocal hegress hp⟩
  rw [hfound]
  exact congrArg some htx

/-! ### The retest of held frames (R213) -/

theorem redEvent_tun (s : State) : s.redEvent.tun = s.tun := by
  unfold State.redEvent
  split
  · split
    · exact raise_leaves _ _ _ _ .tun (by decide)
    · rfl
  · rfl

/-- One held frame that passes is admitted and leaves its interface. -/
theorem flushHeld_of_pass {h : HeldFrame} (hctx : s.ctx c.idx = some c) (hheld : c.held = [h]) (hopen : c.state = 2)
    (hring : c.first.ring = none) (hpass : (s.admTest c none h.bytes.length h.yellow).2 = .pass 0) :
    s.flushHeld 1 c.idx = ((s.admTest c none h.bytes.length h.yellow).1.admits c h.kind h.bytes h.last 0).ctxM c.idx fun d =>
      { d with held := [] } := by
  rw [State.flushHeld, hctx]
  dsimp only
  rw [hheld]
  dsimp only
  rw [if_neg (by omega), if_neg (by simp [hring]), meet_of_pass hpass]
  rfl

theorem meterRetest_admits (s : State) (c : TunCtx) (h : HeldFrame) (hup : s.up = true) (hctxs : s.tun.ctxs = [c]) (hheld : c.held = [h])
    (hopen : c.state = 2) (hring : c.first.ring = none) (hpass : (s.admTest c none h.bytes.length h.yellow).2 = .pass 0)
    (hlocal : c.local_ = false) (hmen : c.par.men = false) (hloop : s.tun.loop = []) : Does (.meterRetest) s fun t =>
      (t.ctx c.idx).map (fun d => d.held) = some [] ∧ (t.ctx c.idx).map (fun d => d.tx) = some ((c.tx + 1) % 65536) := by
  have hctx : s.ctx c.idx = some c := by simp [State.ctx, hctxs]
  obtain ⟨g, htest⟩ := admTest_unmetered s none h.bytes.length h.yellow hmen
  have hflushed : s.flushAllHeld = ((s.firstM c.idx g).admits c h.kind h.bytes h.last 0).ctxM c.idx fun d => { d with held := [] } := by
    rw [← htest, ← flushHeld_of_pass hctx hheld hopen hring hpass]
    simp [State.flushAllHeld, hctxs, hheld]
  have hloop' : s.flushAllHeld.redEvent.tun.loop = [] := by
    rw [redEvent_tun, hflushed]
    exact (admits_loop hlocal).trans hloop
  obtain ⟨e, hfound, htx⟩ := admits_tx (kind := h.kind) (col := 0) (bytes := h.bytes) (last := h.last) hlocal (firstM_ctx (g := g) hctx)
  have hend : s.flushAllHeld.redEvent.ctx c.idx = some { e with held := [] } := by
    rw [ctx_congr (redEvent_tun _), hflushed]
    exact ctx_ctxM_of (g := fun d => { d with held := [] }) (fun _ => rfl) hfound
  refine ⟨_, congrArg Host.Outcome.next ((whenUp_of hup _).trans (flushLoop_of_none hloop')), ?_, ?_⟩
  · rw [hend]
    rfl
  · rw [hend]
    exact congrArg some htx

/-- Settles O13, clause by clause. -/
theorem transmitIngressRows : Obligations.TransmitIngressRows :=
  ⟨schedulerOffer_resends, schedulerOffer_offers, ackReceive_frees, nakReceive_replays, replayTimeout_replays, nakResendTimer_sends,
    foreignFrameIngress_admits, meterRetest_admits⟩

end Sys2Proof.Proofs
end

section
/-! SUPPORT. The scheduler's clocked rows: slots of the calendar, shapers, meters and epochs (R205, R206, R210, R212, R217), with the proof
of O18. -/

namespace Sys2Proof.Proofs

open Sys2Proof.Machine Sys2Proof.Laws

variable {s : State} {p : Nat}

/-! ### Keyed lists, and folds that reach a key once -/

theorem assoc_putBy_same {α : Type} (k : Nat) (x : α) (l : List (Nat × α)) :
    assoc (putBy (fun e => e.1 == k) (k, x) l) k = some x := by
  unfold assoc putBy
  split
  case isTrue hany =>
    have hkeys : ((fun e : Nat × α => e.1 == k) ∘ fun y => if y.1 == k then (k, x) else y) = fun e => e.1 == k := by
      funext y
      by_cases hy : y.1 = k <;> simp [hy]
    obtain ⟨y, hy⟩ := Option.isSome_iff_exists.1 (List.find?_isSome.2 (List.any_eq_true.1 hany))
    have hyk := List.find?_some hy
    rw [List.find?_map, hkeys, hy, Option.map_some, Option.map_some, if_pos hyk]
  case isFalse hany =>
    have hnone : l.find? (fun e => e.1 == k) = none := List.find?_eq_none.2 fun y hy hyk => hany (List.any_eq_true.2 ⟨y, hy, hyk⟩)
    simp [List.find?_append, hnone]

theorem assoc_putBy_other {α : Type} {j k : Nat} (x : α) (l : List (Nat × α)) (h : j ≠ k) :
    assoc (putBy (fun e => e.1 == j) (j, x) l) k = assoc l k := by
  unfold assoc putBy
  split
  case isTrue =>
    have hkeys : ((fun e : Nat × α => e.1 == k) ∘ fun y => if y.1 == j then (j, x) else y) = fun e => e.1 == k := by
      funext y
      by_cases hy : y.1 = j <;> simp [hy]
    rw [List.find?_map, hkeys]
    cases hf : l.find? (fun e => e.1 == k) with
    | none => rfl
    | some y =>
      have hy : y.1 = k := by simpa using List.find?_some hf
      simp [hy, h.symm]
  case isFalse => simp [List.find?_append, h]

/-- Of a fold whose list holds `k` once, only the step at `k` changes what the other steps keep. -/
theorem foldl_reaches_once {σ β : Type} {g : σ → Nat → σ} {l : List Nat} {k : Nat} {inv : σ → Prop} {φ : σ → β} {x y : β} {s : σ}
    (hk : k ∈ l) (hnodup : l.Nodup) (hinv : ∀ u j, inv u → inv (g u j)) (hother : ∀ u j, j ≠ k → inv u → φ (g u j) = φ u)
    (hat : ∀ u, inv u → φ u = x → φ (g u k) = y) (hs : inv s) (hx : φ s = x) : φ (l.foldl g s) = y := by
  obtain ⟨before, after, rfl⟩ := List.append_of_mem hk
  obtain ⟨-, hafter, hbefore⟩ := List.nodup_append.1 hnodup
  have hskip : ∀ (m : List Nat) (u : σ), inv u → (∀ j ∈ m, j ≠ k) → inv (m.foldl g u) ∧ φ (m.foldl g u) = φ u := fun m u hu hm =>
    List.foldlRecOn (motive := fun w => inv w ∧ φ w = φ u) m g ⟨hu, rfl⟩ fun w ⟨hw, hwx⟩ j hj =>
      ⟨hinv w j hw, (hother w j (hm j hj) hw).trans hwx⟩
  obtain ⟨hreached, hkept⟩ := hskip before s hs fun j hj => hbefore j hj k (List.mem_cons_self ..)
  rw [List.foldl_append, List.foldl_cons]
  refine (hskip after _ (hinv _ _ hreached) fun j hj e => (List.nodup_cons.1 hafter).1 (e ▸ hj)).2.trans ?_
  exact hat _ hreached (hkept.trans hx)

theorem sch_schM_other {q : Nat} (g : SchSt → SchSt) (h : q ≠ p) : (s.schM q g).sch p = s.sch p := by
  simp [State.sch, State.schM, h]

/-! ### The calendar (R204 to R206) -/

/-- The slot time of two lanes at the middle rate stays (R207). -/
theorem setSlot_of_unchanged (hrate : s.get (F.ADT_STAT_RATE p) = 1) (hlanes : s.get (F.ADT_STAT_TXLANES p) = 3)
    (hslot : s.get (F.SCH_SLOT_SLOTPS p) = 168000) : s.setSlot p = s := by
  simp [State.setSlot, hrate, hlanes, hslot, laneCount, slotPs]

theorem exec_calendarSlot (hup : s.up = true) (hp : p < 3) (hdrain : (s.sch p).draining = none)
    (hrate : s.get (F.ADT_STAT_RATE p) = 1) (hlanes : s.get (F.ADT_STAT_TXLANES p) = 3)
    (hslot : s.get (F.SCH_SLOT_SLOTPS p) = 168000) :
    exec (.calendarSlot p) s = .next (s.slotBegin p ((s.get (F.SCH_SLOT_POINTER p) + 1) % 1024)) := by
  have hbegins : ¬ (s.sch p).draining.isSome = true := by simp [hdrain]
  refine congrArg Host.Outcome.next ((whenUp_of hup _).trans ((if_neg (by omega)).trans ((if_neg hbegins).trans ?_)))
  rw [setSlot_of_unchanged hrate hlanes hslot]

theorem slotBegin_idle {k : Nat} (h : s.get (F.SCH_CALA_KIND p k) = 0) : s.slotBegin p k = s.put (F.SCH_SLOT_POINTER p) k := by
  unfold State.slotBegin
  rw [h]
  rfl

/-- An entry that names a queue of class 4 with a frame grants its credit. -/
theorem slotBegin_grants {k q : Nat} {c : TunCtx} (hkind : s.get (F.SCH_CALA_KIND p k) = 1) (hindex : s.get (F.SCH_CALA_INDEX p k) = q)
    (hholds : s.holds p q = true) (hctx : s.ctx q = some c) (hcls : c.par.cls = 4) :
    s.slotBegin p k = (s.put (F.SCH_SLOT_POINTER p) k).grantQueue p q := by
  unfold State.slotBegin
  dsimp only
  rw [hkind, hindex]
  refine (if_neg (by simp [hholds])).trans ?_
  rw [hctx]
  exact if_pos (.inl hcls)

theorem grantQueue_credit {q : Nat} (hp : p < s.schs.length) :
    assoc ((s.grantQueue p q).sch p).ccred q = some (min 18760 ((assoc (s.sch p).ccred q).getD 0 + 1050)) := by
  rw [State.grantQueue, sch_schM_same _ hp]
  exact assoc_putBy_same _ _ _

theorem put_sch (s : State) (f : Fld) (v p : Nat) : (s.put f v).sch p = s.sch p := by rw [State.sch, put_schs, State.sch]

theorem grantQueue_get (s : State) (p q : Nat) (f : Fld) : (s.grantQueue p q).get f = s.get f := schM_get _ _ _ _

theorem pointer_put (s : State) (p k : Nat) :
    (s.put (F.SCH_SLOT_POINTER p) (k % 1024)).get (F.SCH_SLOT_POINTER p) = k % 1024 := by
  rw [get_put_same _ _ (by simp [F.SCH_SLOT_POINTER])]
  simp [F.SCH_SLOT_POINTER]

theorem calendarSlot_grants (s : State) (p q : Nat) (c : TunCtx) (hup : s.up = true) (hp : p < 3) (hlen : p < s.schs.length)
    (hdrain : (s.sch p).draining = none) (hrate : s.get (F.ADT_STAT_RATE p) = 1) (hlanes : s.get (F.ADT_STAT_TXLANES p) = 3)
    (hslot : s.get (F.SCH_SLOT_SLOTPS p) = 168000)
    (hkind : s.get (F.SCH_CALA_KIND p ((s.get (F.SCH_SLOT_POINTER p) + 1) % 1024)) = 1)
    (hindex : s.get (F.SCH_CALA_INDEX p ((s.get (F.SCH_SLOT_POINTER p) + 1) % 1024)) = q) (hholds : s.holds p q = true)
    (hctx : s.ctx q = some c) (hcls : c.par.cls = 4) : Does (.calendarSlot p) s fun t =>
      t.get (F.SCH_SLOT_POINTER p) = (s.get (F.SCH_SLOT_POINTER p) + 1) % 1024 ∧
      assoc (t.sch p).ccred q = some (min 18760 ((assoc (s.sch p).ccred q).getD 0 + 1050)) ∧ t.outs = s.outs ∧
      RegsAgreeOff (fun a => a = A.SCH_SLOT p) s t := by
  refine ⟨_, (exec_calendarSlot hup hp hdrain hrate hlanes hslot).trans
    (congrArg Host.Outcome.next (slotBegin_grants hkind hindex hholds hctx hcls)), ?_, ?_, ?_, ?_⟩
  · rw [grantQueue_get, pointer_put]
  · rw [grantQueue_credit (by rwa [put_schs]), put_sch]
  · rw [State.grantQueue, schM_outs, put_outs]
  · exact regsAgreeOff_trans (regsAgreeOff_put _ rfl) (regsAgreeOff_of_regs_eq (schM_regs _ _ _))

theorem calendarSlot_idle (s : State) (p : Nat) (hup : s.up = true) (hp : p < 3) (hdrain : (s.sch p).draining = none)
    (hrate : s.get (F.ADT_STAT_RATE p) = 1) (hlanes : s.get (F.ADT_STAT_TXLANES p) = 3)
    (hslot : s.get (F.SCH_SLOT_SLOTPS p) = 168000)
    (hkind : s.get (F.SCH_CALA_KIND p ((s.get (F.SCH_SLOT_POINTER p) + 1) % 1024)) = 0) : Does (.calendarSlot p) s fun t =>
      t = s.put (F.SCH_SLOT_POINTER p) ((s.get (F.SCH_SLOT_POINTER p) + 1) % 1024) :=
  ⟨_, exec_calendarSlot hup hp hdrain hrate hlanes hslot, slotBegin_idle hkind⟩

/-! ### Shapers (R210) -/

/-- The tokens `l` with a shaper's gain at `k`. -/
def gainAt (k rate depth : Nat) (l : List (Nat × Int)) : List (Nat × Int) :=
  putBy (fun e => e.1 == k) (k, shaperGain rate depth ((assoc l k).getD 0)) l

/-- One queue's shaper gains tokens, its DEPTH as it stands in `s`. -/
def queueGain (s : State) (p : Nat) (u : State) (k : Nat) : State :=
  if u.get (F.SCH_SHPA0_RATE p k) = 0 then u
  else u.schM p fun c => { c with shTok := gainAt k (u.get (F.SCH_SHPA0_RATE p k)) (s.get (F.SCH_SHPA1_DEPTH p k)) c.shTok }

/-- One class's shaper gains tokens, its DEPTH as it stands in `s`. -/
def classGain (s : State) (p : Nat) (u : State) (k : Nat) : State :=
  if u.classRate p k = 0 then u
  else u.schM p fun c => { c with clTok := gainAt k (u.classRate p k) (s.get (F.SCH_CSHA1_DEPTH p k)) c.clTok }

/-- A microsecond of a port's shapers is that of some of its queues' shapers, then that of its classes', with the heads tagged anew. -/
theorem shaperTick_eq (s : State) (p : Nat) : ∃ l : List Nat,
    s.shaperTick p = ((List.range 8).foldl (classGain s p) (l.foldl (queueGain s p) s)).retag p := ⟨_, rfl⟩

/-- From `s` to `t` no part but the schedulers changes, and there are as many. -/
structure KeepsSchs (s t : State) : Prop where
  parts : Leaves [.schs] s t
  count : t.schs.length = s.schs.length

namespace KeepsSchs

variable {t : State}

theorem refl (s : State) : KeepsSchs s s := ⟨leaves_refl _ _, rfl⟩

theorem lt (h : KeepsSchs s t) (hp : p < s.schs.length) : p < t.schs.length := by rwa [h.count]

theorem schM {g : SchSt → SchSt} (h : KeepsSchs s t) : KeepsSchs s (t.schM p g) :=
  ⟨(leaves_schM (by simp)).2 h.parts, by simpa [State.schM] using h.count⟩

theorem ite {u : State} {c : Prop} [Decidable c] (h : KeepsSchs s t) (k : KeepsSchs s u) : KeepsSchs s (if c then t else u) := by
  split <;> assumption

theorem queueGain {r : State} {k : Nat} (h : KeepsSchs s t) : KeepsSchs s (queueGain r p t k) := h.ite h.schM

theorem classGain {r : State} {k : Nat} (h : KeepsSchs s t) : KeepsSchs s (classGain r p t k) := h.ite h.schM

theorem foldl {α : Type} {g : State → α → State} (h : KeepsSchs s t) (as : List α) (hg : ∀ u a, KeepsSchs s u → KeepsSchs s (g u a)) :
    KeepsSchs s (as.foldl g t) := List.foldlRecOn as g h fun u hu a _ => hg u a hu

theorem shaperTick (h : KeepsSchs s t) : KeepsSchs s (t.shaperTick p) :=
  ((h.foldl _ fun _ _ hu => hu.queueGain).foldl _ fun _ _ hu => hu.classGain).schM

theorem classRate (h : KeepsSchs s t) (p k : Nat) : t.classRate p k = s.classRate p k := by
  have hget : ∀ f, t.get f = s.get f := get_of_regs_eq (h.parts .regs (by decide))
  have hboot : t.boot = s.boot := h.parts .boot (by decide)
  simp only [State.classRate, hget, hboot]

end KeepsSchs

/-- The tokens of a class's shaper. -/
def classTok (p k : Nat) (s : State) : Option Int := assoc (s.sch p).clTok k

theorem schM_classTok {q k : Nat} {g : SchSt → SchSt} (hg : ∀ c, assoc (g c).clTok k = assoc c.clTok k) (hp : p < s.schs.length) :
    classTok p k (s.schM q g) = classTok p k s := by
  unfold classTok
  by_cases hq : q = p
  · rw [hq, sch_schM_same g hp, hg]
  · rw [sch_schM_other g hq]

theorem queueGain_classTok {r : State} {q j k : Nat} (hp : p < s.schs.length) :
    classTok p k (queueGain r q s j) = classTok p k s := by
  unfold queueGain
  split
  · rfl
  · exact schM_classTok (fun _ => rfl) hp

/-- A class's shaper gains nothing of another class, or of another port. -/
theorem classGain_other {r : State} {q j k : Nat} (hp : p < s.schs.length) (h : q ≠ p ∨ j ≠ k) :
    classTok p k (classGain r q s j) = classTok p k s := by
  unfold classGain
  split
  · rfl
  · rcases h with hq | hj
    · rw [classTok, sch_schM_other _ hq, classTok]
    · exact schM_classTok (fun _ => assoc_putBy_other _ _ hj) hp

theorem classGain_same {r : State} {k : Nat} (hp : p < s.schs.length) (hrate : s.classRate p k ≠ 0) :
    classTok p k (classGain r p s k) =
      some (shaperGain (s.classRate p k) (r.get (F.SCH_CSHA1_DEPTH p k)) ((classTok p k s).getD 0)) := by
  rw [classGain, if_neg hrate, classTok, sch_schM_same _ hp]
  exact assoc_putBy_same _ _ _

theorem retag_classTok {q k : Nat} (hp : p < s.schs.length) : classTok p k (s.retag q) = classTok p k s :=
  schM_classTok (fun _ => rfl) hp

/-- The queues' shapers keep the tokens of the classes'. -/
theorem queueGains_keep (s : State) {q k : Nat} (l : List Nat) (hp : p < s.schs.length) :
    KeepsSchs s (l.foldl (queueGain s q) s) ∧ classTok p k (l.foldl (queueGain s q) s) = classTok p k s :=
  List.foldlRecOn (motive := fun u => KeepsSchs s u ∧ classTok p k u = classTok p k s) l _ ⟨KeepsSchs.refl s, rfl⟩
    fun _ ⟨hu, htok⟩ _ _ => ⟨hu.queueGain, (queueGain_classTok (hu.lt hp)).trans htok⟩

theorem shaperTick_other {q k : Nat} (hp : p < s.schs.length) (hq : q ≠ p) : classTok p k (s.shaperTick q) = classTok p k s := by
  obtain ⟨l, htick⟩ := shaperTick_eq s q
  have hqueues := queueGains_keep s (q := q) (k := k) l hp
  obtain ⟨hkeeps, htok⟩ := List.foldlRecOn (motive := fun u => KeepsSchs s u ∧ classTok p k u = classTok p k s) (List.range 8) (classGain s q)
    hqueues fun _ ⟨hu, hkept⟩ _ _ => ⟨hu.classGain, (classGain_other (hu.lt hp) (.inl hq)).trans hkept⟩
  rw [htick, retag_classTok (hkeeps.lt hp), htok]

/-- In a microsecond a class's shaper gains its RATE once. -/
theorem shaperTick_gains {k : Nat} (hp : p < s.schs.length) (hk : k < 8) (hrate : s.classRate p k ≠ 0) :
    classTok p k (s.shaperTick p) =
      some (shaperGain (s.classRate p k) (s.get (F.SCH_CSHA1_DEPTH p k)) ((classTok p k s).getD 0)) := by
  obtain ⟨l, htick⟩ := shaperTick_eq s p
  obtain ⟨hqueues, htok⟩ := queueGains_keep s (q := p) (k := k) l hp
  have hclasses := hqueues.foldl (g := classGain s p) (List.range 8) fun _ _ hu => hu.classGain
  rw [htick, retag_classTok (hclasses.lt hp)]
  refine foldl_reaches_once (List.mem_range.2 hk) List.nodup_range (inv := KeepsSchs s) (φ := classTok p k)
    (fun _ _ hu => hu.classGain) (fun _ _ hj hu => classGain_other (hu.lt hp) (.inr hj)) (fun u hu hx => ?_) hqueues htok
  rw [classGain_same (hu.lt hp) (by rwa [hu.classRate]), hu.classRate, hx]

theorem shaperTick_class (s : State) (p k : Nat) (hup : s.up = true) (hp : p < 3) (hlen : p < s.schs.length) (hk : k < 8)
    (hrate : s.classRate p k ≠ 0) : Does (.shaperTick) s fun t =>
      assoc (t.sch p).clTok k = some (min ((assoc (s.sch p).clTok k).getD 0 + min 100000 (s.classRate p k)) (512 * max 16 (s.get
        (F.SCH_CSHA1_DEPTH p k)) : Nat)) ∧
      t.regs = s.regs ∧ t.outs = s.outs := by
  have hkeeps : KeepsSchs s ([0, 1, 2].foldl (fun t q => t.shaperTick q) s) := (KeepsSchs.refl s).foldl _ fun _ _ hu => hu.shaperTick
  refine ⟨_, congrArg Host.Outcome.next (whenUp_of hup _), ?_, hkeeps.parts .regs (by decide), (hkeeps.parts .outs (by decide)).1⟩
  refine (foldl_reaches_once (k := p) (by simp; omega) (by decide) (inv := KeepsSchs s) (φ := classTok p k) (fun _ _ hu => hu.shaperTick)
    (fun _ _ hq hu => shaperTick_other (hu.lt hlen) hq) (fun u hu hx => ?_) (KeepsSchs.refl s) rfl)
  rw [shaperTick_gains (hu.lt hlen) hk (by rwa [hu.classRate]), hu.classRate, hx, get_of_regs_eq (hu.parts .regs (by decide))]
  simp [shaperGain, shaperRate, shaperDepth, classTok]

/-! ### Meters (R212) -/

theorem meterTick_gains (s : State) (x : MeterSt) (hup : s.up = true) (hx : x ∈ s.meters) : Does (.meterTick) s fun t =>
    { m := x.m, c := min (x.c + min 100000 (s.meterCfg x.m).cir) (s.meterCfg x.m).cbs, p := min (x.p + min 100000 (s.meterCfg x.m).pir) (s.meterCfg x.m).pbs }
      ∈ t.meters ∧
    t.meters.length = s.meters.length ∧ t.regs = s.regs ∧ t.outs = s.outs :=
  ⟨_, congrArg Host.Outcome.next (whenUp_of hup _), List.mem_map_of_mem hx, List.length_map _, rfl, rfl⟩

/-! ### Epochs (R217, R224) -/

/-- Outside high-water mode no mark moves. -/
theorem highWater_of_sampling {q : Nat} (h : s.get (F.SCH_STAT_MODE p) = 0) : s.highWater p q = s := if_neg (by simp [h])

/-- With at most 256 active queues, a port that samples goes on to (R224). -/
theorem chooseMode_of_sampling (hmode : s.get (F.SCH_STAT_MODE p) = 0) (hfew : (s.sch p).activeQ.length ≤ 256) :
    s.chooseMode p = (s.put (F.SCH_STAT_ACTQ p) (s.sch p).activeQ.length).put (F.SCH_STAT_MODE p) 0 := by
  have hmarks : (s.sch p).queues.foldl (fun u q => u.highWater p q) s = s :=
    List.foldlRecOn (motive := fun t => t = s) _ _ rfl fun t ht _ _ => by rw [ht, highWater_of_sampling hmode]
  unfold State.chooseMode
  dsimp only
  rw [hmarks, if_pos hfew, if_pos hmode]

/-- A boundary with no commit staged starts the next epoch. -/
theorem epochAt_of_unstaged {b : Nat} (hstaged : ((s.chooseMode p).sch p).staged = none) (hmet : s.metStaged = none)
    (hp : p < (s.chooseMode p).schs.length) : s.epochAt p b = (s.chooseMode p).schM p fun c =>
      { c with activeQ := c.queues, missed := false, lastBound := b } := by
  have hmeters : s.metersDue p b = none := by simp [State.metersDue, hmet]
  unfold State.epochAt
  dsimp only
  rw [hmeters]
  dsimp only
  rw [sch_schM_same _ hp, hstaged]
  rfl

theorem epochBoundary_taken (s : State) (p : Nat) (hup : s.up = true) (hp : p < 3) (hlen : p < s.schs.length)
    (hcore : s.coreClocked = true) (hnew : (s.sch p).lastBound < s.now / s.epochNs p * s.epochNs p) (hstaged : (s.sch p).staged = none)
    (hmet : s.metStaged = none) (hmode : s.get (F.SCH_STAT_MODE p) = 0) (hfew : (s.sch p).activeQ.length ≤ 256) :
    Does (.epochBoundary p) s fun t =>
      (t.sch p).lastBound = s.now / s.epochNs p * s.epochNs p ∧ (t.sch p).activeQ = (s.sch p).queues ∧
      t.get (F.SCH_STAT_ACTQ p) = (s.sch p).activeQ.length ∧ t.outs = s.outs ∧ RegsAgreeOff (fun a => a = A.SCH_STAT p) s t := by
  have hmodes := chooseMode_of_sampling hmode hfew
  have hschs : (s.chooseMode p).schs = s.schs := by rw [hmodes, put_schs, put_schs]
  have hsch : (s.chooseMode p).sch p = s.sch p := by rw [State.sch, hschs, State.sch]
  have hlen' : p < (s.chooseMode p).schs.length := by rwa [hschs]
  have htaken : s.epoch p = s.epochAt p (s.now / s.epochNs p * s.epochNs p) := if_pos hnew
  refine ⟨_, congrArg Host.Outcome.next ((whenUp_of hup _).trans ((if_pos ⟨hp, hcore⟩).trans
    (htaken.trans (epochAt_of_unstaged (by rwa [hsch]) hmet hlen')))), ?_, ?_, ?_, ?_, ?_⟩
  · rw [sch_schM_same _ hlen']
  · rw [sch_schM_same _ hlen', hsch]
  · rw [schM_get, hmodes, get_put_other _ _ (by simp [F.SCH_STAT_MODE]) (.inr (by simp [F.SCH_STAT_MODE, F.SCH_STAT_ACTQ])),
      get_put_same _ _ (by simp [F.SCH_STAT_ACTQ])]
    exact Nat.mod_eq_of_lt (lt_of_le_of_lt hfew (by simp [F.SCH_STAT_ACTQ]))
  · rw [schM_outs, hmodes, put_outs, put_outs]
  · have hstat : RegsAgreeOff (fun a => a = A.SCH_STAT p) s (s.chooseMode p) := by
      rw [hmodes]
      exact regsAgreeOff_trans (regsAgreeOff_put _ rfl) (regsAgreeOff_put (f := F.SCH_STAT_MODE p) _ rfl)
    exact regsAgreeOff_trans hstat (regsAgreeOff_of_regs_eq (schM_regs _ _ _))

/-- A boundary that has been taken is not taken again. -/
theorem epochBoundary_once (s : State) (p : Nat) (hup : s.up = true) (_hp : p < 3)
    (hold : s.now / s.epochNs p * s.epochNs p ≤ (s.sch p).lastBound) : exec (.epochBoundary p) s = .next s := by
  have hstays : s.epoch p = s := if_neg (Nat.not_lt.2 hold)
  refine congrArg Host.Outcome.next ((whenUp_of hup _).trans ?_)
  rw [hstays, ite_self]

/-- Settles O18, clause by clause. -/
theorem clockedRows : Obligations.ClockedRows :=
  ⟨calendarSlot_grants, calendarSlot_idle, shaperTick_class, meterTick_gains, epochBoundary_taken, epochBoundary_once⟩

end Sys2Proof.Proofs
end

section
/-! SUPPORT. The refutation of O19: a swap that completes a command on a ring past the ring table moves its port's own count. -/

namespace Sys2Proof.Proofs

open Sys2Proof.Machine Sys2Proof.Laws

theorem exec_commitSwap {s : State} {p : Nat} (hup : s.up = true) (hp : p < 3) : exec (.commitSwap p) s = .next (s.swap p) :=
  congrArg Host.Outcome.next ((whenUp_of hup _).trans (if_pos hp))

/-- A commit of a command whose completion ring is number 0x9F01. Its configuration and index words would lie at SCH0_OBSCFG and
SCH0_COMMITS: the ring table ends with ring 255, but a ticket bears any number. -/
def strayCommit : CommitReq :=
  { group := 0
    reply := .host { serial := 0, pair := 0x9F01, ring := 0, idx := 0, tag := 0, opcode := 0x20, req := none, dst := 0, own := true }
    todo := 1
    last := 0 }

/-- Port 0 drains, empty, for that commit. As a ring's configuration SCH0_OBSCFG would name a completion ring of two entries. -/
def strayDrain : State :=
  { State.reset with
    boot := { BootSt.reset with held := false }
    schs := [{ SchSt.reset with
      staged := some { at_ := some 0, late := none, group := 0, cart := none }
      draining := some { t0 := 0, met := none, slots := 0 } }, SchSt.reset, SchSt.reset]
    commits := [strayCommit] }
  |>.put (F.SCH_OBSCFG_INTERVAL 0) 0x102

/-- The swap counts one commit, and its completion one entry in the same word. -/
theorem strayDrain_counts_twice : (strayDrain.swap 0).get (F.SCH_COMMITS 0) = 2 := by decide +kernel

/-- Refutes O19: the clause of the swap says that SCHn_COMMITS rises by one, whatever command waits for the commit. It does not bound the
completion ring that the command's ticket names, and the completion on a ring past the ring table moves an index word outside it (R89): here
the count itself, which rises by two. -/
theorem not_commitObservationRows : ¬ Obligations.CommitObservationRows := by
  unfold Obligations.CommitObservationRows
  rintro ⟨-, -, hswap, -⟩
  obtain ⟨t, hx, -, -, -, -, hcount, -⟩ := hswap strayDrain 0 { t0 := 0, met := none, slots := 0 }
    { at_ := some 0, late := none, group := 0, cart := none } (by decide) (by decide) (by decide) (by decide) (by decide)
  rw [exec_commitSwap (by decide) (by decide)] at hx
  injection hx with hx
  rw [← hx, strayDrain_counts_twice] at hcount
  exact absurd hcount (by decide)

end Sys2Proof.Proofs
end

section
/-! SUPPORT. The refutation of O20: bytes read ahead that exceed Max_Payload_Size complete a host's read in more than one TLP. -/

namespace Sys2Proof.Proofs

open Sys2Proof.Machine Sys2Proof.Laws

theorem exec_pcieTlpReceive_of_host {s : State} {bytes : List (BitVec 8)} (hrun : s.serdesUp = true) (hhost : s.isHost = true)
    (hkept : tlpDropped (tlpHeader bytes) = false) : exec (.pcieTlpReceive 4 bytes) s = .next (s.hostTlp bytes) :=
  congrArg Host.Outcome.next ((whenSerdes_of hrun _).trans ((if_neg (by simp [hkept])).trans (if_pos ⟨rfl, hhost⟩)))

/-- A memory read of 256 bytes at 0x100000. -/
def wideRead : List (BitVec 8) := [0x00, 0, 0, 64, 1, 0, 7, 0xFF, 0x00, 0x10, 0x00, 0x00]

/-- The leader's end A of a bundle from slot 0 of FID 1 to port 0 of a dock at FID 5. -/
def slotEnd : TunCtx :=
  { newCtx 0 1 { tid := 9, typ := 0, cls := 1, enc := false, men := false, policy := 0, fport := 0, aFid := 1, bFid := 5, epA := 4096, epB := 4096,
                 meter := 0xFFFF, shaper := 0xFFFF, bundle := 0, grant := 0, dOut := 0, dIn := 0, cookie := 0, own := 1 } none with
    state := 2 }

/-- The 256 bytes that `wideRead` asks for, read ahead for slot 0. -/
def wideBuf : RaBuf := { slot := 0, addr := 0x100000, bytes := List.replicate 256 (some 0), at_ := 0 }

/-- A host bridge of the full personality that holds `wideBuf`; the address lies in the prefetchable window of slot 0, and
Max_Payload_Size is 128 bytes, as after reset. -/
def readAheadHost : State :=
  { State.reset with
    boot := { BootSt.reset with held := false, pers := 2 }
    tun := { TunSt.reset with ctxs := [slotEnd] }
    pcx := { PcxSt.reset with
      slots := { SlotSt.reset with prefBase := 0x100000, prefLim := 0x1FFFFF } :: List.replicate 15 SlotSt.reset
      cfg := [(4 * 4096 + 4, 2), (5 * 4096 + 4, 2)]
      bufs := [wideBuf] } }

/-- The read is completed by two TLPs of 128 bytes. -/
theorem readAheadHost_completes_twice : (readAheadHost.hostTlp wideRead).outs.length = 2 := by decide +kernel

/-- Refutes O20: the clause of a host read that a buffer holds says that one completion with all its bytes goes out, but a completion carries
Max_Payload_Size at most, which the clause does not bring in: 256 bytes held at 128 bytes a TLP go out as two. -/
theorem not_tlpRows : ¬ Obligations.TlpRows := by
  unfold Obligations.TlpRows
  rintro ⟨-, -, hread, -⟩
  obtain ⟨t, hx, -, -, houts⟩ := hread readAheadHost slotEnd wideRead wideBuf (by decide) (by decide) (by decide) (by decide) (by decide)
    (by decide +kernel) (by decide +kernel) (by decide)
  rw [exec_pcieTlpReceive_of_host (by decide) (by decide) (by decide)] at hx
  injection hx with hx
  have htwo : t.outs.length = 2 := hx ▸ readAheadHost_completes_twice
  have hone : t.outs.length = 1 := congrArg List.length houts
  omega

end Sys2Proof.Proofs
end

section
/-! SUPPORT. The refutation of O21: the time-out of a hot-plug move with no old host bridge sends nothing to one. -/

namespace Sys2Proof.Proofs

open Sys2Proof.Machine Sys2Proof.Laws

theorem exec_hotplugTmoExpiry {s : State} {h : HotPlug} (hup : s.up = true) (hhp : s.pcx.hp = [h]) (hstep : h.step = 1)
    (hcode : h.code = none) : exec .hotplugTmoExpiry s = .next (s.hotDone h 0x06 0 0).hotPoll := by
  refine congrArg Host.Outcome.next ((whenUp_of hup _).trans ?_)
  simp only [hhp]
  exact if_pos ⟨hstep, by rw [hcode]; rfl⟩

/-- A removal that waits in step 1 with no old host bridge: its FID is 0. -/
def hostlessMove : HotPlug :=
  { ticket := { serial := 0, pair := 1, ring := 0, idx := 0, tag := 0, opcode := 0x28, req := none, dst := 0, own := true }
    dock := 5, port := 0, toFid := 0, toSlot := 0, force := false, tmo := 10, ans := [], step := 1, req := 0, code := none, res := 0, tid := 9,
    oldFid := 0, oldSlot := 0, freed := 0 }

/-- A host bridge at FID 1 that runs that removal, with room on completion ring 1. -/
def hostlessMover : State :=
  { State.reset with
    boot := { BootSt.reset with held := false }
    pcx := { PcxSt.reset with hp := [hostlessMove] } }
  |>.put F.FAB_ID_FID 1 |>.wr (A.GLB_RCFG 1) 0x402

/-- The time-out completes the removal, and no control leaves for FID 0. -/
theorem hostlessMover_tells_nobody :
    Out.msg (.fid 0) (.portCtl 0 0 9 0) ∉ (hostlessMover.hotDone hostlessMove 0x06 0 0).hotPoll.outs := by decide +kernel

/-- Refutes O21: the clause of the time-out says that a control leaves for the FID the move has as its old host bridge, whatever it is but this
device's own. It does not ask that the move has one: FID 0 stands for none, and no control goes to it. -/
theorem not_hotPlugSidebandRows : ¬ Obligations.HotPlugSidebandRows := by
  unfold Obligations.HotPlugSidebandRows
  rintro ⟨-, -, -, htmo, -⟩
  obtain ⟨t, hx, -, hsent, -⟩ := htmo hostlessMover hostlessMove (by decide) rfl rfl rfl (by decide) (by decide)
  rw [exec_hotplugTmoExpiry (h := hostlessMove) (by decide) rfl rfl rfl] at hx
  injection hx with hx
  exact hostlessMover_tells_nobody (hx ▸ List.mem_of_mem_drop hsent.2)

end Sys2Proof.Proofs
end

section
/-! SUPPORT. The refutation of O22: a frame start skips the tiles of a band that still wait, and the skip is an event. -/

namespace Sys2Proof.Proofs

open Sys2Proof.Machine Sys2Proof.Laws

/-- A frame start sends what its skip of waiting tiles sends (R262), and nothing else. -/
theorem exec_captureFrameStart_outs {s : State} {k : Nat} (enc : Bool) (period : Nat) (hrun : s.serdesUp = true) (hk : k < 2)
    (hhost : s.isHost = true) (htrained : s.bit (F.DSC_IN_STAT_TRAINED k) = true) (hvideo : s.bit (F.DSC_IN_STAT_VIDEO k) = true) :
    ∃ t, exec (.captureFrameStart k enc period) s = .next t ∧ t.outs = (s.skipTiles k (s.src k).band).outs :=
  ⟨_, congrArg Host.Outcome.next ((whenSerdes_of hrun _).trans (if_neg (by simp [hk, hhost, htrained, hvideo]))), rfl⟩

/-- A tile of band 0 of frame 5, of which no fragment has been admitted. -/
def waitingTile : SrcItem := .tile 0 (some 0) 0 5 false (fragments 0 5 0 0 0 0 [0])

/-- A host bridge whose input 0 shows video, with two bands of a frame captured and a tile of the first still waiting. Ring 2 is an event
ring, and the input's events, unmasked, are recorded on it. -/
def lateInput : State :=
  { State.reset with
    boot := { BootSt.reset with held := false }
    srcs := { SrcSt.reset with items := [waitingTile], band := 2 } :: List.replicate 5 SrcSt.reset }
  |>.put (F.DSC_IN_STAT_TRAINED 0) 1 |>.put (F.DSC_IN_STAT_VIDEO 0) 1 |>.put (F.GLB_RCFG_TYPE 2) 3 |>.put (F.EVT_GMAP_RING 47) 2
  |>.put (F.EVT_GMAP_EN 47) 1 |>.put (F.EVT_MASK_MASK 11) 0

/-- The tile is skipped, and the tile-skip event is written to the ring. -/
theorem lateInput_records_skip : (lateInput.skipTiles 0 (lateInput.src 0).band).outs ≠ lateInput.outs := by decide +kernel

/-- Refutes O22: the clause of CAPTURE_FRAME_START says that nothing is sent, whatever waits at the input. But a frame start begins the capture
of the band two after one whose tiles may still wait: those are skipped (R262), and the record of that event leaves for its ring. -/
theorem not_inputRows : ¬ Obligations.InputRows := by
  unfold Obligations.InputRows
  rintro ⟨-, -, -, -, hstart, -⟩
  obtain ⟨t, hx, -, -, -, -, -, -, hsilent⟩ := hstart lateInput 0 16666667 false (by decide) (by decide) (by decide) (by decide)
    (by decide) (by decide) (by decide) (by decide) (by decide)
  obtain ⟨u, hu, hskip⟩ := exec_captureFrameStart_outs (s := lateInput) (k := 0) false 16666667 (by decide) (by decide) (by decide)
    (by decide) (by decide)
  rw [hx] at hu
  injection hu with hu
  exact lateInput_records_skip (by rw [← hskip, ← hu, hsilent])

end Sys2Proof.Proofs
end

section
/-! SUPPORT. The refutation of O23: what waits at a source stays where another ring's frame stands first at its end. -/

namespace Sys2Proof.Proofs

open Sys2Proof.Machine Sys2Proof.Laws

theorem exec_tileAdmission {s : State} {k : Nat} (hrun : s.serdesUp = true) (hk : k < 6) :
    exec (.tileAdmission k) s = .next (s.pumpAll k) :=
  congrArg Host.Outcome.next ((whenSerdes_of hrun _).trans (if_pos hk))

/-- A frame that its ring offers behind another waits, and changes nothing (R213). -/
theorem offerRing_of_behind {s : State} {ring ep typ len : Nat} {c : TunCtx} (yellow : Bool) (hend : s.endAt ep typ = some c)
    (hopen : c.state ≠ 4) (hlen : len ≤ lenMax c.par.cls) (hbehind : c.behind (some ring) = true) :
    s.offerRing ring ep typ len yellow = (s, 1) := by
  unfold State.offerRing
  rw [hend]
  dsimp only
  rw [if_neg hopen, if_neg (by omega), if_pos hbehind]

/-- A record at the head of a source's queue stays there while another ring's frame stands first at the source's end. -/
theorem pumpAll_of_behind {s : State} {k : Nat} {b : List (BitVec 8)} {rest : List SrcItem} {c : TunCtx}
    (hitems : (s.src k).items = .record b :: rest) (hend : s.srcEnd k = some c) (hopen : c.state ≠ 4)
    (hlen : b.length ≤ lenMax c.par.cls) (hbehind : c.behind (some 0) = true) : s.pumpAll k = s := by
  have hclear : (s.src k).headProt = false := by simp [SrcSt.headProt, hitems]
  unfold State.pumpAll State.pump
  simp [hitems, SrcSt.headFrame, hclear, offerRing_of_behind false hend hopen hlen hbehind]

/-- The DISPLAY end of input 0, from FID 1 to output 0 of FID 5 by port 0. It is open and holds nothing back, but the frame that stands first
is one that ring 1 offers. -/
def takenEnd : TunCtx :=
  { newCtx 0 1 { tid := 9, typ := 4, cls := 4, enc := false, men := false, policy := 2, fport := 0, aFid := 1, bFid := 5, epA := 0x2000, epB := 0x3000,
                 meter := 0xFFFF, shaper := 0xFFFF, bundle := 0, grant := 0, dOut := 0, dIn := 0, cookie := 0, own := 1 } none with
    state := 2
    first := { Offer.idle with ring := some 1, pend := true } }

/-- A host bridge at FID 1 with port 0 Lit toward FID 5, and a record that waits at input 0. -/
def outrunSource : State :=
  { State.reset with
    boot := { BootSt.reset with held := false }
    ports := [{ PortSt.reset with inRoute := true }, PortSt.reset, PortSt.reset]
    links := [{ LinkSt.reset with classes := 255 }, LinkSt.reset, LinkSt.reset]
    fab := { FabSt.reset with neigh := [(0, { uid := 5, fid := 5, src := 2, role := 1, port := 0, rstCnt := 0 })] }
    srcs := { SrcSt.reset with items := [.record [1, 2, 3, 4]] } :: List.replicate 5 SrcSt.reset
    tun := { TunSt.reset with ctxs := [takenEnd] } }
  |>.put F.FAB_ID_FID 1 |>.put (F.ADT_STAT_STATE 0) 5

/-- Refutes O23: the clause of TILE_ADMISSION says that a record which waits at a source is admitted by an end with room, but its conditions
leave open which frame stands first there. While that is a frame of another ring, the source's own waits (R213). -/
theorem not_pushSourceRows : ¬ Obligations.PushSourceRows := by
  unfold Obligations.PushSourceRows
  rintro ⟨-, -, -, hadmit, -⟩
  obtain ⟨t, hx, hgone, -⟩ := hadmit outrunSource 0 0 [1, 2, 3, 4] takenEnd (by decide) (by decide) (by decide) (by decide) (by decide)
    (by decide) (by decide +kernel)
  rw [exec_tileAdmission (by decide) (by decide),
    pumpAll_of_behind (b := [1, 2, 3, 4]) (rest := []) (c := takenEnd) (by decide) (by decide) (by decide) (by decide) (by decide)] at hx
  injection hx with hx
  rw [← hx] at hgone
  exact absurd hgone (by decide)

end Sys2Proof.Proofs
end

section
/-! SUPPORT. The refutation of O24: a tile that arrives while a DRAM rail is low is not kept in the frame store. -/

namespace Sys2Proof.Proofs

open Sys2Proof.Machine Sys2Proof.Laws

theorem exec_tileFragmentReceive {s : State} (tid : Nat) (b : List (BitVec 8)) (last : Bool) (hrun : s.serdesUp = true) :
    exec (.tileFragmentReceive tid b last) s = .next (s.outFrame tid 0x0D b last) :=
  congrArg Host.Outcome.next (whenSerdes_of hrun _)

/-- The DISPLAY end of output 0 of FID 1, for a source at FID 5. -/
def tileEnd : TunCtx :=
  { newCtx 0 2 { tid := 9, typ := 4, cls := 4, enc := false, men := false, policy := 2, fport := 0, aFid := 5, bFid := 1, epA := 0x2000, epB := 0x3000,
                 meter := 0xFFFF, shaper := 0xFFFF, bundle := 0, grant := 0, dOut := 0, dIn := 0, cookie := 0, own := 1 } none with state := 2 }

/-- The data of a tile of one pixel: a line record that repeats the word 0x123456. -/
def pixelData : List (BitVec 8) := leBytes 4 0x40003 ++ leBytes 4 0x123456

/-- That tile, the first of source frame 7, as its only fragment. -/
def pixelFragment : List (BitVec 8) := fragHeader 0 0 1 7 0 0 0 0 ++ pixelData

/-- A relay whose output 0 has two buffers and takes pictures of one pixel; buffer 1 is presented. The SerDes rails stand and DRAM rail 5 is below its
reset level: MEM is in reset (R43), DISP is not. Nothing is stored. -/
def memLost : State :=
  { State.reset with
    boot := { BootSt.reset with held := false, railsLow := [5] }
    tun := { TunSt.reset with ctxs := [tileEnd] }
    dispOuts :=
      { OutSt.reset with mode := { PicMode.reset with w := 1, h := 1 }, p := [(0, { buf := 1, prot := false })] } :: List.replicate 3 OutSt.reset }
  |>.put F.GLB_STRAP_ROLE 2 |>.put (F.DSO_OUT_CTRL_BUFS 0) 0

/-- The tile leaves the frame store empty. -/
theorem memLost_stores_nothing : (memLost.outFrame 9 0x0D pixelFragment true).store.slots = [] := by decide +kernel

/-- Refutes O24: its first clause says that a whole tile that comes to its output is in the frame store, with no condition on the DRAM's
supply. While a DRAM rail is low MEM is in reset (R43), though the output still takes tiles, and the store keeps nothing. -/
theorem not_outputRecordRows : ¬ Obligations.OutputRecordRows := by
  unfold Obligations.OutputRecordRows
  rintro ⟨htile, -⟩
  obtain ⟨t, hx, -, hstored, -⟩ := htile memLost 9 0 0 pixelFragment [[0x123456]] tileEnd (by decide) (by decide) (by decide) (by decide)
    (by decide) (by decide) (by decide) (by decide) (by decide) (by decide) (by decide) (by decide) (by decide) (by decide)
    (by decide +kernel) (by decide +kernel)
  rw [exec_tileFragmentReceive _ _ _ (by decide)] at hx
  injection hx with hx
  rw [← hx, memLost_stores_nothing] at hstored
  exact absurd hstored (by simp [assoc])

end Sys2Proof.Proofs
end

section
/-! SUPPORT. The refutation of O25: a flip to a picture that the monitor's link cannot carry is refused at its boundary. -/

namespace Sys2Proof.Proofs

open Sys2Proof.Machine Sys2Proof.Laws

/-- A boundary of an enabled output that runs by its own pixel clock: the frame is over, and a due flip is taken. -/
theorem exec_frameBoundary {s : State} {k : Nat} (dry : List (Nat × Nat)) (timing : Option OutTiming) (hrun : s.serdesUp = true)
    (houts : s.hasOuts = true) (hk : k < 4) (hawake : s.asleep = false) (hdue : s.genDue k = true) (hen : s.bit (F.DSO_OUT_CTRL_EN k) = true) :
    exec (.frameBoundary k dry timing) s = .next ((s.frameDone k dry).takeFlip k timing).flushAllWaiting := by
  refine congrArg Host.Outcome.next ((whenSerdes_of hrun _).trans ((if_neg ?_).trans ?_))
  · simp [houts, hk, hawake, hdue]
  · rw [if_pos hen]

/-- A monitor that has trained one lane at RBR, which carries 1.296 Gbit/s. -/
def slowMonitor : Monitor := { caps := [], edid := [], rate := 0, lanes := 1, su := false, hdcp := none }

/-- A complete frame of one tile. -/
def oneTile : List (Nat × MapTile) := [(0, { buf := 0, prot := false })]

/-- A relay whose output 0 is enabled at 148.5 MHz and 10 bpc, 4.455 Gbit/s, when a monitor attached that cannot carry it (STATE is ERROR).
Its timing is firmware's (AUTOTIM), it shows nothing yet, and its source's first frame waits for the boundary. -/
def overrunOutput : State :=
  { State.reset with
    boot := { BootSt.reset with held := false }
    dispOuts :=
      { OutSt.reset with q := some oneTile, qMode := { PicMode.reset with w := 64, h := 64 }, monitor := some slowMonitor, noLink := true } ::
        List.replicate 3 OutSt.reset }
  |>.put F.GLB_STRAP_ROLE 2 |>.put (F.DSO_OUT_CTRL_EN 0) 1 |>.put (F.DSO_OUT_STAT_STATE 0) 5 |>.put (F.DSO_OUT_PCLK_KHZ 0) 148500
  |>.put (F.DSO_OUT_H_TOTAL 0) 2200 |>.put (F.DSO_OUT_V_TOTAL 0) 1125

/-- The boundary leaves the output's presented map empty: the mode of Q is refused. -/
theorem overrunOutput_keeps_p : (((overrunOutput.frameDone 0 []).takeFlip 0 none).flushAllWaiting.dout 0).p = [] := by decide +kernel

/-- Refutes O25: the clause of FRAME_BOUNDARY says that Q is shown, whatever Q's mode is. But where AUTOTIM is 1 and Q is of a new mode, the flip
retimes the output, and a timing that R296 forbids refuses the mode: Q goes, P stays (R293). -/
theorem not_outputRows : ¬ Obligations.OutputRows := by
  unfold Obligations.OutputRows
  rintro ⟨hboundary, -⟩
  obtain ⟨t, hx, hshown, -⟩ := hboundary overrunOutput 0 oneTile (by decide) (by decide) (by decide) (by decide) (by decide) (by decide)
    (by decide) (by decide) (by decide) (by decide) (by decide)
  rw [exec_frameBoundary _ _ (by decide) (by decide) (by decide) (by decide) (by decide) (by decide)] at hx
  injection hx with hx
  rw [← hx, overrunOutput_keeps_p] at hshown
  exact absurd hshown (by decide)

end Sys2Proof.Proofs
end
